-- ==== Sys2Proof/Word.lean ====
section
/-!
DEFINITION. The word types of the KM-7720 host window and messages (03_host_window R67, 00_scope R7).
-/

namespace Sys2Proof

/-- One byte of the host window, of a message or of a record. -/
abbrev Byte := BitVec 8

/-- One 32-bit word of the host window (R67). -/
abbrev Word := BitVec 32

end Sys2Proof
end

