-- ==== Sys2Proof/Syntax.lean ====
section
/-!
DEFINITION. The commands of the KM-7720, modelled as a block: one constructor of `Instr` for each row of
spec/opcode_table.json. A row of the Arras Command Set (R109, R110) carries its owner, its TAG and its raw
argument bytes (R471); every other row carries what its happening brings from outside the block.
-/

namespace Sys2Proof

/-- The two processing lanes (R12). -/
inductive Lane where
  | a | b
  deriving DecidableEq, Repr

/-- The two main crystals (R18). -/
inductive Xtal where
  | xa | xb
  deriving DecidableEq, Repr

/-- The two host ports (R67). -/
inductive Port where
  | hspi | huart
  deriving DecidableEq, Repr

/-- The owner of a command (R106): the host, or the head-end through one of its associations. -/
inductive Owner where
  | host
  | headEnd (assoc : Nat)
  deriving DecidableEq, Repr

/-- The two AC metering sides (R158). -/
inductive Side where
  | grid | outlet
  deriving DecidableEq, Repr

/-- The three metered sides of the event and gap tables (R163, R195). -/
inductive MeterSide where
  | grid | outlet | dc
  deriving DecidableEq, Repr

/-- The pilot states that plateaus decode to (R240). -/
inductive PilotSt where
  | a | b | c | d | e | f | invalid
  deriving DecidableEq, Repr

/-- The vehicle protocols (R246). -/
inductive Proto where
  | din | iso2 | iso20
  deriving DecidableEq, Repr

/-- The causes of a self-detected lane fault (R26 rule 1, R37). -/
inductive SelfFault where
  | residue | sram | mramReadback | pllUnlock | rail | coreException
  deriving DecidableEq, Repr

/-- The deadlines whose miss a lane reports against itself (R21). -/
inductive DeadlineSlot where
  | compare | delta | output
  deriving DecidableEq, Repr

/-- What the dispute recompute shows (R26 rule 3): the lane whose block it confirms, or nothing.
For one remaining lane (R477), `confirms` of that lane says that its block stands. -/
inductive Recompute where
  | confirms (l : Lane)
  | unresolved
  deriving DecidableEq, Repr

/-- How a job ends (R91). -/
inductive JobEnd where
  | done | failed (result : Nat) | cancelled
  deriving DecidableEq, Repr

/-- The causes of VPLC_LINK_LOST (R245). -/
inductive LinkLoss where
  | beacon | tcp | loop
  deriving DecidableEq, Repr

/-- The outcome of the Plug and Charge checks that the crypto engine makes (R248). -/
inductive PncCheck where
  | externalId | chainOk | chainBad | validityBad
  deriving DecidableEq, Repr

/-- The tiers of path M (R278). -/
inductive ResTier where
  | dcLow | dcMedium | dcHigh | ac
  deriving DecidableEq, Repr

/-- What SERGE measures at a proof of one quad switch (R282). Off-pulse: currents in mA of the switch and of its partner 150 µs
into the pulse, of the coil before it, and of both switches 100 µs after it. On-pulse: the coil current, and the switch's output
read-back while it is on and while it is off. -/
structure ProofMeas where
  pulsed : Nat
  partner : Nat
  before : Nat
  afterPulsed : Nat
  afterPartner : Nat
  coil : Nat
  readOn : Bool
  readOff : Bool
  deriving DecidableEq, Repr

/-- The channels of the dual-channel safety inputs (R286). -/
inductive SafeIn where
  | estopA | estopB | doorA | doorB
  deriving DecidableEq, Repr

/-- Where a collapse of the reader's field cuts a staged write (R383). -/
inductive CollapsePoint where
  | receive | check | stagingWrite | commitOld | commitNew | acknowledge
  deriving DecidableEq, Repr

/-- The causes of UPDATE_REVERTED (R435). -/
inductive RevertCause where
  | deadline | stepFailed | stopBefore
  deriving DecidableEq, Repr

/-- What one load-switch channel's stage circuits show in a frame (R312, R336): mean current in mA, junction
in 0.01 °C, output voltage in mV, and whether the current limit acted. -/
structure HswIn where
  current : Nat
  tj : Int
  vout : Nat
  ilim : Bool
  /-- The output with the pull-up current removed, for the test of a short to VAUX (R321). -/
  voutBare : Nat
  deriving DecidableEq, Repr

/-- Everything a frame takes from outside (R19): what the lanes read at 0 to 2 µs, and the physical outcomes of
the frame that no rule of the manual decides. -/
structure FrameIn where
  /-- The 512 modulator bits of the frame of each of the 18 main channels (R126), oldest bit lowest. -/
  bits : List (BitVec 512)
  /-- Channels whose overload detector tripped in the frame (R127). -/
  overload : BitVec 18
  /-- RTC periods of 2⁻¹⁵ s since the previous tick (R206). -/
  rtcAdvance : Nat
  /-- VSYS and VHOLD at the tick, mV (R50, R64). -/
  vsys : Nat
  vhold : Nat
  /-- The battery domain's supply switches find a backup cell at or above 2.0 V (R50). -/
  cellHeld : Bool
  /-- Raw levels at the tick as SERGE samples them, an input held as it was while a test pulse blanks it (R287): bits 0 to 6
  ESTOP_A, ESTOP_B, DOOR_A, DOOR_B, MC1, MC2, LK_FB (R286, R329). -/
  levels : BitVec 7
  /-- The fluxgate drive current is inside its window (R277). -/
  fluxgateOk : Bool
  /-- The eight load-switch channels (R312). -/
  hsw : List HswIn
  /-- VAUX in mV and the total VAUX current in mA (R324, R326). -/
  vaux : Nat
  vauxI : Nat
  /-- Lock bridge current and the two coil currents, mA (R329, R332). -/
  lockI : Nat
  coilI1 : Nat
  coilI2 : Nat
  /-- The compare engine found the two compare blocks equal (R19, R24). -/
  compareOk : Bool
  /-- Output requests that differ: bit 0 contactor quads, 1 DC enables, 2 pilot forced F (R25). -/
  outDiffer : BitVec 3
  /-- The sync requests that the lanes write in the frame differ (R135). -/
  syncDiffer : Bool
  /-- The lead's delta of the frame carries its commit marker (R30). -/
  marker : Bool
  /-- The read-back of the delta record and checkpoint passed on array A and on array B (R190). -/
  readbackA : Bool
  readbackB : Bool
  /-- The sequence word of the host half was the same before and after the copy (R97). -/
  stageStable : Bool
  /-- ECC corrections counted in the frame: MRAM, mirror memory, flash (R183, R36, R460). -/
  mramCorrected : Nat
  mirrorCorrected : Nat
  flashCorrected : Nat
  /-- Records in whose stored signature the flash gave an uncorrectable word (R12). -/
  flashBad : List Nat
  /-- Host writes the release engine met in the same cycle are performed later; the follow's discarded
  writes of the frame, to the window and to the load-switch stage (R28, R312). -/
  followWrites : Nat
  /-- The smallest slot margin of the frame in ns (R36). -/
  slotMargin : Nat
  deriving DecidableEq, Repr

/-- A record of an array that recovery cannot use (R183, R190, R191): a word of it is uncorrectable or its CHECK is wrong.
A checkpoint is named by its SEQ, a delta record by its FRAME. -/
structure BadRecord where
  lane : Lane
  ckpt : Bool
  number : Nat
  deriving DecidableEq, Repr

/-- What a start-up finds (R57, R58, R191): the results of the checks that run before frame m. -/
structure StartIn where
  /-- Lane A and lane B pass their start-up self-test and boot checks. -/
  laneAOk : Bool
  laneBOk : Bool
  /-- The manifest signature and the frame-part digests are good in at least one lane. -/
  frameImageOk : Bool
  /-- The digests of the protocol section of LANE, of NBPL, BBPL and NFCR. -/
  laneProtoOk : Bool
  nbplOk : Bool
  bbplOk : Bool
  nfcrOk : Bool
  /-- XA and XB run within 1 % of SERGE's oscillators (R476). -/
  xaOk : Bool
  xbOk : Bool
  /-- The arrays that answer (R191). -/
  arrayAOk : Bool
  arrayBOk : Bool
  /-- Records of the arrays that recovery cannot use (R183, R190, R191). -/
  badRecords : List BadRecord
  /-- Capacitance measured, µF, and VHOLD level, mV (R51). -/
  capUf : Nat
  vhold : Nat
  /-- RTC periods of 2⁻¹⁵ s since the last tick, and ms from VSYS valid to frame m (R195, R206). -/
  rtcAdvance : Nat
  startMs : Nat
  /-- Modulators whose start-up reference conversion failed (R127). -/
  badRefs : BitVec 18
  /-- Identity certificate: its signature verifies and its keys equal those of slots 0 and 2 (R401). -/
  identityOk : Bool
  /-- Key slots whose integrity tag fails (R395). -/
  badSlots : BitVec 16
  /-- Copies of the security counters with a good check: vault, MRAM A, MRAM B (R414). -/
  vaultCountersOk : Bool
  /-- The lock feedback shows locked (R63). -/
  lkFb : Bool
  deriving DecidableEq, Repr

/-- One plateau report of the pilot sampler (R143, R144). -/
structure Plateau where
  /-- The plateau that completed: positive, or negative; none where the report brings a reference alone. -/
  side : Option Bool
  /-- The three conversions, mV; none when the sampler made none. -/
  conv : Option (Int × Int × Int)
  /-- A reference conversion of this period, mV. -/
  refMv : Option Int
  deriving DecidableEq, Repr

/-- A grid PLC frame as the modem presents it (R342, R346). -/
structure GplcFrame where
  sender : Nat
  kilurmos : Bool
  lqi : Nat
  extIl : Bool
  /-- The start of its preamble in µs from the tick, and the sender's counter e_snd in µs. -/
  preUs : Nat
  eSndUs : Int
  /-- It carries a tone map request (R340). -/
  asksMap : Bool
  fromCoordinator : Bool
  /-- A data packet to forward for another node, and its destination, none for a broadcast. -/
  forward : Bool
  dest : Option Nat
  securityOk : Bool
  duplicate : Bool
  deriving DecidableEq, Repr

/-- A transmission of one MAC frame (R340, R349): its PHY frames, of which extended interleaving sends up to 16 back to back
as one train, the start of its preamble in µs from the tick, what they last in µs without padding, and whether it was
acknowledged at its end. -/
structure Sent where
  phy : Nat
  preUs : Nat
  us : Nat
  acked : Bool
  deriving DecidableEq, Repr

/-- A tone map response (R340, R348). -/
structure ToneMap where
  sender : Nat
  modulation : Nat
  carriers : BitVec 96
  gain : Nat
  extCapable : Bool
  peerUg1 : Nat
  deriving DecidableEq, Repr

/-- A route request or route reply (R344). -/
structure RouteMsg where
  origin : Nat
  dest : Nat
  prevHop : Nat
  cost : Nat
  hops : Nat
  toCoordinator : Bool
  deriving DecidableEq, Repr

/-- One item of a DLMS request (R358, R359): a command of the ACS gateway; or a get, a set or an action on a COSEM object, by
its class, OBIS code, attribute or method, with the octets of a set, of an action, or of the selective access of a get. -/
inductive ApduItem where
  | acs (code : BitVec 16) (args : List Byte)
  | get (cls : Nat) (obis : List Nat) (attr : Nat) (data : List Byte)
  | set (cls : Nat) (obis : List Nat) (attr : Nat) (data : List Byte)
  | act (cls : Nat) (obis : List Nat) (method : Nat) (data : List Byte)
  deriving DecidableEq, Repr

/-- A DLMS APDU as received (R356, R359, R360): association, invoke-id, invocation counter, the items in list
order, whether its tag or signature verified, the alarm-register bits it resets and the alarm filter it sets (R357). -/
structure Apdu where
  assoc : Nat
  invoke : Nat
  ic : Nat
  authentic : Bool
  plain : List Byte
  items : List ApduItem
  alarmReset : BitVec 32
  alarmFilter : Option (BitVec 32)
  deriving DecidableEq, Repr

/-- A card that answers a poll (R368 to R370): Type B or A, its UID or PUPI, the response data to SELECT by AID when
status was 9000, and for Type B its slot draws per round; whether it offers ISO-DEP, and the highest bit rate it offers, 0 to 3
as READER_MAX_RATE has them (R366). -/
structure CardAns where
  typeB : Bool
  ident : List Byte
  isoDep : Bool
  rate : Nat
  aidData : Option (List Byte)
  slots : List Nat
  deriving DecidableEq, Repr

/-- The cards that answer one poll. -/
structure PollAns where
  cards : List CardAns
  deriving DecidableEq, Repr

/-- The commands of the block, one constructor for each row of spec/opcode_table.json. -/
inductive Instr where
  /-- FRAME_TICK (R19): The SERGE tick starts a frame: both lanes read inputs, meter, compare, commit, evaluate safety, latch outputs and then serve mailboxes, protocol stacks and jobs. -/
  | frameTick (f : FrameIn)
  /-- DISPUTE_HOLD_EXPIRY (R25): Without a verdict by the latch point of frame n+2, disputed outputs go to their safe state. -/
  | disputeHoldExpiry
  /-- DISPUTE_VERDICT (R26): The dispute recompute of frame n+1 decides which lane is faulty and publication resumes or the token moves. -/
  | disputeVerdict (r : Recompute)
  /-- SLOT_DEADLINE_FAULT (R21): A lane that misses its compare, delta or output-request deadline reports a slot-deadline fault against itself. -/
  | slotDeadlineFault (l : Lane) (slot : DeadlineSlot)
  /-- WATCHDOG_FAULT (R21): At 120 µs SERGE faults a lane whose frame-complete report is missing, early, late or wrongly numbered. -/
  | watchdogFault (l : Lane) (early marker : Bool)
  /-- OUTPUT_REQUEST_MISSING (R22): A lead without an output request at 70 µs is faulted and the follow is granted the token at once. -/
  | outputRequestMissing
  /-- LANE_SELF_FAULT (R26): A lane reports a self-detected fault: residue error, uncorrectable SRAM, PLL unlock, rail out of window or core exception. -/
  | laneSelfFault (l : Lane) (c : SelfFault) (slot : Nat)
  /-- CLAIM_REJECTED (R29): A leadership claim or output request without the token has no effect and faults the claimant. -/
  | claimRejected (l : Lane)
  /-- LANE_REPAIR_STEP_DONE (R32): A repair step of a faulted lane (self-test, boot, load, resync) completes and the next begins. -/
  | laneRepairStepDone (l : Lane) (ok : Bool) (badBanks : BitVec 4)
  /-- LANE_REPAIRED (R33): After 800 consecutive clean compares the lane leaves PROBATION and becomes the follow. -/
  | laneRepaired (l : Lane)
  /-- MRAM_ARRAY_LOST (R15): A permanent fault of one MRAM array raises an alarm asking for module replacement; service continues. -/
  | mramArrayLost (l : Lane)
  /-- MIRROR_FAULT (R298): An uncorrectable mirror memory error enters Degraded in Session or sets SAFETY_LATCH otherwise. -/
  | mirrorFault
  /-- SERGE_FAULT (R17): Disagreeing SERGE halves set every power-enable inactive and the pilot to F until RESET_N or power cycle. -/
  | sergeFault
  /-- NO_TICK_GAP (R17): Lanes that see no tick for 250 µs stop metering and log a gap. -/
  | noTickGap (frames : Nat)
  /-- CRYSTAL_MEASUREMENT (R18): Every 8,000 frames SERGE measures XA and XB against the RTC crystal. -/
  | crystalMeasurement (xa xb : Int)
  /-- CRYSTAL_FAILED (R18): A stopped or drifting crystal is declared failed and tick, modulator clock and PLL move to the other crystal. -/
  | crystalFailed (x : Xtal) (slot : Nat)
  /-- START_UP (R57): VSYS valid starts SERGE self-compare, lane self-tests, boot checks, ledger recovery and the first frame m. -/
  | startUp (u : StartIn)
  /-- STARTUP_READY (R57): When the start-up conditions are met the mode is set, the pilot goes to state A and the Gauze ping starts. -/
  | startupReady
  /-- HOLDUP_DAILY_MEASUREMENT (R51): Once a day in Ready without a session the capacitance is measured again by discharge. -/
  | holdupDailyMeasurement (capUf : Nat)
  /-- HOLDUP_RECHARGE_DONE (R51): VHOLD reaching 28 V makes hold-up ready again after HOLD or at start-up. -/
  | holdupRechargeDone
  /-- HOLDUP_RECHARGE_TIMEOUT (R51): VHOLD not at 28 V within 24,000 frames of charging makes hold-up not ready and sets HOLDUP. -/
  | holdupRechargeTimeout
  /-- HOLD_ENTERED (R53): VSYS below 8.5 V at two ticks enters HOLD: units shed, session ended, outputs inactive, last gasp routed. -/
  | holdEntered
  /-- FINAL_SEQUENCE (R55): Low VHOLD or a lost grid starts the 128-frame final sequence: checkpoint, Calico write, stop to DORMANT or OFF. -/
  | finalSequence
  /-- HOLD_EXITED (R56): VSYS valid before the final sequence returns to MAINS without restart and restores shed units. -/
  | holdExited
  /-- RESET_REQUEST (R59): RESET_N low for 1 µs ends any session, makes outputs safe, commits frame r and holds the lanes in reset. -/
  | resetRequest
  /-- RESET_RELEASE (R60): RESET_N returning high starts start-up from the SERGE self-compare. -/
  | resetRelease
  /-- SERVICE_N_RELEASE (R61): Release of a debounced SERVICE_N press steps the display or, after 5–10 s, opens the local login window. -/
  | serviceNRelease (frames : Nat)
  /-- SERVICE_N_STUCK (R61): SERVICE_N held beyond 30 s is declared stuck and ignored until released. -/
  | serviceNStuck (frames : Nat)
  /-- SERVICE_N_CHATTER (R61): More than 20 edges in 100 ms makes SERVICE_N ignored until stable for 100 ms. -/
  | serviceNChatter (edges : Nat)
  /-- LOGIN_WINDOW_EXPIRY (R48): The 60 s local login window after a SERVICE_N press closes. -/
  | loginWindowExpiry
  /-- SERVICE_TIMEOUT (R48): No accepted command of the login's owner for SERVICE_TIMEOUT ends the service login as a logout. -/
  | serviceTimeout
  /-- HSPI_WRITE (R69): An HSPI WRITE is buffered, checked for CRC and range, and performed word by word. -/
  | hspiWrite (addr : BitVec 24) (data : List Byte) (crc : Word) (lost : List Nat)
  /-- HSPI_QWRITE (R68): An HSPI QWRITE is performed as WRITE on four lines. -/
  | hspiQwrite (addr : BitVec 24) (data : List Byte) (crc : Word) (lost : List Nat)
  /-- HSPI_READ (R70): An HSPI READ returns wait bytes, the marker, the words and CRC-32. -/
  | hspiRead (addr : BitVec 24) (words : Nat)
  /-- HSPI_QREAD (R68): An HSPI QREAD returns data as READ on four lines after a turnaround. -/
  | hspiQread (addr : BitVec 24) (words : Nat)
  /-- HSPI_STATUS (R71): An HSPI STATUS opcode shifts the port status byte out once more. -/
  | hspiStatus
  /-- HSPI_INVALID_OPCODE (R68): An unknown opcode is ignored until CS_N rises and RANGE is set. -/
  | hspiInvalidOpcode (op : Byte)
  /-- ALIAS_BIT_SET (R76): A write through the bit-set alias atomically sets the mask bits of the word. -/
  | aliasBitSet (p : Port) (addr : Nat) (mask : Word) (lost : Bool)
  /-- ALIAS_BIT_CLEAR (R76): A write through the bit-clear alias atomically clears the mask bits of the word. -/
  | aliasBitClear (p : Port) (addr : Nat) (mask : Word) (lost : Bool)
  /-- HUART_READ (R72): A HUART read frame is decoded and answered with a read reply. -/
  | huartRead (raw : List Byte)
  /-- HUART_WRITE (R73): A HUART write frame is performed, or acknowledged again for a repeated SEQ. -/
  | huartWrite (raw : List Byte) (lost : List Nat)
  /-- HUART_BAD_FRAME (R72): A HUART frame with COBS, CRC or length error is silently discarded and counted. -/
  | huartBadFrame (raw : List Byte)
  /-- HUART_GAP_TIMEOUT (R451): A gap of more than 1 ms within a host frame discards the partial frame as a framing error. -/
  | huartGapTimeout
  /-- DOORBELL_WRITE (R82): The host sets a slot's doorbell bit to hand a FILLED request to the controller. -/
  | doorbellWrite (p : Port) (mask : Word)
  /-- SLOT_STATE_WRITE (R82): A host write to a slot state word performs FREE to FILLED or DONE to FREE, otherwise counted as protocol error. -/
  | slotStateWrite (p : Port) (k : Nat) (val : Word)
  /-- IRQ_STATUS_CLEAR (R99): A W1C write clears interrupt status bits and releases IRQ_N when none enabled remains. -/
  | irqStatusClear (p : Port) (val : Word)
  /-- IRQ_ENABLE_WRITE (R99): A write of the enable word changes which status bits assert IRQ_N. -/
  | irqEnableWrite (p : Port) (val : Word)
  /-- HEARTBEAT_WRITE (R101): A host change of the heartbeat word keeps or regains host presence. -/
  | heartbeatWrite (p : Port) (val : Word)
  /-- EVENT_READ_INDEX_WRITE (R95): The host advances EVENT_READ_INDEX, freeing room in the event stream ring. -/
  | eventReadIndexWrite (p : Port) (val : Word)
  /-- WINDOW_WORD_WRITE (R67): A plain host write to a window word without behaviour of its own, such as a request half or the stage exchange. -/
  | windowWordWrite (p : Port) (addr : Nat) (val : Word)
  /-- HOST_LOST (R101): No heartbeat change for HOST_BEAT_MISS periods marks the host lost and applies host-loss rules. -/
  | hostLost
  /-- PORT_FAILED (R101): Sixteen consecutive failed transactions mark a host port failed. -/
  | portFailed (p : Port)
  /-- PORT_RESTORED (R101): Sixteen consecutive good transactions mark a host port restored. -/
  | portRestored (p : Port)
  /-- STREAM_OVERRUN (R96): When ring space returns after omissions, STREAM_OVERRUN is written first with the count omitted. -/
  | streamOverrun
  /-- JOB_ENDED (R91): A job reaches done, failed or cancelled, setting JOB_END and logging JOB_ENDED. -/
  | jobEnded (id : Nat) (e : JobEnd)
  /-- IDENTIFY (R109): Returns part number, serial, versions and MANIFEST_COUNTER. -/
  | identify (own : Owner) (tag : Nat) (args : List Byte)
  /-- MODE_REQUEST (R43): Requests a listed mode transition whose condition must hold. -/
  | modeRequest (own : Owner) (tag : Nat) (args : List Byte)
  /-- SAFESTOP_CLEAR (R47): Clears Safe-stop cause bits whose condition has gone and whose class the owner may clear. -/
  | safestopClear (own : Owner) (tag : Nat) (args : List Byte)
  /-- SERVICE_LOGIN (R48): Opens a local or remote service login with an operator credential. -/
  | serviceLogin (own : Owner) (tag : Nat) (args : List Byte)
  /-- SERVICE_LOGOUT (R43): Ends the service login and moves to the mode chosen by the logout rows. -/
  | serviceLogout (own : Owner) (tag : Nat) (args : List Byte)
  /-- STOP_REQUEST (R109): Sets HOST_STOP or HEADEND_STOP and starts an ordered stop of a running session. -/
  | stopRequest (own : Owner) (tag : Nat) (args : List Byte)
  /-- PARAM_READ (R112): Returns values and status of up to 32 parameters. -/
  | paramRead (own : Owner) (tag : Nat) (args : List Byte)
  /-- PARAM_WRITE (R113): Writes RW, W1C or WO parameters at the next tick and stages RWC parameters in the pending set. -/
  | paramWrite (own : Owner) (tag : Nat) (args : List Byte)
  /-- PARAM_COMMIT (R115): Applies the whole pending set when the expected PENDING_SERIAL matches. -/
  | paramCommit (own : Owner) (tag : Nat) (args : List Byte)
  /-- PARAM_DISCARD (R114): Discards the owner's pending set. -/
  | paramDiscard (own : Owner) (tag : Nat) (args : List Byte)
  /-- PARAM_DESCRIBE (R111): Returns the 68-byte descriptor of a parameter. -/
  | paramDescribe (own : Owner) (tag : Nat) (args : List Byte)
  /-- PARAM_READ_BLOCK (R109): Reads part of a block parameter. -/
  | paramReadBlock (own : Owner) (tag : Nat) (args : List Byte)
  /-- PARAM_WRITE_BLOCK (R113): Stages part of a writable block parameter in the pending set. -/
  | paramWriteBlock (own : Owner) (tag : Nat) (args : List Byte)
  /-- PARAM_PENDING (R109): Returns the pending set's serial and IDs. -/
  | paramPending (own : Owner) (tag : Nat) (args : List Byte)
  /-- PARAM_ENUM (R109): Lists the parameter IDs present from a given ID. -/
  | paramEnum (own : Owner) (tag : Nat) (args : List Byte)
  /-- SNAPSHOT_TAKE (R93): Fills a snapshot buffer with up to 128 values of one published frame. -/
  | snapshotTake (own : Owner) (tag : Nat) (args : List Byte)
  /-- SNAPSHOT_RELEASE (R93): Frees a snapshot buffer. -/
  | snapshotRelease (own : Owner) (tag : Nat) (args : List Byte)
  /-- CMD_OUTCOME (R88): Reports whether a durable command with the given TAG was executed and its stored result. -/
  | cmdOutcome (own : Owner) (tag : Nat) (args : List Byte)
  /-- EVENT_FETCH (R109): Returns up to 31 entries of the general log from a sequence number. -/
  | eventFetch (own : Owner) (tag : Nat) (args : List Byte)
  /-- BULK_CHUNK (R98): Acknowledges one chunk of bulk data with its number and CRC-32. -/
  | bulkChunk (own : Owner) (tag : Nat) (args : List Byte)
  /-- JOB_LIST (R109): Returns the eight job table entries. -/
  | jobList (own : Owner) (tag : Nat) (args : List Byte)
  /-- JOB_STATUS (R92): Returns the job table entry of a job. -/
  | jobStatus (own : Owner) (tag : Nat) (args : List Byte)
  /-- JOB_CANCEL (R92): Stops the owner's cancellable job at its next step boundary. -/
  | jobCancel (own : Owner) (tag : Nat) (args : List Byte)
  /-- CLOCK_SET (R210): Sets the UTC time from a permitted source, loaded at the next tick, and updates clock status. -/
  | clockSet (own : Owner) (tag : Nat) (args : List Byte)
  /-- RTC_LOAD (R210): The battery domain loads the new time at the tick of frame n+1, even if frames have stopped. -/
  | rtcLoad
  /-- SYNC (R135): Decides a sync of all decimators, or merges into a pending one. -/
  | sync (own : Owner) (tag : Nat) (args : List Byte)
  /-- METR_SEAL_OPEN (R116): Opens the metrology seal in Service with a metrology credential and logs it in the metrology log. -/
  | metrSealOpen (own : Owner) (tag : Nat) (args : List Byte)
  /-- METR_SEAL_CLOSE (R170): Closes the metrology seal and returns the metrology set check value. -/
  | metrSealClose (own : Owner) (tag : Nat) (args : List Byte)
  /-- RECORD_READ (R200): Delivers a Soger record body through the bulk window. -/
  | recordRead (own : Owner) (tag : Nat) (args : List Byte)
  /-- SIGNATURE_READ (R200): Delivers a record's 7,856-byte signature through the bulk window. -/
  | signatureRead (own : Owner) (tag : Nat) (args : List Byte)
  /-- REGISTERS_READ (R203): Returns a register family's total, tariff and estimated values. -/
  | registersRead (own : Owner) (tag : Nat) (args : List Byte)
  /-- METR_LOG_READ (R110): Returns entries of the metrology log. -/
  | metrLogRead (own : Owner) (tag : Nat) (args : List Byte)
  /-- CALENDAR_ACTIVATE (R215): Starts a job that validates the passive calendar and arms it for activation. -/
  | calendarActivate (own : Owner) (tag : Nat) (args : List Byte)
  /-- CALENDAR_ARMED (R215): The calendar job completes, arming the calendar or rejecting it. -/
  | calendarArmed
  /-- BILLING_CLOSE (R223): Sets a billing close pending, taken in the next frame's tariff step. -/
  | billingClose (own : Owner) (tag : Nat) (args : List Byte)
  /-- DISPLAY_STEP (R230): Steps the display as a button press does. -/
  | displayStep (own : Owner) (tag : Nat) (args : List Byte)
  /-- REMOTE_START (R252): Authorises the outlet by the host with a token, or confirms a pending card or contract. -/
  | remoteStart (own : Owner) (tag : Nat) (args : List Byte)
  /-- REMOTE_STOP (R255): Starts an ordered stop of the session on the outlet. -/
  | remoteStop (own : Owner) (tag : Nat) (args : List Byte)
  /-- SAFETY_CHECK_READ (R303): Returns the safety check value and its confirmation state. -/
  | safetyCheckRead (own : Owner) (tag : Nat) (args : List Byte)
  /-- SAFETY_CONFIRM (R305): Enters the check value as step 1 or step 2 of the confirmation procedure. -/
  | safetyConfirm (own : Owner) (tag : Nat) (args : List Byte)
  /-- SAFETY_PROOF_TEST (R306): Starts a safety diagnostic at once. -/
  | safetyProofTest (own : Owner) (tag : Nat) (args : List Byte)
  /-- PROOF_TEST_DONE (R306): A proof test completes and its result is recorded. -/
  | proofTestDone (test : Nat) (pass : Bool)
  /-- SWITCH_SET (R328): Commands a host load-switch channel off, on or PWM with a duty. -/
  | switchSet (own : Owner) (tag : Nat) (args : List Byte)
  /-- LATCH_CLEAR (R320): Clears the latch and retry counter of a load-switch channel or the lock bridge. -/
  | latchClear (own : Owner) (tag : Nat) (args : List Byte)
  /-- LOCK_DRIVE (R331): Starts a lock or unlock drive of the cable lock. -/
  | lockDrive (own : Owner) (tag : Nat) (args : List Byte)
  /-- CALICO_STAGING_STATUS (R384): Returns the island's staging status and outcome. -/
  | calicoStagingStatus (own : Owner) (tag : Nat) (args : List Byte)
  /-- AUTH_LOAD (R377): Opens the load bank for a new authorisation list version. -/
  | authLoad (own : Owner) (tag : Nat) (args : List Byte)
  /-- AUTH_SWAP (R377): Starts a job that checks the loaded list and swaps the banks. -/
  | authSwap (own : Owner) (tag : Nat) (args : List Byte)
  /-- AUTH_BANK_SWAP (R377): The hardware swaps the active authorisation bank at the tick after the job's final step. -/
  | authBankSwap
  /-- AUTH_LOOKUP (R376): Searches the active list for an identifier. -/
  | authLookup (own : Owner) (tag : Nat) (args : List Byte)
  /-- KEY_DERIVE (R399): Starts a job deriving a new generation of a derived key slot. -/
  | keyDerive (own : Owner) (tag : Nat) (args : List Byte)
  /-- KEY_DERIVED (R399): A key derivation job completes and writes the slot. -/
  | keyDerived (slot : Nat)
  /-- ATTEST (R403): Starts a job signing an attestation statement with the identity key. -/
  | attest (own : Owner) (tag : Nat) (args : List Byte)
  /-- ATTESTED (R403): The attestation job completes and the result is readable. -/
  | attested
  /-- ENROL (R413): Opens the bulk window for an enrolment token. -/
  | enrol (own : Owner) (tag : Nat) (args : List Byte)
  /-- ENROLLED (R413): The token check job completes, accepting or refusing the enrolment. -/
  | enrolled
  /-- TAMPER_ACK (R406): Clears the LATCHED bit of an inactive tamper source. -/
  | tamperAck (own : Owner) (tag : Nat) (args : List Byte)
  /-- IMAGE_STAGE (R424): Opens or resumes staging of a recovery container through the host. -/
  | imageStage (own : Owner) (tag : Nat) (args : List Byte)
  /-- IMAGE_VERIFY (R426): Starts verification of the staged object into the inactive image set. -/
  | imageVerify (own : Owner) (tag : Nat) (args : List Byte)
  /-- IMAGE_VERIFIED (R426): The verification job completes, verifying or rejecting the set. -/
  | imageVerified (readOk : Bool)
  /-- IMAGE_ACTIVATE (R427): Starts a live activation, or an activation by restart, of the verified set. -/
  | imageActivate (own : Owner) (tag : Nat) (args : List Byte)
  /-- TEST_AUTH (R461): Opens a test authorisation inside a service login. -/
  | testAuth (own : Owner) (tag : Nat) (args : List Byte)
  /-- SCRUB_START (R183): Starts an MRAM scrub job at once. -/
  | scrubStart (own : Owner) (tag : Nat) (args : List Byte)
  /-- CAL_ACC_CTRL (R168): Writing the cycle count starts a calibration accumulation at the next grid cycle. -/
  | calAccCtrl (own : Owner) (n : Nat)
  /-- CAL_ACC_DONE (R168): The accumulation ends after N cycles, done or discarded. -/
  | calAccDone
  /-- SENSE_SEL (R322): A write selects the source shown on SENSE from the next tick. -/
  | senseSel (own : Owner) (v : Nat)
  /-- GPLC_STATE_RESET (R351): A write tries the faulted grid modem again at once. -/
  | gplcStateReset (own : Owner) (v : Nat)
  /-- TEST_SLOT_STRETCH (R464): Stretches a chosen slot of one lane for a number of frames. -/
  | testSlotStretch (own : Owner) (v : Nat)
  /-- TEST_MBOX_DELAY (R464): Holds each DONE and its response for a delay. -/
  | testMboxDelay (own : Owner) (v : Nat)
  /-- TEST_PORT_BUSY (R464): Refuses every k-th transaction on selected host ports. -/
  | testPortBusy (own : Owner) (v : Nat)
  /-- TEST_PORT_THROTTLE (R464): Removes a share of the port engines' bank cycles. -/
  | testPortThrottle (own : Owner) (v : Nat)
  /-- TEST_GPLC_HOLD (R464): Holds chosen grid transmit queues unserved. -/
  | testGplcHold (own : Owner) (v : Nat)
  /-- TEST_COMMIT_DELAY (R464): Delays one lane's commit-slot writes for a number of frames. -/
  | testCommitDelay (own : Owner) (v : Nat)
  /-- TEST_MISMATCH (R464): Injects a one-bit difference into one lane's compare block or output request. -/
  | testMismatch (own : Owner) (v : Nat)
  /-- TEST_WDT_WINDOW (R464): Narrows SERGE's watchdog window for one lane in one frame. -/
  | testWdtWindow (own : Owner) (v : Nat)
  /-- TEST_ENROL_TOKEN (R466): Committing a token in Factory starts the enrolment token checks. -/
  | testEnrolToken
  /-- TEST_INJECTED (R465): A lane perturbation acts in the frame after its write and is logged before the lane fault. -/
  | testInjected (margin : Nat)
  /-- TEST_REVERTED (R462): Test parameters return to defaults on expiry, mode change, logout, HOLD or a new TEST_AUTH. -/
  | testReverted
  /-- SELFTEST_RUN (R458): A periodic self-test runs and SELFTEST_SUMMARY changes with its result. -/
  | selftestRun (t : Nat) (pass : Bool) (detail : Nat)
  /-- CHANNEL_FAULT (R127): A modulator whose activity check fails in 8 consecutive frames is declared faulty. -/
  | channelFault (c : Nat) (startup : Bool)
  /-- CHANNEL_RESTORED (R127): A faulty channel is restored after 8,000 frames of passing activity checks. -/
  | channelRestored (c : Nat)
  /-- CHANNEL_OVERRANGE (R147): The first sample carrying OVER begins an overrange episode. -/
  | channelOverrange (c : Nat)
  /-- OVERRANGE_END (R147): An overrange episode ends after 8,000 frames without OVER. -/
  | overrangeEnd (c : Nat)
  /-- SYNC_IN_EDGE (R135): An edge on SYNC_IN of the selected polarity decides a sync. -/
  | syncInEdge (rising : Bool)
  /-- SYNC_IN_CHATTER (R135): More than 20 SYNC_IN edges in 100 ms are ignored until stable. -/
  | syncInChatter (edges : Nat)
  /-- SYNC_RESET (R135): SERGE resets every decimator and integrator at the tick of frame d+3. -/
  | syncReset
  /-- SYNC_PENDING_REDECIDE (R137): A pending sync is decided again at the first tick finding neither deferral condition. -/
  | syncPendingRedecide
  /-- CHANNEL_MODE_EFFECT (R140): A committed channel mode or integrator change takes effect at the next tick that is a multiple of 3, resetting the channel. -/
  | channelModeEffect
  /-- SCS_CONVERSION_DONE (R139): A single-cycle-settling conversion completes and its result is read by both lanes. -/
  | scsConversionDone (c : Nat)
  /-- AUX_RESULT (R142): An auxiliary conversion completes and the scan list advances. -/
  | auxResult (bits : BitVec 1536)
  /-- PILOT_PLATEAU (R143): The pilot sampler completes the three conversions of a plateau and reports the median. -/
  | pilotPlateau (p : Plateau)
  /-- ZERO_CROSSING (R159): A positive-going crossing of the reference voltage completes a cycle and its per-cycle quantities. -/
  | zeroCrossing (side : Side)
  /-- WRONG_SEQUENCE (R163): A reversed phase sequence persisting 50 cycles starts or ends an episode. -/
  | wrongSequence
  /-- MISSING_NEUTRAL (R163): Neutral displacement with imbalance persisting starts or ends an episode. -/
  | missingNeutral
  /-- SAG (R163): A phase RMS below SAG_THR starts or ends a sag episode. -/
  | sag (side : Side) (ph : Nat)
  /-- SWELL (R163): A phase RMS above SWELL_THR starts or ends a swell episode. -/
  | swell (side : Side) (ph : Nat)
  /-- FREQ_OUT_OF_RANGE (R163): Grid frequency out of range for 10 cycles starts an episode, ended after 50 in range. -/
  | freqOutOfRange
  /-- CURRENT_WITHOUT_VOLTAGE (R163): Current without voltage for 50 cycles starts or ends an episode. -/
  | currentWithoutVoltage (side : Side) (ph : Nat)
  /-- REVERSE_ENERGY (R478): Export growth of REVERSE_EVENT_E without authorised discharge starts an episode, ended after 60 s without export. -/
  | reverseEnergy (m : MeterSide)
  /-- METER_GAP (R162): Estimation from overload or fault reaching 8,000 frames stops booking and logs a gap. -/
  | meterGap (m : MeterSide) (ph : Nat)
  /-- PULSE_START (R165): An output with owed pulses starts a pulse once W has passed since the last. -/
  | pulseStart (j : Nat)
  /-- PULSE_END (R165): A pulse ends after 8 × W frames. -/
  | pulseEnd (j : Nat)
  /-- RECORD_SIGNED (R199): A record-signing job completes, stores the signature and sets SIGN_STATE to signed. -/
  | recordSigned
  /-- MRAM_SCRUB (R183): The daily MRAM scrub job runs over both arrays. -/
  | mramScrub
  /-- LOAD_PROFILE_CAPTURE (R201): At a period boundary a load profile captures three family totals. -/
  | loadProfileCapture (p : Nat)
  /-- TARIFF_SWITCHED (R217): A tariff boundary makes the frame the last of the old tariff with a checkpoint. -/
  | tariffSwitched
  /-- DEMAND_INTERVAL_CLOSE (R220): A demand interval closes at its boundary and updates the maxima. -/
  | demandIntervalClose (j : Nat)
  /-- BILLING_CLOSE_SCHEDULED (R223): The scheduled billing end is reached and the period closes with a snapshot. -/
  | billingCloseScheduled
  /-- CALENDAR_ACTIVATED (R216): The armed calendar becomes active at its activation time. -/
  | calendarActivated
  /-- DST_CHANGED (R211): Daylight saving time is entered or left at its instant. -/
  | dstChanged
  /-- CLOCK_INVALID (R209): The RTC found stopped makes the clock INVALID. -/
  | clockInvalid
  /-- RTC_DRIFT (R209): RTC deviation above 200 ppm in 60 measurements makes a VALID clock DOUBTFUL. -/
  | rtcDrift
  /-- CLOCK_AGE_EXPIRED (R209): CLOCK_AGE_MAX days without a head-end set make a VALID clock DOUBTFUL. -/
  | clockAgeExpired
  /-- DISPLAY_DWELL (R228): The dwell time expires and the display scrolls to the next page or item. -/
  | displayDwell
  /-- DISP_MANUAL_TIMEOUT (R230): No step for DISP_MANUAL_TIMEOUT resumes automatic scrolling. -/
  | dispManualTimeout
  /-- DISP_BTN_RELEASE (R230): Release of a DISP_BTN press steps the display or shows the segment test. -/
  | dispBtnRelease (frames : Nat)
  /-- DISP_BTN_STUCK (R230): DISP_BTN held beyond 30 s is declared stuck. -/
  | dispBtnStuck (frames : Nat)
  /-- DISP_BTN_CHATTER (R230): DISP_BTN chatter is ignored until stable for 100 ms. -/
  | dispBtnChatter (edges : Nat)
  /-- PILOT_STATE_ACCEPTED (R242): Three consecutive plateaus decoding alike accept a pilot state and its action. -/
  | pilotStateAccepted (st : PilotSt)
  /-- PILOT_E_TIMEOUT (R242): State E or INVALID lasting 8,000 frames is a pilot integrity fault. -/
  | pilotETimeout
  /-- CABLE_CHANGED (R243): Two alike proximity results accept a cable rating. -/
  | cableChanged
  /-- BEACON (R244): The Green PHY coordinator sends its beacon every 320 frames. -/
  | beacon (answered : Bool)
  /-- SLAC_PARM_REQ (R244): A CM_SLAC_PARM.REQ from the vehicle starts SLAC sounding. -/
  | slacParmReq
  /-- SLAC_MATCHED (R244): Sounding completes and the match is confirmed or refused by attenuation. -/
  | slacMatched (evccid : BitVec 48) (attenDb : Nat) (seqOk : Bool)
  /-- SLAC_INIT_TIMEOUT (R244): No SLAC request within the timeout fails SLAC and may fall back to basic charging. -/
  | slacInitTimeout
  /-- VPLC_LINK_LOST (R245): Beacon, TCP or loop loss falls back to basic charging on AC or pauses DC transfer. -/
  | vplcLinkLost (c : LinkLoss)
  /-- SDP_REQUEST (R247): An SDP request is answered with TLS or TCP by SDP_SECURITY. -/
  | sdpRequest (tls : Bool)
  /-- SUPPORTED_APP_PROTOCOL (R247): The controller chooses the first protocol of PROTOCOL_ORDER the vehicle offers. -/
  | supportedAppProtocol (offered : List Proto)
  /-- SESSION_SETUP (R246): A SessionSetup request opens the V2G session. -/
  | sessionSetup
  /-- SERVICE_DISCOVERY (R252): ServiceDiscovery is answered with the payment options allowed. -/
  | serviceDiscovery
  /-- AUTHORIZATION_REQ (R248): An authorisation request is answered ongoing or finished, starting Plug & Charge validation. -/
  | authorizationReq (c : PncCheck) (emaid : List Byte)
  /-- PNC_VALIDATED (R248): Contract validation completes, authorising with means 1 or refusing. -/
  | pncValidated
  /-- PNC_HOST_TIMEOUT (R248): No host confirmation within PNC_HOST_TIMEOUT refuses the contract. -/
  | pncHostTimeout
  /-- CHARGE_PARAMETER_DISCOVERY (R258): The vehicle's maximum values enter the limit stack. -/
  | chargeParameterDiscovery (maxV maxI maxP : Nat)
  /-- POWER_DELIVERY_REQ (R253): A PowerDelivery start or stop request is answered. -/
  | powerDeliveryReq (start : Bool)
  /-- CHARGING_LOOP_REQ (R258): A charging loop request is answered with the applied limit. -/
  | chargingLoopReq (targetV targetI : Int) (soc : Nat) (discharge : Bool)
  /-- CABLE_CHECK_REQ (R261): A DC cable check request closes the DC enables and runs the insulation test. -/
  | cableCheckReq
  /-- PRE_CHARGE_REQ (R261): A pre-charge request targets the vehicle's voltage at 2 A. -/
  | preChargeReq (targetV : Int)
  /-- PRE_CHARGE_READY (R261): UDC within 20 V of target for 80 frames reports ready. -/
  | preChargeReady
  /-- WELDING_DETECTION_REQ (R285): A welding detection request is answered with UDC_MEAN. -/
  | weldingDetectionReq
  /-- SESSION_STOP_REQ (R255): A terminating SessionStop starts an ordered stop with cause 1. -/
  | sessionStopReq (terminate : Bool)
  /-- CARD_REFUSED (R252): A card not accepted by the host within AUTH_HOST_TIMEOUT is refused. -/
  | cardRefused
  /-- PREAUTH_EXPIRED (R251): An authorisation taken in Ready expires unused after REMOTE_START_WINDOW. -/
  | preauthExpired
  /-- OUTLET_CLOSE (R253): The outlet is requested closed in the first frame all closing conditions hold. -/
  | outletClose
  /-- STOP_WAIT_EXPIRY (R255): STOP_WAIT after an ordered stop began requests the outlet open. -/
  | stopWaitExpiry
  /-- SESSION_RESUME (R258): A limit at or above 6,000 mA for 60 s resumes a paused session. -/
  | sessionResume
  /-- STAGE_TIMEOUT (R261): No fresh host half for STAGE_TIMEOUT in a DC transfer ramps down and shuts down. -/
  | stageTimeout
  /-- DC_ENABLES_OPEN (R261): The DC enables open once IDC is at most 5 A, or after 200 ms. -/
  | dcEnablesOpen
  /-- HOST_GRACE_EXPIRED (R262): HOST_LOSS_GRACE expiry starts an ordered stop with cause 11. -/
  | hostGraceExpired
  /-- DEGRADED_LIMIT_EXPIRY (R299): DEGRADED_REMAINING reaching 0 starts an ordered stop with cause 9. -/
  | degradedLimitExpiry
  /-- FAST_TRIP (R275): A fast-trip input beyond its threshold for 40 ns sets the safe state in SERGE. -/
  | fastTrip (k : Nat) (mv : Nat)
  /-- FT_COMPARATOR_TEST (R276): SERGE tests each enabled fast-trip comparator at session start and daily. -/
  | ftComparatorTest (failed : BitVec 4)
  /-- FLUXGATE_DRIVE_FAULT (R277): The drive current out of window for 8 frames loses both residual paths. -/
  | fluxgateDriveFault
  /-- RESIDUAL_TIER_TRIP (R278): A residual current tier held for its persistence trips the safe state. -/
  | residualTierTrip (t : ResTier)
  /-- RC_PEAK_TRIP (R279): SERGE's peak comparator exceeded for RC_PEAK_PERSIST trips the safe state. -/
  | rcPeakTrip (ma : Nat)
  /-- RC_TEST (R280): The residual current test drives FGT at session start and hourly and checks both paths. -/
  | rcTest (m160 m40 : Int) (peakLatched : Bool)
  /-- QUAD_PROOF_PULSE (R282): Every 1,000 frames SERGE proves the next quad switch by an off- or on-pulse. -/
  | quadProofPulse (m : ProofMeas)
  /-- CONTACTOR_CLOSE_CHECK (R284): At CONTACTOR_CLOSE_MAX after a close, mirror contacts and outlet voltage must show closure. -/
  | contactorCloseCheck
  /-- CONTACTOR_DROPPED (R284): A mirror contact showing open for 8 frames while closed is a contactor fault. -/
  | contactorDropped (mc : Nat)
  /-- OPENING_CHECK (R285): After an open request the mirror contacts and outlet voltage prove the outlet open or find a weld. -/
  | openingCheck
  /-- TEST_PULSE (R287): Each test-pulse output is driven low for 300 µs every TPO_PERIOD and its inputs checked. -/
  | testPulse (b : Bool) (lowSeen : BitVec 3)
  /-- SAFETY_INPUT_TRIP (R288): An accepted low level on an emergency stop or enclosure channel trips the function. -/
  | safetyInputTrip (i : SafeIn)
  /-- DISCREPANCY (R289): Channels disagreeing for the discrepancy time latch a discrepancy fault. -/
  | discrepancy (door : Bool)
  /-- CHATTER (R290): More than 20 edges in 100 ms on a safety input forces the safe state. -/
  | chatter (i : SafeIn) (edges : Nat)
  /-- OVER_TEMPERATURE_TRIP (R292): Two consecutive results at or above OT_TRIP trip the outlet over-temperature function. -/
  | overTemperatureTrip
  /-- PILOT_INTEGRITY_TRIP (R293): A missing diode, reference, read-back or SHORT condition trips pilot integrity. -/
  | pilotIntegrityTrip
  /-- PE_CONTINUITY_TRIP (R294): UGN RMS at or above PE_U_THR for 10 cycles trips protective-earth continuity. -/
  | peContinuityTrip
  /-- INSULATION_STEP (R295): Each ISO_STEP the injection changes polarity and a new insulation resistance is formed and judged. -/
  | insulationStep
  /-- SAFETY_REARM (R270): SERGE releases a trip latch on agreeing re-arm requests once the condition has gone. -/
  | safetyRearm
  /-- SAFETY_CONFIRM_EXPIRED (R305): Step 1 not followed by step 2 within 60 s expires. -/
  | safetyConfirmExpired
  /-- INRUSH_STEP (R314): An inrush profile step ends and the next step's limit, or the steady limit, applies. -/
  | inrushStep (k : Nat)
  /-- FAST_SHORT (R317): A current-limited channel with output below half VAUX for 100 µs turns off with cause SHORT; `us` is that
  time, under PWM within one on-pulse from 10 µs after its rising edge. -/
  | fastShort (k : Nat) (us : Nat)
  /-- THERMAL_SHUTDOWN (R317): A channel junction reaching 170 °C turns off with cause THERMAL; `tj` is in 0.01 °C. -/
  | thermalShutdown (k : Nat) (tj : Int)
  /-- RETRY_RESTART (R319): After RETRY_DELAY and cooling a commanded channel restarts its inrush. -/
  | retryRestart (k : Nat)
  /-- RETRY_COUNTER_RESET (R319): 8,000 frames in ON without protection or limit reset the retry counter. -/
  | retryCounterReset (k : Nat)
  /-- OPEN_LOAD (R321): On- or off-state open load held for 160 frames sets or clears its flag. -/
  | openLoad (k : Nat) (offState : Bool)
  /-- SHORT_TO_VAUX (R321): An off channel's output near VAUX for 160 frames sets SHORT_TO_VAUX. -/
  | shortToVaux (k : Nat)
  /-- VAUX_UNDERVOLTAGE (R324): VAUX below UV_OFF or 5.5 V for 10 µs puts driving channels into UV_OFF; `us` is how long it has been there. -/
  | vauxUndervoltage (mv : Nat) (us : Nat)
  /-- VAUX_OVERVOLTAGE (R324): VAUX above 38 V for 10 µs puts driving channels into UV_OFF; `us` is how long it has been there. -/
  | vauxOvervoltage (mv : Nat) (us : Nat)
  /-- VAUX_RESTORED (R325): VAUX in range for 80 frames returns channels one per frame with fresh inrush. -/
  | vauxRestored
  /-- VAUX_OVERLOAD_SHED (R326): The 1 s mean above VAUX_I_MAX sheds the highest-numbered sheddable channel. -/
  | vauxOverloadShed
  /-- VAUX_OVERLOAD_RETURN (R326): A shed channel returns when the mean leaves room under 90 % of VAUX_I_MAX. -/
  | vauxOverloadReturn
  /-- LOCK_DRIVE_STOP (R329): A lock drive stops on feedback, stall or LOCK_DRIVE_MAX and the bridge brakes. -/
  | lockDriveStop
  /-- LOCK_BRAKE_END (R329): After 50 ms of braking the bridge releases and the drive is judged. -/
  | lockBrakeEnd
  /-- LOCK_REPEAT (R329): A failed drive is repeated once after 500 ms; a second failure sets LOCK_FAULT. -/
  | lockRepeat
  /-- LOCK_LOST (R330): LK_FB showing unlocked for 8 frames while closed opens the outlet and drives the lock again. -/
  | lockLost
  /-- COIL_PULLIN_END (R332): After COIL_PULLIN the quad holds the coil with the economiser. -/
  | coilPullinEnd
  /-- GPLC_FRAME_RECEIVED (R346): A grid PLC frame is received and its phase detection counter votes the neighbour's phase. -/
  | gplcFrameReceived (g : GplcFrame)
  /-- TONE_MAP_RESPONSE (R340): A neighbour's tone map response refreshes its neighbour entry. -/
  | toneMapResponse (t : ToneMap)
  /-- TONE_MAP_AGE (R340): A tone map reaching GPLC_TMR_TTL is requested again, or at twice marked stale. -/
  | toneMapAge (addr : Nat)
  /-- ROUTE_REQUEST (R344): A route request is forwarded or answered with the link cost added. -/
  | routeRequest (r : RouteMsg)
  /-- ROUTE_REPLY (R344): A route reply may install or replace a route by cost. -/
  | routeReply (r : RouteMsg)
  /-- ROUTE_EXPIRY (R344): A route's TTL expires: the coordinator route is rediscovered, others removed. -/
  | routeExpiry (dest : Nat)
  /-- GPLC_JOINED (R350): Bootstrapping completes and the controller joins the PAN. -/
  | gplcJoined (panId short : Nat) (fast : Bool) (groupKey : List Byte)
  /-- GPLC_PAN_LOST (R350): GPLC_PAN_LOSS without coordinator traffic leaves the PAN and bootstraps again. -/
  | gplcPanLost
  /-- BOOTSTRAP_RETRY (R350): A refused bootstrap is retried after a doubling delay. -/
  | bootstrapRetry
  /-- MODEM_HEARTBEAT_MISS (R351): 80 frames without a modem heartbeat reset the modem, dropping its queues. -/
  | modemHeartbeatMiss (frames : Nat)
  /-- GPLC_MODEM_RETRY (R351): A modem left in fault is tried again after 24 h. -/
  | gplcModemRetry
  /-- PACKET_DELIVERED (R353): The next hop acknowledges every fragment and the packet is counted delivered. -/
  | packetDelivered (q : Nat) (sends : List Sent)
  /-- PACKET_DROPPED (R353): Exhausted retries or failed route discovery drop a packet and fail its route. -/
  | packetDropped (q : Nat) (noRoute : Bool) (sends : List Sent)
  /-- QUEUE_TIMEOUT (R352): A packet exceeding its queue's time limit is dropped with cause TIMEOUT. -/
  | queueTimeout (q : Nat)
  /-- LAST_GASP_SENT (R355): The next hop acknowledges the grid last gasp. -/
  | lastGaspSent
  /-- LAST_GASP_ABANDONED (R355): A last gasp not started or not acknowledged by frame h+400 is dropped and handed to the host. -/
  | lastGaspAbandoned (airUs : Nat)
  /-- MODEM_SHED (R355): At frame h+400 or once the last gasp resolves the grid modem is shed. -/
  | modemShed
  /-- DLMS_ASSOCIATED (R356): An association request opens a public or management association. -/
  | dlmsAssociated (sap : Nat) (suite : Nat) (authentic : Bool)
  /-- DLMS_APDU (R360): A DLMS get, set or action is executed as ACS commands, or its repeat answered from the journal. -/
  | dlmsApdu (a : Apdu)
  /-- DLMS_INACTIVITY (R356): An association idle for DLMS_INACTIVITY is released and its pending set discarded. -/
  | dlmsInactivity (assoc : Nat)
  /-- PUSH_RETRY (R357): The alarm push is repeated every PUSH_RETRY while a filtered bit is set. -/
  | pushRetry
  /-- IMAGE_TRANSFER_INITIATE (R361): Opens or resumes an image transfer into the staging area. -/
  | imageTransferInitiate (ident : List Byte) (size : Nat)
  /-- IMAGE_BLOCK_TRANSFER (R361): Writes one image block and sets its bit after read-back. -/
  | imageBlockTransfer (block : Nat) (data : List Byte) (readBack : Bool)
  /-- KEY_TRANSFER (R400): The head-end writes DLMS keys wrapped under the KEK. -/
  | keyTransfer (slot : Nat) (wrapped : List Byte)
  /-- GAUZE_PING (R373): Every PING_PERIOD a low field measures detuning and may start a poll. -/
  | gauzePing (re im : Int) (ans : PollAns)
  /-- POLL_WHILE_PRESENT (R374): While a card is present the reader polls every 250 ms. -/
  | pollWhilePresent (ans : PollAns)
  /-- CARD_ABSENT (R371): A card not found for CARD_ABSENT_TIME becomes absent. -/
  | cardAbsent (kind : Nat) (ident : List Byte)
  /-- S_WTX_REQUEST (R372): A card's waiting time extension is granted or, beyond the total, refused. -/
  | sWtxRequest (waitMs : Nat)
  /-- CARD_TIMEOUT (R372): A card not answering within FWT after one retry is dropped from the poll. -/
  | cardTimeout (fwi us : Nat)
  /-- READER_FAULT (R367): The daily or start-up field self-test fails and card authorisation becomes unavailable. -/
  | readerFault (amplitude stored : Nat)
  /-- CALICO_SELECT (R382): A field reader selects a file of the island. -/
  | calicoSelect (file : BitVec 16)
  /-- CALICO_READ_BINARY (R381): A field READ BINARY returns up to 246 bytes of a file. -/
  | calicoReadBinary (offset len : Nat)
  /-- CALICO_UPDATE_BINARY (R383): A field UPDATE BINARY places a chunk of a staging package in the buffer. -/
  | calicoUpdateBinary (offset : Nat) (data : List Byte)
  /-- CALICO_TRIGGER (R383): The staging trigger checks the package and commits it to a staging bank. -/
  | calicoTrigger (len : Nat) (crc : Word)
  /-- CALICO_FIELD_COLLAPSE (R383): Loss of the reader's field leaves the staging state as its table states. -/
  | calicoFieldCollapse (p : CollapsePoint)
  /-- HARV_OUT_CHANGE (R386): HARV_OUT switches with field strength, enable and staging writes. -/
  | harvOutChange (fieldCentiAm : Nat) (supplyOk : Bool) (goodMs : Nat)
  /-- CELL_MEASUREMENT (R392): Each second each backup cell is measured and judged low or failed. -/
  | cellMeasurement (cell mv : Nat)
  /-- CELL_LOAD_TEST (R392): Daily each cell is measured under a 1 mA load. -/
  | cellLoadTest (cell mv : Nat)
  /-- CELL_RESTORED (R392): A cell 100 mV above its threshold for 60 s is restored. -/
  | cellRestored (cell : Nat)
  /-- BATTERY_DOMAIN_POWER_UP (R393): The battery domain powering up from no supply erases the vault and restarts the RTC. -/
  | batteryDomainPowerUp
  /-- TAMPER_DETECTED (R406): A tamper source becomes active and acts by its class. -/
  | tamperDetected (src : Nat)
  /-- KEYS_ERASED (R409): The next frame acts on the erasure: session ended unsigned, jobs ended, commissioning reopened. -/
  | keysErased
  /-- ROOT_GENERATED (R409): In the first frame of Quarantine a new root is drawn and slots 0 and 2 derived. -/
  | rootGenerated
  /-- LOGIN_NONCE_REFRESH (R404): A new LOGIN_NONCE is drawn every 10 min. -/
  | loginNonceRefresh
  /-- ACTIVATION_HANDOVER (R428): After the trial, SERGE moves the token to the trial lane and changed units load their parts. -/
  | activationHandover
  /-- UPDATE_ACTIVATED (R428): In the commit frame ACTIVE_SET and the counters are written. -/
  | updateActivated
  /-- UPDATE_REVERTED (R429): A missed 60 s deadline or failed step restores the active set. -/
  | updateReverted (c : RevertCause)
  /-- BOOT_RECOVERY (R432): With no verified set the boot ROM serves the recovery subset until a set starts. -/
  | bootRecovery
  /-- SUPPLY_COLLAPSE (R56): The remaining supply fails, so frames stop without a completed final sequence; at the next start-up the open session closes with its gap flag and a gap of kind 4 is logged. -/
  | supplyCollapse (cellHeld : Bool)
  /-- BATTERY_DOMAIN_SUPPLY_LOST (R393): With VSYS absent and no cell at or above 2.0 V, the battery domain loses supply, so the vault contents and the RTC count are lost. -/
  | batteryDomainSupplyLost
  /-- TAMPER_SOURCE_INACTIVE (R406): A tamper source stops being active, so its ACTIVE bit clears and TAMPER_ACK for it is no longer refused. -/
  | tamperSourceInactive (src : Nat)
  /-- SAFETY_INPUT_HIGH_ACCEPTED (R288): SERGE accepts the high level of an emergency stop or enclosure channel after its filter time, which lets the triggering condition be judged gone and the discrepancy count settle. -/
  | safetyInputHighAccepted (i : SafeIn)
  /-- PAYMENT_SERVICE_SELECTION (R252): The vehicle's payment and service selection request fixes external identification or Plug & Charge and any BPT service for the V2G session. -/
  | paymentServiceSelection (pnc bpt : Bool)
  deriving DecidableEq, Repr

end Sys2Proof
end

