-- ==== Sys2Proof/Decode.lean ====
section
/-!
DEFINITION. No row of the command table gives bits, so no word spells a command: a command comes as the operands of its
row (Sys2Proof.Syntax).
-/

namespace Sys2Proof

/-- The command that a word spells by the table's bits: none, since the table gives no row bits. -/
def decodeTableWord (_nbits _w : Nat) : Option Instr := none

end Sys2Proof
end

