-- ==== Sys2Proof/Config.lean ====
section
/-!
DEFINITION. What the spec names and does not give: constants without a body. A claim that mentions one holds for
every value of it.
-/

namespace Sys2Proof.Config

/-- Coefficients h_k of the half-band stages (R130): stage 0 to 4, pair index from the centre. "The coefficient sets
are held in hardware"; log entry 3. -/
opaque halfBandTap : Nat → Nat → BitVec 16

/-- Q30 coefficients of the 511-tap phase shifter (R156), by distance from its centre; log entry 3. -/
opaque phaseShiftTap : Nat → BitVec 32

/-- The factory curve of the die temperature sensor (R152), as the 17 points (auxiliary result, 0.01 °C) of a TEMP_CURVE;
log entry 3. -/
opaque dieCurve : Nat → Int × Int

/-- The first eight bytes of the SHAKE256 digest of a message (FIPS 202, named by R170 and R469), as a number whose most
significant byte is the first; log entry 4. -/
opaque shake256x8 : List Byte → BitVec 64

/-- The first 32 bytes of the SHAKE256 digest of a message (R184), as a number whose least significant byte is the first;
log entry 4. -/
opaque shake256x32 : List Byte → BitVec 256

/-- KMAC256 tag check of a credential or a token under a key (R404): key, message, tag; log entry 4. -/
opaque kmacOk : List Byte → List Byte → List Byte → Bool

/-- Signature check under a public key (R402, R412, R421): key, message, signature; log entry 4. -/
opaque signatureOk : List Byte → List Byte → List Byte → Bool

/-- The KMAC key derivation of R398 (NIST SP 800-108): root, label with 0x00 and context, length; log entry 4. -/
opaque kdf : BitVec 256 → List Byte → Nat → List Byte

/-- The public key of a private key: ALG of R395, key; log entry 4. -/
opaque publicKey : Nat → List Byte → List Byte

/-- A signature (R199, R402, R403): ALG of R395, private key, message; log entry 4. -/
opaque sign : Nat → List Byte → List Byte → List Byte

/-- FINGERPRINT of a symmetric key: the first eight bytes of KMAC256(key, empty, 256, "KCV") (R395); log entry 4. -/
opaque keyCheck : List Byte → BitVec 64

/-- A PKCS#10 certification request (R399): ALG, private key, subject; log entry 4. -/
opaque csr : Nat → List Byte → List Byte → List Byte

/-- The vendor root public keys held in ROM (R412), by index; log entry 6. -/
opaque vendorRoot : Nat → List Byte

/-- The public key of the leaf certificate of a DER chain (R416); log entry 4. -/
opaque leafKey : List Byte → List Byte

/-- Decryption of a recovery container (R425) by the recovery key: key, container; none when the tag is wrong; log
entry 4. -/
opaque recoveryOpen : List Byte → List Byte → Option (List Byte)

/-- Draws of the random number generator (R404, R409): the k-th draw as a number of the asked bytes; log entry 4. -/
opaque trng : Nat → Nat → BitVec 256

/-- AES key unwrap under the KEK (R400): wrapped bytes to key bytes; log entry 4. -/
opaque unwrap : List Byte → List Byte → List Byte

/-- Values that the spec leaves open, one per use: which use, and a count that differs at each; log entry 5. -/
opaque freeValue : Nat → Nat → BitVec 64

/-- Lowest value the parameter block of the identity group holds for this module: SERIAL_NUMBER, SILICON_ISSUE and
SW_IDENT are facts of the module (R119); log entry 6. -/
opaque serialNumber : List Byte

/-- The manifest of the images that the module was shipped with (R421); log entry 6. -/
opaque factoryManifest : List Byte

/-- SILICON_ISSUE of the module (R119); log entry 6. -/
opaque siliconIssue : BitVec 16

end Sys2Proof.Config
end

