-- ==== Sys2Proof/Machine/Bytes.lean ====
section
/-!
DEFINITION. Byte order, the CRC-32 of R69, COBS (R72), and the window's RAM as a canonical list of cells.
-/

namespace Sys2Proof.Machine

/-- The k bytes of a number, least significant first (R8). -/
def leBytes : Nat → Nat → List Byte
  | 0, _ => []
  | k + 1, n => BitVec.ofNat 8 n :: leBytes k (n / 256)

/-- The number that bytes spell, least significant first (R8). -/
def leNat : List Byte → Nat
  | [] => 0
  | b :: r => b.toNat + 256 * leNat r

/-- A k-byte two's complement number. -/
def leBytesInt (k : Nat) (z : Int) : List Byte := leBytes k (z % (2 ^ (8 * k))).toNat

/-- The two's complement reading of k bytes. -/
def leInt (k : Nat) (bs : List Byte) : Int :=
  let n := leNat bs
  if n < 2 ^ (8 * k - 1) then n else (n : Int) - 2 ^ (8 * k)

/-- Bytes from an offset on, exactly k of them, zeros beyond the end. -/
def slice (bs : List Byte) (off k : Nat) : List Byte :=
  let t := (bs.drop off).take k
  t ++ List.replicate (k - t.length) 0

/-- A field of k bytes at an offset, as a number. -/
def fieldAt (bs : List Byte) (off k : Nat) : Nat := leNat (slice bs off k)

/-- Bytes with those from an offset replaced. -/
def splice (bs : List Byte) (off : Nat) (new : List Byte) : List Byte :=
  slice bs 0 off ++ new ++ bs.drop (off + new.length)

/-- ASCII bytes of a text, zero-padded to k. -/
def asciiPad (k : Nat) (t : String) : List Byte :=
  let bs := (t.toList.map fun c => BitVec.ofNat 8 c.toNat).take k
  bs ++ List.replicate (k - bs.length) 0

/-- One bit of the reflected CRC-32 (R69). -/
def crcBit (c : Word) : Word := if c.getLsbD 0 then (c >>> 1) ^^^ 0xEDB88320#32 else c >>> 1

/-- One byte of the CRC-32 (R69). -/
def crcByte (c : Word) (b : Byte) : Word :=
  let x := c ^^^ b.setWidth 32
  crcBit (crcBit (crcBit (crcBit (crcBit (crcBit (crcBit (crcBit x)))))))

/-- CRC-32 with the IEEE 802.3 polynomial, initial value of ones and final inversion (R69). -/
def crc32 (bs : List Byte) : Word := ~~~ (bs.foldl crcByte 0xFFFFFFFF#32)

/-- One bit of CRC-64/ECMA-182 (R380, R394). -/
def crc64Bit (c : BitVec 64) : BitVec 64 := if c.getLsbD 63 then (c <<< 1) ^^^ 0x42F0E1EBA9EA3693#64 else c <<< 1

/-- One byte of CRC-64/ECMA-182. -/
def crc64Byte (c : BitVec 64) (b : Byte) : BitVec 64 :=
  (List.range 8).foldl (fun x _ => crc64Bit x) (c ^^^ (b.zeroExtend 64 <<< 56))

/-- CRC-64/ECMA-182 of a byte run. -/
def crc64 (bs : List Byte) : BitVec 64 := bs.foldl crc64Byte 0

/-- COBS decoding of the bytes before a delimiter (R72); none on an error. -/
def cobsDecode : Nat → List Byte → Option (List Byte)
  | 0, _ => none
  | _ + 1, [] => some []
  | fuel + 1, c :: rest =>
    let k := c.toNat - 1
    if c = 0 ∨ rest.length < k ∨ (rest.take k).contains 0 then none
    else
      match cobsDecode fuel (rest.drop k) with
      | none => none
      | some tail =>
        if (rest.drop k).isEmpty ∨ c = 0xFF then some (rest.take k ++ tail)
        else some (rest.take k ++ 0 :: tail)

/-- What a cell that is not listed reads as (log entry 7). -/
def Mem.blank : BitVec 8 := 0

/-- The canonical form: addresses strictly rising, no cell equal to what an unlisted one reads as. -/
abbrev Mem.wf (m : List Host.Cell) : Prop :=
  (m.map Prod.fst).Pairwise (· < ·) ∧ ∀ c ∈ m, c.2 ≠ Mem.blank

/-- Read one byte. -/
def Mem.read : List Host.Cell → Nat → BitVec 8
  | [], _ => Mem.blank
  | (k, v) :: r, a => if k = a then v else Mem.read r a

/-- Write one byte, keeping the canonical form. -/
def Mem.write : List Host.Cell → Nat → BitVec 8 → List Host.Cell
  | [], a, b => if b = Mem.blank then [] else [(a, b)]
  | (k, v) :: r, a, b =>
    if a < k then (if b = Mem.blank then (k, v) :: r else (a, b) :: (k, v) :: r)
    else if a = k then (if b = Mem.blank then r else (a, b) :: r)
    else (k, v) :: Mem.write r a b

/-- Write bytes from an address on. -/
def Mem.writeBytes : List Host.Cell → Nat → List Byte → List Host.Cell
  | m, _, [] => m
  | m, a, b :: r => Mem.writeBytes (Mem.write m a b) (a + 1) r

/-- Read k bytes from an address on. -/
def Mem.readBytes (m : List Host.Cell) (a : Nat) : Nat → List Byte
  | 0 => []
  | k + 1 => Mem.read m a :: Mem.readBytes m (a + 1) k

end Sys2Proof.Machine
end

