-- ==== Sys2Proof/Machine/TypesCore.lean ====
section
/-!
DEFINITION. The parts of the machine's state, first half: lanes and SERGE, modes and power, the host window, the
command set, the parameter store and the logs (chapters 01 to 04). Each field's default is its reset value; a
default that the spec does not give is log entry 1.
-/

namespace Sys2Proof.Machine

/-- The eight modes (R40). -/
inductive Mode where
  | factory | commissioning | ready | session | degraded | safeStop | service | quarantine
  deriving DecidableEq, Repr

/-- The kinds of transition in the order of R44, lowest number first. -/
inductive ReqKind where
  | toQuarantine | toSafeStop | toDegraded | sessionEnded | other
  deriving DecidableEq, Repr

/-- A mode transition found in a frame (R44): target, kind, and MODE_CAUSE (R64). -/
structure ModeReq where
  target : Mode
  kind : ReqKind
  cause : Nat
  deriving DecidableEq, Repr

/-- The frame clock and the operating mode. Only rows at a tick, at start-up and at a stop write it. -/
structure Clk where
  /-- SERGE's frame counter (R19, R36): the number of the frame that runs, or ran last. -/
  frame : Nat := 0
  /-- Frames run (R42). -/
  running : Bool := false
  /-- Frame m of the present start-up (R57). -/
  startFrame : Nat := 0
  /-- MODE (R64). -/
  mode : Mode := .factory
  /-- MODE_PREVIOUS (R64). -/
  modePrev : Mode := .factory
  /-- MODE_CAUSE (R64). -/
  modeCause : Nat := 0
  deriving DecidableEq, Repr

/-- One register family (R176): the total, its tariff registers T1 to T8 and the estimated part, each in units of
2⁻³² mWh; the mWh value and the residue are its quotient and remainder by 2³² (log entry 2). -/
structure Fam where
  total : Nat := 0
  tariffs : List Nat := [0, 0, 0, 0, 0, 0, 0, 0]
  est : Nat := 0
  deriving DecidableEq, Repr

/-- The energy registers. Only a frame books into them (R177); start-up restores them. -/
structure Regs where
  fams : List Fam := List.replicate 11 {}
  /-- Secondary registers (R178), each in units of 2⁻³² of its own unit. -/
  secondary : List Nat := List.replicate 47 0
  /-- Tariff in force, 1 to 8 (R216). -/
  tariff : Nat := 1
  deriving DecidableEq, Repr

/-- The states of a lane (R36); `trial` is that of R428. -/
inductive LaneSt where
  | off | reset | boot | load | resync | probation | follow | lead | failed | trial
  deriving DecidableEq, Repr

/-- The steps of a lane's repair (R32). -/
inductive RepairStep where
  | selfTest | boot | load | rebuildArray | cloneBank | image | probation
  deriving DecidableEq, Repr

/-- One lane. -/
structure LaneRec where
  st : LaneSt := .reset
  /-- The repair step in progress (R32). -/
  repair : Option RepairStep := none
  /-- Consecutive clean compares in PROBATION (R33). -/
  clean : Nat := 0
  /-- Frames at which repairs of the last 24 h began (R33). -/
  repairs : List Nat := []
  /-- Frame of the latest return as follow after an unresolved dispute (R26 rule 4). -/
  unresolvedReturn : Option Nat := none
  /-- Set while the repair under way was caused by the unresolved rule (R26 rule 4). -/
  unresolvedRepair : Bool := false
  /-- SRAM banks mapped out (R14). -/
  banksOut : BitVec 4 := 0
  /-- The lane's MRAM array is lost (R15). -/
  mramLost : Bool := false
  /-- Crystal of the lane's PLL (R18). -/
  pll : Xtal := .xa
  /-- Frame from which the lane's delta records are void (R27). -/
  voidFrom : Option Nat := none
  /-- A self-detected fault reported in this frame (R26 rule 1). -/
  selfFault : Option Nat := none
  /-- Frame of the lane's latest fault (R22). -/
  faultedAt : Option Nat := none
  /-- The lane had written its delta record of the frame that runs when it was faulted (R190). -/
  wrote : Bool := false
  /-- Frame the lane last reported complete (R74 lane word). -/
  completed : Nat := 0
  deriving DecidableEq, Repr

/-- An event as it arises in a frame (R23, R120): source, code and data, and its place among the events of its source where
a chapter orders them (R158, R175, R235); `mute` where a rule says that this occurrence is no alarm (R356). -/
structure Ev where
  src : Nat
  code : Nat
  data : List Byte
  place : Nat := 0
  mute : Bool := false
  deriving DecidableEq, Repr

/-- A queued SERGE event (R38): its stamp, its code and data, and how many newer entries it replaced. -/
structure SergeEv where
  stamp : Nat
  code : Nat
  data : List Byte
  overflow : Nat := 0
  deriving DecidableEq, Repr

/-- An entry of the general log, the metrology log or the stream (R120). -/
structure LogEntry where
  seq : Nat
  frame : Nat
  rtc : Nat
  code : Nat
  src : Nat
  lead : Nat
  alarm : Bool
  metr : Bool
  continued : Bool
  data : List Byte
  deriving DecidableEq, Repr

/-- A mismatch that awaits its verdict (R24, R25, R477): its frame, whether the compare block and which outputs
differ, the outputs held, and the frame in which an output first differed. -/
structure Dispute where
  frame : Nat
  compare : Bool
  outputs : BitVec 3
  heldOut : BitVec 3
  outFrame : Nat
  /-- The sync request is disputed (R25, R135). -/
  sync : Bool := false
  /-- Remaining lane after a fault for another reason (R477). -/
  lone : Option Lane := none
  deriving DecidableEq, Repr

/-- SERGE, the lanes and what they share (chapter 01). -/
structure Lanes where
  a : LaneRec := {}
  b : LaneRec := { pll := .xb }
  /-- The lead token (R28). -/
  token : Option Lane := none
  /-- The lane to which SERGE grants the token at the next tick (R32). -/
  grant : Option Lane := none
  /-- The window gate after a SERGE fault (R17). -/
  windowGate : Option Lane := none
  sergeFault : Bool := false
  /-- SERGE's event queue (R38). -/
  queue : List SergeEv := []
  dispute : Option Dispute := none
  /-- LANE_FAULT_LAST (R37). -/
  faultLast : Word := 0
  takeovers : Nat := 0
  disputes : Nat := 0
  overruns : Nat := 0
  /-- SLOT_MARGIN_MIN in ns; none seen reads 65,535. -/
  slotMargin : Nat := 65535
  mirrorCorrected : Nat := 0
  followDiscarded : Nat := 0
  tickSource : Xtal := .xa
  xaFailed : Bool := false
  xbFailed : Bool := false
  xaDev : Int := 0
  xbDev : Int := 0
  /-- Frames without tick stop metering (R17). -/
  tickLost : Bool := false
  /-- The new lead settles every slot before its first scan (R87). -/
  settle : Bool := false
  /-- The mirror memory holds a cold follow (R298). -/
  mirrorCold : Bool := false
  /-- Power-enable outputs latched at 75 µs: bit 0 contactor quads on, 1 DC enables on, 2 pilot forced to F (R16). -/
  outputs : BitVec 3 := 0b100#3
  /-- Output request of the frame, before the latch (R19). -/
  request : BitVec 3 := 0b100#3
  alive : Bool := false
  /-- A lane's accepted frame-complete report of the previous frame: bits A, B (R100). -/
  reported : BitVec 2 := 0
  deriving DecidableEq, Repr

/-- Power states (R49). -/
inductive PowerSt where
  | mains | hold | dormant | off
  deriving DecidableEq, Repr

/-- The owner and identity of an open service login (R48). -/
structure Login where
  remote : Bool
  owner : Owner
  number : Nat
  identity : List Byte
  /-- Mode when the login was accepted. -/
  fromMode : Mode
  /-- Frame of the last accepted command of its owner. -/
  lastAccepted : Nat
  deriving DecidableEq, Repr

/-- Modes, power and start-up (chapter 02). -/
structure Power where
  st : PowerSt := .off
  /-- SAFESTOP_CAUSES (R47). -/
  causes : Word := 0
  /-- The class of the fault behind DEGRADED_END is S (R47). -/
  degradedClassS : Bool := false
  /-- Transitions found in the frame (R44). -/
  modeReqs : List ModeReq := []
  login : Option Login := none
  loginCount : Nat := 0
  /-- End of the local login window (R48). -/
  loginWindow : Option Nat := none
  vsys : Nat := 0
  vhold : Nat := 0
  /-- Consecutive ticks with VSYS below 8.5 V, at most 2 (R50). -/
  vsysLow : Nat := 0
  /-- Consecutive frames with VSYS at or above 9.0 V (R50: 10 ms). -/
  vsysGood : Nat := 0
  /-- HOLDUP_CAP (R64). -/
  holdupCap : Nat := 0
  holdupReady : Bool := false
  /-- Frame at which recharging began (R51). -/
  recharge : Option Nat := none
  lastCapMeasure : Nat := 0
  /-- Frame h of the present HOLD (R53). -/
  holdFrame : Nat := 0
  /-- First frame of the final sequence (R55). -/
  finalSeq : Option Nat := none
  startCount : Nat := 0
  resetCount : Nat := 0
  /-- Start-ups without frames, and resets outside frames, that the next start-up adds to the two counts (R58, R60). -/
  lateStarts : Nat := 0
  lateResets : Nat := 0
  /-- RESET_N is low, or its request is sticky (R59). -/
  resetReq : Bool := false
  inReset : Bool := false
  /-- Start-up has not yet set its final mode (R57). -/
  starting : Bool := false
  /-- How frames stopped: KIND of the gap that the next start-up logs (R195); none before the first start-up. -/
  stopped : Option Nat := none
  /-- The gap before frame m, in frames and in RTC seconds (R66 STARTED). -/
  gapFrames : Nat := 0
  gapSecs : Nat := 0
  /-- SERVICE_N is declared stuck, or ignored for chatter (R61). -/
  serviceStuck : Bool := false
  /-- SERVICE_N is ignored for chatter until this frame (R61). -/
  serviceIgnoreUntil : Nat := 0
  /-- Event of the latest cause bit set, for MODE_CAUSE (R64). -/
  causeEv : Nat := 0
  /-- Units held in reset after a failed digest: bits NBPL, BBPL, NFCR, LANE protocol section (R58). -/
  badParts : BitVec 4 := 0
  /-- Units shed in HOLD (R53). -/
  shed : Bool := false
  /-- The grid modem is shed as well (R355). -/
  modemShed : Bool := false
  /-- Factory completion flag; commissioning completed; commissioning reopened (R43, R409). -/
  factoryComplete : Bool := false
  commissioned : Bool := false
  reopened : Bool := false
  deriving DecidableEq, Repr

/-- A slot's state (R81). -/
inductive SlotSt where
  | free | filled | taken | done
  deriving DecidableEq, Repr

/-- One mailbox slot's state word (R81) and the bookkeeping of its service. -/
structure Slot where
  st : SlotSt := .free
  huart : Bool := false
  seq : Nat := 0
  /-- Port of the doorbell write (R81). -/
  rungBy : Bool := false
  /-- Frame of the scan that found the doorbell (R102 MAILBOX_FRAMES_MAX). -/
  foundAt : Nat := 0
  deriving DecidableEq, Repr

/-- A journal entry (R87): request sequence, response bytes, QUIET. -/
structure Journal where
  seq : Nat
  response : List Byte
  quiet : Bool
  deriving DecidableEq, Repr

/-- The shadow of device-side words of a frame (R85): slots that became DONE with their responses and the frame whose
tick releases them (R464), doorbell bits to clear, interrupt bits to set, and memory writes of snapshot buffers and
bulk window. -/
structure Shadow where
  done : List (Nat × Journal × Nat) := []
  bellClear : BitVec 16 := 0
  irqSet : BitVec 9 := 0
  writes : List (Nat × List Byte) := []
  snapHeld : BitVec 3 := 0
  snapFree : BitVec 3 := 0
  /-- This shadow may be released: its delta carries the marker (R85). -/
  marker : Bool := false
  deriving DecidableEq, Repr

/-- The condition of one host port (R71, R73, R101). -/
structure PortRec where
  range : Bool := false
  collision : Bool := false
  crcErr : Bool := false
  busy : Bool := false
  bad : Nat := 0
  good : Nat := 0
  failed : Bool := false
  /-- RESULT of the latest HUART reply (R72, R73). -/
  result : Nat := 0
  /-- Sequence number and result of the last accepted HUART write (R73). -/
  lastSeq : Option (Nat × Nat) := none
  /-- Status byte or reply sent last (R71, R72): what the port shifts out. -/
  out : List Byte := []
  /-- Transactions counted for TEST_PORT_BUSY (R464). -/
  count : Nat := 0
  deriving DecidableEq, Repr

/-- The published identity and status area (R74): the values that stand in the window. -/
structure Published where
  frame : Nat := 0
  mode : Mode := .factory
  hold : Bool := false
  lead : Nat := 0
  clockStatus : Nat := 0
  causes : Word := 0
  rtc : Nat := 0
  startCount : Nat := 0
  newestSeq : Nat := 0
  portStatus : Word := 3
  /-- The job table and the bulk state word as the latest release left them (R85, R91, R98). -/
  jobs : List Byte := List.replicate 64 0
  bulk : Nat := 0
  deriving DecidableEq, Repr

/-- The host window (chapter 03). -/
structure Win where
  doorbell : BitVec 16 := 0
  doneWord : BitVec 16 := 0
  heartbeat : Word := 0
  readIndex : Nat := 0
  writeIndex : Nat := 0
  eventLost : Nat := 0
  /-- Events omitted since the ring was found full: count and first SEQ (R96). -/
  omitted : Nat := 0
  omittedFirst : Nat := 0
  /-- Log entries of the frame that wait for the release (R95). -/
  stream : List LogEntry := []
  irqStatus : BitVec 9 := 0
  irqEnable : BitVec 9 := 0x1FF
  slots : List Slot := List.replicate 16 {}
  journal : List (Option Journal) := List.replicate 16 none
  shadow : Shadow := {}
  /-- The doorbells of the frame have been scanned (R84). -/
  scanned : Bool := false
  /-- Window RAM: request and response halves, snapshot buffers, event ring, stage exchange, bulk window. -/
  mem : List (Nat × BitVec 8) := []
  snapHeld : BitVec 3 := 0
  /-- Values of the last frame published before an open mismatch, for snapshots (R24, R93). -/
  heldVals : List (Nat × List Byte) := []
  hspi : PortRec := {}
  huart : PortRec := {}
  pub : Published := {}
  /-- The lead's copy of the host half of the stage exchange, its sequence word, and whether fresh (R97). -/
  stage : List Byte := []
  stageSeq : Nat := 0
  stageMisses : Nat := 0
  stageFreshFrame : Nat := 0
  stageFresh : Bool := false
  leadSeq : Nat := 0
  /-- Host presence (R101): the heartbeat value read last, the periods missed in a row, the frame of the last reading; the
  frame of loss. -/
  beatSeen : Word := 0
  beatMissed : Nat := 0
  beatFrame : Nat := 0
  hostPresent : Bool := false
  lostFrame : Nat := 0
  everPresent : Bool := false
  crcErrors : Nat := 0
  frameErrors : Nat := 0
  hspiCollisions : Nat := 0
  huartCollisions : Nat := 0
  protocolErrors : Nat := 0
  streamLost : Nat := 0
  framesMax : Nat := 0
  deriving DecidableEq, Repr

/-- What the bulk window carries (R98). -/
inductive BulkUse where
  | record | signature | auth | enrol | image
  deriving DecidableEq, Repr

/-- The open bulk operation (R98): its use, its job or slot, the next chunk, whether it carries data to the host, the
whole length and the data of chunks accepted or being sent. -/
structure Bulk where
  use : BulkUse
  owner : Nat
  next : Nat
  toHost : Bool
  length : Nat
  data : List Byte
  deriving DecidableEq, Repr

/-- The kinds of job (R91). -/
inductive JobKind where
  | signing | staging | verify | authSwap | calendar | scrub | derive
  deriving DecidableEq, Repr

/-- A job table entry (R91) with the numbers its kind needs. -/
structure Job where
  id : Nat
  st : Nat
  owner : Nat
  progress : Nat
  result : Nat
  kind : JobKind
  arg : Nat
  /-- A final atomic step is under way (R92). -/
  final : Bool := false
  /-- A cancel waits for the next step boundary (R92). -/
  cancelling : Bool := false
  deriving DecidableEq, Repr

/-- One staged entry of a pending set (R114): a scalar value, or block bytes from an offset. -/
inductive Staged where
  | num (id : Nat) (v : Int)
  | blk (id off : Nat) (bytes : List Byte)
  deriving DecidableEq, Repr

/-- A pending set (R114). -/
structure Pending where
  serial : Nat := 0
  entries : List Staged := []
  deriving DecidableEq, Repr

/-- A record of the durable outcome ring (R88). -/
structure Outcome88 where
  tag : Nat
  cmd : Nat
  result : Nat
  frame : Nat
  deriving DecidableEq, Repr

/-- A reply to an ACS command (R80, R107). -/
structure Reply where
  cmd : Nat := 0
  tag : Nat := 0
  result : Nat := 0
  payload : List Byte := []
  job : Nat := 0
  frame : Nat := 0
  deriving DecidableEq, Repr

/-- The command set's own state (chapter 04, and jobs of chapter 03). -/
structure Acs where
  /-- The latest reply. -/
  reply : Reply := {}
  durable : List Outcome88 := []
  jobs : List Job := []
  /-- Jobs of the controller's own that wait for a place (R89). -/
  jobsWait : List Job := []
  /-- The job that took the latest step (R90). -/
  jobTurn : Nat := 0
  nextJob : Nat := 1
  hostSet : Pending := {}
  /-- Pending sets of the DLMS associations (R114). -/
  assocSets : List (Nat × Pending) := []
  /-- Writes and commits that take effect at the next tick (R113, R115). -/
  nextTick : List Staged := []
  commitCount : Nat := 0
  metrChanges : Nat := 0
  sealOpen : Bool := false
  /-- The seal was opened and has not been closed (R43). -/
  sealPending : Bool := false
  commitDone : Bool := false
  modeDone : Bool := false
  bulk : Option Bulk := none
  /-- The mailbox slot that is being served (R84); 0 outside mailbox service. -/
  slotNow : Nat := 0
  /-- Sent to TEST_ENROL_TOKEN and not yet consumed (R466). -/
  testToken : List Byte := []
  deriving DecidableEq, Repr

/-- The parameter store: values that differ from the default, in rising ID order (R111 to R115). -/
structure Params where
  nums : List (Nat × Int) := []
  blocks : List (Nat × List Byte) := []
  deriving DecidableEq, Repr

/-- Logs (R120 to R122): events of the frame in order of arrival, the general log and the metrology log. -/
structure Log where
  now : List Ev := []
  /-- Alarms logged whose bits have still to enter the alarm register (R357). -/
  alarms : List Nat := []
  nextSeq : Nat := 0
  general : List LogEntry := []
  metr : List LogEntry := []
  /-- Entries of this frame that also go to the metrology log. -/
  metrNow : List Ev := []
  deriving DecidableEq, Repr

end Sys2Proof.Machine
end

