-- ==== Sys2Proof/Machine/TypesMeter.lean ====
section
/-!
DEFINITION. The parts of the machine's state for sampling, metrology, the ledger, tariffs, billing and the display
(chapters 05 to 08). Each field's default is its reset value; a default that the spec does not give is log entry 1.
-/

namespace Sys2Proof.Machine

/-- One decimator channel of a bank (R128 to R133): the integrators and combs of the sinc⁴ stage, the delay lines of
the five half-band stages (newest first), the integrator's previous input and its state. -/
structure Decim where
  integ : List (BitVec 40) := [0, 0, 0, 0]
  comb : List (BitVec 40) := [0, 0, 0, 0]
  lines : List (List Int) := [[], [], [], [], []]
  x5prev : Int := 0
  y : BitVec 40 := 0
  deriving DecidableEq, Repr

/-- One main channel (R124): its decimator, its sample and flags of the frame, and its supervision. -/
structure Chan where
  dec : Decim := {}
  /-- SAMPLE of R132, and bits 31:24 of the sample word: VALID, FILL, INT_SETTLE, OVER, MOD_OVL, MOD_FAULT, SCS,
  OFF from bit 0 up. -/
  sample : Int := 0
  flags : BitVec 8 := 0x80
  /-- Samples still to carry FILL and INT_SETTLE (R134, R136). -/
  fill : Nat := 40
  settle : Nat := 0
  /-- Samples still to carry MOD_OVL and MOD_FAULT (R127). -/
  ovl : Nat := 0
  modFault : Nat := 0
  /-- Consecutive frames in which the activity check failed or passed (R127). -/
  badFrames : Nat := 0
  goodFrames : Nat := 0
  faulty : Bool := false
  /-- Declared faulty by the activity check (R127, R459). -/
  inactive : Bool := false
  /-- Overrange episode open; frames since the last OVER (R147). -/
  overOpen : Bool := false
  overQuiet : Nat := 0
  overCount : Nat := 0
  faultCount : Nat := 0
  density : Nat := 0
  scsResult : Int := 0
  /-- The modulator bits of the latest three frames, newest first (R139). -/
  recent : List (BitVec 512) := []
  /-- Frame at whose tick the mode in use took effect (R140). -/
  modeAt : Nat := 0
  /-- Mode, gain and integrator in use: CH_MODE, CH_PGA, CH_INTEG, CH_INT_LEAK, CH_INT_SCALE (R140). -/
  mode : Nat := 1
  pga : Nat := 0
  integOn : Bool := false
  leak : Nat := 9
  scale : Nat := 1287
  /-- Frame in which a change of mode was committed (R140). -/
  changeAt : Option Nat := none
  deriving DecidableEq, Repr

/-- A sync decided or pending (R135 to R137). -/
structure SyncReq where
  frame : Nat
  fromPin : Bool
  fromHost : Bool
  force : Bool
  deriving DecidableEq, Repr

/-- An auxiliary result (R142). -/
structure AuxRes where
  value : Int := 0
  frame : Nat := 0
  valid : Bool := false
  deriving DecidableEq, Repr

/-- The pilot sampler word (R144). -/
structure PilotWord where
  posMv : Int := 0
  negMv : Int := 0
  period : Nat := 0
  newPos : Bool := false
  newNeg : Bool := false
  short : Bool := false
  noPwm : Bool := false
  refFail : Bool := false
  deriving DecidableEq, Repr

/-- Sampling (chapter 05). -/
structure Samp where
  chans : List Chan := List.replicate 18 {}
  /-- Syncs decided and not yet reset (R135), and the deferred one (R137). -/
  syncs : List SyncReq := []
  syncPend : Option SyncReq := none
  syncCount : Nat := 0
  syncLast : Nat := 0
  /-- SYNC_IN edges are ignored until this frame (R135). -/
  syncIgnoreUntil : Nat := 0
  aux : List AuxRes := List.replicate 34 {}
  ref1 : Int := 0
  ref2 : Int := 0
  /-- Position in the pass: 0 and 1 are the references, then the list (R142). -/
  auxPos : Nat := 0
  /-- Frame of the latest result, or frame m before the first (R141). -/
  auxAt : Nat := 0
  /-- The scan list in use. -/
  scan : List Nat := [1, 2, 3, 4, 5, 6, 7, 8, 9, 10, 11, 12, 13, 14, 15, 16]
  auxFaulty : Bool := false
  auxRefLogged : Bool := false
  pilot : PilotWord := {}
  deriving DecidableEq, Repr

/-- An estimation episode (R161, R162). -/
structure Estim where
  isOpen : Bool := false
  frames : Nat := 0
  /-- Energy booked in the episode, 2⁻³² mWh. -/
  energy : Int := 0
  /-- Frames of the episode that MOD_OVL or MOD_FAULT caused (R162). -/
  limited : Nat := 0
  /-- Bit number of the sample word's flag that caused it (R132). -/
  cause : Nat := 0
  /-- The limit of R162 is past: the measurement gap runs, for so many frames. -/
  stopped : Bool := false
  gapFrames : Nat := 0
  /-- METER_GAP is logged (R162). -/
  gapped : Bool := false
  /-- First frame of the episode. -/
  since : Nat := 0
  deriving DecidableEq, Repr

/-- An episode of a metrology event (R163): cycles for which its criterion has held, whether open, its extreme value,
the frame it began. -/
structure Episode where
  count : Nat := 0
  isOpen : Bool := false
  extreme : Int := 0
  since : Nat := 0
  deriving DecidableEq, Repr

/-- The end of a cycle, kept for the reactive quantities that follow 255 frames later (R156, R159): the frame of the
crossing, its fraction in 2⁻¹⁶ frame, P of the cycle that it ended, and whether that cycle was discarded. -/
structure Mark where
  frame : Nat
  frac : Nat
  p : Int
  bad : Bool
  deriving DecidableEq, Repr

/-- One phase of one AC side (R153 to R161). -/
structure Phase where
  metered : Bool := false
  /-- Calibrated voltages and currents, newest first (R156). -/
  uLine : List Int := []
  iLine : List Int := []
  /-- The frame's u, i, p and q. -/
  u : Int := 0
  i : Int := 0
  p : Int := 0
  q : Int := 0
  /-- Sums of the open cycle window with Q16 weights (R159). -/
  sumP : Int := 0
  sumU2 : Nat := 0
  sumI2 : Nat := 0
  sumW : Nat := 0
  sumQ : Int := 0
  sumQW : Nat := 0
  /-- The open window holds an estimated frame. -/
  tainted : Bool := false
  /-- Cycle ends whose reactive part is still to come, oldest first. -/
  marks : List Mark := []
  /-- Results of the last complete valid cycle: pW, µV, µA, milli-degrees. -/
  cp : Int := 0
  cq : Int := 0
  urms : Nat := 0
  irms : Nat := 0
  angle : Int := 0
  /-- A complete valid cycle exists; it may be from before a sync while `wait` is set (R155, R174). -/
  valid : Bool := false
  wait : Bool := true
  stale : Bool := false
  lowI : Bool := false
  /-- Accumulators A and B of R154 and R156. -/
  accA : Int := 0
  accB : Int := 0
  /-- Own crossing detector, for the angles between voltages: below the threshold since, time of the latest crossing in
  2⁻¹⁶ frame. -/
  armed : Bool := false
  crossAt : Nat := 0
  /-- The sample of the previous frame was valid (R161). -/
  prevOk : Bool := false
  est : Estim := {}
  sag : Episode := {}
  swell : Episode := {}
  cwv : Episode := {}
  /-- Cycles for which CURRENT_WITHOUT_VOLTAGE is suspended (R163). -/
  cwvHold : Nat := 0
  deriving DecidableEq, Repr

/-- One AC side (R158, R159). -/
structure AcSide where
  phases : List Phase := List.replicate 3 {}
  accA : Int := 0
  accB : Int := 0
  /-- Reference phase, 0 to 2. -/
  refPhase : Nat := 0
  /-- A window is open: a crossing has counted. -/
  windowOpen : Bool := false
  /-- A crossing of the frame that ZERO_CROSSING has still to close: its fraction. -/
  pending : Option Nat := none
  /-- Times of the latest counting crossings, newest first, at most 11 (R160). -/
  crossings : List Nat := []
  freq : Nat := 0
  angle12 : Nat := 0
  angle13 : Nat := 0
  /-- p₁ + p₂ + p₃ of the frame, pW. -/
  pInst : Int := 0
  /-- A phase is in estimation; a phase books nothing for its estimation limit (R161, R162). -/
  est : Bool := false
  gap : Bool := false
  /-- Neutral voltage and current over the open window: weight and sums; and the RMS of the last window (R174). -/
  sumW : Nat := 0
  sumUn : Nat := 0
  sumIn : Nat := 0
  unRms : Nat := 0
  inRms : Nat := 0
  deriving DecidableEq, Repr

/-- One pulse output (R164, R165). -/
structure Pulse where
  /-- Growth of the source energy since the constant was set, in 2⁻³² mWh. -/
  energy : Nat := 0
  emitted : Nat := 0
  level : Bool := false
  startAt : Nat := 0
  lastEnd : Nat := 0
  owedLogged : Bool := false
  deriving DecidableEq, Repr

/-- A calibration accumulation (R168, R172): state, cycles asked and done, first and last frame, frames summed, and the
sums of u², i², p and q per phase, of the DC quantities and of the raw samples. -/
structure CalAcc where
  state : Nat := 0
  n : Nat := 0
  cycles : Nat := 0
  first : Nat := 0
  last : Nat := 0
  frames : Nat := 0
  armed : Bool := false
  bad : Bool := false
  sums : List Int := List.replicate 45 0
  /-- Frames and sums at the end of the latest complete cycle. -/
  keptFrames : Nat := 0
  kept : List Int := List.replicate 45 0
  deriving DecidableEq, Repr

/-- The DC side (R154, R155, R161). -/
structure DcSide where
  metered : Bool := false
  u : Int := 0
  i : Int := 0
  p : Int := 0
  /-- The last 80 valid frames, newest first. -/
  us : List Int := []
  is : List Int := []
  ps : List Int := []
  acc : Int := 0
  est : Estim := {}
  deriving DecidableEq, Repr

/-- Metrology (chapter 06). -/
structure Metr where
  grid : AcSide := {}
  outlet : AcSide := {}
  dcs : DcSide := {}
  /-- The latest eight samples of each channel with their flags, newest first (R149). -/
  delay : List (List (Int × BitVec 8)) := List.replicate 18 []
  /-- Calibrated values of the frame, one per channel (R148). -/
  cal : List Int := List.replicate 18 0
  /-- Temperature terms g_T and φ_T in use, one pair per channel (R151). -/
  tc : List (Int × Int) := List.replicate 18 (0, 0)
  /-- Temperatures of the 17 inputs in 0.01 °C, whether valid, whether the episode is logged (R151, R152). -/
  temps : List Int := List.replicate 17 2500
  tempOk : List Bool := List.replicate 17 false
  tempLogged : List Bool := List.replicate 17 false
  wrongSeq : Episode := {}
  missNeutral : Episode := {}
  freqOut : Episode := {}
  /-- REVERSE_ENERGY per grid, outlet, DC: episode, reference of R478 and the frame export last grew. -/
  reverse : List Episode := List.replicate 3 {}
  revRef : List Nat := [0, 0, 0]
  revLast : List Nat := [0, 0, 0]
  pulses : List Pulse := List.replicate 3 {}
  acc : CalAcc := {}
  metrSetCheck : Nat := 0
  /-- Net active energies of the grid and of the session's outlet at session start (R167). -/
  balGrid : Int := 0
  balOut : Int := 0
  deriving DecidableEq, Repr

/-- A Soger record: its number, its 1,024-byte body (R197), SIGN_STATE, what the end needs of the start, and the
signature of the flash store (R199). -/
structure Record where
  number : Nat
  body : List Byte := []
  /-- 0 open, 1 pending, 2 signed, 3 unsigned. -/
  signState : Nat := 0
  startFrame : Nat := 0
  endFrame : Nat := 0
  /-- Total, T1 to T8 and the estimated part of the outlet's import, outlet's export, grid import and grid export at
  the checkpoint of the start frame. -/
  startFams : List Fam := []
  signature : List Byte := []
  /-- The flash gave an uncorrectable word of the signature (R12). -/
  sigBad : Bool := false
  deriving DecidableEq, Repr

/-- A demand measurement (R220 to R222, R225): interval start, end of the last closed interval, SHORT, the source
total at the interval start, closed sub-intervals newest first with SHORT, the last value with its flags, and the maxima
(overall, T1 to T8) with their times. -/
structure Demand where
  start : Nat := 0
  lastEnd : Nat := 0
  short : Bool := false
  base : Nat := 0
  subs : List (Nat × Bool) := []
  /-- Index of the open sub-interval within the period (R225). -/
  subIndex : Nat := 0
  last : Nat := 0
  lastShort : Bool := false
  maxima : List (Nat × Nat) := List.replicate 9 (0, 0)
  deriving DecidableEq, Repr

/-- A billing snapshot (R224). -/
structure Snap where
  period : Nat
  frame : Nat
  endTime : Nat
  startTime : Nat
  cause : Nat
  status : Nat
  flags : Nat
  fams : List Fam
  maxima : List (List (Nat × Nat))
  chain : BitVec 256
  deriving DecidableEq, Repr

/-- The tariff, demand and billing state that a checkpoint holds (R225). -/
structure TarCk where
  tn : Nat := 0
  tariff : Nat := 1
  status : Nat := 2
  armed : Option Nat := none
  dst : Bool := false
  pendingCause : Nat := 0
  billLast : Nat := 0
  billCount : Nat := 0
  demands : List Demand := List.replicate 3 {}
  activeCheck : Nat := 0
  deriving DecidableEq, Repr

/-- A checkpoint as kept (R186 to R189). -/
structure Ckpt where
  seq : Nat := 0
  frame : Nat := 0
  tariff : Nat := 1
  mode : Nat := 0
  flags : Nat := 0
  est : Nat := 0
  rtc : Nat := 0
  causes : Nat := 0
  prevChain : BitVec 256 := 0
  fams : List Fam := List.replicate 11 {}
  acc : List Int := [0, 0, 0, 0]
  secondary : List Nat := List.replicate 47 0
  secAcc : List Int := List.replicate 13 0
  pulses : List (Nat × Nat) := List.replicate 3 (0, 0)
  /-- Number of the open session's record, 0 when none; its OUTLET_KIND, SESSION_STATE and authorisation as a record holds
  it. -/
  session : Nat := 0
  sesKind : Nat := 0
  sesState : Nat := 0
  sesAuth : List Byte := []
  /-- The monotonic counters by parameter ID (R189). -/
  counters : List (Nat × Nat) := []
  tar : TarCk := {}
  /-- HSW1 to HSW8 and the lock bridge: latched, and the cause of the last protection off. -/
  latches : List (Bool × Nat) := List.replicate 9 (false, 0)
  chain : BitVec 256 := 0
  deriving DecidableEq, Repr

/-- A delta record (R184) in its fields. -/
structure Delta where
  frame : Nat
  baseSeq : Nat
  tariff : Nat
  flags : Nat
  mode : Nat
  est : Nat
  inc : List Nat
  acc : List Int
  pulseInc : List Nat
  otherVoid : Nat
  deriving DecidableEq, Repr

/-- One lane's MRAM array as far as the ledger uses it (R180, R181): the lane in its header, and the records that stand in
the slots of the delta ring and of the checkpoints, the one written last first. -/
structure Mram where
  header : Lane := .a
  deltas : List Delta := []
  ckpts : List Ckpt := [{}]
  deriving DecidableEq, Repr

/-- A gap log entry (R195). -/
structure Gap where
  frame : Nat
  from_ : Nat
  until_ : Nat
  startMs : Nat
  kind : Nat
  side : Nat
  duration : Nat
  deriving DecidableEq, Repr

/-- A load profile entry (R202). -/
structure LpEntry where
  time : Nat
  status : Nat
  tariff : Nat
  values : List Nat
  deriving DecidableEq, Repr

/-- A load profile (R201, R202): its entries, newest first; entries written in all; the boundary captured last; the
latest one of all; and the status bits that the open period has collected. -/
structure Profile where
  entries : List LpEntry := []
  written : Nat := 0
  lastBoundary : Nat := 0
  /-- The latest boundary of any entry (R201). -/
  latest : Nat := 0
  status : Nat := 0
  deriving DecidableEq, Repr

/-- The ledger (chapter 07). -/
structure Led where
  arrayA : Mram := {}
  arrayB : Mram := { header := .b }
  /-- The base of the delta records and of the published counters: the latest verified checkpoint (R190). -/
  base : Ckpt := {}
  /-- EST since the base (R186). -/
  est : BitVec 6 := 0
  /-- Causes for which a checkpoint is due in the frame: bits in the order of R187. -/
  due : BitVec 8 := 0
  /-- An estimation checkpoint waits (R187). -/
  estWaits : Bool := false
  /-- The frame that runs has not yet been committed. -/
  uncommitted : Bool := false
  /-- FLAGS of the frame in which frames stopped, as they stood before the stop (R185). -/
  flagsHeld : Option Nat := none
  records : List Record := []
  /-- RECORD_NUMBER: the number allocated last. -/
  recordNumber : Nat := 0
  /-- The start or the end of a record whose readings the frame's checkpoint gives. -/
  startMark : Option Nat := none
  endMark : Option Nat := none
  profiles : List Profile := [{}, {}]
  gaps : List Gap := []
  gapCount : Nat := 0
  recoveries : Nat := 0
  recordsUnsigned : Nat := 0
  mramCorrected : Nat := 0
  /-- Frame of the latest scrub (R183). -/
  scrubFrame : Nat := 0
  deriving DecidableEq, Repr

/-- Clock, tariffs and billing (chapter 08). -/
structure Tar where
  /-- RTC seconds from 2000-01-01 UTC, and its sub-second count in 2⁻¹⁵ s, as latched at the tick (R206). -/
  rtc : Nat := 0
  sub : Nat := 0
  /-- CLOCK_STATUS: 0 VALID, 1 DOUBTFUL, 2 INVALID (R208). -/
  status : Nat := 2
  /-- What RTC_TRIM owes of a crystal period, in 10⁻⁹ of one (R207). -/
  trimOwed : Int := 0
  /-- Status decided for the next tick, with the cause of CLOCK_STATUS_CHANGED (R209). -/
  nextStatus : Option (Nat × Nat) := none
  /-- Time to load at the next tick, with the source of the set (R210). -/
  load : Option (Nat × Nat) := none
  /-- The RTC was loaded for the tick that comes (R210). -/
  loaded : Bool := false
  /-- Step to apply in this frame's tariff step, s (R218). -/
  step : Option Int := none
  lastSet : Nat := 0
  lastStep : Int := 0
  setCount : Nat := 0
  rtcDev : Int := 0
  /-- Consecutive measurements with a deviation above 200 ppm (R209). -/
  driftCount : Nat := 0
  driftLogged : Bool := false
  /-- RTC time of the last CLOCK_SET from the head-end (R209). -/
  headEndSet : Nat := 0
  dst : Bool := false
  active : List Byte := []
  passiveCheck : Nat := 0
  activeCheck : Nat := 0
  /-- Armed activation time (R215). -/
  armed : Option Nat := none
  /-- The tariff of action 5, in force from the next tick (R217). -/
  nextTariff : Nat := 1
  switchCount : Nat := 0
  demands : List Demand := List.replicate 3 {}
  billCount : Nat := 0
  billLast : Nat := 0
  /-- Cause of a pending BILLING_CLOSE and the frame in which it was executed (R223). -/
  billPending : Option (Nat × Nat) := none
  /-- Flags of the open billing period (R224). -/
  billFlags : Nat := 0
  snaps : List Snap := []
  deriving DecidableEq, Repr

/-- What the display shows while a dispute holds publication (R24, R227): the registers, the quantities and the tariff
state of the last frame published. -/
structure HeldView where
  regs : Regs
  metr : Metr
  tar : Tar
  deriving DecidableEq, Repr

/-- The display (R226 to R230). -/
structure Disp where
  /-- Position in the scroll sequence: 0 and 1 are items 98 and 99, then DISP_LIST (R228). -/
  item : Nat := 0
  page : Nat := 0
  /-- Frame at which the page shown began. -/
  since : Nat := 0
  /-- Automatic scrolling is stopped since the step of this frame (R230). -/
  manual : Option Nat := none
  lastStep : Nat := 0
  /-- Display memory: 48 segment lines by 4 commons (R226). -/
  segments : List (BitVec 4) := List.replicate 48 0
  /-- The segment test item is shown until this frame (R230). -/
  segTest : Option Nat := none
  /-- View of a demand item: 0 its value, 1 its local date, 2 its local time (R229). -/
  alt : Nat := 0
  /-- The view kept while a dispute holds publication (R24, R227). -/
  held : Option HeldView := none
  /-- DISP_BTN is stuck; for chatter it is ignored until a frame (R230). -/
  btnStuck : Bool := false
  btnIgnoreUntil : Nat := 0
  deriving DecidableEq, Repr

end Sys2Proof.Machine
end

