-- ==== Sys2Proof/Machine/TypesLink.lean ====
section
/-!
DEFINITION. The parts of the machine's state for the vehicle link, the session, the safety functions, the load
switches, the grid link, the contactless units, keys and tamper, update and diagnostics (chapters 09 to 17). Each
field's default is its reset value; a default that the spec does not give is log entry 1.
-/

namespace Sys2Proof.Machine

/-- Pilot waveforms (R62, R237): steady +12 V, high-level-communication duty, a duty in 10⁻⁴, forced F, and 0 V through the
passive pull-down. -/
inductive PilotWave where
  | steady | hlc | duty (d : Nat) | forceF | pullDown
  deriving DecidableEq, Repr

/-- SLAC states (R244). -/
inductive Slac where
  | idle | waiting | sounding | matched | failed
  deriving DecidableEq, Repr

/-- How the vehicle is spoken to (R244, R245): no session, SLAC offered, digital communication, basic charging, pilot
steady until the vehicle has passed through B. -/
inductive VLink where
  | none | slac | hlc | basic | off
  deriving DecidableEq, Repr

/-- Response codes of the V2G messages, by what they say (R246 to R248, R253). -/
inductive RespCode where
  | ok | failed | noNegotiation
  deriving DecidableEq, Repr

/-- The controller's response to the latest message of the vehicle (R246 to R261): its code; whether the process it reports
on has finished; that it asks the vehicle to stop (R255); that the station has shut down (R261); and the numbers it carries. -/
structure V2gResp where
  code : RespCode
  finished : Bool
  stop : Bool
  shutdown : Bool
  values : List Int := []
  deriving DecidableEq, Repr

/-- Pilot, proximity and vehicle PLC (R237 to R249, R264, R265). -/
structure Veh where
  /-- The waveform requested, latched by SERGE, and applied at CP_OUT (R239). -/
  request : PilotWave := .forceF
  latched : PilotWave := .forceF
  applied : PilotWave := .pullDown
  /-- Accepted pilot state and its frame; the candidate with its count of consecutive plateaus (R241, R242). -/
  st : PilotSt := .a
  stAt : Nat := 0
  cand : PilotSt := .a
  candCount : Nat := 0
  noOfferLogged : Bool := false
  stateCount : Nat := 0
  /-- Proximity: the decoding of the latest result and how many alike (R243); the rating accepted in mA, 0 none,
  0xFFFFFFFF INVALID; the resistance in Ω. -/
  cableCand : Nat := 0
  cableCount : Nat := 0
  cable : Nat := 0
  ppRes : Nat := 0xFFFFFFFF
  /-- Network membership keys drawn (R244). -/
  netKeys : Nat := 0
  link : VLink := .none
  slac : Slac := .idle
  /-- Sounds expected and the sounding window in ms, as CM_SLAC_PARM.CNF gave them (R244). -/
  slacCnf : Nat × Nat := (0, 0)
  /-- Frame of the first HLC period (R244). -/
  slacSince : Nat := 0
  evccid : BitVec 48 := 0
  atten : Nat := 0
  beaconAt : Nat := 0
  beaconMisses : Nat := 0
  /-- Security of the SDP answer: TLS or TCP (R247). -/
  sdp : Option Bool := none
  proto : Option Proto := none
  /-- A V2G session is open; payment options offered; Plug & Charge and BPT selected (R246, R249, R252). -/
  v2g : Bool := false
  offered : Nat := 0
  pnc : Bool := false
  bpt : Bool := false
  /-- External identification only, for later V2G sessions of the connection (R248). -/
  extOnly : Bool := false
  /-- Contract validation: 0 none, 1 running, 2 valid, 3 refused, 4 waits for the host (R248). -/
  contract : Nat := 0
  contractSince : Nat := 0
  emaid : List Byte := []
  evMaxV : Nat := 0
  evMaxI : Nat := 0
  evMaxP : Nat := 0
  evKnown : Bool := false
  soc : Nat := 255
  /-- A PowerDelivery start was answered OK; the charging loop runs since its latest request (R245, R253). -/
  powerOn : Bool := false
  lastLoop : Option Nat := none
  /-- The response to the latest message of the vehicle (R246 to R261). -/
  answer : Option V2gResp := none
  linkLost : Nat := 0
  deriving DecidableEq, Repr

/-- An authorisation (R251, R252): AUTH_MEANS, identifier, and when it expires unused. -/
structure Auth where
  means : Nat
  id : List Byte
  expiry : Option Nat
  deriving DecidableEq, Repr

/-- The charging session and the limits (R250 to R263). -/
structure Ses where
  isOpen : Bool := false
  /-- SESSION_STATE (R251). -/
  st : Nat := 0
  /-- SESSION_RECORD: record of the open or last session. -/
  number : Nat := 0
  startFrame : Nat := 0
  /-- The outlet's import total at the start, 2⁻³² mWh, for SESSION_ENDED. -/
  startTotal : Nat := 0
  /-- Take-overs and executed syncs counted at the start (R197). -/
  takeovers0 : Nat := 0
  syncs : Nat := 0
  /-- A start is decided in every frame (R250); the cause of the refusal logged last, 0 none. -/
  startPending : Bool := false
  refused : Nat := 0
  /-- State A must be accepted before another session (R250). -/
  waitA : Bool := false
  auth : Option Auth := none
  /-- A card that waits for the host, and a card kept behind a contract under validation (R252). -/
  request : Option (List Byte × Nat) := none
  heldCard : Option (List Byte) := none
  /-- Ordered stop (R255): end cause and the frame it began. -/
  stop : Option (Nat × Nat) := none
  endedAt : Option Nat := none
  /-- The lock is to be released once the outlet is proved open (R254). -/
  unlockDue : Bool := false
  paused : Bool := false
  /-- Frame of the pause whose outlet is still to be opened (R258). -/
  pauseOpen : Option Nat := none
  /-- Frame since which the limit has been at or above 6,000 mA while paused (R258). -/
  limitOk : Option Nat := none
  /-- Frame at which the host-loss grace began (R262). -/
  grace : Option Nat := none
  /-- Applied limits (R257): per phase mA; DC charge mA and mW; DC discharge mA and mW; the binding input. -/
  limits : List Nat := [0, 0, 0]
  limitDc : Nat := 0
  limitP : Nat := 0
  limitDis : Nat := 0
  limitDisP : Nat := 0
  binding : Nat := 0
  /-- FLAGS of the record (R198). -/
  flags : Word := 0
  deriving DecidableEq, Repr

/-- The DC transfer (R259 to R261). -/
structure Dc where
  /-- 0 none, 1 cable check, 2 pre-charge, 3 transfer, 4 ramp-down. -/
  phase : Nat := 0
  discharge : Bool := false
  targetV : Int := 0
  targetI : Int := 0
  stopFlags : Nat := 0
  okCount : Nat := 0
  /-- Frame at which the current was ramped to 0 before the DC enables open. -/
  rampStart : Option Nat := none
  preReady : Bool := false
  /-- Frame at which phase 1 began, and STAGE_TIMEOUT already found. -/
  startedAt : Nat := 0
  stageLost : Bool := false
  deriving DecidableEq, Repr

/-- A safety input channel (R286 to R290): SERGE's accepted level, the firmware's accepted level with its candidate
count, the raw level with the frames since it changed, and chatter. -/
structure SafeCh where
  level : Bool := true
  fw : Bool := true
  fwCount : Nat := 0
  raw : Bool := true
  stable : Nat := 0
  chatter : Bool := false
  deriving DecidableEq, Repr

/-- One quad switch of a contactor (R282, R283): on, failed 0 no, 1 open, 2 shorted, consecutive failed proofs. -/
structure QuadSw where
  on : Bool := false
  failed : Nat := 0
  missed : Nat := 0
  deriving DecidableEq, Repr

/-- Safety functions (chapter 10). -/
structure Saf where
  /-- Trip latches, bit f for function f (R268, R270), and functions tripped since SAFETY_TRIP was set (R47). -/
  trips : BitVec 16 := 0
  since : BitVec 16 := 0
  /-- Function and tier of each trip logged since its function was last re-armed or cleared (R272, R278). -/
  tiers : List (Nat × Nat) := []
  /-- Faults of class S found and not known to have gone: 0 weld, 1 contactor, 2 path M, 3 comparator, 4 input, 5 pilot,
  6 insulation monitor, 7 UGN, 8 set mismatch, 9 mirror memory, 10 path S, 11 second quad switch, 12 ESTOP_LATCH. -/
  sFaults : BitVec 16 := 0
  tripLast : Word := 0
  tripFrame : Option Nat := none
  /-- Frame of the latest crossing per fast-trip input, and comparators that failed their test (R275, R276). -/
  ftLast : List (Option Nat) := List.replicate 4 none
  ftFailed : BitVec 4 := 0
  ftTestDue : Bool := false
  ftTestAt : Nat := 0
  /-- IRC values newest first (R278), consecutive frames per tier, quiet frames (R279), M_160 and A. -/
  rc : List Int := []
  rcHold : List Nat := [0, 0, 0, 0]
  rcQuiet : Nat := 0
  m160 : Int := 0
  rcA : Nat := 0
  rcTestDue : Bool := false
  rcTestAt : Nat := 0
  fluxBad : Nat := 0
  pathMLost : Bool := false
  pathSLost : Bool := false
  quads : List QuadSw := List.replicate 8 {}
  quadNext : Nat := 0
  /-- Frame of the latest pull-in or open request, and of the latest proof (R282). -/
  quadAt : Option Nat := none
  proofAt : Option Nat := none
  /-- Coils pulled in or held (R332): frame of the pull-in, economiser on. -/
  pullAt : Option Nat := none
  economiser : Bool := false
  /-- Frame of the latched close whose check is due; the closing check has passed (R284). -/
  closeAt : Option Nat := none
  closeOk : Bool := false
  /-- Opening check (R285): frame of the latched open, 0 idle, 1 running, 2 passed, 3 failed; SERGE's part done; frame
  from which the DC decay counts. -/
  openAt : Nat := 0
  openSt : Nat := 0
  openSerge : Bool := false
  decayFrom : Option Nat := none
  weldLatch : Bool := false
  /-- Mirror contacts filtered over 8 frames: set while they show open main contacts. -/
  mc1 : Bool := true
  mc2 : Bool := true
  mcCount1 : Nat := 0
  mcCount2 : Nat := 0
  estopA : SafeCh := {}
  estopB : SafeCh := {}
  doorA : SafeCh := {}
  doorB : SafeCh := {}
  /-- Discrepancy: frames counted, latched, the channel low first (0 A, 1 B), for emergency stop and enclosure. -/
  discE : Nat := 0
  discD : Nat := 0
  discLatE : Bool := false
  discLatD : Bool := false
  lowFirstE : Nat := 0
  lowFirstD : Nat := 0
  /-- Consecutive pulse-test failures: ESTOP_A, DOOR_A, MC1, ESTOP_B, DOOR_B, MC2; frames of the latest pulses. -/
  tpoFails : List Nat := [0, 0, 0, 0, 0, 0]
  tpoAtA : Nat := 0
  tpoAtB : Nat := 0
  /-- Consecutive results at or above OT_TRIP of the two inputs of OT_SOURCE (R292). -/
  otHigh : List Nat := [0, 0]
  /-- Pilot integrity counters (R293): diode, reference, read-back, SHORT; state A accepted since the diode trip. -/
  negBad : Nat := 0
  refBad : Nat := 0
  backBad : Nat := 0
  shortBad : Nat := 0
  /-- The PWM period of the latest SHORT (R293). -/
  shortAt : Nat := 0
  peCycles : Nat := 0
  /-- Insulation monitor (R295): frame of the step under way, its polarity, the previous step's value, complete pairs,
  R_iso in kΩ, warning logged, a value below the fault threshold. -/
  isoAt : Option Nat := none
  isoPositive : Bool := true
  /-- The step's value, once a conversion of its measuring drive has given it, and whether it has been judged. -/
  isoVal : Option Int := none
  isoJudged : Bool := false
  isoLast : Option Int := none
  isoPairs : Nat := 0
  isoRes : Option Nat := none
  isoWarned : Bool := false
  /-- Degraded (R299): DEGRADED_CAUSE, the bits of the faults, the frame of entry, the end logged as 1 time expired. -/
  degCause : Nat := 0
  degBits : List Nat := []
  degSince : Option Nat := none
  degExpired : Bool := false
  /-- SAFETY_CONFIRMED_VALUE; 0 unconfirmed, 1 after step 1, 2 confirmed (R303, R305); frame of step 1. -/
  confirmed : Nat := 0
  confirmSt : Nat := 0
  confirmFrame : Nat := 0
  changeCount : Nat := 0
  /-- Tests passed and failed, bit k for test k+1 (R307), and proof tests under way (R306). -/
  testPass : BitVec 8 := 0
  testFail : BitVec 8 := 0
  proofs : List Nat := []
  deriving DecidableEq, Repr

/-- One load-switch channel (R312 to R328). -/
structure Hsw where
  /-- Commanded: 0 off, 1 on, 2 PWM; with its duty (R312, R328). -/
  cmd : Nat := 0
  duty : Nat := 0
  /-- A SWITCH_SET that the next frame's latch applies (R312). -/
  nextCmd : Option (Nat × Nat) := none
  /-- State of R318 as the stage holds it. -/
  st : Nat := 0
  /-- retries_used, off_time and the latch (R319, R320). -/
  retries : Nat := 0
  offAt : Nat := 0
  latched : Bool := false
  /-- A LATCH_CLEAR that the next frame applies; a restart with the delay already passed (R320). -/
  nextClear : Bool := false
  noDelay : Bool := false
  /-- Cause of the last protection off: 1 SHORT, 2 THERMAL; 0 none yet. -/
  cause : Nat := 0
  /-- Inrush step 1 to 8, 0 outside INRUSH; the frame of the turn-on and of the step's begin (R314). -/
  step : Nat := 0
  onAt : Nat := 0
  stepAt : Nat := 0
  /-- Frames in ON without protection and ILIM (R319). -/
  goodSince : Nat := 0
  ilim : Bool := false
  /-- OPEN_LOAD_ON, OPEN_LOAD_OFF, SHORT_TO_VAUX in bits 0 to 2 (R321), and the frames each criterion has held against
  the flag. -/
  flags : BitVec 3 := 0
  olOn : Nat := 0
  olOff : Nat := 0
  stv : Nat := 0
  current : Nat := 0
  tj : Int := 2500
  vout : Nat := 0
  /-- The output with the pull-up current removed (R321). -/
  voutBare : Nat := 0
  /-- HSW_STATUS as both lanes read it at the frame's 0 to 2 µs (R312, R336). -/
  word : Nat := 0
  /-- HSW_PROT_COUNT. -/
  protCount : Nat := 0
  /-- A protection off that the lanes have not yet read in the status word (R312). -/
  offNews : Bool := false
  /-- The channel's PWM generator (R323): the start tick of the period counter it shares, the frequency it runs at, and the
  duty that applies until the first period that begins after frame `dutyAt` wrote the present one. -/
  pwmFrom : Option Nat := none
  pwmFreq : Nat := 200
  dutyWas : Nat := 0
  dutyAt : Nat := 0
  /-- Current before shedding, and its place in the order of shedding (R326). -/
  shedCurrent : Nat := 0
  shedOrder : Nat := 0
  deriving DecidableEq, Repr

/-- Load switches, VAUX, the cable lock and the coils (chapter 11). -/
structure Sw where
  ch : List Hsw := List.replicate 8 {}
  vaux : Nat := 0
  vauxI : Nat := 0
  /-- VAUX_CURRENT of the last 8,000 frames, newest first, and their sum (R326). -/
  vauxWindow : List Nat := []
  vauxSum : Nat := 0
  /-- 0 in range, 1 under-voltage, 2 over-voltage (R324), the extreme level seen, frames in range, and the next channel
  to return (R325). -/
  uv : Nat := 0
  vauxExtreme : Nat := 0
  uvGood : Nat := 0
  uvFrame : Option Nat := none
  /-- Frames of the latest shed and return, and sheds counted (R326). -/
  lastShed : Option Nat := none
  lastReturn : Option Nat := none
  shedCount : Nat := 0
  /-- Source that SENSE shows since the last tick (R322). -/
  senseSel : Nat := 0
  /-- Lock bridge: 0 high impedance, 1 driving, 2 braking (R329), whether it is in UV_OFF (R324); LOCK_STATE (R337). -/
  bridge : Nat := 0
  bridgeUv : Bool := false
  lockSt : Nat := 0
  /-- The drive's direction: true to lock; the frame it began, its brake began, and its end condition: 0 none, 1
  feedback, 2 stall, 3 timeout, 4 protection off, 5 VAUX out of range (log entry 11). -/
  lockDir : Bool := true
  driveAt : Nat := 0
  brakeAt : Nat := 0
  stopCond : Nat := 0
  /-- A drive to start at the next latch point (R331), and the frame of the repetition. -/
  nextDrive : Option Bool := none
  repeatAt : Option Nat := none
  secondTry : Bool := false
  /-- Consecutive frames at or above LOCK_STALL_I. -/
  stall : Nat := 0
  lockCause : Nat := 0
  lockLatched : Bool := false
  /-- A LATCH_CLEAR of the bridge that the next frame applies (R312, R320). -/
  lockClear : Bool := false
  lockOps : Nat := 0
  /-- LK_FB debounced over 8 frames, its candidate count (R329), and the frames it has shown its level. -/
  fb : Bool := false
  fbCount : Nat := 0
  fbHeld : Nat := 0
  lockI : Nat := 0
  coilI1 : Nat := 0
  coilI2 : Nat := 0
  deriving DecidableEq, Repr

/-- A neighbour of the grid link (R342). -/
structure Neighbour where
  addr : Nat
  /-- Tone map last returned: modulation, carriers, transmit gain; its frame, the frame of the request under way, and
  the stale mark (R340). -/
  modulation : Nat := 0
  carriers : BitVec 96
  gain : Nat := 0
  mapAt : Nat
  asked : Bool := false
  stale : Bool := false
  lqi : Nat := 0
  /-- A Kilurmos peer, capable of extended interleaving, and extended interleaving in use towards it (R348). -/
  kilurmos : Bool := false
  extCap : Bool := false
  extInUse : Bool := false
  /-- The peer's UG1_NET as announced (R347). -/
  peerUg1 : Nat := 0
  /-- Phase offset decided, 255 undecided, and the last ten votes, newest first (R346). -/
  phase : Nat := 255
  votes : List Nat := []
  /-- Frame and RTC seconds at which it was last heard. -/
  heardAt : Nat
  heardRtc : Nat
  /-- Outcomes of the last 32 unicast transmissions, newest first, true for acknowledged; and how many of them, at
  most 32, were made in the present mode (R342, R348). -/
  tx : List Bool := []
  txMode : Nat := 0
  deriving DecidableEq, Repr

/-- A route of the grid link (R344). -/
structure Route where
  dest : Nat
  next : Nat
  cost : Nat
  hops : Nat
  coordinator : Bool
  /-- Frame and RTC seconds at which it expires. -/
  expiry : Nat
  expiryRtc : Nat
  lastUse : Nat
  failed : Bool := false
  /-- Installed by a reply of the discovery under way. -/
  fresh : Bool := true
  deriving DecidableEq, Repr

/-- The kinds of packet of R352. -/
inductive PacketKind where
  | own | push | gasp | forwarded
  deriving DecidableEq, Repr

/-- An IPv6 packet in a transmit queue (R352): its kind, its destination, none for a broadcast, and its frame. -/
structure Packet where
  kind : PacketKind
  dest : Option Nat
  at_ : Nat
  /-- The route cost field of a route request or reply (R343). -/
  cost : Option Nat := none
  deriving DecidableEq, Repr

/-- The grid link (R338 to R355). -/
structure Gplc where
  /-- GPLC_STATE: 0 off, 1 joining, 2 joined, 3 fault (R363). -/
  st : Nat := 0
  /-- PAN identifier and short address held (R350). -/
  pan : Option (Nat × Nat) := none
  neighbours : List Neighbour := []
  refused : Nat := 0
  routes : List Route := []
  /-- Destinations whose route is being discovered (R344). -/
  discovery : List Nat := []
  /-- Frames of the modem resets of the last hour, and of the fault (R351). -/
  resets : List Nat := []
  faultSince : Nat := 0
  /-- Queues 0 to 2 (R352), oldest first. -/
  queues : List (List Packet) := [[], [], []]
  /-- Counters of R354: per queue eight, then the three receive counters. -/
  counters : List Nat := List.replicate 27 0
  /-- The last gasp: 0 none, 1 queued, 2 sent, 3 abandoned; its frame h (R355). -/
  gasp : Nat := 0
  gaspFrame : Nat := 0
  /-- What the last gasp carries beside h and cause 1 (R355): the RTC time and the GRID_A_IMPORT total in mWh. -/
  gaspRtc : Nat := 0
  gaspEnergy : Nat := 0
  /-- Frame, and RTC seconds, of the latest packet delivered to or received from the coordinator (R350). -/
  lastCoord : Nat := 0
  lastCoordRtc : Nat := 0
  /-- Delay of the next bootstrap retry in s, and its frame (R350). -/
  bootDelay : Nat := 60
  bootAt : Option Nat := none
  phaseMap : Word := 0
  /-- The latest transmission (R341, R349): its level in 0.01 dB above 1 mV p-p, its PHY frames and what it lasted in µs. -/
  txLevel : Int := 0
  txFrames : Nat := 0
  txMicros : Nat := 0
  /-- Its modulation (R340, R342), its phase detection counter in µs (R346), and whether it carried a tone map request. -/
  txMod : Nat := 0
  txPhase : Nat := 0
  txAsk : Bool := false
  /-- The Morust element of the latest tone map response sent (R348): the neighbour, the capability, UG1_NET. -/
  morust : Option (Nat × Bool × Nat) := none
  deriving DecidableEq, Repr

/-- A stored DLMS answer (R360). -/
structure DlmsAns where
  invoke : Nat
  plain : List Byte
  frame : Nat
  response : List Byte
  deriving DecidableEq, Repr

/-- A DLMS association (R356): its number, management or public, the frame of its latest request, its journal. -/
structure Assoc where
  id : Nat
  mgmt : Bool
  lastReq : Nat
  journal : List DlmsAns := []
  deriving DecidableEq, Repr

/-- DLMS (R356 to R361, R364). -/
structure Dlms where
  assocs : List Assoc := []
  nextAssoc : Nat := 1
  /-- The invocation counter accepted last under the management key (R356). -/
  lastIc : Option Nat := none
  /-- DLMS_IC_TX (R364). -/
  icTx : List Nat := [0, 0, 0, 0]
  /-- DLMS_SECURITY_FAILURES, and the frames of those of the last 10 min. -/
  secFails : Nat := 0
  secFrames : List Nat := []
  /-- Alarm register and alarm filter, one bit per event group (R357). -/
  alarms : BitVec 32 := 0
  filter : BitVec 32 := 0xFFFFFFFF
  pushFrame : Option Nat := none
  /-- The response given last. -/
  response : List Byte := []
  /-- Image transfer: identifier, size, blocks written and read back (R361). -/
  image : Option (List Byte × Nat) := none
  blocks : List (Nat × List Byte) := []
  deriving DecidableEq, Repr

/-- A card present at the reader (R370, R371): kind, identifier, the frame of the latest poll that found it. -/
structure Card where
  kind : Nat
  ident : List Byte
  lastSeen : Nat
  deriving DecidableEq, Repr

/-- The contactless reader and the authorisation list (R366 to R377). -/
structure Nfc where
  /-- The reader is in fault (R367). -/
  fault : Bool := false
  cards : List Card := []
  /-- Readings of the last 16 pings that started no poll, newest first, as vectors (R373). -/
  baseline : List (Int × Int) := []
  /-- PING_THR_NOW, and pings since the last change without a false alarm (R374). -/
  threshold : Nat := 200
  clean : Nat := 0
  falseCount : Nat := 0
  presented : Nat := 0
  /-- CARD_LAST (R388). -/
  last : Option (Nat × List Byte × Nat) := none
  /-- The bit rate in use with the card identified last, as READER_MAX_RATE has them (R366). -/
  rate : Nat := 0
  /-- Waiting time granted to the present command, ms (R372). -/
  wtxTotal : Nat := 0
  /-- Slot count with which the next Type B poll starts (R369). -/
  slotN : Nat := 1
  /-- Frames of the latest ping and poll. -/
  pingAt : Nat := 0
  pollAt : Nat := 0
  /-- The active bank (R375): its version and its entries of 24 bytes. -/
  listVersion : Nat := 0
  list : List (List Byte) := []
  /-- AUTH_LOAD_STATE, and the open load: version, count, owner, bytes received (R377). -/
  loadSt : Nat := 0
  loadVersion : Nat := 0
  loadCount : Nat := 0
  loadOwner : Nat := 0
  loadBytes : List Byte := []
  /-- Frame at whose tick the banks swap (R377). -/
  swapAt : Option Nat := none
  lookups : Nat := 0
  hits : Nat := 0
  deriving DecidableEq, Repr

/-- A register image of the Calico island (R380). -/
structure CalImage where
  seq : Nat
  frame : Nat
  bytes : List Byte
  deriving DecidableEq, Repr

/-- The Calico island (R378 to R386). -/
structure Cal where
  image0 : Option CalImage := none
  image1 : Option CalImage := none
  imageSeq : Nat := 0
  deferred : Nat := 0
  /-- The nameplate (R379). -/
  nameplate : List Byte := []
  /-- The staging banks (R379), the commit word's sequence, bank and length, and the rest of the status (R384). -/
  bank0 : List Byte := []
  bank1 : List Byte := []
  commitSeq : Nat := 0
  bank : Nat := 0
  length : Nat := 0
  attemptSeq : Nat := 0
  appliedSeq : Nat := 0
  applyResult : Nat := 0
  applyTime : Nat := 0
  /-- The tag: receive buffer, file selected, slot held by a selection of E1C2, a selection that a final write ended
  (R381 to R383). -/
  buffer : List Byte := []
  selected : Nat := 0
  held : Option Nat := none
  heldImage : List Byte := []
  ended : Bool := false
  /-- The latest answer: data and status word. -/
  response : List Byte := []
  sw : Nat := 0
  harvOut : Bool := false
  /-- HARV_OUT went off for the supply of the island, and 10 ms of sufficient field are still to come (R386). -/
  harvShort : Bool := false
  deriving DecidableEq, Repr

/-- A key slot (R395, R397). -/
structure KeySlot where
  kind : Nat := 0
  generation : Nat := 0
  fingerprint : BitVec 64 := 0
  /-- Key of KIND 2 and 3; PK.root of an SLH-DSA key (R395). -/
  material : List Byte := []
  deriving DecidableEq, Repr

/-- A detection of the tamper ring (R407). -/
structure TamperRec where
  rtc : Nat
  sub : Nat
  source : Nat
  cls : Nat
  power : Nat
  erased : Bool
  deriving DecidableEq, Repr

/-- The security counters (R394, R414): MANIFEST_COUNTER, the five anti-rollback counters, ROOT_GEN, ERASE_COUNT,
ROOT_MIN, ENROL_SEQ. -/
structure SecCounters where
  manifest : Nat := 0
  rollback : List Nat := [0, 0, 0, 0, 0]
  rootGen : Nat := 0
  eraseCount : Nat := 0
  rootMin : Nat := 0
  enrolSeq : Nat := 0
  deriving DecidableEq, Repr

/-- A backup cell (R392): level, low and failed as reported, seconds that it has stayed 100 mV above either threshold. -/
structure Cell where
  mv : Nat := 0
  low : Bool := false
  failed : Bool := false
  aboveLow : Nat := 0
  aboveFail : Nat := 0
  deriving DecidableEq, Repr

/-- Keys, identity and tamper (chapter 14). -/
structure Keys where
  /-- The battery domain has supply (R393). -/
  supplied : Bool := false
  cell1 : Cell := {}
  cell2 : Cell := {}
  lost : Bool := false
  root : Option (BitVec 256) := none
  slots : List KeySlot := List.replicate 16 {}
  /-- The copies of the counters: vault, MRAM A, MRAM B (R414). -/
  vault : SecCounters := {}
  copyA : SecCounters := {}
  copyB : SecCounters := {}
  /-- Draws made of the random number generator. -/
  draws : Nat := 0
  nonce : List Byte := List.replicate 16 0
  nonceFrame : Nat := 0
  /-- IDENTITY_STATE (R401), and IDENTITY_CERT. -/
  identity : Nat := 0
  cert : Option (List Byte) := none
  /-- Slot 1 has a certified key, and RECORD_KEY_CERTS, newest first (R402). -/
  recordCert : Bool := false
  recordCerts : List (List Byte) := []
  /-- ENROL_STATE and its result; the token received; ENROL_REQUEST once built; the token check has begun (R411, R413). -/
  enrolSt : Nat := 0
  enrolResult : Nat := 0
  token : List Byte := []
  request : List Byte := []
  checking : Bool := false
  /-- RECORD_KEY_ID (R402). -/
  recordKeyId : Nat := 0
  /-- The attestation under way, its owner, and ATTEST_RESULT (R403). -/
  statement : List Byte := []
  attest : List Byte := []
  /-- SECC_CSR, one for each of slots 13 to 15 (R399). -/
  csrs : List (List Byte) := [[], [], []]
  /-- Tamper sources active and latched, bit s−1 for source s; sources whose class a commit raised (R405, R406). -/
  active : BitVec 8 := 0
  latched : BitVec 8 := 0
  /-- ERASED (R418). -/
  erased : Bool := false
  tamperCount : Nat := 0
  /-- The tamper ring, oldest first, and how many of its newest entries are not yet drained (R407). -/
  ring : List TamperRec := []
  undrained : Nat := 0
  /-- Source and frame of an erasure that the next frame acts on (R409). -/
  erasePending : Option (Nat × Nat) := none
  /-- A new root is to be drawn in the first frame of Quarantine (R409); its derivation job runs. -/
  rootPending : Bool := false
  rootJob : Option Nat := none
  deriving DecidableEq, Repr

/-- An image set: its manifest (R421) and the entries of its five parts (R422), those that the manifest does not list
taken from the set before (R423). -/
structure Manifest where
  bytes : List Byte
  parts : List (List Byte)
  deriving DecidableEq, Repr

/-- An activation under way (R427 to R431): the frame it counts from, which is that of the command, or frame m after a
restart; by restart; the MANIFEST_COUNTER and the set it activates; the lane restarted first; the lead runs the new set;
a restart step failed on it; the cause of a revert that waits for its hand-over or restart; the source position of the
command's owner (R435). -/
structure Activation where
  since : Nat
  byRestart : Bool
  counter : Nat
  target : Nat
  lane : Lane := .b
  handed : Bool := false
  failed : Bool := false
  revert : Option Nat := none
  src : Nat := 5
  deriving DecidableEq, Repr

/-- Firmware update (chapter 15). -/
structure Upd where
  /-- UPDATE_STATE, UPDATE_RESULT, ACTIVE_SET. -/
  st : Nat := 0
  result : Nat := 0
  activeSet : Nat := 0
  set0 : Option Manifest := none
  set1 : Option Manifest := none
  /-- STAGING_SOURCE: 0 none, 1 head-end, 2 host; the part named by IMAGE_STAGE; the length asked; the data received. -/
  source : Nat := 0
  part : Nat := 0
  stagedLen : Nat := 0
  staged : List Byte := []
  /-- Chunks of the object that have been written (R424). -/
  chunks : Nat := 0
  /-- MANIFEST_STAGED: the manifest staged and found good in form. -/
  manifest : List Byte := []
  activation : Option Activation := none
  /-- TRIAL_SET (R431). -/
  trialSet : Option Nat := none
  /-- The lanes stop at the coming frame boundary and restart (R431). -/
  restartDue : Bool := false
  activations : Nat := 0
  reverts : Nat := 0
  /-- The frame image is bad in both lanes; the boot ROM serves the window (R432). -/
  bootBad : Bool := false
  bootRecovery : Bool := false
  deriving DecidableEq, Repr

/-- A perturbation that acts on a lane (R463, R465): its parameter, its lane, its first frame and its frames. -/
structure Pert where
  id : Nat
  lane : Lane
  first : Nat
  frames : Nat
  deriving DecidableEq, Repr

/-- Diagnostics and the test group (chapter 17). -/
structure Diag where
  summary : Word := 0
  last : List (Nat × Nat) := List.replicate 19 (0, 0)
  flashCorrected : Nat := 0
  margins : List Nat := List.replicate 10 65535
  rails : List Nat := [0, 0, 0, 0]
  /-- The frame in which the present test authorisation was accepted (R461, R462). -/
  testFrom : Option Nat := none
  /-- The parameters of R463 as written. -/
  stretch : Nat := 0
  mboxDelay : Nat := 0
  portBusy : Nat := 0
  throttle : Nat := 0
  gplcHold : Nat := 0
  commitDelay : Nat := 0
  mismatch : Nat := 0
  wdtWindow : Nat := 0
  /-- The lane perturbation that is active, or begins with the next frame (R465). -/
  pert : Option Pert := none
  deriving DecidableEq, Repr

end Sys2Proof.Machine
end

