-- ==== Sys2Proof/Machine/State.lean ====
section
/-!
DEFINITION. The state of the KM-7720 as a block: the queue of waiting commands, the frame clock with the mode, the
energy registers, and everything else; the state after reset; and the ways a step can stop.
-/

namespace Sys2Proof.Machine

/-- Everything but the queue, the clock and the registers. -/
structure Dev where
  lanes : Lanes := {}
  pow : Power := {}
  win : Win := {}
  acs : Acs := {}
  par : Params := {}
  log : Log := {}
  samp : Samp := {}
  metr : Metr := {}
  led : Led := {}
  tar : Tar := {}
  disp : Disp := {}
  veh : Veh := {}
  ses : Ses := {}
  dc : Dc := {}
  saf : Saf := {}
  sw : Sw := {}
  gplc : Gplc := {}
  dlms : Dlms := {}
  nfc : Nfc := {}
  cal : Cal := {}
  keys : Keys := {}
  upd : Upd := {}
  diag : Diag := {}
  deriving DecidableEq, Repr

/-- The machine. -/
structure State where
  /-- Commands that wait, first in first out. -/
  pending : List Instr := []
  clk : Clk := {}
  regs : Regs := {}
  dev : Dev := {}
  deriving DecidableEq, Repr

/-- The machine right after reset: power-on of a module as shipped (R41), before the first start-up, every field at
the default of its declaration. -/
def State.reset : State := { pending := [], clk := {}, regs := {}, dev := {} }

/-- Ways the machine stops with a fault. -/
inductive Fault where
  /-- Nobody raises it: the block has no fault stop; every failure the spec describes is state (safe). -/
  | none
  deriving DecidableEq, Repr

/-- Ways the machine refuses a command. -/
inductive Refusal where
  /-- A row of the table without a meaning in this model; only Dispatch raises it (safe). -/
  | notModelled (mnemonic : String)
  deriving DecidableEq, Repr

end Sys2Proof.Machine
end

