-- ==== Sys2Proof/Machine/Codes.lean ====
section
/-!
DEFINITION. Event codes and which of them are alarms (the event tables of R38, R66, R104, R123, R147 and the chapters
after), and the command codes of R109 and R110, by name.
-/

namespace Sys2Proof.Machine

/-- LANE_FAULT (R38). -/
abbrev Event.LANE_FAULT : Nat := 0x0301
/-- TAKEOVER (R38). -/
abbrev Event.TAKEOVER : Nat := 0x0302
/-- LANE_REPAIRED (R38). -/
abbrev Event.LANE_REPAIRED : Nat := 0x0303
/-- LANE_LOST (R38). -/
abbrev Event.LANE_LOST : Nat := 0x0304
/-- CLAIM_REJECTED (R38). -/
abbrev Event.CLAIM_REJECTED : Nat := 0x0305
/-- CRYSTAL_FAILED (R38). -/
abbrev Event.CRYSTAL_FAILED : Nat := 0x0306
/-- MRAM_ARRAY_LOST (R38). -/
abbrev Event.MRAM_ARRAY_LOST : Nat := 0x0307
/-- DUAL_LANE_FAULT (R38). -/
abbrev Event.DUAL_LANE_FAULT : Nat := 0x0308
/-- SERGE_FAULT (R38). -/
abbrev Event.SERGE_FAULT : Nat := 0x0309
/-- MIRROR_FAULT (R38). -/
abbrev Event.MIRROR_FAULT : Nat := 0x030A
/-- MODE_CHANGED (R66). -/
abbrev Event.MODE_CHANGED : Nat := 0x0101
/-- HOLD_ENTERED (R66). -/
abbrev Event.HOLD_ENTERED : Nat := 0x0102
/-- HOLD_EXITED (R66). -/
abbrev Event.HOLD_EXITED : Nat := 0x0103
/-- STARTED (R66). -/
abbrev Event.STARTED : Nat := 0x0104
/-- LAST_GASP (R66). -/
abbrev Event.LAST_GASP : Nat := 0x0105
/-- RESET_REQUEST (R66). -/
abbrev Event.RESET_REQUEST : Nat := 0x0106
/-- SERVICE_N_STUCK (R66). -/
abbrev Event.SERVICE_N_STUCK : Nat := 0x0107
/-- HOLDUP_LOW (R66). -/
abbrev Event.HOLDUP_LOW : Nat := 0x0108
/-- SERVICE_LOGIN (R66). -/
abbrev Event.SERVICE_LOGIN : Nat := 0x0109
/-- HOST_LOST (R104). -/
abbrev Event.HOST_LOST : Nat := 0x0201
/-- HOST_REGAINED (R104). -/
abbrev Event.HOST_REGAINED : Nat := 0x0202
/-- PORT_FAILED (R104). -/
abbrev Event.PORT_FAILED : Nat := 0x0203
/-- PORT_RESTORED (R104). -/
abbrev Event.PORT_RESTORED : Nat := 0x0204
/-- STREAM_OVERRUN (R104). -/
abbrev Event.STREAM_OVERRUN : Nat := 0x0205
/-- SLOT_PROTOCOL_ERROR (R104). -/
abbrev Event.SLOT_PROTOCOL_ERROR : Nat := 0x0206
/-- JOB_ENDED (R104). -/
abbrev Event.JOB_ENDED : Nat := 0x0207
/-- PARAM_COMMITTED (R123). -/
abbrev Event.PARAM_COMMITTED : Nat := 0x0208
/-- PARAM_WRITTEN (R123). -/
abbrev Event.PARAM_WRITTEN : Nat := 0x0209
/-- PENDING_DISCARDED (R123). -/
abbrev Event.PENDING_DISCARDED : Nat := 0x020A
/-- METR_SET_CHANGED (R123). -/
abbrev Event.METR_SET_CHANGED : Nat := 0x1201
/-- METR_SEAL_OPENED (R123). -/
abbrev Event.METR_SEAL_OPENED : Nat := 0x1202
/-- METR_SEAL_CLOSED (R123). -/
abbrev Event.METR_SEAL_CLOSED : Nat := 0x1203
/-- METR_LOG_NEAR_FULL (R123). -/
abbrev Event.METR_LOG_NEAR_FULL : Nat := 0x1204
/-- SYNC_DONE (R147). -/
abbrev Event.SYNC_DONE : Nat := 0x1001
/-- SYNC_DEFERRED (R147). -/
abbrev Event.SYNC_DEFERRED : Nat := 0x1002
/-- CHANNEL_FAULT (R147). -/
abbrev Event.CHANNEL_FAULT : Nat := 0x1003
/-- CHANNEL_RESTORED (R147). -/
abbrev Event.CHANNEL_RESTORED : Nat := 0x1004
/-- CHANNEL_OVERRANGE (R147). -/
abbrev Event.CHANNEL_OVERRANGE : Nat := 0x1005
/-- AUX_REF_FAULT (R147). -/
abbrev Event.AUX_REF_FAULT : Nat := 0x1006
/-- SYNC_IN_CHATTER (R147). -/
abbrev Event.SYNC_IN_CHATTER : Nat := 0x1007
/-- TEMP_INPUT_FAULT (R175). -/
abbrev Event.TEMP_INPUT_FAULT : Nat := 0x1301
/-- CAL_ACC_DONE (R175). -/
abbrev Event.CAL_ACC_DONE : Nat := 0x1302
/-- WRONG_SEQUENCE (R175). -/
abbrev Event.WRONG_SEQUENCE : Nat := 0x1401
/-- MISSING_NEUTRAL (R175). -/
abbrev Event.MISSING_NEUTRAL : Nat := 0x1402
/-- SAG (R175). -/
abbrev Event.SAG : Nat := 0x1403
/-- SWELL (R175). -/
abbrev Event.SWELL : Nat := 0x1404
/-- FREQ_OUT_OF_RANGE (R175). -/
abbrev Event.FREQ_OUT_OF_RANGE : Nat := 0x1405
/-- CURRENT_WITHOUT_VOLTAGE (R175). -/
abbrev Event.CURRENT_WITHOUT_VOLTAGE : Nat := 0x1406
/-- REVERSE_ENERGY (R175). -/
abbrev Event.REVERSE_ENERGY : Nat := 0x1407
/-- BALANCE_DISCREPANCY (R175). -/
abbrev Event.BALANCE_DISCREPANCY : Nat := 0x1408
/-- ESTIMATION_STARTED (R175). -/
abbrev Event.ESTIMATION_STARTED : Nat := 0x1409
/-- ESTIMATION_ENDED (R175). -/
abbrev Event.ESTIMATION_ENDED : Nat := 0x140A
/-- METER_GAP (R175). -/
abbrev Event.METER_GAP : Nat := 0x140B
/-- PULSES_OWED (R175). -/
abbrev Event.PULSES_OWED : Nat := 0x140C
/-- PULSE_CONST_CHANGED (R175). -/
abbrev Event.PULSE_CONST_CHANGED : Nat := 0x140D
/-- RECOVERED (R205). -/
abbrev Event.RECOVERED : Nat := 0x1801
/-- RECOVERY_DISPUTED (R205). -/
abbrev Event.RECOVERY_DISPUTED : Nat := 0x1802
/-- CHAIN_BREAK (R205). -/
abbrev Event.CHAIN_BREAK : Nat := 0x1803
/-- SECONDARY_REWOUND (R205). -/
abbrev Event.SECONDARY_REWOUND : Nat := 0x1804
/-- SESSION_RECOVERED (R205). -/
abbrev Event.SESSION_RECOVERED : Nat := 0x1805
/-- RECORD_SIGNED (R205). -/
abbrev Event.RECORD_SIGNED : Nat := 0x1806
/-- RECORD_UNSIGNED (R205). -/
abbrev Event.RECORD_UNSIGNED : Nat := 0x1807
/-- GAP_LOGGED (R205). -/
abbrev Event.GAP_LOGGED : Nat := 0x1808
/-- LOAD_PROFILE_CLEARED (R205). -/
abbrev Event.LOAD_PROFILE_CLEARED : Nat := 0x1809
/-- ARRAY_REBUILT (R205). -/
abbrev Event.ARRAY_REBUILT : Nat := 0x180A
/-- CLOCK_STEPPED (R235). -/
abbrev Event.CLOCK_STEPPED : Nat := 0x0401
/-- CLOCK_STATUS_CHANGED (R235). -/
abbrev Event.CLOCK_STATUS_CHANGED : Nat := 0x0402
/-- DST_CHANGED (R235). -/
abbrev Event.DST_CHANGED : Nat := 0x0403
/-- RTC_DRIFT (R235). -/
abbrev Event.RTC_DRIFT : Nat := 0x0404
/-- TARIFF_SWITCHED (R235). -/
abbrev Event.TARIFF_SWITCHED : Nat := 0x1A01
/-- CALENDAR_ARMED (R235). -/
abbrev Event.CALENDAR_ARMED : Nat := 0x1A02
/-- CALENDAR_ACTIVATED (R235). -/
abbrev Event.CALENDAR_ACTIVATED : Nat := 0x1A03
/-- CALENDAR_REJECTED (R235). -/
abbrev Event.CALENDAR_REJECTED : Nat := 0x1A04
/-- CALENDAR_DISARMED (R235). -/
abbrev Event.CALENDAR_DISARMED : Nat := 0x1A05
/-- BILLING_CLOSED (R235). -/
abbrev Event.BILLING_CLOSED : Nat := 0x1C01
/-- DEMAND_SHORT (R235). -/
abbrev Event.DEMAND_SHORT : Nat := 0x1C02
/-- DISP_BTN_STUCK (R235). -/
abbrev Event.DISP_BTN_STUCK : Nat := 0x1D01
/-- DISP_BTN_CHATTER (R235). -/
abbrev Event.DISP_BTN_CHATTER : Nat := 0x1D02
/-- LCD_FAULT (R235). -/
abbrev Event.LCD_FAULT : Nat := 0x1D03
/-- PILOT_STATE_ACCEPTED (R267). -/
abbrev Event.PILOT_STATE_ACCEPTED : Nat := 0x2001
/-- C_WITHOUT_OFFER (R267). -/
abbrev Event.C_WITHOUT_OFFER : Nat := 0x2002
/-- CABLE_CHANGED (R267). -/
abbrev Event.CABLE_CHANGED : Nat := 0x2003
/-- SLAC_MATCHED (R267). -/
abbrev Event.SLAC_MATCHED : Nat := 0x2101
/-- SLAC_FAILED (R267). -/
abbrev Event.SLAC_FAILED : Nat := 0x2102
/-- VPLC_LINK_LOST (R267). -/
abbrev Event.VPLC_LINK_LOST : Nat := 0x2103
/-- PROTOCOL_SELECTED (R267). -/
abbrev Event.PROTOCOL_SELECTED : Nat := 0x2104
/-- PNC_REFUSED (R267). -/
abbrev Event.PNC_REFUSED : Nat := 0x2105
/-- SESSION_STARTED (R267). -/
abbrev Event.SESSION_STARTED : Nat := 0x2201
/-- SESSION_ENDED (R267). -/
abbrev Event.SESSION_ENDED : Nat := 0x2202
/-- SESSION_REFUSED (R267). -/
abbrev Event.SESSION_REFUSED : Nat := 0x2203
/-- AUTHORISED (R267). -/
abbrev Event.AUTHORISED : Nat := 0x2204
/-- AUTH_REQUEST (R267). -/
abbrev Event.AUTH_REQUEST : Nat := 0x2205
/-- CARD_REFUSED (R267). -/
abbrev Event.CARD_REFUSED : Nat := 0x2206
/-- CARD_NOT_USED (R267). -/
abbrev Event.CARD_NOT_USED : Nat := 0x2207
/-- PREAUTH_EXPIRED (R267). -/
abbrev Event.PREAUTH_EXPIRED : Nat := 0x2208
/-- SESSION_PAUSED (R267). -/
abbrev Event.SESSION_PAUSED : Nat := 0x2209
/-- STAGE_TIMEOUT (R267). -/
abbrev Event.STAGE_TIMEOUT : Nat := 0x220A
/-- HOST_GRACE_EXPIRED (R267). -/
abbrev Event.HOST_GRACE_EXPIRED : Nat := 0x220B
/-- SAFETY_TRIPPED (R309). -/
abbrev Event.SAFETY_TRIPPED : Nat := 0x2801
/-- SAFETY_REARMED (R309). -/
abbrev Event.SAFETY_REARMED : Nat := 0x2802
/-- DISCREPANCY (R309). -/
abbrev Event.DISCREPANCY : Nat := 0x2803
/-- CHATTER (R309). -/
abbrev Event.CHATTER : Nat := 0x2804
/-- INPUT_TEST_FAILED (R309). -/
abbrev Event.INPUT_TEST_FAILED : Nat := 0x2805
/-- QUAD_PROOF_MISSED (R309). -/
abbrev Event.QUAD_PROOF_MISSED : Nat := 0x2806
/-- SWITCH_FAILED (R309). -/
abbrev Event.SWITCH_FAILED : Nat := 0x2807
/-- CONTACTOR_NOT_CLOSED (R309). -/
abbrev Event.CONTACTOR_NOT_CLOSED : Nat := 0x2808
/-- WELD_DETECTED (R309). -/
abbrev Event.WELD_DETECTED : Nat := 0x2809
/-- RC_TEST_DONE (R309). -/
abbrev Event.RC_TEST_DONE : Nat := 0x280A
/-- INSULATION_WARNING (R309). -/
abbrev Event.INSULATION_WARNING : Nat := 0x280B
/-- DEGRADED_ENTERED (R309). -/
abbrev Event.DEGRADED_ENTERED : Nat := 0x280C
/-- DEGRADED_ENDED (R309). -/
abbrev Event.DEGRADED_ENDED : Nat := 0x280D
/-- SAFETY_SET_CHANGED (R309). -/
abbrev Event.SAFETY_SET_CHANGED : Nat := 0x280E
/-- SAFETY_CONFIRMED (R309). -/
abbrev Event.SAFETY_CONFIRMED : Nat := 0x280F
/-- SAFETY_CONFIRM_EXPIRED (R309). -/
abbrev Event.SAFETY_CONFIRM_EXPIRED : Nat := 0x2810
/-- SAFETY_SET_MISMATCH (R309). -/
abbrev Event.SAFETY_SET_MISMATCH : Nat := 0x2811
/-- PROOF_TEST_DONE (R309). -/
abbrev Event.PROOF_TEST_DONE : Nat := 0x2812
/-- FT_TEST_FAILED (R309). -/
abbrev Event.FT_TEST_FAILED : Nat := 0x2813
/-- HSW_PROTECTION_OFF (R338). -/
abbrev Event.HSW_PROTECTION_OFF : Nat := 0x3001
/-- HSW_LATCHED (R338). -/
abbrev Event.HSW_LATCHED : Nat := 0x3002
/-- HSW_LATCH_CLEARED (R338). -/
abbrev Event.HSW_LATCH_CLEARED : Nat := 0x3003
/-- HSW_OPEN_LOAD (R338). -/
abbrev Event.HSW_OPEN_LOAD : Nat := 0x3004
/-- HSW_SHORT_TO_VAUX (R338). -/
abbrev Event.HSW_SHORT_TO_VAUX : Nat := 0x3005
/-- VAUX_UNDERVOLTAGE (R338). -/
abbrev Event.VAUX_UNDERVOLTAGE : Nat := 0x3006
/-- VAUX_OVERVOLTAGE (R338). -/
abbrev Event.VAUX_OVERVOLTAGE : Nat := 0x3007
/-- VAUX_OVERLOAD (R338). -/
abbrev Event.VAUX_OVERLOAD : Nat := 0x3008
/-- LOCK_DONE (R338). -/
abbrev Event.LOCK_DONE : Nat := 0x3009
/-- LOCK_FAULT (R338). -/
abbrev Event.LOCK_FAULT : Nat := 0x300A
/-- LOCK_LOST (R338). -/
abbrev Event.LOCK_LOST : Nat := 0x300B
/-- GPLC_JOINED (R365). -/
abbrev Event.GPLC_JOINED : Nat := 0x3801
/-- GPLC_PAN_LOST (R365). -/
abbrev Event.GPLC_PAN_LOST : Nat := 0x3802
/-- GPLC_MODEM_FAULT (R365). -/
abbrev Event.GPLC_MODEM_FAULT : Nat := 0x3803
/-- PHASE_NEIGHBOUR_CHANGED (R365). -/
abbrev Event.PHASE_NEIGHBOUR_CHANGED : Nat := 0x3804
/-- PHASE_MAP_CHANGED (R365). -/
abbrev Event.PHASE_MAP_CHANGED : Nat := 0x3805
/-- EXT_IL_CHANGED (R365). -/
abbrev Event.EXT_IL_CHANGED : Nat := 0x3806
/-- LAST_GASP_SENT (R365). -/
abbrev Event.LAST_GASP_SENT : Nat := 0x3807
/-- LAST_GASP_ABANDONED (R365). -/
abbrev Event.LAST_GASP_ABANDONED : Nat := 0x3808
/-- DLMS_ASSOCIATED (R365). -/
abbrev Event.DLMS_ASSOCIATED : Nat := 0x3901
/-- DLMS_SECURITY_FAILED (R365). -/
abbrev Event.DLMS_SECURITY_FAILED : Nat := 0x3902
/-- IMAGE_TRANSFER_STARTED (R365). -/
abbrev Event.IMAGE_TRANSFER_STARTED : Nat := 0x3903
/-- IMAGE_TRANSFER_COMPLETE (R365). -/
abbrev Event.IMAGE_TRANSFER_COMPLETE : Nat := 0x3904
/-- CARD_PRESENTED (R390). -/
abbrev Event.CARD_PRESENTED : Nat := 0x4001
/-- CARD_RANDOM_UID (R390). -/
abbrev Event.CARD_RANDOM_UID : Nat := 0x4002
/-- CARD_TIMEOUT (R390). -/
abbrev Event.CARD_TIMEOUT : Nat := 0x4003
/-- CARD_COLLISION (R390). -/
abbrev Event.CARD_COLLISION : Nat := 0x4004
/-- READER_FAULT (R390). -/
abbrev Event.READER_FAULT : Nat := 0x4005
/-- CALICO_APPLIED (R390). -/
abbrev Event.CALICO_APPLIED : Nat := 0x4006
/-- CALICO_REJECTED (R390). -/
abbrev Event.CALICO_REJECTED : Nat := 0x4007
/-- CALICO_FAULT (R390). -/
abbrev Event.CALICO_FAULT : Nat := 0x4008
/-- AUTH_LIST_LOADED (R390). -/
abbrev Event.AUTH_LIST_LOADED : Nat := 0x4101
/-- AUTH_LIST_SWAPPED (R390). -/
abbrev Event.AUTH_LIST_SWAPPED : Nat := 0x4102
/-- AUTH_SWAP_REFUSED (R390). -/
abbrev Event.AUTH_SWAP_REFUSED : Nat := 0x4103
/-- AUTH_BLOCKED (R390). -/
abbrev Event.AUTH_BLOCKED : Nat := 0x4104
/-- TAMPER_DETECTED (R419). -/
abbrev Event.TAMPER_DETECTED : Nat := 0x4801
/-- KEYS_ERASED (R419). -/
abbrev Event.KEYS_ERASED : Nat := 0x4802
/-- TAMPER_ACKED (R419). -/
abbrev Event.TAMPER_ACKED : Nat := 0x4803
/-- BACKUP_CELL_LOW (R419). -/
abbrev Event.BACKUP_CELL_LOW : Nat := 0x4804
/-- BACKUP_CELL_FAILED (R419). -/
abbrev Event.BACKUP_CELL_FAILED : Nat := 0x4805
/-- BACKUP_LOST (R419). -/
abbrev Event.BACKUP_LOST : Nat := 0x4806
/-- ROOT_GENERATED (R419). -/
abbrev Event.ROOT_GENERATED : Nat := 0x4807
/-- ENROLLED (R419). -/
abbrev Event.ENROLLED : Nat := 0x4808
/-- ENROL_REFUSED (R419). -/
abbrev Event.ENROL_REFUSED : Nat := 0x4809
/-- IDENTITY_INVALID (R419). -/
abbrev Event.IDENTITY_INVALID : Nat := 0x480A
/-- KEY_DERIVED (R419). -/
abbrev Event.KEY_DERIVED : Nat := 0x480B
/-- KEY_DEST_REFUSED (R419). -/
abbrev Event.KEY_DEST_REFUSED : Nat := 0x480C
/-- ATTESTED (R419). -/
abbrev Event.ATTESTED : Nat := 0x480D
/-- ROLLBACK_REPAIRED (R419). -/
abbrev Event.ROLLBACK_REPAIRED : Nat := 0x480E
/-- IMAGE_STAGED (R435). -/
abbrev Event.IMAGE_STAGED : Nat := 0x5001
/-- IMAGE_DISCARDED (R435). -/
abbrev Event.IMAGE_DISCARDED : Nat := 0x5002
/-- IMAGE_VERIFIED (R435). -/
abbrev Event.IMAGE_VERIFIED : Nat := 0x5003
/-- IMAGE_REJECTED (R435). -/
abbrev Event.IMAGE_REJECTED : Nat := 0x5004
/-- ACTIVATION_STARTED (R435). -/
abbrev Event.ACTIVATION_STARTED : Nat := 0x5005
/-- UPDATE_ACTIVATED (R435). -/
abbrev Event.UPDATE_ACTIVATED : Nat := 0x5006
/-- UPDATE_REVERTED (R435). -/
abbrev Event.UPDATE_REVERTED : Nat := 0x5007
/-- METR_ACTIVATED (R435). -/
abbrev Event.METR_ACTIVATED : Nat := 0x5008
/-- BOOT_RECOVERY (R435). -/
abbrev Event.BOOT_RECOVERY : Nat := 0x5009
/-- TEST_AUTHORISED (R468). -/
abbrev Event.TEST_AUTHORISED : Nat := 0x7001
/-- TEST_PARAM_SET (R468). -/
abbrev Event.TEST_PARAM_SET : Nat := 0x7002
/-- TEST_REVERTED (R468). -/
abbrev Event.TEST_REVERTED : Nat := 0x7003
/-- TEST_INJECTED (R468). -/
abbrev Event.TEST_INJECTED : Nat := 0x7004
/-- SELFTEST_FAILED (R468). -/
abbrev Event.SELFTEST_FAILED : Nat := 0x7F01
/-- SELFTEST_PASSED (R468). -/
abbrev Event.SELFTEST_PASSED : Nat := 0x7F02

/-- IDENTIFY. -/
abbrev Cmd.IDENTIFY : Nat := 0x0101
/-- MODE_REQUEST. -/
abbrev Cmd.MODE_REQUEST : Nat := 0x0102
/-- SAFESTOP_CLEAR. -/
abbrev Cmd.SAFESTOP_CLEAR : Nat := 0x0103
/-- SERVICE_LOGIN. -/
abbrev Cmd.SERVICE_LOGIN : Nat := 0x0104
/-- SERVICE_LOGOUT. -/
abbrev Cmd.SERVICE_LOGOUT : Nat := 0x0105
/-- STOP_REQUEST. -/
abbrev Cmd.STOP_REQUEST : Nat := 0x0106
/-- PARAM_READ. -/
abbrev Cmd.PARAM_READ : Nat := 0x0201
/-- PARAM_WRITE. -/
abbrev Cmd.PARAM_WRITE : Nat := 0x0202
/-- PARAM_COMMIT. -/
abbrev Cmd.PARAM_COMMIT : Nat := 0x0203
/-- PARAM_DISCARD. -/
abbrev Cmd.PARAM_DISCARD : Nat := 0x0204
/-- PARAM_DESCRIBE. -/
abbrev Cmd.PARAM_DESCRIBE : Nat := 0x0205
/-- PARAM_READ_BLOCK. -/
abbrev Cmd.PARAM_READ_BLOCK : Nat := 0x0206
/-- PARAM_WRITE_BLOCK. -/
abbrev Cmd.PARAM_WRITE_BLOCK : Nat := 0x0207
/-- PARAM_PENDING. -/
abbrev Cmd.PARAM_PENDING : Nat := 0x0208
/-- PARAM_ENUM. -/
abbrev Cmd.PARAM_ENUM : Nat := 0x0209
/-- SNAPSHOT_TAKE. -/
abbrev Cmd.SNAPSHOT_TAKE : Nat := 0x0240
/-- SNAPSHOT_RELEASE. -/
abbrev Cmd.SNAPSHOT_RELEASE : Nat := 0x0241
/-- CMD_OUTCOME. -/
abbrev Cmd.CMD_OUTCOME : Nat := 0x0242
/-- EVENT_FETCH. -/
abbrev Cmd.EVENT_FETCH : Nat := 0x0243
/-- BULK_CHUNK. -/
abbrev Cmd.BULK_CHUNK : Nat := 0x0244
/-- JOB_LIST. -/
abbrev Cmd.JOB_LIST : Nat := 0x0300
/-- JOB_STATUS. -/
abbrev Cmd.JOB_STATUS : Nat := 0x0301
/-- JOB_CANCEL. -/
abbrev Cmd.JOB_CANCEL : Nat := 0x0302
/-- CLOCK_SET. -/
abbrev Cmd.CLOCK_SET : Nat := 0x0401
/-- SYNC. -/
abbrev Cmd.SYNC : Nat := 0x1001
/-- METR_SEAL_OPEN. -/
abbrev Cmd.METR_SEAL_OPEN : Nat := 0x1201
/-- METR_SEAL_CLOSE. -/
abbrev Cmd.METR_SEAL_CLOSE : Nat := 0x1202
/-- RECORD_READ. -/
abbrev Cmd.RECORD_READ : Nat := 0x1801
/-- SIGNATURE_READ. -/
abbrev Cmd.SIGNATURE_READ : Nat := 0x1802
/-- REGISTERS_READ. -/
abbrev Cmd.REGISTERS_READ : Nat := 0x1803
/-- METR_LOG_READ. -/
abbrev Cmd.METR_LOG_READ : Nat := 0x1804
/-- CALENDAR_ACTIVATE. -/
abbrev Cmd.CALENDAR_ACTIVATE : Nat := 0x1A01
/-- BILLING_CLOSE. -/
abbrev Cmd.BILLING_CLOSE : Nat := 0x1C01
/-- DISPLAY_STEP. -/
abbrev Cmd.DISPLAY_STEP : Nat := 0x1D01
/-- REMOTE_START. -/
abbrev Cmd.REMOTE_START : Nat := 0x2201
/-- REMOTE_STOP. -/
abbrev Cmd.REMOTE_STOP : Nat := 0x2202
/-- SAFETY_CHECK_READ. -/
abbrev Cmd.SAFETY_CHECK_READ : Nat := 0x2801
/-- SAFETY_CONFIRM. -/
abbrev Cmd.SAFETY_CONFIRM : Nat := 0x2802
/-- SAFETY_PROOF_TEST. -/
abbrev Cmd.SAFETY_PROOF_TEST : Nat := 0x2803
/-- SWITCH_SET. -/
abbrev Cmd.SWITCH_SET : Nat := 0x3001
/-- LATCH_CLEAR. -/
abbrev Cmd.LATCH_CLEAR : Nat := 0x3002
/-- LOCK_DRIVE. -/
abbrev Cmd.LOCK_DRIVE : Nat := 0x3003
/-- CALICO_STAGING_STATUS. -/
abbrev Cmd.CALICO_STAGING_STATUS : Nat := 0x4001
/-- AUTH_LOAD. -/
abbrev Cmd.AUTH_LOAD : Nat := 0x4101
/-- AUTH_SWAP. -/
abbrev Cmd.AUTH_SWAP : Nat := 0x4102
/-- AUTH_LOOKUP. -/
abbrev Cmd.AUTH_LOOKUP : Nat := 0x4103
/-- KEY_DERIVE. -/
abbrev Cmd.KEY_DERIVE : Nat := 0x4801
/-- ATTEST. -/
abbrev Cmd.ATTEST : Nat := 0x4802
/-- ENROL. -/
abbrev Cmd.ENROL : Nat := 0x4803
/-- TAMPER_ACK. -/
abbrev Cmd.TAMPER_ACK : Nat := 0x4804
/-- IMAGE_STAGE. -/
abbrev Cmd.IMAGE_STAGE : Nat := 0x5001
/-- IMAGE_VERIFY. -/
abbrev Cmd.IMAGE_VERIFY : Nat := 0x5002
/-- IMAGE_ACTIVATE. -/
abbrev Cmd.IMAGE_ACTIVATE : Nat := 0x5003
/-- TEST_AUTH. -/
abbrev Cmd.TEST_AUTH : Nat := 0x7001
/-- SCRUB_START. -/
abbrev Cmd.SCRUB_START : Nat := 0x7F01
/-- POST_ID. -/
abbrev Cmd.POST_ID : Nat := 0x000B

/-- Codes whose event table says "Yes" under Alarm. -/
def alarmCodes : List Nat := [0x0304, 0x0306, 0x0307, 0x0308, 0x0309, 0x030A, 0x0105, 0x0108, 0x0201, 0x0203, 0x1204, 0x1003, 0x1006, 0x1301, 0x1401, 0x1402, 0x1406, 0x1407, 0x1408, 0x140B, 0x1802, 0x1803, 0x1807, 0x0402, 0x0404, 0x1D03, 0x220A, 0x2801, 0x2803, 0x2804, 0x2805, 0x2807, 0x2808, 0x2809, 0x280C, 0x2811, 0x2813, 0x3002, 0x3005, 0x3007, 0x3008, 0x300A, 0x300B, 0x3803, 0x3902, 0x4005, 0x4008, 0x4802, 0x4804, 0x4805, 0x4806, 0x4809, 0x480A, 0x480C, 0x5004, 0x5007, 0x5009, 0x7F01]

/-- The ALARM flag of an event (R120). TAMPER_DETECTED is an alarm for classes 2 and 3, its second byte (R418). -/
def isAlarm (code : Nat) (data : List Byte) : Bool :=
  if code = 0x4801 then decide (2 ≤ (data.getD 1 0).toNat) else alarmCodes.contains code

/-! Results (R107). -/

/-- RESULT values (R107). -/
abbrev Res.ok : Nat := 0x00
/-- JOB. -/
abbrev Res.job : Nat := 0x01
/-- BUSY. -/
abbrev Res.busy : Nat := 0x02
/-- REFUSED_MODE. -/
abbrev Res.refusedMode : Nat := 0x10
/-- REFUSED_LOCK. -/
abbrev Res.refusedLock : Nat := 0x11
/-- NOT_PERMITTED. -/
abbrev Res.notPermitted : Nat := 0x12
/-- BAD_PARAM. -/
abbrev Res.badParam : Nat := 0x20
/-- CHECK_MISMATCH. -/
abbrev Res.checkMismatch : Nat := 0x21
/-- COLLISION: of a HUART write (R77). -/
abbrev Res.collision : Nat := 0x30

end Sys2Proof.Machine
end

