-- ==== Sys2Proof/Machine/ParamTable.lean ====
section
/-!
DEFINITION. The parameter table: one row for each row of the spec's parameter tables (R111, R118), written from the
tables of R36, R64, R102, R119, R145, R146, R171 to R174, R204, R231 to R234, R264 to R266, R307, R334, R337, R363,
R364, R388, R389, R416, R434, R460 and R463; and the IDs by name.
-/

namespace Sys2Proof.Machine

/-- A row of a parameter table: the first ID, how many blocks repeat it and at what distance, TYPE, ACCESS, UNIT,
FLAGS, MODES_W, MODES_R, LENGTH, MIN, MAX, default (R111); whether it belongs to a channel block (1: R145, 2: R171);
and NAME. -/
structure PRow where
  id : Nat
  n : Nat
  stride : Nat
  ty : Nat
  acc : Nat
  unit : Nat
  flags : Nat
  modesW : Nat
  modesR : Nat
  len : Nat
  min : Int
  max : Int
  dflt : Int
  chan : Nat
  name : String
  deriving DecidableEq, Repr

/-- Rows of the parameter tables, part 1, in rising ID order (R111). -/
def paramTable0 : List PRow := [
  ⟨0x0000, 1, 0x1, 0x30, 0, 0, 0x00, 0x00, 0xFF, 24, 0, 0, 0, 0, "PART_NUMBER"⟩,
  ⟨0x0001, 1, 0x1, 0x30, 0, 0, 0x00, 0x00, 0xFF, 24, 0, 0, 0, 0, "SERIAL_NUMBER"⟩,
  ⟨0x0002, 1, 0x1, 0x02, 0, 0, 0x00, 0x00, 0xFF, 2, 0, 65535, 0, 0, "SILICON_ISSUE"⟩,
  ⟨0x0003, 1, 0x1, 0x03, 0, 0, 0x00, 0x00, 0xFF, 4, 0, 4294967295, 0, 0, "LANE_VERSION"⟩,
  ⟨0x0004, 1, 0x1, 0x03, 0, 0, 0x00, 0x00, 0xFF, 4, 0, 4294967295, 0, 0, "METR_VERSION"⟩,
  ⟨0x0005, 1, 0x1, 0x03, 0, 0, 0x00, 0x00, 0xFF, 4, 0, 4294967295, 0, 0, "NBPL_VERSION"⟩,
  ⟨0x0006, 1, 0x1, 0x03, 0, 0, 0x00, 0x00, 0xFF, 4, 0, 4294967295, 0, 0, "BBPL_VERSION"⟩,
  ⟨0x0007, 1, 0x1, 0x03, 0, 0, 0x00, 0x00, 0xFF, 4, 0, 4294967295, 0, 0, "NFCR_VERSION"⟩,
  ⟨0x0008, 1, 0x1, 0x03, 0, 16, 0x04, 0x00, 0xFF, 4, 0, 4294967295, 0, 0, "MANIFEST_COUNTER"⟩,
  ⟨0x0009, 1, 0x1, 0x04, 0, 0, 0x00, 0x00, 0xFF, 8, 0, 18446744073709551615, 0, 0, "METR_CHECK"⟩,
  ⟨0x000A, 1, 0x1, 0x30, 0, 0, 0x00, 0x00, 0xFF, 24, 0, 0, 0, 0, "SW_IDENT"⟩,
  ⟨0x000B, 1, 0x1, 0x30, 4, 0, 0x00, 0x43, 0xFF, 24, 0, 0, 0, 0, "POST_ID"⟩,
  ⟨0x0010, 1, 0x1, 0x03, 0, 16, 0x04, 0x00, 0xFF, 4, 0, 4294967295, 0, 0, "METR_CHANGE_COUNT"⟩,
  ⟨0x0011, 1, 0x1, 0x02, 0, 16, 0x04, 0x00, 0xFF, 2, 0, 1024, 0, 0, "METR_LOG_USED"⟩,
  ⟨0x0012, 1, 0x1, 0x01, 0, 0, 0x00, 0x00, 0xFF, 1, 0, 1, 0, 0, "FACTORY_COMPLETE"⟩,
  ⟨0x0100, 1, 0x1, 0x01, 0, 0, 0x00, 0x00, 0xFF, 1, 0, 7, 0, 0, "MODE"⟩,
  ⟨0x0101, 1, 0x1, 0x01, 0, 0, 0x00, 0x00, 0xFF, 1, 0, 7, 0, 0, "MODE_PREVIOUS"⟩,
  ⟨0x0102, 1, 0x1, 0x03, 0, 0, 0x00, 0x00, 0xFF, 4, 0, 4294967295, 0, 0, "MODE_CAUSE"⟩,
  ⟨0x0103, 1, 0x1, 0x20, 0, 0, 0x00, 0x00, 0xFF, 4, 0, 4294967295, 0, 0, "SAFESTOP_CAUSES"⟩,
  ⟨0x0104, 1, 0x1, 0x01, 0, 0, 0x00, 0x00, 0xFF, 1, 0, 1, 0, 0, "POWER_STATE"⟩,
  ⟨0x0105, 1, 0x1, 0x02, 0, 1, 0x00, 0x00, 0xFF, 2, 0, 65535, 0, 0, "VSYS_LEVEL"⟩,
  ⟨0x0106, 1, 0x1, 0x02, 0, 1, 0x00, 0x00, 0xFF, 2, 0, 65535, 0, 0, "VHOLD_LEVEL"⟩,
  ⟨0x0107, 1, 0x1, 0x02, 0, 17, 0x00, 0x00, 0xFF, 2, 0, 65535, 0, 0, "HOLDUP_CAP"⟩,
  ⟨0x0108, 1, 0x1, 0x02, 4, 1, 0x00, 0x42, 0xFF, 2, 12000, 20000, 14000, 0, "HOLDUP_FINAL_V"⟩,
  ⟨0x0109, 1, 0x1, 0x01, 4, 0, 0x00, 0x42, 0xFF, 1, 0, 1, 0, 0, "LAST_GASP_ROUTE"⟩,
  ⟨0x010A, 1, 0x1, 0x03, 0, 16, 0x04, 0x00, 0xFF, 4, 0, 4294967295, 0, 0, "START_COUNT"⟩,
  ⟨0x010B, 1, 0x1, 0x03, 0, 16, 0x04, 0x00, 0xFF, 4, 0, 4294967295, 0, 0, "RESET_N_COUNT"⟩,
  ⟨0x010C, 1, 0x1, 0x02, 4, 9, 0x00, 0x42, 0xFF, 2, 60, 3600, 900, 0, "SERVICE_TIMEOUT"⟩,
  ⟨0x0110, 1, 0x1, 0x20, 4, 0, 0x00, 0x03, 0xFF, 4, 0, 4294967295, 16383, 0, "UNIT_ENABLE"⟩,
  ⟨0x0111, 1, 0x1, 0x03, 0, 0, 0x00, 0x00, 0xFF, 4, 0, 4294967295, 0, 0, "UNIT_POWERED"⟩,
  ⟨0x0200, 1, 0x1, 0x02, 4, 10, 0x00, 0x42, 0xFF, 2, 100, 10000, 1000, 0, "HOST_BEAT"⟩,
  ⟨0x0201, 1, 0x1, 0x01, 4, 16, 0x00, 0x42, 0xFF, 1, 2, 10, 3, 0, "HOST_BEAT_MISS"⟩,
  ⟨0x0202, 1, 0x1, 0x20, 0, 0, 0x00, 0x00, 0xFF, 4, 0, 4294967295, 3, 0, "PORT_STATUS"⟩,
  ⟨0x0203, 1, 0x1, 0x03, 0, 16, 0x04, 0x00, 0xFF, 4, 0, 4294967295, 0, 0, "HSPI_CRC_ERRORS"⟩,
  ⟨0x0204, 1, 0x1, 0x03, 0, 16, 0x04, 0x00, 0xFF, 4, 0, 4294967295, 0, 0, "HUART_FRAME_ERRORS"⟩,
  ⟨0x0205, 1, 0x1, 0x03, 0, 16, 0x04, 0x00, 0xFF, 4, 0, 4294967295, 0, 0, "HSPI_COLLISIONS"⟩]

/-- Rows of the parameter tables, part 2, in rising ID order (R111). -/
def paramTable1 : List PRow := [
  ⟨0x0206, 1, 0x1, 0x03, 0, 16, 0x04, 0x00, 0xFF, 4, 0, 4294967295, 0, 0, "HUART_COLLISIONS"⟩,
  ⟨0x0207, 1, 0x1, 0x03, 0, 16, 0x04, 0x00, 0xFF, 4, 0, 4294967295, 0, 0, "FOLLOW_WRITES_DISCARDED"⟩,
  ⟨0x0208, 1, 0x1, 0x03, 0, 16, 0x04, 0x00, 0xFF, 4, 0, 4294967295, 0, 0, "SLOT_PROTOCOL_ERRORS"⟩,
  ⟨0x0209, 1, 0x1, 0x03, 0, 16, 0x04, 0x00, 0xFF, 4, 0, 4294967295, 0, 0, "EVENT_STREAM_LOST"⟩,
  ⟨0x020A, 1, 0x1, 0x03, 0, 16, 0x04, 0x00, 0xFF, 4, 0, 4294967295, 0, 0, "STAGE_MISSES"⟩,
  ⟨0x020B, 1, 0x1, 0x01, 0, 13, 0x00, 0x00, 0xFF, 1, 0, 255, 0, 0, "MAILBOX_FRAMES_MAX"⟩,
  ⟨0x020C, 1, 0x1, 0x03, 0, 16, 0x04, 0x00, 0xFF, 4, 0, 4294967295, 0, 0, "PARAM_COMMIT_COUNT"⟩,
  ⟨0x020D, 1, 0x1, 0x03, 0, 16, 0x04, 0x00, 0xFF, 4, 0, 4294967295, 0, 0, "PENDING_SERIAL_HOST"⟩,
  ⟨0x020E, 1, 0x1, 0x01, 0, 16, 0x00, 0x00, 0xFF, 1, 0, 128, 0, 0, "PENDING_COUNT_HOST"⟩,
  ⟨0x0300, 1, 0x1, 0x04, 0, 13, 0x04, 0x00, 0xFF, 8, 0, 18446744073709551615, 0, 0, "FRAME_NUMBER"⟩,
  ⟨0x0301, 1, 0x1, 0x01, 0, 0, 0x00, 0x00, 0xFF, 1, 0, 2, 0, 0, "LEAD_LANE"⟩,
  ⟨0x0302, 1, 0x1, 0x01, 0, 0, 0x00, 0x00, 0xFF, 1, 0, 8, 0, 0, "LANE_A_STATE"⟩,
  ⟨0x0303, 1, 0x1, 0x01, 0, 0, 0x00, 0x00, 0xFF, 1, 0, 8, 0, 0, "LANE_B_STATE"⟩,
  ⟨0x0304, 1, 0x1, 0x20, 0, 0, 0x00, 0x00, 0xFF, 4, 0, 4294967295, 0, 0, "LANE_FAULT_LAST"⟩,
  ⟨0x0305, 1, 0x1, 0x03, 0, 16, 0x04, 0x00, 0xFF, 4, 0, 4294967295, 0, 0, "TAKEOVER_COUNT"⟩,
  ⟨0x0306, 1, 0x1, 0x03, 0, 16, 0x04, 0x00, 0xFF, 4, 0, 4294967295, 0, 0, "DISPUTE_COUNT"⟩,
  ⟨0x0307, 1, 0x1, 0x03, 0, 16, 0x04, 0x00, 0xFF, 4, 0, 4294967295, 0, 0, "OVERRUN_COUNT"⟩,
  ⟨0x0308, 1, 0x1, 0x01, 4, 16, 0x00, 0x43, 0xFF, 1, 1, 5, 3, 0, "REPAIR_LIMIT_24H"⟩,
  ⟨0x0309, 1, 0x1, 0x02, 0, 12, 0x00, 0x00, 0xFF, 2, 0, 65535, 0, 0, "SLOT_MARGIN_MIN"⟩,
  ⟨0x030A, 1, 0x1, 0x01, 0, 0, 0x00, 0x00, 0xFF, 1, 0, 1, 0, 0, "TICK_SOURCE"⟩,
  ⟨0x030B, 1, 0x1, 0x13, 0, 15, 0x00, 0x00, 0xFF, 4, -2147483648, 2147483647, 0, 0, "XA_DEVIATION"⟩,
  ⟨0x030C, 1, 0x1, 0x13, 0, 15, 0x00, 0x00, 0xFF, 4, -2147483648, 2147483647, 0, 0, "XB_DEVIATION"⟩,
  ⟨0x030D, 1, 0x1, 0x03, 0, 16, 0x04, 0x00, 0xFF, 4, 0, 4294967295, 0, 0, "MIRROR_ECC_CORRECTED"⟩,
  ⟨0x0400, 1, 0x1, 0x03, 0, 9, 0x00, 0x00, 0xFF, 4, 0, 4294967295, 0, 0, "RTC_TIME"⟩,
  ⟨0x0401, 1, 0x1, 0x01, 0, 0, 0x00, 0x00, 0xFF, 1, 0, 2, 2, 0, "CLOCK_STATUS"⟩,
  ⟨0x0402, 1, 0x1, 0x12, 4, 18, 0x20, 0xFE, 0xFF, 2, -720, 840, 0, 0, "TZ_OFFSET"⟩,
  ⟨0x0403, 1, 0x1, 0x40, 4, 0, 0x20, 0xFE, 0xFF, 16, 0, 0, 0, 0, "DST_RULE"⟩,
  ⟨0x0404, 1, 0x1, 0x02, 4, 9, 0x00, 0x42, 0xFF, 2, 1, 3600, 60, 0, "CLOCK_STEP_MAX"⟩,
  ⟨0x0405, 1, 0x1, 0x02, 4, 19, 0x00, 0x42, 0xFF, 2, 0, 365, 30, 0, "CLOCK_AGE_MAX"⟩,
  ⟨0x0406, 1, 0x1, 0x03, 0, 9, 0x00, 0x00, 0xFF, 4, 0, 4294967295, 0, 0, "CLOCK_LAST_SET"⟩,
  ⟨0x0407, 1, 0x1, 0x13, 0, 9, 0x00, 0x00, 0xFF, 4, -2147483648, 2147483647, 0, 0, "CLOCK_LAST_STEP"⟩,
  ⟨0x0408, 1, 0x1, 0x13, 0, 15, 0x00, 0x00, 0xFF, 4, -2147483648, 2147483647, 0, 0, "RTC_DEVIATION"⟩,
  ⟨0x0409, 1, 0x1, 0x13, 4, 15, 0x00, 0x41, 0xFF, 4, -200000, 200000, 0, 0, "RTC_TRIM"⟩,
  ⟨0x040A, 1, 0x1, 0x03, 0, 9, 0x00, 0x00, 0xFF, 4, 0, 4294967295, 0, 0, "LOCAL_TIME"⟩,
  ⟨0x040B, 1, 0x1, 0x03, 0, 16, 0x04, 0x00, 0xFF, 4, 0, 4294967295, 0, 0, "CLOCK_SET_COUNT"⟩,
  ⟨0x1000, 18, 0x10, 0x01, 4, 0, 0x00, 0x43, 0xFF, 1, 0, 2, 1, 1, "CH_MODE"⟩]

/-- Rows of the parameter tables, part 3, in rising ID order (R111). -/
def paramTable2 : List PRow := [
  ⟨0x1001, 18, 0x10, 0x01, 4, 0, 0x00, 0x43, 0xFF, 1, 0, 2, 0, 1, "CH_PGA"⟩,
  ⟨0x1002, 18, 0x10, 0x01, 4, 0, 0x00, 0x43, 0xFF, 1, 0, 1, 0, 1, "CH_INTEG"⟩,
  ⟨0x1003, 18, 0x10, 0x01, 4, 0, 0x00, 0x43, 0xFF, 1, 8, 14, 9, 1, "CH_INT_LEAK"⟩,
  ⟨0x1004, 18, 0x10, 0x02, 4, 0, 0x00, 0x43, 0xFF, 2, 256, 65535, 1287, 1, "CH_INT_SCALE"⟩,
  ⟨0x1005, 18, 0x10, 0x13, 0, 0, 0x00, 0x00, 0xFF, 4, -8388607, 8388607, 0, 1, "CH_SAMPLE"⟩,
  ⟨0x1006, 18, 0x10, 0x01, 0, 0, 0x00, 0x00, 0xFF, 1, 0, 255, 0, 1, "CH_FLAGS"⟩,
  ⟨0x1007, 18, 0x10, 0x13, 0, 0, 0x00, 0x00, 0xFF, 4, -8388607, 8388607, 0, 1, "CH_SCS_RESULT"⟩,
  ⟨0x1008, 18, 0x10, 0x02, 0, 7, 0x00, 0x00, 0xFF, 2, 0, 10000, 0, 1, "CH_DENSITY"⟩,
  ⟨0x1009, 18, 0x10, 0x03, 0, 16, 0x04, 0x00, 0xFF, 4, 0, 4294967295, 0, 1, "CH_OVER_COUNT"⟩,
  ⟨0x100A, 18, 0x10, 0x03, 0, 16, 0x04, 0x00, 0xFF, 4, 0, 4294967295, 0, 1, "CH_FAULT_COUNT"⟩,
  ⟨0x1180, 1, 0x1, 0x01, 4, 0, 0x00, 0x43, 0xFF, 1, 0, 2, 0, 0, "SYNC_IN_MODE"⟩,
  ⟨0x1181, 1, 0x1, 0x03, 0, 16, 0x04, 0x00, 0xFF, 4, 0, 4294967295, 0, 0, "SYNC_COUNT"⟩,
  ⟨0x1182, 1, 0x1, 0x01, 0, 0, 0x00, 0x00, 0xFF, 1, 0, 1, 0, 0, "SYNC_PENDING"⟩,
  ⟨0x1183, 1, 0x1, 0x04, 0, 13, 0x04, 0x00, 0xFF, 8, 0, 18446744073709551615, 0, 0, "SYNC_LAST_FRAME"⟩,
  ⟨0x1184, 1, 0x1, 0x40, 4, 0, 0x00, 0x43, 0xFF, 32, 0, 0, 0, 0, "AUX_SCAN"⟩,
  ⟨0x1185, 1, 0x1, 0x40, 0, 0, 0x00, 0x00, 0xFF, 272, 0, 0, 0, 0, "AUX_RESULTS"⟩,
  ⟨0x1186, 1, 0x1, 0x04, 0, 0, 0x00, 0x00, 0xFF, 8, 0, 18446744073709551615, 0, 0, "AUX_REF_RESULTS"⟩,
  ⟨0x1187, 1, 0x1, 0x40, 0, 0, 0x00, 0x00, 0xFF, 283, 0, 0, 0, 0, "DECIM_COEFFS"⟩,
  ⟨0x1200, 18, 0x10, 0x03, 4, 27, 0x00, 0x43, 0xFF, 4, 1, 4294967295, 1048576, 2, "CAL_SCALE"⟩,
  ⟨0x1201, 18, 0x10, 0x13, 4, 14, 0x00, 0x43, 0xFF, 4, -200000, 200000, 0, 2, "CAL_GAIN"⟩,
  ⟨0x1202, 18, 0x10, 0x13, 4, 6, 0x00, 0x43, 0xFF, 4, -6000, 6000, 0, 2, "CAL_PHASE"⟩,
  ⟨0x1203, 18, 0x10, 0x13, 4, 0, 0x00, 0x43, 0xFF, 4, -500000, 500000, 0, 2, "CAL_OFFSET"⟩,
  ⟨0x1204, 18, 0x10, 0x01, 4, 0, 0x00, 0x43, 0xFF, 1, 0, 1, 0, 2, "CAL_POLARITY"⟩,
  ⟨0x1205, 18, 0x10, 0x01, 4, 0, 0x00, 0x43, 0xFF, 1, 0, 32, 0, 2, "TC_SOURCE"⟩,
  ⟨0x1206, 18, 0x10, 0x40, 4, 14, 0x00, 0x43, 0xFF, 132, 0, 0, 0, 2, "TC_TABLE"⟩,
  ⟨0x1207, 18, 0x10, 0x14, 0, 0, 0x00, 0x00, 0xFF, 8, -9223372036854775808, 9223372036854775807, 0, 2, "CAL_VALUE"⟩,
  ⟨0x1208, 18, 0x10, 0x04, 0, 14, 0x00, 0x00, 0xFF, 8, 0, 18446744073709551615, 0, 2, "TC_APPLIED"⟩,
  ⟨0x1380, 1, 0x1, 0x03, 4, 1, 0x01, 0x41, 0xFF, 4, 50000, 480000, 230000, 0, "NOMINAL_U"⟩,
  ⟨0x1381, 1, 0x1, 0x01, 4, 26, 0x01, 0x41, 0xFF, 1, 0, 1, 0, 0, "NOMINAL_F"⟩,
  ⟨0x1382, 1, 0x1, 0x03, 4, 2, 0x01, 0x41, 0xFF, 4, 1000, 80000, 32000, 0, "NOMINAL_I_GRID"⟩,
  ⟨0x1383, 1, 0x1, 0x03, 4, 2, 0x01, 0x41, 0xFF, 4, 1000, 80000, 32000, 0, "NOMINAL_I_OUTLET"⟩,
  ⟨0x1384, 1, 0x1, 0x03, 4, 1, 0x01, 0x41, 0xFF, 4, 50000, 1000000, 1000000, 0, "RATED_UDC"⟩,
  ⟨0x1385, 1, 0x1, 0x03, 4, 2, 0x01, 0x41, 0xFF, 4, 1000, 500000, 500000, 0, "RATED_IDC"⟩,
  ⟨0x1386, 1, 0x1, 0x01, 4, 0, 0x01, 0x41, 0xFF, 1, 0, 1, 0, 0, "WIRING"⟩,
  ⟨0x1387, 1, 0x1, 0x04, 0, 0, 0x00, 0x00, 0xFF, 8, 0, 18446744073709551615, 0, 0, "METR_SET_CHECK"⟩,
  ⟨0x13C1, 16, 0x1, 0x40, 4, 8, 0x01, 0x41, 0xFF, 136, 0, 0, 0, 0, "TEMP_CURVE"⟩]

/-- Rows of the parameter tables, part 4, in rising ID order (R111). -/
def paramTable3 : List PRow := [
  ⟨0x13DF, 1, 0x1, 0x40, 0, 8, 0x00, 0x00, 0xFF, 136, 0, 0, 0, 0, "TEMP_VALUES"⟩,
  ⟨0x13E0, 1, 0x1, 0x02, 3, 0, 0x10, 0x43, 0x00, 2, 10, 3000, 0, 0, "CAL_ACC_CTRL"⟩,
  ⟨0x13E1, 1, 0x1, 0x01, 0, 0, 0x10, 0x00, 0xFF, 1, 0, 3, 0, 0, "CAL_ACC_STATE"⟩,
  ⟨0x13E2, 1, 0x1, 0x40, 0, 0, 0x00, 0x00, 0xFF, 312, 0, 0, 0, 0, "CAL_ACC_RESULT"⟩,
  ⟨0x1400, 1, 0x1, 0x02, 4, 7, 0x00, 0x42, 0xFF, 2, 5000, 9500, 9000, 0, "SAG_THR"⟩,
  ⟨0x1401, 1, 0x1, 0x02, 4, 7, 0x00, 0x42, 0xFF, 2, 10500, 13000, 11000, 0, "SWELL_THR"⟩,
  ⟨0x1402, 1, 0x1, 0x02, 4, 7, 0x00, 0x42, 0xFF, 2, 50, 500, 200, 0, "EVENT_HYST"⟩,
  ⟨0x1403, 1, 0x1, 0x03, 4, 5, 0x00, 0x42, 0xFF, 4, 40000, 59900, 47500, 0, "FREQ_MIN"⟩,
  ⟨0x1404, 1, 0x1, 0x03, 4, 5, 0x00, 0x42, 0xFF, 4, 50100, 70000, 51500, 0, "FREQ_MAX"⟩,
  ⟨0x1405, 1, 0x1, 0x02, 4, 7, 0x00, 0x42, 0xFF, 2, 500, 5000, 2000, 0, "NEUTRAL_DISP_THR"⟩,
  ⟨0x1406, 1, 0x1, 0x02, 4, 7, 0x00, 0x42, 0xFF, 2, 200, 5000, 1000, 0, "IMBALANCE_THR"⟩,
  ⟨0x1407, 1, 0x1, 0x02, 4, 7, 0x00, 0x42, 0xFF, 2, 100, 5000, 500, 0, "CWV_I_THR"⟩,
  ⟨0x1408, 1, 0x1, 0x03, 4, 4, 0x00, 0x42, 0xFF, 4, 100, 100000, 1000, 0, "REVERSE_EVENT_E"⟩,
  ⟨0x1409, 1, 0x1, 0x02, 4, 7, 0x00, 0x42, 0xFF, 2, 10, 2000, 50, 0, "BAL_REL"⟩,
  ⟨0x140A, 1, 0x1, 0x03, 4, 4, 0x00, 0x42, 0xFF, 4, 0, 100000, 5000, 0, "BAL_ABS"⟩,
  ⟨0x140B, 1, 0x1, 0x03, 4, 3, 0x00, 0x42, 0xFF, 4, 0, 2000000, 0, 0, "BAL_OWN_POWER"⟩,
  ⟨0x140C, 1, 0x1, 0x02, 4, 7, 0x00, 0x42, 0xFF, 2, 0, 1000, 20, 0, "BAL_LOSS_AC"⟩,
  ⟨0x140D, 1, 0x1, 0x02, 4, 7, 0x00, 0x42, 0xFF, 2, 0, 2000, 500, 0, "BAL_LOSS_DC"⟩,
  ⟨0x1410, 3, 0x8, 0x01, 4, 0, 0x01, 0x41, 0xFF, 1, 0, 255, 1, 0, "PULSE_SOURCE"⟩,
  ⟨0x1411, 3, 0x8, 0x03, 4, 25, 0x01, 0x41, 0xFF, 4, 1, 100000, 1000, 0, "PULSE_CONST"⟩,
  ⟨0x1412, 3, 0x8, 0x01, 4, 10, 0x01, 0x41, 0xFF, 1, 2, 80, 30, 0, "PULSE_WIDTH"⟩,
  ⟨0x1413, 3, 0x8, 0x01, 4, 0, 0x01, 0x41, 0xFF, 1, 0, 1, 0, 0, "PULSE_POLARITY"⟩,
  ⟨0x1414, 3, 0x8, 0x04, 0, 16, 0x00, 0x00, 0xFF, 8, 0, 18446744073709551615, 0, 0, "PULSE_EMITTED"⟩,
  ⟨0x1415, 3, 0x8, 0x03, 0, 16, 0x00, 0x00, 0xFF, 4, 0, 4294967295, 0, 0, "PULSE_OWED"⟩,
  ⟨0x1480, 3, 0x8, 0x03, 0, 1, 0x00, 0x00, 0xFF, 4, 0, 4294967295, 0, 0, "URMS"⟩,
  ⟨0x1481, 3, 0x8, 0x03, 0, 2, 0x00, 0x00, 0xFF, 4, 0, 4294967295, 0, 0, "IRMS"⟩,
  ⟨0x1482, 3, 0x8, 0x13, 0, 3, 0x00, 0x00, 0xFF, 4, -2147483648, 2147483647, 0, 0, "P_CYCLE"⟩,
  ⟨0x1483, 3, 0x8, 0x13, 0, 28, 0x00, 0x00, 0xFF, 4, -2147483648, 2147483647, 0, 0, "Q_CYCLE"⟩,
  ⟨0x1484, 3, 0x8, 0x03, 0, 29, 0x00, 0x00, 0xFF, 4, 0, 4294967295, 0, 0, "S_CYCLE"⟩,
  ⟨0x1485, 3, 0x8, 0x12, 0, 7, 0x00, 0x00, 0xFF, 2, -10000, 10000, 0, 0, "PF"⟩,
  ⟨0x1486, 3, 0x8, 0x13, 0, 6, 0x00, 0x00, 0xFF, 4, -179999, 180000, 0, 0, "ANGLE_UI"⟩,
  ⟨0x1487, 3, 0x8, 0x01, 0, 0, 0x00, 0x00, 0xFF, 1, 0, 255, 0, 0, "CYCLE_FLAGS"⟩,
  ⟨0x1498, 2, 0x20, 0x13, 0, 3, 0x00, 0x00, 0xFF, 4, -2147483648, 2147483647, 0, 0, "P_TOTAL"⟩,
  ⟨0x1499, 2, 0x20, 0x13, 0, 28, 0x00, 0x00, 0xFF, 4, -2147483648, 2147483647, 0, 0, "Q_TOTAL"⟩,
  ⟨0x149A, 2, 0x20, 0x03, 0, 29, 0x00, 0x00, 0xFF, 4, 0, 4294967295, 0, 0, "S_TOTAL"⟩,
  ⟨0x149B, 2, 0x20, 0x12, 0, 7, 0x00, 0x00, 0xFF, 2, -10000, 10000, 0, 0, "PF_TOTAL"⟩]

/-- Rows of the parameter tables, part 5, in rising ID order (R111). -/
def paramTable4 : List PRow := [
  ⟨0x149C, 2, 0x20, 0x03, 0, 5, 0x00, 0x00, 0xFF, 4, 0, 4294967295, 0, 0, "FREQ"⟩,
  ⟨0x149D, 2, 0x20, 0x03, 0, 6, 0x00, 0x00, 0xFF, 4, 0, 359999, 0, 0, "ANGLE_U12"⟩,
  ⟨0x149E, 2, 0x20, 0x03, 0, 6, 0x00, 0x00, 0xFF, 4, 0, 359999, 0, 0, "ANGLE_U13"⟩,
  ⟨0x149F, 2, 0x20, 0x03, 0, 1, 0x00, 0x00, 0xFF, 4, 0, 4294967295, 0, 0, "UN_RMS"⟩,
  ⟨0x14A0, 3, 0x8, 0x03, 0, 1, 0x00, 0x00, 0xFF, 4, 0, 4294967295, 0, 0, "URMS"⟩,
  ⟨0x14A1, 3, 0x8, 0x03, 0, 2, 0x00, 0x00, 0xFF, 4, 0, 4294967295, 0, 0, "IRMS"⟩,
  ⟨0x14A2, 3, 0x8, 0x13, 0, 3, 0x00, 0x00, 0xFF, 4, -2147483648, 2147483647, 0, 0, "P_CYCLE"⟩,
  ⟨0x14A3, 3, 0x8, 0x13, 0, 28, 0x00, 0x00, 0xFF, 4, -2147483648, 2147483647, 0, 0, "Q_CYCLE"⟩,
  ⟨0x14A4, 3, 0x8, 0x03, 0, 29, 0x00, 0x00, 0xFF, 4, 0, 4294967295, 0, 0, "S_CYCLE"⟩,
  ⟨0x14A5, 3, 0x8, 0x12, 0, 7, 0x00, 0x00, 0xFF, 2, -10000, 10000, 0, 0, "PF"⟩,
  ⟨0x14A6, 3, 0x8, 0x13, 0, 6, 0x00, 0x00, 0xFF, 4, -179999, 180000, 0, 0, "ANGLE_UI"⟩,
  ⟨0x14A7, 3, 0x8, 0x01, 0, 0, 0x00, 0x00, 0xFF, 1, 0, 255, 0, 0, "CYCLE_FLAGS"⟩,
  ⟨0x14C0, 1, 0x1, 0x13, 0, 1, 0x00, 0x00, 0xFF, 4, -2147483648, 2147483647, 0, 0, "UDC_MEAN"⟩,
  ⟨0x14C1, 1, 0x1, 0x13, 0, 2, 0x00, 0x00, 0xFF, 4, -2147483648, 2147483647, 0, 0, "IDC_MEAN"⟩,
  ⟨0x14C2, 1, 0x1, 0x13, 0, 3, 0x00, 0x00, 0xFF, 4, -2147483648, 2147483647, 0, 0, "PDC_MEAN"⟩,
  ⟨0x14C3, 1, 0x1, 0x03, 0, 2, 0x00, 0x00, 0xFF, 4, 0, 4294967295, 0, 0, "IGN_RMS"⟩,
  ⟨0x14C4, 1, 0x1, 0x13, 0, 3, 0x00, 0x00, 0xFF, 4, -2147483648, 2147483647, 0, 0, "P_INST_GRID"⟩,
  ⟨0x14C5, 1, 0x1, 0x13, 0, 3, 0x00, 0x00, 0xFF, 4, -2147483648, 2147483647, 0, 0, "P_INST_OUTLET"⟩,
  ⟨0x1800, 1, 0x1, 0x04, 0, 13, 0x04, 0x00, 0xFF, 8, 0, 18446744073709551615, 0, 0, "LEDGER_FRAME"⟩,
  ⟨0x1801, 1, 0x1, 0x03, 0, 16, 0x04, 0x00, 0xFF, 4, 0, 4294967295, 0, 0, "CHECKPOINT_SEQ"⟩,
  ⟨0x1802, 1, 0x1, 0x40, 0, 0, 0x00, 0x00, 0xFF, 32, 0, 0, 0, 0, "CHAIN_VALUE"⟩,
  ⟨0x1803, 1, 0x1, 0x03, 0, 16, 0x04, 0x00, 0xFF, 4, 0, 4294967295, 0, 0, "RECORD_NUMBER"⟩,
  ⟨0x1804, 1, 0x1, 0x03, 0, 16, 0x04, 0x00, 0xFF, 4, 0, 4294967295, 0, 0, "RECORD_OLDEST"⟩,
  ⟨0x1805, 1, 0x1, 0x03, 0, 16, 0x04, 0x00, 0xFF, 4, 0, 4294967295, 0, 0, "RECORDS_UNSIGNED"⟩,
  ⟨0x1806, 1, 0x1, 0x02, 0, 16, 0x00, 0x00, 0xFF, 2, 0, 512, 0, 0, "RECORDS_PENDING"⟩,
  ⟨0x1807, 1, 0x1, 0x03, 0, 16, 0x04, 0x00, 0xFF, 4, 0, 4294967295, 0, 0, "RECOVERY_COUNT"⟩,
  ⟨0x1808, 1, 0x1, 0x03, 0, 16, 0x04, 0x00, 0xFF, 4, 0, 4294967295, 0, 0, "GAP_COUNT"⟩,
  ⟨0x1809, 1, 0x1, 0x03, 0, 16, 0x04, 0x00, 0xFF, 4, 0, 4294967295, 0, 0, "MRAM_CORRECTED"⟩,
  ⟨0x1810, 1, 0x1, 0x01, 4, 18, 0x20, 0x42, 0xFF, 1, 1, 60, 15, 0, "LP1_PERIOD"⟩,
  ⟨0x1811, 1, 0x1, 0x03, 4, 0, 0x20, 0x42, 0xFF, 4, 0, 4294967295, 459008, 0, "LP1_SOURCES"⟩,
  ⟨0x1812, 1, 0x1, 0x02, 0, 0, 0x00, 0x00, 0xFF, 2, 0, 8639, 0, 0, "LP1_WRITE_INDEX"⟩,
  ⟨0x1813, 1, 0x1, 0x02, 0, 16, 0x00, 0x00, 0xFF, 2, 0, 8640, 0, 0, "LP1_COUNT"⟩,
  ⟨0x1814, 1, 0x1, 0x40, 0, 0, 0x00, 0x00, 0xFF, 276480, 0, 0, 0, 0, "LP1_BUFFER"⟩,
  ⟨0x1818, 1, 0x1, 0x01, 4, 18, 0x20, 0x42, 0xFF, 1, 1, 60, 15, 0, "LP2_PERIOD"⟩,
  ⟨0x1819, 1, 0x1, 0x03, 4, 0, 0x20, 0x42, 0xFF, 4, 0, 4294967295, 394498, 0, "LP2_SOURCES"⟩,
  ⟨0x181A, 1, 0x1, 0x02, 0, 0, 0x00, 0x00, 0xFF, 2, 0, 8639, 0, 0, "LP2_WRITE_INDEX"⟩]

/-- Rows of the parameter tables, part 6, in rising ID order (R111). -/
def paramTable5 : List PRow := [
  ⟨0x181B, 1, 0x1, 0x02, 0, 16, 0x00, 0x00, 0xFF, 2, 0, 8640, 0, 0, "LP2_COUNT"⟩,
  ⟨0x181C, 1, 0x1, 0x40, 0, 0, 0x00, 0x00, 0xFF, 276480, 0, 0, 0, 0, "LP2_BUFFER"⟩,
  ⟨0x1820, 1, 0x1, 0x40, 0, 0, 0x00, 0x00, 0xFF, 32768, 0, 0, 0, 0, "GAP_LOG"⟩,
  ⟨0x1821, 1, 0x1, 0x02, 0, 0, 0x00, 0x00, 0xFF, 2, 0, 1023, 0, 0, "GAP_LOG_INDEX"⟩,
  ⟨0x1A00, 1, 0x1, 0x01, 0, 0, 0x00, 0x00, 0xFF, 1, 1, 8, 0, 0, "TARIFF_ACTIVE"⟩,
  ⟨0x1A02, 1, 0x1, 0x01, 4, 0, 0x20, 0xFE, 0xFF, 1, 1, 8, 1, 0, "DEFAULT_TARIFF"⟩,
  ⟨0x1A03, 1, 0x1, 0x03, 0, 9, 0x00, 0x00, 0xFF, 4, 0, 4294967295, 0, 0, "CALENDAR_ACT_TIME"⟩,
  ⟨0x1A04, 1, 0x1, 0x04, 0, 0, 0x00, 0x00, 0xFF, 8, 0, 18446744073709551615, 0, 0, "CALENDAR_ACTIVE_CHECK"⟩,
  ⟨0x1A05, 1, 0x1, 0x04, 0, 0, 0x00, 0x00, 0xFF, 8, 0, 18446744073709551615, 0, 0, "CALENDAR_PASSIVE_CHECK"⟩,
  ⟨0x1A06, 1, 0x1, 0x40, 4, 2, 0x20, 0xFE, 0xFF, 32, 0, 0, 0, 0, "TARIFF_CAP"⟩,
  ⟨0x1A07, 1, 0x1, 0x03, 0, 16, 0x04, 0x00, 0xFF, 4, 0, 4294967295, 0, 0, "TARIFF_SWITCH_COUNT"⟩,
  ⟨0x1A10, 1, 0x1, 0x40, 4, 0, 0x20, 0xFE, 0xFF, 1912, 0, 0, 0, 0, "PASSIVE_CALENDAR"⟩,
  ⟨0x1A11, 1, 0x1, 0x40, 0, 0, 0x00, 0x00, 0xFF, 1912, 0, 0, 0, 0, "ACTIVE_CALENDAR"⟩,
  ⟨0x1C00, 1, 0x1, 0x01, 4, 0, 0x20, 0xFE, 0xFF, 1, 0, 28, 1, 0, "BILLING_DAY"⟩,
  ⟨0x1C01, 1, 0x1, 0x02, 4, 18, 0x20, 0xFE, 0xFF, 2, 0, 1439, 0, 0, "BILLING_MINUTE"⟩,
  ⟨0x1C02, 1, 0x1, 0x03, 0, 16, 0x04, 0x00, 0xFF, 4, 0, 4294967295, 0, 0, "BILLING_COUNT"⟩,
  ⟨0x1C03, 1, 0x1, 0x03, 0, 9, 0x00, 0x00, 0xFF, 4, 0, 4294967295, 0, 0, "BILLING_LAST_END"⟩,
  ⟨0x1C04, 1, 0x1, 0x40, 0, 0, 0x00, 0x00, 0xFF, 98304, 0, 0, 0, 0, "BILLING_SNAPSHOTS"⟩,
  ⟨0x1C10, 3, 0x8, 0x01, 4, 0, 0x20, 0xFE, 0xFF, 1, 0, 10, 0, 0, "DEM_SOURCE"⟩,
  ⟨0x1C11, 3, 0x8, 0x01, 4, 0, 0x20, 0xFE, 0xFF, 1, 0, 1, 0, 0, "DEM_MODE"⟩,
  ⟨0x1C12, 3, 0x8, 0x01, 4, 18, 0x20, 0xFE, 0xFF, 1, 5, 60, 15, 0, "DEM_PERIOD"⟩,
  ⟨0x1C13, 3, 0x8, 0x01, 4, 16, 0x20, 0xFE, 0xFF, 1, 1, 15, 1, 0, "DEM_SUBPERIODS"⟩,
  ⟨0x1C14, 3, 0x8, 0x03, 0, 3, 0x00, 0x00, 0xFF, 4, 0, 4294967295, 0, 0, "DEM_LAST"⟩,
  ⟨0x1C15, 3, 0x8, 0x01, 0, 0, 0x00, 0x00, 0xFF, 1, 0, 255, 0, 0, "DEM_LAST_FLAGS"⟩,
  ⟨0x1C16, 3, 0x8, 0x40, 0, 3, 0x00, 0x00, 0xFF, 72, 0, 0, 0, 0, "DEM_MAX"⟩,
  ⟨0x1D00, 1, 0x1, 0x40, 4, 0, 0x00, 0x42, 0xFF, 188, 0, 0, 0, 0, "DISP_LIST"⟩,
  ⟨0x1D01, 1, 0x1, 0x01, 4, 9, 0x00, 0x42, 0xFF, 1, 2, 30, 8, 0, "DISP_DWELL"⟩,
  ⟨0x1D02, 1, 0x1, 0x02, 4, 9, 0x00, 0x42, 0xFF, 2, 10, 600, 60, 0, "DISP_MANUAL_TIMEOUT"⟩,
  ⟨0x1D03, 1, 0x1, 0x01, 4, 0, 0x00, 0x42, 0xFF, 1, 0, 15, 8, 0, "DISP_CONTRAST"⟩,
  ⟨0x1D04, 1, 0x1, 0x01, 0, 0, 0x00, 0x00, 0xFF, 1, 0, 255, 0, 0, "DISP_POSITION"⟩,
  ⟨0x1D05, 1, 0x1, 0x04, 1, 0, 0x00, 0xFF, 0xFF, 8, 0, 18446744073709551615, 0, 0, "LCD_USER_SEGS"⟩,
  ⟨0x2000, 1, 0x1, 0x01, 0, 0, 0x00, 0x00, 0xFF, 1, 0, 6, 0, 0, "PILOT_STATE"⟩,
  ⟨0x2001, 1, 0x1, 0x02, 0, 7, 0x00, 0x00, 0xFF, 2, 0, 10000, 0, 0, "PILOT_DUTY"⟩,
  ⟨0x2002, 1, 0x1, 0x03, 0, 1, 0x00, 0x00, 0xFF, 4, 0, 4294967295, 0, 0, "PILOT_LEVELS"⟩,
  ⟨0x2003, 1, 0x1, 0x01, 4, 0, 0x00, 0x42, 0xFF, 1, 0, 1, 0, 0, "VENT_SUPPORTED"⟩,
  ⟨0x2004, 1, 0x1, 0x01, 4, 0, 0x00, 0x42, 0xFF, 1, 0, 1, 0, 0, "PP_MODE"⟩]

/-- Rows of the parameter tables, part 7, in rising ID order (R111). -/
def paramTable6 : List PRow := [
  ⟨0x2005, 1, 0x1, 0x03, 4, 2, 0x00, 0x42, 0xFF, 4, 6000, 80000, 32000, 0, "TETHERED_RATING"⟩,
  ⟨0x2006, 1, 0x1, 0x02, 4, 22, 0x00, 0x42, 0xFF, 2, 330, 4700, 1000, 0, "PP_PULLUP"⟩,
  ⟨0x2007, 1, 0x1, 0x03, 0, 22, 0x00, 0x00, 0xFF, 4, 0, 4294967295, 0, 0, "PP_RESISTANCE"⟩,
  ⟨0x2008, 1, 0x1, 0x03, 0, 2, 0x00, 0x00, 0xFF, 4, 0, 4294967295, 0, 0, "CABLE_RATING"⟩,
  ⟨0x2009, 1, 0x1, 0x03, 0, 16, 0x04, 0x00, 0xFF, 4, 0, 4294967295, 0, 0, "PILOT_STATE_COUNT"⟩,
  ⟨0x2100, 1, 0x1, 0x03, 4, 0, 0x00, 0x42, 0xFF, 4, 0, 4294967295, 66051, 0, "PROTOCOL_ORDER"⟩,
  ⟨0x2101, 1, 0x1, 0x01, 4, 0, 0x00, 0x42, 0xFF, 1, 0, 3, 3, 0, "PAYMENT_OPTIONS"⟩,
  ⟨0x2102, 1, 0x1, 0x01, 4, 20, 0x00, 0x42, 0xFF, 1, 20, 80, 60, 0, "SLAC_ATTEN_MAX"⟩,
  ⟨0x2103, 1, 0x1, 0x01, 4, 9, 0x00, 0x42, 0xFF, 1, 20, 50, 20, 0, "SLAC_INIT_TIMEOUT"⟩,
  ⟨0x2104, 1, 0x1, 0x01, 4, 0, 0x00, 0x42, 0xFF, 1, 0, 1, 1, 0, "HLC_FALLBACK"⟩,
  ⟨0x2105, 1, 0x1, 0x02, 4, 10, 0x00, 0x42, 0xFF, 2, 500, 10000, 2000, 0, "LOOP_LOSS_TIME"⟩,
  ⟨0x2106, 1, 0x1, 0x01, 4, 0, 0x00, 0x42, 0xFF, 1, 0, 1, 1, 0, "SDP_SECURITY"⟩,
  ⟨0x2107, 1, 0x1, 0x01, 4, 0, 0x00, 0x42, 0xFF, 1, 0, 1, 1, 0, "PNC_AUTH"⟩,
  ⟨0x2108, 1, 0x1, 0x02, 4, 10, 0x00, 0x42, 0xFF, 2, 1000, 30000, 10000, 0, "PNC_HOST_TIMEOUT"⟩,
  ⟨0x2109, 1, 0x1, 0x01, 4, 0, 0x20, 0x42, 0xFF, 1, 0, 1, 0, 0, "BPT_ENABLE"⟩,
  ⟨0x210A, 1, 0x1, 0x01, 0, 0, 0x00, 0x00, 0xFF, 1, 0, 255, 0, 0, "ACTIVE_PROTOCOL"⟩,
  ⟨0x210B, 1, 0x1, 0x04, 0, 0, 0x00, 0x00, 0xFF, 8, 0, 18446744073709551615, 0, 0, "EVCCID"⟩,
  ⟨0x210C, 1, 0x1, 0x03, 0, 16, 0x04, 0x00, 0xFF, 4, 0, 4294967295, 0, 0, "VPLC_LINK_LOSSES"⟩,
  ⟨0x2200, 1, 0x1, 0x01, 4, 0, 0x00, 0x03, 0xFF, 1, 0, 1, 0, 0, "OUTLET_KIND"⟩,
  ⟨0x2201, 1, 0x1, 0x03, 4, 2, 0x00, 0x42, 0xFF, 4, 6000, 63000, 32000, 0, "POST_RATING_I"⟩,
  ⟨0x2202, 1, 0x1, 0x03, 4, 2, 0x00, 0x42, 0xFF, 4, 1000, 500000, 200000, 0, "POST_RATING_IDC"⟩,
  ⟨0x2203, 1, 0x1, 0x03, 4, 3, 0x00, 0x42, 0xFF, 4, 1000000, 500000000, 150000000, 0, "POST_RATING_PDC"⟩,
  ⟨0x2204, 1, 0x1, 0x40, 4, 2, 0x20, 0xFE, 0xFF, 12, 0, 0, 0, 0, "GRID_CAP"⟩,
  ⟨0x2206, 1, 0x1, 0x01, 4, 0, 0x00, 0x42, 0xFF, 1, 0, 32, 0, 0, "DERATE_SOURCE"⟩,
  ⟨0x2207, 1, 0x1, 0x12, 4, 8, 0x00, 0x42, 0xFF, 2, 4000, 12000, 7000, 0, "DERATE_T_START"⟩,
  ⟨0x2208, 1, 0x1, 0x12, 4, 8, 0x00, 0x42, 0xFF, 2, 4500, 12500, 9000, 0, "DERATE_T_END"⟩,
  ⟨0x220A, 1, 0x1, 0x01, 4, 0, 0x20, 0xFE, 0xFF, 1, 0, 1, 0, 0, "FREE_CHARGING"⟩,
  ⟨0x220B, 1, 0x1, 0x02, 4, 9, 0x00, 0x42, 0xFF, 2, 0, 14400, 900, 0, "HOST_LOSS_GRACE"⟩,
  ⟨0x220C, 1, 0x1, 0x02, 4, 9, 0x00, 0x42, 0xFF, 2, 10, 600, 60, 0, "REMOTE_START_WINDOW"⟩,
  ⟨0x220D, 1, 0x1, 0x02, 4, 10, 0x00, 0x42, 0xFF, 2, 500, 10000, 3000, 0, "AUTH_HOST_TIMEOUT"⟩,
  ⟨0x220E, 1, 0x1, 0x02, 4, 10, 0x00, 0x42, 0xFF, 2, 1000, 10000, 3000, 0, "STOP_WAIT"⟩,
  ⟨0x220F, 1, 0x1, 0x02, 4, 13, 0x00, 0x42, 0xFF, 2, 80, 8000, 800, 0, "STAGE_TIMEOUT"⟩,
  ⟨0x2210, 1, 0x1, 0x40, 0, 0, 0x00, 0x00, 0xFF, 16, 0, 0, 0, 0, "LIMIT_APPLIED"⟩,
  ⟨0x2211, 1, 0x1, 0x01, 0, 0, 0x00, 0x00, 0xFF, 1, 0, 7, 0, 0, "SESSION_STATE"⟩,
  ⟨0x2212, 1, 0x1, 0x03, 0, 16, 0x04, 0x00, 0xFF, 4, 0, 4294967295, 0, 0, "SESSION_RECORD"⟩,
  ⟨0x2800, 1, 0x1, 0x04, 0, 0, 0x00, 0x00, 0xFF, 8, 0, 18446744073709551615, 0, 0, "SAFETY_CHECK"⟩]

/-- Rows of the parameter tables, part 8, in rising ID order (R111). -/
def paramTable7 : List PRow := [
  ⟨0x2801, 1, 0x1, 0x01, 0, 0, 0x00, 0x00, 0xFF, 1, 0, 2, 0, 0, "SAFETY_CONFIRM_STATE"⟩,
  ⟨0x2802, 1, 0x1, 0x04, 0, 0, 0x00, 0x00, 0xFF, 8, 0, 18446744073709551615, 0, 0, "SAFETY_CONFIRMED_VALUE"⟩,
  ⟨0x2803, 1, 0x1, 0x03, 0, 16, 0x04, 0x00, 0xFF, 4, 0, 4294967295, 0, 0, "SAFETY_CHANGE_COUNT"⟩,
  ⟨0x2804, 1, 0x1, 0x03, 0, 0, 0x00, 0x00, 0xFF, 4, 0, 4294967295, 0, 0, "SAFETY_TRIP_LAST"⟩,
  ⟨0x2805, 1, 0x1, 0x03, 0, 0, 0x00, 0x00, 0xFF, 4, 0, 4294967295, 0, 0, "SAFETY_TEST_RESULTS"⟩,
  ⟨0x2810, 4, 0x1, 0x20, 4, 0, 0x02, 0x43, 0xFF, 4, 0, 4294967295, 1023, 0, "FT_CFG"⟩,
  ⟨0x2820, 1, 0x1, 0x01, 4, 2, 0x02, 0x43, 0xFF, 1, 3, 10, 6, 0, "RDC_THR"⟩,
  ⟨0x2821, 1, 0x1, 0x02, 4, 2, 0x02, 0x43, 0xFF, 2, 100, 300, 180, 0, "RC_PEAK_THR"⟩,
  ⟨0x2822, 1, 0x1, 0x01, 4, 13, 0x02, 0x43, 0xFF, 1, 8, 40, 16, 0, "RC_PEAK_PERSIST"⟩,
  ⟨0x2823, 1, 0x1, 0x01, 4, 0, 0x02, 0x43, 0xFF, 1, 0, 3, 2, 0, "FG_FREQ"⟩,
  ⟨0x2824, 1, 0x1, 0x04, 0, 0, 0x00, 0x00, 0xFF, 8, 0, 18446744073709551615, 0, 0, "RC_VALUES"⟩,
  ⟨0x2830, 1, 0x1, 0x01, 4, 0, 0x02, 0x43, 0xFF, 1, 0, 1, 1, 0, "ESTOP_ENABLE"⟩,
  ⟨0x2831, 1, 0x1, 0x01, 4, 13, 0x02, 0x43, 0xFF, 1, 1, 8, 2, 0, "ESTOP_FILTER"⟩,
  ⟨0x2832, 1, 0x1, 0x02, 4, 10, 0x02, 0x43, 0xFF, 2, 1, 500, 50, 0, "ESTOP_DISCREPANCY"⟩,
  ⟨0x2833, 1, 0x1, 0x01, 4, 0, 0x02, 0x43, 0xFF, 1, 0, 1, 0, 0, "ESTOP_LATCH"⟩,
  ⟨0x2834, 1, 0x1, 0x01, 4, 0, 0x02, 0x43, 0xFF, 1, 0, 1, 1, 0, "DOOR_ENABLE"⟩,
  ⟨0x2835, 1, 0x1, 0x01, 4, 13, 0x02, 0x43, 0xFF, 1, 1, 8, 8, 0, "DOOR_FILTER"⟩,
  ⟨0x2836, 1, 0x1, 0x02, 4, 10, 0x02, 0x43, 0xFF, 2, 1, 500, 100, 0, "DOOR_DISCREPANCY"⟩,
  ⟨0x2837, 1, 0x1, 0x02, 4, 10, 0x02, 0x43, 0xFF, 2, 10, 1000, 100, 0, "TPO_PERIOD"⟩,
  ⟨0x2840, 1, 0x1, 0x01, 4, 0, 0x02, 0x43, 0xFF, 1, 0, 7, 7, 0, "CONTACTOR_CFG"⟩,
  ⟨0x2841, 1, 0x1, 0x02, 4, 10, 0x02, 0x43, 0xFF, 2, 10, 300, 100, 0, "CONTACTOR_CLOSE_MAX"⟩,
  ⟨0x2842, 1, 0x1, 0x02, 4, 10, 0x02, 0x43, 0xFF, 2, 10, 200, 50, 0, "CONTACTOR_OPEN_MAX"⟩,
  ⟨0x2843, 1, 0x1, 0x03, 4, 1, 0x02, 0x43, 0xFF, 4, 10000, 100000, 50000, 0, "WELD_U_THR"⟩,
  ⟨0x2844, 1, 0x1, 0x03, 4, 1, 0x02, 0x43, 0xFF, 4, 30000, 120000, 60000, 0, "WELD_UDC_THR"⟩,
  ⟨0x2845, 1, 0x1, 0x02, 4, 10, 0x02, 0x43, 0xFF, 2, 500, 10000, 2000, 0, "WELD_DC_DECAY"⟩,
  ⟨0x2850, 1, 0x1, 0x02, 4, 0, 0x02, 0x43, 0xFF, 2, 0, 65535, 0, 0, "OT_SOURCE"⟩,
  ⟨0x2851, 1, 0x1, 0x12, 4, 8, 0x02, 0x43, 0xFF, 2, 5000, 15000, 9500, 0, "OT_TRIP"⟩,
  ⟨0x2852, 1, 0x1, 0x12, 4, 8, 0x02, 0x43, 0xFF, 2, 500, 3000, 1000, 0, "OT_RESET_HYST"⟩,
  ⟨0x2858, 1, 0x1, 0x03, 4, 1, 0x02, 0x43, 0xFF, 4, 10000, 100000, 50000, 0, "PE_U_THR"⟩,
  ⟨0x2860, 1, 0x1, 0x02, 4, 24, 0x02, 0x43, 0xFF, 2, 50, 1000, 100, 0, "ISO_FAULT_OHMV"⟩,
  ⟨0x2861, 1, 0x1, 0x02, 4, 24, 0x02, 0x43, 0xFF, 2, 100, 2000, 500, 0, "ISO_WARN_OHMV"⟩,
  ⟨0x2862, 1, 0x1, 0x02, 4, 13, 0x02, 0x43, 0xFF, 2, 800, 16000, 4000, 0, "ISO_STEP"⟩,
  ⟨0x2863, 1, 0x1, 0x02, 4, 13, 0x02, 0x43, 0xFF, 2, 80, 15992, 2400, 0, "ISO_SETTLE"⟩,
  ⟨0x2864, 1, 0x1, 0x03, 4, 1, 0x02, 0x43, 0xFF, 4, 10000, 200000, 50000, 0, "ISO_INJ_VOLT"⟩,
  ⟨0x2865, 1, 0x1, 0x03, 4, 23, 0x02, 0x43, 0xFF, 4, 10, 10000, 500, 0, "ISO_NET_RES"⟩,
  ⟨0x2870, 1, 0x1, 0x02, 4, 18, 0x02, 0x43, 0xFF, 2, 0, 480, 60, 0, "DEGRADED_LIMIT"⟩]

/-- Rows of the parameter tables, part 9, in rising ID order (R111). -/
def paramTable8 : List PRow := [
  ⟨0x2871, 1, 0x1, 0x02, 0, 0, 0x00, 0x00, 0xFF, 2, 0, 65535, 0, 0, "DEGRADED_CAUSE"⟩,
  ⟨0x2872, 1, 0x1, 0x03, 0, 13, 0x00, 0x00, 0xFF, 4, 0, 230400000, 0, 0, "DEGRADED_REMAINING"⟩,
  ⟨0x3000, 8, 0x10, 0x20, 4, 0, 0x00, 0x43, 0xFF, 4, 0, 4294967295, 131096, 0, "HSW_CFG"⟩,
  ⟨0x3001, 8, 0x10, 0x02, 4, 2, 0x00, 0x43, 0xFF, 2, 2000, 12000, 8000, 0, "HSW_ILIM"⟩,
  ⟨0x3002, 8, 0x10, 0x02, 4, 2, 0x00, 0x43, 0xFF, 2, 1, 500, 20, 0, "HSW_OL_THR"⟩,
  ⟨0x3003, 8, 0x10, 0x02, 4, 10, 0x00, 0x43, 0xFF, 2, 10, 10000, 100, 0, "HSW_RETRY_DELAY"⟩,
  ⟨0x3004, 8, 0x10, 0x02, 4, 26, 0x00, 0x43, 0xFF, 2, 100, 20000, 200, 0, "HSW_PWM_FREQ"⟩,
  ⟨0x3005, 8, 0x10, 0x03, 4, 6, 0x00, 0x43, 0xFF, 4, 0, 359999, 0, 0, "HSW_PWM_PHASE"⟩,
  ⟨0x3006, 8, 0x10, 0x03, 4, 8, 0x00, 0x43, 0xFF, 4, 0, 4294967295, 0, 0, "HSW_THERMO"⟩,
  ⟨0x3008, 8, 0x10, 0x20, 0, 0, 0x00, 0x00, 0xFF, 4, 0, 4294967295, 0, 0, "HSW_STATUS"⟩,
  ⟨0x3009, 8, 0x10, 0x03, 0, 2, 0x00, 0x00, 0xFF, 4, 0, 30000, 0, 0, "HSW_CURRENT"⟩,
  ⟨0x300A, 8, 0x10, 0x12, 0, 8, 0x00, 0x00, 0xFF, 2, -4000, 20000, 0, 0, "HSW_TJ"⟩,
  ⟨0x300B, 8, 0x10, 0x02, 0, 0, 0x00, 0x00, 0xFF, 2, 0, 4095, 0, 0, "HSW_DUTY"⟩,
  ⟨0x300C, 8, 0x10, 0x03, 0, 16, 0x04, 0x00, 0xFF, 4, 0, 4294967295, 0, 0, "HSW_PROT_COUNT"⟩,
  ⟨0x3080, 6, 0x1, 0x40, 0, 0, 0x00, 0x00, 0xFF, 36, 0, 0, 0, 0, "PROFILE"⟩,
  ⟨0x3086, 2, 0x1, 0x40, 4, 0, 0x00, 0x43, 0xFF, 36, 0, 0, 0, 0, "PROFILE_USER"⟩,
  ⟨0x3090, 1, 0x1, 0x02, 0, 1, 0x00, 0x00, 0xFF, 2, 0, 65535, 0, 0, "VAUX_LEVEL"⟩,
  ⟨0x3091, 1, 0x1, 0x03, 0, 2, 0x00, 0x00, 0xFF, 4, 0, 40000, 0, 0, "VAUX_CURRENT"⟩,
  ⟨0x3092, 1, 0x1, 0x01, 4, 0, 0x20, 0x43, 0xFF, 1, 0, 1, 0, 0, "UV_MODE"⟩,
  ⟨0x3093, 1, 0x1, 0x02, 4, 1, 0x20, 0x43, 0xFF, 2, 6000, 8000, 7000, 0, "UV_OFF"⟩,
  ⟨0x3094, 1, 0x1, 0x03, 4, 2, 0x20, 0x43, 0xFF, 4, 1000, 20000, 20000, 0, "VAUX_I_MAX"⟩,
  ⟨0x3095, 1, 0x1, 0x01, 1, 0, 0x00, 0xFE, 0xFF, 1, 0, 12, 0, 0, "SENSE_SEL"⟩,
  ⟨0x30A0, 1, 0x1, 0x01, 4, 0, 0x00, 0x43, 0xFF, 1, 0, 1, 1, 0, "LOCK_FITTED"⟩,
  ⟨0x30A1, 1, 0x1, 0x02, 4, 10, 0x00, 0x43, 0xFF, 2, 100, 2000, 600, 0, "LOCK_DRIVE_MAX"⟩,
  ⟨0x30A2, 1, 0x1, 0x02, 4, 2, 0x00, 0x43, 0xFF, 2, 500, 2500, 1500, 0, "LOCK_STALL_I"⟩,
  ⟨0x30A3, 1, 0x1, 0x02, 4, 10, 0x00, 0x43, 0xFF, 2, 10, 200, 50, 0, "LOCK_STALL_BLANK"⟩,
  ⟨0x30A4, 1, 0x1, 0x01, 4, 0, 0x00, 0x43, 0xFF, 1, 0, 1, 0, 0, "LOCK_FB_POLARITY"⟩,
  ⟨0x30A5, 1, 0x1, 0x01, 0, 0, 0x00, 0x00, 0xFF, 1, 0, 4, 0, 0, "LOCK_STATE"⟩,
  ⟨0x30A6, 1, 0x1, 0x03, 0, 16, 0x04, 0x00, 0xFF, 4, 0, 4294967295, 0, 0, "LOCK_OPS_COUNT"⟩,
  ⟨0x30B0, 1, 0x1, 0x01, 4, 10, 0x00, 0x43, 0xFF, 1, 20, 100, 60, 0, "COIL_PULLIN"⟩,
  ⟨0x30B1, 1, 0x1, 0x02, 4, 2, 0x00, 0x43, 0xFF, 2, 100, 2000, 500, 0, "COIL_HOLD_I"⟩,
  ⟨0x30B2, 1, 0x1, 0x03, 0, 2, 0x00, 0x00, 0xFF, 4, 0, 4294967295, 0, 0, "COIL_CURRENT"⟩,
  ⟨0x3800, 1, 0x1, 0x01, 4, 0, 0x00, 0x43, 0xFF, 1, 0, 1, 0, 0, "GPLC_BAND"⟩,
  ⟨0x3801, 1, 0x1, 0x01, 4, 20, 0x20, 0xFE, 0xFF, 1, 0, 30, 0, 0, "GPLC_TX_ATTEN"⟩,
  ⟨0x3802, 1, 0x1, 0x01, 4, 18, 0x00, 0x42, 0xFF, 1, 1, 60, 10, 0, "GPLC_TMR_TTL"⟩,
  ⟨0x3803, 1, 0x1, 0x01, 4, 16, 0x00, 0x42, 0xFF, 1, 1, 14, 8, 0, "GPLC_MAX_HOPS"⟩]

/-- Rows of the parameter tables, part 10, in rising ID order (R111). -/
def paramTable9 : List PRow := [
  ⟨0x3804, 1, 0x1, 0x01, 4, 0, 0x00, 0x42, 0xFF, 1, 0, 32, 4, 0, "GPLC_HOP_PENALTY"⟩,
  ⟨0x3805, 1, 0x1, 0x02, 4, 18, 0x00, 0x42, 0xFF, 2, 10, 1440, 360, 0, "GPLC_ROUTE_TTL"⟩,
  ⟨0x3806, 1, 0x1, 0x02, 0, 0, 0x00, 0x00, 0xFF, 2, 0, 65535, 0, 0, "GPLC_PAN_ID"⟩,
  ⟨0x3807, 1, 0x1, 0x02, 0, 0, 0x00, 0x00, 0xFF, 2, 0, 65535, 0, 0, "GPLC_SHORT_ADDR"⟩,
  ⟨0x3808, 1, 0x1, 0x01, 0, 0, 0x00, 0x00, 0xFF, 1, 0, 3, 0, 0, "GPLC_STATE"⟩,
  ⟨0x3809, 1, 0x1, 0x01, 4, 0, 0x00, 0x42, 0xFF, 1, 0, 1, 1, 0, "GPLC_EXT_IL"⟩,
  ⟨0x380A, 1, 0x1, 0x01, 4, 21, 0x00, 0x42, 0xFF, 1, 5, 50, 20, 0, "GPLC_EXT_IL_FER"⟩,
  ⟨0x380B, 1, 0x1, 0x01, 4, 0, 0x20, 0xFE, 0xFF, 1, 0, 1, 1, 0, "GPLC_ROUTER"⟩,
  ⟨0x380C, 1, 0x1, 0x02, 4, 18, 0x00, 0x42, 0xFF, 2, 5, 240, 30, 0, "GPLC_PAN_LOSS"⟩,
  ⟨0x380D, 1, 0x1, 0x01, 3, 0, 0x00, 0xFE, 0x00, 1, 1, 1, 0, 0, "GPLC_STATE_RESET"⟩,
  ⟨0x380E, 1, 0x1, 0x03, 0, 16, 0x04, 0x00, 0xFF, 4, 0, 4294967295, 0, 0, "NEIGHBOUR_REFUSED"⟩,
  ⟨0x3810, 1, 0x1, 0x40, 0, 0, 0x00, 0x00, 0xFF, 16384, 0, 0, 0, 0, "NEIGHBOUR_TABLE"⟩,
  ⟨0x3811, 1, 0x1, 0x40, 0, 0, 0x00, 0x00, 0xFF, 16384, 0, 0, 0, 0, "ROUTE_TABLE"⟩,
  ⟨0x3812, 1, 0x1, 0x20, 0, 0, 0x00, 0x00, 0xFF, 4, 0, 4294967295, 0, 0, "PHASE_MAP"⟩,
  ⟨0x3813, 1, 0x1, 0x40, 0, 16, 0x04, 0x00, 0xFF, 216, 0, 0, 0, 0, "GPLC_COUNTERS"⟩,
  ⟨0x3814, 1, 0x1, 0x01, 4, 0, 0x20, 0xFE, 0xFF, 1, 0, 3, 0, 0, "PHASE_REF_SET"⟩,
  ⟨0x3900, 1, 0x1, 0x01, 4, 0, 0x00, 0x43, 0xFF, 1, 0, 1, 1, 0, "DLMS_SUITE"⟩,
  ⟨0x3901, 1, 0x1, 0x02, 4, 0, 0x00, 0x43, 0xFF, 2, 1, 65535, 4059, 0, "DLMS_PORT"⟩,
  ⟨0x3902, 1, 0x1, 0x02, 4, 9, 0x20, 0xFE, 0xFF, 2, 60, 3600, 300, 0, "DLMS_INACTIVITY"⟩,
  ⟨0x3903, 1, 0x1, 0x02, 4, 0, 0x20, 0xFE, 0xFF, 2, 128, 1024, 256, 0, "IMAGE_BLOCK_SIZE"⟩,
  ⟨0x3904, 1, 0x1, 0x02, 4, 9, 0x20, 0xFE, 0xFF, 2, 10, 3600, 60, 0, "PUSH_RETRY"⟩,
  ⟨0x3905, 1, 0x1, 0x40, 4, 0, 0x20, 0xFE, 0xFF, 20, 0, 0, 0, 0, "PUSH_DESTINATION"⟩,
  ⟨0x3906, 1, 0x1, 0x01, 0, 16, 0x00, 0x00, 0xFF, 1, 0, 4, 0, 0, "DLMS_ASSOC_ACTIVE"⟩,
  ⟨0x3907, 1, 0x1, 0x40, 0, 16, 0x04, 0x00, 0xFF, 16, 0, 0, 0, 0, "DLMS_IC_TX"⟩,
  ⟨0x3908, 1, 0x1, 0x03, 0, 16, 0x04, 0x00, 0xFF, 4, 0, 4294967295, 0, 0, "DLMS_SECURITY_FAILURES"⟩,
  ⟨0x4000, 1, 0x1, 0x01, 0, 0, 0x00, 0x00, 0xFF, 1, 0, 4, 0, 0, "READER_STATE"⟩,
  ⟨0x4001, 1, 0x1, 0x02, 4, 10, 0x00, 0x42, 0xFF, 2, 100, 1000, 250, 0, "PING_PERIOD"⟩,
  ⟨0x4002, 1, 0x1, 0x02, 4, 7, 0x00, 0x42, 0xFF, 2, 50, 2000, 200, 0, "PING_THR"⟩,
  ⟨0x4003, 1, 0x1, 0x02, 0, 7, 0x00, 0x00, 0xFF, 2, 50, 8000, 0, 0, "PING_THR_NOW"⟩,
  ⟨0x4004, 1, 0x1, 0x01, 4, 0, 0x00, 0x42, 0xFF, 1, 1, 3, 3, 0, "POLL_TYPES"⟩,
  ⟨0x4005, 1, 0x1, 0x01, 4, 0, 0x00, 0x42, 0xFF, 1, 0, 3, 3, 0, "READER_MAX_RATE"⟩,
  ⟨0x4006, 1, 0x1, 0x02, 4, 10, 0x00, 0x42, 0xFF, 2, 100, 5000, 2000, 0, "WTX_MAX_TOTAL"⟩,
  ⟨0x4007, 1, 0x1, 0x02, 4, 10, 0x00, 0x42, 0xFF, 2, 500, 10000, 2000, 0, "CARD_ABSENT_TIME"⟩,
  ⟨0x4008, 1, 0x1, 0x40, 4, 0, 0x00, 0x42, 0xFF, 17, 0, 0, 0, 0, "CARD_AID"⟩,
  ⟨0x4009, 1, 0x1, 0x01, 4, 0, 0x00, 0x42, 0xFF, 1, 4, 10, 8, 0, "CARD_AID_IDLEN"⟩,
  ⟨0x400A, 1, 0x1, 0x40, 0, 0, 0x00, 0x00, 0xFF, 20, 0, 0, 0, 0, "CARD_LAST"⟩]

/-- Rows of the parameter tables, part 11, in rising ID order (R111). -/
def paramTable10 : List PRow := [
  ⟨0x400B, 1, 0x1, 0x03, 0, 16, 0x04, 0x00, 0xFF, 4, 0, 4294967295, 0, 0, "PING_FALSE_COUNT"⟩,
  ⟨0x400C, 1, 0x1, 0x03, 0, 16, 0x04, 0x00, 0xFF, 4, 0, 4294967295, 0, 0, "CARDS_PRESENTED"⟩,
  ⟨0x4010, 1, 0x1, 0x01, 4, 0, 0x00, 0x43, 0xFF, 1, 0, 1, 1, 0, "HARV_OUT_ENABLE"⟩,
  ⟨0x4011, 1, 0x1, 0x03, 0, 16, 0x04, 0x00, 0xFF, 4, 0, 4294967295, 0, 0, "CALICO_IMAGE_SEQ"⟩,
  ⟨0x4012, 1, 0x1, 0x03, 0, 16, 0x04, 0x00, 0xFF, 4, 0, 4294967295, 0, 0, "CALICO_DEFERRED"⟩,
  ⟨0x4100, 1, 0x1, 0x03, 0, 0, 0x04, 0x00, 0xFF, 4, 0, 4294967295, 0, 0, "AUTH_LIST_VERSION"⟩,
  ⟨0x4101, 1, 0x1, 0x02, 0, 16, 0x00, 0x00, 0xFF, 2, 0, 8192, 0, 0, "AUTH_LIST_COUNT"⟩,
  ⟨0x4102, 1, 0x1, 0x03, 0, 0, 0x00, 0x00, 0xFF, 4, 0, 4294967295, 0, 0, "AUTH_LIST_CRC"⟩,
  ⟨0x4103, 1, 0x1, 0x01, 0, 0, 0x00, 0x00, 0xFF, 1, 0, 3, 0, 0, "AUTH_LOAD_STATE"⟩,
  ⟨0x4104, 1, 0x1, 0x03, 0, 16, 0x04, 0x00, 0xFF, 4, 0, 4294967295, 0, 0, "AUTH_LOOKUP_COUNT"⟩,
  ⟨0x4105, 1, 0x1, 0x03, 0, 16, 0x04, 0x00, 0xFF, 4, 0, 4294967295, 0, 0, "AUTH_HIT_COUNT"⟩,
  ⟨0x4800, 1, 0x1, 0x01, 0, 0, 0x00, 0x00, 0xFF, 1, 0, 3, 0, 0, "IDENTITY_STATE"⟩,
  ⟨0x4801, 1, 0x1, 0x02, 0, 1, 0x00, 0x00, 0xFF, 2, 0, 65535, 0, 0, "VBAT1_LEVEL"⟩,
  ⟨0x4802, 1, 0x1, 0x02, 0, 1, 0x00, 0x00, 0xFF, 2, 0, 65535, 0, 0, "VBAT2_LEVEL"⟩,
  ⟨0x4803, 1, 0x1, 0x02, 4, 1, 0x00, 0x42, 0xFF, 2, 2200, 3000, 2500, 0, "VBAT_LOW_THR"⟩,
  ⟨0x4804, 1, 0x1, 0x20, 4, 0, 0x00, 0x43, 0xFF, 4, 0, 4294967295, 47104, 0, "TAMPER_CFG"⟩,
  ⟨0x4805, 1, 0x1, 0x20, 0, 0, 0x00, 0x00, 0xFF, 4, 0, 4294967295, 0, 0, "TAMPER_STATE"⟩,
  ⟨0x4806, 1, 0x1, 0x03, 0, 16, 0x04, 0x00, 0xFF, 4, 0, 4294967295, 0, 0, "TAMPER_COUNT"⟩,
  ⟨0x4807, 1, 0x1, 0x03, 0, 16, 0x04, 0x00, 0xFF, 4, 0, 4294967295, 0, 0, "ERASE_COUNT"⟩,
  ⟨0x4808, 1, 0x1, 0x03, 0, 16, 0x04, 0x00, 0xFF, 4, 0, 4294967295, 0, 0, "ROOT_GEN"⟩,
  ⟨0x4809, 1, 0x1, 0x01, 0, 0, 0x04, 0x00, 0xFF, 1, 0, 1, 0, 0, "ROOT_MIN"⟩,
  ⟨0x480A, 1, 0x1, 0x03, 0, 16, 0x04, 0x00, 0xFF, 4, 0, 4294967295, 0, 0, "ENROL_SEQ"⟩,
  ⟨0x480B, 1, 0x1, 0x02, 0, 0, 0x00, 0x00, 0xFF, 2, 0, 65535, 0, 0, "ENROL_STATE"⟩,
  ⟨0x480C, 1, 0x1, 0x40, 0, 0, 0x00, 0x00, 0xFF, 192, 0, 0, 0, 0, "ENROL_REQUEST"⟩,
  ⟨0x480D, 1, 0x1, 0x40, 0, 0, 0x00, 0x00, 0xFF, 512, 0, 0, 0, 0, "KEY_SLOTS"⟩,
  ⟨0x480E, 1, 0x1, 0x03, 0, 0, 0x00, 0x00, 0xFF, 4, 0, 4294967295, 0, 0, "RECORD_KEY_ID"⟩,
  ⟨0x480F, 1, 0x1, 0x40, 0, 16, 0x04, 0x00, 0xFF, 20, 0, 0, 0, 0, "ROLLBACK_COUNTERS"⟩,
  ⟨0x4810, 1, 0x1, 0x40, 0, 0, 0x00, 0x00, 0xFF, 29984, 0, 0, 0, 0, "IDENTITY_CERT"⟩,
  ⟨0x4811, 1, 0x1, 0x40, 0, 0, 0x00, 0x00, 0xFF, 239104, 0, 0, 0, 0, "RECORD_KEY_CERTS"⟩,
  ⟨0x4812, 1, 0x1, 0x40, 0, 0, 0x10, 0x00, 0xFF, 16, 0, 0, 0, 0, "LOGIN_NONCE"⟩,
  ⟨0x4813, 1, 0x1, 0x40, 0, 0, 0x00, 0x00, 0xFF, 30048, 0, 0, 0, 0, "ATTEST_RESULT"⟩,
  ⟨0x4820, 3, 0x1, 0x40, 4, 0, 0x28, 0xFE, 0x00, 16, 0, 0, 0, 0, "DLMS_KEY"⟩,
  ⟨0x4823, 1, 0x1, 0x40, 4, 0, 0x28, 0xFE, 0x00, 16, 0, 0, 0, 0, "GPLC_PSK"⟩,
  ⟨0x4824, 1, 0x1, 0x40, 4, 0, 0x28, 0x43, 0x00, 32, 0, 0, 0, 0, "COMM_KEY"⟩,
  ⟨0x4825, 1, 0x1, 0x40, 4, 0, 0x28, 0x43, 0x00, 32, 0, 0, 0, 0, "OPERATOR_KEY"⟩,
  ⟨0x4830, 1, 0x1, 0x40, 4, 0, 0x20, 0xFE, 0xFF, 64, 0, 0, 0, 0, "DLMS_CLIENT_PUBKEY"⟩]

/-- Rows of the parameter tables, part 12, in rising ID order (R111). -/
def paramTable11 : List PRow := [
  ⟨0x4831, 1, 0x1, 0x40, 4, 0, 0x20, 0x43, 0xFF, 64, 0, 0, 0, 0, "SERVICE_AUTH_PUBKEY"⟩,
  ⟨0x4840, 1, 0x1, 0x40, 0, 0, 0x00, 0x00, 0xFF, 3072, 0, 0, 0, 0, "SECC_CSR"⟩,
  ⟨0x4841, 1, 0x1, 0x40, 4, 0, 0x00, 0x42, 0xFF, 12288, 0, 0, 0, 0, "SECC_CERTS"⟩,
  ⟨0x4842, 1, 0x1, 0x40, 4, 0, 0x20, 0x42, 0xFF, 16384, 0, 0, 0, 0, "V2G_ROOTS"⟩,
  ⟨0x5000, 1, 0x1, 0x01, 0, 0, 0x00, 0x00, 0xFF, 1, 0, 7, 0, 0, "UPDATE_STATE"⟩,
  ⟨0x5001, 1, 0x1, 0x01, 0, 0, 0x00, 0x00, 0xFF, 1, 0, 255, 0, 0, "UPDATE_RESULT"⟩,
  ⟨0x5002, 1, 0x1, 0x01, 0, 0, 0x00, 0x00, 0xFF, 1, 0, 1, 0, 0, "ACTIVE_SET"⟩,
  ⟨0x5003, 1, 0x1, 0x01, 0, 0, 0x00, 0x00, 0xFF, 1, 0, 2, 0, 0, "STAGING_SOURCE"⟩,
  ⟨0x5004, 1, 0x1, 0x03, 0, 0, 0x00, 0x00, 0xFF, 4, 0, 8388608, 0, 0, "STAGED_BYTES"⟩,
  ⟨0x5005, 1, 0x1, 0x01, 4, 0, 0x20, 0xFE, 0xFF, 1, 0, 1, 0, 0, "UPDATE_OWNER_LOCK"⟩,
  ⟨0x5006, 1, 0x1, 0x40, 0, 0, 0x00, 0x00, 0xFF, 512, 0, 0, 0, 0, "MANIFEST_ACTIVE"⟩,
  ⟨0x5007, 1, 0x1, 0x40, 0, 0, 0x00, 0x00, 0xFF, 512, 0, 0, 0, 0, "MANIFEST_STAGED"⟩,
  ⟨0x5008, 1, 0x1, 0x03, 0, 16, 0x04, 0x00, 0xFF, 4, 0, 4294967295, 0, 0, "ACTIVATION_COUNT"⟩,
  ⟨0x5009, 1, 0x1, 0x03, 0, 16, 0x04, 0x00, 0xFF, 4, 0, 4294967295, 0, 0, "REVERT_COUNT"⟩,
  ⟨0x7000, 1, 0x1, 0x01, 0, 0, 0x10, 0x00, 0x41, 1, 0, 1, 0, 0, "TEST_STATE"⟩,
  ⟨0x7001, 1, 0x1, 0x03, 0, 13, 0x10, 0x00, 0x41, 4, 0, 4800000, 0, 0, "TEST_REMAINING"⟩,
  ⟨0x7002, 1, 0x1, 0x03, 1, 11, 0x10, 0x41, 0x41, 4, 0, 4294967295, 0, 0, "TEST_SLOT_STRETCH"⟩,
  ⟨0x7003, 1, 0x1, 0x01, 1, 10, 0x10, 0x41, 0x41, 1, 0, 100, 0, 0, "TEST_MBOX_DELAY"⟩,
  ⟨0x7004, 1, 0x1, 0x02, 1, 0, 0x10, 0x41, 0x41, 2, 0, 65535, 0, 0, "TEST_PORT_BUSY"⟩,
  ⟨0x7005, 1, 0x1, 0x01, 1, 21, 0x10, 0x41, 0x41, 1, 0, 90, 0, 0, "TEST_PORT_THROTTLE"⟩,
  ⟨0x7006, 1, 0x1, 0x01, 1, 0, 0x10, 0x41, 0x41, 1, 0, 255, 0, 0, "TEST_GPLC_HOLD"⟩,
  ⟨0x7007, 1, 0x1, 0x03, 1, 11, 0x10, 0x41, 0x41, 4, 0, 4294967295, 0, 0, "TEST_COMMIT_DELAY"⟩,
  ⟨0x7008, 1, 0x1, 0x01, 3, 0, 0x10, 0x41, 0x00, 1, 0, 7, 0, 0, "TEST_MISMATCH"⟩,
  ⟨0x7009, 1, 0x1, 0x03, 3, 11, 0x10, 0x41, 0x00, 4, 0, 4294967295, 0, 0, "TEST_WDT_WINDOW"⟩,
  ⟨0x700A, 1, 0x1, 0x40, 4, 0, 0x10, 0x01, 0x41, 29984, 0, 0, 0, 0, "TEST_ENROL_TOKEN"⟩,
  ⟨0x7F00, 1, 0x1, 0x03, 0, 0, 0x00, 0x00, 0xFF, 4, 0, 4294967295, 0, 0, "SELFTEST_SUMMARY"⟩,
  ⟨0x7F02, 1, 0x1, 0x40, 0, 0, 0x00, 0x00, 0xFF, 228, 0, 0, 0, 0, "SELFTEST_LAST"⟩,
  ⟨0x7F03, 1, 0x1, 0x04, 0, 13, 0x00, 0x00, 0xFF, 8, 0, 18446744073709551615, 0, 0, "UPTIME_FRAMES"⟩,
  ⟨0x7F04, 1, 0x1, 0x40, 0, 12, 0x00, 0x00, 0xFF, 20, 0, 0, 0, 0, "SLOT_MARGINS"⟩,
  ⟨0x7F05, 1, 0x1, 0x40, 0, 1, 0x00, 0x00, 0xFF, 8, 0, 0, 0, 0, "RAIL_LEVELS"⟩,
  ⟨0x7F06, 1, 0x1, 0x01, 0, 0, 0x00, 0x00, 0xFF, 1, 0, 255, 0, 0, "SRAM_MAPPED"⟩,
  ⟨0x7F07, 1, 0x1, 0x03, 0, 16, 0x04, 0x00, 0xFF, 4, 0, 4294967295, 0, 0, "FLASH_CORRECTED"⟩]

/-- All rows of the parameter tables (R111). -/
def paramTable : List PRow :=
  paramTable0 ++ paramTable1 ++ paramTable2 ++ paramTable3 ++ paramTable4 ++ paramTable5 ++ paramTable6 ++ paramTable7 ++ paramTable8 ++ paramTable9 ++ paramTable10 ++ paramTable11

/-- PART_NUMBER (R119). -/
abbrev Param.PART_NUMBER : Nat := 0x0000
/-- SERIAL_NUMBER (R119). -/
abbrev Param.SERIAL_NUMBER : Nat := 0x0001
/-- SILICON_ISSUE (R119). -/
abbrev Param.SILICON_ISSUE : Nat := 0x0002
/-- LANE_VERSION (R119). -/
abbrev Param.LANE_VERSION : Nat := 0x0003
/-- METR_VERSION (R119). -/
abbrev Param.METR_VERSION : Nat := 0x0004
/-- NBPL_VERSION (R119). -/
abbrev Param.NBPL_VERSION : Nat := 0x0005
/-- BBPL_VERSION (R119). -/
abbrev Param.BBPL_VERSION : Nat := 0x0006
/-- NFCR_VERSION (R119). -/
abbrev Param.NFCR_VERSION : Nat := 0x0007
/-- MANIFEST_COUNTER (R119). -/
abbrev Param.MANIFEST_COUNTER : Nat := 0x0008
/-- METR_CHECK (R119). -/
abbrev Param.METR_CHECK : Nat := 0x0009
/-- SW_IDENT (R119). -/
abbrev Param.SW_IDENT : Nat := 0x000A
/-- POST_ID (R119). -/
abbrev Param.POST_ID : Nat := 0x000B
/-- METR_CHANGE_COUNT (R119). -/
abbrev Param.METR_CHANGE_COUNT : Nat := 0x0010
/-- METR_LOG_USED (R119). -/
abbrev Param.METR_LOG_USED : Nat := 0x0011
/-- FACTORY_COMPLETE (R119). -/
abbrev Param.FACTORY_COMPLETE : Nat := 0x0012
/-- MODE (R64). -/
abbrev Param.MODE : Nat := 0x0100
/-- MODE_PREVIOUS (R64). -/
abbrev Param.MODE_PREVIOUS : Nat := 0x0101
/-- MODE_CAUSE (R64). -/
abbrev Param.MODE_CAUSE : Nat := 0x0102
/-- SAFESTOP_CAUSES (R64). -/
abbrev Param.SAFESTOP_CAUSES : Nat := 0x0103
/-- POWER_STATE (R64). -/
abbrev Param.POWER_STATE : Nat := 0x0104
/-- VSYS_LEVEL (R64). -/
abbrev Param.VSYS_LEVEL : Nat := 0x0105
/-- VHOLD_LEVEL (R64). -/
abbrev Param.VHOLD_LEVEL : Nat := 0x0106
/-- HOLDUP_CAP (R64). -/
abbrev Param.HOLDUP_CAP : Nat := 0x0107
/-- HOLDUP_FINAL_V (R64). -/
abbrev Param.HOLDUP_FINAL_V : Nat := 0x0108
/-- LAST_GASP_ROUTE (R64). -/
abbrev Param.LAST_GASP_ROUTE : Nat := 0x0109
/-- START_COUNT (R64). -/
abbrev Param.START_COUNT : Nat := 0x010A
/-- RESET_N_COUNT (R64). -/
abbrev Param.RESET_N_COUNT : Nat := 0x010B
/-- SERVICE_TIMEOUT (R64). -/
abbrev Param.SERVICE_TIMEOUT : Nat := 0x010C
/-- UNIT_ENABLE (R64). -/
abbrev Param.UNIT_ENABLE : Nat := 0x0110
/-- UNIT_POWERED (R64). -/
abbrev Param.UNIT_POWERED : Nat := 0x0111
/-- HOST_BEAT (R102). -/
abbrev Param.HOST_BEAT : Nat := 0x0200
/-- HOST_BEAT_MISS (R102). -/
abbrev Param.HOST_BEAT_MISS : Nat := 0x0201
/-- PORT_STATUS (R102). -/
abbrev Param.PORT_STATUS : Nat := 0x0202
/-- HSPI_CRC_ERRORS (R102). -/
abbrev Param.HSPI_CRC_ERRORS : Nat := 0x0203
/-- HUART_FRAME_ERRORS (R102). -/
abbrev Param.HUART_FRAME_ERRORS : Nat := 0x0204
/-- HSPI_COLLISIONS (R102). -/
abbrev Param.HSPI_COLLISIONS : Nat := 0x0205
/-- HUART_COLLISIONS (R102). -/
abbrev Param.HUART_COLLISIONS : Nat := 0x0206
/-- FOLLOW_WRITES_DISCARDED (R102). -/
abbrev Param.FOLLOW_WRITES_DISCARDED : Nat := 0x0207
/-- SLOT_PROTOCOL_ERRORS (R102). -/
abbrev Param.SLOT_PROTOCOL_ERRORS : Nat := 0x0208
/-- EVENT_STREAM_LOST (R102). -/
abbrev Param.EVENT_STREAM_LOST : Nat := 0x0209
/-- STAGE_MISSES (R102). -/
abbrev Param.STAGE_MISSES : Nat := 0x020A
/-- MAILBOX_FRAMES_MAX (R102). -/
abbrev Param.MAILBOX_FRAMES_MAX : Nat := 0x020B
/-- PARAM_COMMIT_COUNT (R119). -/
abbrev Param.PARAM_COMMIT_COUNT : Nat := 0x020C
/-- PENDING_SERIAL_HOST (R119). -/
abbrev Param.PENDING_SERIAL_HOST : Nat := 0x020D
/-- PENDING_COUNT_HOST (R119). -/
abbrev Param.PENDING_COUNT_HOST : Nat := 0x020E
/-- FRAME_NUMBER (R36). -/
abbrev Param.FRAME_NUMBER : Nat := 0x0300
/-- LEAD_LANE (R36). -/
abbrev Param.LEAD_LANE : Nat := 0x0301
/-- LANE_A_STATE (R36). -/
abbrev Param.LANE_A_STATE : Nat := 0x0302
/-- LANE_B_STATE (R36). -/
abbrev Param.LANE_B_STATE : Nat := 0x0303
/-- LANE_FAULT_LAST (R36). -/
abbrev Param.LANE_FAULT_LAST : Nat := 0x0304
/-- TAKEOVER_COUNT (R36). -/
abbrev Param.TAKEOVER_COUNT : Nat := 0x0305
/-- DISPUTE_COUNT (R36). -/
abbrev Param.DISPUTE_COUNT : Nat := 0x0306
/-- OVERRUN_COUNT (R36). -/
abbrev Param.OVERRUN_COUNT : Nat := 0x0307
/-- REPAIR_LIMIT_24H (R36). -/
abbrev Param.REPAIR_LIMIT_24H : Nat := 0x0308
/-- SLOT_MARGIN_MIN (R36). -/
abbrev Param.SLOT_MARGIN_MIN : Nat := 0x0309
/-- TICK_SOURCE (R36). -/
abbrev Param.TICK_SOURCE : Nat := 0x030A
/-- XA_DEVIATION (R36). -/
abbrev Param.XA_DEVIATION : Nat := 0x030B
/-- XB_DEVIATION (R36). -/
abbrev Param.XB_DEVIATION : Nat := 0x030C
/-- MIRROR_ECC_CORRECTED (R36). -/
abbrev Param.MIRROR_ECC_CORRECTED : Nat := 0x030D
/-- RTC_TIME (R231). -/
abbrev Param.RTC_TIME : Nat := 0x0400
/-- CLOCK_STATUS (R231). -/
abbrev Param.CLOCK_STATUS : Nat := 0x0401
/-- TZ_OFFSET (R231). -/
abbrev Param.TZ_OFFSET : Nat := 0x0402
/-- DST_RULE (R231). -/
abbrev Param.DST_RULE : Nat := 0x0403
/-- CLOCK_STEP_MAX (R231). -/
abbrev Param.CLOCK_STEP_MAX : Nat := 0x0404
/-- CLOCK_AGE_MAX (R231). -/
abbrev Param.CLOCK_AGE_MAX : Nat := 0x0405
/-- CLOCK_LAST_SET (R231). -/
abbrev Param.CLOCK_LAST_SET : Nat := 0x0406
/-- CLOCK_LAST_STEP (R231). -/
abbrev Param.CLOCK_LAST_STEP : Nat := 0x0407
/-- RTC_DEVIATION (R231). -/
abbrev Param.RTC_DEVIATION : Nat := 0x0408
/-- RTC_TRIM (R231). -/
abbrev Param.RTC_TRIM : Nat := 0x0409
/-- LOCAL_TIME (R231). -/
abbrev Param.LOCAL_TIME : Nat := 0x040A
/-- CLOCK_SET_COUNT (R231). -/
abbrev Param.CLOCK_SET_COUNT : Nat := 0x040B
/-- CH_MODE (R145). -/
abbrev Param.CH_MODE : Nat := 0x1000
/-- CH_PGA (R145). -/
abbrev Param.CH_PGA : Nat := 0x1001
/-- CH_INTEG (R145). -/
abbrev Param.CH_INTEG : Nat := 0x1002
/-- CH_INT_LEAK (R145). -/
abbrev Param.CH_INT_LEAK : Nat := 0x1003
/-- CH_INT_SCALE (R145). -/
abbrev Param.CH_INT_SCALE : Nat := 0x1004
/-- CH_SAMPLE (R145). -/
abbrev Param.CH_SAMPLE : Nat := 0x1005
/-- CH_FLAGS (R145). -/
abbrev Param.CH_FLAGS : Nat := 0x1006
/-- CH_SCS_RESULT (R145). -/
abbrev Param.CH_SCS_RESULT : Nat := 0x1007
/-- CH_DENSITY (R145). -/
abbrev Param.CH_DENSITY : Nat := 0x1008
/-- CH_OVER_COUNT (R145). -/
abbrev Param.CH_OVER_COUNT : Nat := 0x1009
/-- CH_FAULT_COUNT (R145). -/
abbrev Param.CH_FAULT_COUNT : Nat := 0x100A
/-- SYNC_IN_MODE (R146). -/
abbrev Param.SYNC_IN_MODE : Nat := 0x1180
/-- SYNC_COUNT (R146). -/
abbrev Param.SYNC_COUNT : Nat := 0x1181
/-- SYNC_PENDING (R146). -/
abbrev Param.SYNC_PENDING : Nat := 0x1182
/-- SYNC_LAST_FRAME (R146). -/
abbrev Param.SYNC_LAST_FRAME : Nat := 0x1183
/-- AUX_SCAN (R146). -/
abbrev Param.AUX_SCAN : Nat := 0x1184
/-- AUX_RESULTS (R146). -/
abbrev Param.AUX_RESULTS : Nat := 0x1185
/-- AUX_REF_RESULTS (R146). -/
abbrev Param.AUX_REF_RESULTS : Nat := 0x1186
/-- DECIM_COEFFS (R146). -/
abbrev Param.DECIM_COEFFS : Nat := 0x1187
/-- CAL_SCALE (R171). -/
abbrev Param.CAL_SCALE : Nat := 0x1200
/-- CAL_GAIN (R171). -/
abbrev Param.CAL_GAIN : Nat := 0x1201
/-- CAL_PHASE (R171). -/
abbrev Param.CAL_PHASE : Nat := 0x1202
/-- CAL_OFFSET (R171). -/
abbrev Param.CAL_OFFSET : Nat := 0x1203
/-- CAL_POLARITY (R171). -/
abbrev Param.CAL_POLARITY : Nat := 0x1204
/-- TC_SOURCE (R171). -/
abbrev Param.TC_SOURCE : Nat := 0x1205
/-- TC_TABLE (R171). -/
abbrev Param.TC_TABLE : Nat := 0x1206
/-- CAL_VALUE (R171). -/
abbrev Param.CAL_VALUE : Nat := 0x1207
/-- TC_APPLIED (R171). -/
abbrev Param.TC_APPLIED : Nat := 0x1208
/-- NOMINAL_U (R172). -/
abbrev Param.NOMINAL_U : Nat := 0x1380
/-- NOMINAL_F (R172). -/
abbrev Param.NOMINAL_F : Nat := 0x1381
/-- NOMINAL_I_GRID (R172). -/
abbrev Param.NOMINAL_I_GRID : Nat := 0x1382
/-- NOMINAL_I_OUTLET (R172). -/
abbrev Param.NOMINAL_I_OUTLET : Nat := 0x1383
/-- RATED_UDC (R172). -/
abbrev Param.RATED_UDC : Nat := 0x1384
/-- RATED_IDC (R172). -/
abbrev Param.RATED_IDC : Nat := 0x1385
/-- WIRING (R172). -/
abbrev Param.WIRING : Nat := 0x1386
/-- METR_SET_CHECK (R172). -/
abbrev Param.METR_SET_CHECK : Nat := 0x1387
/-- TEMP_CURVE (R172). -/
abbrev Param.TEMP_CURVE : Nat := 0x13C1
/-- TEMP_VALUES (R172). -/
abbrev Param.TEMP_VALUES : Nat := 0x13DF
/-- CAL_ACC_CTRL (R172). -/
abbrev Param.CAL_ACC_CTRL : Nat := 0x13E0
/-- CAL_ACC_STATE (R172). -/
abbrev Param.CAL_ACC_STATE : Nat := 0x13E1
/-- CAL_ACC_RESULT (R172). -/
abbrev Param.CAL_ACC_RESULT : Nat := 0x13E2
/-- SAG_THR (R173). -/
abbrev Param.SAG_THR : Nat := 0x1400
/-- SWELL_THR (R173). -/
abbrev Param.SWELL_THR : Nat := 0x1401
/-- EVENT_HYST (R173). -/
abbrev Param.EVENT_HYST : Nat := 0x1402
/-- FREQ_MIN (R173). -/
abbrev Param.FREQ_MIN : Nat := 0x1403
/-- FREQ_MAX (R173). -/
abbrev Param.FREQ_MAX : Nat := 0x1404
/-- NEUTRAL_DISP_THR (R173). -/
abbrev Param.NEUTRAL_DISP_THR : Nat := 0x1405
/-- IMBALANCE_THR (R173). -/
abbrev Param.IMBALANCE_THR : Nat := 0x1406
/-- CWV_I_THR (R173). -/
abbrev Param.CWV_I_THR : Nat := 0x1407
/-- REVERSE_EVENT_E (R173). -/
abbrev Param.REVERSE_EVENT_E : Nat := 0x1408
/-- BAL_REL (R173). -/
abbrev Param.BAL_REL : Nat := 0x1409
/-- BAL_ABS (R173). -/
abbrev Param.BAL_ABS : Nat := 0x140A
/-- BAL_OWN_POWER (R173). -/
abbrev Param.BAL_OWN_POWER : Nat := 0x140B
/-- BAL_LOSS_AC (R173). -/
abbrev Param.BAL_LOSS_AC : Nat := 0x140C
/-- BAL_LOSS_DC (R173). -/
abbrev Param.BAL_LOSS_DC : Nat := 0x140D
/-- PULSE_SOURCE (R173). -/
abbrev Param.PULSE_SOURCE : Nat := 0x1410
/-- PULSE_CONST (R173). -/
abbrev Param.PULSE_CONST : Nat := 0x1411
/-- PULSE_WIDTH (R173). -/
abbrev Param.PULSE_WIDTH : Nat := 0x1412
/-- PULSE_POLARITY (R173). -/
abbrev Param.PULSE_POLARITY : Nat := 0x1413
/-- PULSE_EMITTED (R173). -/
abbrev Param.PULSE_EMITTED : Nat := 0x1414
/-- PULSE_OWED (R173). -/
abbrev Param.PULSE_OWED : Nat := 0x1415
/-- URMS (R174). -/
abbrev Param.URMS : Nat := 0x1480
/-- IRMS (R174). -/
abbrev Param.IRMS : Nat := 0x1481
/-- P_CYCLE (R174). -/
abbrev Param.P_CYCLE : Nat := 0x1482
/-- Q_CYCLE (R174). -/
abbrev Param.Q_CYCLE : Nat := 0x1483
/-- S_CYCLE (R174). -/
abbrev Param.S_CYCLE : Nat := 0x1484
/-- PF (R174). -/
abbrev Param.PF : Nat := 0x1485
/-- ANGLE_UI (R174). -/
abbrev Param.ANGLE_UI : Nat := 0x1486
/-- CYCLE_FLAGS (R174). -/
abbrev Param.CYCLE_FLAGS : Nat := 0x1487
/-- P_TOTAL (R174). -/
abbrev Param.P_TOTAL : Nat := 0x1498
/-- Q_TOTAL (R174). -/
abbrev Param.Q_TOTAL : Nat := 0x1499
/-- S_TOTAL (R174). -/
abbrev Param.S_TOTAL : Nat := 0x149A
/-- PF_TOTAL (R174). -/
abbrev Param.PF_TOTAL : Nat := 0x149B
/-- FREQ (R174). -/
abbrev Param.FREQ : Nat := 0x149C
/-- ANGLE_U12 (R174). -/
abbrev Param.ANGLE_U12 : Nat := 0x149D
/-- ANGLE_U13 (R174). -/
abbrev Param.ANGLE_U13 : Nat := 0x149E
/-- UN_RMS (R174). -/
abbrev Param.UN_RMS : Nat := 0x149F
/-- UDC_MEAN (R174). -/
abbrev Param.UDC_MEAN : Nat := 0x14C0
/-- IDC_MEAN (R174). -/
abbrev Param.IDC_MEAN : Nat := 0x14C1
/-- PDC_MEAN (R174). -/
abbrev Param.PDC_MEAN : Nat := 0x14C2
/-- IGN_RMS (R174). -/
abbrev Param.IGN_RMS : Nat := 0x14C3
/-- P_INST_GRID (R174). -/
abbrev Param.P_INST_GRID : Nat := 0x14C4
/-- P_INST_OUTLET (R174). -/
abbrev Param.P_INST_OUTLET : Nat := 0x14C5
/-- LEDGER_FRAME (R204). -/
abbrev Param.LEDGER_FRAME : Nat := 0x1800
/-- CHECKPOINT_SEQ (R204). -/
abbrev Param.CHECKPOINT_SEQ : Nat := 0x1801
/-- CHAIN_VALUE (R204). -/
abbrev Param.CHAIN_VALUE : Nat := 0x1802
/-- RECORD_NUMBER (R204). -/
abbrev Param.RECORD_NUMBER : Nat := 0x1803
/-- RECORD_OLDEST (R204). -/
abbrev Param.RECORD_OLDEST : Nat := 0x1804
/-- RECORDS_UNSIGNED (R204). -/
abbrev Param.RECORDS_UNSIGNED : Nat := 0x1805
/-- RECORDS_PENDING (R204). -/
abbrev Param.RECORDS_PENDING : Nat := 0x1806
/-- RECOVERY_COUNT (R204). -/
abbrev Param.RECOVERY_COUNT : Nat := 0x1807
/-- GAP_COUNT (R204). -/
abbrev Param.GAP_COUNT : Nat := 0x1808
/-- MRAM_CORRECTED (R204). -/
abbrev Param.MRAM_CORRECTED : Nat := 0x1809
/-- LP1_PERIOD (R204). -/
abbrev Param.LP1_PERIOD : Nat := 0x1810
/-- LP1_SOURCES (R204). -/
abbrev Param.LP1_SOURCES : Nat := 0x1811
/-- LP1_WRITE_INDEX (R204). -/
abbrev Param.LP1_WRITE_INDEX : Nat := 0x1812
/-- LP1_COUNT (R204). -/
abbrev Param.LP1_COUNT : Nat := 0x1813
/-- LP1_BUFFER (R204). -/
abbrev Param.LP1_BUFFER : Nat := 0x1814
/-- LP2_PERIOD (R204). -/
abbrev Param.LP2_PERIOD : Nat := 0x1818
/-- LP2_SOURCES (R204). -/
abbrev Param.LP2_SOURCES : Nat := 0x1819
/-- LP2_WRITE_INDEX (R204). -/
abbrev Param.LP2_WRITE_INDEX : Nat := 0x181A
/-- LP2_COUNT (R204). -/
abbrev Param.LP2_COUNT : Nat := 0x181B
/-- LP2_BUFFER (R204). -/
abbrev Param.LP2_BUFFER : Nat := 0x181C
/-- GAP_LOG (R204). -/
abbrev Param.GAP_LOG : Nat := 0x1820
/-- GAP_LOG_INDEX (R204). -/
abbrev Param.GAP_LOG_INDEX : Nat := 0x1821
/-- TARIFF_ACTIVE (R232). -/
abbrev Param.TARIFF_ACTIVE : Nat := 0x1A00
/-- DEFAULT_TARIFF (R232). -/
abbrev Param.DEFAULT_TARIFF : Nat := 0x1A02
/-- CALENDAR_ACT_TIME (R232). -/
abbrev Param.CALENDAR_ACT_TIME : Nat := 0x1A03
/-- CALENDAR_ACTIVE_CHECK (R232). -/
abbrev Param.CALENDAR_ACTIVE_CHECK : Nat := 0x1A04
/-- CALENDAR_PASSIVE_CHECK (R232). -/
abbrev Param.CALENDAR_PASSIVE_CHECK : Nat := 0x1A05
/-- TARIFF_CAP (R232). -/
abbrev Param.TARIFF_CAP : Nat := 0x1A06
/-- TARIFF_SWITCH_COUNT (R232). -/
abbrev Param.TARIFF_SWITCH_COUNT : Nat := 0x1A07
/-- PASSIVE_CALENDAR (R232). -/
abbrev Param.PASSIVE_CALENDAR : Nat := 0x1A10
/-- ACTIVE_CALENDAR (R232). -/
abbrev Param.ACTIVE_CALENDAR : Nat := 0x1A11
/-- BILLING_DAY (R233). -/
abbrev Param.BILLING_DAY : Nat := 0x1C00
/-- BILLING_MINUTE (R233). -/
abbrev Param.BILLING_MINUTE : Nat := 0x1C01
/-- BILLING_COUNT (R233). -/
abbrev Param.BILLING_COUNT : Nat := 0x1C02
/-- BILLING_LAST_END (R233). -/
abbrev Param.BILLING_LAST_END : Nat := 0x1C03
/-- BILLING_SNAPSHOTS (R233). -/
abbrev Param.BILLING_SNAPSHOTS : Nat := 0x1C04
/-- DEM_SOURCE (R233). -/
abbrev Param.DEM_SOURCE : Nat := 0x1C10
/-- DEM_MODE (R233). -/
abbrev Param.DEM_MODE : Nat := 0x1C11
/-- DEM_PERIOD (R233). -/
abbrev Param.DEM_PERIOD : Nat := 0x1C12
/-- DEM_SUBPERIODS (R233). -/
abbrev Param.DEM_SUBPERIODS : Nat := 0x1C13
/-- DEM_LAST (R233). -/
abbrev Param.DEM_LAST : Nat := 0x1C14
/-- DEM_LAST_FLAGS (R233). -/
abbrev Param.DEM_LAST_FLAGS : Nat := 0x1C15
/-- DEM_MAX (R233). -/
abbrev Param.DEM_MAX : Nat := 0x1C16
/-- DISP_LIST (R234). -/
abbrev Param.DISP_LIST : Nat := 0x1D00
/-- DISP_DWELL (R234). -/
abbrev Param.DISP_DWELL : Nat := 0x1D01
/-- DISP_MANUAL_TIMEOUT (R234). -/
abbrev Param.DISP_MANUAL_TIMEOUT : Nat := 0x1D02
/-- DISP_CONTRAST (R234). -/
abbrev Param.DISP_CONTRAST : Nat := 0x1D03
/-- DISP_POSITION (R234). -/
abbrev Param.DISP_POSITION : Nat := 0x1D04
/-- LCD_USER_SEGS (R234). -/
abbrev Param.LCD_USER_SEGS : Nat := 0x1D05
/-- PILOT_STATE (R264). -/
abbrev Param.PILOT_STATE : Nat := 0x2000
/-- PILOT_DUTY (R264). -/
abbrev Param.PILOT_DUTY : Nat := 0x2001
/-- PILOT_LEVELS (R264). -/
abbrev Param.PILOT_LEVELS : Nat := 0x2002
/-- VENT_SUPPORTED (R264). -/
abbrev Param.VENT_SUPPORTED : Nat := 0x2003
/-- PP_MODE (R264). -/
abbrev Param.PP_MODE : Nat := 0x2004
/-- TETHERED_RATING (R264). -/
abbrev Param.TETHERED_RATING : Nat := 0x2005
/-- PP_PULLUP (R264). -/
abbrev Param.PP_PULLUP : Nat := 0x2006
/-- PP_RESISTANCE (R264). -/
abbrev Param.PP_RESISTANCE : Nat := 0x2007
/-- CABLE_RATING (R264). -/
abbrev Param.CABLE_RATING : Nat := 0x2008
/-- PILOT_STATE_COUNT (R264). -/
abbrev Param.PILOT_STATE_COUNT : Nat := 0x2009
/-- PROTOCOL_ORDER (R265). -/
abbrev Param.PROTOCOL_ORDER : Nat := 0x2100
/-- PAYMENT_OPTIONS (R265). -/
abbrev Param.PAYMENT_OPTIONS : Nat := 0x2101
/-- SLAC_ATTEN_MAX (R265). -/
abbrev Param.SLAC_ATTEN_MAX : Nat := 0x2102
/-- SLAC_INIT_TIMEOUT (R265). -/
abbrev Param.SLAC_INIT_TIMEOUT : Nat := 0x2103
/-- HLC_FALLBACK (R265). -/
abbrev Param.HLC_FALLBACK : Nat := 0x2104
/-- LOOP_LOSS_TIME (R265). -/
abbrev Param.LOOP_LOSS_TIME : Nat := 0x2105
/-- SDP_SECURITY (R265). -/
abbrev Param.SDP_SECURITY : Nat := 0x2106
/-- PNC_AUTH (R265). -/
abbrev Param.PNC_AUTH : Nat := 0x2107
/-- PNC_HOST_TIMEOUT (R265). -/
abbrev Param.PNC_HOST_TIMEOUT : Nat := 0x2108
/-- BPT_ENABLE (R265). -/
abbrev Param.BPT_ENABLE : Nat := 0x2109
/-- ACTIVE_PROTOCOL (R265). -/
abbrev Param.ACTIVE_PROTOCOL : Nat := 0x210A
/-- EVCCID (R265). -/
abbrev Param.EVCCID : Nat := 0x210B
/-- VPLC_LINK_LOSSES (R265). -/
abbrev Param.VPLC_LINK_LOSSES : Nat := 0x210C
/-- OUTLET_KIND (R266). -/
abbrev Param.OUTLET_KIND : Nat := 0x2200
/-- POST_RATING_I (R266). -/
abbrev Param.POST_RATING_I : Nat := 0x2201
/-- POST_RATING_IDC (R266). -/
abbrev Param.POST_RATING_IDC : Nat := 0x2202
/-- POST_RATING_PDC (R266). -/
abbrev Param.POST_RATING_PDC : Nat := 0x2203
/-- GRID_CAP (R266). -/
abbrev Param.GRID_CAP : Nat := 0x2204
/-- DERATE_SOURCE (R266). -/
abbrev Param.DERATE_SOURCE : Nat := 0x2206
/-- DERATE_T_START (R266). -/
abbrev Param.DERATE_T_START : Nat := 0x2207
/-- DERATE_T_END (R266). -/
abbrev Param.DERATE_T_END : Nat := 0x2208
/-- FREE_CHARGING (R266). -/
abbrev Param.FREE_CHARGING : Nat := 0x220A
/-- HOST_LOSS_GRACE (R266). -/
abbrev Param.HOST_LOSS_GRACE : Nat := 0x220B
/-- REMOTE_START_WINDOW (R266). -/
abbrev Param.REMOTE_START_WINDOW : Nat := 0x220C
/-- AUTH_HOST_TIMEOUT (R266). -/
abbrev Param.AUTH_HOST_TIMEOUT : Nat := 0x220D
/-- STOP_WAIT (R266). -/
abbrev Param.STOP_WAIT : Nat := 0x220E
/-- STAGE_TIMEOUT (R266). -/
abbrev Param.STAGE_TIMEOUT : Nat := 0x220F
/-- LIMIT_APPLIED (R266). -/
abbrev Param.LIMIT_APPLIED : Nat := 0x2210
/-- SESSION_STATE (R266). -/
abbrev Param.SESSION_STATE : Nat := 0x2211
/-- SESSION_RECORD (R266). -/
abbrev Param.SESSION_RECORD : Nat := 0x2212
/-- SAFETY_CHECK (R307). -/
abbrev Param.SAFETY_CHECK : Nat := 0x2800
/-- SAFETY_CONFIRM_STATE (R307). -/
abbrev Param.SAFETY_CONFIRM_STATE : Nat := 0x2801
/-- SAFETY_CONFIRMED_VALUE (R307). -/
abbrev Param.SAFETY_CONFIRMED_VALUE : Nat := 0x2802
/-- SAFETY_CHANGE_COUNT (R307). -/
abbrev Param.SAFETY_CHANGE_COUNT : Nat := 0x2803
/-- SAFETY_TRIP_LAST (R307). -/
abbrev Param.SAFETY_TRIP_LAST : Nat := 0x2804
/-- SAFETY_TEST_RESULTS (R307). -/
abbrev Param.SAFETY_TEST_RESULTS : Nat := 0x2805
/-- FT_CFG (R307). -/
abbrev Param.FT_CFG : Nat := 0x2810
/-- RDC_THR (R307). -/
abbrev Param.RDC_THR : Nat := 0x2820
/-- RC_PEAK_THR (R307). -/
abbrev Param.RC_PEAK_THR : Nat := 0x2821
/-- RC_PEAK_PERSIST (R307). -/
abbrev Param.RC_PEAK_PERSIST : Nat := 0x2822
/-- FG_FREQ (R307). -/
abbrev Param.FG_FREQ : Nat := 0x2823
/-- RC_VALUES (R307). -/
abbrev Param.RC_VALUES : Nat := 0x2824
/-- ESTOP_ENABLE (R307). -/
abbrev Param.ESTOP_ENABLE : Nat := 0x2830
/-- ESTOP_FILTER (R307). -/
abbrev Param.ESTOP_FILTER : Nat := 0x2831
/-- ESTOP_DISCREPANCY (R307). -/
abbrev Param.ESTOP_DISCREPANCY : Nat := 0x2832
/-- ESTOP_LATCH (R307). -/
abbrev Param.ESTOP_LATCH : Nat := 0x2833
/-- DOOR_ENABLE (R307). -/
abbrev Param.DOOR_ENABLE : Nat := 0x2834
/-- DOOR_FILTER (R307). -/
abbrev Param.DOOR_FILTER : Nat := 0x2835
/-- DOOR_DISCREPANCY (R307). -/
abbrev Param.DOOR_DISCREPANCY : Nat := 0x2836
/-- TPO_PERIOD (R307). -/
abbrev Param.TPO_PERIOD : Nat := 0x2837
/-- CONTACTOR_CFG (R307). -/
abbrev Param.CONTACTOR_CFG : Nat := 0x2840
/-- CONTACTOR_CLOSE_MAX (R307). -/
abbrev Param.CONTACTOR_CLOSE_MAX : Nat := 0x2841
/-- CONTACTOR_OPEN_MAX (R307). -/
abbrev Param.CONTACTOR_OPEN_MAX : Nat := 0x2842
/-- WELD_U_THR (R307). -/
abbrev Param.WELD_U_THR : Nat := 0x2843
/-- WELD_UDC_THR (R307). -/
abbrev Param.WELD_UDC_THR : Nat := 0x2844
/-- WELD_DC_DECAY (R307). -/
abbrev Param.WELD_DC_DECAY : Nat := 0x2845
/-- OT_SOURCE (R307). -/
abbrev Param.OT_SOURCE : Nat := 0x2850
/-- OT_TRIP (R307). -/
abbrev Param.OT_TRIP : Nat := 0x2851
/-- OT_RESET_HYST (R307). -/
abbrev Param.OT_RESET_HYST : Nat := 0x2852
/-- PE_U_THR (R307). -/
abbrev Param.PE_U_THR : Nat := 0x2858
/-- ISO_FAULT_OHMV (R307). -/
abbrev Param.ISO_FAULT_OHMV : Nat := 0x2860
/-- ISO_WARN_OHMV (R307). -/
abbrev Param.ISO_WARN_OHMV : Nat := 0x2861
/-- ISO_STEP (R307). -/
abbrev Param.ISO_STEP : Nat := 0x2862
/-- ISO_SETTLE (R307). -/
abbrev Param.ISO_SETTLE : Nat := 0x2863
/-- ISO_INJ_VOLT (R307). -/
abbrev Param.ISO_INJ_VOLT : Nat := 0x2864
/-- ISO_NET_RES (R307). -/
abbrev Param.ISO_NET_RES : Nat := 0x2865
/-- DEGRADED_LIMIT (R307). -/
abbrev Param.DEGRADED_LIMIT : Nat := 0x2870
/-- DEGRADED_CAUSE (R307). -/
abbrev Param.DEGRADED_CAUSE : Nat := 0x2871
/-- DEGRADED_REMAINING (R307). -/
abbrev Param.DEGRADED_REMAINING : Nat := 0x2872
/-- HSW_CFG (R334). -/
abbrev Param.HSW_CFG : Nat := 0x3000
/-- HSW_ILIM (R334). -/
abbrev Param.HSW_ILIM : Nat := 0x3001
/-- HSW_OL_THR (R334). -/
abbrev Param.HSW_OL_THR : Nat := 0x3002
/-- HSW_RETRY_DELAY (R334). -/
abbrev Param.HSW_RETRY_DELAY : Nat := 0x3003
/-- HSW_PWM_FREQ (R334). -/
abbrev Param.HSW_PWM_FREQ : Nat := 0x3004
/-- HSW_PWM_PHASE (R334). -/
abbrev Param.HSW_PWM_PHASE : Nat := 0x3005
/-- HSW_THERMO (R334). -/
abbrev Param.HSW_THERMO : Nat := 0x3006
/-- HSW_STATUS (R334). -/
abbrev Param.HSW_STATUS : Nat := 0x3008
/-- HSW_CURRENT (R334). -/
abbrev Param.HSW_CURRENT : Nat := 0x3009
/-- HSW_TJ (R334). -/
abbrev Param.HSW_TJ : Nat := 0x300A
/-- HSW_DUTY (R334). -/
abbrev Param.HSW_DUTY : Nat := 0x300B
/-- HSW_PROT_COUNT (R334). -/
abbrev Param.HSW_PROT_COUNT : Nat := 0x300C
/-- PROFILE (R337). -/
abbrev Param.PROFILE : Nat := 0x3080
/-- PROFILE_USER (R337). -/
abbrev Param.PROFILE_USER : Nat := 0x3086
/-- VAUX_LEVEL (R337). -/
abbrev Param.VAUX_LEVEL : Nat := 0x3090
/-- VAUX_CURRENT (R337). -/
abbrev Param.VAUX_CURRENT : Nat := 0x3091
/-- UV_MODE (R337). -/
abbrev Param.UV_MODE : Nat := 0x3092
/-- UV_OFF (R337). -/
abbrev Param.UV_OFF : Nat := 0x3093
/-- VAUX_I_MAX (R337). -/
abbrev Param.VAUX_I_MAX : Nat := 0x3094
/-- SENSE_SEL (R337). -/
abbrev Param.SENSE_SEL : Nat := 0x3095
/-- LOCK_FITTED (R337). -/
abbrev Param.LOCK_FITTED : Nat := 0x30A0
/-- LOCK_DRIVE_MAX (R337). -/
abbrev Param.LOCK_DRIVE_MAX : Nat := 0x30A1
/-- LOCK_STALL_I (R337). -/
abbrev Param.LOCK_STALL_I : Nat := 0x30A2
/-- LOCK_STALL_BLANK (R337). -/
abbrev Param.LOCK_STALL_BLANK : Nat := 0x30A3
/-- LOCK_FB_POLARITY (R337). -/
abbrev Param.LOCK_FB_POLARITY : Nat := 0x30A4
/-- LOCK_STATE (R337). -/
abbrev Param.LOCK_STATE : Nat := 0x30A5
/-- LOCK_OPS_COUNT (R337). -/
abbrev Param.LOCK_OPS_COUNT : Nat := 0x30A6
/-- COIL_PULLIN (R337). -/
abbrev Param.COIL_PULLIN : Nat := 0x30B0
/-- COIL_HOLD_I (R337). -/
abbrev Param.COIL_HOLD_I : Nat := 0x30B1
/-- COIL_CURRENT (R337). -/
abbrev Param.COIL_CURRENT : Nat := 0x30B2
/-- GPLC_BAND (R363). -/
abbrev Param.GPLC_BAND : Nat := 0x3800
/-- GPLC_TX_ATTEN (R363). -/
abbrev Param.GPLC_TX_ATTEN : Nat := 0x3801
/-- GPLC_TMR_TTL (R363). -/
abbrev Param.GPLC_TMR_TTL : Nat := 0x3802
/-- GPLC_MAX_HOPS (R363). -/
abbrev Param.GPLC_MAX_HOPS : Nat := 0x3803
/-- GPLC_HOP_PENALTY (R363). -/
abbrev Param.GPLC_HOP_PENALTY : Nat := 0x3804
/-- GPLC_ROUTE_TTL (R363). -/
abbrev Param.GPLC_ROUTE_TTL : Nat := 0x3805
/-- GPLC_PAN_ID (R363). -/
abbrev Param.GPLC_PAN_ID : Nat := 0x3806
/-- GPLC_SHORT_ADDR (R363). -/
abbrev Param.GPLC_SHORT_ADDR : Nat := 0x3807
/-- GPLC_STATE (R363). -/
abbrev Param.GPLC_STATE : Nat := 0x3808
/-- GPLC_EXT_IL (R363). -/
abbrev Param.GPLC_EXT_IL : Nat := 0x3809
/-- GPLC_EXT_IL_FER (R363). -/
abbrev Param.GPLC_EXT_IL_FER : Nat := 0x380A
/-- GPLC_ROUTER (R363). -/
abbrev Param.GPLC_ROUTER : Nat := 0x380B
/-- GPLC_PAN_LOSS (R363). -/
abbrev Param.GPLC_PAN_LOSS : Nat := 0x380C
/-- GPLC_STATE_RESET (R363). -/
abbrev Param.GPLC_STATE_RESET : Nat := 0x380D
/-- NEIGHBOUR_REFUSED (R363). -/
abbrev Param.NEIGHBOUR_REFUSED : Nat := 0x380E
/-- NEIGHBOUR_TABLE (R363). -/
abbrev Param.NEIGHBOUR_TABLE : Nat := 0x3810
/-- ROUTE_TABLE (R363). -/
abbrev Param.ROUTE_TABLE : Nat := 0x3811
/-- PHASE_MAP (R363). -/
abbrev Param.PHASE_MAP : Nat := 0x3812
/-- GPLC_COUNTERS (R363). -/
abbrev Param.GPLC_COUNTERS : Nat := 0x3813
/-- PHASE_REF_SET (R363). -/
abbrev Param.PHASE_REF_SET : Nat := 0x3814
/-- DLMS_SUITE (R364). -/
abbrev Param.DLMS_SUITE : Nat := 0x3900
/-- DLMS_PORT (R364). -/
abbrev Param.DLMS_PORT : Nat := 0x3901
/-- DLMS_INACTIVITY (R364). -/
abbrev Param.DLMS_INACTIVITY : Nat := 0x3902
/-- IMAGE_BLOCK_SIZE (R364). -/
abbrev Param.IMAGE_BLOCK_SIZE : Nat := 0x3903
/-- PUSH_RETRY (R364). -/
abbrev Param.PUSH_RETRY : Nat := 0x3904
/-- PUSH_DESTINATION (R364). -/
abbrev Param.PUSH_DESTINATION : Nat := 0x3905
/-- DLMS_ASSOC_ACTIVE (R364). -/
abbrev Param.DLMS_ASSOC_ACTIVE : Nat := 0x3906
/-- DLMS_IC_TX (R364). -/
abbrev Param.DLMS_IC_TX : Nat := 0x3907
/-- DLMS_SECURITY_FAILURES (R364). -/
abbrev Param.DLMS_SECURITY_FAILURES : Nat := 0x3908
/-- READER_STATE (R388). -/
abbrev Param.READER_STATE : Nat := 0x4000
/-- PING_PERIOD (R388). -/
abbrev Param.PING_PERIOD : Nat := 0x4001
/-- PING_THR (R388). -/
abbrev Param.PING_THR : Nat := 0x4002
/-- PING_THR_NOW (R388). -/
abbrev Param.PING_THR_NOW : Nat := 0x4003
/-- POLL_TYPES (R388). -/
abbrev Param.POLL_TYPES : Nat := 0x4004
/-- READER_MAX_RATE (R388). -/
abbrev Param.READER_MAX_RATE : Nat := 0x4005
/-- WTX_MAX_TOTAL (R388). -/
abbrev Param.WTX_MAX_TOTAL : Nat := 0x4006
/-- CARD_ABSENT_TIME (R388). -/
abbrev Param.CARD_ABSENT_TIME : Nat := 0x4007
/-- CARD_AID (R388). -/
abbrev Param.CARD_AID : Nat := 0x4008
/-- CARD_AID_IDLEN (R388). -/
abbrev Param.CARD_AID_IDLEN : Nat := 0x4009
/-- CARD_LAST (R388). -/
abbrev Param.CARD_LAST : Nat := 0x400A
/-- PING_FALSE_COUNT (R388). -/
abbrev Param.PING_FALSE_COUNT : Nat := 0x400B
/-- CARDS_PRESENTED (R388). -/
abbrev Param.CARDS_PRESENTED : Nat := 0x400C
/-- HARV_OUT_ENABLE (R388). -/
abbrev Param.HARV_OUT_ENABLE : Nat := 0x4010
/-- CALICO_IMAGE_SEQ (R388). -/
abbrev Param.CALICO_IMAGE_SEQ : Nat := 0x4011
/-- CALICO_DEFERRED (R388). -/
abbrev Param.CALICO_DEFERRED : Nat := 0x4012
/-- AUTH_LIST_VERSION (R389). -/
abbrev Param.AUTH_LIST_VERSION : Nat := 0x4100
/-- AUTH_LIST_COUNT (R389). -/
abbrev Param.AUTH_LIST_COUNT : Nat := 0x4101
/-- AUTH_LIST_CRC (R389). -/
abbrev Param.AUTH_LIST_CRC : Nat := 0x4102
/-- AUTH_LOAD_STATE (R389). -/
abbrev Param.AUTH_LOAD_STATE : Nat := 0x4103
/-- AUTH_LOOKUP_COUNT (R389). -/
abbrev Param.AUTH_LOOKUP_COUNT : Nat := 0x4104
/-- AUTH_HIT_COUNT (R389). -/
abbrev Param.AUTH_HIT_COUNT : Nat := 0x4105
/-- IDENTITY_STATE (R416). -/
abbrev Param.IDENTITY_STATE : Nat := 0x4800
/-- VBAT1_LEVEL (R416). -/
abbrev Param.VBAT1_LEVEL : Nat := 0x4801
/-- VBAT2_LEVEL (R416). -/
abbrev Param.VBAT2_LEVEL : Nat := 0x4802
/-- VBAT_LOW_THR (R416). -/
abbrev Param.VBAT_LOW_THR : Nat := 0x4803
/-- TAMPER_CFG (R416). -/
abbrev Param.TAMPER_CFG : Nat := 0x4804
/-- TAMPER_STATE (R416). -/
abbrev Param.TAMPER_STATE : Nat := 0x4805
/-- TAMPER_COUNT (R416). -/
abbrev Param.TAMPER_COUNT : Nat := 0x4806
/-- ERASE_COUNT (R416). -/
abbrev Param.ERASE_COUNT : Nat := 0x4807
/-- ROOT_GEN (R416). -/
abbrev Param.ROOT_GEN : Nat := 0x4808
/-- ROOT_MIN (R416). -/
abbrev Param.ROOT_MIN : Nat := 0x4809
/-- ENROL_SEQ (R416). -/
abbrev Param.ENROL_SEQ : Nat := 0x480A
/-- ENROL_STATE (R416). -/
abbrev Param.ENROL_STATE : Nat := 0x480B
/-- ENROL_REQUEST (R416). -/
abbrev Param.ENROL_REQUEST : Nat := 0x480C
/-- KEY_SLOTS (R416). -/
abbrev Param.KEY_SLOTS : Nat := 0x480D
/-- RECORD_KEY_ID (R416). -/
abbrev Param.RECORD_KEY_ID : Nat := 0x480E
/-- ROLLBACK_COUNTERS (R416). -/
abbrev Param.ROLLBACK_COUNTERS : Nat := 0x480F
/-- IDENTITY_CERT (R416). -/
abbrev Param.IDENTITY_CERT : Nat := 0x4810
/-- RECORD_KEY_CERTS (R416). -/
abbrev Param.RECORD_KEY_CERTS : Nat := 0x4811
/-- LOGIN_NONCE (R416). -/
abbrev Param.LOGIN_NONCE : Nat := 0x4812
/-- ATTEST_RESULT (R416). -/
abbrev Param.ATTEST_RESULT : Nat := 0x4813
/-- DLMS_KEY (R416). -/
abbrev Param.DLMS_KEY : Nat := 0x4820
/-- GPLC_PSK (R416). -/
abbrev Param.GPLC_PSK : Nat := 0x4823
/-- COMM_KEY (R416). -/
abbrev Param.COMM_KEY : Nat := 0x4824
/-- OPERATOR_KEY (R416). -/
abbrev Param.OPERATOR_KEY : Nat := 0x4825
/-- DLMS_CLIENT_PUBKEY (R416). -/
abbrev Param.DLMS_CLIENT_PUBKEY : Nat := 0x4830
/-- SERVICE_AUTH_PUBKEY (R416). -/
abbrev Param.SERVICE_AUTH_PUBKEY : Nat := 0x4831
/-- SECC_CSR (R416). -/
abbrev Param.SECC_CSR : Nat := 0x4840
/-- SECC_CERTS (R416). -/
abbrev Param.SECC_CERTS : Nat := 0x4841
/-- V2G_ROOTS (R416). -/
abbrev Param.V2G_ROOTS : Nat := 0x4842
/-- UPDATE_STATE (R434). -/
abbrev Param.UPDATE_STATE : Nat := 0x5000
/-- UPDATE_RESULT (R434). -/
abbrev Param.UPDATE_RESULT : Nat := 0x5001
/-- ACTIVE_SET (R434). -/
abbrev Param.ACTIVE_SET : Nat := 0x5002
/-- STAGING_SOURCE (R434). -/
abbrev Param.STAGING_SOURCE : Nat := 0x5003
/-- STAGED_BYTES (R434). -/
abbrev Param.STAGED_BYTES : Nat := 0x5004
/-- UPDATE_OWNER_LOCK (R434). -/
abbrev Param.UPDATE_OWNER_LOCK : Nat := 0x5005
/-- MANIFEST_ACTIVE (R434). -/
abbrev Param.MANIFEST_ACTIVE : Nat := 0x5006
/-- MANIFEST_STAGED (R434). -/
abbrev Param.MANIFEST_STAGED : Nat := 0x5007
/-- ACTIVATION_COUNT (R434). -/
abbrev Param.ACTIVATION_COUNT : Nat := 0x5008
/-- REVERT_COUNT (R434). -/
abbrev Param.REVERT_COUNT : Nat := 0x5009
/-- TEST_STATE (R463). -/
abbrev Param.TEST_STATE : Nat := 0x7000
/-- TEST_REMAINING (R463). -/
abbrev Param.TEST_REMAINING : Nat := 0x7001
/-- TEST_SLOT_STRETCH (R463). -/
abbrev Param.TEST_SLOT_STRETCH : Nat := 0x7002
/-- TEST_MBOX_DELAY (R463). -/
abbrev Param.TEST_MBOX_DELAY : Nat := 0x7003
/-- TEST_PORT_BUSY (R463). -/
abbrev Param.TEST_PORT_BUSY : Nat := 0x7004
/-- TEST_PORT_THROTTLE (R463). -/
abbrev Param.TEST_PORT_THROTTLE : Nat := 0x7005
/-- TEST_GPLC_HOLD (R463). -/
abbrev Param.TEST_GPLC_HOLD : Nat := 0x7006
/-- TEST_COMMIT_DELAY (R463). -/
abbrev Param.TEST_COMMIT_DELAY : Nat := 0x7007
/-- TEST_MISMATCH (R463). -/
abbrev Param.TEST_MISMATCH : Nat := 0x7008
/-- TEST_WDT_WINDOW (R463). -/
abbrev Param.TEST_WDT_WINDOW : Nat := 0x7009
/-- TEST_ENROL_TOKEN (R463). -/
abbrev Param.TEST_ENROL_TOKEN : Nat := 0x700A
/-- SELFTEST_SUMMARY (R460). -/
abbrev Param.SELFTEST_SUMMARY : Nat := 0x7F00
/-- SELFTEST_LAST (R460). -/
abbrev Param.SELFTEST_LAST : Nat := 0x7F02
/-- UPTIME_FRAMES (R460). -/
abbrev Param.UPTIME_FRAMES : Nat := 0x7F03
/-- SLOT_MARGINS (R460). -/
abbrev Param.SLOT_MARGINS : Nat := 0x7F04
/-- RAIL_LEVELS (R460). -/
abbrev Param.RAIL_LEVELS : Nat := 0x7F05
/-- SRAM_MAPPED (R460). -/
abbrev Param.SRAM_MAPPED : Nat := 0x7F06
/-- FLASH_CORRECTED (R460). -/
abbrev Param.FLASH_CORRECTED : Nat := 0x7F07

end Sys2Proof.Machine
end

