-- ==== Sys2Proof/Machine/Ops.lean ====
section
/-!
DEFINITION. The named operations every meaning is written with: events, mode requests, lanes, the parameter store,
and the timers.
-/

namespace Sys2Proof.Machine

/-- The outcomes of a command. -/
abbrev Out := Host.Outcome State Fault Refusal

/-- A change of everything but the queue, the clock and the registers. -/
def State.onDev (s : State) (f : Dev → Dev) : State := { s with dev := f s.dev }

/-- A command whose effect is a change of `dev`. -/
def devStep (s : State) (f : Dev → Dev) : Out := .next (s.onDev f)

/-- Apply an effect where a condition holds; a happening whose condition does not hold is no happening and changes
nothing (log entry 8). -/
def Dev.when (c : Bool) (f : Dev → Dev) (d : Dev) : Dev := if c then f d else d

/-- A row of the lead's protocol state (R30, R31): a change of the vehicle link, the associations, the routing tables or the
reader, or a message that the lead sends or receives. It stands in a frame whose delta carries the commit marker; in another
it leaves nothing, and the shared unit holds the message for the next (DEDUCED, log entry 170). -/
def protoStep (s : State) (f : Dev → Dev) : Out := devStep s (Dev.when s.dev.win.shadow.marker f)

/-- Element of a list, or the type's default state. -/
def nth {α : Type} (dflt : α) (l : List α) (k : Nat) : α := (l[k]?).getD dflt

/-- Change the element at a place. -/
def updAt {α : Type} (l : List α) (k : Nat) (f : α → α) : List α := l.modify k f

/-- Keep the last n elements. -/
def lastN {α : Type} (n : Nat) (l : List α) : List α := l.drop (l.length - n)

/-! Sources of R23 and R120. -/

/-- SOURCE 0, SERGE. -/
abbrev Src.serge : Nat := 0
/-- SOURCE 1, metrology. -/
abbrev Src.metr : Nat := 1
/-- SOURCE 2, vehicle link. -/
abbrev Src.vehicle : Nat := 2
/-- SOURCE 3, contactless. -/
abbrev Src.card : Nat := 3
/-- SOURCE 4, host. -/
abbrev Src.host : Nat := 4
/-- SOURCE 5, grid link. -/
abbrev Src.grid : Nat := 5
/-- SOURCE 6, the controller's own. -/
abbrev Src.own : Nat := 6

/-- Place of a metrology event of a side and phase, 0 for the side's total (R158): sides in order, on each the phases and
then the total, within those by the order of the table, which is that of the codes (R175). -/
def metrPlace (side ph code : Nat) : Nat := 10000 * (1 + side) + 1000 * (if ph = 0 then 4 else ph) + code % 256

/-- The place of a trip in the order of R274, by function and tier: what SERGE's snapshot shows, then pilot integrity, residual
current, insulation, protective earth, over-temperature, the closing and opening checks. -/
def tripOrder (f tier : Nat) : Nat :=
  if f = 2 then (if tier = 5 then 1 else 3)
  else if f = 3 then (if tier ≤ 8 then 1 else 7)
  else nth 1 [1, 1, 3, 7, 1, 1, 6, 2, 5, 4] f

/-- The place of a safety event in the order of R274, by its code and the first two bytes of its data. -/
def safetyPlace (code f tier : Nat) : Nat :=
  if code = Event.SAFETY_TRIPPED then tripOrder f tier
  else if code = Event.RC_TEST_DONE then 3
  else if code = Event.INSULATION_WARNING then 4
  else if code = Event.CONTACTOR_NOT_CLOSED ∨ code = Event.WELD_DETECTED then 7
  else if code = Event.DEGRADED_ENTERED ∨ code = Event.DEGRADED_ENDED then 8
  else if code / 256 = 0x28 then 1 else 0

/-- Place of an event within its source (R23): arrival, but in the SERGE position firmware's findings after SERGE's queue in
the order of R274, and in the metrology position those of R158 by side and phase, which their data name, after those of
sampling; then the rest of the group, then the tariff events (R235). -/
def eventPlace (src code : Nat) (data : List Byte) : Nat :=
  let at_ (k : Nat) : Nat := (data.getD k 0).toNat
  if src = Src.serge then safetyPlace code (at_ 0) (at_ 1)
  else if src ≠ Src.metr then 0
  else if Event.WRONG_SEQUENCE ≤ code ∧ code ≤ Event.REVERSE_ENERGY then metrPlace (at_ 1) (at_ 2) code
  else if code = Event.ESTIMATION_STARTED ∨ code = Event.METER_GAP then metrPlace (at_ 0) (at_ 1) code
  else if code / 256 = 0x14 ∨ code / 256 = 0x18 ∨ code = Event.CAL_ACC_DONE then 50000
  else if code / 256 = 0x04 ∨ code / 256 = 0x1A ∨ code / 256 = 0x1C then 60000 else 0

/-- An event with its place. -/
def Ev.of (src code : Nat) (data : List Byte) : Ev :=
  { src := src, code := code, data := data, place := eventPlace src code data }

/-- An event arises in the frame (R23, R120). -/
def Dev.raise (src code : Nat) (data : List Byte) (d : Dev) : Dev :=
  { d with log := { d.log with now := d.log.now ++ [.of src code data] } }

/-- A list of events arises. -/
def raiseAll (es : List Ev) (d : Dev) : Dev := { d with log := { d.log with now := d.log.now ++ es } }

/-- An event that also enters the metrology log (R122). -/
def Dev.raiseMetr (src code : Nat) (data : List Byte) (d : Dev) : Dev :=
  { d with log := { d.log with now := d.log.now ++ [.of src code data], metrNow := d.log.metrNow ++ [.of src code data] } }

/-- SERGE queues an event with its stamp; when 16 wait, the newest replaces the last and is counted there (R38). -/
def Dev.sergeRaise (stamp code : Nat) (data : List Byte) (d : Dev) : Dev :=
  let q := d.lanes.queue
  let q' :=
    if q.length < 16 then q ++ [⟨stamp, code, data, 0⟩]
    else q.dropLast ++ [⟨stamp, code, data, ((q.getLast?.map SergeEv.overflow).getD 0) + 1⟩]
  { d with lanes := { d.lanes with queue := q' } }

/-- The interrupt bits that the frame's work sets, released with its shadow (R85, R99). -/
def Dev.irq (bits : BitVec 9) (d : Dev) : Dev :=
  { d with win := { d.win with shadow := { d.win.shadow with irqSet := d.win.shadow.irqSet ||| bits } } }

/-- A checkpoint is due in this frame, for the cause at a place in R187's list: 0 periodic, 1 tariff and billing,
2 session, 3 ordered stops, 4 start-up, 5 configuration, 6 field limits, 7 estimation. -/
def Dev.ckptDue (k : Nat) (d : Dev) : Dev := { d with led := { d.led with due := d.led.due ||| (1#8 <<< k) } }

/-- The code of a mode (R40). -/
def Mode.code : Mode → Nat
  | .factory => 0 | .commissioning => 1 | .ready => 2 | .session => 3
  | .degraded => 4 | .safeStop => 5 | .service => 6 | .quarantine => 7

/-- The mode of a code (R40). -/
def Mode.ofCode : Nat → Option Mode
  | 0 => some .factory | 1 => some .commissioning | 2 => some .ready | 3 => some .session
  | 4 => some .degraded | 5 => some .safeStop | 6 => some .service | 7 => some .quarantine
  | _ => none

/-- Rank in the order of R44, 1 first. -/
def ReqKind.rank : ReqKind → Nat
  | .toQuarantine => 1 | .toSafeStop => 2 | .toDegraded => 3 | .sessionEnded => 4 | .other => 5

/-- MODE_CAUSE of a trigger whose event was logged (R64). -/
def causeEvent (code : Nat) : Nat := code
/-- MODE_CAUSE of a trigger that is a command (R64). -/
def causeCmd (code : Nat) : Nat := code + 0x10000

/-- A trigger for a transition is found in the frame (R44). -/
def Dev.reqMode (m : Mode) (k : ReqKind) (cause : Nat) (d : Dev) : Dev :=
  { d with pow := { d.pow with modeReqs := d.pow.modeReqs ++ [⟨m, k, cause⟩] } }

/-- The transition a frame takes: the first of the highest priority (R44). -/
def bestReq : List ModeReq → Option ModeReq
  | [] => none
  | r :: rs =>
    match bestReq rs with
    | none => some r
    | some b => if b.kind.rank < r.kind.rank then some b else some r

/-- Bits of SAFESTOP_CAUSES (R47). -/
abbrev Cause.serge : Nat := 0
/-- Bit 1. -/
abbrev Cause.dualLane : Nat := 1
/-- Bit 2. -/
abbrev Cause.laneLost : Nat := 2
/-- Bit 3. -/
abbrev Cause.safetyTrip : Nat := 3
/-- Bit 4. -/
abbrev Cause.safetyLatch : Nat := 4
/-- Bit 5. -/
abbrev Cause.degradedEnd : Nat := 5
/-- Bit 6. -/
abbrev Cause.holdup : Nat := 6
/-- Bit 7. -/
abbrev Cause.hostStop : Nat := 7
/-- Bit 8. -/
abbrev Cause.headEndStop : Nat := 8
/-- Bit 9. -/
abbrev Cause.image : Nat := 9

/-- Set a cause bit; it stays set until it is cleared (R47). -/
def Dev.setCause (k : Nat) (d : Dev) : Dev :=
  { d with pow := { d.pow with causes := d.pow.causes ||| (1#32 <<< k) } }

/-- A cause bit found in the frame, with the move to Safe-stop that R43 lists for the mode: from Ready any cause; from
Session bits 0, 1, 3 and 4. `ev` is the event logged for the trigger. -/
def Dev.safeStop (mode : Mode) (k ev : Nat) (d : Dev) : Dev :=
  let d := d.setCause k
  let d := { d with pow := { d.pow with causeEv := ev } }
  match mode with
  | .ready => d.reqMode .safeStop .toSafeStop (causeEvent ev)
  | .session =>
    if k = 0 ∨ k = 1 ∨ k = 3 ∨ k = 4 then d.reqMode .safeStop .toSafeStop (causeEvent ev) else d
  | .degraded =>
    if k = 0 ∨ k = 1 ∨ k = 3 ∨ k = 4 then d.reqMode .safeStop .toSafeStop (causeEvent ev) else d
  | _ => d

/-- The other lane. -/
def laneOther : Lane → Lane
  | .a => .b
  | .b => .a

/-- The code of a lane in events and fields: 1 A, 2 B. -/
def laneCode : Lane → Nat
  | .a => 1
  | .b => 2

/-- LEAD_LANE: 0 none, 1 A, 2 B (R36). -/
def leadCode : Option Lane → Nat
  | none => 0
  | some l => laneCode l

/-- A lane's record. -/
def Lanes.get (x : Lanes) : Lane → LaneRec
  | .a => x.a
  | .b => x.b

/-- Change a lane's record. -/
def Lanes.map (x : Lanes) (l : Lane) (f : LaneRec → LaneRec) : Lanes :=
  match l with
  | .a => { x with a := f x.a }
  | .b => { x with b := f x.b }

/-- Change a lane's record within the machine. -/
def Dev.onLane (l : Lane) (f : LaneRec → LaneRec) (d : Dev) : Dev := { d with lanes := d.lanes.map l f }

/-- The lane that acts: the token's holder, or after a SERGE fault the window gate's (R17, R28). -/
def Lanes.acting (x : Lanes) : Option Lane :=
  match x.token with
  | some l => some l
  | none => x.windowGate

/-- The controller serves commands: frames run with an acting lane (R84). -/
def State.serving (s : State) : Bool := s.clk.running && s.dev.lanes.acting.isSome

/-- The 32 bytes of an entry (R120). -/
def entryBytes (e : LogEntry) : List Byte :=
  let fl := (if e.alarm then 1 else 0) + e.src % 8 * 2 + e.lead % 4 * 16 + (if e.metr then 64 else 0) +
    (if e.continued then 128 else 0)
  leBytes 4 e.seq ++ leBytes 8 e.frame ++ leBytes 4 e.rtc ++ leBytes 2 e.code ++ leBytes 1 fl ++
    leBytes 1 e.data.length ++ slice e.data 0 12

/-! Timers: frames are 125 µs (R9). -/

/-- Frames of a number of milliseconds. -/
def ms (n : Nat) : Nat := 8 * n
/-- Frames of a number of seconds. -/
def secs (n : Nat) : Nat := 8000 * n

/-- A day in frames. -/
def dayFrames : Nat := 691200000

/-! The parameter store. -/

/-- A row describes an ID. -/
def PRow.has (r : PRow) (id : Nat) : Bool :=
  r.id ≤ id && (id - r.id) % r.stride = 0 && (id - r.id) / r.stride < r.n

/-- The row of an ID, if the ID is known (R118). -/
def rowOf (id : Nat) : Option PRow := paramTable.find? (·.has id)

/-- Which block of its row an ID is. -/
def PRow.nth (r : PRow) (id : Nat) : Nat := (id - r.id) / r.stride

/-- Billing channels (R124). -/
def isBilling (c : Nat) : Bool := [0, 1, 2, 4, 5, 6, 8, 9, 10, 11, 12, 13, 15, 16].contains c

/-- Channels with the ×4 and ×16 gains, and those with an integrator (R124). -/
def pgaMax (c : Nat) : Nat := if (4 ≤ c ∧ c ≤ 7) ∨ (11 ≤ c ∧ c ≤ 14) ∨ c = 16 then 2 else if c = 17 then 1 else 0
/-- Channels that may use the integrator (R124). -/
def integOk (c : Nat) : Bool := (4 ≤ c && c ≤ 7) || (11 ≤ c && c ≤ 13)

/-- FLAGS of an ID (R111): a channel block's writable parameters are LEGAL for billing channels (R145, R171); the
calibration of IRC is SAFETY (R171). -/
def flagsOf (r : PRow) (id : Nat) : Nat :=
  if r.chan = 0 ∨ r.acc = 0 then r.flags
  else if isBilling (r.nth id) then r.flags ||| 1
  else if r.chan = 2 ∧ r.nth id = 14 then r.flags ||| 2 else r.flags

/-- MODES_W of an ID (R112, R145, R171). -/
def modesWOf (r : PRow) (id : Nat) : Nat :=
  if r.chan ≠ 0 ∧ r.acc ≠ 0 ∧ isBilling (r.nth id) then 0x41 else r.modesW

/-- The default of a scalar ID: the table's, and those a chapter states beside its table (R172, R233, R334). -/
def dfltOf (r : PRow) (id : Nat) : Int :=
  if r.id = Param.HSW_PWM_PHASE then ((45000 * (r.nth id + 1)) % 360000 : Nat)
  else if r.id = Param.DEM_SOURCE then nth 0 [0, 7, 9] (r.nth id)
  else if r.id = Param.PULSE_SOURCE then nth 1 [1, 3, 1] (r.nth id)
  else if r.id = Param.PULSE_CONST then nth 1000 [1000, 1000, 10000] (r.nth id)
  else if r.id = Param.PULSE_WIDTH then nth 30 [30, 30, 2] (r.nth id)
  else r.dflt

/-- A stored value by ID. -/
def assoc {α : Type} (l : List (Nat × α)) (id : Nat) : Option α := (l.find? (·.1 = id)).map Prod.snd

/-- Insert a value by ID in rising order, replacing one held. -/
def insertId {α : Type} : List (Nat × α) → Nat → α → List (Nat × α)
  | [], id, v => [(id, v)]
  | (k, w) :: r, id, v =>
    if id < k then (id, v) :: (k, w) :: r
    else if id = k then (id, v) :: r else (k, w) :: insertId r id v

/-- Remove an ID. -/
def eraseId {α : Type} (l : List (Nat × α)) (id : Nat) : List (Nat × α) := l.filter (·.1 ≠ id)

/-- The default of an ID; 0 for an ID the tables do not know. -/
def defaultNum (id : Nat) : Int := (rowOf id).elim 0 (dfltOf · id)

/-- The value in force of a writable scalar parameter. -/
def Dev.num (d : Dev) (id : Nat) : Int := (assoc d.par.nums id).getD (defaultNum id)

/-- The same as a natural number. -/
def Dev.nat (d : Dev) (id : Nat) : Nat := (d.num id).toNat

/-- Bytes of a run of equal little-endian words. -/
def leWords (n w : Nat) : List Byte := (List.replicate n (leBytes 4 w)).flatten

/-- The default of a block parameter, by its table (R146, R232, R234, R266, R315 with R337); zeros elsewhere, empty for
a text or a list of variable length. -/
def blockDefault (id : Nat) : List Byte :=
  if id = Param.AUX_SCAN then slice ((16#8) :: (List.range 16).map fun k => BitVec.ofNat 8 (k + 1)) 0 32
  else if id = Param.TARIFF_CAP then leWords 8 0xFFFFFFFF
  else if id = Param.GRID_CAP then leWords 3 0xFFFFFFFF
  else if id = Param.DISP_LIST then
    [4, 0, 0, 0, 1, 0, 0, 0, 1, 7, 1, 0, 6, 0, 2, 0, 5, 0, 3, 0] ++ List.replicate 168 0
  else if id = Param.PROFILE_USER ∨ id = Param.PROFILE_USER + 1 then List.replicate 32 0 ++ [1, 0, 0, 0]
  else
    match rowOf id with
    | some r => if r.ty = 0x40 then List.replicate r.len 0 else []
    | none => []

/-- The bytes in force of a writable block parameter: those stored, or its default. -/
def Dev.blk (d : Dev) (id : Nat) : List Byte := (assoc d.par.blocks id).getD (blockDefault id)

/-- Set a block parameter: a value equal to the default is not listed. -/
def Dev.setBlk (id : Nat) (v : List Byte) (d : Dev) : Dev :=
  { d with par := { d.par with
      blocks := if v = blockDefault id then eraseId d.par.blocks id else insertId d.par.blocks id v } }

/-- Set a scalar parameter: a value equal to the default is not listed. -/
def Dev.setNum (id : Nat) (v : Int) (d : Dev) : Dev :=
  { d with par := { d.par with
      nums := if v = defaultNum id then eraseId d.par.nums id else insertId d.par.nums id v } }

/-- A unit of UNIT_ENABLE is enabled (R65). -/
def Dev.unitOn (d : Dev) (k : Nat) : Bool := (d.nat Param.UNIT_ENABLE).testBit k

/-! Self-tests (R458, R459). -/

/-- SOURCE of a self-test's events: the position of its subject (R468). -/
def testSource (t : Nat) : Nat :=
  if t ≤ 2 then Src.metr else if t = 3 ∨ t = 9 then Src.vehicle else if t = 8 then Src.grid
  else if t = 10 ∨ t = 12 then Src.card else if 13 ≤ t ∧ t ≤ 17 then Src.serge else Src.own

/-- A run of self-test t ends (R459, R460): its last result, its bit, and the event where the bit changes. -/
def selftest (n t : Nat) (pass : Bool) (detail : Nat) (d : Dev) : Dev :=
  let was := d.diag.summary.getLsbD t
  let bit : Word := 1#32 <<< t
  let d := { d with diag := { d.diag with
    last := d.diag.last.set t (n, if pass then 0 else 1)
    summary := if pass then d.diag.summary &&& ~~~ bit else d.diag.summary ||| bit } }
  if was = !pass then d
  else if pass then d.raise (testSource t) Event.SELFTEST_PASSED (leBytes 1 t)
  else d.raise (testSource t) Event.SELFTEST_FAILED (leBytes 1 t ++ leBytes 4 detail)

/-- The vehicle modem works: enabled, its part loaded, its loop-back passed (R12, R58, R65, R458). -/
def vehModemUp (d : Dev) : Bool := d.unitOn 0 && !d.pow.badParts.getLsbD 1 && !d.diag.summary.getLsbD 9

/-- The crypto engine passes its known-answer tests (R12, R458). -/
def cryptoUp (d : Dev) : Bool := !d.diag.summary.getLsbD 5

end Sys2Proof.Machine
end

