-- ==== Sys2Proof/Machine/Identity.lean ====
section
/-!
DEFINITION. The identity of the module and of its active images (R119, R421, R422).
-/

namespace Sys2Proof.Machine

/-- Size of the signed part of a manifest (R421). -/
def manifestSigned : Nat := 0x200

/-- The entry of a part code in a manifest (R421, R422), if it lists the part. -/
def partIn (m : List Byte) (code : Nat) : Option (List Byte) :=
  ((List.range 5).map fun k => slice m (0x040 + 84 * k) 84).find? fun e => decide (fieldAt e 0 1 = code)

/-- The five part entries of a manifest over those of another set (R423). -/
def partsOver (m : List Byte) (old : List (List Byte)) : List (List Byte) :=
  (List.range 5).map fun k => (partIn m (k + 1)).getD (nth [] old k)

/-- The set as shipped. -/
def factorySet : Manifest := ⟨Config.factoryManifest, partsOver Config.factoryManifest []⟩

/-- The image set of a number; one that nothing has written yet is the set as shipped (log entry 6). -/
def imageSet (d : Dev) (k : Nat) : Manifest := ((if k = 0 then d.upd.set0 else d.upd.set1)).getD factorySet

/-- The active image set. -/
def activeSet (d : Dev) : Manifest := imageSet d d.upd.activeSet

/-- The set that the leading lane runs: during an activation the new one from its hand-over on (R428, R430). -/
def leadSet (d : Dev) : Manifest :=
  match d.upd.activation with
  | some a => if a.handed then imageSet d a.target else activeSet d
  | none => activeSet d

/-- The entry of a part of the set that the lead runs: 1 LANE, 2 METR, 3 NBPL, 4 BBPL, 5 NFCR. -/
def activePart (d : Dev) (code : Nat) : List Byte := nth [] (leadSet d).parts (code - 1)

/-- The version of a part (R119, R422). -/
def partVersion (d : Dev) (code : Nat) : Nat := fieldAt (activePart d code) 4 4

/-- METR_CHECK: the first 8 bytes of the digest of the METR part, the first byte most significant (R119, R469). -/
def metrCheck (d : Dev) : Nat := leNat (slice (activePart d 2) 20 8).reverse

/-- SW_IDENT, without its padding. -/
def swIdent (d : Dev) : List Byte := (slice (leadSet d).bytes 0x014 24).takeWhile (· ≠ 0)

/-- Window bytes 0x40 to 0x7F (R74): part number, serial number, five versions (log entry 26). -/
def identityBytes (d : Dev) : List Byte :=
  slice (asciiPad 24 "KM-7720" ++ slice Config.serialNumber 0 16 ++
    (List.range 5).flatMap fun k => leBytes 4 (partVersion d (k + 1))) 0 64

end Sys2Proof.Machine
end

