-- ==== Sys2Proof/Machine/Sampling.lean ====
section
/-!
DEFINITION. Sampling and decimation (chapter 05): the decimation chain, the sample word, supervision, syncs, changes
of channel mode, the auxiliary converter and the pilot sampler.
-/

namespace Sys2Proof.Machine

/-- Convergent rounding: s bits dropped, half to even (R130). -/
def cround (a : Int) (s : Nat) : Int :=
  let q := a / 2 ^ s
  let r := a % 2 ^ s
  let h : Int := 2 ^ (s - 1)
  if h < r ∨ (r = h ∧ q % 2 = 1) then q + 1 else q

/-- Clipping to ±m. -/
def clip (m v : Int) : Int := if m < v then m else if v < -m then -m else v

/-- One modulator bit through the four integrators (R130): +1 or −1, modulo 2⁴⁰. -/
def sincBit (one : Bool) (i : List (BitVec 40)) : List (BitVec 40) :=
  match i with
  | [a, b, c, e] =>
    let a := a + (if one then 1 else -1)
    let b := b + a
    let c := c + b
    [a, b, c, e + c]
  | l => l

/-- The four combs at one sinc⁴ output (R130). -/
def sincComb (v : BitVec 40) : List (BitVec 40) → BitVec 40 × List (BitVec 40)
  | [] => (v, [])
  | z :: zs =>
    let r := sincComb (v - z) zs
    (r.1, v :: r.2)

/-- Sixteen bits through the sinc⁴ stage: one output word, shifted left by 6 (R130). -/
def sincWord (bits : BitVec 512) (k : Nat) (d : Decim) : Int × Decim :=
  let i := (List.range 16).foldl (fun i j => sincBit (bits.getLsbD (16 * k + j)) i) d.integ
  let r := sincComb (nth 0 i 3) d.comb
  (r.1.toInt * 64, { d with integ := i, comb := r.2 })

/-- Taps of the half-band stages (R128). -/
def hbTaps : List Nat := [11, 15, 19, 31, 63]

/-- Non-zero coefficients of a half-band stage on one side of its centre, at the distances 1, 3, 5, … -/
def hbPairs (stage : Nat) : Nat := (nth 0 hbTaps stage + 1) / 4

/-- The 16-bit coefficients that hardware holds, not given (R130): a free constant. -/
def hbHeld (stage : Nat) : List Int := (List.range (hbPairs stage)).map fun j => (Config.halfBandTap stage j).toInt

/-- The whole impulse response of a half-band stage with the given coefficients, in units of 2⁻¹⁶. -/
def hbImpulse (h : List Int) : List Int :=
  let side := (h.flatMap fun c => [c, 0]).dropLast
  side.reverse ++ 2 ^ 15 :: side

/-- Convolution of two impulse responses. -/
def convolve (a : List Int) : List Int → List Int
  | [] => []
  | b :: bs =>
    let rest := 0 :: convolve a bs
    let here := a.map (· * b)
    (List.range (max here.length rest.length)).map fun k => nth 0 here k + nth 0 rest k

/-- An impulse response at a rate m times as high. -/
def spread (m : Nat) (h : List Int) : List Int := h.flatMap fun c => c :: List.replicate (m - 1) 0

/-- The impulse response from the sinc⁴ output to the output of half-band stage s (R130). -/
def hbCombined (coefs : Nat → List Int) : Nat → List Int
  | 0 => hbImpulse (coefs 0)
  | s + 1 => convolve (hbCombined coefs s) (spread (2 ^ (s + 1)) (hbImpulse (coefs (s + 1))))

/-- What R130 says of the coefficients: with the centre 2¹⁵ each stage sums to 2¹⁶, and the combined impulse response to any
stage output has an absolute sum below 1.5. -/
def hbSound (coefs : Nat → List Int) : Bool :=
  (List.range 5).all fun s => decide ((coefs s).foldl (· + ·) 0 = 2 ^ 14) &&
    decide (2 * (hbCombined coefs s).foldl (fun (acc : Nat) x => acc + x.natAbs) 0 < 3 * 2 ^ (16 * (s + 1)))

/-- Coefficients of a half-band stage by distance from the centre, 1, 3, 5, … (R130): those that hardware holds where they
are as R130 says; where the free constant is not, linear interpolation, which is (log entry 3). -/
def hbCoefs (stage : Nat) : List Int :=
  if hbSound hbHeld then hbHeld stage else 2 ^ 14 :: List.replicate (hbPairs stage - 1) 0

/-- The 40-bit accumulator of a half-band stage over its delay line, newest first (R130). -/
def hbAcc (stage : Nat) (line : List Int) : Int :=
  let c := (nth 0 hbTaps stage - 1) / 2
  let pairs := (hbCoefs stage).zipIdx.map fun p =>
    p.1 * (nth 0 line (c - (2 * p.2 + 1)) + nth 0 line (c + (2 * p.2 + 1)))
  (BitVec.ofInt 40 (nth 0 line c * 2 ^ 15 + pairs.foldl (· + ·) 0)).toInt

/-- A stage takes input words oldest first and answers every second one (R128). -/
def hbStage (stage : Nat) : List Int → List Int → List Int × List Int
  | line, a :: b :: rest =>
    let line := (b :: a :: line).take (nth 0 hbTaps stage)
    let r := hbStage stage line rest
    (cround (hbAcc stage line) 16 :: r.1, r.2)
  | line, _ => ([], line)

/-- The five half-band stages in turn. -/
def hbChain (lines : List (List Int)) (stage : Nat) : Nat → List Int → List Int × List (List Int)
  | 0, xs => (xs, lines)
  | fuel + 1, xs =>
    let r := hbStage stage (nth [] lines stage) xs
    hbChain (lines.set stage r.2) (stage + 1) fuel r.1

/-- The chain over the 512 bits of a frame: the stage 5 word (R128). -/
def chain (bits : BitVec 512) (d : Decim) : Int × Decim :=
  let r := (List.range 32).foldl (fun (acc : List Int × Decim) k =>
      let w := sincWord bits k acc.2
      (acc.1 ++ [w.1], w.2)) ([], d)
  let h := hbChain r.2.lines 0 5 r.1
  (nth 0 h.1 0, { r.2 with lines := h.2 })

/-- Full scale of SAMPLE (R131). -/
def sampleMax : Int := 8388607

/-- The leaky trapezoidal integrator (R133), a 40-bit register. -/
def integrate (leak scale : Nat) (x5 : Int) (d : Decim) : Int × Bool × Decim :=
  let y := BitVec.ofInt 40 (d.y.toInt - cround d.y.toInt leak + x5 + d.x5prev)
  let v := cround (y.toInt * scale) 16
  (clip sampleMax v, decide (clip sampleMax v ≠ v), { d with y := y, x5prev := x5 })

/-- The number of ones among the frame's bits. -/
def onesOf (bits : BitVec 512) : Nat := (List.range 512).countP fun k => bits.getLsbD k

/-- The longest run of identical bits among the frame's bits. -/
def longestRun (bits : BitVec 512) : Nat :=
  ((List.range 512).foldl (fun (acc : Nat × Nat × Bool) k =>
    let b := bits.getLsbD k
    let run := if k = 0 ∨ b ≠ acc.2.2 then 1 else acc.2.1 + 1
    (max acc.1 run, run, b)) (0, 0, false)).1

/-- The activity check of R127 fails. -/
def inactive (bits : BitVec 512) : Bool :=
  decide (48 ≤ longestRun bits ∨ onesOf bits * 100 < 3 * 512 ∨ 97 * 512 < onesOf bits * 100)

/-- A channel is off for a disabled unit (R65, R132). -/
def unitOff (d : Dev) (c : Nat) : Bool :=
  ((8 ≤ c && c ≤ 13) && !d.unitOn 8) || ((c == 15 || c == 16) && !d.unitOn 9) || (c == 17 && !d.unitOn 10)

/-- Samples a reset channel marks INT_SETTLE (R134). -/
def settleCount (ch : Chan) : Nat := if ch.integOn then 40 + 10 * 2 ^ ch.leak else 0

/-- A reset of a channel's decimator and integrator (R134, R136, R140). -/
def Chan.reset (ch : Chan) : Chan := { ch with dec := {}, fill := 40, settle := settleCount ch }

/-- Flags of the sample word (R132), VALID from the others. -/
def flagBits (fill settle ovr ovl mf scs off : Bool) : BitVec 8 :=
  let valid := !(fill || settle || ovl || mf || scs || off)
  BitVec.ofBool off ++ BitVec.ofBool scs ++ BitVec.ofBool mf ++ BitVec.ofBool ovl ++ BitVec.ofBool ovr ++
    BitVec.ofBool settle ++ BitVec.ofBool fill ++ BitVec.ofBool valid

/-- VALID of a channel's sample word. -/
def Chan.valid (ch : Chan) : Bool := ch.flags.getLsbD 0
/-- FILL. -/
def Chan.filling (ch : Chan) : Bool := ch.flags.getLsbD 1
/-- INT_SETTLE. -/
def Chan.settling (ch : Chan) : Bool := ch.flags.getLsbD 2
/-- OVER. -/
def Chan.overBit (ch : Chan) : Bool := ch.flags.getLsbD 3

/-- Supervision counts of R127 and R147 after a frame. -/
def superviseChan (bad ovr : Bool) (ch : Chan) : Chan :=
  { ch with
    badFrames := if bad then ch.badFrames + 1 else 0
    goodFrames := if bad then 0 else ch.goodFrames + 1
    overQuiet := if ovr then 0 else ch.overQuiet + 1 }

/-- One channel's frame: decimation, scaling, flags and supervision (R127 to R134, R139). The modulator of a channel that is
off or whose unit is disabled is supervised as any other (DESIGN CHOICE, log entry 150), and CH_DENSITY is rounded down to
10⁻⁴ (DESIGN CHOICE, log entry 151). -/
def sampleChan (off overload : Bool) (bits : BitVec 512) (ch : Chan) : Chan :=
  let ch := { ch with recent := (bits :: ch.recent).take 3 }
  let bad := inactive bits
  let ovl := if overload then 41 else ch.ovl - 1
  let mf := if bad then 41 else ch.modFault - 1
  let ch := { ch with ovl := ovl, modFault := mf, density := onesOf bits * 10000 / 512 }
  if off ∨ ch.mode = 0 then
    superviseChan bad false { ch with sample := 0, flags := flagBits false false false (decide (0 < ovl)) (decide (0 < mf)) false true }
  else if ch.mode = 2 then
    superviseChan bad false { ch with sample := 0, flags := flagBits false false false (decide (0 < ovl)) (decide (0 < mf)) true false }
  else
    let r := chain bits ch.dec
    let o := if ch.integOn then integrate ch.leak ch.scale r.1 r.2
      else (clip sampleMax (cround (r.1 * 100000) 16), false, { r.2 with x5prev := r.1 })
    let ovr := decide (5500000 ≤ o.1.natAbs)
    superviseChan bad ovr { ch with
      dec := o.2.2, sample := o.1,
      flags := flagBits (decide (0 < ch.fill)) (decide (0 < ch.settle)) ovr (decide (0 < ovl) || o.2.1)
        (decide (0 < mf)) false false,
      fill := ch.fill - 1, settle := ch.settle - 1 }

/-- The 18 channels at a tick (R19, R126), and the pilot word's NEW flags cleared for the frame (R144). -/
def sampleStep (f : FrameIn) (d : Dev) : Dev :=
  { d with samp := { d.samp with
      chans := d.samp.chans.zipIdx.map fun p =>
        sampleChan (unitOff d p.2) (f.overload.getLsbD p.2) (nth 0 f.bits p.2) p.1
      pilot := { d.samp.pilot with newPos := false, newNeg := false } } }

/-! Supervision rows. -/

/-- A main channel by its index. -/
def Dev.chan (d : Dev) (c : Nat) : Chan := nth {} d.samp.chans c

/-- Change a main channel. -/
def Dev.onChan (c : Nat) (f : Chan → Chan) (d : Dev) : Dev :=
  { d with samp := { d.samp with chans := updAt d.samp.chans c f } }

/-- CHANNEL_FAULT (R127): the start-up reference, or the activity check in 8 consecutive frames. -/
def channelFaultEff (c : Nat) (startup : Bool) (d : Dev) : Dev :=
  (d.onChan c fun ch => { ch with
    faulty := true, inactive := !startup, goodFrames := 0, faultCount := ch.faultCount + 1 }).raise Src.metr
    Event.CHANNEL_FAULT (leBytes 1 c ++ leBytes 1 (if startup then 0 else 1))

/-- The condition of CHANNEL_FAULT (R127): the references are converted before the first frame, and what they show stands
from frame m. -/
def channelFaultDue (t : Clk) (c : Nat) (startup : Bool) (d : Dev) : Bool :=
  decide (c < 18) && !(d.chan c).faulty &&
    (if startup then t.running && decide (t.frame = t.startFrame) else decide (8 ≤ (d.chan c).badFrames))

/-- CHANNEL_RESTORED is due (R127): 8,000 consecutive frames in which the check passes. -/
def channelRestoredDue (c : Nat) (d : Dev) : Bool :=
  decide (c < 18) && (d.chan c).faulty && decide (8000 ≤ (d.chan c).goodFrames)

/-- CHANNEL_RESTORED (R127). -/
def channelRestoredEff (c : Nat) (d : Dev) : Dev :=
  (d.onChan c fun ch => { ch with faulty := false, inactive := false }).raise Src.metr Event.CHANNEL_RESTORED (leBytes 1 c)

/-- CHANNEL_RESTORED. -/
def execChannelRestored (c : Nat) (s : State) : Out :=
  devStep s fun d => d.when (channelRestoredDue c d) (channelRestoredEff c)

/-- CHANNEL_OVERRANGE is due (R147): the first sample carrying OVER. -/
def overrangeDue (c : Nat) (d : Dev) : Bool := decide (c < 18) && (d.chan c).overBit && !(d.chan c).overOpen

/-- CHANNEL_OVERRANGE (R147): the episode opens and is counted. -/
def overrangeEff (c : Nat) (d : Dev) : Dev :=
  (d.onChan c fun ch => { ch with overOpen := true, overCount := ch.overCount + 1 }).raise Src.metr
    Event.CHANNEL_OVERRANGE (leBytes 1 c ++ leBytesInt 4 (d.chan c).sample.natAbs)

/-- CHANNEL_OVERRANGE. -/
def execChannelOverrange (c : Nat) (s : State) : Out :=
  devStep s fun d => d.when (overrangeDue c d) (overrangeEff c)

/-- OVERRANGE_END is due (R147): 8,000 frames without OVER. -/
def overrangeEndDue (c : Nat) (d : Dev) : Bool := (d.chan c).overOpen && decide (8000 ≤ (d.chan c).overQuiet)

/-- OVERRANGE_END (R147). -/
def overrangeEndEff (c : Nat) (d : Dev) : Dev := d.onChan c fun ch => { ch with overOpen := false }

/-- OVERRANGE_END. -/
def execOverrangeEnd (c : Nat) (s : State) : Out :=
  devStep s fun d => d.when (overrangeEndDue c d) (overrangeEndEff c)

/-! Syncs. -/

/-- Two syncs as one (R137): both sources, and FORCE if either carries it. -/
def SyncReq.merge (a b : SyncReq) : SyncReq :=
  { frame := a.frame, fromPin := a.fromPin || b.fromPin, fromHost := a.fromHost || b.fromHost,
    force := a.force || b.force }

/-- Add a sync decided in a frame: one of the same frame merges (R137). -/
def addSync (r : SyncReq) : List SyncReq → List SyncReq
  | [] => [r]
  | x :: xs => if x.frame = r.frame then x.merge r :: xs else x :: addSync r xs

/-- A sync is decided in frame n (R135), or merges into the pending one (R137). -/
def decideSync (n : Nat) (pin host force : Bool) (d : Dev) : Dev :=
  match d.samp.syncPend with
  | some p => { d with samp := { d.samp with syncPend := some (p.merge ⟨n, pin, host, force⟩) } }
  | none => { d with samp := { d.samp with syncs := addSync ⟨n, pin, host, force⟩ d.samp.syncs } }

/-- A sync is deferred at a tick (R137). -/
def defers (c : Clk) (d : Dev) (force : Bool) : Bool :=
  (decide (c.mode = .session ∨ c.mode = .degraded) && !force) || decide (d.pow.st = .hold)

/-- At the tick of frame d+2: a sync found in Session, Degraded or HOLD becomes pending (R137). -/
def deferSyncs (c : Clk) (d : Dev) : Dev :=
  match d.samp.syncs.find? (fun r => r.frame + 2 = c.frame && defers c d r.force) with
  | none => d
  | some r =>
    let rest := d.samp.syncs.filter (·.frame ≠ r.frame)
    let pend := match d.samp.syncPend with
      | some p => p.merge r
      | none => r
    let d' := { d with samp := { d.samp with syncs := rest, syncPend := some pend } }
    if d.samp.syncPend.isSome then d'
    else d'.raise Src.own Event.SYNC_DEFERRED (leBytes 1 (if d.pow.st = .hold then 1 else 0))

/-- SYNC_IN_EDGE acts (R135): the selected polarity, no chatter. -/
def syncEdgeActs (n : Nat) (rising : Bool) (d : Dev) : Bool :=
  decide (d.samp.syncIgnoreUntil ≤ n) &&
    decide (d.num Param.SYNC_IN_MODE = (if rising then 1 else 2))

/-- SYNC_IN_EDGE (R135): a sync is decided; while edges are ignored each edge begins the 100 ms again. -/
def execSyncInEdge (rising : Bool) (s : State) : Out :=
  devStep s fun d =>
    if d.samp.syncIgnoreUntil ≤ s.clk.frame then
      d.when (syncEdgeActs s.clk.frame rising d) (decideSync s.clk.frame true false false)
    else { d with samp := { d.samp with syncIgnoreUntil := s.clk.frame + ms 100 } }

/-- SYNC_IN_CHATTER (R135), with the edges of 100 ms: more than 20 are chatter, and edges are ignored until the land has
been stable for 100 ms. Edges that come while it is ignored begin the 100 ms again and are not logged. -/
def execSyncInChatter (edges : Nat) (s : State) : Out :=
  devStep s fun d => d.when (decide (20 < edges)) fun d =>
    let x := { d with samp := { d.samp with syncIgnoreUntil := s.clk.frame + ms 100 } }
    if d.samp.syncIgnoreUntil ≤ s.clk.frame then x.raise Src.serge Event.SYNC_IN_CHATTER [] else x

/-- The lanes write a sync request in frame n, the frame d+2 of a sync (R135). -/
def syncAsked (n : Nat) (d : Dev) : Bool := d.samp.syncs.any fun r => decide (r.frame + 2 = n)

/-- The sync whose reset falls at this tick (R135): SERGE resets both banks once it has latched the request, which a dispute
about it holds back (R25). -/
def syncDue (n : Nat) (d : Dev) : Option SyncReq :=
  if d.lanes.dispute.any Dispute.sync then none else d.samp.syncs.find? fun r => decide (r.frame + 3 ≤ n)

/-- The reset at the tick of frame d+3 (R135, R136): every decimator and integrator; SYNC_DONE. -/
def syncResetEff (n : Nat) (r : SyncReq) (d : Dev) : Dev :=
  ({ d with
    samp := { d.samp with
      chans := d.samp.chans.map Chan.reset
      syncs := d.samp.syncs.filter fun x => decide (n < x.frame + 3)
      syncCount := d.samp.syncCount + 1
      syncLast := n }
    ses := if r.force && d.ses.isOpen then
        { d.ses with syncs := d.ses.syncs + 1, flags := d.ses.flags ||| 0b100#32 } else d.ses }).raise Src.serge Event.SYNC_DONE
    (leBytes 1 ((if r.fromPin then 1 else 0) + (if r.fromHost then 2 else 0)) ++
      leBytes 1 (if r.force then 1 else 0) ++ leBytes 8 n)

/-- SYNC_RESET. -/
def execSyncReset (s : State) : Out :=
  devStep s fun d =>
    match syncDue s.clk.frame d with
    | some r => syncResetEff s.clk.frame r d
    | none => d

/-- SYNC_PENDING_REDECIDE (R137): the first tick that finds neither condition decides the pending sync again. -/
def execSyncPendingRedecide (s : State) : Out :=
  devStep s fun d =>
    match d.samp.syncPend with
    | some p =>
      if defers s.clk d p.force then d
      else { d with samp := { d.samp with
              syncPend := none, syncs := addSync { p with frame := s.clk.frame } d.samp.syncs } }
    | none => d

/-! Changes of channel mode. -/

/-- The insulation monitor operates UISO itself (R140). -/
def uisoOwned (d : Dev) (c : Nat) : Bool := decide (c = 17) && d.unitOn 10

/-- The channel takes its committed mode, gain and integrator at the tick of frame n, and is reset (R140). -/
def applyChanMode (n : Nat) (d : Dev) (c : Nat) (ch : Chan) : Chan :=
  let ch := { ch with
    mode := if uisoOwned d c then ch.mode else d.nat (Param.CH_MODE + 16 * c), modeAt := n, pga := d.nat (Param.CH_PGA + 16 * c),
    integOn := decide (d.nat (Param.CH_INTEG + 16 * c) = 1), leak := d.nat (Param.CH_INT_LEAK + 16 * c),
    scale := d.nat (Param.CH_INT_SCALE + 16 * c), changeAt := none }
  ch.reset

/-- A change waits and falls at this tick (R140). -/
def chanModeDue (n : Nat) (ch : Chan) : Bool :=
  match ch.changeAt with
  | some k => decide (n % 3 = 0) && decide (k < n)
  | none => false

/-- CHANNEL_MODE_EFFECT (R140). -/
def execChannelModeEffect (s : State) : Out :=
  devStep s fun d => { d with samp := { d.samp with
    chans := d.samp.chans.zipIdx.map fun p => if chanModeDue s.clk.frame p.1 then applyChanMode s.clk.frame d p.2 p.1 else p.1 } }

/-- RESULT of a single-cycle-settling conversion (R139): S × 32 ÷ 625 rounded to nearest. -/
def scsResultOf (sinc : Int) : Int := (64 * sinc + 625) / 1250

/-- Weight of a bit in a sinc³ output of ratio 500, by its place in the span of 1,498 bits (R139): three running sums of 500
in turn. -/
def sinc3Weight (j : Nat) : Int :=
  let pairs (k : Nat) : Int := k * (k + 1) / 2
  pairs (j + 1) - 3 * pairs (j + 1 - 500) + 3 * pairs (j + 1 - 1000)

/-- S, the sinc³ output over the 1,536 bits of a conversion, oldest bit lowest (R139): the filter is held in reset for the
first 38. It stays within 500³, which the 40-bit registers hold. -/
def sinc3Of (bits : BitVec 1536) : Int :=
  (List.range 1498).foldl (fun acc j => acc + (if bits.getLsbD (38 + j) then sinc3Weight j else -sinc3Weight j)) 0

/-- The 1,536 bits of the three latest frames, oldest bit lowest. -/
def Chan.threeFrames (ch : Chan) : BitVec 1536 := nth 0 ch.recent 0 ++ nth 0 ch.recent 1 ++ nth 0 ch.recent 2

/-- SCS_CONVERSION_DONE is due (R139, R140): a channel in SCS mode at a tick that is a multiple of 3, from the end of the
first conversion on, which starts at the first such tick after the mode took effect. -/
def scsDue (n c : Nat) (d : Dev) : Bool :=
  decide (c < 18) && decide ((d.chan c).mode = 2) && !unitOff d c && decide (n % 3 = 0) && decide ((d.chan c).modeAt + 3 < n)

/-- A conversion's result (R139, R140): of the bits of the three frames that end with the tick. -/
def scsEff (c : Nat) (d : Dev) : Dev := d.onChan c fun ch => { ch with scsResult := scsResultOf (sinc3Of ch.threeFrames) }

/-! The auxiliary converter. -/

/-- AUX_RESULT is due (R139, R141): the converter ends one conversion at every tick that is a multiple of 3. -/
def auxDue (t : Clk) (d : Dev) : Bool := t.running && decide (t.frame % 3 = 0) && decide (d.samp.auxAt + 3 ≤ t.frame)

/-- The place of an input code in AUX_RESULTS (R146): 0x01 to 0x10, then 0x20 and 0x21. -/
def auxIndex (code : Nat) : Option Nat :=
  if 1 ≤ code ∧ code ≤ 0x10 then some (code - 1)
  else if code = 0x20 then some 16 else if code = 0x21 then some 17 else none

/-- Reference windows (R142). -/
def refGood (r1 r2 : Int) : Bool := decide (r1.natAbs ≤ 2500) && decide ((r2 - 2000000).natAbs ≤ 4000)

/-- A reference conversion outside its window: faulty, all results invalid, logged once (R142). -/
def auxRefFault (d : Dev) : Dev :=
  let d' := { d with samp := { d.samp with
    auxFaulty := true, auxRefLogged := true, aux := d.samp.aux.map fun r => { r with valid := false } } }
  if d.samp.auxRefLogged then d'
  else d'.raise Src.metr Event.AUX_REF_FAULT (leBytesInt 4 d.samp.ref1 ++ leBytesInt 4 d.samp.ref2)

/-- One conversion of the auxiliary converter (R141, R142): the references open a pass, then the list is converted in
order; a committed list takes effect with the next pass. -/
def auxConvert (n : Nat) (bits : BitVec 1536) (scanParam : List Byte) (d : Dev) : Dev :=
  let v := scsResultOf (sinc3Of bits)
  let d := { d with samp := { d.samp with auxAt := n } }
  if d.samp.auxPos = 0 then
    let cnt := (scanParam.getD 0 0).toNat
    let d := { d with samp := { d.samp with
      ref1 := v, auxPos := 1, scan := ((scanParam.drop 1).take cnt).map BitVec.toNat } }
    if v.natAbs ≤ 2500 then d else auxRefFault d
  else if d.samp.auxPos = 1 then
    let d := { d with samp := { d.samp with ref2 := v, auxPos := 2 } }
    if refGood d.samp.ref1 v then { d with samp := { d.samp with auxFaulty := false, auxRefLogged := false } }
    else if (v - 2000000).natAbs ≤ 4000 then d else auxRefFault d
  else
    let k := d.samp.auxPos - 2
    let next := if k + 1 < d.samp.scan.length then d.samp.auxPos + 1 else 0
    match auxIndex (nth 0 d.samp.scan k) with
    | some j => { d with samp := { d.samp with
        auxPos := next, aux := d.samp.aux.set j ⟨v, n % 2 ^ 32, !d.samp.auxFaulty⟩ } }
    | none => { d with samp := { d.samp with auxPos := next } }

/-! The pilot sampler. -/

/-- The median of three conversions (R143). -/
def median3 (a b c : Int) : Int := max (min a b) (min (max a b) c)

/-- The pilot carries PWM. -/
def PilotWave.pwm : PilotWave → Bool
  | .hlc => true
  | .duty _ => true
  | _ => false

/-- Length of a plateau in units of 0.1 µs of the period of 1 ms (R143); without PWM the level is steady. -/
def PilotWave.plateau (positive : Bool) : PilotWave → Nat
  | .hlc => if positive then 500 else 9500
  | .duty k => if positive then k else 10000 - k
  | _ => 10000

/-- The plateau of a report (R143): positive or not, and its value, none where it was too short to convert. Without PWM there
are positive reports alone. -/
def plateauOf (wave : PilotWave) (p : Plateau) : Option (Bool × Option Int) :=
  match p.side with
  | none => none
  | some positive =>
    if !positive && !wave.pwm then none
    else some (positive, if wave.plateau positive < 200 then none else p.conv.map fun x => median3 x.1 x.2.1 x.2.2)

/-- The reference conversion of a report (R143): made in the period's fifth frame, read in the sixth. -/
def referenceOf (n : Nat) (p : Plateau) : Option Int := if n % 8 = 5 then p.refMv else none

/-- A report in the pilot word of frame n (R143, R144). What it brings was converted before the tick, so the plateau's period
is that of frame n − 1. SHORT stays until a plateau is converted again (DESIGN CHOICE, log entry 152). -/
def pilotWordOf (n : Nat) (wave : PilotWave) (p : Plateau) (w : PilotWord) : PilotWord :=
  let w := match plateauOf wave p with
    | none => w
    | some (positive, v) =>
      let w := { w with period := (n - 1) / 8 % 256, noPwm := !wave.pwm }
      match v, positive with
      | none, _ => { w with short := true }
      | some mv, true => { w with posMv := mv, newPos := true, short := false }
      | some mv, false => { w with negMv := mv, newNeg := true, short := false }
  { w with refFail := match referenceOf n p with
      | some r => decide (60 < (r - 9000).natAbs)
      | none => w.refFail }

end Sys2Proof.Machine
end

