-- ==== Sys2Proof/Machine/Flags.lean ====
section
/-!
DEFINITION. The integer arithmetic of metrology (chapter 06): rounding division, square root, angle, the fractional
delay, calibration, and the flags of a cycle.
-/

namespace Sys2Proof.Machine

/-- Division rounded half to even, the divisor positive: cround of R130 for any divisor. -/
def cdiv (a : Int) (b : Nat) : Int :=
  let q := a / b
  let r2 := 2 * (a % b)
  if (b : Int) < r2 ∨ (r2 = b ∧ q % 2 = 1) then q + 1 else q

/-- isqrt_round of chapter 06. -/
def isqrtRound (x : Nat) : Nat :=
  let r := Nat.sqrt x
  if r < x - r * r then r + 1 else r

/-- One in the fixed point of `atanFix`. -/
def fixOne : Int := 2 ^ 96

/-- Halving of an angle by its tangent: t to t ÷ (1 + √(1 + t²)). -/
def halfTan (t : Int) : Int :=
  let root := (Nat.sqrt (fixOne * fixOne + t * t).toNat : Int)
  t * fixOne / (fixOne + root)

/-- Terms of the arctangent series: Σ (−1)ᵏ t²ᵏ⁺¹ ÷ (2k+1). -/
def atanSeries (t2 : Int) : Nat → Nat → Int → Int
  | 0, _, _ => 0
  | fuel + 1, k, pw =>
    (if k % 2 = 0 then pw else -pw) / (2 * k + 1) + atanSeries t2 fuel (k + 1) (pw * t2 / fixOne)

/-- Arctangent of t in [0, 1]: four halvings, then the series. -/
def atanFix (t : Int) : Int :=
  let h := halfTan (halfTan (halfTan (halfTan t)))
  16 * atanSeries (h * h / fixOne) 16 0 h

/-- π in the same fixed point. -/
def piFix : Int := 4 * atanFix fixOne

/-- The angle of the first octants, for y and x not negative and not both 0. -/
def atanQuadrant (y x : Nat) : Int :=
  if y ≤ x then atanFix (y * fixOne / x) else piFix / 2 - atanFix (x * fixOne / y)

/-- atan2 in milli-degrees, in (−180,000, 180,000], rounded to nearest (chapter 06); 0 for two zeros. -/
def atan2md (y x : Int) : Int :=
  if y = 0 ∧ x = 0 then 0
  else
    let a := atanQuadrant y.natAbs x.natAbs
    let a := if 0 ≤ x then a else piFix - a
    let m := cdiv (a * 180000) piFix.toNat
    if 0 ≤ y then m else if m = 180000 then 180000 else -m

/-- τ of R149 in 2⁻³⁰ frame: 4 + 200 φ ÷ (9 f), clamped to 1 to 7. -/
def tauOf (phi : Int) (f : Nat) : Int :=
  let t := 4 * 2 ^ 30 + (if f = 0 then 0 else cdiv (200 * phi * 2 ^ 30) (9 * f))
  max (2 ^ 30) (min (7 * 2 ^ 30) t)

/-- The first tap b of R149. -/
def tapBase (tau : Int) : Nat := min (max (tau / 2 ^ 30 - 1) 0) 4 |>.toNat

/-- The four Lagrange coefficients in Q30 (R149). -/
def lagrange (tau : Int) : List Int :=
  let p := tau - tapBase tau * 2 ^ 30
  let o : Int := 2 ^ 30
  let d : Nat := 2 ^ 60
  [cdiv (-((p - o) * (p - 2 * o) * (p - 3 * o))) (6 * d), cdiv (p * (p - 2 * o) * (p - 3 * o)) (2 * d),
   cdiv (-(p * (p - o) * (p - 3 * o))) (2 * d), cdiv (p * (p - o) * (p - 2 * o)) (6 * d)]

/-- The interpolator's output over the eight samples held (R149). -/
def interpolate (tau : Int) (line : List (Int × BitVec 8)) : Int :=
  let b := tapBase tau
  let terms := (lagrange tau).zipIdx.map fun h => h.1 * (nth (0, 0) line (b + h.2)).1
  cround (terms.foldl (· + ·) 0) 30

/-- The flags of those of the four taps whose VALID is clear, together (R161); 0 when all four carry VALID. A sample
that no frame has read yet counts as FILL. -/
def tapFlags (tau : Int) (line : List (Int × BitVec 8)) : BitVec 8 :=
  (List.range 4).foldl (fun acc k =>
    let f := (nth (0, 2) line (tapBase tau + k)).2
    if f.getLsbD 0 then acc else acc ||| (if f = 0 then 2 else f)) 0

/-- Calibration (R150): offset, scale and gain, polarity. -/
def calibrate (x offset : Int) (scale : Nat) (gain gT : Int) (inverted : Bool) : Int :=
  let gq := 2 ^ 30 + cdiv ((gain + gT) * 2 ^ 30) 1000000
  let y := cround ((x - offset) * scale * gq) 50
  if inverted then -y else y

/-- A correction of the temperature table at T in 0.01 °C (R151): field 0 gain, 1 phase. -/
def tableTerm (table : List Byte) (field : Nat) (temp : Int) : Int :=
  let u := (max 0 (min 16000 (temp + 4000))).toNat
  let k := min (u / 500) 31
  let w := u - 500 * k
  let pt (j : Nat) := leInt 2 (slice table (4 * j + 2 * field) 2)
  pt k + cdiv ((pt (k + 1) - pt k) * w) 500

/-- The divisor of R153: pW to 2⁻³² mWh in one frame. -/
def energyDiv : Nat := 28800000000000000

/-- Energy of a frame at a power in pW, in 2⁻³² mWh (R153). -/
def energyOf (p : Int) : Int := cdiv (p * 2 ^ 32) energyDiv

/-- CYCLE_FLAGS (R174): VALID, STALE, LOW_I, NO_LOAD; 0 while not metered. -/
def cycleFlags (ph : Phase) (noLoad : Bool) : Nat :=
  if ph.metered then
    (if ph.valid && !ph.wait then 1 else 0) + (if ph.stale then 2 else 0) + (if ph.lowI then 4 else 0) + (if noLoad then 8 else 0)
  else 0

/-- PF (R159): P ÷ S in 10⁻⁴, 0 when S is 0. -/
def pfOf (p s : Int) : Int := if s = 0 then 0 else cdiv (p * 10000) s.toNat

end Sys2Proof.Machine
end

