-- ==== Sys2Proof/Machine/Ledger.lean ====
section
/-!
DEFINITION. The ledger (chapter 07): booking, the gap log, delta records, checkpoints with their chain, recovery, and
the body of a session record.
-/

namespace Sys2Proof.Machine

/-! Registers. -/

/-- Book an energy into one family (R177): its total and the tariff register of the tariff in force. -/
def Fam.book (tariff e : Nat) (f : Fam) : Fam :=
  { f with total := f.total + e, tariffs := updAt f.tariffs (tariff - 1) (· + e) }

/-- Book an energy into family k at the tariff in force (R177). -/
def Regs.book (r : Regs) (k e : Nat) : Regs := { r with fams := updAt r.fams k (Fam.book r.tariff e) }

/-- Book a list of energies by family. -/
def Regs.bookAll (r : Regs) (es : List (Nat × Nat)) : Regs := es.foldl (fun r x => r.book x.1 x.2) r

/-- Add to secondary registers (R178). -/
def Regs.bookSecondary (r : Regs) (es : List (Nat × Nat)) : Regs :=
  { r with secondary := es.foldl (fun l x => updAt l x.1 (· + x.2)) r.secondary }

/-- The tariff in force is one of T1 to T8 (R216). -/
def tariffHeld (t : Nat) : Nat := max 1 (min 8 t)

/-- The total of a family, 2⁻³² mWh. -/
def Regs.total (r : Regs) (k : Nat) : Nat := (nth {} r.fams k).total

/-- A reading of 12 bytes (R197): u64 mWh, u32 residue. -/
def readingBytes (e : Nat) : List Byte := leBytes 8 (e / 2 ^ 32) ++ leBytes 4 (e % 2 ^ 32)

/-- A family at checkpoint offset 0x040 (R188): total, T1 to T8, estimated. -/
def famBytes (f : Fam) : List Byte :=
  readingBytes f.total ++ (f.tariffs.flatMap readingBytes) ++ readingBytes f.est

/-- The tariff registers sum to the total (R177). -/
def Fam.sumOk (f : Fam) : Bool := decide (f.tariffs.length = 8) && decide (f.tariffs.foldl (· + ·) 0 = f.total)

/-! The gap log. -/

/-- An entry of the gap log (R195), with GAP_LOGGED. -/
def addGap (g : Gap) (d : Dev) : Dev :=
  ({ d with led := { d.led with gaps := lastN 1024 (d.led.gaps ++ [g]), gapCount := d.led.gapCount + 1 } }).raise
    Src.metr Event.GAP_LOGGED (leBytes 1 g.kind ++ leBytes 4 g.duration)

/-- The 32 bytes of a gap log entry (R195). -/
def gapBytes (g : Gap) : List Byte :=
  leBytes 8 g.frame ++ leBytes 4 g.from_ ++ leBytes 4 g.until_ ++ leBytes 4 g.startMs ++ leBytes 1 g.kind ++
    leBytes 1 g.side ++ [0, 0] ++ leBytes 8 g.duration

/-! Delta records and checkpoints. -/

/-- The accumulators of a delta record (R184). -/
def accOf (d : Dev) : List Int :=
  [d.metr.grid.accA, d.metr.grid.accB, d.metr.outlet.accA, d.metr.dcs.acc]

/-- The 13 secondary accumulators of a checkpoint (R188). -/
def secAccOf (d : Dev) : List Int :=
  (d.metr.grid.phases.map Phase.accA) ++ (d.metr.grid.phases.map Phase.accB) ++
    (d.metr.outlet.phases.map Phase.accA) ++ (d.metr.outlet.phases.map Phase.accB) ++ [d.metr.outlet.accB]

/-- Growth of each family since the base (R184). -/
def incOf (r : Regs) (b : Ckpt) : List Nat :=
  (List.range 11).map fun k => r.total k - (nth {} b.fams k).total

/-- Pulses emitted since the base (R184). -/
def pulseIncOf (d : Dev) : List Nat :=
  (List.range 3).map fun j => (nth {} d.metr.pulses j).emitted - (nth (0, 0) d.led.base.pulses j).2

/-- A lane that computes its frame (R19, R32, R428). -/
def computes (r : LaneRec) : Bool := decide (r.st = .lead ∨ r.st = .follow ∨ r.st = .probation ∨ r.st = .trial)

/-- FLAGS of a delta record as the frame stands (R185). -/
def flagsNow (d : Dev) : Nat :=
  (if d.ses.isOpen then 1 else 0) + (if d.pow.st = .hold then 2 else 0) +
    (if (computes d.lanes.a || d.lanes.a.wrote) && (computes d.lanes.b || d.lanes.b.wrote) then 0 else 4) +
    (if d.lanes.dispute.any Dispute.compare then 8 else 0) +
    (if d.lanes.acting = some .b then 16 else 0) + (if d.pow.finalSeq.isSome then 32 else 0) +
    (if d.tar.status = 2 then 64 else 0)

/-- A stop keeps the FLAGS of its frame, which is committed as it stood; SESSION is as the stop leaves it (R185). -/
def holdFlags (d : Dev) : Dev :=
  if d.led.uncommitted then { d with led := { d.led with flagsHeld := some (flagsNow d / 2 * 2) } } else d

/-- FLAGS of the delta record of the frame (R185). -/
def deltaFlags (d : Dev) : Nat :=
  match d.led.flagsHeld with
  | some f => f + (if d.ses.isOpen then 1 else 0)
  | none => flagsNow d

/-- The 128 bytes of a delta record (R184). -/
def deltaBytes (x : Delta) : List Byte :=
  let body := slice (leBytes 8 x.frame ++ leBytes 4 x.baseSeq ++ leBytes 1 x.tariff ++ leBytes 1 x.flags ++ leBytes 1 x.mode ++
    leBytes 1 x.est ++ slice (x.inc.flatMap (leBytes 6)) 0 66 ++ slice (x.acc.flatMap (leBytesInt 6)) 0 24 ++
    slice (x.pulseInc.flatMap (leBytes 1)) 0 3 ++ [0, 0, 0] ++ leBytes 8 x.otherVoid) 0 120
  body ++ leBytes 8 (crc64 body).toNat

/-- The delta record of the frame that runs (R184); `other` is the lane whose array does not hold it. -/
def deltaOf (s : State) (other : Lane) : Delta :=
  { frame := s.clk.frame, baseSeq := s.dev.led.base.seq, tariff := s.regs.tariff, flags := deltaFlags s.dev,
    mode := s.clk.mode.code, est := s.dev.led.est.toNat, inc := incOf s.regs s.dev.led.base, acc := accOf s.dev,
    pulseInc := pulseIncOf s.dev, otherVoid := (s.dev.lanes.get other).voidFrom.getD 0 }

/-- The side of a family: 0 grid, 1 outlet AC, 2 DC (R176). -/
def famSide (k : Nat) : Nat := if k ≤ 6 then 0 else if k ≤ 8 then 1 else 2

/-- Advance the estimated sub-registers of the sides that EST marks by the growth since the base (R186). -/
def advanceEst (est : BitVec 6) (base : Ckpt) (fams : List Fam) : List Fam :=
  fams.zipIdx.map fun x =>
    if est.getLsbD (famSide x.2) then
      { x.1 with est := x.1.est + (x.1.total - (nth {} base.fams x.2).total) } else x.1

/-- AUTH_MEANS, AUTH_ID_LEN and AUTH_ID of a record body (R197). -/
def authBytes (a : Option Auth) : List Byte :=
  match a with
  | some x => leBytes 1 x.means ++ leBytes 1 (min 40 x.id.length) ++ [0, 0] ++ slice x.id 0 40
  | none => List.replicate 44 0

/-- The tariff, demand and billing state of a checkpoint (R225). -/
def tarCkOf (s : State) : TarCk :=
  let t := s.dev.tar
  { tn := t.rtc * 32768 + t.sub, tariff := t.nextTariff, status := t.status, armed := t.armed, dst := t.dst,
    pendingCause := (t.billPending.map Prod.fst).getD 0, billLast := t.billLast, billCount := t.billCount,
    demands := t.demands, activeCheck := t.activeCheck }

/-- A demand register in a checkpoint (R225): 216 bytes. -/
def demandBytes (x : Demand) : List Byte :=
  leBytes 4 x.start ++ leBytes 4 x.lastEnd ++ leBytes 1 (if x.short then 1 else 0) ++ leBytes 1 x.subIndex ++ [0, 0] ++
    readingBytes x.base ++ slice (x.subs.flatMap fun y => leBytes 8 y.1) 0 120 ++
    x.maxima.flatMap fun y => leBytes 4 y.1 ++ leBytes 4 y.2

/-- The 1,024 bytes of R225. -/
def tarCkBytes (t : TarCk) : List Byte :=
  slice (leBytes 8 t.tn ++ leBytes 1 t.tariff ++ leBytes 1 t.status ++
    leBytes 1 ((if t.armed.isSome then 1 else 0) + (if t.dst then 2 else 0) + (if t.pendingCause ≠ 0 then 4 else 0)) ++
    leBytes 1 t.pendingCause ++ leBytes 4 (t.armed.getD 0) ++ leBytes 4 t.billLast ++ leBytes 4 t.billCount ++
    (t.demands.flatMap demandBytes) ++ leBytes 8 t.activeCheck) 0 1024

/-- Load-switch latches of a checkpoint (R188): latched, and the cause of the last protection off, of HSW1 to HSW8 and of
the bridge. -/
def latchesOf (d : Dev) : List (Bool × Nat) :=
  (d.sw.ch.map fun h => (h.latched, h.cause)) ++ [(d.sw.lockLatched, d.sw.lockCause)]

/-- The latch area of a checkpoint (R188). -/
def latchBytes (l : List (Bool × Nat)) : List Byte :=
  leBytes 2 (l.zipIdx.foldl (fun m x => if x.1.1 then m + 2 ^ x.2 else m) 0) ++ [0, 0] ++
    l.flatMap (fun x => leBytes 1 x.2) ++ [0, 0, 0]

/-- The session area of a checkpoint (R188): open session number, record slot, outlet, authorisation state; the order of
its fields is the model's (log entry 22). -/
def sessionBytes (c : Ckpt) : List Byte :=
  slice (leBytes 4 c.session ++ leBytes 2 ((c.session - 1) % 512) ++ leBytes 1 c.sesKind ++ leBytes 1 c.sesState ++
    c.sesAuth) 0 256

/-- Bytes 0x000 to 0xFD7 of a checkpoint (R188). Areas whose inner layout no rule gives hold the values the model
keeps (log entry 22). -/
def ckptBytes (c : Ckpt) : List Byte :=
  slice (leBytes 4 0x504B4843 ++ leBytes 2 1 ++ [0, 0] ++ leBytes 8 c.frame ++ leBytes 4 c.seq ++
    leBytes 1 c.tariff ++ leBytes 1 c.mode ++ leBytes 1 c.est ++ [0] ++ leBytes 4 c.rtc ++ leBytes 4 c.causes ++
    leBytes 32 c.prevChain.toNat ++ (c.fams.flatMap famBytes) ++ (c.acc.flatMap (leBytesInt 8)) ++
    (c.secondary.flatMap readingBytes) ++ (c.secAcc.flatMap (leBytesInt 8)) ++
    slice (c.pulses.flatMap fun p => readingBytes p.1 ++ leBytes 8 p.2) 0 60 ++
    sessionBytes c ++ slice (c.counters.flatMap fun p => leBytes 4 p.2) 0 512 ++
    tarCkBytes c.tar ++ latchBytes c.latches) 0 0xFD8

/-- The chain before the first checkpoint (R189). -/
def genesis : BitVec 256 := Config.shake256x32 ((asciiPad 14 "KM-7720 ledger") ++ Config.serialNumber)

/-- CHAIN_VALUE: the chain of the latest checkpoint (R189). -/
def chainOf (c : Ckpt) : BitVec 256 := if c.seq = 0 then genesis else c.chain

/-- The 4,096 bytes of a checkpoint (R188): its body, CHECK over the body and CHAIN, and CHAIN. -/
def ckptImage (c : Ckpt) : List Byte :=
  let chain := leBytes 32 (chainOf c).toNat
  ckptBytes c ++ leBytes 8 (crc64 (ckptBytes c ++ chain)).toNat ++ chain

/-- The checkpoint of the frame that runs, its estimated sub-registers advanced (R186 to R189). -/
def ckptOf (counters : List (Nat × Nat)) (s : State) : Ckpt :=
  let b := s.dev.led.base
  let c : Ckpt :=
    { seq := b.seq + 1, frame := s.clk.frame, tariff := s.regs.tariff, mode := s.clk.mode.code,
      flags := deltaFlags s.dev, est := s.dev.led.est.toNat, rtc := s.dev.tar.rtc, causes := s.dev.led.due.toNat,
      prevChain := chainOf b, fams := advanceEst s.dev.led.est b s.regs.fams, acc := accOf s.dev,
      secondary := s.regs.secondary, secAcc := secAccOf s.dev,
      pulses := s.dev.metr.pulses.map fun p => (p.energy, p.emitted),
      session := if s.dev.ses.isOpen then s.dev.ses.number else 0, sesKind := s.dev.nat Param.OUTLET_KIND,
      sesState := s.dev.ses.st, sesAuth := authBytes s.dev.ses.auth, counters := counters, tar := tarCkOf s,
      latches := latchesOf s.dev }
  { c with chain := Config.shake256x32 (ckptBytes c) }

/-- A lane writes its array in a frame: it follows, leads, proves itself, follows the commits after its array was
rebuilt, or had written when it was faulted (R19, R32). -/
def laneWrites (d : Dev) (l : Lane) : Bool :=
  let r := d.lanes.get l
  !r.mramLost && (r.wrote || decide (r.st = .follow ∨ r.st = .lead ∨ r.st = .probation ∨ r.st = .trial) ||
    (decide (r.st = .resync) && decide (r.repair ≠ some .rebuildArray)))

/-- A copy of an array for the other lane (R32, R193), under the header of the array it is written to (R180): what the
records void is the other lane's, so a copy voids nothing. -/
def Mram.clonedTo (x own : Mram) : Mram :=
  { header := own.header, deltas := x.deltas.map fun dl => { dl with otherVoid := 0 }, ckpts := x.ckpts }

/-- The records of an array before frame v; all of them for v = 0 (R27, R191). -/
def Mram.before (v : Nat) (x : Mram) : Mram :=
  if v = 0 then x
  else { x with deltas := x.deltas.filter fun dl => decide (dl.frame < v)
                ckpts := x.ckpts.filter fun c => decide (c.frame < v) }

/-- The delta slot of a frame and the checkpoint slot of a sequence number (R181). -/
def deltaSlot (n : Nat) : Nat := n % 8192
/-- The slot of a checkpoint. -/
def ckptSlot (q : Nat) : Nat := q % 64

/-- An array after the commit of a frame (R181): the delta record and a checkpoint overwrite what stood in their slots. -/
def Mram.commit (x : Mram) (dl : Delta) (c : Option Ckpt) : Mram :=
  { x with
    deltas := dl :: x.deltas.filter fun y => decide (deltaSlot y.frame ≠ deltaSlot dl.frame)
    ckpts := match c with
      | some c => c :: x.ckpts.filter fun y => decide (ckptSlot y.seq ≠ ckptSlot c.seq)
      | none => x.ckpts }

/-- The areas of an MRAM array (R180). -/
inductive MramArea where
  | header | deltas | ckpts | bodies | profiles | reserved | general | metr | durable | gaps | params | billing | spare
  deriving DecidableEq, Repr

/-- First address and size of an area (R180). -/
def mramArea : MramArea → Nat × Nat
  | .header => (0x000000, 0x1000) | .deltas => (0x001000, 0x100000) | .ckpts => (0x101000, 0x40000)
  | .bodies => (0x141000, 0x80000) | .profiles => (0x1C1000, 0x87000) | .reserved => (0x248000, 0x87000)
  | .general => (0x2CF000, 0x20000) | .metr => (0x2EF000, 0x8000) | .durable => (0x2F7000, 0x1000)
  | .gaps => (0x2F8000, 0x8000) | .params => (0x300000, 0x40000) | .billing => (0x340000, 0x20000)
  | .spare => (0x360000, 0xA0000)

/-- The address of the delta record of frame n and of checkpoint q in an array (R180, R181). -/
def deltaAddr (n : Nat) : Nat := (mramArea .deltas).1 + 128 * deltaSlot n
/-- The address of a checkpoint. -/
def ckptAddr (q : Nat) : Nat := (mramArea .ckpts).1 + 4096 * ckptSlot q
/-- The address of a record body (R180, R196). -/
def bodyAddr (number : Nat) : Nat := (mramArea .bodies).1 + 1024 * ((number - 1) % 512)

/-- Splice the readings of a checkpoint into record bodies that its frame started or ended (R196, R197). -/
def recordFams (dcOutlet : Bool) (fams : List Fam) : List Fam :=
  [nth {} fams (if dcOutlet then 9 else 7), nth {} fams (if dcOutlet then 10 else 8), nth {} fams 0, nth {} fams 1]

/-- OUTLET_KIND of a body is DC (R197). -/
def bodyDc (body : List Byte) : Bool := decide (fieldAt body 0x0C 1 = 1)

/-- The start fields that the start frame's checkpoint gives (R196). -/
def startBody (c : Ckpt) (r : Record) : Record :=
  let fs := recordFams (bodyDc r.body) c.fams
  let b := splice r.body 0x0A0 (fs.flatMap fun f => readingBytes f.total)
  let b := splice b 0x1F8 (leBytes 4 c.seq)
  let b := splice b 0x200 (leBytes 32 c.chain.toNat)
  let b := if bodyDc r.body then b
    else splice b 0x240 ((List.range 4).flatMap fun q => readingBytes (nth 0 c.secondary (42 + q)))
  { r with body := b, startFams := fs }

/-- The end fields that the end frame's checkpoint gives, and BODY_HASH (R197). -/
def endBody (c : Ckpt) (r : Record) : Record :=
  let fs := recordFams (bodyDc r.body) c.fams
  let split (k : Nat) := (List.range 8).flatMap fun t =>
    readingBytes (nth 0 (nth {} fs k).tariffs t - nth 0 (nth {} r.startFams k).tariffs t)
  let est (k : Nat) := ((nth {} fs k).est - (nth {} r.startFams k).est + ((nth {} fs (k + 1)).est -
    (nth {} r.startFams (k + 1)).est)) / 2 ^ 32
  let b := splice r.body 0x0D0 (fs.flatMap fun f => readingBytes f.total)
  let b := splice b 0x100 (split 0 ++ split 1)
  let b := splice b 0x1C0 (leBytes 8 (est 0) ++ leBytes 8 (est 2))
  let b := splice b 0x1FC (leBytes 4 c.seq)
  let b := splice b 0x220 (leBytes 32 c.chain.toNat)
  let b := if bodyDc r.body then b
    else splice b 0x270 ((List.range 4).flatMap fun q => readingBytes (nth 0 c.secondary (42 + q)))
  { r with body := splice b 0x3C0 (leBytes 32 (Config.shake256x32 (b.take 0x3C0)).toNat) }

/-- A record as it is stored and read (R197): its body with the CHECK over bytes 0x000 to 0x3EF. -/
def recordImage (r : Record) : List Byte :=
  let body := slice r.body 0 0x3F0
  body ++ leBytes 8 (crc64 body).toNat ++ List.replicate 8 0

/-- Change one record. -/
def onRecord (num : Nat) (f : Record → Record) (d : Dev) : Dev :=
  { d with led := { d.led with records := d.led.records.map fun r => if r.number = num then f r else r } }

/-- A billing snapshot that a close has formed takes its readings and the chain from the checkpoint of the close frame, or
of frame m for a close that a start-up repeated (R219, R224). -/
def snapReadings (c : Ckpt) (d : Dev) : Dev :=
  { d with tar := { d.tar with snaps := d.tar.snaps.map fun x =>
      if x.fams.isEmpty then { x with fams := c.fams, chain := c.chain } else x } }

/-- Commit of the frame that ran (R184 to R190): the delta record, and where a cause named it the checkpoint, which
becomes the base. -/
def commitFrame (counters : List (Nat × Nat)) (s : State) : State :=
  if s.dev.led.uncommitted then
    let c := if s.dev.led.due = 0 then none else some (ckptOf counters s)
    let put (l : Lane) (x : Mram) := if laneWrites s.dev l then x.commit (deltaOf s (laneOther l)) c else x
    let led := { s.dev.led with
      arrayA := put .a s.dev.led.arrayA, arrayB := put .b s.dev.led.arrayB, uncommitted := false, flagsHeld := none }
    match c with
    | none => { s with dev := { s.dev with led := led } }
    | some c =>
      let d := { s.dev with led := { led with base := c, est := 0, due := 0, startMark := none, endMark := none } }
      let d := match s.dev.led.startMark with
        | some k => onRecord k (startBody c) d
        | none => d
      let d := match s.dev.led.endMark with
        | some k => onRecord k (endBody c) d
        | none => d
      { s with regs := { s.regs with fams := c.fams }, dev := snapReadings c d }
  else s

/-! Recovery. -/

/-- A checkpoint that recovery may use (R191): every family's tariff registers sum to its total. -/
def Ckpt.good (c : Ckpt) : Bool := decide (c.fams.length = 11) && c.fams.all Fam.sumOk

/-- Checkpoints of an array that recovery may use. -/
def Mram.goodCkpts (x : Mram) : List Ckpt := x.ckpts.filter Ckpt.good

/-- Delta records of an array that recovery may use (R191). -/
def Mram.goodDeltas (x : Mram) : List Delta :=
  x.deltas.filter fun dl =>
    decide (1 ≤ dl.tariff ∧ dl.tariff ≤ 8) && (x.goodCkpts.any fun c => decide (c.seq = dl.baseSeq))

/-- The entries of an array that recovery may use; none of one that does not answer (R191). -/
def Mram.usable (answers : Bool) (x : Mram) : Mram :=
  if answers then { x with deltas := x.goodDeltas, ckpts := x.goodCkpts } else { x with deltas := [], ckpts := [] }

/-- The first frame from which the records of an array void the other's; 0 for none (R184, R191). -/
def Mram.voids (x : Mram) : Nat := x.deltas.foldl (fun m dl => max m dl.otherVoid) 0

/-- The entries of both arrays that are left to choose from (R191): A's are removed by B's records, then B's by what is
left of A's. -/
def usableArrays (aOk bOk : Bool) (x : Led) : Mram × Mram :=
  let b := x.arrayB.usable bOk
  let a := (x.arrayA.usable aOk).before b.voids
  (a, b.before a.voids)

/-- An entry that recovery may choose: its array, its checkpoint, and a delta record on top of it. -/
structure Choice where
  lane : Lane
  ckpt : Ckpt
  delta : Option Delta
  deriving DecidableEq, Repr

/-- Frame of an entry. -/
def Choice.frame (x : Choice) : Nat := (x.delta.map Delta.frame).getD x.ckpt.frame

/-- FLAGS of an entry. -/
def Choice.flags (x : Choice) : Nat := (x.delta.map Delta.flags).getD x.ckpt.flags

/-- Entries of an array. -/
def choicesOf (l : Lane) (x : Mram) : List Choice :=
  (x.ckpts.map fun c => ⟨l, c, none⟩) ++
    (x.deltas.filterMap fun dl => (x.ckpts.find? fun c => decide (c.seq = dl.baseSeq)).map fun c => ⟨l, c, some dl⟩)

/-- An entry is preferred to another (R191): larger frame; a checkpoint before a delta; the array of the lane named
lead; array A. -/
def Choice.before (x y : Choice) : Bool :=
  let leads (z : Choice) : Bool := decide (z.lane = (if z.flags.testBit 4 then .b else .a))
  if x.frame ≠ y.frame then decide (y.frame < x.frame)
  else if x.delta.isNone ≠ y.delta.isNone then x.delta.isNone
  else if leads x ≠ leads y then leads x else decide (x.lane = .a)

/-- The entry that recovery chooses. -/
def bestChoice : List Choice → Option Choice
  | [] => none
  | x :: xs =>
    match bestChoice xs with
    | none => some x
    | some y => if y.before x then some y else some x

/-- The families that an entry gives (R191). -/
def Choice.fams (x : Choice) : List Fam :=
  match x.delta with
  | none => x.ckpt.fams
  | some dl => x.ckpt.fams.zipIdx.map fun f =>
      let e := nth 0 dl.inc f.2
      let g := f.1.book dl.tariff e
      if dl.est.testBit (famSide f.2) then { g with est := g.est + e } else g

/-- The registers that an entry gives: secondary registers are those of the checkpoint (R178). -/
def Choice.regs (x : Choice) : Regs :=
  { fams := x.fams, secondary := x.ckpt.secondary, tariff := tariffHeld x.ckpt.tar.tariff }

/-- Recovery over the arrays that answer (R191). -/
def recoverChoice (aOk bOk : Bool) (d : Dev) : Option Choice :=
  let x := usableArrays aOk bOk d.led
  bestChoice (choicesOf .a x.1 ++ choicesOf .b x.2)

/-- The arrays without the records that a start-up finds bad (R183, R190, R191). -/
def dropBad (bad : List BadRecord) (d : Dev) : Dev :=
  let keep (l : Lane) (x : Mram) : Mram := { x with
    deltas := x.deltas.filter fun dl => !bad.contains ⟨l, false, dl.frame⟩
    ckpts := x.ckpts.filter fun c => !bad.contains ⟨l, true, c.seq⟩ }
  { d with led := { d.led with arrayA := keep .a d.led.arrayA, arrayB := keep .b d.led.arrayB } }

/-- Checkpoints that do not chain to a held predecessor, with its number (R192). -/
def chainBreaks (x : Mram) : List (Nat × Nat) :=
  x.ckpts.flatMap fun c => x.ckpts.filterMap fun p =>
    if p.seq + 1 = c.seq ∧ c.prevChain ≠ chainOf p then some (c.seq, p.seq) else none

end Sys2Proof.Machine
end

