-- ==== Sys2Proof/Machine/Calico.lean ====
section
/-!
DEFINITION. The Calico island (R378 to R386): images, the nameplate, the tag's files, staged writes, HARV_OUT.
-/

namespace Sys2Proof.Machine

/-- A fixed-length string parameter, zero-padded. -/
def textBytes (k : Nat) (bs : List Byte) : List Byte := slice bs 0 k

/-- The nameplate's values in the order of R379 (log entry 38), 256 bytes. -/
def nameplateBytes (d : Dev) : List Byte :=
  slice (asciiPad 24 "KM-7720" ++ slice Config.serialNumber 0 24 ++ textBytes 24 (d.blk Param.POST_ID) ++
    textBytes 24 (swIdent d) ++ leBytes 8 (metrCheck d) ++ leBytes 8 d.metr.metrSetCheck ++
    leBytes 1 (d.nat Param.OUTLET_KIND) ++ leBytes 4 (d.nat Param.NOMINAL_U) ++
    leBytes 4 (d.nat Param.NOMINAL_I_GRID) ++ leBytes 4 (d.nat Param.RATED_UDC) ++
    leBytes 4 (d.nat Param.RATED_IDC)) 0 256

/-- The nameplate is written where one of its values has changed (R378, R380). -/
def nameplateWrite (d : Dev) : Dev := if d.unitOn 3 then { d with cal := { d.cal with nameplate := nameplateBytes d } } else d

/-- Bytes 0x000 to 0x9F7 of an image slot (R380). -/
def imageBody (n seq kind : Nat) (s : State) (d : Dev) : List Byte :=
  slice (leBytes 4 0x494C4143 ++ leBytes 4 seq ++ leBytes 8 n ++ leBytes 4 d.tar.rtc ++
    leBytes 1 kind ++ leBytes 1 s.clk.mode.code ++ leBytes 1 d.tar.status ++ [0] ++
    ((List.range 11).flatMap fun k => readingBytes (s.regs.total k)) ++ leBytes 4 d.led.recordNumber ++
    List.replicate 96 0 ++ slice ((lastN 64 d.log.general).flatMap entryBytes) 0 2048) 0 0x9F8

/-- An image with its CHECK (R380). -/
def imageBytes (n seq kind : Nat) (s : State) (d : Dev) : List Byte :=
  let b := imageBody n seq kind s d
  b ++ leBytes 8 (crc64 b).toNat

/-- SEQ of a slot, 0 for one never written. -/
def slotSeq (x : Option CalImage) : Nat := x.elim 0 CalImage.seq

/-- The slot that holds the newest valid image (R380). -/
def newestSlot (x : Cal) : Nat := if slotSeq x.image0 < slotSeq x.image1 then 1 else 0

/-- A slot's image. -/
def Cal.image (x : Cal) (k : Nat) : Option CalImage := if k = 0 then x.image0 else x.image1

/-- The slot to write (R380): the one that does not hold the newest valid image. -/
def writeSlot (x : Cal) : Nat := if x.image0.isNone then 0 else 1 - newestSlot x

/-- Put an image into a slot. -/
def putImage (k : Nat) (i : CalImage) (x : Cal) : Cal :=
  if k = 0 then { x with image0 := some i } else { x with image1 := some i }

/-- CALICO_IMAGE_WRITE (R380, R382): a periodic write into a slot that a field reader holds is deferred and counted; a
final write ends the selection. Nothing while CALICO is disabled (R378). -/
def calicoImageWrite (n : Nat) (final : Bool) (s : State) (d : Dev) : Dev :=
  if !d.unitOn 3 then d
  else
    let x := d.cal
    let k := writeSlot x
    if x.held = some k ∧ final = false then { d with cal := { x with deferred := x.deferred + 1 } }
    else
      let seq := x.imageSeq + 1
      let x := putImage k ⟨seq, n, imageBytes n seq (if final then 1 else 0) s d⟩ x
      let ends := final && x.held.isSome
      nameplateWrite { d with cal := { x with
          imageSeq := seq
          held := if ends then none else x.held, ended := x.ended || ends } }

/-! The tag. -/

/-- The status words of the island: 9000, and those that R382 and R383 name. -/
abbrev Sw.ok : Nat := 0x9000
/-- The selection has ended (R382). -/
abbrev Sw.ended : Nat := 0x6985
/-- The check of a package failed (R383). -/
abbrev Sw.badPackage : Nat := 0x6984

/-- A status word that no rule states: a free value (log entry 39). -/
def freeSw (d : Dev) (use : Nat) : Nat := (Config.freeValue (0x400 + use) d.cal.selected).toNat % 65536

/-- An answer of the tag. -/
def answer (data : List Byte) (sw : Nat) (d : Dev) : Dev := { d with cal := { d.cal with response := data, sw := sw } }

/-- The capability container of a Type 4 Tag (R381): READ BINARY 246 bytes, UPDATE BINARY 240, the NDEF file E104 of
128 bytes, read-only; its form is the NFC Forum's (log entry 40). -/
def capability : List Byte :=
  [0x00, 0x0F, 0x20, 0x00, 0xF6, 0x00, 0xF0, 0x04, 0x06, 0xE1, 0x04, 0x00, 0x80, 0x00, 0xFF]

/-- The newest valid image's bytes. -/
def newestBytes (d : Dev) : List Byte := (d.cal.image (newestSlot d.cal)).elim [] CalImage.bytes

/-- The NDEF message of E104 (R381): one MIME record; values of the newest image (log entry 40). -/
def ndefBytes (d : Dev) : List Byte :=
  let i := newestBytes d
  let serial := if d.unitOn 3 then slice Config.serialNumber 0 16 else List.replicate 16 0
  let payload := serial ++ slice i 0x008 8 ++ slice i 0x010 4 ++ slice i 0x014 1 ++
    slice i 0x018 8 ++ slice i (0x018 + 84) 8 ++ slice i (0x018 + 108) 8
  let type := asciiPad 30 "application/x.kilurmos-calico"
  let rec_ : List Byte := [0xD2, 29, BitVec.ofNat 8 payload.length] ++ type.take 29 ++ payload
  slice ([0, BitVec.ofNat 8 rec_.length] ++ rec_) 0 128

/-- The commit word (R384). -/
def commitWord (x : Cal) : Nat := x.commitSeq % 2 ^ 32 + x.bank * 2 ^ 32 + x.length % 8192 * 2 ^ 33

/-- The 32 bytes of the staging status (R384). -/
def stagingStatus (x : Cal) : List Byte :=
  leBytes 8 (commitWord x) ++ leBytes 4 x.attemptSeq ++ leBytes 4 x.appliedSeq ++ leBytes 1 x.applyResult ++ [0, 0, 0] ++
    leBytes 4 x.applyTime ++ List.replicate 8 0

/-- OUTCOME (R384). -/
def stagingOutcome (x : Cal) : Nat :=
  if x.commitSeq < x.attemptSeq then 1
  else if x.appliedSeq < x.commitSeq ∨ x.applyResult = 4 then 2
  else if x.applyResult = 1 then 3
  else if x.applyResult = 2 ∨ x.applyResult = 3 ∨ x.applyResult = 5 then 4 else 0

/-- Files that the island answers (R378, R381). -/
def fileKnown (d : Dev) (f : Nat) : Bool :=
  [0xE103, 0xE104].contains f || (d.unitOn 3 && [0xE1C1, 0xE1C2, 0xE1C3, 0xE1C4].contains f)

/-- CALICO_SELECT (R381, R382): E1C2 is fixed at its selection. -/
def selectEff (f : Nat) (d : Dev) : Dev :=
  if fileKnown d f then
    let e2 := decide (f = 0xE1C2)
    let k := newestSlot d.cal
    answer [] Sw.ok { d with cal := { d.cal with
      selected := f, held := if e2 then some k else none, ended := false
      heldImage := if e2 then newestBytes d else [] } }
  else answer [] (freeSw d 0) d

/-- CALICO_SELECT. -/
def execCalicoSelect (file : BitVec 16) (s : State) : Out := devStep s (selectEff file.toNat)

/-- Content of the selected file; none for a file that is not read (R381). -/
def fileContent (d : Dev) : Option (List Byte) :=
  match d.cal.selected with
  | 0xE103 => some capability
  | 0xE104 => some (ndefBytes d)
  | 0xE1C1 => some (slice d.cal.nameplate 0 256)
  | 0xE1C2 => some (slice d.cal.heldImage 0 2560)
  | 0xE1C4 => some (stagingStatus d.cal)
  | _ => none

/-- CALICO_READ_BINARY (R381, R382): at most 246 bytes. -/
def readEff (offset len : Nat) (d : Dev) : Dev :=
  if d.cal.ended then answer [] Sw.ended { d with cal := { d.cal with ended := false, selected := 0, heldImage := [] } }
  else match fileContent d with
    | some c => answer ((c.drop offset).take (min len 246)) Sw.ok d
    | none => answer [] (freeSw d 1) d

/-- CALICO_READ_BINARY. -/
def execCalicoReadBinary (offset len : Nat) (s : State) : Out := devStep s (readEff offset len)

/-- CALICO_UPDATE_BINARY (R381, R383): at most 240 bytes into the receive buffer. -/
def updateEff (offset : Nat) (data : List Byte) (d : Dev) : Dev :=
  if d.cal.selected = 0xE1C3 ∧ data.length ≤ 240 ∧ offset + data.length ≤ 4096 then
    let b := d.cal.buffer ++ List.replicate (offset + data.length - d.cal.buffer.length) 0
    answer [] Sw.ok { d with cal := { d.cal with buffer := splice b offset data } }
  else answer [] (freeSw d 2) d

/-- CALICO_UPDATE_BINARY. -/
def execCalicoUpdateBinary (offset : Nat) (data : List Byte) (s : State) : Out := devStep s (updateEff offset data)

/-- The island's check of a package (R383 stage 2): magic, length, serial, CRC-32. -/
def packageOk (len crc : Nat) (b : List Byte) : Bool :=
  decide (64 ≤ len ∧ len ≤ 4096) && decide (len ≤ b.length) && decide (fieldAt b 0 4 = 0x45475453) &&
    decide (fieldAt b 6 2 = len) && decide (slice b 8 16 = slice Config.serialNumber 0 16) &&
    decide ((crc32 (b.take (len - 4))).toNat = crc) && decide (fieldAt b (len - 4) 4 = crc)

/-- ATTEMPT_SEQ is written and the staging write begins (R383 stage 3). -/
def attempt (x : Cal) : Cal := { x with attemptSeq := x.commitSeq + 1 }

/-- The package stands in the bank that the commit word does not select, and the commit word selects it (R383 stages 3
and 4). -/
def commitPackage (len : Nat) (x : Cal) : Cal :=
  let p := x.buffer.take len
  let x := attempt x
  { x with
    bank0 := if x.bank = 1 then p else x.bank0, bank1 := if x.bank = 1 then x.bank1 else p
    bank := if x.bank = 1 then 0 else 1, commitSeq := x.commitSeq + 1, length := len }

/-- CALICO_TRIGGER (R383). -/
def triggerEff (len : Nat) (crc : Word) (d : Dev) : Dev :=
  if d.cal.selected ≠ 0xE1C4 then answer [] (freeSw d 3) d
  else if packageOk len crc.toNat d.cal.buffer then answer [] Sw.ok { d with cal := commitPackage len d.cal }
  else answer [] Sw.badPackage d

/-- CALICO_TRIGGER. -/
def execCalicoTrigger (len : Nat) (crc : Word) (s : State) : Out := devStep s (triggerEff len crc)

/-- What a collapse at a point leaves of the staging state (R383): a write that no good package preceded changes
nothing. -/
def collapseStaging (p : CollapsePoint) (x : Cal) : Cal :=
  let len := fieldAt x.buffer 6 2
  if packageOk len (fieldAt x.buffer (len - 4) 4) x.buffer then
    match p with
    | .receive => x
    | .check => x
    | .stagingWrite => attempt x
    | .commitOld => attempt x
    | .commitNew => commitPackage len x
    | .acknowledge => commitPackage len x
  else x

/-- CALICO_FIELD_COLLAPSE (R383, R386): the tag loses its volatile state; HARV_OUT goes off. -/
def collapseEff (p : CollapsePoint) (d : Dev) : Dev :=
  { d with cal := { collapseStaging p d.cal with
      buffer := [], selected := 0, held := none, heldImage := [], ended := false, response := [], harvOut := false } }

/-- CALICO_FIELD_COLLAPSE. -/
def execCalicoFieldCollapse (p : CollapsePoint) (s : State) : Out := devStep s (collapseEff p)

/-- HARV_OUT_CHANGE (R386): on with at least 2.5 A/m, enabled, and the island's own supply sufficient; off first where that
supply falls short, and back after 10 ms of sufficient field. -/
def execHarvOutChange (fieldCentiAm : Nat) (supplyOk : Bool) (goodMs : Nat) (s : State) : Out :=
  devStep s fun d =>
    let short := !supplyOk || (d.cal.harvShort && decide (goodMs < 10))
    { d with cal := { d.cal with
      harvShort := short
      harvOut := decide (250 ≤ fieldCentiAm) && decide (d.nat Param.HARV_OUT_ENABLE = 1) && !short } }

end Sys2Proof.Machine
end

