-- ==== Sys2Proof/Machine/Metrology.lean ====
section
/-!
DEFINITION. Metrology (chapter 06): temperatures, calibration, power and energy of a frame, quantities per cycle,
estimation, events, pulses, and calibration accumulation.
-/

namespace Sys2Proof.Machine

/-! Temperatures. -/

/-- Points of a TEMP_CURVE (R152, R172): result and temperature. -/
def curvePoints (bs : List Byte) : List (Int × Int) :=
  (List.range 17).map fun k => (leInt 4 (slice bs (8 * k) 4), leInt 4 (slice bs (8 * k + 4) 4))

/-- A curve that is all 0 is unused (R172). -/
def curveUsed (bs : List Byte) : Bool := bs.any (· ≠ 0)

/-- Linear interpolation over the points, clamped at the ends (R152). -/
def curveAt : List (Int × Int) → Int → Int
  | [], _ => 0
  | [p], _ => p.2
  | p :: q :: rest, v =>
    if v ≤ p.1 then p.2
    else if v ≤ q.1 then p.2 + cdiv ((q.2 - p.2) * (v - p.1)) (q.1 - p.1).toNat
    else curveAt (q :: rest) v

/-- The result lies within 5 % of the curve's span (R152). -/
def curveCovers (ps : List (Int × Int)) (v : Int) : Bool :=
  let lo := (nth (0, 0) ps 0).1
  let hi := (nth (0, 0) ps 16).1
  decide ((lo - v) * 20 ≤ hi - lo) && decide ((v - hi) * 20 ≤ hi - lo)

/-- The points of the curve of input j: 0 to 15 AUX1 to AUX16, 16 the die; none where the curve is unused (R152, R172). -/
def curveOf (d : Dev) (j : Nat) : Option (List (Int × Int)) :=
  if j = 16 then some ((List.range 17).map Config.dieCurve)
  else
    let bs := d.blk (Param.TEMP_CURVE + j)
    if curveUsed bs then some (curvePoints bs) else none

/-- The temperature of input j in 0.01 °C; none when invalid (R152). -/
def tempNow (d : Dev) (j : Nat) : Option Int :=
  let r := nth {} d.samp.aux j
  match curveOf d j with
  | some ps => if r.valid && curveCovers ps r.value then some (curveAt ps r.value) else none
  | none => none

/-- The code of a temperature input (R141). -/
def tempCode (j : Nat) : Nat := if j = 16 then 0x20 else j + 1

/-- Renew input j: the last valid value is kept; the first invalid result of an episode logs TEMP_INPUT_FAULT for an
input with a curve (R152). -/
def tempUpdate (j : Nat) (d : Dev) : Dev :=
  match tempNow d j with
  | some t => { d with metr := { d.metr with
      temps := d.metr.temps.set j t, tempOk := d.metr.tempOk.set j true, tempLogged := d.metr.tempLogged.set j false } }
  | none =>
    let d' := { d with metr := { d.metr with
      tempOk := d.metr.tempOk.set j false, tempLogged := d.metr.tempLogged.set j true } }
    if (curveOf d j).isSome ∧ nth false d.metr.tempLogged j = false then
      d'.raise Src.metr Event.TEMP_INPUT_FAULT (leBytes 1 (tempCode j))
    else { d' with metr := { d'.metr with tempLogged := d.metr.tempLogged } }

/-- A valid temperature of an input code (R152); none for no code. -/
def tempOfCode (d : Dev) (code : Nat) : Option Int :=
  let j := if code = 0x20 then 16 else code - 1
  if code = 0 ∨ 17 ≤ j then none else if nth false d.metr.tempOk j then some (nth 0 d.metr.temps j) else none

/-- Temperature terms of a channel (R151): from the last valid temperature of TC_SOURCE. -/
def tcTerms (d : Dev) (c : Nat) : Int × Int :=
  let src := d.nat (Param.TC_SOURCE + 16 * c)
  if src = 0 then (0, 0)
  else
    let t := nth 2500 d.metr.temps (if src = 0x20 then 16 else src - 1)
    let tab := d.blk (Param.TC_TABLE + 16 * c)
    (tableTerm tab 0 t, tableTerm tab 1 t)

/-! From sample to calibrated value. -/

/-- Nominal frequency in mHz (R172). -/
def nominalF (d : Dev) : Nat := if d.nat Param.NOMINAL_F = 1 then 60000 else 50000

/-- The frequency used for a channel's delay (R149): its side's, or the nominal one while that is invalid. -/
def chanFreq (d : Dev) (c : Nat) : Nat :=
  let f := if c ≤ 7 then d.metr.grid.freq else if c ≤ 13 then d.metr.outlet.freq else 0
  if f = 0 then nominalF d else f

/-- The total phase correction (R149): UDC, IDC, IRC, UGN and UISO have none. -/
def chanPhi (d : Dev) (c : Nat) (phiT : Int) : Int :=
  if c = 3 ∨ 14 ≤ c then 0 else max (-6000) (min 6000 (d.num (Param.CAL_PHASE + 16 * c) + phiT))

/-- τ of a channel in the frame (R149). -/
def chanTau (d : Dev) (c : Nat) : Int := tauOf (chanPhi d c (tcTerms d c).2) (chanFreq d c)

/-- The latest eight samples with the frame's in front. -/
def pushSample (line : List (Int × BitVec 8)) (ch : Chan) : List (Int × BitVec 8) :=
  ((ch.sample, ch.flags) :: line).take 8

/-- Calibrated values of the frame (R148 to R151); 0 stands for none, of a channel in SCS mode or off. -/
def calFrame (d : Dev) : Dev :=
  let lines := d.metr.delay.zipIdx.map fun x => pushSample x.1 (d.chan x.2)
  let tc := (List.range 18).map fun c => tcTerms d c
  let cal := lines.zipIdx.map fun x =>
    let c := x.2
    if (d.chan c).mode = 1 ∧ ¬unitOff d c then
      calibrate (interpolate (chanTau d c) x.1) (d.num (Param.CAL_OFFSET + 16 * c)) (d.nat (Param.CAL_SCALE + 16 * c))
        (d.num (Param.CAL_GAIN + 16 * c)) (nth (0, 0) tc c).1 (decide (d.nat (Param.CAL_POLARITY + 16 * c) = 1))
    else 0
  { d with metr := { d.metr with delay := lines, tc := tc, cal := cal } }

/-- Invalid taps of a channel in the frame (R161). -/
def chanBad (d : Dev) (c : Nat) : BitVec 8 := tapFlags (chanTau d c) (nth [] d.metr.delay c)

/-! Metered phases. -/

/-- Voltage and current channels of a side's phase (R124). -/
def phaseChans (side k : Nat) : Nat × Nat := if side = 0 then (k, 4 + k) else (8 + k, 11 + k)

/-- A phase is metered (R472). -/
def meteredNow (d : Dev) (side k : Nat) : Bool :=
  let c := phaseChans side k
  decide ((d.chan c.1).mode = 1) && decide ((d.chan c.2).mode = 1) && (side == 0 || d.unitOn 8) &&
    (k == 0 || decide (d.nat Param.WIRING = 0))

/-- The outlet contactors are closed: the quad outputs are on and no request to open them acts. -/
def outletClosed (d : Dev) : Bool := d.lanes.outputs.getLsbD 0

/-! One phase in one frame. -/

/-- What a phase gives to its side's totals in a frame. -/
structure Contrib where
  p : Int := 0
  q : Int := 0
  s : Nat := 0
  est : Bool := false
  stopped : Bool := false
  books : Bool := false
  /-- Energies booked into the seven secondary registers of the phase (R178). -/
  sec : List Nat := [0, 0, 0, 0, 0, 0, 0]
  evs : List Ev := []
  deriving DecidableEq, Repr

/-- A metrology event. -/
def metrEv (code : Nat) (data : List Byte) : Ev := .of Src.metr code data

/-- The end of an episode as logged (R163): indicator, side, phase, extreme value, duration in frames. -/
def episodeEnd (code side ph n : Nat) (e : Episode) : Ev :=
  metrEv code ([1] ++ leBytes 1 side ++ leBytes 1 ph ++ leBytesInt 4 e.extreme ++ leBytes 4 (n - e.since))

/-- Episodes of a phase that end because their evaluation stops (R478): it is no longer metered, or the outlet's contactors
open. -/
def stopEpisodes (side k n : Nat) (ph : Phase) : Phase × List Ev :=
  let fin (code : Nat) (e : Episode) : List Ev := if e.isOpen then [episodeEnd code side (k + 1) n e] else []
  ({ ph with sag := {}, swell := {}, cwv := {}, cwvHold := 0 },
   fin Event.SAG ph.sag ++ fin Event.SWELL ph.swell ++ fin Event.CURRENT_WITHOUT_VOLTAGE ph.cwv)

/-- ESTIMATION_ENDED (R161, R175), in the place of its side and phase, 0 for the DC side (R158). -/
def estimEnd (side ph : Nat) (e : Estim) : Ev :=
  { metrEv Event.ESTIMATION_ENDED (leBytes 4 e.frames ++ leBytesInt 8 (e.energy / 2 ^ 32)) with
    place := metrPlace side ph Event.ESTIMATION_ENDED }

/-- Booking of the active accumulator by the direction of the last complete valid cycle (R154): what remains, what
goes to import, what goes to export. -/
def bookActive (dir a : Int) : Int × Nat × Nat :=
  if 0 < dir ∧ 0 < a then (0, a.toNat, 0) else if dir < 0 ∧ a < 0 then (0, 0, (-a).toNat) else (a, 0, 0)

/-- Booking of the reactive accumulator by the quadrant of the cycle (R156): what remains, and Q1 to Q4. -/
def bookReactive (p q b : Int) : Int × List Nat :=
  if 0 ≤ q ∧ 0 < b then (0, if 0 ≤ p then [b.toNat, 0, 0, 0] else [0, b.toNat, 0, 0])
  else if q < 0 ∧ b < 0 then (0, if p < 0 then [0, 0, (-b).toNat, 0] else [0, 0, 0, (-b).toNat])
  else (b, [0, 0, 0, 0])

/-- Coefficient of the phase shifter at an odd distance from its centre (R156). -/
def shiftTap (k : Nat) : Int := (Config.phaseShiftTap k).toInt

/-- The voltage lagged by 90°, 255 frames late (R156): 511 taps, antisymmetric, 256 of them not 0. -/
def quadrature (line : List Int) : Int :=
  cround ((List.range 128).foldl (fun acc j =>
    let k := 2 * j + 1
    acc + shiftTap k * (nth 0 line (255 + k) - nth 0 line (255 - k))) 0) 30

/-- Below the starting current, or without a complete valid cycle (R155). -/
def Phase.noLoad (ph : Phase) (nomI : Nat) : Bool := !ph.valid || decide (ph.irms < nomI)

/-- The cycle that contains the delayed instant (R156): P of the oldest cycle whose reactive part is still to come. -/
def Phase.quadP (ph : Phase) : Int := (ph.marks.head?.map Mark.p).getD ph.cp

/-- The lowest flag of R132 among the flags found, VALID and OVER apart. -/
def causeFlag (f : BitVec 8) : Nat := ([1, 2, 4, 5, 6, 7].find? fun k => f.getLsbD k).getD 0

/-- The estimation limit of R162. -/
def estimLimit : Nat := 8000

/-- Estimation has lasted as long as MOD_OVL and MOD_FAULT allow (R162): the phase books nothing until its samples are valid
again. -/
def Estim.spent (e : Estim) : Bool := e.stopped || (e.isOpen && decide (estimLimit ≤ e.limited))

/-- Estimation of a phase, 1 to 3 (0 for the DC side), over the frame (R161, R162): its record, its events. At the limit the
episode ends and the measurement gap begins. -/
def estimStep (side ph n : Nat) (bad : BitVec 8) (energy : Int) (e : Estim) : Estim × List Ev :=
  if bad = 0 then ({}, if e.isOpen then [estimEnd side ph e] else [])
  else if e.spent then
    ({ e with isOpen := false, stopped := true, gapFrames := e.gapFrames + 1 }, if e.isOpen then [estimEnd side ph e] else [])
  else
    let e' : Estim := if e.isOpen then e else { isOpen := true, since := n, cause := causeFlag bad }
    ({ e' with frames := e'.frames + 1, energy := e'.energy + energy,
               limited := e'.limited + (if bad.getLsbD 4 || bad.getLsbD 5 then 1 else 0) },
     if e.isOpen then []
     else [metrEv Event.ESTIMATION_STARTED (leBytes 1 side ++ leBytes 1 ph ++ leBytes 1 (causeFlag bad))])

/-- The sums of the open window take a sample with a weight in Q16 (R159). -/
def Phase.weigh (w : Nat) (est : Bool) (ph : Phase) : Phase :=
  { ph with
    sumP := ph.sumP + w * ph.p, sumU2 := ph.sumU2 + w * (ph.u * ph.u).toNat,
    sumI2 := ph.sumI2 + w * (ph.i * ph.i).toNat, sumW := ph.sumW + w, tainted := ph.tainted || (est && decide (0 < w)) }

/-- The reactive window of a cycle, 255 frames later (R156, R159): at its end Q_CYCLE and ANGLE_UI are formed. -/
def Phase.reactive (n nomI : Nat) (ph : Phase) : Phase :=
  match ph.marks with
  | [] => { ph with sumQ := ph.sumQ + 65536 * ph.q, sumQW := ph.sumQW + 65536 }
  | m :: rest =>
    if m.frame + 255 ≤ n then
      let sq := ph.sumQ + m.frac * ph.q
      let w := ph.sumQW + m.frac
      let q := if w = 0 then 0 else cdiv sq w
      let ph' := { ph with marks := rest, sumQ := (65536 - m.frac : Nat) * ph.q, sumQW := 65536 - m.frac }
      if m.bad then ph'
      else { ph' with cq := q, angle := if ph.irms < 10 * nomI then 0 else atan2md q m.p }
    else { ph with sumQ := ph.sumQ + 65536 * ph.q, sumQW := ph.sumQW + 65536 }

/-- One phase of one side in one frame (R153 to R158, R161, R472). `w` is the weight of the frame's sample in the open
window; `evaluated` says that its events are (R163). A phase that becomes metered within an open window has no complete
cycle at its end. -/
def phaseFrame (n side k nomI : Nat) (on evaluated filling : Bool) (bad : BitVec 8) (u i : Int) (w : Nat) (ph : Phase) :
    Phase × Contrib :=
  if !on then
    let r := stopEpisodes side k n ph
    ({ accA := ph.accA, accB := ph.accB },
     { evs := (if ph.est.isOpen then [estimEnd side (k + 1) ph.est] else []) ++ (if ph.metered then r.2 else []) })
  else
    let ph : Phase := if ph.metered then ph else { metered := true, tainted := true, accA := ph.accA, accB := ph.accB }
    let ended := if evaluated then (ph, []) else stopEpisodes side k n ph
    let ph := ended.1
    let est := decide (bad ≠ 0)
    let nl := ph.noLoad nomI
    let uLine := (u :: ph.uLine).take 511
    let iLine := (i :: ph.iLine).take 256
    let held := est && !nl
    let p := if est then (if held then ph.cp else 0) else u * i
    let q := if est then (if held then ph.cq else 0) else quadrature uLine * nth 0 iLine 255
    let s := if nl then 0 else ph.urms * ph.irms
    let stopped := est && ph.est.spent
    let books := !stopped && !nl && (est || !ph.wait)
    let a := if books then bookActive ph.cp (ph.accA + energyOf p) else (ph.accA, 0, 0)
    let b := if books then bookReactive ph.quadP ph.cq (ph.accB + energyOf q) else (ph.accB, [0, 0, 0, 0])
    let es := estimStep side (k + 1) n bad (if books then energyOf p else 0) ph.est
    let ph := { ph with
      uLine := uLine, iLine := iLine, u := u, i := i, p := p, q := q, accA := a.1, accB := b.1, est := es.1
      wait := ph.wait || filling, stale := ph.stale || (est && ph.valid) || (filling && ph.valid) }
    let ph := (ph.weigh w est).reactive n nomI
    (ph, { p := p, q := q, s := s, est := est && !stopped, stopped := stopped, books := books,
           sec := [a.2.1, a.2.2] ++ b.2 ++ [if books then (energyOf s).toNat else 0], evs := ended.2 ++ es.2 })

/-! A side in one frame. -/

/-- Nominal current of a side, mA (R172). -/
def sideNomI (d : Dev) (side : Nat) : Nat := d.nat (if side = 0 then Param.NOMINAL_I_GRID else Param.NOMINAL_I_OUTLET)

/-- RMS over the last 160 samples of a phase's voltage, µV: the presence that R55 and R159 decide by. -/
def Phase.rms160 (ph : Phase) : Nat :=
  let l := ph.uLine.take 160
  if l = [] then 0 else isqrtRound (l.foldl (fun acc u => acc + (u * u).toNat) 0 / l.length)

/-- RMS of the last 160 samples of grid phase k, mV. -/
def rms160 (d : Dev) (k : Nat) : Nat := (nth {} d.metr.grid.phases k).rms160 / 1000

/-- All grid phases are below 10 % of nominal (R55). -/
def gridLost (d : Dev) : Bool :=
  (List.range 3).all fun k => decide (rms160 d k * 10 < d.nat Param.NOMINAL_U)

/-- A positive-going crossing in the frame (R159): armed below −10 % of the nominal peak; its fraction of the frame. -/
def crossingOf (nomU : Nat) (u : Int) (ok : Bool) (ph : Phase) : Option Nat × Bool :=
  let prev := nth 0 ph.uLine 0
  let low := decide (u < 0) && decide (2 * (nomU * 1000) ^ 2 < (10 * u).natAbs ^ 2)
  if ok && ph.prevOk && ph.armed && decide (prev < 0) && decide (0 ≤ u) then
    (some (min 65535 (cdiv (-prev * 65536) (u - prev).toNat).toNat), false)
  else (none, ph.armed || (ok && low))

/-- The reference phase (R159): phase 1, or the next metered phase that has 20 % of nominal; the first metered one when
none has. -/
def refOf (nomU : Nat) (phs : List Phase) (on : List Bool) : Nat :=
  let good (k : Nat) := nth false on k && decide (nomU * 1000 ≤ 5 * (nth {} phs k).rms160)
  match [0, 1, 2].find? good with
  | some k => k
  | none => ([0, 1, 2].find? (nth false on)).getD 0

/-- The frequency of a side while it is valid (R160): eleven crossings within 400 ms; on the outlet, contactors closed
and every metered phase at 20 % of nominal in its last complete cycle. -/
def freqHeld (n side nomU : Nat) (closed : Bool) (x : AcSide) : Nat :=
  let ok := match x.crossings[10]? with
    | some t => decide (n * 65536 ≤ t + 3200 * 65536)
    | none => false
  let phases := x.phases.filter Phase.metered
  if ok && (side == 0 || (closed && phases.all fun ph => ph.valid && decide (nomU * 1000 ≤ 5 * ph.urms))) then x.freq
  else 0

/-- What a side's frame gives: the side, families and secondary registers booked, events. -/
structure SideOut where
  side : AcSide
  fams : List (Nat × Nat)
  sec : List (Nat × Nat)
  evs : List Ev

/-- First secondary register of a phase (R178, in code order). -/
def secBase (side k : Nat) : Nat := 21 * side + 7 * k

/-- One AC side in one frame (R158): phases 1 to 3, then the total. Where no phase books, neither does the total (R155). The
cycles that are complete when the reference moves keep their delayed part (R159). -/
def sideFrame (n side : Nat) (d : Dev) (x : AcSide) : SideOut :=
  let nomU := d.nat Param.NOMINAL_U
  let nomI := sideNomI d side
  let on := (List.range 3).map fun k => meteredNow d side k
  let bad (k : Nat) := chanBad d (phaseChans side k).1 ||| chanBad d (phaseChans side k).2
  let u (k : Nat) := nth 0 d.metr.cal (phaseChans side k).1
  let i (k : Nat) := nth 0 d.metr.cal (phaseChans side k).2
  let ok (k : Nat) := decide (chanBad d (phaseChans side k).1 = 0)
  let ref := refOf nomU x.phases on
  let moved := decide (ref ≠ x.refPhase)
  let cross := x.phases.zipIdx.map fun y => crossingOf nomU (u y.2) (ok y.2) y.1
  let hit := if nth false on ref then (nth (none, false) cross ref).1 else none
  let w := hit.getD 65536
  let rs := x.phases.zipIdx.map fun y =>
    let k := y.2
    let filling := (d.chan (phaseChans side k).1).filling || (d.chan (phaseChans side k).2).filling
    let ph := if moved then { y.1 with sumP := 0, sumU2 := 0, sumI2 := 0, sumW := 0, tainted := false,
                                       stale := y.1.stale || y.1.valid } else y.1
    let r := phaseFrame n side k nomI (nth false on k) (side == 0 || outletClosed d) filling (bad k) (u k) (i k) w ph
    let c := nth (none, false) cross k
    ({ r.1 with armed := c.2 && r.1.metered, prevOk := ok k,
                crossAt := match c.1 with
                  | some f => (n - 1) * 65536 + f
                  | none => r.1.crossAt }, r.2)
  let sum (f : Contrib → Int) : Int := (rs.filter (·.2.books)).foldl (fun acc r => acc + f r.2) 0
  let cyc (f : Phase → Int) : Int := (rs.filter (fun r => r.1.metered && r.1.valid)).foldl (fun acc r => acc + f r.1) 0
  let books := rs.any (·.2.books)
  let a := if books then bookActive (cyc Phase.cp) (x.accA + energyOf (sum Contrib.p)) else (x.accA, 0, 0)
  let b := if books then bookReactive (cyc Phase.quadP) (cyc Phase.cq) (x.accB + energyOf (sum Contrib.q))
    else (x.accB, [0, 0, 0, 0])
  let es := (energyOf (sum fun c => c.s)).toNat
  let famA := if side = 0 then 0 else 7
  let qs := b.2.zipIdx
  let x := { x with freq := freqHeld n side nomU (outletClosed d) x }
  { side := { x with
      phases := rs.map Prod.fst, accA := a.1, accB := b.1, refPhase := ref, pending := hit
      windowOpen := x.windowOpen && !moved, crossings := if moved then [] else x.crossings
      pInst := rs.foldl (fun acc r => acc + r.2.p) 0
      sumW := x.sumW + w
      sumUn := x.sumUn + (if side = 0 then w * ((nth 0 d.metr.cal 3) ^ 2).toNat else 0)
      sumIn := x.sumIn + (if side = 0 then w * ((nth 0 d.metr.cal 7) ^ 2).toNat else 0)
      est := rs.any (·.2.est), gap := rs.any (·.2.stopped) }
    fams := [(famA, a.2.1), (famA + 1, a.2.2)] ++
      (if side = 0 then qs.map (fun y => (2 + y.2, y.1)) ++ [(6, es)] else [])
    sec := (rs.zipIdx.flatMap fun r => r.1.2.sec.zipIdx.map fun y => (secBase side r.2 + y.2, y.1)) ++
      (if side = 0 then [] else qs.map (fun y => (42 + y.2, y.1)) ++ [(46, es)])
    evs := rs.flatMap (·.2.evs) }

/-! The DC side. -/

/-- Mean of the last 80 valid frames (R154). -/
def mean80 (l : List Int) : Int := cdiv (l.foldl (· + ·) 0) 80

/-- DC metered (R472). -/
def dcMetered (d : Dev) : Bool :=
  decide ((d.chan 15).mode = 1) && decide ((d.chan 16).mode = 1) && d.unitOn 9

/-- The DC side in one frame (R153 to R155, R161): side, import, export, events. -/
def dcFrame (n : Nat) (d : Dev) (x : DcSide) : DcSide × Nat × Nat × List Ev :=
  if !dcMetered d then
    ({ acc := x.acc }, 0, 0, if x.est.isOpen then [estimEnd 2 0 x.est] else [])
  else
    let bad := chanBad d 15 ||| chanBad d 16
    let est := decide (bad ≠ 0)
    let u := nth 0 d.metr.cal 15
    let i := nth 0 d.metr.cal 16
    let x := if x.metered then x else { metered := true, acc := x.acc }
    let full := decide (80 ≤ x.ps.length)
    let nl := !full || decide ((mean80 x.is).natAbs < 2 * d.nat Param.RATED_IDC)
    let p := if est then (if nl then 0 else mean80 x.ps) else u * i
    let stopped := est && x.est.spent
    let books := !stopped && !nl
    let e := if books then energyOf p else 0
    let a := if books then bookActive (mean80 x.ps) (x.acc + e) else (x.acc, 0, 0)
    let es := estimStep 2 0 n bad e x.est
    let push (l : List Int) (v : Int) := if est then l else (v :: l).take 80
    ({ x with u := u, i := i, p := p, us := push x.us u, is := push x.is i, ps := push x.ps (u * i), acc := a.1,
              est := es.1 }, a.2.1, a.2.2, es.2)

/-! Pulses. -/

/-- The family that a pulse source code names (R173). -/
def pulseFamily (code : Nat) : Option Nat :=
  match code with
  | 1 => some 0 | 2 => some 1 | 3 => some 7 | 4 => some 8 | 5 => some 9 | 6 => some 10 | 7 => some 6
  | _ => none

/-- PULSE_SOURCE of output j. -/
def pulseSource (d : Dev) (j : Nat) : Nat := d.nat (Param.PULSE_SOURCE + 8 * j)

/-- Growth of a pulse output's source in the frame (R164). -/
def pulseGrow (d : Dev) (booked : List (Nat × Nat)) (j : Nat) (x : Pulse) : Pulse :=
  match pulseFamily (pulseSource d j) with
  | none => x
  | some f => { x with energy := x.energy + (booked.filter (·.1 = f)).foldl (fun acc y => acc + y.2) 0 }

/-- The owed count (R164): due less emitted. -/
def pulseOwed (d : Dev) (j : Nat) : Nat :=
  let x := nth {} d.metr.pulses j
  x.energy * d.nat (Param.PULSE_CONST + 8 * j) / (10 ^ 6 * 2 ^ 32) - x.emitted

/-! Reverse energy. -/

/-- Export family of a side (R163): grid, outlet AC, DC. -/
def exportFamily (m : Nat) : Nat := nth 1 [1, 8, 10] m

/-- Bidirectional discharge is authorised (R249): the session's BIDIRECTIONAL flag. -/
def dischargeAuthorised (d : Dev) : Bool := d.ses.isOpen && d.ses.flags.getLsbD 9

/-- Frames of 60 s (R163). -/
def reverseQuiet : Nat := 480000

/-- REVERSE_ENERGY is evaluated on a side (R163, R478): metered, and on the outlet with the contactors closed. -/
def reverseEvaluated (d : Dev) (m : Nat) : Bool :=
  match m with
  | 0 => d.metr.grid.phases.any Phase.metered
  | 1 => d.metr.outlet.phases.any Phase.metered && outletClosed d
  | _ => d.metr.dcs.metered

/-- The references of R478 at a frame's end, and episodes that end because evaluation stops. -/
def reverseStep (n : Nat) (r : Regs) (grew : Nat → Bool) (d : Dev) : Dev :=
  (List.range 3).foldl (fun d m =>
    let e := nth {} d.metr.reverse m
    let total := r.total (exportFamily m)
    let last := if grew m then n else nth 0 d.metr.revLast m
    let quiet := decide (last + reverseQuiet ≤ n)
    let grown : Nat := (total - nth 0 d.metr.revRef m) / 2 ^ 32
    let e := if e.isOpen then { e with extreme := max e.extreme grown } else e
    let ref := if dischargeAuthorised d || quiet then total else nth 0 d.metr.revRef m
    let d := { d with metr := { d.metr with
      reverse := d.metr.reverse.set m e, revRef := d.metr.revRef.set m ref, revLast := d.metr.revLast.set m last } }
    if e.isOpen && !reverseEvaluated d m then
      ({ d with metr := { d.metr with reverse := d.metr.reverse.set m {}, revRef := d.metr.revRef.set m total } }).raise
        Src.metr Event.REVERSE_ENERGY ([1] ++ leBytes 1 m ++ [0] ++ leBytesInt 8 e.extreme ++ leBytes 4 (n - e.since))
    else d) d

/-- Side-level episodes of the grid that end because their evaluation stops (R478): WRONG_SEQUENCE and MISSING_NEUTRAL need all
three phases metered, FREQ_OUT_OF_RANGE one. -/
def stopGridEpisodes (n : Nat) (d : Dev) : Dev :=
  let phs := d.metr.grid.phases
  let fin (stops : Bool) (code : Nat) (e : Episode) : Episode × List Ev :=
    if stops then ({}, if e.isOpen then [episodeEnd code 0 0 n e] else []) else (e, [])
  let three := !phs.all Phase.metered
  let ws := fin three Event.WRONG_SEQUENCE d.metr.wrongSeq
  let mn := fin three Event.MISSING_NEUTRAL d.metr.missNeutral
  let fr := fin (!phs.any Phase.metered) Event.FREQ_OUT_OF_RANGE d.metr.freqOut
  raiseAll (ws.2 ++ mn.2 ++ fr.2) { d with metr := { d.metr with wrongSeq := ws.1, missNeutral := mn.1, freqOut := fr.1 } }

/-! Calibration accumulation. -/

/-- Sums of R172 take a frame: grid and outlet phases, DC, raw samples. -/
def accFrame (d : Dev) (a : CalAcc) : CalAcc :=
  if a.state = 1 ∧ a.armed = true ∧ a.cycles < a.n then
    let ph (x : Phase) : List Int := [x.u * x.u, x.i * x.i, x.p, x.q]
    let v := (d.metr.grid.phases.flatMap ph) ++ (d.metr.outlet.phases.flatMap ph) ++
      [d.metr.dcs.u, d.metr.dcs.i, d.metr.dcs.p] ++ d.samp.chans.map Chan.sample
    { a with sums := (a.sums.zip v).map (fun y => y.1 + y.2), frames := a.frames + 1 }
  else a

/-! The metrology slot. -/


/-- A billing channel of the grid side is faulty (R162). -/
def gridFaulty (d : Dev) : Bool := [0, 1, 2, 4, 5, 6].any fun c => (d.chan c).faulty

/-- EST bits of a frame (R186). -/
def estBits (d : Dev) : BitVec 6 :=
  let dc := d.metr.dcs.est
  BitVec.ofBool dc.stopped ++ BitVec.ofBool d.metr.outlet.gap ++
    BitVec.ofBool (d.metr.grid.gap || gridFaulty d) ++ BitVec.ofBool dc.isOpen ++ BitVec.ofBool d.metr.outlet.est ++
    BitVec.ofBool d.metr.grid.est

/-- A side entered or left estimation in the frame (R187). -/
def estChanged (old new : Metr) : Bool :=
  old.grid.est != new.grid.est || old.outlet.est != new.outlet.est || old.dcs.est.isOpen != new.dcs.est.isOpen

/-- The measurement gap of a phase, 1 to 3 (0 for the DC side), in the gap log (R162, R195 kind 3): it ends with frame n, at
RTC time t. -/
def phaseGap (n t side ph : Nat) (e : Estim) (d : Dev) : Dev :=
  addGap { frame := n, from_ := t - e.gapFrames / 8000, until_ := t, startMs := 0, kind := 3,
           side := side + 16 * ph, duration := e.gapFrames } d

/-- Measurement gaps that ended in the frame (R162, R195 kind 3). -/
def gapEnds (n side : Nat) (old new : List (Nat × Estim)) (d : Dev) : Dev :=
  (old.zip new).foldl (fun d x =>
    if x.1.2.stopped && !x.2.2.stopped then phaseGap n d.tar.rtc side x.1.1 x.1.2 d else d) d

/-- The estimation records of a side's phases, numbered from 1. -/
def AcSide.estims (x : AcSide) : List (Nat × Estim) := x.phases.zipIdx.map fun p => (p.2 + 1, p.1.est)

/-- The metrology slot of frame n, 2–30 µs (R19, R158): grid, outlet AC, DC; booking; pulses; references. -/
def metrFrame (s : State) : State :=
  let n := s.clk.frame
  let d := calFrame s.dev
  let g := sideFrame n 0 d d.metr.grid
  let d := stopGridEpisodes n (raiseAll g.evs { d with metr := { d.metr with grid := g.side } })
  let o := sideFrame n 1 d d.metr.outlet
  let d := raiseAll o.evs { d with metr := { d.metr with outlet := o.side } }
  let dc := dcFrame n d d.metr.dcs
  let d := raiseAll dc.2.2.2 { d with metr := { d.metr with dcs := dc.1 } }
  let booked := g.fams ++ o.fams ++ [(9, dc.2.1), (10, dc.2.2.1)]
  let regs := (s.regs.bookAll booked).bookSecondary (g.sec ++ o.sec)
  let d := { d with metr := { d.metr with
    pulses := d.metr.pulses.zipIdx.map fun x => pulseGrow d booked x.2 x.1
    acc := accFrame d d.metr.acc } }
  let grew (m : Nat) : Bool := booked.any fun y => decide (y.1 = exportFamily m) && decide (0 < y.2)
  let d := reverseStep n regs grew d
  let old := s.dev.metr
  let d := gapEnds n 0 old.grid.estims d.metr.grid.estims d
  let d := gapEnds n 1 old.outlet.estims d.metr.outlet.estims d
  let d := gapEnds n 2 [(0, old.dcs.est)] [(0, d.metr.dcs.est)] d
  let d := { d with led := { d.led with
    est := d.led.est ||| estBits d, estWaits := d.led.estWaits || estChanged s.dev.metr d.metr } }
  { s with regs := regs, dev := d }

end Sys2Proof.Machine
end

