-- ==== Sys2Proof/Machine/Cycles.lean ====
section
/-!
DEFINITION. The rows of metrology (chapter 06): the end of a cycle, the events of R163, estimation limits, pulses, the
end of a calibration accumulation; and the balance of a session.
-/

namespace Sys2Proof.Machine

/-! The end of a cycle. -/

/-- Close the window of one phase (R159, R161). -/
def closePhase (n f nomI : Nat) (windowOpen : Bool) (ph : Phase) : Phase :=
  if !ph.metered then ph
  else
    let good := windowOpen && !ph.tainted && decide (0 < ph.sumW)
    let ph' : Phase := if good then
        let irms := isqrtRound (cdiv ph.sumI2 ph.sumW).toNat
        { ph with cp := cdiv ph.sumP ph.sumW, urms := isqrtRound (cdiv ph.sumU2 ph.sumW).toNat, irms := irms,
                  valid := true, wait := false, stale := false, lowI := decide (irms < 10 * nomI) }
      else { ph with stale := ph.stale || (windowOpen && ph.valid) }
    let ph' := { ph' with marks := ph'.marks ++ [Mark.mk n f ph'.cp (!good)],
                          sumP := 0, sumU2 := 0, sumI2 := 0, sumW := 0, tainted := false }
    ph'.weigh (65536 - f) (ph'.est.isOpen || ph'.est.stopped)

/-- An episode's count and extreme after a complete valid cycle (R163). -/
def Episode.advance (start stop : Bool) (v : Int) (better : Int → Int → Int) (e : Episode) : Episode :=
  if e.isOpen then { e with count := if stop then e.count + 1 else 0, extreme := better e.extreme v }
  else if start then { e with count := e.count + 1, extreme := if e.count = 0 then v else better e.extreme v }
  else { e with count := 0, extreme := v }

/-- A voltage in µV is below a fraction (10⁻⁴) of nominal, which is given in mV. -/
def below (u thr nomU : Nat) : Bool := decide (u * 10 < thr * nomU)

/-- SAG, SWELL and CURRENT_WITHOUT_VOLTAGE of one phase after a complete valid cycle (R163). -/
def phaseEvents (d : Dev) (side : Nat) (old ph : Phase) : Phase :=
  let nomU := d.nat Param.NOMINAL_U
  let sag := d.nat Param.SAG_THR
  let swell := d.nat Param.SWELL_THR
  let hyst := d.nat Param.EVENT_HYST
  let absent := below ph.urms 2000 nomU
  let fell := absent && old.valid && !below old.urms 2000 nomU
  let cwv := absent && decide (d.nat Param.CWV_I_THR * sideNomI d side ≤ ph.irms * 10)
  let hold := if fell then 50 else ph.cwvHold
  { ph with
    sag := ph.sag.advance (below ph.urms sag nomU) (!below ph.urms (sag + hyst) nomU) (ph.urms / 1000 : Nat) min
    swell := ph.swell.advance (decide (swell * nomU < ph.urms * 10)) (decide (ph.urms * 10 ≤ (swell - hyst) * nomU))
      (ph.urms / 1000 : Nat) max
    cwv := if 0 < hold ∧ ph.cwv.isOpen = false then ph.cwv else ph.cwv.advance cwv (!cwv) (ph.irms / 1000 : Nat) max
    cwvHold := hold - 1 }

/-- A phase's window closed with a result. -/
def closedGood (windowOpen : Bool) (ph : Phase) : Bool := ph.metered && windowOpen && !ph.tainted && decide (0 < ph.sumW)

/-- Angle from the crossing of U1 to that of a phase (R159), milli-degrees. -/
def angleFrom (first other period : Nat) : Nat :=
  if period = 0 then 0 else (cdiv (360000 * ((other + period - first % period) % period)) period).toNat % 360000

/-- WRONG_SEQUENCE, MISSING_NEUTRAL and FREQ_OUT_OF_RANGE after a grid cycle (R163). A voltage is present at 20 % of nominal,
and the normal sequence is that of the same windows with the angles changed over (DESIGN CHOICE, log entry 155). -/
def gridEvents (d : Dev) (allGood anyGood : Bool) : Dev :=
  let g := d.metr.grid
  let nomU := d.nat Param.NOMINAL_U
  let us := g.phases.map Phase.urms
  let present := d.nat Param.WIRING = 0 && allGood && us.all fun u => !below u 2000 nomU
  let full := us.all fun u => !below u 8000 nomU
  let normal := decide (80000 ≤ g.angle12 ∧ g.angle12 ≤ 160000 ∧ 200000 ≤ g.angle13 ∧ g.angle13 ≤ 280000)
  let wrong := full && decide (200000 ≤ g.angle12 ∧ g.angle12 ≤ 280000 ∧ 80000 ≤ g.angle13 ∧ g.angle13 ≤ 160000)
  let sum : Nat := us.foldl (· + ·) 0
  let dev := us.foldl (fun (m u : Nat) => max m (3 * (u : Int) - (sum : Nat)).natAbs) 0
  let nd := d.nat Param.NEUTRAL_DISP_THR
  let im := d.nat Param.IMBALANCE_THR
  let neutral := !below g.unRms nd nomU && decide (im * sum ≤ dev * 10000)
  let neutralEnd := decide (g.unRms * 100 < 8 * nd * nomU) && decide (dev * 100000 < 8 * im * sum)
  let outOf := (decide (g.freq < d.nat Param.FREQ_MIN) || decide (d.nat Param.FREQ_MAX < g.freq)) &&
    (decide (g.freq ≠ 0) || us.any fun u => !below u 8000 nomU)
  let inRange := decide (d.nat Param.FREQ_MIN ≤ g.freq) && decide (g.freq ≤ d.nat Param.FREQ_MAX)
  let far (a b : Int) : Int := if (a - nominalF d).natAbs < (b - nominalF d).natAbs then b else a
  { d with metr := { d.metr with
      wrongSeq := if present then d.metr.wrongSeq.advance wrong normal g.angle12 max else d.metr.wrongSeq
      missNeutral := if present then d.metr.missNeutral.advance neutral neutralEnd (g.unRms / 1000 : Nat) max
        else d.metr.missNeutral
      freqOut := if anyGood then d.metr.freqOut.advance outOf inRange g.freq far else d.metr.freqOut } }

/-- A calibration accumulation at a grid crossing that counts (R168). The window before it is a complete cycle, or was dropped
with a move of the reference (R159): then its frames are taken out again. -/
def accCycle (n : Nat) (complete bad : Bool) (a : CalAcc) : CalAcc :=
  if a.state ≠ 1 ∨ (a.armed = true ∧ a.n ≤ a.cycles) then a
  else if !a.armed then { a with armed := true, first := n }
  else if complete then
    { a with cycles := a.cycles + 1, last := n, bad := a.bad || bad, keptFrames := a.frames, kept := a.sums }
  else { a with frames := a.keptFrames, sums := a.kept }

/-- A side by its code. -/
def Metr.side (m : Metr) (side : Nat) : AcSide := if side = 0 then m.grid else m.outlet

/-- Put a side back. -/
def Metr.setSide (m : Metr) (side : Nat) (x : AcSide) : Metr :=
  if side = 0 then { m with grid := x } else { m with outlet := x }

/-- Consecutive complete grid cycles with the RMS of UGN at or above PE_U_THR (R294). -/
def peCycle (complete : Bool) (un : Nat) (d : Dev) : Dev :=
  if complete then
    { d with saf := { d.saf with
        peCycles := if 1000 * d.nat Param.PE_U_THR ≤ un then d.saf.peCycles + 1 else 0 } }
  else d

/-- ZERO_CROSSING (R159, R160, R163): a counted crossing of the frame closes the open window of its side and opens the
next. -/
def zeroCrossingEff (n side : Nat) (d : Dev) : Dev :=
  let x := d.metr.side side
  match x.pending with
  | none => d
  | some f =>
    let nomU := d.nat Param.NOMINAL_U
    let nomI := sideNomI d side
    let good := x.phases.map (closedGood x.windowOpen)
    let evaluated := side == 0 || outletClosed d
    let phs : List Phase := x.phases.map fun ph =>
      let ph' := closePhase n f nomI x.windowOpen ph
      if closedGood x.windowOpen ph && evaluated then phaseEvents d side ph ph' else ph'
    let t := (n - 1) * 65536 + f
    let crossings := (t :: x.crossings).take 11
    let freq := match crossings[10]? with
      | some t0 => (cdiv (10 * 8000000 * 65536) (t - t0)).toNat
      | none => 0
    let period := t - nth t crossings 1
    let at_ (k : Nat) : Nat := ((phs[k]?).map Phase.crossAt).getD 0
    let x' := { x with
      phases := phs, pending := none, windowOpen := true, crossings := crossings, freq := freq
      angle12 := angleFrom (at_ 0) (at_ 1) period
      angle13 := angleFrom (at_ 0) (at_ 2) period
      unRms := if x.windowOpen ∧ 0 < x.sumW then isqrtRound (cdiv x.sumUn x.sumW).toNat else x.unRms
      inRms := if x.windowOpen ∧ 0 < x.sumW then isqrtRound (cdiv x.sumIn x.sumW).toNat else x.inRms
      sumW := 65536 - f
      sumUn := if side = 0 then (65536 - f) * ((nth 0 d.metr.cal 3) ^ 2).toNat else 0
      sumIn := if side = 0 then (65536 - f) * ((nth 0 d.metr.cal 7) ^ 2).toNat else 0 }
    let x' := { x' with freq := freqHeld n side nomU (outletClosed d) x' }
    let d := { d with metr := d.metr.setSide side x' }
    if side = 0 then
      let d := peCycle x.windowOpen x'.unRms (gridEvents d (good.all id) (good.any id))
      { d with metr := { d.metr with acc := accCycle n x.windowOpen (x.phases.any fun ph => ph.metered && ph.tainted) d.metr.acc } }
    else d

/-- The code of a side. -/
def sideCode : Side → Nat
  | .grid => 0
  | .outlet => 1

/-- ZERO_CROSSING. -/
def execZeroCrossing (side : Side) (s : State) : Out := devStep s (zeroCrossingEff s.clk.frame (sideCode side))

/-- Crossings of the frame that no row has closed are closed before the next tick. -/
def closePending (n : Nat) (d : Dev) : Dev := zeroCrossingEff n 1 (zeroCrossingEff n 0 d)

/-! Episodes. -/

/-- An episode starts or ends when its count has reached its persistence (R163): the new episode and the log. -/
def episodeRow (code side ph n startAfter endAfter : Nat) (e : Episode) : Episode × List Ev :=
  if !e.isOpen && decide (startAfter ≤ e.count) then
    ({ e with isOpen := true, count := 0, since := n },
     [metrEv code ([0] ++ leBytes 1 side ++ leBytes 1 ph ++ leBytesInt 4 e.extreme)])
  else if e.isOpen && decide (endAfter ≤ e.count) then ({}, [episodeEnd code side ph n e])
  else (e, [])

/-- WRONG_SEQUENCE. -/
def execWrongSequence (s : State) : Out :=
  devStep s fun d =>
    let r := episodeRow Event.WRONG_SEQUENCE 0 0 s.clk.frame 50 50 d.metr.wrongSeq
    raiseAll r.2 { d with metr := { d.metr with wrongSeq := r.1 } }

/-- MISSING_NEUTRAL. -/
def execMissingNeutral (s : State) : Out :=
  devStep s fun d =>
    let r := episodeRow Event.MISSING_NEUTRAL 0 0 s.clk.frame 25 50 d.metr.missNeutral
    raiseAll r.2 { d with metr := { d.metr with missNeutral := r.1 } }

/-- FREQ_OUT_OF_RANGE. -/
def execFreqOutOfRange (s : State) : Out :=
  devStep s fun d =>
    let r := episodeRow Event.FREQ_OUT_OF_RANGE 0 0 s.clk.frame 10 50 d.metr.freqOut
    raiseAll r.2 { d with metr := { d.metr with freqOut := r.1 } }

/-- Change one phase (1 to 3) of a side by an episode row. -/
def phaseRow (side ph : Nat) (f : Phase → Phase × List Ev) (d : Dev) : Dev :=
  let x := d.metr.side side
  match x.phases[ph - 1]? with
  | none => d
  | some y =>
    let r := f y
    raiseAll r.2 { d with metr := d.metr.setSide side { x with phases := x.phases.set (ph - 1) r.1 } }

/-- SAG of a phase, 1 to 3. -/
def execSag (side : Side) (ph : Nat) (s : State) : Out :=
  devStep s <| phaseRow (sideCode side) ph fun y =>
    let r := episodeRow Event.SAG (sideCode side) ph s.clk.frame 1 1 y.sag
    ({ y with sag := r.1 }, r.2)

/-- SWELL of a phase. -/
def execSwell (side : Side) (ph : Nat) (s : State) : Out :=
  devStep s <| phaseRow (sideCode side) ph fun y =>
    let r := episodeRow Event.SWELL (sideCode side) ph s.clk.frame 1 1 y.swell
    ({ y with swell := r.1 }, r.2)

/-- CURRENT_WITHOUT_VOLTAGE of a phase: it carries I_rms and U_rms (R175). -/
def execCurrentWithoutVoltage (side : Side) (ph : Nat) (s : State) : Out :=
  devStep s <| phaseRow (sideCode side) ph fun y =>
    let r := episodeRow Event.CURRENT_WITHOUT_VOLTAGE (sideCode side) ph s.clk.frame 50 50 y.cwv
    ({ y with cwv := r.1 }, r.2.map fun e => { e with data := e.data ++ leBytesInt 4 (y.urms / 1000 : Nat) })

/-- The code of a metered side. -/
def meterCode : MeterSide → Nat
  | .grid => 0
  | .outlet => 1
  | .dc => 2

/-- REVERSE_ENERGY (R163, R478): starts when the export total exceeds its reference by REVERSE_EVENT_E; ends when no
export was booked for 60 s. -/
def reverseEff (n m : Nat) (r : Regs) (d : Dev) : Dev :=
  let e := nth {} d.metr.reverse m
  let total := r.total (exportFamily m)
  let grown := total - nth 0 d.metr.revRef m
  if e.isOpen then
    if nth 0 d.metr.revLast m + reverseQuiet ≤ n then
      ({ d with metr := { d.metr with reverse := d.metr.reverse.set m {}, revRef := d.metr.revRef.set m total } }).raise
        Src.metr Event.REVERSE_ENERGY ([1] ++ leBytes 1 m ++ [0] ++ leBytesInt 8 e.extreme ++ leBytes 4 (n - e.since))
    else d
  else if reverseEvaluated d m && !dischargeAuthorised d && decide (d.nat Param.REVERSE_EVENT_E * 2 ^ 32 ≤ grown) then
    ({ d with metr := { d.metr with
        reverse := d.metr.reverse.set m { isOpen := true, since := n, extreme := (grown / 2 ^ 32 : Nat) } } }).raise
      Src.metr Event.REVERSE_ENERGY ([0] ++ leBytes 1 m ++ [0] ++ leBytesInt 8 (grown / 2 ^ 32 : Nat))
  else d

/-- REVERSE_ENERGY. -/
def execReverseEnergy (m : MeterSide) (s : State) : Out :=
  devStep s (reverseEff s.clk.frame (meterCode m) s.regs)

/-- METER_GAP is due (R162): MOD_OVL or MOD_FAULT for 8,000 frames. -/
def gapDue (e : Estim) : Bool := e.spent && !e.gapped

/-- METER_GAP as logged. -/
def gapEv (side ph : Nat) : Ev := metrEv Event.METER_GAP (leBytes 1 side ++ leBytes 1 ph)

/-- METER_GAP (R162): the interval is a measurement gap of that phase. -/
def meterGapEff (m ph : Nat) (d : Dev) : Dev :=
  if m = 2 then
    if gapDue d.metr.dcs.est then
      raiseAll [gapEv 2 0] { d with metr := { d.metr with
        dcs := { d.metr.dcs with est := { d.metr.dcs.est with gapped := true } } } }
    else d
  else phaseRow m ph (fun y => if gapDue y.est then ({ y with est := { y.est with gapped := true } }, [gapEv m ph])
    else (y, [])) d

/-- METER_GAP. -/
def execMeterGap (m : MeterSide) (ph : Nat) (s : State) : Out := devStep s (meterGapEff (meterCode m) ph)

/-! Pulses. -/

/-- Frames of a pulse of output j (R165). -/
def pulseFrames (d : Dev) (j : Nat) : Nat := 8 * d.nat (Param.PULSE_WIDTH + 8 * j)

/-- A pulse may start (R165). -/
def pulseStartDue (s : State) (j : Nat) (d : Dev) : Bool :=
  let x := nth {} d.metr.pulses j
  s.clk.running && decide (j < 3) && decide (0 < pulseOwed d j) && !x.level && decide (pulseSource d j ≠ 0) &&
    decide (x.lastEnd + pulseFrames d j ≤ s.clk.frame) && !d.lanes.dispute.any Dispute.compare && !d.pow.shed && d.unitOn 11

/-- PULSE_START (R165): a pulse counts as emitted in the frame in which it starts. PULSES_OWED is logged when more than
one is owed after a restart, and when the count returns to 0. -/
def pulseStartEff (n j : Nat) (d : Dev) : Dev :=
  let owed := pulseOwed d j
  let x := nth {} d.metr.pulses j
  let first := decide (1 < owed) && !x.owedLogged
  let last := x.owedLogged && decide (owed = 1)
  let d := if first then d.raise Src.metr Event.PULSES_OWED (leBytes 1 j ++ leBytes 4 owed) else d
  let d := if last then d.raise Src.metr Event.PULSES_OWED (leBytes 1 j ++ leBytes 4 0) else d
  let x := { x with emitted := x.emitted + 1, level := true, startAt := n,
                    owedLogged := (x.owedLogged || first) && !last }
  { d with metr := { d.metr with pulses := d.metr.pulses.set j x } }

/-- PULSE_START. -/
def execPulseStart (j : Nat) (s : State) : Out :=
  devStep s fun d => d.when (pulseStartDue s j d) (pulseStartEff s.clk.frame j)

/-- Pulse output j conducts (R165, R173): PULSE_POLARITY says whether it does during a pulse or between pulses; shed or
disabled it does not. -/
def pulseConducts (d : Dev) (j : Nat) : Bool :=
  !d.pow.shed && d.unitOn 11 &&
    (nth {} d.metr.pulses j).level != decide (d.nat (Param.PULSE_POLARITY + 8 * j) = 1)

/-- A pulse has lasted its width (R165). -/
def pulseEndDue (n j : Nat) (d : Dev) : Bool :=
  let x := nth {} d.metr.pulses j
  x.level && decide (x.startAt + pulseFrames d j ≤ n)

/-- PULSE_END. -/
def execPulseEnd (j : Nat) (s : State) : Out :=
  devStep s fun d => d.when (pulseEndDue s.clk.frame j d) fun d => { d with metr := { d.metr with
    pulses := updAt d.metr.pulses j fun x => { x with level := false, lastEnd := s.clk.frame } } }

/-! Calibration accumulation. -/

/-- A write of CAL_ACC_CTRL starts an accumulation, or restarts it (R168). -/
def accStart (n : Nat) (d : Dev) : Dev := { d with metr := { d.metr with acc := { state := 1, n := n } } }

/-- A metrology parameter is committed during an accumulation (R168). -/
def accSpoil (d : Dev) : Dev :=
  { d with metr := { d.metr with acc := { d.metr.acc with bad := true } } }

/-- CAL_ACC_DONE is due (R168). -/
def accDue (a : CalAcc) : Bool := decide (a.state = 1) && (a.bad || (a.armed && decide (a.n ≤ a.cycles)))

/-- CAL_ACC_DONE (R168): done, or discarded. -/
def execCalAccDone (s : State) : Out :=
  devStep s fun d => d.when (accDue d.metr.acc) fun d =>
    let st := if d.metr.acc.bad then 3 else 2
    ({ d with metr := { d.metr with acc := { d.metr.acc with state := st } } }).raise Src.metr Event.CAL_ACC_DONE
      (leBytes 1 st ++ leBytes 4 d.metr.acc.cycles)

/-! Balance of a session. -/

/-- Net active energy of the grid side, and of the outlet (R167). -/
def netEnergy (r : Regs) (dcOutlet : Bool) : Int × Int :=
  ((r.total 0 : Int) - r.total 1,
   if dcOutlet then (r.total 9 : Int) - r.total 10 else (r.total 7 : Int) - r.total 8)

/-- The balance of R167: outcome (0 not checked, 1 passed, 2 failed), D, X and Bound in 2⁻³² mWh. `frames` is the
session's duration. -/
def balance (d : Dev) (r : Regs) (dcOutlet : Bool) (frames : Nat) (hold : Bool) : Nat × Int × Int × Int :=
  let net := netEnergy r dcOutlet
  let out := net.2 - d.metr.balOut
  let dd := (net.1 - d.metr.balGrid) - out
  let loss := d.nat (if dcOutlet then Param.BAL_LOSS_DC else Param.BAL_LOSS_AC)
  let x := cdiv (d.nat Param.BAL_OWN_POWER * frames * 2 ^ 32 : Nat) 28800000 + cdiv (loss * out) 10000
  let bound := cdiv (d.nat Param.BAL_REL * out) 10000 + (d.nat Param.BAL_ABS * 2 ^ 32 : Nat)
  let outcome := if decide (d.ses.flags &&& 0b111#32 ≠ 0) || hold || decide (out < 100000 * 2 ^ 32) then 0
    else if bound < (dd - x).natAbs then 2 else 1
  (outcome, dd, x, bound)

/-- Energy of 2⁻³² mWh in Wh. -/
def inWh (e : Int) : Int := cdiv e (1000 * 2 ^ 32)

/-- BALANCE_DISCREPANCY (R167, R175). -/
def balanceLog (number : Nat) (b : Nat × Int × Int × Int) (d : Dev) : Dev :=
  if b.1 = 2 then
    d.raise Src.metr Event.BALANCE_DISCREPANCY (leBytes 4 number ++ leBytesInt 4 (inWh b.2.1) ++
      leBytesInt 4 (inWh b.2.2.1) ++ leBytesInt 4 (inWh b.2.2.2))
  else d

end Sys2Proof.Machine
end

