-- ==== Sys2Proof/Machine/Gplc.lean ====
section
/-!
DEFINITION. The grid link (R339 to R355): neighbours, tone maps, routes, phase detection, membership, transmit queues
and the last gasp.
-/

namespace Sys2Proof.Machine

/-- Carriers of the band (R339). -/
def carriersOf (d : Dev) : Nat := if d.nat Param.GPLC_BAND = 1 then 72 else 36

/-- A counter of R354 rises: queue q, place j of its eight. -/
def countQ (q j k : Nat) (g : Gplc) : Gplc := { g with counters := updAt g.counters (8 * q + j) (· + k) }

/-- A receive counter rises: 0 RX_GOOD, 1 RX_SECURITY_FAILED, 2 RX_DUPLICATE. -/
def countRx (j : Nat) (g : Gplc) : Gplc := { g with counters := updAt g.counters (24 + j) (· + 1) }

/-- A queue. -/
def Gplc.queue (g : Gplc) (q : Nat) : List Packet := nth [] g.queues q

/-- Replace a queue. -/
def Gplc.setQueue (g : Gplc) (q : Nat) (l : List Packet) : Gplc := { g with queues := g.queues.set q l }

/-- Capacities of R352. -/
def queueCap : Nat → Nat
  | 0 => 8
  | 1 => 32
  | _ => 64

/-- Time limits of R352 in frames. -/
def queueLimit : Nat → Nat
  | 2 => secs 10
  | _ => secs 60

/-- A packet meets its queue (R352): accepted, or counted as REJECTED. -/
def enqueue (q : Nat) (p : Packet) (g : Gplc) : Gplc :=
  if (g.queue q).length < queueCap q then countQ q 0 1 (g.setQueue q (g.queue q ++ [p])) else countQ q 7 1 g

/-- Every packet of a queue is dropped under a cause (R353): 2 RETRIES, 3 NO_ROUTE, 4 TIMEOUT, 5 HOLD, 6 MODEM. -/
def dropQueue (cause q : Nat) (g : Gplc) : Gplc := countQ q cause (g.queue q).length (g.setQueue q [])

/-- Every packet of every queue is dropped under a cause. -/
def dropAll (cause : Nat) (g : Gplc) : Gplc := dropQueue cause 2 (dropQueue cause 1 (dropQueue cause 0 g))

/-! Neighbours. -/

/-- A neighbour by its address. -/
def Gplc.neighbour (g : Gplc) (a : Nat) : Option Neighbour := g.neighbours.find? (·.addr = a)

/-- Change a neighbour. -/
def onNeighbour (a : Nat) (f : Neighbour → Neighbour) (g : Gplc) : Gplc :=
  { g with neighbours := g.neighbours.map fun x => if x.addr = a then f x else x }

/-- A neighbour is the next hop of a route (R342). -/
def isNextHop (g : Gplc) (a : Nat) : Bool := g.routes.any (·.next = a)

/-- The entry to evict (R342): heard least recently among those that are no next hop. -/
def evictNeighbour (g : Gplc) : Option Nat :=
  ((g.neighbours.filter fun x => !isNextHop g x.addr).foldl (fun (best : Option Neighbour) x =>
    match best with
    | some b => if x.heardAt < b.heardAt then some x else some b
    | none => some x) none).map Neighbour.addr

/-- All carriers of a band. -/
def allCarriers (k : Nat) : BitVec 96 := BitVec.ofNat 96 (2 ^ k - 1)

/-- A neighbour is heard; a new one is entered, evicting if the table of 512 is full, or refused (R342). -/
def hear (n rtc a carriers : Nat) (g : Gplc) : Gplc :=
  if (g.neighbour a).isSome then onNeighbour a (fun x => { x with heardAt := n, heardRtc := rtc }) g
  else
    let x : Neighbour := { addr := a, carriers := allCarriers carriers, mapAt := n, heardAt := n, heardRtc := rtc }
    if g.neighbours.length < 512 then { g with neighbours := g.neighbours ++ [x] }
    else match evictNeighbour g with
      | some e => { g with neighbours := g.neighbours.filter (·.addr ≠ e) ++ [x] }
      | none => { g with refused := g.refused + 1 }

/-- Frame error rate over the last 32 unicast transmissions, ‰ (R342). -/
def frameErrorRate (x : Neighbour) : Nat :=
  if x.tx.isEmpty then 0 else (x.tx.filter (!·)).length * 1000 / x.tx.length

/-- The transmit level in 0.01 dB above 1 mV p-p (R341): the driver's 14 V p-p (R449) less GPLC_TX_ATTEN. -/
def transmitLevel (d : Dev) : Int := 8292 - 100 * (d.nat Param.GPLC_TX_ATTEN : Int)

/-- A mains period in µs (R349). -/
def mainsPeriod (d : Dev) : Nat := if d.nat Param.NOMINAL_F = 1 then 16700 else 20000

/-- What a transmission lasts (R349): a train of extended interleaving is padded to one mains period. -/
def sentMicros (d : Dev) (ext : Bool) (x : Sent) : Nat := if ext then max x.us (mainsPeriod d) else x.us

/-- Time from the latest positive zero crossing of UG1 to `us` µs after tick n, in 2⁻¹⁶ µs; a crossing is referred to the grid
itself, 25.04 frames before its sample (R149, R346). -/
def sinceCrossing (n us : Nat) (d : Dev) : Int :=
  (65536 * (125 * n + us + 3130) : Nat) - (125 * (nth {} d.metr.grid.phases 0).crossAt : Nat)

/-- The phase detection counter of a frame whose preamble starts then, in µs within a period of the grid (R346); IEEE 1901.2
gives the units in which it is sent. -/
def phaseCounter (n us : Nat) (d : Dev) : Nat :=
  let f := d.metr.grid.freq
  if f = 0 then 0 else ((sinceCrossing n us d * f) % 65536000000000 / (65536 * f)).toNat

/-- A unicast transmission to a neighbour ends (R340, R342): three unacknowledged in a row make its tone map stale. A train
counts once (R349). -/
def transmitted (ok : Bool) (x : Neighbour) : Neighbour :=
  let tx := (ok :: x.tx).take 32
  { x with tx := tx, txMode := min 32 (x.txMode + 1), stale := x.stale || decide (tx.take 3 = [false, false, false]) }

/-- Extended interleaving starts or stops (R348): the rate at or above the threshold starts it; below half of it over
transmissions made in the mode stops it (log entry 36). -/
def extWanted (d : Dev) (x : Neighbour) : Bool :=
  let fer := frameErrorRate { x with tx := if x.extInUse then x.tx.take x.txMode else x.tx }
  let thr := 10 * d.nat Param.GPLC_EXT_IL_FER
  decide (d.nat Param.GPLC_EXT_IL = 1) && x.extCap &&
    (if x.extInUse then decide (x.txMode < 32) || decide (thr ≤ 2 * fer) else decide (thr ≤ fer))

/-- EXT_IL_CHANGED where extended interleaving towards a neighbour starts or stops (R348). -/
def extStep (a : Nat) (d : Dev) : Dev :=
  match d.gplc.neighbour a with
  | some x =>
    if extWanted d x = x.extInUse then d
    else
      ({ d with gplc := onNeighbour a (fun x => { x with extInUse := extWanted d x, txMode := 0 }) d.gplc }).raise
        Src.grid Event.EXT_IL_CHANGED (leBytes 2 a ++ leBytes 1 (if x.extInUse then 0 else 1))
  | none => d

/-- Every neighbour after a commit of GPLC_EXT_IL or GPLC_EXT_IL_FER (R348). -/
def extStepAll (d : Dev) : Dev := d.gplc.neighbours.foldl (fun d x => extStep x.addr d) d

/-- The modulation sent to a neighbour (R340): ROBO while its tone map is stale, and for every broadcast. -/
def modulationTo (x : Option Neighbour) : Nat :=
  match x with
  | some x => if x.stale then 0 else x.modulation
  | none => 0

/-- Cm of R343; a stale tone map is sent in ROBO (R340). -/
def modulationCost (m : Nat) : Nat :=
  match m with
  | 6 => 1 | 3 => 2 | 5 => 2 | 2 => 3 | 4 => 4 | 1 => 5 | _ => 12

/-- Set bits of a carrier bitmap within the band. -/
def carriersUsed (d : Dev) (b : BitVec 96) : Nat := ((List.range (carriersOf d)).filter fun i => b.getLsbD i).length

/-- The link cost to a neighbour (R343). -/
def linkCost (d : Dev) (x : Neighbour) : Nat :=
  let k := carriersOf d
  min 255 (modulationCost (modulationTo (some x)) + 8 * (k - carriersUsed d x.carriers) / k +
    (60 - x.lqi) / 4 + (if x.extInUse then 8 else 0))

/-- Age of a tone map in frames. -/
def mapAge (n : Nat) (x : Neighbour) : Nat := n - x.mapAt

/-- The 32 bytes of a neighbour entry (R342). -/
def neighbourBytes (n : Nat) (d : Dev) (x : Neighbour) : List Byte :=
  leBytes 2 x.addr ++ leBytes 1 x.modulation ++
    leBytes 1 ((if x.kilurmos then 1 else 0) + (if x.extInUse then 2 else 0) +
      (if isNextHop d.gplc x.addr then 4 else 0) + (if x.stale then 8 else 0)) ++
    leBytes 12 (x.carriers &&& allCarriers (carriersOf d)).toNat ++ leBytes 1 x.gain ++ leBytes 1 x.lqi ++ leBytes 1 (linkCost d x) ++
    leBytes 1 x.phase ++ leBytes 4 (mapAge n x / 8000) ++ leBytes 4 x.heardRtc ++
    leBytes 2 (frameErrorRate x) ++ [0, 0]

/-- TONE_MAP_RESPONSE (R339, R340, R348): the neighbour's entry is refreshed; a modulation that the part does not
support is not taken. -/
def toneMapEff (n : Nat) (t : ToneMap) (d : Dev) : Dev :=
  if 6 < t.modulation then d
  else
    let g := hear n d.tar.rtc t.sender (carriersOf d) d.gplc
    let g := onNeighbour t.sender (fun x => { x with
      modulation := t.modulation, carriers := t.carriers &&& allCarriers (carriersOf d), gain := t.gain, mapAt := n,
      asked := false, stale := false, extCap := t.extCapable, kilurmos := x.kilurmos || t.extCapable,
      peerUg1 := t.peerUg1 }) g
    extStep t.sender { d with gplc := g }

/-- The modem works (R350, R351). -/
def modemUp (d : Dev) : Bool :=
  d.unitOn 1 && decide (d.gplc.st = 1 ∨ d.gplc.st = 2) && !d.pow.modemShed && !d.pow.badParts.getLsbD 0

/-- TONE_MAP_RESPONSE. -/
def execToneMapResponse (t : ToneMap) (s : State) : Out :=
  protoStep s (Dev.when (s.clk.running && modemUp s.dev) (toneMapEff s.clk.frame t))

/-- TONE_MAP_AGE (R340): at GPLC_TMR_TTL a request goes with the next unicast frame; at twice the age the map is stale. -/
def mapAgeEff (n a : Nat) (d : Dev) : Dev :=
  let ttl := secs (60 * d.nat Param.GPLC_TMR_TTL)
  { d with gplc := onNeighbour a (fun x =>
      if 2 * ttl ≤ mapAge n x then { x with stale := true, asked := true }
      else if ttl ≤ mapAge n x then { x with asked := true } else x) d.gplc }

/-- TONE_MAP_AGE. -/
def execToneMapAge (addr : Nat) (s : State) : Out := protoStep s (mapAgeEff s.clk.frame addr)

/-! Phase detection (R346, R347). -/

/-- The vote of a frame (R346): 0, 1, 2, or 255 undecided. `elapsed` is e_own − e_snd in 2⁻¹⁶ µs; θ ÷ 360° is that time over
the period, so that 30° are a twelfth of it. -/
def phaseVote (freqMhz : Nat) (elapsed : Int) : Nat :=
  let turn : Int := 65536000000000
  let x := 12 * ((elapsed * freqMhz) % turn)
  let near (k : Int) : Bool :=
    let y := (x - 4 * turn * k) % (12 * turn)
    decide (y ≤ turn) || decide (11 * turn ≤ y)
  if near 0 then 0 else if near 1 then 1 else if near 2 then 2 else 255

/-- A vote is counted (R346): k is decided at 8 of the last 10 and stays until another value reaches 8. -/
def countVote (v : Nat) (x : Neighbour) : Neighbour :=
  let votes := (v :: x.votes).take 10
  let won := [0, 1, 2].find? fun k => decide (8 ≤ (votes.filter (· = k)).length)
  { x with votes := votes, phase := won.getD x.phase }

/-- PHASE_NEIGHBOUR_CHANGED when a decided offset changes (R346). -/
def voteStep (a v : Nat) (d : Dev) : Dev :=
  match d.gplc.neighbour a with
  | some x =>
    let y := countVote v x
    let d := { d with gplc := onNeighbour a (countVote v) d.gplc }
    if y.phase = x.phase then d
    else d.raise Src.grid Event.PHASE_NEIGHBOUR_CHANGED (leBytes 2 a ++ leBytes 1 x.phase ++ leBytes 1 y.phase)
  | none => d

/-- The route to the PAN coordinator (R344). -/
def coordRoute (g : Gplc) : Option Route := g.routes.find? (·.coordinator)

/-- Network phase of UG1 and its source (R347): 0 unknown. -/
def ug1Net (d : Dev) : Nat × Nat :=
  let set := d.nat Param.PHASE_REF_SET
  if set ≠ 0 then (set, 1)
  else match coordRoute d.gplc with
    | none => (0, 0)
    | some r =>
      let at_ (k : Nat) := 1 + (3 - k) % 3
      match (d.gplc.neighbour r.dest).filter (·.phase < 3) with
      | some x => (at_ x.phase, 2)
      | none =>
        match (d.gplc.neighbour r.next).filter (fun x => x.kilurmos && decide (x.phase < 3) && decide (x.peerUg1 ≠ 0)) with
        | some x => (1 + (x.peerUg1 - 1 + 3 - x.phase) % 3, 3)
        | none => (0, 0)

/-- PHASE_MAP (R347). -/
def phaseMapOf (d : Dev) : Word :=
  let u := ug1Net d
  if u.1 = 0 then 0
  else
    let after (k : Nat) := 1 + (u.1 - 1 + (if d.metr.wrongSeq.isOpen then 3 - k else k)) % 3
    let others := if d.nat Param.WIRING = 1 then 0 else 4 * after 1 + 16 * after 2
    BitVec.ofNat 32 (u.1 + others + 64 * u.2)

/-- PHASE_MAP_CHANGED (R347). -/
def phaseMapStep (d : Dev) : Dev :=
  let m := phaseMapOf d
  if m = d.gplc.phaseMap then d
  else ({ d with gplc := { d.gplc with phaseMap := m } }).raise Src.grid Event.PHASE_MAP_CHANGED
    (leBytes 4 d.gplc.phaseMap.toNat ++ leBytes 4 m.toNat)

/-- A packet reached, or came from, the coordinator (R350). -/
def coordHeard (n : Nat) (d : Dev) : Gplc := { d.gplc with lastCoord := n, lastCoordRtc := d.tar.rtc }

/-- The Morust element that a tone map response carries (R348): the capability for extended interleaving and UG1_NET. -/
def morustElement (d : Dev) : Bool × Nat := (decide (d.nat Param.GPLC_EXT_IL = 1), (phaseMapOf d).toNat % 4)

/-- GPLC_FRAME_RECEIVED (R342, R345, R346, R348, R350): counted; the neighbour is heard, votes, its packet is forwarded, and a
tone map request answered with the Morust element. -/
def frameEff (n : Nat) (f : GplcFrame) (d : Dev) : Dev :=
  if !f.securityOk then { d with gplc := countRx 1 d.gplc }
  else
    let g := hear n d.tar.rtc f.sender (carriersOf d) (countRx (if f.duplicate then 2 else 0) d.gplc)
    let g := onNeighbour f.sender (fun x => { x with lqi := f.lqi, kilurmos := x.kilurmos || f.kilurmos
                                                     extCap := x.extCap || f.extIl }) g
    let g := if f.fromCoordinator then coordHeard n { d with gplc := g } else g
    let g := if f.asksMap then { g with morust := some (f.sender, morustElement d) } else g
    let g := if f.forward && !f.duplicate && decide (d.nat Param.GPLC_ROUTER = 1) then
        enqueue 2 { kind := .forwarded, dest := f.dest, at_ := n } g else g
    let d := { d with gplc := g }
    let d := if d.metr.grid.freq = 0 then d
      else voteStep f.sender (phaseVote d.metr.grid.freq (sinceCrossing n f.preUs d - 65536 * f.eSndUs)) d
    phaseMapStep (extStep f.sender d)

/-- GPLC_FRAME_RECEIVED. -/
def execGplcFrameReceived (g : GplcFrame) (s : State) : Out :=
  protoStep s (Dev.when (s.clk.running && modemUp s.dev) (frameEff s.clk.frame g))

/-! Routes (R343 to R345). -/

/-- The route to a destination. -/
def Gplc.route (g : Gplc) (dest : Nat) : Option Route := g.routes.find? (·.dest = dest)

/-- The link cost to the node a message came from, with the penalty of its hop (R343). -/
def hopCost (d : Dev) (a : Nat) : Nat := (d.gplc.neighbour a).elim 255 (linkCost d) + d.nat Param.GPLC_HOP_PENALTY

/-- A new route replaces the one held (R344): none held, failed, cheaper among the replies to one request, or at least
10 % cheaper. -/
def replaces (old : Option Route) (cost : Nat) : Bool :=
  match old with
  | none => true
  | some r => r.failed || (if r.fresh then decide (cost < r.cost) else decide (10 * cost ≤ 9 * r.cost))

/-- The route used least recently that is not the coordinator's (R344). -/
def evictRoute (l : List Route) : Option Nat :=
  ((l.filter (!·.coordinator)).foldl (fun (best : Option Route) r =>
    match best with
    | some b => if r.lastUse < b.lastUse then some r else some b
    | none => some r) none).map Route.dest

/-- Install a route; the table holds 1,024 (R344). -/
def installRoute (r : Route) (g : Gplc) : Gplc :=
  let rest := g.routes.filter (·.dest ≠ r.dest)
  let rest := if rest.length < 1024 then rest else
    match evictRoute rest with
    | some e => rest.filter (·.dest ≠ e)
    | none => rest
  { g with routes := rest ++ [r], discovery := g.discovery.filter (· ≠ r.dest) }

/-- The route cost that a message has gathered here: what it carries, with the link it came over (R343). -/
def gathered (d : Dev) (m : RouteMsg) : Nat := m.cost + hopCost d m.prevHop

/-- A route learnt from a message: to `dest` through the node it came from, never longer than GPLC_MAX_HOPS (R344). One that
confirms the next hop of the route held renews that route's expiry (DESIGN CHOICE, log entry 161). -/
def learnRoute (n dest : Nat) (m : RouteMsg) (coordinator : Bool) (d : Dev) : Dev :=
  let old := d.gplc.route dest
  let ttl := 60 * d.nat Param.GPLC_ROUTE_TTL
  if d.nat Param.GPLC_MAX_HOPS < m.hops + 1 then d
  else if replaces old (gathered d m) then
    let r : Route :=
      { dest := dest, next := m.prevHop, cost := gathered d m, hops := m.hops + 1
        coordinator := coordinator || old.any Route.coordinator
        expiry := n + secs ttl, expiryRtc := d.tar.rtc + ttl, lastUse := n
        fresh := d.gplc.discovery.contains dest || old.any Route.fresh }
    { d with gplc := installRoute r d.gplc }
  else if old.any (fun r => decide (r.next = m.prevHop)) then
    { d with gplc := { d.gplc with
        discovery := d.gplc.discovery.filter (· ≠ dest)
        routes := d.gplc.routes.map fun r =>
          if r.dest = dest then { r with expiry := n + secs ttl, expiryRtc := d.tar.rtc + ttl } else r } }
  else d

/-- The controller's own short address. -/
def ownAddr (g : Gplc) : Option Nat := g.pan.map Prod.snd

/-- ROUTE_REQUEST (R343 to R345): the way back is learnt; answered when addressed to the controller, forwarded by a router
within the longest route. The message sent carries the link cost of the hop it came over (log entry 162). -/
def routeRequestEff (n : Nat) (m : RouteMsg) (d : Dev) : Dev :=
  let router := decide (d.nat Param.GPLC_ROUTER = 1)
  let mine := decide (ownAddr d.gplc = some m.dest)
  if mine || router then
    let d := learnRoute n m.origin m false d
    if mine then { d with gplc := enqueue 1 ⟨.own, some m.origin, n, some (hopCost d m.prevHop)⟩ d.gplc }
    else if m.hops + 1 < d.nat Param.GPLC_MAX_HOPS then { d with gplc := enqueue 2 ⟨.forwarded, none, n, some (gathered d m)⟩ d.gplc }
    else d
  else d

/-- ROUTE_REPLY (R344, R345): for a request of the controller, or of a node it routes for. -/
def routeReplyEff (n : Nat) (m : RouteMsg) (d : Dev) : Dev :=
  let mine := decide (ownAddr d.gplc = some m.origin)
  if mine || decide (d.nat Param.GPLC_ROUTER = 1) then
    let d := learnRoute n m.dest m m.toCoordinator d
    if mine then d else { d with gplc := enqueue 2 ⟨.forwarded, some m.origin, n, some (gathered d m)⟩ d.gplc }
  else d

/-- A member of the PAN with its modem working. -/
def joined (s : State) : Bool := s.clk.running && modemUp s.dev && decide (s.dev.gplc.st = 2)

/-- ROUTE_REQUEST. -/
def execRouteRequest (r : RouteMsg) (s : State) : Out := protoStep s (Dev.when (joined s) (routeRequestEff s.clk.frame r))

/-- ROUTE_REPLY. -/
def execRouteReply (r : RouteMsg) (s : State) : Out := protoStep s (Dev.when (joined s) (routeReplyEff s.clk.frame r))

/-- A discovery begins with a route request sent by broadcast; its replies are compared among themselves (R344). -/
def discover (n dest : Nat) (g : Gplc) : Gplc :=
  if g.discovery.contains dest then g
  else enqueue 1 ⟨.own, none, n, some 0⟩ { g with
    discovery := g.discovery ++ [dest]
    routes := g.routes.map fun r => if r.dest = dest then { r with fresh := false } else r }

/-- ROUTE_EXPIRY (R344): the coordinator's route is discovered again, another is removed. -/
def routeExpiryEff (n dest : Nat) (d : Dev) : Dev :=
  match d.gplc.route dest with
  | some r =>
    if r.expiry ≤ n then
      if r.coordinator then { d with gplc := discover n dest d.gplc }
      else { d with gplc := { d.gplc with routes := d.gplc.routes.filter (·.dest ≠ dest) } }
    else d
  | none => d

/-- ROUTE_EXPIRY. -/
def execRouteExpiry (dest : Nat) (s : State) : Out := protoStep s (routeExpiryEff s.clk.frame dest)

/-- The 16 bytes of a route entry (R344). -/
def routeBytes (r : Route) : List Byte :=
  leBytes 2 r.dest ++ leBytes 2 r.next ++ leBytes 2 r.cost ++ leBytes 1 r.hops ++
    leBytes 1 (if r.coordinator then 1 else 0) ++ leBytes 4 r.expiryRtc ++ [0, 0, 0, 0]

/-! Membership (R350, R351). -/

/-- The held identifiers may be used for a fast rejoin (R350): the time since the coordinator was heard is that of the RTC, as
no frames run over a stop. -/
def fastRejoin (d : Dev) : Bool :=
  d.gplc.pan.isSome && decide (d.tar.rtc < d.gplc.lastCoordRtc + 60 * d.nat Param.GPLC_PAN_LOSS)

/-- Bootstrapping gives the group key, which slot 11 takes (R339, R397). -/
def groupKeyHeld (key : List Byte) (d : Dev) : Dev :=
  { d with keys := { d.keys with
      slots := updAt d.keys.slots 11 fun k => ⟨3, k.generation + 1, Config.keyCheck (slice key 0 16), slice key 0 16⟩ } }

/-- GPLC_JOINED (R350): with the identifiers assigned, and by bootstrapping with the group key. -/
def joinedEff (n panId short : Nat) (fast : Bool) (groupKey : List Byte) (d : Dev) : Dev :=
  let d := if fast then d else groupKeyHeld groupKey d
  ({ d with gplc := { coordHeard n d with
      st := 2, pan := some (panId, short), bootDelay := 60, bootAt := none } }).raise Src.grid
    Event.GPLC_JOINED (leBytes 2 panId ++ leBytes 2 short ++ leBytes 1 (if fast then 1 else 0))

/-- GPLC_JOINED is possible: joining, with no refused bootstrap that waits; a fast rejoin with the identifiers held. -/
def joinDue (n panId short : Nat) (fast : Bool) (d : Dev) : Bool :=
  decide (d.gplc.st = 1) && modemUp d &&
    (if fast then fastRejoin d && decide (d.gplc.pan = some (panId, short)) else d.gplc.bootAt.all fun f => decide (f ≤ n))

/-- GPLC_JOINED. -/
def execGplcJoined (panId short : Nat) (fast : Bool) (groupKey : List Byte) (s : State) : Out :=
  protoStep s (Dev.when (s.clk.running && joinDue s.clk.frame panId short fast s.dev)
    (joinedEff s.clk.frame panId short fast groupKey))

/-- The controller leaves its PAN and bootstraps (R339, R350). -/
def leavePan (d : Dev) : Dev :=
  { d with gplc := { d.gplc with st := if d.gplc.st = 2 then 1 else d.gplc.st, pan := none, routes := [], discovery := [] } }

/-- GPLC_PAN_LOST is due (R350). -/
def panLostDue (n : Nat) (d : Dev) : Bool :=
  decide (d.gplc.st = 2) && decide (d.gplc.lastCoord + secs (60 * d.nat Param.GPLC_PAN_LOSS) ≤ n)

/-- GPLC_PAN_LOST (R350). -/
def panLostEff (n : Nat) (d : Dev) : Dev :=
  (leavePan d).raise Src.grid Event.GPLC_PAN_LOST (leBytes 4 ((n - d.gplc.lastCoord) / secs 60))

/-- GPLC_PAN_LOST. -/
def execGplcPanLost (s : State) : Out := protoStep s (Dev.when (panLostDue s.clk.frame s.dev) (panLostEff s.clk.frame))

/-- BOOTSTRAP_RETRY is due (R350): no retry waits, or its time has come. -/
def bootDue (n : Nat) (d : Dev) : Bool :=
  decide (d.gplc.st = 1) && modemUp d &&
    (match d.gplc.bootAt with
     | some f => decide (f ≤ n)
     | none => true)

/-- BOOTSTRAP_RETRY (R350): the next retry comes after a delay that doubles up to 3,600 s. -/
def bootEff (n : Nat) (d : Dev) : Dev :=
  { d with gplc := { d.gplc with
      bootAt := some (n + secs d.gplc.bootDelay), bootDelay := min 3600 (2 * d.gplc.bootDelay) } }

/-- BOOTSTRAP_RETRY. -/
def execBootstrapRetry (s : State) : Out :=
  protoStep s (Dev.when (s.clk.running && bootDue s.clk.frame s.dev) (bootEff s.clk.frame))

/-- The last gasp is handed to the host: LAST_GASP with frame and RTC time, its interrupt bit (R54, R99). -/
def hostGasp (n : Nat) (d : Dev) : Dev :=
  (d.raise Src.own Event.LAST_GASP (leBytes 8 n ++ leBytes 4 d.tar.rtc)).irq 0x80#9

/-- A grid last gasp is abandoned (R355): logged, and handed to the host. -/
def abandonGasp (n : Nat) (d : Dev) : Dev :=
  if d.gplc.gasp = 1 then
    hostGasp n (({ d with gplc := { d.gplc with gasp := 3 } }).raise Src.grid Event.LAST_GASP_ABANDONED [])
  else d

/-- The last gasp as a packet (R352, R355). -/
def isGasp (p : Packet) : Bool := decide (p.kind = .gasp)

/-- The gasp leaves queue 0 under a counter. -/
def takeGasp (j : Nat) (g : Gplc) : Gplc :=
  if (g.queue 0).any isGasp then countQ 0 j 1 (g.setQueue 0 ((g.queue 0).filter fun p => !isGasp p)) else g

/-- The lead resets the modem (R351): every queued packet dropped with cause MODEM, a last gasp handed to the host;
more than three resets within an hour leave it in fault. -/
def modemReset (n : Nat) (d : Dev) : Dev :=
  let d := abandonGasp n { d with gplc := dropAll 6 d.gplc }
  let resets := n :: d.gplc.resets.filter fun f => decide (n < f + secs 3600)
  if 3 < resets.length then
    ({ d with gplc := { d.gplc with resets := resets, st := 3, faultSince := n } }).raise Src.grid
      Event.GPLC_MODEM_FAULT []
  else { d with gplc := { d.gplc with resets := resets } }

/-- MODEM_HEARTBEAT_MISS (R351): 80 frames without an answer. -/
def execModemHeartbeatMiss (frames : Nat) (s : State) : Out :=
  devStep s (Dev.when (s.clk.running && modemUp s.dev && decide (80 ≤ frames)) (modemReset s.clk.frame))

/-- A modem left in fault is tried again (R351). -/
def modemRetry (d : Dev) : Dev :=
  if d.gplc.st = 3 then { d with gplc := { d.gplc with st := 1, resets := [], bootAt := none, bootDelay := 60 } } else d

/-- GPLC_MODEM_RETRY (R351): after 24 h. -/
def execGplcModemRetry (s : State) : Out :=
  devStep s (Dev.when (decide (s.dev.gplc.faultSince + dayFrames ≤ s.clk.frame)) modemRetry)

/-! Queues (R352 to R354). -/

/-- A queue is served only when every queue above it is empty (R352), one held by TEST_GPLC_HOLD counting as empty
(R464). Its packet of frame n goes to the link at n+1 at the earliest (R31). -/
def queueServed (n q : Nat) (d : Dev) : Bool :=
  decide (q < 3) && (d.gplc.queue q).head?.any (fun p => decide (p.at_ < n)) && !d.diag.gplcHold.testBit q &&
    (List.range q).all fun j => (d.gplc.queue j).isEmpty || d.diag.gplcHold.testBit j

/-- The next hop of a packet: along its route; none for a broadcast (R353). -/
def packetHop (g : Gplc) (p : Packet) : Option Nat := p.dest.bind fun a => (g.route a).map Route.next

/-- A MAC frame has been sent in frame n (R340, R341, R346, R349), to a neighbour or by broadcast: with extended interleaving
in use as one train, else as one PHY frame; a neighbour's entry learns how it ended, and a tone map request due rode with
it. -/
def sendDone (n : Nat) (hop : Option Nat) (d : Dev) (x : Sent) : Dev :=
  let peer := hop.bind d.gplc.neighbour
  let ext := peer.any Neighbour.extInUse
  let d := { d with gplc := { d.gplc with
    txLevel := transmitLevel d, txFrames := if ext then x.phy else 1, txMicros := sentMicros d ext x
    txMod := modulationTo peer, txPhase := phaseCounter n x.preUs d, txAsk := peer.any Neighbour.asked } }
  match hop with
  | some a => extStep a { d with gplc := onNeighbour a (fun y => { transmitted x.acked y with asked := false }) d.gplc }
  | none => d

/-- The transmissions of a packet end, retries among them: to its next hop, or by broadcast. -/
def hopDone (n : Nat) (sends : List Sent) (p : Packet) (d : Dev) : Dev :=
  if p.dest.isSome ∧ packetHop d.gplc p = none then d else sends.foldl (sendDone n (packetHop d.gplc p)) d

/-- The route of a packet can be used: it goes by broadcast, or its route has not failed (R344). -/
def routeUsable (q : Nat) (d : Dev) : Bool :=
  (d.gplc.queue q).head?.all fun p => p.dest.all fun a => (d.gplc.route a).all fun r => !r.failed

/-- A packet reached the coordinator (R350). -/
def toCoordinator (g : Gplc) (p : Packet) : Bool := decide (p.dest.isSome) && decide ((coordRoute g).map Route.dest = p.dest)

/-- PACKET_DELIVERED (R353): the head of the queue, with the transmissions of its fragments. -/
def deliverEff (n q : Nat) (sends : List Sent) (d : Dev) : Dev :=
  match d.gplc.queue q with
  | p :: rest =>
    if isGasp p then d
    else
      let d := hopDone n sends p { d with gplc := countQ q 1 1 (d.gplc.setQueue q rest) }
      let g := if toCoordinator d.gplc p then coordHeard n d else d.gplc
      { d with gplc := { g with
          routes := d.gplc.routes.map fun r => if some r.dest = p.dest then { r with lastUse := n, fresh := false } else r } }
  | [] => d

/-- PACKET_DELIVERED. -/
def execPacketDelivered (q : Nat) (sends : List Sent) (s : State) : Out :=
  protoStep s (Dev.when (s.clk.running && modemUp s.dev && queueServed s.clk.frame q s.dev && routeUsable q s.dev)
    (deliverEff s.clk.frame q sends))

/-- PACKET_DROPPED (R344, R353): retries exhausted fail the route, which is discovered again; or discovery failed. A
last gasp dropped so is handed to the host as well (log entry 37). -/
def dropEff (n q : Nat) (noRoute : Bool) (sends : List Sent) (d : Dev) : Dev :=
  match d.gplc.queue q with
  | p :: rest =>
    let d := { d with gplc := countQ q (if noRoute then 3 else 2) 1 (d.gplc.setQueue q rest) }
    let d := if noRoute then d else hopDone n sends p d
    let d := match p.dest with
      | some a =>
        if noRoute then { d with gplc := { d.gplc with discovery := d.gplc.discovery.filter (· ≠ a) } }
        else { d with gplc := discover n a { d.gplc with
          routes := d.gplc.routes.map fun r => if r.dest = a then { r with failed := true } else r } }
      | none => d
    if isGasp p then abandonGasp n d else d
  | [] => d

/-- PACKET_DROPPED. -/
def execPacketDropped (q : Nat) (noRoute : Bool) (sends : List Sent) (s : State) : Out :=
  protoStep s (Dev.when (s.clk.running && modemUp s.dev && queueServed s.clk.frame q s.dev && (noRoute || routeUsable q s.dev))
    (dropEff s.clk.frame q noRoute sends))

/-- QUEUE_TIMEOUT (R352, R353): the oldest packet that exceeded its queue's limit. -/
def timeoutEff (n q : Nat) (d : Dev) : Dev :=
  match (d.gplc.queue q).find? fun p => !isGasp p && decide (p.at_ + queueLimit q ≤ n) with
  | some p => { d with gplc := countQ q 4 1 (d.gplc.setQueue q ((d.gplc.queue q).erase p)) }
  | none => d

/-- QUEUE_TIMEOUT. -/
def execQueueTimeout (q : Nat) (s : State) : Out := devStep s (Dev.when (decide (q < 3)) (timeoutEff s.clk.frame q))

/-! The last gasp (R54, R355). -/

/-- The destination of the controller's own packets: the coordinator, along its route. -/
def gaspDest (g : Gplc) : Option Nat := (coordRoute g).map Route.dest

/-- The neighbour with the lowest link cost (R355). -/
def bestNeighbour (d : Dev) : Option Nat :=
  (d.gplc.neighbours.foldl (fun (best : Option Neighbour) x =>
    match best with
    | some b => if linkCost d x < linkCost d b then some x else some b
    | none => some x) none).map Neighbour.addr

/-- The next hop of the last gasp (R355): along the existing route to the coordinator, else the neighbour with the lowest link
cost. -/
def gaspHop (d : Dev) : Option Nat :=
  match (coordRoute d.gplc).filter (!·.failed) with
  | some r => some r.next
  | none => bestNeighbour d

/-- The last gasp enters queue 0 first with its content (R355, R362); a full queue rejects it and it goes to the host. -/
def queueGasp (n : Nat) (energy : Nat) (d : Dev) : Dev :=
  let g := { d.gplc with gaspFrame := n, gaspRtc := d.tar.rtc, gaspEnergy := energy }
  if (g.queue 0).length < queueCap 0 then
    { d with
      gplc := { countQ 0 0 1 (g.setQueue 0 ({ kind := .gasp, dest := gaspDest g, at_ := n } :: g.queue 0)) with gasp := 1 }
      dlms := { d.dlms with icTx := updAt d.dlms.icTx 0 (· + 1) } }
  else hostGasp n (({ d with gplc := { countQ 0 7 1 g with gasp := 3 } }).raise Src.grid Event.LAST_GASP_ABANDONED [])

/-- LAST_GASP_SENT is possible: released at h+1, acknowledged by h+400 (R54, R355). -/
def gaspSentDue (n : Nat) (d : Dev) : Bool :=
  decide (d.gplc.gasp = 1) && decide (d.gplc.gaspFrame < n) && decide (n ≤ d.gplc.gaspFrame + 400) && modemUp d

/-- LAST_GASP_SENT (R355): the next hop has acknowledged it. -/
def gaspSent (n : Nat) (d : Dev) : Dev :=
  let g := (gaspHop d).elim d.gplc fun a => onNeighbour a (transmitted true) d.gplc
  ({ d with gplc := { takeGasp 1 g with gasp := 2 } }).raise Src.grid Event.LAST_GASP_SENT
    (leBytes 4 (n - d.gplc.gaspFrame))

/-- LAST_GASP_SENT. -/
def execLastGaspSent (s : State) : Out :=
  devStep s (Dev.when (s.clk.running && gaspSentDue s.clk.frame s.dev) (gaspSent s.clk.frame))

/-- LAST_GASP_ABANDONED (R355): dropped with cause TIMEOUT and handed to the host. -/
def gaspTimeout (n : Nat) (d : Dev) : Dev := abandonGasp n { d with gplc := takeGasp 4 d.gplc }

/-- LAST_GASP_ABANDONED is due (R355): no acknowledgement by frame h+400, or the airtime that the modem computes, with the
acknowledgement, does not end before it. -/
def gaspLate (n airUs : Nat) (d : Dev) : Bool :=
  decide (d.gplc.gasp = 1) && decide (125 * (d.gplc.gaspFrame + 400) ≤ 125 * n + airUs)

/-- LAST_GASP_ABANDONED. -/
def execLastGaspAbandoned (airUs : Nat) (s : State) : Out :=
  devStep s (Dev.when (s.clk.running && gaspLate s.clk.frame airUs s.dev) (gaspTimeout s.clk.frame))

/-- MODEM_SHED is due (R355): at frame h+400, or once the last gasp is resolved. -/
def modemShedDue (n : Nat) (d : Dev) : Bool :=
  decide (d.pow.st = .hold) && !d.pow.modemShed &&
    (decide (d.gplc.gasp ≠ 1) || decide (d.pow.holdFrame + 400 ≤ n))

/-- MODEM_SHED (R355): an unresolved gasp is abandoned; the rest is dropped with cause HOLD. -/
def modemShedEff (n : Nat) (d : Dev) : Dev :=
  let d := if d.gplc.gasp = 1 then gaspTimeout n d else d
  { d with gplc := dropAll 5 d.gplc, pow := { d.pow with modemShed := true } }

/-- MODEM_SHED. -/
def execModemShed (s : State) : Out :=
  devStep s (Dev.when (s.clk.running && modemShedDue s.clk.frame s.dev) (modemShedEff s.clk.frame))

/-- What a start-up does to the grid link (R350, R354): packets held at the stop count as dropped for HOLD; it rejoins
or bootstraps once NBPL runs. -/
def gridStart (d : Dev) : Dev :=
  let g := dropAll 5 d.gplc
  let keep := fastRejoin d
  let g := { g with
    st := if d.unitOn 1 && !d.pow.badParts.getLsbD 0 then 1 else 0, pan := if keep then g.pan else none
    neighbours := [], routes := [], discovery := [], resets := [], gasp := 0, bootAt := none, bootDelay := 60 }
  { d with gplc := g, pow := { d.pow with modemShed := false } }

end Sys2Proof.Machine
end

