-- ==== Sys2Proof/Machine/Logs.lean ====
section
/-!
DEFINITION. The logs (R120 to R122): a frame's events in the order of R23 become entries of the general log, of the
metrology log and of the stream.
-/

namespace Sys2Proof.Machine

/-- The event is an alarm (R120). -/
def Ev.alarm (e : Ev) : Bool := isAlarm e.code e.data && !e.mute

/-- Entries of one event from a SEQ on (R120): twelve bytes of data each, all but the last CONTINUED. -/
def eventEntries (n rtc lead : Nat) (metr : Bool) (e : Ev) : Nat → Nat → List Byte → List LogEntry
  | 0, _, _ => []
  | fuel + 1, seq, data =>
    let more := decide (12 < data.length)
    ⟨seq, n, rtc, e.code, e.src, lead, e.alarm, metr, more, data.take 12⟩ ::
      (if more then eventEntries n rtc lead metr e fuel (seq + 1) (data.drop 12) else [])

/-- Entries that an event with so many bytes of data takes (R120). -/
def entriesOf (len : Nat) : Nat := max 1 ((len + 11) / 12)

/-- Room in the metrology log for k more entries (R122), with those that the frame's events will take. -/
def metrRoom (k : Nat) (d : Dev) : Bool :=
  decide (d.log.metr.length + d.log.metrNow.foldl (fun m e => m + entriesOf e.data.length) 0 + k ≤ 1024)

/-- Stable insertion by SOURCE, the order of R23, and within a source by place. -/
def insertEv (e : Ev) : List Ev → List Ev
  | [] => [e]
  | x :: xs => if e.src < x.src ∨ (e.src = x.src ∧ e.place < x.place) then e :: x :: xs else x :: insertEv e xs

/-- Events of a frame in the order of R23: by source, within a source by arrival, but where a chapter orders them. -/
def orderEvents (es : List Ev) : List Ev := es.foldl (fun acc e => insertEv e acc) []

/-- One event enters the logs (R120, R122): into the metrology log with every entry that its data take (DESIGN CHOICE, log
entry 149). -/
def logEvent (n : Nat) (d : Dev) (e : Ev) : Dev :=
  let metr := d.log.metrNow.contains e
  let es := eventEntries n d.tar.rtc (leadCode d.lanes.acting) metr e (e.data.length + 1) d.log.nextSeq e.data
  let d := { d with
    log := { d.log with
      nextSeq := d.log.nextSeq + es.length
      general := lastN 4096 (d.log.general ++ es)
      metr := if metr then (d.log.metr ++ es).take 1024 else d.log.metr }
    win := { d.win with stream := d.win.stream ++ es } }
  if e.alarm then
    ({ d with log := { d.log with alarms := d.log.alarms ++ [e.code] } }).irq 0b1000#9
  else d

/-- SERGE_EVENT_DRAIN (R38): the lead drains SERGE's queue into the frame's events; an entry carries its stamp, and how
many entries it replaced where the queue was full. -/
def drainQueue (d : Dev) : Dev :=
  d.lanes.queue.foldl (fun d e => d.raise Src.serge e.code
      (e.data ++ leBytes 8 e.stamp ++ (if e.overflow = 0 then [] else leBytes 4 e.overflow)))
    { d with lanes := { d.lanes with queue := [] } }

/-- The events of frame n are logged in the order of R23, and the list of the frame is emptied; METR_LOG_NEAR_FULL follows
the entry that makes it 1,016 (R122). -/
def logFrame (n : Nat) (d : Dev) : Dev :=
  let es := orderEvents d.log.now
  let used := d.log.metr.length
  let d := es.foldl (logEvent n) { d with log := { d.log with now := [] } }
  let d := { d with log := { d.log with metrNow := [] } }
  if used < 1016 ∧ 1016 ≤ d.log.metr.length then
    logEvent n d (.of Src.host Event.METR_LOG_NEAR_FULL (leBytes 2 d.log.metr.length))
  else d

end Sys2Proof.Machine
end

