-- ==== Sys2Proof/Machine/ParamSets.lean ====
section
/-!
DEFINITION. Check values over a set of parameters (R170, R302, R303, R469).
-/

namespace Sys2Proof.Machine

/-- IDs of the writable parameters that carry a FLAGS bit (R111), in rising order. -/
def flaggedIds (bit : Nat) : List Nat :=
  let ids := paramTable.flatMap fun r =>
    if r.acc = 0 then [] else
      ((List.range r.n).map fun k => r.id + r.stride * k).filter fun id => (flagsOf r id).testBit bit
  (ids.foldl (fun (l : List (Nat × Unit)) id => insertId l id ()) []).map Prod.fst

/-- The value bytes of a parameter: a scalar in its length, a block or string as held (R303). -/
def valueBytes (d : Dev) (id : Nat) : List Byte :=
  match rowOf id with
  | some r => if r.ty = 0x40 ∨ r.ty = 0x30 then d.blk id else leBytesInt r.len (d.num id)
  | none => []

/-- ID, length and value of every parameter with a FLAGS bit (R170, R303). -/
def setBytes (bit : Nat) (d : Dev) : List Byte :=
  (flaggedIds bit).flatMap fun id => leBytes 2 id ++ leBytes 2 (valueBytes d id).length ++ valueBytes d id

/-- METR_SET_CHECK over the LEGAL parameters (R170). -/
def metrSetCheckOf (d : Dev) : Nat := (Config.shake256x8 (setBytes 0 d)).toNat

/-- SAFETY_CHECK over the SAFETY parameters (R303). -/
def safetyCheckOf (d : Dev) : Nat :=
  (Config.shake256x8 (asciiPad 18 "KM-7720 safety set" ++ setBytes 1 d)).toNat

end Sys2Proof.Machine
end

