-- ==== Sys2Proof/Machine/Jobs.lean ====
section
/-!
DEFINITION. The job table (R89 to R92).
-/

namespace Sys2Proof.Machine

/-- The ID of a staged entry. -/
def Staged.id : Staged → Nat
  | .num k _ => k
  | .blk k _ _ => k

/-- The parameters of a pending set (R114). -/
def Pending.ids (p : Pending) : List Nat :=
  p.entries.foldl (fun l e => if l.contains e.id then l else l ++ [e.id]) []

/-- KIND of a job (R91). -/
def JobKind.code : JobKind → Nat
  | .signing => 1 | .staging => 2 | .verify => 3 | .authSwap => 4 | .calendar => 5 | .scrub => 6 | .derive => 7

/-- A job table entry (R91). -/
def jobBytes (j : Job) : List Byte :=
  leBytes 2 j.id ++ leBytes 1 j.st ++ leBytes 1 j.owner ++ leBytes 2 j.progress ++ leBytes 1 j.result ++
    leBytes 1 j.kind.code

/-- The job table: eight entries (R91). -/
def jobTable (d : Dev) : List Byte := slice (d.acs.jobs.flatMap jobBytes) 0 64

/-- The OWNER code of an owner: 1 host, 2 head-end (R91). -/
def ownerCode : Owner → Nat
  | .host => 1
  | .headEnd _ => 2

/-- A job holds a place: running or waiting. -/
def Job.live (j : Job) : Bool := decide (j.st = 1 ∨ j.st = 2)

/-- The table with room for one more when all eight places are used (R91): R91 does not say which finished entry gives its
place; it is the one that started first, and the entries after it move up (DESIGN CHOICE, log entry 144). -/
def makeRoom (jobs : List Job) : List Job :=
  if jobs.length < 8 then jobs else jobs.eraseP fun j => !j.live

/-- Places for jobs of the host and the head-end (R89): six. -/
def jobRoom (own : Nat) (d : Dev) : Bool :=
  decide ((d.acs.jobs.filter Job.live).length < 8) &&
    (decide (own = 0) || decide ((d.acs.jobs.filter fun j => j.live && decide (j.owner ≠ 0)).length < 6))

/-- All eight places run or wait for the engine (R89). -/
def jobsFull (d : Dev) : Bool := decide (8 ≤ (d.acs.jobs.filter Job.live).length)

/-- A job starts (R89 to R91); ids rise and wrap from 0xFFFF to 1. One of the controller's own that finds eight jobs
running waits for a place (DESIGN CHOICE, log entry 145). -/
def startJob (kind : JobKind) (own arg : Nat) (d : Dev) : Dev :=
  let id := d.acs.nextJob
  let j : Job := { id := id, st := 1, owner := own, progress := 0, result := 0, kind := kind, arg := arg }
  { d with acs := { d.acs with
      jobs := if jobsFull d then d.acs.jobs else makeRoom d.acs.jobs ++ [j]
      jobsWait := if jobsFull d then d.acs.jobsWait ++ [j] else d.acs.jobsWait
      nextJob := if id = 0xFFFF then 1 else id + 1 } }

/-- The job that has waited longest takes the place that has become free (R89). -/
def takePlace (d : Dev) : Dev :=
  match d.acs.jobsWait with
  | j :: rest =>
    if jobsFull d then d
    else { d with acs := { d.acs with jobs := makeRoom d.acs.jobs ++ [j], jobsWait := rest } }
  | [] => d

/-- A job ends (R91): its entry, JOB_END and JOB_ENDED; the bulk window that it owns is freed. -/
def endJob (id st result : Nat) (d : Dev) : Dev :=
  match d.acs.jobs.find? (fun j => j.id = id && j.live) with
  | none => d
  | some j =>
    let j' := { j with st := st, result := result, progress := if st = 3 then 1000 else j.progress }
    let d := { d with acs := { d.acs with
      jobs := d.acs.jobs.map fun (k : Job) => if k.id = id then j' else k
      bulk := d.acs.bulk.filter fun b => !(decide (b.use = BulkUse.image) && decide (b.owner = id)) } }
    takePlace ((d.raise Src.own Event.JOB_ENDED
      (leBytes 2 id ++ leBytes 1 j.kind.code ++ leBytes 1 j.owner ++ leBytes 1 result)).irq 0b10#9)

/-- A job uses the crypto engine (R89, R90): signing, verification, a list swap, key derivation. -/
def JobKind.crypto : JobKind → Bool
  | .signing => true | .verify => true | .authSwap => true | .derive => true
  | .staging => false | .calendar => false | .scrub => false

/-- STATE of a live job (R12, R91): running, or waiting while the crypto engine is out of use. -/
def Job.turned (up : Bool) (j : Job) : Job := if j.live then { j with st := if j.kind.crypto && !up then 2 else 1 } else j

/-- The live job of a kind. -/
def jobOf (kind : JobKind) (d : Dev) : Option Job := d.acs.jobs.find? fun j => decide (j.kind = kind) && j.live

/-- Open a bulk operation (R98); data to the host appears in the window with the shadow. -/
def openBulk (use : BulkUse) (owner length : Nat) (data : List Byte) (toHost : Bool) (d : Dev) : Dev :=
  let b : Bulk := ⟨use, owner, 0, toHost, length, data⟩
  let d := { d with acs := { d.acs with bulk := some b } }
  if toHost then { d with win := { d.win with shadow := { d.win.shadow with
    writes := d.win.shadow.writes ++ [(0xF000, slice data 0 4096)] } } } else d

end Sys2Proof.Machine
end

