-- ==== Sys2Proof/Machine/Outputs.lean ====
section
/-!
DEFINITION. The output requests of the lanes and SERGE's latch at 75 µs (R16, R19, R25, R269): what a row of frame n
asks of the outputs is latched within that row, being in frame n (log entry 27).
-/

namespace Sys2Proof.Machine

/-- Bits of the output requests: 0 contactor quads on, 1 DC enables on, 2 pilot forced to F (R25). -/
abbrev outSafe : BitVec 3 := 0b100#3

/-- SERGE holds the safe state: its own fault, or a trip latch (R17, R270). -/
def sergeHolds (d : Dev) : Bool := d.lanes.sergeFault || decide (d.saf.trips ≠ 0)

/-- What SERGE would latch: the request, gated by the safe state and by the weld latch, which forbids energising a quad
(R270, R285). -/
def gatedRequest (d : Dev) : BitVec 3 :=
  if sergeHolds d then outSafe
  else if d.saf.weldLatch then d.lanes.request &&& 0b110#3 else d.lanes.request

/-- FAULT_N is high (R273): SERGE's halves agree, frames run with a lane holding the token, and neither SAFETY_LATCH nor the
weld latch is set. Low in every other case. -/
def faultN (s : State) : Bool :=
  !s.dev.lanes.sergeFault && s.clk.running && s.dev.lanes.token.isSome &&
    !s.dev.pow.causes.getLsbD Cause.safetyLatch && !s.dev.saf.weldLatch

/-- Disputed outputs hold their previous state (R25). -/
def disputeHold (d : Dev) (o : BitVec 3) : BitVec 3 :=
  match d.lanes.dispute with
  | some x => (o &&& ~~~ x.outputs) ||| (x.heldOut &&& x.outputs)
  | none => o

/-- CONTACTOR_CFG names a quad as fitted (R307): coil 1 always, coil 2 by bit 0. -/
def coilFitted (d : Dev) (coil : Nat) : Bool := coil = 0 || (d.nat Param.CONTACTOR_CFG).testBit 0

/-- The quads follow the latched output (R281, R332): a pull-in turns on every switch that has not failed. -/
def quadsSet (on : Bool) (d : Dev) : List QuadSw :=
  d.saf.quads.zipIdx.map fun x => { x.1 with on := on && coilFitted d (x.2 / 4) && decide (x.1.failed ≠ 1) }

/-- The latch takes an output state: an outlet that opens starts its opening check, one that closes its closing check
(R284, R285, R332). -/
def applyOutputs (n : Nat) (o : BitVec 3) (d : Dev) : Dev :=
  let old := d.lanes.outputs
  let close := o.getLsbD 0 && !old.getLsbD 0
  let opens := (old.getLsbD 0 && !o.getLsbD 0) || (old.getLsbD 1 && !o.getLsbD 1)
  let saf := d.saf
  let saf := if close then { saf with
      quads := quadsSet true d, closeAt := some n, closeOk := false, quadAt := some n, pullAt := some n
      economiser := false } else saf
  let saf := if old.getLsbD 0 && !o.getLsbD 0 then { saf with
      quads := quadsSet false d, closeAt := none, closeOk := false, quadAt := some n, pullAt := none
      economiser := false } else saf
  let saf := if opens then { saf with openAt := n, openSt := 1, openSerge := false, decayFrom := none } else saf
  { d with lanes := { d.lanes with outputs := o }, saf := saf,
           veh := { d.veh with
             latched := if o.getLsbD 2 then .forceF else d.veh.request
             applied := if o.getLsbD 2 then .forceF else d.veh.applied } }

/-- What SERGE latches: the safe state while it holds it, which no dispute delays (R25); otherwise the gated request, with
disputed outputs held. -/
def latchedNext (d : Dev) : BitVec 3 := if sergeHolds d then outSafe else disputeHold d (gatedRequest d)

/-- SERGE latches the output requests (R19, R239). -/
def latchOutputs (n : Nat) (d : Dev) : Dev := applyOutputs n (latchedNext d) d

/-- A change of the output request, latched in its frame. -/
def requestOutputs (n : Nat) (req : BitVec 3) (d : Dev) : Dev :=
  latchOutputs n { d with lanes := { d.lanes with request := req } }

/-- The safe state, which SERGE brings without waiting for a latch point: quads off, DC enables inactive, pilot forced
to F (R17, R22, R269). -/
def safeOutputs (n : Nat) (d : Dev) : Dev :=
  let d := applyOutputs n outSafe { d with lanes := { d.lanes with request := outSafe } }
  { d with veh := { d.veh with request := .forceF, applied := .forceF } }

/-- Request the outlet open: quads and DC enables off; the pilot as it is (R242). -/
def requestOpen (n : Nat) (d : Dev) : Dev := requestOutputs n (d.lanes.request &&& 0b100#3) d

/-- The AC outlet is closed, as latched. -/
def quadsOn (d : Dev) : Bool := d.lanes.outputs.getLsbD 0

/-- The DC enables are on, as latched. -/
def enablesOn (d : Dev) : Bool := d.lanes.outputs.getLsbD 1

/-- The outlet is closed, of either kind. -/
def outletShut (d : Dev) : Bool := quadsOn d || enablesOn d

/-- OUTLET_KIND is DC (R236). -/
def dcKind (d : Dev) : Bool := decide (d.nat Param.OUTLET_KIND = 1)

/-- UDC_MEAN in mV and IDC_MEAN in mA (R154, R259). -/
def udcMean (d : Dev) : Int := cdiv (mean80 d.metr.dcs.us) 1000
/-- IDC_MEAN. -/
def idcMean (d : Dev) : Int := cdiv (mean80 d.metr.dcs.is) 1000

/-- RMS of an outlet voltage over the last 160 frames, mV (R284, R285). -/
def uoRms (d : Dev) (k : Nat) : Nat := (nth {} d.metr.outlet.phases k).rms160 / 1000

/-- Phases in use: one with WIRING at 1 (R257). -/
def phasesUsed (d : Dev) : Nat := if d.nat Param.WIRING = 1 then 1 else 3

end Sys2Proof.Machine
end

