-- ==== Sys2Proof/Machine/Lock.lean ====
section
/-!
DEFINITION. The cable lock (R329 to R331): the drive, its stop, its brake and its repetition.
-/

namespace Sys2Proof.Machine

/-- The lock is fitted and its unit enabled (R65, R331). -/
def lockUsable (d : Dev) : Bool := decide (d.nat Param.LOCK_FITTED = 1) && d.unitOn 7

/-- LK_FB shows the locked position (R329). -/
def lockShown (d : Dev) : Bool := if d.nat Param.LOCK_FB_POLARITY = 1 then !d.sw.fb else d.sw.fb

/-- The lock is confirmed (R330). -/
def lockConfirmed (d : Dev) : Bool := decide (d.nat Param.LOCK_FITTED = 0) || decide (d.sw.lockSt = 2)

/-- The lock is never driven in HOLD, before Ready, nor while latched (R62, R320, R330). -/
def lockMayDrive (d : Dev) : Bool :=
  lockUsable d && !d.sw.lockLatched && decide (d.pow.st ≠ .hold) && !d.pow.starting

/-- The bridge brakes for 400 frames (R329). -/
def driveStop (n cond : Nat) (d : Dev) : Dev := { d with sw := { d.sw with bridge := 2, brakeAt := n, stopCond := cond } }

/-- A driving bridge enters UV_OFF (R324): the drive is cut and judged after its brake (R325). -/
def driveCut (n : Nat) (d : Dev) : Dev := driveStop n 5 { d with sw := { d.sw with bridgeUv := true } }

/-- A drive begins (R329); with VAUX out of range, or before the bridge has returned, it is cut at once (R324, R325). -/
def driveNow (n : Nat) (toLock second : Bool) (d : Dev) : Dev :=
  if lockMayDrive d then
    let d := { d with sw := { d.sw with
      bridge := 1, lockSt := 3, lockDir := toLock, driveAt := n, stall := 0, stopCond := 0, nextDrive := none
      repeatAt := none, secondTry := second, lockOps := d.sw.lockOps + 1 } }
    d.when (decide (d.sw.uv ≠ 0) || d.sw.bridgeUv) (driveCut n)
  else d

/-- The controller drives the lock where it is not already in the position (R254, R331). -/
def driveLock (n : Nat) (toLock : Bool) (d : Dev) : Dev :=
  if d.sw.bridge = 0 ∧ d.sw.lockSt = (if toLock then 2 else 1) then d else driveNow n toLock false d

/-- The lock is driven from the next frame's latch point on, where it is not already in the position (R254, R331). -/
def driveLockNext (toLock : Bool) (d : Dev) : Dev :=
  if !lockUsable d || (decide (d.sw.bridge = 0) && decide (d.sw.lockSt = (if toLock then 2 else 1))) then d
  else { d with sw := { d.sw with nextDrive := some toLock } }

/-- The condition that stops a drive (R329): 1 feedback, 2 stall, 3 timeout; 0 none. -/
def driveStopCond (n : Nat) (d : Dev) : Nat :=
  if d.sw.bridge ≠ 1 then 0
  else if lockShown d = d.sw.lockDir ∧ 8 ≤ d.sw.fbHeld then 1
  else if 80 ≤ d.sw.stall then 2
  else if d.sw.driveAt + ms (d.nat Param.LOCK_DRIVE_MAX) ≤ n then 3 else 0

/-- LOCK_DRIVE_STOP (R329). -/
def execLockDriveStop (s : State) : Out :=
  devStep s fun d => d.when (decide (driveStopCond s.clk.frame d ≠ 0)) (driveStop s.clk.frame (driveStopCond s.clk.frame d))

/-- A drive has failed for good (R329): FAULT, LOCK_FAULT; a protection off of the repeated drive latches the bridge. -/
def lockFault (d : Dev) : Dev :=
  let prot := decide (d.sw.stopCond = 4) && d.sw.secondTry
  let d := { d with sw := { d.sw with lockSt := 4, secondTry := false, lockLatched := d.sw.lockLatched || prot } }
  let d := if prot then d.ckptDue 5 else d
  d.raise Src.host Event.LOCK_FAULT (leBytes 1 (if d.sw.lockDir then 1 else 0) ++ leBytes 1 d.sw.stopCond)

/-- The brake ends (R329): the bridge releases and the drive is judged by LK_FB. -/
def brakeEnd (n : Nat) (d : Dev) : Dev :=
  let ok := lockShown d == d.sw.lockDir && decide (d.sw.stopCond ≠ 4)
  let d := { d with sw := { d.sw with bridge := 0 } }
  if ok then
    ({ d with sw := { d.sw with lockSt := if d.sw.lockDir then 2 else 1, secondTry := false } }).raise Src.host
      Event.LOCK_DONE (leBytes 1 (if d.sw.lockDir then 1 else 0) ++ leBytes 4 (d.sw.brakeAt - d.sw.driveAt) ++
        leBytes 1 d.sw.stopCond)
  else if d.sw.secondTry then lockFault d
  else { d with sw := { d.sw with lockSt := 0, repeatAt := some (n + 4000) } }

/-- LOCK_BRAKE_END (R329). -/
def execLockBrakeEnd (s : State) : Out :=
  devStep s fun d => d.when (decide (d.sw.bridge = 2) && decide (d.sw.brakeAt + 400 ≤ s.clk.frame)) (brakeEnd s.clk.frame)

/-- LOCK_REPEAT is due (R329). -/
def lockRepeatDue (n : Nat) (d : Dev) : Bool :=
  match d.sw.repeatAt with
  | some f => decide (f ≤ n)
  | none => false

/-- LOCK_REPEAT (R329): the failed drive once more; one that cannot start is the second failure. -/
def lockRepeat (n : Nat) (d : Dev) : Dev :=
  let d := { d with sw := { d.sw with repeatAt := none } }
  if lockMayDrive d then driveNow n d.sw.lockDir true d else lockFault d

/-- LOCK_REPEAT. -/
def execLockRepeat (s : State) : Out :=
  devStep s fun d => d.when (lockRepeatDue s.clk.frame d) (lockRepeat s.clk.frame)

/-- A drive is running: driving, braking, waiting for its repetition or for the next latch point (R331). -/
def lockBusy (d : Dev) : Bool := decide (d.sw.bridge ≠ 0) || d.sw.repeatAt.isSome || d.sw.nextDrive.isSome

/-- What a tick brings to the lock (R329): LK_FB debounced over 8 frames, the stall count after the blanking, and a
drive that the latch point starts. -/
def lockTick (n : Nat) (lkFb : Bool) (lockI : Nat) (d : Dev) : Dev :=
  let k := if lkFb = d.sw.fb then 0 else d.sw.fbCount + 1
  let accept := decide (8 ≤ k)
  let counts := decide (d.sw.bridge = 1) && decide (d.sw.driveAt + ms (d.nat Param.LOCK_STALL_BLANK) ≤ n) &&
    decide (d.nat Param.LOCK_STALL_I ≤ lockI)
  let d := { d with sw := { d.sw with
    fb := if accept then lkFb else d.sw.fb
    fbCount := if accept then 0 else k
    fbHeld := if accept then 8 else if k = 0 then d.sw.fbHeld + 1 else d.sw.fbHeld
    lockI := lockI, stall := if counts then d.sw.stall + 1 else 0 } }
  match d.sw.nextDrive with
  | some l => driveNow n l false d
  | none => d

end Sys2Proof.Machine
end

