-- ==== Sys2Proof/Machine/Session.lean ====
section
/-!
DEFINITION. The charging session (R250 to R256): its start, the record's fields, authorisation, the ordered stop, and
its end.
-/

namespace Sys2Proof.Machine

/-- End causes of R198. -/
abbrev EndCause.vehicle : Nat := 1
/-- Driver stop by card. -/
abbrev EndCause.card : Nat := 2
/-- REMOTE_STOP or STOP_REQUEST by the host. -/
abbrev EndCause.host : Nat := 3
/-- Stop by the head-end. -/
abbrev EndCause.headEnd : Nat := 4
/-- Safety trip. -/
abbrev EndCause.trip : Nat := 5
/-- Supply loss. -/
abbrev EndCause.supply : Nat := 6
/-- Reset. -/
abbrev EndCause.reset : Nat := 7
/-- Metering fault. -/
abbrev EndCause.metering : Nat := 8
/-- Degraded limit expired. -/
abbrev EndCause.degraded : Nat := 9
/-- Recovered at restart. -/
abbrev EndCause.recovered : Nat := 10
/-- Host-loss grace expired. -/
abbrev EndCause.grace : Nat := 11
/-- Keys erased. -/
abbrev EndCause.erased : Nat := 12

/-- CABLE_RATING values that are no rating (R243, R264). -/
abbrev cableInvalid : Nat := 0xFFFFFFFF

/-- The cable rating in force: of a DC outlet POST_RATING_IDC, of a tethered cable TETHERED_RATING, else the accepted
coding (R243). -/
def cableRating (d : Dev) : Nat :=
  if dcKind d then d.nat Param.POST_RATING_IDC
  else if d.nat Param.PP_MODE = 1 then d.nat Param.TETHERED_RATING else d.veh.cable

/-- The cable rating permits closing (R243). -/
def cableValid (d : Dev) : Bool := decide (cableRating d ≠ 0) && decide (cableRating d ≠ cableInvalid)

/-- A state with a vehicle connected (R250). -/
def vehConnected : PilotSt → Bool
  | .b => true
  | .c => true
  | .d => true
  | _ => false

/-- Billing channels of the outlet (R124, R138). -/
def outletChans (d : Dev) : List Nat := if dcKind d then [15, 16] else [8, 9, 10, 11, 12, 13]

/-- The first condition of R250, R162 and R402 that forbids a session: 1 host, 2 record, 3 hold-up, 4 cable, 5 keys,
6 metering, 7 update (R428), 8 firmware
(R58); 0 none (log entry 11). -/
def startFault (d : Dev) : Nat :=
  let free := decide (d.nat Param.FREE_CHARGING = 1)
  let slot := (d.led.recordNumber + 1 - 1) % 512
  if d.upd.activation.isSome then 7
  else if d.pow.badParts.getLsbD 3 || (dcKind d && d.pow.badParts.getLsbD 1) then 8
  else if !d.win.hostPresent && !free then 1
  else if d.led.records.any (fun r => decide ((r.number - 1) % 512 = slot) && decide (r.signState = 1)) then 2
  else if d.pow.recharge.isSome then 3
  else if cableRating d = cableInvalid then 4
  else if !d.keys.recordCert || decide (d.keys.identity ≠ 1) then 5
  else if (outletChans d).any (fun c => (d.chan c).faulty) then 6 else 0

/-- Frame, time, clock status and tariff of a record's start or end (R197). -/
def recordMoment (s : State) (d : Dev) : List Byte :=
  leBytes 8 s.clk.frame ++ leBytes 4 d.tar.rtc ++ leBytes 1 d.tar.status ++ leBytes 1 s.regs.tariff ++ [0, 0]

/-- The opening fields of a record body, 0x000 to 0x09F (R196, R197); the readings follow with the start frame's
checkpoint. -/
def openingBody (s : State) (d : Dev) (number : Nat) : List Byte :=
  slice (leBytes 4 0x52474F53 ++ leBytes 2 1 ++ leBytes 2 960 ++ leBytes 4 number ++
    leBytes 1 (if dcKind d then 1 else 0) ++ [0] ++ leBytes 2 d.ses.flags.toNat ++
    slice Config.serialNumber 0 16 ++ slice (d.blk Param.POST_ID) 0 24 ++
    leBytes 4 (partVersion d 1) ++ leBytes 4 (partVersion d 2) ++ leBytes 8 (metrCheck d) ++
    leBytes 8 d.metr.metrSetCheck ++ authBytes d.ses.auth ++ leBytes 4 d.keys.recordKeyId ++ recordMoment s d) 0 1024

/-- The authorisation is written into the open record (R197). -/
def recordAuth (d : Dev) : Dev :=
  if d.ses.isOpen then onRecord d.ses.number (fun r => { r with body := splice r.body 0x050 (authBytes d.ses.auth) }) d
  else d

/-- SESSION_STATE of no session (R251). -/
def idleState (d : Dev) : Nat :=
  if d.ses.waitA && vehConnected d.veh.st then 7 else if d.ses.auth.isSome then 1 else 0

/-- A card identifier or EMAID as an event item: its length, then its bytes (R470). -/
def identItem (x : List Byte) : List Byte := leBytes 1 x.length ++ x

/-- An authorisation is taken (R251, R252): for the open session, or held for the next for REMOTE_START_WINDOW. -/
def takeAuth (src means : Nat) (id : List Byte) (n : Nat) (d : Dev) : Dev :=
  let d := if d.ses.heldCard.isSome ∨ (d.ses.request.isSome ∧ means ≠ 3) then
      d.raise Src.card Event.CARD_NOT_USED [] else d
  let d := { d with
    ses := { d.ses with
      auth := some ⟨means, id, if d.ses.isOpen then none else some (n + secs (d.nat Param.REMOTE_START_WINDOW))⟩
      request := none, heldCard := none }
    veh := { d.veh with contract := if means = 1 then 2 else if d.veh.contract = 4 then 0 else d.veh.contract } }
  let d := { d with ses := { d.ses with
    st := if d.ses.isOpen then (if d.ses.st = 2 then 3 else d.ses.st) else idleState d
    grace := if d.ses.isOpen && !d.win.hostPresent && d.win.everPresent && d.ses.grace.isNone then some n
      else d.ses.grace } }
  recordAuth (d.raise src Event.AUTHORISED (leBytes 1 means ++ identItem id))

/-- Slot 12 takes a new network key from the generator at a session start, and is cleared at its end (R244, R397). -/
def drawNmk (d : Dev) : Dev :=
  let key := leBytes 16 (Config.trng d.keys.draws 16).toNat
  { d with keys := { d.keys with
      draws := d.keys.draws + 1
      slots := updAt d.keys.slots 12 fun k => ⟨2, k.generation + 1, Config.keyCheck key, key⟩ } }

/-- The network key is cleared. -/
def clearNmk (d : Dev) : Dev :=
  { d with keys := { d.keys with slots := updAt d.keys.slots 12 fun k => ⟨0, k.generation, 0, []⟩ } }

/-- A session starts (R196, R250): the record number is allocated, the session checkpoint is due, a fresh network key is
drawn, the residual and comparator tests fall due, and the mode is Session from the next tick. A pre-authorisation is
used; FREE_CHARGING authorises with means 0 and the FREE flag. -/
def startSession (s : State) (d : Dev) : Dev :=
  let n := s.clk.frame
  let number := d.led.recordNumber + 1
  let free := decide (d.nat Param.FREE_CHARGING = 1) && d.ses.auth.isNone
  let net := netEnergy s.regs (dcKind d)
  let ses : Ses := { d.ses with
    isOpen := true, st := if d.ses.auth.isSome then 3 else 2, number := number, startFrame := n
    startTotal := s.regs.total (if dcKind d then 9 else 7), takeovers0 := d.lanes.takeovers, syncs := 0
    startPending := false, refused := 0, waitA := true
    auth := d.ses.auth.map fun a => { a with expiry := none }
    request := none, heldCard := none, stop := none, endedAt := none, unlockDue := false
    paused := false, pauseOpen := none, limitOk := none, grace := none
    flags := (if free then 0x800#32 else 0) ||| (if d.tar.status ≠ 0 then 0b1000#32 else 0) }
  let d := { d with
    ses := ses
    dc := {}
    veh := { d.veh with
      netKeys := d.veh.netKeys + 1, link := if vehModemUp d then .slac else .basic
      slac := if vehModemUp d then .waiting else .idle, slacSince := n + 9 - (n + 1) % 8
      evKnown := false, powerOn := false, v2g := false, proto := none, sdp := none, lastLoop := none, answer := none
      contract := 0, pnc := false, bpt := false, beaconMisses := 0, beaconAt := n, soc := 255 }
    metr := { d.metr with balGrid := net.1, balOut := net.2 }
    saf := { d.saf with rcTestDue := true, ftTestDue := true, isoWarned := false }
    led := { d.led with
      recordNumber := number, startMark := some number
      records := lastN 512 (d.led.records ++ [{ number := number, startFrame := n }]) } }
  let d := drawNmk (onRecord number (fun r => { r with body := openingBody s d number }) d)
  let d := (d.ckptDue 2).raise Src.vehicle Event.SESSION_STARTED (leBytes 4 number ++ leBytes 4 (cableRating d))
  let d := d.reqMode .session .other (causeEvent Event.SESSION_STARTED)
  let d := if free then takeAuth Src.vehicle 0 [] n d else d
  driveLockNext true d

/-- A transition of higher priority is already found in the frame (R44). -/
def modeLeaves (d : Dev) : Bool := !d.pow.modeReqs.isEmpty

/-- The start of a session is decided in the frame (R250): refused with its cause, logged when the cause changes, and
decided again in every frame while the vehicle stays connected. -/
def decideSession (s : State) (d : Dev) : Dev :=
  if d.ses.startPending ∧ vehConnected d.veh.st ∧ s.clk.mode = .ready ∧ ¬d.pow.starting ∧ ¬d.ses.isOpen ∧ ¬d.ses.waitA ∧
      d.pow.st = .mains ∧ ¬modeLeaves d then
    let f := startFault d
    if f = 0 then startSession s d
    else if f = d.ses.refused then d
    else ({ d with ses := { d.ses with refused := f } }).raise Src.vehicle Event.SESSION_REFUSED (leBytes 1 f)
  else d

/-- Gap frames and gaps of the session, from the gap log (R197). -/
def sessionGaps (d : Dev) : Nat × Nat :=
  let gs := d.led.gaps.filter fun g => decide (d.ses.startFrame ≤ g.frame)
  (gs.foldl (fun a g => a + g.duration) 0, gs.length)

/-- The end fields of a record body (R197, R198, R255) that the end frame's checkpoint does not give. -/
def closingBody (s : State) (d : Dev) (cause job : Nat) (flags : Word) (bal : Nat × Int × Int × Int) (body : List Byte) :
    List Byte :=
  let gap := sessionGaps d
  let body := splice body 0x00D (leBytes 1 cause ++ leBytes 2 flags.toNat)
  let body := splice body 0x050 (authBytes d.ses.auth)
  let body := splice body 0x090 (recordMoment s d)
  let body := splice body 0x1D0 (leBytes 4 gap.1 ++ leBytes 2 gap.2 ++ leBytes 1 bal.1 ++ [0] ++
    leBytesInt 8 (bal.2.1 / 2 ^ 32) ++ leBytesInt 8 (bal.2.2.1 / 2 ^ 32) ++ leBytesInt 8 (bal.2.2.2 / 2 ^ 32))
  let body := splice body 0x1F0 (leBytes 2 (d.lanes.takeovers - d.ses.takeovers0) ++ leBytes 2 d.ses.syncs)
  splice body 0x3E0 (leBytes 1 1 ++ [0] ++ leBytes 2 job)

/-- FLAGS of the record at the session's end (R198): those gathered, with TAKEOVER, GAP and HOLD_END. -/
def endFlags (d : Dev) (cause : Nat) : Word :=
  d.ses.flags |||
    (if d.ses.takeovers0 < d.lanes.takeovers then 0b10000#32 else 0) |||
    (if cause = EndCause.supply then 0b1000000#32 else 0) |||
    (if cause = EndCause.metering ∨ 0 < (sessionGaps d).2 then 0b10#32 else 0)

/-- Session and vehicle state after an end (R250, R251). -/
def clearSession (n : Nat) (d : Dev) : Dev :=
  let conn := decide (d.veh.st ≠ .a)
  { d with
    ses := { d.ses with
      isOpen := false, st := if conn then 7 else 0, waitA := conn, startPending := false, auth := none
      request := none, heldCard := none, stop := none, endedAt := some n, unlockDue := true
      paused := false, pauseOpen := none, limitOk := none, grace := none }
    dc := {}
    veh := { d.veh with
      link := .none, slac := .idle, v2g := false, proto := none, sdp := none, powerOn := false, lastLoop := none
      evKnown := false, contract := 0, pnc := false, bpt := false, soc := 255 }
    saf := { d.saf with rcTestDue := false, ftTestDue := false, isoAt := none, isoLast := none, isoPairs := 0
                        isoRes := none } }

/-- The transition that a session's end asks for (R43, R299): from Session to Ready, which a cause set in the frame turns
into one to Safe-stop (`settleReqs`); from Degraded to Safe-stop with DEGRADED_END and the fault's bit. -/
def endMode (m : Mode) (d : Dev) : Dev :=
  match m with
  | .session => d.reqMode .ready .sessionEnded (causeEvent Event.SESSION_ENDED)
  | .degraded =>
    let d := d.saf.degBits.foldl (fun d b => d.setCause b) (d.setCause Cause.degradedEnd)
    let d := { d with pow := { d.pow with degradedClassS := true } }
    let d := d.raise Src.serge Event.DEGRADED_ENDED (leBytes 1 (if d.saf.degExpired then 0 else 1))
    let d := { d with saf := { d.saf with degSince := none, degExpired := false } }
    d.reqMode .safeStop .toSafeStop (causeEvent Event.DEGRADED_ENDED)
  | _ => d

/-- The event of a session's end (R267). -/
def sessionEndedEv (s : State) (cause : Nat) (d : Dev) : Dev :=
  d.raise Src.vehicle Event.SESSION_ENDED (leBytes 4 d.ses.number ++ leBytes 1 cause ++
    leBytes 8 ((s.regs.total (if dcKind d then 9 else 7) - d.ses.startTotal) / 2 ^ 32))

/-- The open session is closed in this frame (R255): the record body is committed with the end frame's checkpoint, the
end is logged by `ev`, the balance is checked (R167), and the signing job starts (R199). -/
def closeSession (s : State) (cause : Nat) (ev : Dev → Dev) (d : Dev) : Dev :=
  let n := s.clk.frame
  let flags := endFlags d cause
  let d := { d with ses := { d.ses with flags := flags } }
  let bal := balance d s.regs (dcKind d) (n - d.ses.startFrame) (decide (cause = EndCause.supply))
  let job := d.acs.nextJob
  let d := onRecord d.ses.number (fun r => { r with
    body := closingBody s d cause job flags bal r.body, signState := 1, endFrame := n }) d
  let d := { d with led := { d.led with endMark := some d.ses.number } }
  let d := balanceLog d.ses.number bal (ev (d.ckptDue 2))
  clearSession n (clearNmk (startJob .signing 0 d.ses.number d))

/-- The session ends in this frame (R255): the outlet is requested open, the session is closed, and the mode follows
(R43). Nothing where no session is open. -/
def endSession (s : State) (cause : Nat) (d : Dev) : Dev :=
  if d.ses.isOpen then
    endMode s.clk.mode (closeSession s cause (sessionEndedEv s cause) (requestOpen s.clk.frame d))
  else d

/-- The DC current is ramped to 0 before the DC enables open (R245, R261). -/
def rampDown (n flags : Nat) (d : Dev) : Dev :=
  { d with dc := { d.dc with
      phase := 4, targetI := 0, rampStart := some n, stopFlags := d.dc.stopFlags ||| flags, okCount := 0 } }

/-- An ordered stop begins (R255): the first keeps its cause. With the outlet open and no opening check running there is
nothing to conclude, and the session ends at once (log entry 28). -/
def orderedStop (s : State) (cause : Nat) (d : Dev) : Dev :=
  if d.ses.isOpen ∧ d.ses.stop.isNone then
    let n := s.clk.frame
    let d := { d with ses := { d.ses with stop := some (cause, n) } }
    if enablesOn d then rampDown n 1 d
    else if outletShut d ∨ d.saf.openSt = 1 then d
    else endSession s cause d
  else d

/-- The outlet is requested open within a session, which enters STOPPING (R242, R255, R258). -/
def openOutlet (n : Nat) (d : Dev) : Dev :=
  if outletShut d then
    let d := requestOpen n d
    { d with ses := { d.ses with st := if d.ses.isOpen then 6 else d.ses.st, pauseOpen := none }
             dc := { d.dc with phase := 0, rampStart := none, targetI := 0 } }
  else d

/-- The lock is released when the outlet is proved open and the session has ended (R254). -/
def releaseLock (n : Nat) (d : Dev) : Dev :=
  if d.ses.unlockDue && !outletShut d && decide (d.saf.openSt ≠ 1) then
    let d := { d with ses := { d.ses with unlockDue := false } }
    if d.saf.openSt = 3 then d else driveLock n false d
  else d

/-- What the opening check's conclusion does to the session (R255, R258): an ordered stop ends it; otherwise it stays
open, paused or authorised. -/
def openConcluded (s : State) (d : Dev) : Dev :=
  let n := s.clk.frame
  let d := match d.ses.stop with
    | some (cause, _) => endSession s cause d
    | none =>
      if d.ses.isOpen ∧ d.ses.st = 6 then
        { d with ses := { d.ses with st := if d.ses.paused then 5 else if d.ses.auth.isSome then 3 else 2 } }
      else d
  releaseLock n d

end Sys2Proof.Machine
end

