-- ==== Sys2Proof/Machine/SafeFns.lean ====
section
/-!
DEFINITION. Safety functions, first half (chapter 10): trips, faults of the Degraded kind, when a condition has gone,
re-arming, residual current, and the state that the safety step keeps.
-/

namespace Sys2Proof.Machine

/-- Bits of the model's list of class S faults (log entry 29). -/
abbrev SBit.weld : Nat := 0
/-- Contactor not closed or dropped. -/
abbrev SBit.contactor : Nat := 1
/-- Path M lost. -/
abbrev SBit.pathM : Nat := 2
/-- Fast-trip comparator. -/
abbrev SBit.comparator : Nat := 3
/-- Dual-channel input. -/
abbrev SBit.input : Nat := 4
/-- Pilot reference, read-back, SHORT. -/
abbrev SBit.pilot : Nat := 5
/-- Insulation monitor. -/
abbrev SBit.insulation : Nat := 6
/-- UGN faulty. -/
abbrev SBit.ugn : Nat := 7
/-- Safety set mismatch. -/
abbrev SBit.set : Nat := 8
/-- Mirror memory. -/
abbrev SBit.mirror : Nat := 9
/-- Path S lost. -/
abbrev SBit.pathS : Nat := 10
/-- A further quad switch. -/
abbrev SBit.quad : Nat := 11
/-- Emergency stop with ESTOP_LATCH. -/
abbrev SBit.estop : Nat := 12

/-- A class S fault is found (R298). -/
def markS (k : Nat) (d : Dev) : Dev := { d with saf := { d.saf with sFaults := d.saf.sFaults ||| (1#16 <<< k) } }

/-- A bit of a function or fault. -/
def bitAt (k : Nat) : BitVec 16 := 1#16 <<< k

/-- SAFETY_TRIP_LAST: function code, tier or input; of several trips in one frame the first in the order of R274 (R307). -/
def tripLast (n f tier : Nat) (saf : Saf) : Saf :=
  let held := saf.tripLast.toNat
  if saf.tripFrame = some n ∧ tripOrder (held % 256) (held / 256 % 256) ≤ tripOrder f tier then saf
  else { saf with tripLast := BitVec.ofNat 32 (f + 256 * (tier % 256)), tripFrame := some n }

/-- A trip of function f (R268 to R274): the safe state, SERGE's latch, SAFETY_TRIPPED, the session's end with cause 5,
and the cause bit: SAFETY_LATCH for class S in every mode, SAFETY_TRIP for class H in Ready, Session and Degraded. A
tier of a function that is latched and has tripped on it since is not logged again. -/
def trip (s : State) (f tier : Nat) (value : Int) (sBit : Option Nat) (d : Dev) : Dev :=
  let n := s.clk.frame
  let fresh := !(d.saf.trips.getLsbD f && d.saf.since.getLsbD f && d.saf.tiers.contains (f, tier)) || (sBit.any fun k => !d.saf.sFaults.getLsbD k)
  let d := safeOutputs n { d with saf := { d.saf with
    trips := d.saf.trips ||| bitAt f, since := d.saf.since ||| bitAt f } }
  if fresh then
    let d := { d with saf := { tripLast n f tier d.saf with
      tiers := if d.saf.tiers.contains (f, tier) then d.saf.tiers else (f, tier) :: d.saf.tiers } }
    let d := d.raise Src.serge Event.SAFETY_TRIPPED
      (leBytes 1 f ++ leBytes 1 tier ++ leBytesInt 4 value ++ leBytes 1 (if sBit.isSome then 1 else 0))
    let d := match sBit with
      | some k => (markS k d).safeStop s.clk.mode Cause.safetyLatch Event.SAFETY_TRIPPED
      | none =>
        if s.clk.mode = .ready ∨ s.clk.mode = .session ∨ s.clk.mode = .degraded then
          d.safeStop s.clk.mode Cause.safetyTrip Event.SAFETY_TRIPPED
        else d
    endSession s EndCause.trip d
  else d

/-- A fault of the Degraded kind (R298 to R300): Degraded in Session; one found in Degraded is a trip; elsewhere its bit. Two
that one frame of Session finds lead to Degraded, and its end sets the bits of both (DESIGN CHOICE, log entry 159). -/
def degradedFault (s : State) (ev bit : Nat) (sBit : Option Nat) (d : Dev) : Dev :=
  let n := s.clk.frame
  let d := match sBit with
    | some k => markS k d
    | none => d
  if s.clk.mode = .degraded then
    let d := { d with pow := { (d.setCause bit).pow with causeEv := ev } }
    safeOutputs n (endSession s EndCause.trip (d.reqMode .safeStop .toSafeStop (causeEvent ev)))
  else if s.clk.mode = .session ∧ d.ses.isOpen then
    let first := d.saf.degSince.isNone
    let saf := { d.saf with
      degCause := if first then ev else d.saf.degCause, degBits := if first then [bit] else d.saf.degBits ++ [bit]
      degSince := some (n + 1), degExpired := false }
    let d := { d with saf := saf
                      ses := { d.ses with flags := d.ses.flags ||| 0b100000#32 } }
    (d.raise Src.serge Event.DEGRADED_ENTERED (leBytes 2 ev ++ leBytes 2 (d.nat Param.DEGRADED_LIMIT))).reqMode
      .degraded .toDegraded (causeEvent ev)
  else d.safeStop s.clk.mode bit ev

/-- DEGRADED_REMAINING (R299, R307). -/
def degradedRemaining (n : Nat) (d : Dev) : Nat :=
  match d.saf.degSince with
  | some f => 480000 * d.nat Param.DEGRADED_LIMIT - (n - f)
  | none => 0

/-- DEGRADED_LIMIT_EXPIRY is due (R299). -/
def degradedExpired (s : State) (d : Dev) : Bool :=
  decide (s.clk.mode = .degraded) && d.ses.isOpen && !d.saf.degExpired && d.saf.degSince.isSome &&
    decide (degradedRemaining s.clk.frame d = 0)

/-- DEGRADED_LIMIT_EXPIRY (R299): an ordered stop with cause 9. -/
def degradedExpiry (s : State) (d : Dev) : Dev :=
  orderedStop s EndCause.degraded { d with saf := { d.saf with degExpired := true } }

/-- DEGRADED_LIMIT_EXPIRY. -/
def execDegradedLimitExpiry (s : State) : Out :=
  devStep s (Dev.when (degradedExpired s s.dev) (degradedExpiry s))

/-! When a condition has gone (R47, R270). -/

/-- FTk_CFG of input k, 0 to 3: enabled, threshold code, trips below (R308). -/
def ftEnabled (d : Dev) (k : Nat) : Bool := (d.nat (Param.FT_CFG + k)).testBit 17
/-- THRESHOLD in mV, exact in 1/1024. -/
def ftThreshold (d : Dev) (k : Nat) : Nat := d.nat (Param.FT_CFG + k) % 1024 * 2500
/-- POLARITY. -/
def ftBelow (d : Dev) (k : Nat) : Bool := (d.nat (Param.FT_CFG + k)).testBit 16
/-- A level in mV is beyond the threshold (R275): while the comparator has been beyond since the frame before, it returns only
10 mV inside the threshold. -/
def ftBeyond (n : Nat) (d : Dev) (k mv : Nat) : Bool :=
  let hyst := if (nth none d.saf.ftLast k).any fun t => decide (n ≤ t + 1) then 10240 else 0
  if ftBelow d k then decide (1024 * mv < ftThreshold d k + hyst) else decide (ftThreshold d k < 1024 * mv + hyst)

/-- The emergency stop or enclosure function holds: a channel low or in chatter, or a latched discrepancy (R288 to
R290). -/
def SafeCh.low (c : SafeCh) : Bool := !c.level || !c.fw || c.chatter

/-- ESTOP_ENABLE or DOOR_ENABLE. -/
def dualEnabled (d : Dev) (door : Bool) : Bool :=
  decide (d.nat (if door then Param.DOOR_ENABLE else Param.ESTOP_ENABLE) = 1)

/-- The function holds its safe state. -/
def dualHolds (d : Dev) (door : Bool) : Bool :=
  dualEnabled d door &&
    (if door then d.saf.doorA.low || d.saf.doorB.low || d.saf.discLatD
     else d.saf.estopA.low || d.saf.estopB.low || d.saf.discLatE)

/-- Inputs of OT_SOURCE, 0 when unused (R292). -/
def otCodes (d : Dev) : List Nat := [d.nat Param.OT_SOURCE % 256, d.nat Param.OT_SOURCE / 256]

/-- An input of OT_SOURCE, 0 or 1, is invalid, or the auxiliary converter faulty (R292). -/
def otBad (d : Dev) (k : Nat) : Bool :=
  let c := nth 0 (otCodes d) k
  decide (c ≠ 0) && (d.samp.auxFaulty || (tempOfCode d c).isNone)

/-- Either input of OT_SOURCE is invalid. -/
def otInvalid (d : Dev) : Bool := otBad d 0 || otBad d 1

/-- Every input of OT_SOURCE is valid and below OT_TRIP − OT_RESET_HYST (R292). -/
def otClear (d : Dev) : Bool :=
  !otInvalid d && (otCodes d).all fun c =>
    decide (c = 0) || (tempOfCode d c).any fun t => decide (t < d.num Param.OT_TRIP - d.num Param.OT_RESET_HYST)

/-- Fitted mirror contacts (R307) that show closed main contacts: 1, 2. -/
def mirrorClosed (d : Dev) : List Nat :=
  (if (d.nat Param.CONTACTOR_CFG).testBit 1 && !d.saf.mc1 then [1] else []) ++
    (if (d.nat Param.CONTACTOR_CFG).testBit 2 && !d.saf.mc2 then [2] else [])

/-- Fitted mirror contacts that show open main contacts. -/
def mirrorOpen (d : Dev) : List Nat :=
  (if (d.nat Param.CONTACTOR_CFG).testBit 1 && d.saf.mc1 then [1] else []) ++
    (if (d.nat Param.CONTACTOR_CFG).testBit 2 && d.saf.mc2 then [2] else [])

/-- State E or INVALID has lasted 8,000 frames (R242, R293). -/
def pilotELong (n : Nat) (d : Dev) : Bool :=
  decide (d.veh.st = .e ∨ d.veh.st = .invalid) && decide (d.veh.stAt + 8000 ≤ n)

/-- Thresholds of the residual tiers in µA with their persistence (R278): DC low, medium, high, AC. -/
def rcTiers (d : Dev) : List (Nat × Nat) :=
  [(1000 * d.nat Param.RDC_THR, 7680), (60000, 120), (200000, 80), (30000, 120)]

/-- A tier's condition has held for its persistence (R278). -/
def rcTierDue (d : Dev) (k : Nat) : Bool :=
  decide ((nth (0, 1) (rcTiers d) k).2 ≤ nth 0 d.saf.rcHold k) && !d.saf.rcTestDue

/-- Function f is tripping (R47). A weld is a fault of SAFETY_LATCH, no trip of function 3 (R285, R299). -/
def fnActive (n : Nat) (d : Dev) (f : Nat) : Bool :=
  match f with
  | 1 => (List.range 4).any fun k => ftEnabled d k && (nth none d.saf.ftLast k).any fun t => decide (n ≤ t)
  | 2 => d.saf.pathMLost || (List.range 4).any (rcTierDue d)
  | 4 => dualHolds d false
  | 5 => dualHolds d true
  | 6 => otInvalid d || d.saf.otHigh.any (decide <| 2 ≤ ·)
  | 7 => decide (3 ≤ d.saf.negBad ∨ 2 ≤ d.saf.refBad ∨ 3 ≤ d.saf.backBad ∨ 3 ≤ d.saf.shortBad) || pilotELong n d
  | 8 => decide (10 ≤ d.saf.peCycles) || (d.chan 3).faulty
  | _ => false

/-- Function f's own clearing condition, or its triggering condition has gone (R47, R275, R279, R289, R290, R292, R293,
R295): a fast-trip input inside for 8 frames; path M below half of every threshold for 8,000 frames; both channels
accepted high; both temperatures below; state A accepted after a diode trip. -/
def fnGone (n : Nat) (d : Dev) (f : Nat) : Bool :=
  !fnActive n d f &&
    match f with
    | 1 => (List.range 4).all fun k => (nth none d.saf.ftLast k).all fun t => decide (t + 8 < n)
    | 2 => decide (8000 ≤ d.saf.rcQuiet)
    | 3 => (mirrorClosed d).isEmpty
    | 6 => otClear d
    | 7 => decide (d.veh.st ≠ .e ∧ d.veh.st ≠ .invalid)
    | 8 => decide (d.saf.peCycles = 0)
    | _ => true

/-- The nine functions (R268). -/
def safeFunctions : List Nat := [1, 2, 3, 4, 5, 6, 7, 8, 9]

/-- The condition of SAFETY_TRIP has gone (R47): every function tripped since has cleared, and none is tripping. -/
def tripGone (n : Nat) (d : Dev) : Bool :=
  safeFunctions.all fun f => !fnActive n d f && (!d.saf.since.getLsbD f || fnGone n d f)

/-- A class S fault of the list has gone (R47). -/
def sGone (d : Dev) (k : Nat) : Bool :=
  match k with
  | 0 => (mirrorClosed d).isEmpty && !outletShut d
  | 1 => (mirrorClosed d).isEmpty
  | 2 => !d.saf.pathMLost
  | 3 => decide (d.saf.ftFailed = 0)
  | 4 => d.saf.tpoFails.all (decide <| · < 2)
  | 5 => decide (d.saf.refBad < 2 ∧ d.saf.backBad < 3 ∧ d.saf.shortBad < 3)
  | 7 => !(d.chan 3).faulty
  | 9 => !d.lanes.mirrorCold
  | 10 => !d.saf.pathSLost
  | 11 => decide ((d.saf.quads.filter fun q => decide (q.failed ≠ 0 ∨ q.missed ≠ 0)).length ≤ 1)
  | 12 => !dualHolds d false
  | _ => true

/-- The condition of SAFETY_LATCH has gone (R47). -/
def latchGone (d : Dev) : Bool :=
  (List.range 16).all fun k => !d.saf.sFaults.getLsbD k || sGone d k

/-- The weld latch is released once SAFETY_LATCH has been cleared and no mirror contact shows a weld (R285); faults of class S
that have gone leave the list. -/
def releaseWeld (d : Dev) : Dev :=
  d.when (!d.pow.causes.getLsbD Cause.safetyLatch) fun d => { d with saf := { d.saf with
    sFaults := (List.range 16).foldl (fun b k => if sGone d k then b &&& ~~~ bitAt k else b) d.saf.sFaults
    weldLatch := d.saf.weldLatch && !(mirrorClosed d).isEmpty
    openSt := if d.saf.openSt = 3 ∧ (mirrorClosed d).isEmpty then 0 else d.saf.openSt } }

/-- The lanes' requests agree (R25, R270): no output is disputed. -/
def requestsAgree (d : Dev) : Bool := !d.lanes.dispute.any fun x => decide (x.outputs ≠ 0)

/-- SAFETY_REARM (R270, R285): while the lanes agree, SERGE releases the latches whose condition has gone with no cause bit
set, and the weld latch once SAFETY_LATCH has been cleared. -/
def rearm (n : Nat) (d : Dev) : Dev :=
  if !requestsAgree d then d
  else
  let d := releaseWeld d
  if d.pow.causes ≠ 0 then d
  else
    safeFunctions.foldl (fun (d : Dev) f =>
      if d.saf.trips.getLsbD f && fnGone n d f then
        ({ d with saf := { d.saf with
            trips := d.saf.trips &&& ~~~ bitAt f, since := d.saf.since &&& ~~~ bitAt f
            tiers := d.saf.tiers.filter fun x => decide (x.1 ≠ f) } }).raise
          Src.serge Event.SAFETY_REARMED (leBytes 1 f)
      else d) d

/-- SAFETY_REARM. -/
def execSafetyRearm (s : State) : Out := devStep s (Dev.when s.clk.running (rearm s.clk.frame))

/-! Fast overcurrent. -/

/-- FAST_TRIP (R275): an enabled input k beyond its threshold; the row comes in every frame in which it is beyond (log
entry 30). -/
def fastTripEff (s : State) (k mv : Nat) (d : Dev) : Dev :=
  let d := { d with saf := { d.saf with ftLast := d.saf.ftLast.set (k - 1) (some s.clk.frame) } }
  trip s 1 k mv none d

/-- FAST_TRIP. -/
def execFastTrip (k mv : Nat) (s : State) : Out :=
  devStep s fun d => d.when (decide (1 ≤ k ∧ k ≤ 4) && ftEnabled d (k - 1) && ftBeyond s.clk.frame d (k - 1) mv)
    (fastTripEff s k mv)

/-- A test's result (R306, R307): test k, 1 to 6. -/
def testResult (k : Nat) (pass : Bool) (d : Dev) : Dev :=
  let b : BitVec 8 := 1#8 <<< (k - 1)
  { d with saf := { d.saf with
      testPass := if pass then d.saf.testPass ||| b else d.saf.testPass &&& ~~~ b
      testFail := if pass then d.saf.testFail &&& ~~~ b else d.saf.testFail ||| b } }

/-- A test may run (R276, R280): it is due in the session's start, its interval in Ready has passed, or a proof test
asked for it; the outlet is open. -/
def testDue (s : State) (due : Bool) (last interval proof : Nat) (d : Dev) : Bool :=
  s.clk.running && !outletShut d &&
    (due || d.saf.proofs.contains proof || (decide (s.clk.mode = .ready) && decide (last + interval ≤ s.clk.frame)))

/-- FT_COMPARATOR_TEST (R276): an enabled comparator that fails is class S. -/
def ftTestEff (s : State) (failed : BitVec 4) (d : Dev) : Dev :=
  let bad := (List.range 4).filter fun k => failed.getLsbD k && ftEnabled d k
  let mask : BitVec 4 := bad.foldl (fun m k => m ||| (1#4 <<< k)) 0
  let d := { d with saf := { d.saf with ftTestDue := false, ftTestAt := s.clk.frame, ftFailed := mask } }
  let d := selftest s.clk.frame 13 bad.isEmpty mask.toNat (testResult 1 bad.isEmpty d)
  bad.foldl (fun d k => trip s 1 (k + 1) 0 (some SBit.comparator)
    (d.raise Src.serge Event.FT_TEST_FAILED (leBytes 1 (k + 1)))) d

/-- FT_COMPARATOR_TEST. -/
def execFtComparatorTest (failed : BitVec 4) (s : State) : Out :=
  devStep s fun d => d.when (testDue s d.saf.ftTestDue d.saf.ftTestAt dayFrames 1 d) (ftTestEff s failed)

/-! Earth fault. -/

/-- Path M is lost (R280): a trip of class S. -/
def pathMLost (s : State) (value : Int) (d : Dev) : Dev :=
  trip s 2 6 value (some SBit.pathM) { d with saf := { d.saf with pathMLost := true } }

/-- FLUXGATE_DRIVE_FAULT (R277): eight frames out of the window lose both paths. -/
def execFluxgateDriveFault (s : State) : Out :=
  devStep s fun d => d.when (decide (8 ≤ d.saf.fluxBad) && !d.saf.pathMLost)
    fun d => pathMLost s 0 { d with saf := { d.saf with pathSLost := true } }

/-- Mean of the newest w IRC values (R278). -/
def rcMean (d : Dev) (w : Nat) : Int := cdiv ((d.saf.rc.take w).foldl (· + ·) 0) w

/-- Path M in a frame (R278, R279): the windows, the tiers' persistence and the quiet time; a sample without VALID is
left out (log entry 31). -/
def rcStep (d : Dev) : Dev :=
  if (d.chan 14).valid then
    let d := { d with saf := { d.saf with rc := (nth 0 d.metr.cal 14 :: d.saf.rc).take 160 } }
    if d.saf.rc.length < 160 then d
    else
      let m := rcMean d 160
      let a := isqrtRound (cdiv (d.saf.rc.foldl (fun x i => x + i * i) 0) 160 - m * m).toNat
      let vals : List Nat := [m.natAbs, m.natAbs, (rcMean d 40).natAbs, a]
      let beyond (k : Nat) : Bool := decide ((nth (0, 1) (rcTiers d) k).1 ≤ nth 0 vals k)
      let quiet := (List.range 4).all fun k => decide (2 * nth 0 vals k < (nth (0, 1) (rcTiers d) k).1)
      { d with saf := { d.saf with
          m160 := m, rcA := a
          rcHold := (List.range 4).map fun k => if beyond k && !d.saf.rcTestDue then nth 0 d.saf.rcHold k + 1 else 0
          rcQuiet := if quiet then d.saf.rcQuiet + 1 else 0 } }
  else d

/-- The place of a tier in the list of R278. -/
def tierIndex : ResTier → Nat
  | .dcLow => 0 | .dcMedium => 1 | .dcHigh => 2 | .ac => 3

/-- A due tier trips (R278). -/
def tierTrip (s : State) (k : Nat) (d : Dev) : Dev :=
  d.when (rcTierDue d k) (trip s 2 (k + 1) (if k = 3 then d.saf.rcA else d.saf.m160) none)

/-- RESIDUAL_TIER_TRIP. -/
def execResidualTierTrip (t : ResTier) (s : State) : Out := devStep s (tierTrip s (tierIndex t))

/-- RC_PEAK_TRIP (R279): path S above RC_PEAK_THR for RC_PEAK_PERSIST; not during the residual test (R280). -/
def execRcPeakTrip (ma : Nat) (s : State) : Out :=
  devStep s fun d => d.when (decide (d.nat Param.RC_PEAK_THR < ma) && !d.saf.rcTestDue && !d.saf.pathSLost)
    (trip s 2 5 (1000 * ma) none)

/-- RC_TEST (R280): step 1 within 6.8 to 9.2 mA; in step 2 path S latches and M_40 within 255 to 345 mA. Operands in
µA. M_40 out of its range is taken as path M (log entry 32). -/
def rcTestEff (s : State) (m160 m40 : Int) (peak : Bool) (d : Dev) : Dev :=
  let okM := decide (6800 ≤ m160 ∧ m160 ≤ 9200) && decide (255000 ≤ m40 ∧ m40 ≤ 345000) &&
    decide (d.saf.fluxBad < 8) && !(d.chan 14).faulty
  let lost := if !okM then 1 else if !peak then 2 else 0
  let d := { d with saf := { d.saf with
    rcTestDue := false, rcTestAt := s.clk.frame, rcHold := [0, 0, 0, 0]
    pathMLost := d.saf.pathMLost && !okM, pathSLost := !peak } }
  let d := selftest s.clk.frame 14 (decide (lost = 0)) lost (testResult 2 (decide (lost = 0)) d)
  let d := d.raise Src.serge Event.RC_TEST_DONE (leBytesInt 4 m160 ++ leBytesInt 4 m40 ++ leBytes 1 lost)
  if lost = 1 then pathMLost s m160 d
  else if lost = 2 then degradedFault s Event.RC_TEST_DONE Cause.safetyLatch (some SBit.pathS) d
  else d

/-- RC_TEST. -/
def execRcTest (m160 m40 : Int) (peakLatched : Bool) (s : State) : Out :=
  devStep s fun d => d.when (testDue s d.saf.rcTestDue d.saf.rcTestAt 28800000 2 d) (rcTestEff s m160 m40 peakLatched)

end Sys2Proof.Machine
end

