-- ==== Sys2Proof/Machine/Tariffs.lean ====
section
/-!
DEFINITION. Clock, tariffs, demand, billing and load profiles (chapter 08, R201 and R202): local time, daylight saving,
the calendar, and the tariff step.
-/

namespace Sys2Proof.Machine

/-! Dates. Seconds count from 2000-01-01 00:00:00 (R206). -/

/-- Days of 2000-01-01 in the count that starts on 0000-03-01. -/
def epochDays : Nat := 730425

/-- Year, month and day of a day number (day 0 is 2000-01-01). -/
def civil (days : Nat) : Nat × Nat × Nat :=
  let z := days + epochDays
  let era := z / 146097
  let doe := z % 146097
  let yoe := (doe - doe / 1460 + doe / 36524 - doe / 146096) / 365
  let doy := doe - (365 * yoe + yoe / 4 - yoe / 100)
  let mp := (5 * doy + 2) / 153
  let m := if mp < 10 then mp + 3 else mp - 9
  (yoe + era * 400 + (if m ≤ 2 then 1 else 0), m, doy - (153 * mp + 2) / 5 + 1)

/-- Day number of a date from 2000 on. -/
def dayNumber (y m d : Nat) : Nat :=
  let y' := if m ≤ 2 then y - 1 else y
  let yoe := y' % 400
  let doy := (153 * (if 2 < m then m - 3 else m + 9) + 2) / 5 + d - 1
  (y' / 400) * 146097 + yoe * 365 + yoe / 4 - yoe / 100 + doy - epochDays

/-- Weekday, 1 Monday to 7 Sunday (R212); 2000-01-01 was a Saturday. -/
def weekday (days : Nat) : Nat := (days + 5) % 7 + 1

/-- Leap years. -/
def leap (y : Nat) : Bool := y % 4 = 0 && (y % 100 ≠ 0 || y % 400 = 0)

/-- Days of a month. -/
def monthDays (y m : Nat) : Nat :=
  if m = 2 then (if leap y then 29 else 28) else if m = 4 ∨ m = 6 ∨ m = 9 ∨ m = 11 then 30 else 31

/-- Day of the month of the nth weekday; 5 is the last (R211, R212). -/
def nthWeekday (y m week wd : Nat) : Nat :=
  let first := 1 + (wd + 7 - weekday (dayNumber y m 1)) % 7
  if week < 5 then first + 7 * (week - 1)
  else if first + 28 ≤ monthDays y m then first + 28 else first + 21

/-! Local time. -/

/-- Seconds that local standard time is ahead of UTC (R206). -/
def tzSeconds (d : Dev) : Int := 60 * d.num Param.TZ_OFFSET

/-- Local standard time, s; never before the count's start. -/
def localStandard (d : Dev) (t : Nat) : Nat := ((t : Int) + tzSeconds d).toNat

/-- The DST rule's SHIFT in s (R211). -/
def dstShift (rule : List Byte) : Nat := 60 * fieldAt rule 1 1

/-- Daylight saving is in force at a UTC time (R211): both instants of the year are converted to UTC. -/
def dstAt (d : Dev) (t : Nat) : Bool :=
  let r := d.blk Param.DST_RULE
  if fieldAt r 0 1 = 0 then false
  else
    let y := (civil (localStandard d t / 86400)).1
    let inst (off min : Nat) : Int :=
      (dayNumber y (fieldAt r off 1) (nthWeekday y (fieldAt r off 1) (fieldAt r (off + 1) 1) (fieldAt r (off + 2) 1)) *
        86400 + fieldAt r min 2 * 60 : Nat) - tzSeconds d
    let a := inst 2 6
    let b := inst 8 12 - dstShift r
    if a < b then decide (a ≤ t) && decide ((t : Int) < b) else !(decide (b ≤ t) && decide ((t : Int) < a))

/-- Local time (R206), s. -/
def localTime (d : Dev) (t : Nat) : Nat :=
  localStandard d t + (if dstAt d t then dstShift (d.blk Param.DST_RULE) else 0)

/-- UTC of a local time (R223). -/
def utcOf (d : Dev) (l : Nat) : Nat :=
  let std := ((l : Int) - tzSeconds d).toNat
  let sh := dstShift (d.blk Param.DST_RULE)
  if dstAt d (std - sh) then std - sh else std

/-! The calendar. -/

/-- A date exists; 29 February in any year where `anyYear` (R213). -/
def dateOk (y m dd : Nat) (anyYear : Bool) : Bool :=
  decide (1 ≤ m ∧ m ≤ 12 ∧ 1 ≤ dd) && decide (dd ≤ (if anyYear && m = 2 then 29 else monthDays y m))

/-- Entry e of day profile p: minute and tariff; none when unused (R212). -/
def profileEntry (cal : List Byte) (p e : Nat) : Option (Nat × Nat) :=
  let off := 0x054 + 48 * p + 4 * e
  if fieldAt cal off 2 = 0xFFFF then none else some (fieldAt cal off 2, fieldAt cal (off + 2) 1)

/-- Used entries of a day profile in order. -/
def profileEntries (cal : List Byte) (p : Nat) : List (Nat × Nat) :=
  (List.range 12).filterMap (profileEntry cal p)

/-- A valid day profile (R213). -/
def dayProfileOk (cal : List Byte) (p : Nat) : Bool :=
  let es := profileEntries cal p
  let k := es.length
  decide (p < 16) && decide (0 < k) && ((List.range k).all fun e => (profileEntry cal p e).isSome) &&
    (es.all fun e => decide (e.1 < 1440 ∧ 1 ≤ e.2 ∧ e.2 ≤ 8)) &&
    ((es.zip (es.drop 1)).all fun e => decide (e.1.1 < e.2.1))

/-- A season: month, day, week profile; none when unused (R212). -/
def season (cal : List Byte) (k : Nat) : Option (Nat × Nat × Nat) :=
  let off := 0x004 + 4 * k
  if fieldAt cal off 1 = 0 then none else some (fieldAt cal off 1, fieldAt cal (off + 1) 1, fieldAt cal (off + 2) 1)

/-- Used seasons in order. -/
def seasons (cal : List Byte) : List (Nat × Nat × Nat) := (List.range 4).filterMap (season cal)

/-- A calendar whose seasons are all unused is empty (R212). -/
def calendarEmpty (cal : List Byte) : Bool := (seasons cal).isEmpty

/-- Day profile of a week profile on a weekday 1 to 7. -/
def weekDay (cal : List Byte) (w wd : Nat) : Nat := fieldAt cal (0x014 + 8 * w + (wd - 1)) 1

/-- The checks of R213 by ascending offset: the offset of the first field found invalid. -/
def calendarFault (cal : List Byte) : Option Nat :=
  let ss := seasons cal
  let dup (k : Nat) : Bool := (List.range k).any fun j =>
    (season cal j).isSome && (season cal j).map (fun x => (x.1, x.2.1)) == (season cal k).map (fun x => (x.1, x.2.1))
  let seasonBad := (List.range 4).findSome? fun k =>
    match season cal k with
    | none => none
    | some x =>
      let off := 0x004 + 4 * k
      if !dateOk 2000 x.1 x.2.1 true || dup k then some off else if 8 ≤ x.2.2 then some (off + 2) else none
  let weekBad := (List.range 8).findSome? fun w =>
    if ss.any fun x => decide (x.2.2 = w) then
      (List.range 7).findSome? fun j =>
        if dayProfileOk cal (weekDay cal w (j + 1)) then none else some (0x014 + 8 * w + j)
    else none
  let fixedBad := (List.range 64).findSome? fun k =>
    let off := 0x354 + 8 * k
    if fieldAt cal off 2 = 0 then none
    else if !(decide (2000 ≤ fieldAt cal off 2 ∧ fieldAt cal off 2 ≤ 2135) &&
        dateOk (fieldAt cal off 2) (fieldAt cal (off + 2) 1) (fieldAt cal (off + 3) 1) false) then some off
    else if dayProfileOk cal (fieldAt cal (off + 4) 1) then none else some (off + 4)
  let recurBad := (List.range 64).findSome? fun k =>
    let off := 0x554 + 8 * k
    let m := fieldAt cal (off + 1) 1
    let dd := fieldAt cal (off + 2) 1
    match fieldAt cal off 1 with
    | 0 => none
    | 1 => if !dateOk 2000 m dd true then some (off + 1)
      else if dayProfileOk cal (fieldAt cal (off + 4) 1) then none else some (off + 4)
    | 2 => if !decide (1 ≤ m ∧ m ≤ 12 ∧ 1 ≤ dd ∧ dd ≤ 5) then some (off + 1)
      else if !decide (1 ≤ fieldAt cal (off + 3) 1 ∧ fieldAt cal (off + 3) 1 ≤ 7) then some (off + 3)
      else if dayProfileOk cal (fieldAt cal (off + 4) 1) then none else some (off + 4)
    | _ => some off
  if ss.isEmpty then some 0x004
  else (seasonBad.orElse fun _ => weekBad).orElse fun _ => fixedBad.orElse fun _ => recurBad

/-- Check value of a calendar (R215, R469). -/
def calendarCheck (cal : List Byte) : Nat := (Config.shake256x8 cal).toNat

/-- The latest season start on or before a month and day, else the latest of the year (R214). -/
def seasonFor (cal : List Byte) (m dd : Nat) : Option (Nat × Nat × Nat) :=
  let key (x : Nat × Nat × Nat) := 100 * x.1 + x.2.1
  let latest (xs : List (Nat × Nat × Nat)) : Option (Nat × Nat × Nat) :=
    xs.foldl (fun b x => match b with
      | none => some x
      | some y => if key y < key x then some x else some y) none
  match latest ((seasons cal).filter fun x => decide (key x ≤ 100 * m + dd)) with
  | some x => some x
  | none => latest (seasons cal)

/-- The day profile of a day (R214): special days fixed, then recurring, then the season's week. -/
def dayProfile (cal : List Byte) (days : Nat) : Nat :=
  let c := civil days
  let fixed := (List.range 64).find? fun k =>
    let off := 0x354 + 8 * k
    decide (fieldAt cal off 2 = c.1 ∧ fieldAt cal (off + 2) 1 = c.2.1 ∧ fieldAt cal (off + 3) 1 = c.2.2)
  let recur := (List.range 64).find? fun k =>
    let off := 0x554 + 8 * k
    let m := fieldAt cal (off + 1) 1
    (decide (fieldAt cal off 1 = 1 ∧ m = c.2.1 ∧ fieldAt cal (off + 2) 1 = c.2.2)) ||
      (decide (fieldAt cal off 1 = 2 ∧ m = c.2.1) &&
        decide (nthWeekday c.1 m (fieldAt cal (off + 2) 1) (fieldAt cal (off + 3) 1) = c.2.2))
  match fixed, recur with
  | some k, _ => fieldAt cal (0x354 + 8 * k + 4) 1
  | none, some k => fieldAt cal (0x554 + 8 * k + 4) 1
  | none, none =>
    match seasonFor cal c.2.1 c.2.2 with
    | some x => weekDay cal x.2.2 (weekday days)
    | none => 0

/-- The tariff of a local time by a calendar (R214). -/
def calendarTariff (cal : List Byte) (l : Nat) : Nat :=
  let es := profileEntries cal (dayProfile cal (l / 86400))
  let minute := l % 86400 / 60
  match (es.filter fun e => decide (e.1 ≤ minute)).getLast? with
  | some e => e.2
  | none => (es.getLast?.map Prod.snd).getD 1

/-- A tariff number: 1 to 8. -/
def tariffNumber (t : Nat) : Nat := max 1 (min 8 t)

/-- tariff_at (R214). -/
def tariffAt (d : Dev) (t : Nat) : Nat :=
  tariffNumber (if d.tar.status = 2 ∨ calendarEmpty d.tar.active = true then d.nat Param.DEFAULT_TARIFF
    else calendarTariff d.tar.active (localTime d t))

/-! Clock status. -/

/-- The status that will hold from the next tick, by what the frame has decided so far (R209, R210). -/
def statusNext (d : Dev) : Nat := (d.tar.nextStatus.map Prod.fst).getD d.tar.status

/-- A change of clock status is decided (R209): in force from the next tick; CLOCK_STATUS_CHANGED. -/
def clockChange (st cause : Nat) (d : Dev) : Dev :=
  if statusNext d = st then d
  else ({ d with tar := { d.tar with nextStatus := some (st, cause) } }).raise Src.metr Event.CLOCK_STATUS_CHANGED
    (leBytes 1 (statusNext d) ++ leBytes 1 st ++ leBytes 1 cause)

/-- CLOCK_INVALID (R209): the RTC restarted, or its oscillator was found stopped. -/
def execClockInvalid (s : State) : Out := devStep s (clockChange 2 0)

/-- 200 ppm in ppb. -/
def driftMax : Nat := 200000

/-- RTC_DRIFT (R209, R235): more than 200 ppm in 60 consecutive measurements; logged once while it lasts, and DOUBTFUL
whenever the clock is VALID. -/
def rtcDriftEff (d : Dev) : Dev :=
  let d := if d.tar.driftLogged then d
    else ({ d with tar := { d.tar with driftLogged := true } }).raise Src.metr Event.RTC_DRIFT (leBytesInt 4 d.tar.rtcDev)
  if statusNext d = 0 then clockChange 1 4 d else d

/-- RTC_DRIFT. -/
def execRtcDrift (s : State) : Out := devStep s fun d => d.when (decide (60 ≤ d.tar.driftCount)) rtcDriftEff

/-- CLOCK_AGE_EXPIRED (R209): CLOCK_AGE_MAX days without a set from the head-end. -/
def clockAgeDue (d : Dev) : Bool :=
  decide (d.tar.status = 0) && decide (d.nat Param.CLOCK_AGE_MAX ≠ 0) &&
    decide (d.tar.headEndSet + d.nat Param.CLOCK_AGE_MAX * 86400 ≤ d.tar.rtc)

/-- CLOCK_AGE_EXPIRED. -/
def execClockAgeExpired (s : State) : Out := devStep s fun d => d.when (clockAgeDue d) (clockChange 1 5)

/-- The battery domain loads the RTC with the sub-second count at 0 (R210). -/
def rtcLoadEff (d : Dev) : Dev :=
  match d.tar.load with
  | none => d
  | some (t, _) => { d with tar := { d.tar with
      rtc := t, sub := 0, load := none, loaded := true, step := some d.tar.lastStep } }

/-- RTC_LOAD (R210): also where frames no longer run. -/
def execRtcLoad (s : State) : Out := devStep s rtcLoadEff

/-- RTC_TRIM over a number of crystal periods (R207): what is owed of a period, in 10⁻⁹ of one, and the whole periods
added or dropped; single periods, spread evenly (log entry 137). -/
def trimPeriods (advance : Nat) (d : Dev) : Int × Int :=
  let owed := d.tar.trimOwed + d.num Param.RTC_TRIM * advance
  (owed % 10 ^ 9, owed / 10 ^ 9)

/-- The RTC at a tick (R206, R207, R210): a pending load, or the crystal periods since the previous tick as RTC_TRIM
corrects them. -/
def rtcTick (advance : Nat) (d : Dev) : Dev :=
  let d := rtcLoadEff d
  if d.tar.loaded then { d with tar := { d.tar with loaded := false, trimOwed := 0 } }
  else
    let trim := trimPeriods advance d
    let t := (((d.tar.rtc * 32768 + d.tar.sub + advance : Nat) : Int) + trim.2).toNat
    { d with tar := { d.tar with rtc := t / 32768 % 2 ^ 32, sub := t % 32768, trimOwed := trim.1 } }

/-- The status decided in the previous frame takes effect at the tick (R209). -/
def clockTick (d : Dev) : Dev :=
  match d.tar.nextStatus with
  | some (st, _) => { d with tar := { d.tar with status := st, nextStatus := none } }
  | none => d

/-- CRYSTAL_MEASUREMENT on the RTC's side (R207): RTC_DEVIATION while neither crystal is declared failed. -/
def rtcMeasure (xa xb : Int) (d : Dev) : Dev :=
  if d.lanes.xaFailed ∨ d.lanes.xbFailed then d
  else
    let dev := -cdiv (xa + xb) 2
    let high := decide (driftMax < dev.natAbs)
    { d with tar := { d.tar with
        rtcDev := dev, driftCount := if high then d.tar.driftCount + 1 else 0
        driftLogged := d.tar.driftLogged && high } }

/-- DST_CHANGED (R211): a transition of daylight saving time. -/
def dstStep (d : Dev) : Dev :=
  let now := dstAt d d.tar.rtc
  if now = d.tar.dst then d
  else ({ d with tar := { d.tar with dst := now } }).raise Src.metr Event.DST_CHANGED (leBytes 4 d.tar.rtc)

/-- DST_CHANGED. -/
def execDstChanged (s : State) : Out := devStep s dstStep

/-! The tariff step (R216). -/

/-- The frame is the first after a step greater than CLOCK_STEP_MAX (R218). -/
def bigStep (d : Dev) : Bool :=
  match d.tar.step with
  | some x => decide (d.nat Param.CLOCK_STEP_MAX < x.natAbs)
  | none => false

/-- Action 2: an armed calendar whose time has come is activated (R215, R216). -/
def calendarStep (d : Dev) : Dev :=
  match d.tar.armed with
  | none => d
  | some t =>
    if d.tar.status ≠ 2 ∧ t ≤ d.tar.rtc then
      let cal := d.blk Param.PASSIVE_CALENDAR
      ({ d with tar := { d.tar with active := cal, activeCheck := calendarCheck cal, armed := none } }).raise Src.metr
        Event.CALENDAR_ACTIVATED (leBytes 8 d.tar.activeCheck ++ leBytes 8 (calendarCheck cal))
    else d

/-- CALENDAR_ACTIVATED. -/
def execCalendarActivated (s : State) : Out := devStep s calendarStep

/-- Minutes between boundaries of demand register j (R220): the period, or a sub-interval in sliding mode. -/
def demandUnit (d : Dev) (j : Nat) : Nat :=
  let l := d.nat (Param.DEM_PERIOD + 8 * j)
  if d.num (Param.DEM_MODE + 8 * j) = 1 then l / max 1 (d.nat (Param.DEM_SUBPERIODS + 8 * j)) else l

/-- The latest boundary of demand register j at or before t, UTC (R220: from midnight of local standard time). -/
def demandBoundary (d : Dev) (j t : Nat) : Nat :=
  let u : Nat := 60 * max 1 (demandUnit d j)
  t - (((t : Int) + tzSeconds d) % u).toNat

/-- Demand in mW of an energy in 2⁻³² mWh over L minutes (R220). -/
def demandOf (e minutes : Nat) : Nat := (cdiv (e * 3600 : Nat) (2 ^ 32 * 60 * minutes)).toNat

/-- A maximum takes a greater value with its end time (R222). -/
def raiseMax (maxima : List (Nat × Nat)) (k v time : Nat) : List (Nat × Nat) :=
  updAt maxima k fun m => if m.1 < v then (v, time) else m

/-- Close the open interval of demand register j at an end time (R220 to R222). -/
def demandClose (j endTime : Nat) (short : Bool) (r : Regs) (d : Dev) : Dev :=
  match d.tar.demands[j]? with
  | none => d
  | some x =>
    let total := r.total (d.nat (Param.DEM_SOURCE + 8 * j))
    let sliding := decide (d.num (Param.DEM_MODE + 8 * j) = 1)
    let k := if sliding then d.nat (Param.DEM_SUBPERIODS + 8 * j) else 1
    let subs := ((total - x.base, x.short || short) :: x.subs).take k
    let v := demandOf (subs.foldl (fun e y => e + y.1) 0) (max 1 (d.nat (Param.DEM_PERIOD + 8 * j)))
    let sh := subs.any Prod.snd
    let x' := { x with
      start := endTime, lastEnd := endTime, short := short, base := total
      subs := if sliding then subs else [], subIndex := if sliding then (x.subIndex + 1) % max 1 k else 0
      last := v, lastShort := sh
      maxima := raiseMax (raiseMax x.maxima 0 v endTime) r.tariff v endTime }
    let d' := ({ d with tar := { d.tar with demands := d.tar.demands.set j x' } }).ckptDue 1
    if x.short || short then
      d'.raise Src.metr Event.DEMAND_SHORT (leBytes 1 (j + 1) ++ leBytes 4 x.start ++ leBytesInt 4 v)
    else d'

/-- Frames did not run for part of every open demand interval (R221). -/
def demandsShort (d : Dev) : Dev :=
  { d with tar := { d.tar with demands := d.tar.demands.map fun x => { x with short := true } } }

/-- The interval of demand register j is due to close (R218, R220): its boundary has been reached. -/
def demandDue (j : Nat) (d : Dev) : Bool :=
  match d.tar.demands[j]? with
  | none => false
  | some x => decide (x.lastEnd < demandBoundary d j d.tar.rtc) && decide (x.start < demandBoundary d j d.tar.rtc)

/-- Action 3 for one demand register; a big step closes every open interval with SHORT (R218). -/
def demandStep (r : Regs) (d : Dev) (j : Nat) : Dev :=
  if bigStep d then demandClose j d.tar.rtc true r d
  else if demandDue j d then demandClose j (demandBoundary d j d.tar.rtc) false r d else d

/-- DEMAND_INTERVAL_CLOSE of register j, 0 to 2. -/
def execDemandIntervalClose (j : Nat) (s : State) : Out :=
  devStep s fun d => d.when (decide (j < 3)) fun d => demandStep s.regs d j

/-- The latest scheduled end at or before t, UTC (R223); none without a schedule. -/
def scheduledEnd (d : Dev) (t : Nat) : Option Nat :=
  let day := d.nat Param.BILLING_DAY
  if day = 0 then none
  else
    let l := localTime d t
    let c := civil (l / 86400)
    let at_ (y m : Nat) : Nat := dayNumber y m day * 86400 + d.nat Param.BILLING_MINUTE * 60
    let this := at_ c.1 c.2.1
    if this ≤ l then some (utcOf d this)
    else if c.1 = 2000 ∧ c.2.1 = 1 then none
    else some (utcOf d (if c.2.1 = 1 then at_ (c.1 - 1) 12 else at_ c.1 (c.2.1 - 1)))

/-- A scheduled close is due (R208, R218, R223): its end is later than the end of the last period closed. -/
def billingDue (d : Dev) : Option Nat :=
  if d.tar.status = 2 then none
  else
    match scheduledEnd d d.tar.rtc with
    | some e => if d.tar.billLast < e then some e else none
    | none => none

/-- A demand register with other maxima. -/
def Demand.withMaxima (m : List (Nat × Nat)) (x : Demand) : Demand := { x with maxima := m }

/-- Close the billing period (R223, R224); maxima are set to 0 after the snapshot (R222). -/
def billingClose (n endTime cause : Nat) (d : Dev) : Dev :=
  let snap : Snap := {
    period := d.tar.billCount, frame := n, endTime := endTime, startTime := d.tar.billLast, cause := cause,
    status := d.tar.status, flags := d.tar.billFlags ||| (if bigStep d then 4 else 0), fams := [],
    maxima := d.tar.demands.map Demand.maxima, chain := 0 }
  (({ d with tar := { d.tar with
      snaps := (snap :: d.tar.snaps).take 24, billCount := d.tar.billCount + 1, billLast := endTime
      billPending := none, billFlags := 0
      demands := d.tar.demands.map (Demand.withMaxima (List.replicate 9 (0, 0))) } }).raise Src.metr
    Event.BILLING_CLOSED (leBytes 4 d.tar.billCount ++ leBytes 1 cause ++ leBytes 1 (d.tar.billCount % 24) ++
      leBytes 4 endTime)).ckptDue 1

/-- A pending BILLING_CLOSE of an earlier frame (R223). -/
def billPendingDue (n : Nat) (d : Dev) : Option Nat :=
  match d.tar.billPending with
  | some (c, k) => if k < n then some c else none
  | none => none

/-- Action 4: a scheduled end, 2 when a forward step reached it; else a close that a command asked for (R223). -/
def billingStep (n : Nat) (d : Dev) : Dev :=
  match billingDue d with
  | some e =>
    let forward := match d.tar.step with
      | some x => decide (0 < x) && decide ((d.tar.rtc : Int) < e + x)
      | none => false
    billingClose n e (if forward then 2 else 1) d
  | none =>
    match billPendingDue n d with
    | some c => billingClose n d.tar.rtc c d
    | none => d

/-- BILLING_CLOSE_SCHEDULED. -/
def execBillingCloseScheduled (s : State) : Out :=
  devStep s fun d => d.when (billingDue d).isSome (billingStep s.clk.frame)

/-- Action 5: the tariff of the frame's local time; a change is in force from the next tick (R216, R217). -/
def tariffSwitch (n : Nat) (d : Dev) : Dev :=
  let t := tariffAt d d.tar.rtc
  if t = d.tar.nextTariff then d
  else (({ d with tar := { d.tar with nextTariff := t, switchCount := d.tar.switchCount + 1 } }).raise Src.metr
    Event.TARIFF_SWITCHED (leBytes 1 d.tar.nextTariff ++ leBytes 1 t ++ leBytes 8 n)).ckptDue 1

/-- TARIFF_SWITCHED. -/
def execTariffSwitched (s : State) : Out := devStep s (tariffSwitch s.clk.frame)

/-! Load profiles. -/

/-- The period of a load profile, min. -/
def lpPeriod (d : Dev) (p : Nat) : Nat := d.nat (Param.LP1_PERIOD + 8 * p)

/-- The latest boundary of profile p (0, 1) at or before t, UTC (R201). -/
def lpBoundary (d : Dev) (p t : Nat) : Nat :=
  let u := 60 * max 1 (lpPeriod d p)
  let shift : Nat := if dstAt d t then dstShift (d.blk Param.DST_RULE) else 0
  t - (((t : Int) + tzSeconds d + shift) % 86400).toNat % u

/-- A capture of profile p is due (R201). -/
def lpDue (p : Nat) (d : Dev) : Bool :=
  match d.led.profiles[p]? with
  | some x => decide (x.lastBoundary < lpBoundary d p d.tar.rtc)
  | none => false

/-- LOAD_PROFILE_CAPTURE (R201, R202): totals of the three sources; a ring of 8,640 entries. An entry that repeats a time,
after a clock setback, carries CLOCK_SET. -/
def lpCapture (r : Regs) (p : Nat) (d : Dev) : Dev :=
  match d.led.profiles[p]? with
  | none => d
  | some x =>
    let b := lpBoundary d p d.tar.rtc
    let src := d.nat (Param.LP1_SOURCES + 8 * p)
    let e : LpEntry := {
      time := b, tariff := r.tariff
      status := x.status ||| (if d.tar.status = 1 then 1 else 0) ||| (if d.tar.status = 2 then 2 else 0) |||
        (if b ≤ x.latest then 0x20 else 0)
      values := (List.range 3).map fun k => r.total (src / 256 ^ k % 256) / 2 ^ 32 }
    let x' : Profile := { entries := (e :: x.entries).take 8640, written := x.written + 1, lastBoundary := b,
                          latest := max b x.latest, status := 0 }
    { d with led := { d.led with profiles := d.led.profiles.set p x' } }

/-- LOAD_PROFILE_CAPTURE of profile 1 or 2. -/
def execLoadProfileCapture (p : Nat) (s : State) : Out :=
  devStep s fun d => d.when (decide (1 ≤ p) && lpDue (p - 1) d) (lpCapture s.regs (p - 1))

/-- Bits that the open period of every profile collects. -/
def lpMark (bits : Nat) (d : Dev) : Dev :=
  { d with led := { d.led with profiles := d.led.profiles.map fun x => { x with status := x.status ||| bits } } }

/-- The open billing period holds a gap (R224). -/
def billGap (d : Dev) : Dev := { d with tar := { d.tar with billFlags := d.tar.billFlags ||| 1 } }

/-- Captures due in a frame (R201). -/
def lpStep (r : Regs) (d : Dev) : Dev :=
  (List.range 2).foldl (fun d p => if lpDue p d then lpCapture r p d else d) d

/-- Action 1, a step (R218), where it bears on load profiles: boundaries of the new clock, entries repeat times after a
setback (R201). -/
def stepProfiles (d : Dev) : Dev :=
  match d.tar.step with
  | none => d
  | some x =>
    let d := lpMark 0x30 d
    if 0 ≤ x then d
    else { d with led := { d.led with profiles := d.led.profiles.zipIdx.map fun y =>
      { y.1 with lastBoundary := min y.1.lastBoundary (lpBoundary d y.2 d.tar.rtc) } } }

/-- EST and gap bits of a frame for the open periods of the profiles (R202). -/
def lpFlags (d : Dev) : Dev :=
  let e := (estBits d).toNat
  if e = 0 then d else lpMark ((if e / 8 ≠ 0 then 4 else 0) ||| (if e % 8 ≠ 0 then 8 else 0)) d

/-- Flags of the open billing period: gap, estimated, big step (R224). -/
def billMark (d : Dev) : Dev :=
  let e := (estBits d).toNat
  let f := (if e / 8 ≠ 0 then 1 else 0) ||| (if e % 8 ≠ 0 then 2 else 0) ||| (if bigStep d then 4 else 0)
  { d with tar := { d.tar with billFlags := d.tar.billFlags ||| f } }

/-- The tariff step of frame n, 30–35 µs (R216), and the captures due. -/
def tariffStep (n : Nat) (r : Regs) (d : Dev) : Dev :=
  let d := billMark (stepProfiles (dstStep d))
  let d := calendarStep d
  let d := (List.range 3).foldl (demandStep r) d
  let d := tariffSwitch n (billingStep n d)
  let d := lpStep r (lpFlags d)
  { d with tar := { d.tar with step := none } }

end Sys2Proof.Machine
end

