-- ==== Sys2Proof/Machine/Lanes.lean ====
section
/-!
DEFINITION. Lanes, SERGE and the token (chapter 01): lane faults, take-over, dispute, repair, crystals.
-/

namespace Sys2Proof.Machine

/-- Cause codes of R37. -/
def selfFaultCause : SelfFault → Nat
  | .residue => 0x07 | .sram => 0x08 | .mramReadback => 0x09
  | .pllUnlock => 0x0A | .rail => 0x0B | .coreException => 0x0C

/-- SLOT of R37 for a missed deadline (R21). -/
def deadlineCode : DeadlineSlot → Nat
  | .compare => 1 | .delta => 2 | .output => 3

/-- LANE_FAULT_LAST (R37): cause, slot, lane, verdict, PERMANENT. -/
def faultWord (l : Lane) (cause slot verdict : Nat) (permanent : Bool) : Word :=
  BitVec.ofNat 32 (cause + slot * 2 ^ 8 + laneCode l * 2 ^ 12 + verdict * 2 ^ 14 +
    (if permanent then 2 ^ 16 else 0))

/-- Both lanes faulted in one frame, or the lead without a follow (R22, R33): safe outputs, DUAL_LANE, both lanes
restart; frames stop until the start-up that follows (R42). -/
def dualFault (s : State) : State :=
  let n := s.clk.frame
  let d := safeOutputs n (holdFlags s.dev)
  let halt (l : Lane) (r : LaneRec) : LaneRec := { r with st := .reset, repair := none, wrote := laneWrites d l }
  let d := { d with
    lanes := { d.lanes with token := none, grant := none, dispute := none, a := halt .a d.lanes.a, b := halt .b d.lanes.b }
    pow := { d.pow with stopped := some 2 } }
  let d := d.sergeRaise n Event.DUAL_LANE_FAULT []
  let d := d.safeStop s.clk.mode Cause.dualLane Event.DUAL_LANE_FAULT
  { s with clk := { s.clk with running := false }, dev := logFrame n { d with win := { d.win with shadow := {} } } }

/-- A repair now would exceed REPAIR_LIMIT_24H (R33). -/
def repairsSpent (n : Nat) (l : Lane) (d : Dev) : Bool :=
  decide (d.nat Param.REPAIR_LIMIT_24H ≤ ((d.lanes.get l).repairs.filter fun k => n < k + dayFrames).length)

/-- A lane is lost (R14, R33): FAILED, PERMANENT, LANE_LOST logged; Degraded in Session, the cause bit elsewhere. For a
lane lost by a fault in PROBATION or by REPAIR_LIMIT_24H the spec does not say which cause LANE_FAULT_LAST keeps; the model
writes 0x0F, slot 6, as for a failed repair step (DESIGN CHOICE, log entry 133). -/
def laneLost (s : State) (l : Lane) (d : Dev) : Dev :=
  let d := d.onLane l fun r => { r with st := .failed, repair := none }
  let d := { d with lanes := { d.lanes with faultLast := faultWord l 0x0F 6 0 true } }
  let d := d.raise Src.serge Event.LANE_LOST []
  degradedFault s Event.LANE_LOST Cause.laneLost none d

/-- SERGE grants the token (R28): the lane leads, TAKEOVER is queued with the new lead and the frame, and the new lead
settles the slots (R87). -/
def grantToken (n : Nat) (l : Lane) (d : Dev) : Dev :=
  let d := { d with lanes := { d.lanes with
    token := some l, grant := none, settle := true, takeovers := d.lanes.takeovers + 1 } }
  let d := d.onLane l fun r => { r with st := .lead }
  (d.sergeRaise n Event.TAKEOVER (leBytes 1 (laneCode l) ++ leBytes 8 n)).irq 0b10000#9

/-- The lane's own record at a fault: reset, its repair begins (R32). A repair caused under a test authorisation does not
count (R465). `wrote` says that the lane had written its delta record of the frame. -/
def beginRepair (n : Nat) (counts wrote : Bool) (r : LaneRec) : LaneRec :=
  { r with
    st := .reset, repair := some .selfTest, clean := 0, faultedAt := some n, wrote := wrote
    repairs := if counts then n :: r.repairs else r.repairs }

/-- What the fault of a lane does to a perturbation of that lane, which ends (R465), and to an activation: one whose
restarted lane fails reverts (R429, R433). -/
def faultAside (l : Lane) (d : Dev) : Dev :=
  let mine := d.diag.pert.any fun p => decide (p.lane = l)
  let diag := if mine then { d.diag with pert := none, stretch := 0, commitDelay := 0, mismatch := 0, wdtWindow := 0 }
    else d.diag
  let act := d.upd.activation.map fun a => if (d.lanes.get l).repair.isSome then { a with failed := true } else a
  { d with diag := diag, upd := { d.upd with activation := act } }

/-- Causes that OVERRUN_COUNT counts (R36). -/
def isOverrun (cause : Nat) : Bool := cause = 0x01 || cause = 0x05 || cause = 0x06

/-- The self-detected faults of R26 rule 1, by their cause codes (R37): residue, SRAM, PLL, rail, core, slot deadline. -/
def rule1Cause (cause : Nat) : Bool := [0x06, 0x07, 0x08, 0x0A, 0x0B, 0x0C].contains cause

/-- The fault of a lane in frame n decides an open dispute: a self-detected fault in the dispute's frame (R26 rule 1), or
its crystal, declared failed (R26 rule 2). -/
def faultDecides (n cause : Nat) (x : Dispute) : Bool :=
  (rule1Cause cause && decide (x.frame = n)) || decide (cause = 0x0E)

/-- What the fault of a lane does to an open dispute: it decides it (R26 rules 1 and 2), or else the remaining lane settles
it alone (R477). Where a fault of frame n decides in frame n itself, values are published again from frame n+1, before the
frame n+2 that R27 names for a verdict in frame n+1 (DESIGN CHOICE, log entry 134). -/
def disputeAtFault (n : Nat) (l : Lane) (cause : Nat) (d : Dev) : Dev :=
  match d.lanes.dispute with
  | none => d
  | some x =>
    if faultDecides n cause x then
      ({ d with lanes := { d.lanes with dispute := none } }).onLane l fun r => { r with voidFrom := some x.frame }
    else { d with lanes := { d.lanes with dispute := some { x with lone := some (laneOther l) } } }

/-- SERGE's own side of a lane's fault (R17, R28, R36, R37): LANE_FAULT_LAST, the counts, the token withdrawn, the window
gate withdrawn and to move to the other lane at the next tick, and LANE_FAULT queued. -/
def faultSerge (l : Lane) (w : Word) (cause : Nat) (n : Nat) (d : Dev) : Dev :=
  let gate := decide (d.lanes.windowGate = some l)
  ({ d with lanes := { d.lanes with
    faultLast := w
    overruns := d.lanes.overruns + (if isOverrun cause then 1 else 0)
    token := if d.lanes.token = some l then none else d.lanes.token
    windowGate := if gate then none else d.lanes.windowGate
    grant := if gate then some (laneOther l) else d.lanes.grant } }).sergeRaise n Event.LANE_FAULT (leBytes 4 w.toNat)

/-- The frame's delta of a lane that acted and is faulted before it is published carries no marker (R31, R474). -/
def faultShadow (voids : Bool) (d : Dev) : Dev :=
  if voids then { d with win := { d.win with shadow := { d.win.shadow with marker := false } } } else d

/-- A lane could take the token (R28, R32). -/
def canLead (l : Lane) (d : Dev) : Bool := decide ((d.lanes.get l).st = .follow ∨ (d.lanes.get l).st = .lead)

/-- The machine's own side of a lane's fault, before the token passes (R21, R26, R32). -/
def faultedDev (l : Lane) (cause slot verdict : Nat) (atOnce : Bool) (n : Nat) (d : Dev) : Dev :=
  let acted := decide (d.lanes.acting = some l)
  let e := faultSerge l (faultWord l cause slot verdict false) cause n d
  let e := disputeAtFault n l cause ((faultAside l e).onLane l
    (beginRepair n (!e.diag.testFrom.isSome) (laneWrites e l && decide (3 ≤ slot))))
  faultShadow (acted && (atOnce || decide (slot = 4))) e

/-- The token of a faulted lead passes (R22, R28, R32): at 70 µs of the same frame, or at the next tick. -/
def passToken (l : Lane) (atOnce : Bool) (n : Nat) (d : Dev) : Dev :=
  if atOnce then grantToken n (laneOther l) d
  else { d with lanes := { d.lanes with grant := some (laneOther l) } }

/-- The fault loses the lane (R33): it fails again in PROBATION, or its repairs of 24 h are spent. -/
def faultLoses (n : Nat) (l : Lane) (d : Dev) : Bool :=
  (decide ((d.lanes.get l).st = .probation) && d.upd.activation.isNone) ||
    (repairsSpent n l d && !d.diag.testFrom.isSome)

/-- A fault that leaves no lane (R22): the other lane was faulted in the same frame, or the lead has no follow. -/
def faultIsDual (n : Nat) (l : Lane) (d : Dev) : Bool :=
  decide ((d.lanes.get (laneOther l)).faultedAt = some n) ||
    (decide (d.lanes.token = some l) && !canLead (laneOther l) d)

/-- Both lanes failed before 70 µs of frame n: no token was granted at 70 µs, so no take-over is logged (R22). -/
def ungrant (n : Nat) (d : Dev) : Dev :=
  let mine (e : SergeEv) : Bool := decide (e.code = Event.TAKEOVER) && decide (e.stamp = n)
  { d with lanes := { d.lanes with
      queue := d.lanes.queue.filter fun e => !mine e
      takeovers := d.lanes.takeovers - (d.lanes.queue.filter mine).length } }

/-- A lane is faulted (R21, R22, R28, R32): LANE_FAULT_LAST and LANE_FAULT, its token withdrawn, its repair begun;
the follow takes the token at 70 µs of the same frame, or at the next tick; with no follow R22 applies. -/
def faultLane (l : Lane) (cause slot verdict : Nat) (atOnce : Bool) (s : State) : State :=
  let n := s.clk.frame
  let d := s.dev
  let e := faultedDev l cause slot verdict atOnce n d
  let both := atOnce && decide ((d.lanes.get (laneOther l)).faultedAt = some n)
  if faultIsDual n l d then dualFault { s with dev := if both then ungrant n e else e }
  else
    let e := if decide (d.lanes.token = some l) && !d.lanes.sergeFault then passToken l atOnce n e else e
    let e := if faultLoses n l d then laneLost s l e else e
    { s with dev := e }

/-- A lane takes part in the frame's work and can be faulted. -/
def laneWorks (l : Lane) (s : State) : Bool :=
  s.clk.running && decide ((s.dev.lanes.get l).st = .lead ∨ (s.dev.lanes.get l).st = .follow ∨
    (s.dev.lanes.get l).st = .probation ∨ (s.dev.lanes.get l).st = .trial)

/-- Take a change of state where its condition holds (log entry 8). -/
def whenS (c : Bool) (f : State → State) (s : State) : State := if c then f s else s

/-- SLOT_DEADLINE_FAULT (R21, R22). -/
def execSlotDeadlineFault (l : Lane) (slot : DeadlineSlot) (s : State) : Out :=
  .next (whenS (laneWorks l s) (faultLane l 0x06 (deadlineCode slot) 0 true) s)

/-- A late marker of the lane that acts, or none, decides its shadow (R17, R21, R474). -/
def markShadow (l : Lane) (marker : Bool) (s : State) : State :=
  s.onDev fun d => if d.lanes.acting = some l then
    { d with win := { d.win with shadow := { d.win.shadow with marker := d.win.shadow.marker && marker } } } else d

/-- WATCHDOG_FAULT (R21): at 120 µs; the token passes at the next tick. -/
def execWatchdogFault (l : Lane) (early marker : Bool) (s : State) : Out :=
  .next (whenS (laneWorks l s)
    (fun s => faultLane l (if early then 0x02 else 0x01) 5 0 false (markShadow l marker s)) s)

/-- OUTPUT_REQUEST_MISSING (R22): the lead is faulted at 70 µs and the follow leads at once. -/
def execOutputRequestMissing (s : State) : Out :=
  .next (match s.dev.lanes.token with
    | some l => whenS (laneWorks l s) (faultLane l 0x05 3 0 true) s
    | none => s)

/-- LANE_SELF_FAULT (R26 rule 1): a fault before 70 µs is treated as R22 says, a later one at the next tick. -/
def execLaneSelfFault (l : Lane) (c : SelfFault) (slot : Nat) (s : State) : Out :=
  .next (whenS (laneWorks l s) (fun s => faultLane l (selfFaultCause c) slot 0 (decide (slot < 4))
    (s.onDev (Dev.onLane l fun r => { r with selfFault := some s.clk.frame }))) s)

/-- CLAIM_REJECTED (R29): no effect on outputs; the claim is logged and the claimant faulted. -/
def execClaimRejected (l : Lane) (s : State) : Out :=
  .next (whenS (laneWorks l s && decide (s.dev.lanes.token ≠ some l)) (fun s =>
    faultLane l 0x0D 6 0 false (s.onDev (Dev.sergeRaise s.clk.frame Event.CLAIM_REJECTED []))) s)

/-! Dispute. -/

/-- The lane on which the verdict falls, and VERDICT of R37, by rules 3 and 4 of R26; rules 1 and 2 decide with the fault
itself (`disputeAtFault`). The lead is the lane that acts, after a SERGE fault the window gate's. -/
def verdictOf (r : Recompute) (x : Dispute) (d : Dev) : Lane × Nat :=
  let lead := d.lanes.acting.getD .a
  let follow := laneOther lead
  match r with
  | .confirms l => (laneOther l, 2)
  | .unresolved =>
    match (d.lanes.get follow).unresolvedReturn with
    | some k => if x.frame < k + 8000 then (lead, 3) else (follow, 3)
    | none => (follow, 3)

/-- The verdict is applied (R27): the faulty lane's deltas from the frame of the mismatch on are void, it is faulted and
repaired, and publication resumes. -/
def applyVerdict (x : Dispute) (v : Lane × Nat) (s : State) : State :=
  let s := s.onDev fun d => { d with lanes := { d.lanes with dispute := none } }
  let s := s.onDev (Dev.onLane v.1 fun r => { r with
    voidFrom := some x.frame, unresolvedRepair := decide (v.2 = 3) })
  faultLane v.1 (if x.compare then 0x03 else 0x04) (if x.compare then 1 else 3) v.2 false s

/-- DISPUTE_VERDICT (R26, R27, R477). -/
def execDisputeVerdict (r : Recompute) (s : State) : Out :=
  .next (match s.dev.lanes.dispute with
    | none => s
    | some x =>
      if s.clk.frame ≤ x.frame then s
      else match x.lone with
        | some l =>
          if r = .confirms l then
            (s.onDev fun d => { d with lanes := { d.lanes with dispute := none } }).onDev
              (Dev.onLane (laneOther l) fun q => { q with voidFrom := some x.frame })
          else dualFault s
        | none => applyVerdict x (verdictOf r x s.dev) s)

/-- Outputs with the disputed ones in their safe state (R25): contactors and DC enables off, pilot to F. -/
def disputedSafe (x : Dispute) (o : BitVec 3) : BitVec 3 := (o &&& ~~~ (x.outputs &&& 0b011#3)) ||| (x.outputs &&& 0b100#3)

/-- DISPUTE_HOLD_EXPIRY (R25): at the latch point of frame n+2 without a verdict. -/
def execDisputeHoldExpiry (s : State) : Out :=
  devStep s fun d =>
    match d.lanes.dispute with
    | some x =>
      if x.outFrame + 2 ≤ s.clk.frame ∧ x.outputs ≠ 0 then
        applyOutputs s.clk.frame (disputedSafe x d.lanes.outputs)
          { d with lanes := { d.lanes with dispute := some { x with heldOut := disputedSafe x x.heldOut } } }
      else d
    | none => d

/-! Repair. -/

/-- The next repair step and the lane state it runs in (R32). -/
def nextRepair : RepairStep → Option RepairStep × LaneSt
  | .selfTest => (some .boot, .boot)
  | .boot => (some .load, .load)
  | .load => (some .rebuildArray, .resync)
  | .rebuildArray => (some .cloneBank, .resync)
  | .cloneBank => (some .image, .resync)
  | .image => (some .probation, .probation)
  | .probation => (some .probation, .probation)

/-- The lane is the first that an activation restarts, before its hand-over: it runs in TRIAL (R428, R429). -/
def inTrial (l : Lane) (d : Dev) : Bool :=
  d.upd.activation.any fun a => !a.byRestart && (if a.revert.isSome then decide (a.lane ≠ l) else decide (a.lane = l) && !a.handed)

/-- A repair step completes (R14, R32): faulty SRAM banks found are mapped out; the void mark ends with the rebuilt
array (R27). A lane restarted for an activation's hand-over is then in TRIAL (R428). -/
def repairStepEff (badBanks : BitVec 4) (step : RepairStep) (trial : Bool) (r : LaneRec) : LaneRec :=
  { r with
    repair := (nextRepair step).1, banksOut := r.banksOut ||| badBanks
    st := if (nextRepair step).2 = .probation && trial then .trial else (nextRepair step).2
    voidFrom := if step = .rebuildArray then none else r.voidFrom }

/-- The array of a lane is rebuilt from the other lane's (R27, R32). A lost array is neither rebuilt nor copied (R12, R15,
R39): where the other's is lost, the lane's own keeps what is not void (log entry 135). -/
def rebuildArray (n : Nat) (l : Lane) (d : Dev) : Dev :=
  let put (x : Mram) : Led := match l with
    | .a => { d.led with arrayA := x }
    | .b => { d.led with arrayB := x }
  let own := match l with
    | .a => d.led.arrayA
    | .b => d.led.arrayB
  let other := match l with
    | .a => d.led.arrayB
    | .b => d.led.arrayA
  if (d.lanes.get l).mramLost then d
  else if (d.lanes.get (laneOther l)).mramLost then
    { d with led := put (own.before ((d.lanes.get l).voidFrom.getD 0)) }
  else ({ d with led := put (other.clonedTo own) }).raise Src.own Event.ARRAY_REBUILT
    (leBytes 1 (laneCode l) ++ leBytes 8 n)

/-- LANE_REPAIR_STEP_DONE (R32, R33): a step that fails loses the lane, or makes an activation revert (R429); a faulty
SRAM bank is mapped out. -/
def execLaneRepairStepDone (l : Lane) (ok : Bool) (badBanks : BitVec 4) (s : State) : Out :=
  devStep s fun d =>
    match (d.lanes.get l).repair with
    | none => d
    | some step =>
      if ok then
        let d := if step = .rebuildArray then rebuildArray s.clk.frame l d else d
        d.onLane l (repairStepEff badBanks step (inTrial l d))
      else match d.upd.activation with
        | some a =>
          if a.revert.isSome then laneLost s l d
          else { d with upd := { d.upd with activation := some { a with failed := true } } }
        | none => laneLost s l d

/-- LANE_REPAIRED is due (R33). -/
def repairedDue (l : Lane) (d : Dev) : Bool :=
  decide ((d.lanes.get l).st = .probation) && decide (800 ≤ (d.lanes.get l).clean)

/-- LANE_REPAIRED (R33): the lane becomes the follow; only healthy lanes leave PROBATION. -/
def repairedEff (n : Nat) (l : Lane) (d : Dev) : Dev :=
  let d := d.onLane l fun r => { r with
    st := .follow, repair := none, clean := 0, selfFault := none, unresolvedRepair := false
    unresolvedReturn := if r.unresolvedRepair then some n else r.unresolvedReturn }
  ({ d with lanes := { d.lanes with mirrorCold := false } }).raise Src.serge Event.LANE_REPAIRED (leBytes 1 (laneCode l))

/-- LANE_REPAIRED. -/
def execLaneRepaired (l : Lane) (s : State) : Out := devStep s fun d => d.when (repairedDue l d) (repairedEff s.clk.frame l)

/-- MRAM_ARRAY_LOST (R15): the ledger goes on with the other array. -/
def execMramArrayLost (l : Lane) (s : State) : Out :=
  devStep s fun d => d.when (!(d.lanes.get l).mramLost)
    fun d => (d.onLane l fun r => { r with mramLost := true }).raise Src.own Event.MRAM_ARRAY_LOST []

/-- MIRROR_FAULT (R12, R298): the follow is marked cold; Degraded in Session, SAFETY_LATCH elsewhere. -/
def execMirrorFault (s : State) : Out :=
  devStep s fun d =>
    let d := { d with lanes := { d.lanes with mirrorCold := true } }
    degradedFault s Event.MIRROR_FAULT Cause.safetyLatch (some SBit.mirror) (d.raise Src.own Event.MIRROR_FAULT [])

/-- The window gate at a SERGE fault (R17): that of the lane that held the token. Between a token's withdrawal and its
grant no lane holds it: the gate then goes, at the next tick, to the lane that was to be granted the token (DESIGN CHOICE,
log entry 136). A gate that an earlier fault made stays. -/
def gateAtFault (x : Lanes) : Option Lane := if x.sergeFault then x.windowGate else x.token

/-- SERGE_FAULT (R17): the safe state until RESET_N or a power cycle, no token, a window gate for the lane that held it;
the session ends in the frame of the cause (R43). -/
def execSergeFault (s : State) : Out :=
  devStep s fun d =>
    let d := safeOutputs s.clk.frame (endSession s EndCause.trip d)
    let d := { d with lanes := { d.lanes with sergeFault := true, windowGate := gateAtFault d.lanes, token := none } }
    (d.sergeRaise s.clk.frame Event.SERGE_FAULT []).safeStop s.clk.mode Cause.serge Event.SERGE_FAULT

/-! Crystals. -/

/-- A crystal is declared failed in a slot of the frame (R18): tick and PLL move to the other, and its lane is faulted, at
once before 70 µs (R22); with none left R476 applies. -/
def crystalFail (x : Xtal) (slot : Nat) (atOnce : Bool) (s : State) : State :=
  let d := s.dev
  let isA := decide (x = .xa)
  if (if isA then d.lanes.xaFailed else d.lanes.xbFailed) then s
  else
    let other : Xtal := if isA then .xb else .xa
    let otherFailed := if isA then d.lanes.xbFailed else d.lanes.xaFailed
    let d := { d with lanes := { d.lanes with
      xaFailed := d.lanes.xaFailed || isA, xbFailed := d.lanes.xbFailed || !isA
      tickSource := if d.lanes.tickSource = x then other else d.lanes.tickSource } }
    let d := d.sergeRaise s.clk.frame Event.CRYSTAL_FAILED (leBytes 1 (if isA then 0 else 1))
    let s := { s with dev := d }
    if otherFailed then dualFault s
    else
      let l : Lane := if isA then .a else .b
      let s := s.onDev (Dev.onLane l fun r => { r with pll := other })
      whenS (laneWorks l s) (faultLane l 0x0E slot 1 atOnce) s

/-- CRYSTAL_FAILED (R18, R22, R476), in the slot of the frame in which SERGE finds it; slots as in R37. -/
def execCrystalFailed (x : Xtal) (slot : Nat) (s : State) : Out := .next (crystalFail x slot (decide (slot < 4)) s)

/-- The crystal check of a 1 s measurement (R18): more than 100 ppm from the RTC while the other stays within. -/
def crystalVerdict (xa xb : Int) : Option Xtal :=
  if 100000 < xa.natAbs ∧ xb.natAbs ≤ 100000 then some .xa
  else if 100000 < xb.natAbs ∧ xa.natAbs ≤ 100000 then some .xb else none

/-- CRYSTAL_MEASUREMENT (R18, R206): the 1 s measurement is kept, the crystals are judged, and the RTC crystal is
measured against them. The measurement ends at a tick, so a lead that it faults is replaced at 70 µs (R22). -/
def execCrystalMeasurement (xa xb : Int) (s : State) : Out :=
  .next (whenS s.clk.running (fun s =>
    let s := s.onDev fun d => rtcMeasure xa xb { d with lanes := { d.lanes with xaDev := xa, xbDev := xb } }
    match crystalVerdict xa xb with
    | some x => crystalFail x 6 true s
    | none => s) s)

/-- NO_TICK_GAP (R17): the lanes stopped metering for a number of frames; R195 names no KIND for this gap, so its KIND
is a free value (log entry 35). -/
def execNoTickGap (frames : Nat) (s : State) : Out :=
  devStep s (Dev.when (s.clk.running && decide (2 ≤ frames)) fun d =>
    let kind := (Config.freeValue 17 d.led.gapCount).toNat % 256
    let d := billGap (lpMark 4 (demandsShort { d with lanes := { d.lanes with tickLost := true } }))
    addGap ⟨s.clk.frame + 1, d.tar.rtc, d.tar.rtc + frames / 8000, 0, kind, 0, if kind = 3 then frames else 0⟩ d)

end Sys2Proof.Machine
end

