-- ==== Sys2Proof/Machine/SafeChecks.lean ====
section
/-!
DEFINITION. Safety functions, second half (chapter 10): contactors and quads, dual-channel inputs, over-temperature,
pilot integrity, protective earth, insulation, and the safety step of a frame.
-/

namespace Sys2Proof.Machine

/-! Quads (R281 to R283). -/

/-- The next switch in rotation that has not failed. -/
def nextQuad (qs : List QuadSw) (k : Nat) : Nat :=
  (((List.range 8).map fun j => (k + j) % 8).find? fun j => decide ((nth {} qs j).failed = 0)).getD k

/-- A proof pulse may start (R282): a frame of number 1,000 k, or the rotation of a proof test; none within 800 frames of
a pull-in or an open request; one per frame. -/
def proofDue (s : State) (d : Dev) : Bool :=
  let n := s.clk.frame
  s.clk.running && (decide (n % 1000 = 0) || d.saf.proofs.contains 3) && decide (d.saf.proofAt ≠ some n) &&
    d.saf.quadAt.all fun f => decide (f + 800 ≤ n)

/-- The quad of switch k is energised (R281, R332). -/
def quadEnergised (d : Dev) (k : Nat) : Bool := quadsOn d && coilFitted d (k / 4)

/-- A coil carries current only through a switch of each of its two pairs (R281). -/
def coilConducts (d : Dev) (coil : Nat) : Bool :=
  let x (j : Nat) : QuadSw := nth {} d.saf.quads (4 * coil + j)
  let c (j : Nat) : Bool := ((x j).on && decide ((x j).failed ≠ 1)) || decide ((x j).failed = 2)
  (c 0 || c 1) && (c 2 || c 3)

/-- How a coil is driven (R332): 0 not, 1 the full VAUX during COIL_PULLIN, then by the economiser, which chops the high-side
pair (2), or the low-side pair while switch `pulsed` of the high side is proved by its off-pulse (3). -/
def coilDrive (d : Dev) (coil : Nat) (pulsed : Option Nat) : Nat :=
  if !quadEnergised d (4 * coil) then 0
  else if !d.saf.economiser then 1
  else if pulsed.any fun k => decide (k / 4 = coil ∧ k % 4 < 2) then 3 else 2

/-- The mean coil current that the economiser regulates to: COIL_HOLD_I ± 10 % (R332). -/
def coilHoldOk (d : Dev) (ma : Nat) : Bool :=
  decide (90 * d.nat Param.COIL_HOLD_I ≤ 100 * ma ∧ 100 * ma ≤ 110 * d.nat Param.COIL_HOLD_I)

/-- The off-pulse passes (R282): the switch carries less than 50 mA and its partner 80 to 120 % of the coil current before,
and afterwards each carries at least 20 % of the pair's current. -/
def offPulseOk (m : ProofMeas) : Bool :=
  let pair := m.afterPulsed + m.afterPartner
  decide (m.pulsed < 50) && decide (80 * m.before ≤ 100 * m.partner ∧ 100 * m.partner ≤ 120 * m.before) &&
    decide (pair ≤ 5 * m.afterPulsed ∧ pair ≤ 5 * m.afterPartner)

/-- The on-pulse passes (R282): the coil current stays below 10 mA and the read-back follows the switch. -/
def onPulseOk (m : ProofMeas) : Bool := decide (m.coil < 10) && m.readOn && !m.readOff

/-- The proof of switch k passes (R282). -/
def proofPass (d : Dev) (k : Nat) (m : ProofMeas) : Bool := if quadEnergised d k then offPulseOk m else onPulseOk m

/-- A failed proof shows a short (R283; DESIGN CHOICE, log entry 158): the switch conducts while it is off. -/
def proofShort (d : Dev) (k : Nat) (m : ProofMeas) : Bool :=
  if quadEnergised d k then decide (50 ≤ m.pulsed) else m.readOff || decide (10 ≤ m.coil)

/-- QUAD_PROOF_PULSE (R282, R283): a first miss is logged, a second in turn fails the switch; a miss of any switch while
another is failed is a trip of class S. -/
def proofEff (s : State) (m : ProofMeas) (d : Dev) : Dev :=
  let k := nextQuad d.saf.quads d.saf.quadNext
  let q := nth {} d.saf.quads k
  let other := d.saf.quads.any fun x => decide (x.failed ≠ 0)
  let put (q : QuadSw) (d : Dev) : Dev :=
    { d with saf := { d.saf with quads := d.saf.quads.set k q, quadNext := (k + 1) % 8, proofAt := some s.clk.frame } }
  if proofPass d k m then selftest s.clk.frame 15 true 0 (put { q with missed := 0 } d)
  else if other then
    trip s 3 (k + 1) 0 (some SBit.quad) (selftest s.clk.frame 15 false (k + 1) (put { q with missed := q.missed + 1 } d))
  else if q.missed = 0 then
    (put { q with missed := 1 } d).raise Src.serge Event.QUAD_PROOF_MISSED (leBytes 1 (k + 1))
  else
    let kind := if proofShort d k m then 2 else 1
    (selftest s.clk.frame 15 false (k + 1) (put { q with missed := 0, failed := kind } d)).raise Src.serge
      Event.SWITCH_FAILED (leBytes 1 (k + 1) ++ leBytes 1 kind)

/-- QUAD_PROOF_PULSE. -/
def execQuadProofPulse (m : ProofMeas) (s : State) : Out := devStep s (Dev.when (proofDue s s.dev) (proofEff s m))

/-! Contactors (R284, R285). -/

/-- The outlet voltage shows closure (R284): 80 % of nominal on every phase in use; not asked on DC. -/
def voltageShows (d : Dev) : Bool :=
  dcKind d || (List.range (phasesUsed d)).all fun k => decide (4 * d.nat Param.NOMINAL_U ≤ 5 * uoRms d k)

/-- The closing check is due (R284). -/
def closeCheckDue (n : Nat) (d : Dev) : Bool :=
  quadsOn d && d.saf.closeAt.any fun f => decide (f + ms (d.nat Param.CONTACTOR_CLOSE_MAX) ≤ n)

/-- CONTACTOR_CLOSE_CHECK (R284): a contactor that shows open, or the voltage, fails the check; class S. -/
def closeCheck (s : State) (d : Dev) : Dev :=
  let stuck := (mirrorOpen d).head?
  let d := { d with saf := { d.saf with closeAt := none, closeOk := stuck.isNone && voltageShows d } }
  if d.saf.closeOk then d
  else
    let what := stuck.getD 3
    trip s 3 (8 + what) 0 (some SBit.contactor)
      ((requestOpen s.clk.frame d).raise Src.serge Event.CONTACTOR_NOT_CLOSED (leBytes 1 what ++ leBytes 1 0))

/-- CONTACTOR_CLOSE_CHECK. -/
def execContactorCloseCheck (s : State) : Out :=
  devStep s (Dev.when (closeCheckDue s.clk.frame s.dev) (closeCheck s))

/-- CONTACTOR_DROPPED (R284): a mirror contact shows open main contacts, filtered over 8 frames, while closed. -/
def execContactorDropped (mc : Nat) (s : State) : Out :=
  devStep s fun d => d.when (quadsOn d && d.saf.closeOk && (mirrorOpen d).contains mc) fun d =>
    trip s 3 (8 + mc) 0 (some SBit.contactor)
      ((requestOpen s.clk.frame d).raise Src.serge Event.CONTACTOR_NOT_CLOSED (leBytes 1 mc ++ leBytes 1 1))

/-- The stage reports a present current of 0 (R260). -/
def stageCurrentZero (d : Dev) : Bool := decide (fieldAt d.win.stage 0x010 4 = 0)

/-- SERGE's part of the opening check is due: CONTACTOR_OPEN_MAX after the latch (R285). -/
def openSergeDue (n : Nat) (d : Dev) : Bool :=
  decide (d.saf.openSt = 1) && !d.saf.openSerge && decide (d.saf.openAt + ms (d.nat Param.CONTACTOR_OPEN_MAX) ≤ n)

/-- SERGE's part: a mirror contact that still shows closed main contacts sets the weld latch. -/
def openSerge (d : Dev) : Dev :=
  { d with saf := { d.saf with openSerge := true, weldLatch := d.saf.weldLatch || !(mirrorClosed d).isEmpty } }

/-- The firmware's part of the opening check (R285): none yet, passed, or failed with what it found (1, 2 a contactor, 3
the outlet voltage). -/
def openVerdict (n : Nat) (d : Dev) : Option (Option Nat) :=
  if d.saf.openSt ≠ 1 ∨ d.saf.openSerge = false then none
  else
    let welded := (mirrorClosed d).head?
    let bad : Option Nat := if welded.isSome then welded else if d.saf.weldLatch then some 1 else none
    if bad.isSome then some bad
    else if dcKind d then
      if udcMean d < d.nat Param.WELD_UDC_THR then some none
      else if d.saf.decayFrom.any fun f => decide (f + ms (d.nat Param.WELD_DC_DECAY) ≤ n) then some (some 3) else none
    else if d.saf.openAt + ms (d.nat Param.CONTACTOR_OPEN_MAX) + 160 ≤ n then
      if (List.range 3).all (fun k => decide (uoRms d k < d.nat Param.WELD_U_THR)) then some none else some (some 3)
    else none

/-- The outlet voltage that the opening check finds, mV (R285): the greatest RMS of UO1 to UO3, on DC UDC_MEAN. -/
def outletVoltage (d : Dev) : Int := if dcKind d then udcMean d else (List.range 3).foldl (fun m k => max m (uoRms d k)) 0

/-- WELD_DETECTED's items (R309, R470): the contactor, or 0 and the outlet voltage. -/
def weldItems (what : Nat) (d : Dev) : List Byte :=
  if what = 3 then leBytes 1 0 ++ leBytesInt 4 (outletVoltage d) else leBytes 1 what ++ leBytes 4 0

/-- The opening check concludes (R255, R285): proved open, or WELD_DETECTED with SAFETY_LATCH and the session's end. -/
def openConclude (s : State) (bad : Option Nat) (d : Dev) : Dev :=
  match bad with
  | none => openConcluded s { d with saf := { d.saf with openSt := 2 } }
  | some what =>
    let d := { d with saf := { d.saf with openSt := 3 } }
    let d := d.raise Src.serge Event.WELD_DETECTED (weldItems what d)
    let d := (markS SBit.weld d).safeStop s.clk.mode Cause.safetyLatch Event.WELD_DETECTED
    openConcluded s (if d.ses.stop.isSome then d else endSession s EndCause.trip d)

/-- OPENING_CHECK: both parts as they fall due. -/
def openingStep (s : State) (d : Dev) : Dev :=
  let n := s.clk.frame
  let d := if openSergeDue n d then openSerge d else d
  let d := if d.saf.openSt = 1 ∧ d.saf.decayFrom.isNone ∧ stageCurrentZero d ∧ ¬d.veh.powerOn then
      { d with saf := { d.saf with decayFrom := some n } } else d
  match openVerdict n d with
  | none => d
  | some bad => openConclude s bad d

/-- OPENING_CHECK (R285). -/
def execOpeningCheck (s : State) : Out := devStep s (openingStep s)

/-! Dual-channel inputs (R286 to R291). -/

/-- A channel's record. -/
def Saf.chan (x : Saf) : SafeIn → SafeCh
  | .estopA => x.estopA | .estopB => x.estopB | .doorA => x.doorA | .doorB => x.doorB

/-- Change a channel's record. -/
def Saf.onChan (x : Saf) (i : SafeIn) (f : SafeCh → SafeCh) : Saf :=
  match i with
  | .estopA => { x with estopA := f x.estopA }
  | .estopB => { x with estopB := f x.estopB }
  | .doorA => { x with doorA := f x.doorA }
  | .doorB => { x with doorB := f x.doorB }

/-- An input belongs to the enclosure. -/
def safeInDoor : SafeIn → Bool
  | .doorA => true | .doorB => true | _ => false
/-- An input is channel B. -/
def safeInB : SafeIn → Bool
  | .estopB => true | .doorB => true | _ => false
/-- The input's number in events: ESTOP_A 1, ESTOP_B 2, DOOR_A 3, DOOR_B 4, MC1 5, MC2 6. -/
def safeInCode : SafeIn → Nat
  | .estopA => 1 | .estopB => 2 | .doorA => 3 | .doorB => 4

/-- The trip of an emergency stop or enclosure (R291): class H, with ESTOP_LATCH the emergency stop class S. -/
def dualTrip (s : State) (door : Bool) (tier : Nat) (d : Dev) : Dev :=
  trip s (if door then 5 else 4) tier 0
    (if !door && decide (d.nat Param.ESTOP_LATCH = 1) && decide (tier ≤ 2) then some SBit.estop else none) d

/-- Both accepted levels low together release a latched discrepancy (R289). -/
def discRelease (x : Saf) : Saf :=
  { x with discLatE := x.discLatE && !(!x.estopA.level && !x.estopB.level)
           discLatD := x.discLatD && !(!x.doorA.level && !x.doorB.level) }

/-- SAFETY_INPUT_TRIP (R288): SERGE accepts the low level of a channel. -/
def inputLow (s : State) (i : SafeIn) (d : Dev) : Dev :=
  let other := if (safeInDoor i) then (if (safeInB i) then d.saf.doorA else d.saf.doorB).level
    else (if (safeInB i) then d.saf.estopA else d.saf.estopB).level
  let ch := if (safeInB i) then 1 else 0
  let saf := d.saf.onChan i fun c => { c with level := false }
  let saf := if other then
      (if (safeInDoor i) then { saf with lowFirstD := ch } else { saf with lowFirstE := ch }) else saf
  dualTrip s (safeInDoor i) (ch + 1) { d with saf := discRelease saf }

/-- SAFETY_INPUT_TRIP. -/
def execSafetyInputTrip (i : SafeIn) (s : State) : Out :=
  devStep s fun d => d.when (dualEnabled d (safeInDoor i) && (d.saf.chan i).level) (inputLow s i)

/-- SAFETY_INPUT_HIGH_ACCEPTED (R288): the high level of a channel is accepted. -/
def execSafetyInputHighAccepted (i : SafeIn) (s : State) : Out :=
  devStep s fun d => d.when (!(d.saf.chan i).level) fun d =>
    { d with saf := d.saf.onChan i fun c => { c with level := true } }

/-- DISCREPANCY is due (R289): the disagreement has reached the discrepancy time. -/
def discDue (door : Bool) (d : Dev) : Bool :=
  dualEnabled d door &&
    (if door then !d.saf.discLatD && decide (ms (d.nat Param.DOOR_DISCREPANCY) ≤ d.saf.discD)
     else !d.saf.discLatE && decide (ms (d.nat Param.ESTOP_DISCREPANCY) ≤ d.saf.discE))

/-- DISCREPANCY (R289, R298): class H, latched until both channels are low together. -/
def discEff (s : State) (door : Bool) (d : Dev) : Dev :=
  let saf := if door then { d.saf with discLatD := true } else { d.saf with discLatE := true }
  let first := if door then d.saf.lowFirstD else d.saf.lowFirstE
  dualTrip s door 3 (({ d with saf := saf }).raise Src.serge Event.DISCREPANCY
    (leBytes 1 (if door then 5 else 4) ++ leBytes 1 first))

/-- DISCREPANCY. -/
def execDiscrepancy (door : Bool) (s : State) : Out := devStep s (Dev.when (discDue door s.dev) (discEff s door))

/-- CHATTER (R290): more than 20 edges within 100 ms; the input counts as low until it has been stable for 100 ms. -/
def execChatter (i : SafeIn) (edges : Nat) (s : State) : Out :=
  devStep s fun d => d.when (decide (20 < edges) && dualEnabled d (safeInDoor i) && !(d.saf.chan i).chatter) fun d =>
    let d := { d with saf := d.saf.onChan i fun c => { c with chatter := true, stable := 0 } }
    dualTrip s (safeInDoor i) (if (safeInB i) then 5 else 4) (d.raise Src.serge Event.CHATTER (leBytes 1 (safeInCode i)))

/-- A test pulse of TPO_A or TPO_B is due (R287): TPO_PERIOD after its last, and half of it after the other output's. -/
def pulseTestDue (s : State) (b : Bool) (d : Dev) : Bool :=
  let own := if b then d.saf.tpoAtB else d.saf.tpoAtA
  let other := if b then d.saf.tpoAtA else d.saf.tpoAtB
  let period := ms (d.nat Param.TPO_PERIOD)
  s.clk.running && (d.saf.proofs.contains 4 || decide (own + period ≤ s.clk.frame)) &&
    decide (other + period / 2 ≤ s.clk.frame)

/-- Inputs fed by a test-pulse output that take part (R286, R287): emergency stop, enclosure, mirror contact; enabled or
fitted, and high before the pulse. -/
def pulseInputs (b : Bool) (d : Dev) : List Bool :=
  [dualEnabled d false && (if b then d.saf.estopB else d.saf.estopA).level,
   dualEnabled d true && (if b then d.saf.doorB else d.saf.doorA).level,
   (d.nat Param.CONTACTOR_CFG).testBit (if b then 2 else 1) && (if b then d.saf.mc2 else d.saf.mc1)]

/-- The function an input of a pulse belongs to (R268), and its number in events. -/
def pulseFn (k : Nat) : Nat := if k = 0 then 4 else if k = 1 then 5 else 3

/-- One input's result: two failures in turn are an input fault of class S (R287). -/
def pulseResult (s : State) (b : Bool) (lowSeen : BitVec 3) (d : Dev) (k : Nat) : Dev :=
  let at_ := k + (if b then 3 else 0)
  if nth false (pulseInputs b d) k then
    let fails := if lowSeen.getLsbD k then 0 else nth 0 d.saf.tpoFails at_ + 1
    let d := { d with saf := { d.saf with tpoFails := d.saf.tpoFails.set at_ fails } }
    if fails = 2 then
      let code := 2 * k + 1 + (if b then 1 else 0)
      trip s (pulseFn k) (8 + code) 0 (some SBit.input)
        ((selftest s.clk.frame 16 false code d).raise Src.serge Event.INPUT_TEST_FAILED (leBytes 1 code))
    else d
  else d

/-- TEST_PULSE (R287). -/
def testPulseEff (s : State) (b : Bool) (lowSeen : BitVec 3) (d : Dev) : Dev :=
  let d := { d with saf := if b then { d.saf with tpoAtB := s.clk.frame } else { d.saf with tpoAtA := s.clk.frame } }
  let d := (List.range 3).foldl (pulseResult s b lowSeen) d
  if d.saf.tpoFails.all (decide <| · = 0) then selftest s.clk.frame 16 true 0 d else d

/-- TEST_PULSE. -/
def execTestPulse (b : Bool) (lowSeen : BitVec 3) (s : State) : Out :=
  devStep s (Dev.when (pulseTestDue s b s.dev) (testPulseEff s b lowSeen))

/-! Other functions (R292 to R295). -/

/-- A new auxiliary result of input code `code` counts for OT_SOURCE (R292). -/
def otResult (code : Nat) (d : Dev) : Dev :=
  let step (k : Nat) (h : Nat) : Nat :=
    if nth 0 (otCodes d) k = code ∧ code ≠ 0 then
      (match tempOfCode d code with
       | some t => if d.num Param.OT_TRIP ≤ t then h + 1 else 0
       | none => 0)
    else h
  { d with saf := { d.saf with otHigh := d.saf.otHigh.zipIdx.map fun x => step x.2 x.1 } }

/-- OVER_TEMPERATURE_TRIP is due (R292): two consecutive results of either input, or an input invalid. -/
def otDue (d : Dev) : Bool := (otInvalid d && !d.pow.starting) || d.saf.otHigh.any (decide <| 2 ≤ ·)

/-- OVER_TEMPERATURE_TRIP (R292): class H. -/
def otTrip (s : State) (d : Dev) : Dev :=
  let k := if 2 ≤ nth 0 d.saf.otHigh 0 ∨ otBad d 0 = true then 0 else 1
  d.when (otDue d) (trip s 6 (nth 0 (otCodes d) k) ((tempOfCode d (nth 0 (otCodes d) k)).getD 0) none)

/-- OVER_TEMPERATURE_TRIP. -/
def execOverTemperatureTrip (s : State) : Out := devStep s (otTrip s)

/-- PILOT_INTEGRITY_TRIP (R293): the diode is class H; reference, read-back and SHORT are class S. -/
def pilotTrip (s : State) (d : Dev) : Dev :=
  let d := d.when (decide (3 ≤ d.saf.negBad)) (trip s 7 1 d.samp.pilot.negMv none)
  let d := d.when (pilotELong s.clk.frame d) (trip s 7 2 0 none)
  let d := d.when (decide (2 ≤ d.saf.refBad)) (trip s 7 3 0 (some SBit.pilot))
  let d := d.when (decide (3 ≤ d.saf.backBad)) (trip s 7 4 d.samp.pilot.posMv (some SBit.pilot))
  d.when (decide (3 ≤ d.saf.shortBad)) (trip s 7 5 0 (some SBit.pilot))

/-- PILOT_INTEGRITY_TRIP. -/
def execPilotIntegrityTrip (s : State) : Out := devStep s (pilotTrip s)

/-- PILOT_E_TIMEOUT (R242, R293). -/
def execPilotETimeout (s : State) : Out :=
  devStep s fun d => d.when (pilotELong s.clk.frame d) (trip s 7 2 0 none)

/-- PE_CONTINUITY_TRIP (R294): ten cycles, or UGN faulty (class S). -/
def peTrip (s : State) (d : Dev) : Dev :=
  let d := d.when (decide (10 ≤ d.saf.peCycles)) (trip s 8 1 (d.metr.grid.unRms / 1000) none)
  d.when ((d.chan 3).faulty) (trip s 8 2 0 (some SBit.ugn))

/-- PE_CONTINUITY_TRIP. -/
def execPeContinuityTrip (s : State) : Out := devStep s (peTrip s)

/-- The insulation monitor runs (R295): a DC session in cable check, pre-charge or transfer. -/
def isoRuns (d : Dev) : Bool :=
  d.ses.isOpen && dcKind d && d.unitOn 10 && decide (1 ≤ d.dc.phase ∧ d.dc.phase ≤ 3)

/-- The monitor switches UISO (R140, R295): to SCS mode while it runs, to continuous mode otherwise, at a tick at which
conversions start (DESIGN CHOICE, log entry 153). -/
def uisoStep (n : Nat) (d : Dev) : Dev :=
  let want := if isoRuns d then 2 else 1
  if d.unitOn 10 ∧ n % 3 = 0 ∧ (d.chan 17).mode ≠ want then d.onChan 17 fun ch => { ch with mode := want, modeAt := n }.reset
  else d

/-- A threshold in Ω/V as kΩ (R295). -/
def isoLimit (d : Dev) (ohmV : Nat) : Nat := ohmV * d.nat Param.RATED_UDC / 1000000

/-- The resistance of a pair in kΩ, rounded down (R295); none for a difference of 0 or less. -/
def isoValue (d : Dev) (plus minus : Int) : Option Nat :=
  if plus - minus ≤ 0 then none
  else some ((2 * (d.nat Param.ISO_INJ_VOLT : Int)) / (plus - minus) - d.nat Param.ISO_NET_RES).toNat

/-- The drive on ISO_INJ (R295): none while the monitor rests; else its polarity, and whether it is the measuring drive. -/
def isoDrive (n : Nat) (d : Dev) : Option (Bool × Bool) :=
  if isoRuns d then d.saf.isoAt.map fun f => (d.saf.isoPositive, decide (f + d.nat Param.ISO_SETTLE ≤ n)) else none

/-- Every ISO_STEP the injection changes polarity (R295). -/
def isoTick (n : Nat) (d : Dev) : Dev :=
  if isoRuns d && d.saf.isoAt.any fun f => decide (f + d.nat Param.ISO_STEP ≤ n) then
    { d with saf := { d.saf with
        isoAt := some n, isoPositive := !d.saf.isoPositive, isoVal := none, isoJudged := false } }
  else d

/-- The calibrated result of UISO, µA (R139, R150, R295). -/
def isoCurrent (d : Dev) : Int :=
  calibrate (d.chan 17).scsResult (d.num (Param.CAL_OFFSET + 272)) (d.nat (Param.CAL_SCALE + 272))
    (d.num (Param.CAL_GAIN + 272)) (tcTerms d 17).1 (decide (d.nat (Param.CAL_POLARITY + 272) = 1))

/-- The first conversion that starts at or after the change to the measuring drive gives the step's value (R295); a
conversion that ends at the tick of frame n started at that of n − 3 (R139). -/
def isoCapture (n : Nat) (d : Dev) : Dev :=
  if isoRuns d && d.saf.isoVal.isNone && d.saf.isoAt.any fun f => decide (f + d.nat Param.ISO_SETTLE + 3 ≤ n) then
    { d with saf := { d.saf with isoVal := some (isoCurrent d) } }
  else d

/-- INSULATION_STEP is due (R295): the step has its value. -/
def isoDue (d : Dev) : Bool := isoRuns d && d.saf.isoVal.isSome && !d.saf.isoJudged

/-- A pair is judged (R295). A negative step completes a pair, so that two pairs take four steps. -/
def isoJudge (s : State) (plus minus : Int) (d : Dev) : Dev :=
  match isoValue d plus minus with
  | none => trip s 9 2 (plus - minus) (some SBit.insulation) d
  | some r =>
    let d := { d with saf := { d.saf with
      isoRes := some r, isoPairs := if d.saf.isoPositive then d.saf.isoPairs else d.saf.isoPairs + 1 } }
    if r < isoLimit d (d.nat Param.ISO_FAULT_OHMV) then trip s 9 1 r none d
    else if r < isoLimit d (d.nat Param.ISO_WARN_OHMV) ∧ ¬d.saf.isoWarned then
      ({ d with saf := { d.saf with isoWarned := true } }).raise Src.serge Event.INSULATION_WARNING (leBytes 4 r)
    else d

/-- INSULATION_STEP (R295): the step's value pairs with the previous step's of the other polarity. -/
def isoEff (s : State) (uA : Int) (d : Dev) : Dev :=
  let pos := d.saf.isoPositive
  let last := d.saf.isoLast
  let d := { d with saf := { d.saf with isoJudged := true, isoLast := some uA } }
  match last with
  | none => d
  | some x => isoJudge s (if pos then uA else x) (if pos then x else uA) d

/-- INSULATION_STEP. -/
def execInsulationStep (s : State) : Out :=
  devStep s fun d => d.when (isoDue d) (isoEff s (d.saf.isoVal.getD 0))

/-! The safety step of a frame (R274). -/

/-- A channel at a tick: raw level, the firmware's filter of F frames, stable time, chatter's end (R288, R290). -/
def SafeCh.tick (filter : Nat) (raw : Bool) (c : SafeCh) : SafeCh :=
  let stable := if raw = c.raw then c.stable + 1 else 0
  let k := if raw = c.fw then 0 else c.fwCount + 1
  { c with raw := raw, stable := stable, chatter := c.chatter && decide (stable < 800)
           fw := if filter ≤ k then raw else c.fw, fwCount := if filter ≤ k then 0 else k }

/-- A mirror contact filtered over 8 frames (R284): high while the main contacts are open. -/
def mcTick (raw : Bool) (x : Bool × Nat) : Bool × Nat :=
  let k := if raw = x.1 then 0 else x.2 + 1
  if 8 ≤ k then (raw, 0) else (x.1, k)

/-- SERGE's input snapshot of a tick (R274 item 1): levels, mirror contacts, disagreement counts, fluxgate drive. -/
def snapshotStep (levels : BitVec 7) (fluxOk : Bool) (d : Dev) : Dev :=
  let x := d.saf
  let fe := d.nat Param.ESTOP_FILTER
  let fd := d.nat Param.DOOR_FILTER
  let m1 := mcTick (levels.getLsbD 4) (x.mc1, x.mcCount1)
  let m2 := mcTick (levels.getLsbD 5) (x.mc2, x.mcCount2)
  let x := { x with
    estopA := x.estopA.tick fe (levels.getLsbD 0), estopB := x.estopB.tick fe (levels.getLsbD 1)
    doorA := x.doorA.tick fd (levels.getLsbD 2), doorB := x.doorB.tick fd (levels.getLsbD 3)
    mc1 := m1.1, mcCount1 := m1.2, mc2 := m2.1, mcCount2 := m2.2
    discE := if x.estopA.level = x.estopB.level then 0 else x.discE + 1
    discD := if x.doorA.level = x.doorB.level then 0 else x.discD + 1
    fluxBad := if fluxOk then 0 else x.fluxBad + 1 }
  { d with saf := discRelease x }

/-- The firmware's own evaluation of a dual-channel function (R288): either filtered level low. -/
def dualFirmware (s : State) (door : Bool) (d : Dev) : Dev :=
  let a := if door then d.saf.doorA else d.saf.estopA
  let b := if door then d.saf.doorB else d.saf.estopB
  d.when (dualEnabled d door && (!a.fw || !b.fw)) (dualTrip s door (if !a.fw then 1 else 2))

/-- Whether a mirror contact shows a dropped contactor (R284). -/
def droppedStep (s : State) (d : Dev) : Dev :=
  match (mirrorOpen d).head? with
  | some mc => d.when (quadsOn d && d.saf.closeOk) fun d =>
      trip s 3 (8 + mc) 0 (some SBit.contactor)
        ((requestOpen s.clk.frame d).raise Src.serge Event.CONTACTOR_NOT_CLOSED (leBytes 1 mc ++ leBytes 1 1))
  | none => d

/-- The safety step (R274): the functions in their order, from what the frame's inputs and the rows before it show. -/
def safetyStep (s : State) (levels : BitVec 7) (fluxOk : Bool) (d : Dev) : Dev :=
  let d := snapshotStep levels fluxOk d
  let d := dualFirmware s true (dualFirmware s false d)
  let d := d.when (discDue false d) (discEff s false)
  let d := d.when (discDue true d) (discEff s true)
  let d := d.when (decide (8 ≤ d.saf.fluxBad) && !d.saf.pathMLost)
    fun d => pathMLost s 0 { d with saf := { d.saf with pathSLost := true } }
  let d := pilotTrip s d
  let d := rcStep d
  let d := (List.range 4).foldl (fun d k => tierTrip s k d) d
  let d := d.when ((d.chan 14).faulty && !d.saf.pathMLost) (pathMLost s 0)
  let d := peTrip s d
  let d := otTrip s d
  let d := droppedStep s d
  let d := d.when (closeCheckDue s.clk.frame d) (closeCheck s)
  let d := openingStep s d
  let d := d.when (degradedExpired s d) (degradedExpiry s)
  rearm s.clk.frame d

end Sys2Proof.Machine
end

