-- ==== Sys2Proof/Machine/Limits.lean ====
section
/-!
DEFINITION. The limit stack, the pilot waveform and closing (R237 to R239, R253, R257, R258).
-/

namespace Sys2Proof.Machine

/-! The limit stack (R257). -/

/-- A word of the host half of the stage exchange, by its offset (R260). -/
def hostWord (d : Dev) (off : Nat) : Nat := fieldAt d.win.stage off 4

/-- The host has written its half: a copy with a sequence word other than 0 was accepted (log entry 33). -/
def hostHalf (d : Dev) : Bool := decide (d.win.stageSeq ≠ 0)

/-- A cap word: 0xFFFFFFFF means no cap. -/
def capIn (code w : Nat) : List (Nat × Nat) := if w = 0xFFFFFFFF then [] else [(w, code)]

/-- DERATE factor applied to a rating (R257): half while the temperature is invalid. -/
def derated (d : Dev) (rating : Nat) : List (Nat × Nat) :=
  let src := d.nat Param.DERATE_SOURCE
  if src = 0 then []
  else
    match tempOfCode d src with
    | none => [(rating / 2, 7)]
    | some t =>
      let a := d.num Param.DERATE_T_START
      let b := d.num Param.DERATE_T_END
      [(if t ≤ a then rating else if b ≤ t then 0 else ((rating : Int) * (b - t) / (b - a)).toNat, 7)]

/-- Grid and tariff caps of a phase, mA. -/
def gridCap (d : Dev) (k : Nat) : Nat := fieldAt (d.blk Param.GRID_CAP) (4 * k) 4
/-- TARIFF_CAP of a tariff. -/
def tariffCap (d : Dev) (t : Nat) : Nat := fieldAt (d.blk Param.TARIFF_CAP) (4 * (t - 1)) 4

/-- I_own of a phase, mA (R257). -/
def ownCurrent (d : Dev) (k : Nat) : Nat :=
  ((nth {} d.metr.grid.phases k).irms - (nth {} d.metr.outlet.phases k).irms) / 1000

/-- The AC inputs of a phase. -/
def acInputs (d : Dev) (tariff k : Nat) : List (Nat × Nat) :=
  (if cableValid d then [(cableRating d, 1)] else []) ++
  (if d.veh.evKnown && decide (d.veh.link = .hlc) then [(d.veh.evMaxI, 2)] else []) ++
  [(d.nat Param.POST_RATING_I, 3)] ++
  (if gridCap d k = 0xFFFFFFFF then [] else [(gridCap d k - ownCurrent d k, 4)]) ++
  capIn 5 (tariffCap d tariff) ++
  (if hostHalf d then capIn 6 (hostWord d (0x02C + 4 * k)) else []) ++
  derated d (d.nat Param.POST_RATING_I)

/-- Caps per phase as DC power, mW (R257): present when every phase in use has one. -/
def capPower (d : Dev) (code : Nat) (cap : Nat → Nat) : List (Nat × Nat) :=
  let ks := List.range (phasesUsed d)
  if ks.any fun k => decide (cap k = 0xFFFFFFFF) then []
  else
    let sum := ks.foldl (fun a k => a + (nth {} d.metr.grid.phases k).urms * cap k) 0
    [(sum * (10000 - d.nat Param.BAL_LOSS_DC) / 10000 / 1000000 - d.nat Param.BAL_OWN_POWER, code)]

/-- The DC inputs for current. -/
def dcInputs (d : Dev) : List (Nat × Nat) :=
  [(cableRating d, 1)] ++ (if d.veh.evKnown then [(d.veh.evMaxI, 2)] else []) ++ [(d.nat Param.POST_RATING_IDC, 3)] ++
  (if hostHalf d then capIn 6 (hostWord d 0x038) else []) ++ derated d (d.nat Param.POST_RATING_IDC)

/-- The DC inputs for power. -/
def dcPowerInputs (d : Dev) (tariff : Nat) : List (Nat × Nat) :=
  (if d.veh.evKnown then [(d.veh.evMaxP, 2)] else []) ++ [(d.nat Param.POST_RATING_PDC, 3)] ++
  capPower d 4 (gridCap d) ++ capPower d 5 (fun _ => tariffCap d tariff) ++
  (if hostHalf d then capIn 6 (hostWord d 0x03C) else []) ++ derated d (d.nat Param.POST_RATING_PDC)

/-- One input binds before another (R257): it is less, or they tie and its code is lower. -/
def bindsBefore (x y : Nat × Nat) : Bool := decide (x.1 < y.1) || (decide (x.1 = y.1) && decide (x.2 < y.2))

/-- The least input with its code (R257). -/
def least : List (Nat × Nat) → Nat × Nat
  | [] => (0, 0)
  | [x] => x
  | x :: y :: r => if bindsBefore (least (y :: r)) x then least (y :: r) else x

/-- Discharge limits (R249): stage, vehicle, post rating and host cap. -/
def dischargeLimits (d : Dev) : Nat × Nat :=
  if d.veh.bpt then
    ((least ((if d.veh.evKnown then [(d.veh.evMaxI, 2)] else []) ++ [(d.nat Param.POST_RATING_IDC, 3)] ++
        (if hostHalf d then capIn 6 (hostWord d 0x038) ++ [(hostWord d 0x024, 6)] else []))).1,
     (least ((if d.veh.evKnown then [(d.veh.evMaxP, 2)] else []) ++ [(d.nat Param.POST_RATING_PDC, 3)] ++
        (if hostHalf d then capIn 6 (hostWord d 0x03C) ++ [(hostWord d 0x028, 6)] else []))).1)
  else (0, 0)

/-- The applied limits of a frame (R257) with the tariff in force at its tick. -/
def limitStack (tariff : Nat) (d : Dev) : Dev :=
  if dcKind d then
    let c := least (dcInputs d)
    let p := least (dcPowerInputs d tariff)
    { d with ses := { d.ses with
        limits := [0, 0, 0], limitDc := c.1, limitP := p.1, binding := c.2
        limitDis := (dischargeLimits d).1, limitDisP := (dischargeLimits d).2 } }
  else
    let ls := (List.range (phasesUsed d)).map fun k => least (acInputs d tariff k)
    { d with ses := { d.ses with
        limits := ls.map Prod.fst ++ List.replicate (3 - phasesUsed d) 0
        limitDc := (least ls).1, limitP := 0, limitDis := 0, limitDisP := 0, binding := (least ls).2 } }

/-- The limit that R253 and R258 compare with 6,000 mA: the minimum over the phases in use, or the DC current. -/
def appliedLimit (d : Dev) : Nat := d.ses.limitDc

/-! The waveform (R237 to R239). -/

/-- The duty of R238 in 10⁻⁴; none below 6,000 mA. -/
def dutyOf (i : Nat) : Option Nat :=
  if i < 6000 then none
  else if i ≤ 51000 then some (5 * (i / 30))
  else if i < 80000 then some (6400 + 5 * (i / 125))
  else some 9600

/-- A mode in which the pilot is driven: Ready and the session modes (R237). -/
def pilotMode (m : Mode) : Bool := decide (m = .ready ∨ m = .session ∨ m = .degraded)

/-- The waveform that the lead requests (R237, R244, R258). -/
def waveOf (c : Clk) (d : Dev) : PilotWave :=
  if !pilotMode c.mode || d.pow.starting || decide (d.pow.st ≠ .mains) then .forceF
  else if !d.ses.isOpen || decide (c.mode = .ready) then .steady
  else
    match d.veh.link with
    | .slac => .hlc
    | .hlc => .hlc
    | .basic =>
      if (d.ses.st = 3 ∨ d.ses.st = 4 ∨ d.ses.st = 6) ∧ d.ses.stop.isNone ∧ ¬d.ses.paused ∧ cableValid d then
        (match dutyOf (appliedLimit d) with
         | some k => .duty k
         | none => .steady)
      else .steady
    | _ => .steady

/-- The lead writes the waveform request (R239); state F of a mode is part of the output request. -/
def waveStep (c : Clk) (d : Dev) : Dev :=
  let w := waveOf c d
  { d with
    veh := { d.veh with request := w }
    lanes := { d.lanes with request :=
      if w = .forceF then d.lanes.request ||| 0b100#3 else d.lanes.request &&& 0b011#3 } }

/-- The waveform is written and latched in the row's frame. -/
def waveNow (c : Clk) (d : Dev) : Dev := latchOutputs c.frame (waveStep c d)

/-- A change takes effect at the first PWM period after the latch: the tick of a frame of number 8 k (R239). State F needs
no boundary: the latch itself applies it (R237). -/
def waveApply (n : Nat) (d : Dev) : Dev :=
  if n % 8 = 0 then { d with veh := { d.veh with applied := d.veh.latched } } else d

/-! Closing (R138, R253). -/

/-- A channel that R138 waits for carries FILL or INT_SETTLE. -/
def closingWaits (d : Dev) : Bool :=
  ([0, 1, 2] ++ (if dcKind d then [15, 16] else [8, 9, 10, 11, 12, 13])).any fun c =>
    (d.chan c).filling || (d.chan c).settling

/-- A safety function holds the outlet open: a trip latch, a condition present, a test or an opening check running, or
the weld latch (R253, R270, R276, R280, R285). -/
def safetyHolds (n : Nat) (d : Dev) : Bool :=
  decide (d.saf.trips ≠ 0) || safeFunctions.any (fnActive n d) || d.saf.rcTestDue || d.saf.ftTestDue ||
    decide (d.saf.openSt = 1 ∨ d.saf.openSt = 3) || d.saf.weldLatch || d.lanes.sergeFault

/-- State C is accepted, or D with VENT_SUPPORTED (R242, R253). -/
def wantsEnergy (d : Dev) : Bool :=
  decide (d.veh.st = .c) || (decide (d.veh.st = .d) && decide (d.nat Param.VENT_SUPPORTED = 1))

/-- The first condition of R253 that is missing: 1 authorisation, 2 pilot state, 3 cable, 4 limit, 5 lock, 6 R138, 7
mode, 8 safety, 9 PowerDelivery; 0 none (log entry 11). -/
def closeFault (s : State) (d : Dev) : Nat :=
  if d.ses.st ≠ 3 ∨ d.ses.auth.isNone ∨ d.ses.stop.isSome then 1
  else if !wantsEnergy d then 2
  else if !cableValid d then 3
  else if appliedLimit d < 6000 then 4
  else if !lockConfirmed d then 5
  else if closingWaits d then 6
  else if s.clk.mode ≠ .session ∨ modeLeaves d then 7
  else if safetyHolds s.clk.frame d then 8
  else if d.veh.link = .basic ∨ dcKind d ∨ (d.veh.link = .hlc ∧ d.veh.powerOn) then 0 else 9

/-- OUTLET_CLOSE is due (R253): an AC outlet with no condition missing. -/
def closeDue (s : State) (d : Dev) : Bool :=
  d.ses.isOpen && !dcKind d && !outletShut d && decide (closeFault s d = 0)

/-- OUTLET_CLOSE (R253): the outlet is requested closed; the state is CHARGING. -/
def closeOutlet (n : Nat) (d : Dev) : Dev :=
  let d := requestOutputs n (d.lanes.request ||| 0b001#3) d
  { d with ses := { d.ses with st := 4 } }

/-- OUTLET_CLOSE. -/
def execOutletClose (s : State) : Out := devStep s (Dev.when (closeDue s s.dev) (closeOutlet s.clk.frame))

/-! Pause (R258). -/

/-- SESSION_PAUSED (R258): an applied AC limit below 6,000 mA pauses; the time for the resumption is kept. -/
def pauseStep (s : State) (d : Dev) : Dev :=
  let n := s.clk.frame
  let low := decide (appliedLimit d < 6000)
  if !d.ses.isOpen || dcKind d || decide (d.ses.st < 3 ∨ 6 < d.ses.st) then d
  else if d.ses.paused then
    { d with ses := { d.ses with limitOk := if low then none else some (d.ses.limitOk.getD n) } }
  else if low then
    let basic := decide (d.veh.link = .basic)
    let d := { d with ses := { d.ses with
      paused := true, limitOk := none
      pauseOpen := if basic && quadsOn d then some n else none
      st := if d.ses.st = 6 || (basic && quadsOn d) then d.ses.st else 5 } }
    waveNow s.clk (d.raise Src.vehicle Event.SESSION_PAUSED (leBytes 1 0 ++ leBytes 1 d.ses.binding))
  else d

/-- SESSION_RESUME is due (R258): the limit has stayed at or above 6,000 mA for 480,000 frames. -/
def resumeDue (n : Nat) (d : Dev) : Bool :=
  d.ses.isOpen && d.ses.paused && d.ses.limitOk.any fun f => decide (f + 480000 ≤ n)

/-- SESSION_RESUME (R258). -/
def resumeEff (s : State) (d : Dev) : Dev :=
  let d := { d with ses := { d.ses with
    paused := false, limitOk := none, pauseOpen := none
    st := if d.ses.st = 5 then (if quadsOn d then 4 else 3) else d.ses.st } }
  waveNow s.clk (d.raise Src.vehicle Event.SESSION_PAUSED (leBytes 1 1 ++ leBytes 1 d.ses.binding))

/-- SESSION_RESUME. -/
def execSessionResume (s : State) : Out :=
  devStep s (Dev.when (resumeDue s.clk.frame s.dev) (resumeEff s))

/-- STOP_WAIT_EXPIRY is due (R255, R258): STOP_WAIT after the stop or the pause began, with the outlet closed. -/
def stopWaitDue (n : Nat) (d : Dev) : Bool :=
  d.ses.isOpen && quadsOn d &&
    ((d.ses.stop.any fun x => decide (x.2 + ms (d.nat Param.STOP_WAIT) ≤ n)) ||
      d.ses.pauseOpen.any fun f => decide (f + ms (d.nat Param.STOP_WAIT) ≤ n))

/-- STOP_WAIT_EXPIRY. -/
def execStopWaitExpiry (s : State) : Out :=
  devStep s (Dev.when (stopWaitDue s.clk.frame s.dev) (openOutlet s.clk.frame))

/-- The limits of the frame with what they entail (R257, R258): a cycle that the frame's crossing completes counts already,
metering being before (R158). -/
def limitStep (s : State) (d : Dev) : Dev :=
  pauseStep s { d with ses := (limitStack s.regs.tariff (closePending s.clk.frame d)).ses }

end Sys2Proof.Machine
end

