-- ==== Sys2Proof/Machine/Vehicle.lean ====
section
/-!
DEFINITION. The vehicle link (chapter 09): accepted pilot states, proximity, SLAC, the V2G messages, authorisation, and
the DC transfer.
-/

namespace Sys2Proof.Machine

/-- The code of a pilot state: 0 to 5 for A to F, 6 INVALID (R264). -/
def pilotCode : PilotSt → Nat
  | .a => 0 | .b => 1 | .c => 2 | .d => 3 | .e => 4 | .f => 5 | .invalid => 6

/-- The code of a waveform in PILOT_STATE_ACCEPTED: 0 steady, 1 HLC, 2 duty, 3 state F (log entry 11). -/
def waveCode : PilotWave → Nat
  | .steady => 0 | .hlc => 1 | .duty _ => 2 | .forceF => 3 | .pullDown => 3

/-- The code of a protocol (R259): 1 DIN SPEC 70121, 2 ISO 15118-2, 3 ISO 15118-20. -/
def protoCode : Option Proto → Nat
  | none => 0
  | some .din => 1
  | some .iso2 => 2
  | some .iso20 => 3

/-! The pilot (R240 to R242). -/

/-- The state that a positive plateau decodes to (R240); F only while SERGE forces it. -/
def decodePilot (forced : Bool) (mv : Int) : PilotSt :=
  if 10500 ≤ mv ∧ mv < 13500 then .a
  else if 7500 ≤ mv ∧ mv < 10500 then .b
  else if 4500 ≤ mv ∧ mv < 7500 then .c
  else if 1500 ≤ mv ∧ mv < 4500 then .d
  else if -1500 ≤ mv ∧ mv < 1500 then .e
  else if -13500 ≤ mv ∧ mv < -10500 ∧ forced = true then .f
  else .invalid

/-- The level of an accepted state: the centre of its interval (R240, R293; log entry 34). -/
def pilotCentre : PilotSt → Option Int
  | .a => some 12000 | .b => some 9000 | .c => some 6000 | .d => some 3000 | .e => some 0 | _ => none

/-- A new positive plateau (R241): consecutive plateaus that decode alike are counted; the read-back check runs while
+12 V steady is driven (R293). The plateau that completes the acceptance of a state is judged by that state, which it
decodes to (log entry 34). -/
def positivePlateau (mv : Int) (d : Dev) : Dev :=
  let st := decodePilot (decide (d.veh.applied = .forceF)) mv
  let count := if st = d.veh.cand then d.veh.candCount + 1 else 1
  let accepts := decide (3 ≤ count) && decide (st ≠ d.veh.st)
  let back := decide (d.veh.applied = .steady) && (pilotCentre d.veh.st).any fun c => decide (1000 < (mv - c).natAbs)
  { d with
    veh := { d.veh with cand := st, candCount := count }
    saf := { d.saf with backBad := if back && !accepts then d.saf.backBad + 1 else 0 } }

/-- A new negative plateau (R241, R293): with PWM and state B, C or D accepted it lies within −13,500 to −10,500 mV; a
diode fault stays until state A is accepted. -/
def negativePlateau (mv : Int) (d : Dev) : Dev :=
  if d.veh.applied.pwm ∧ vehConnected d.veh.st then
    let bad := decide (mv < -13500 ∨ -10500 ≤ mv)
    { d with saf := { d.saf with
        negBad := if bad then d.saf.negBad + 1 else if 3 ≤ d.saf.negBad then d.saf.negBad else 0 } }
  else d

/-- Consecutive periods with SHORT for a duty above 1 % (R293): `short` says whether a plateau of period k was. -/
def shortPeriods (k : Nat) (short : Bool) (x : Saf) : Saf :=
  if short then
    if x.shortAt = k ∧ 0 < x.shortBad then x
    else { x with shortAt := k, shortBad := if x.shortAt + 1 = k then x.shortBad + 1 else 1 }
  else if x.shortAt + 1 < k then { x with shortBad := 0 } else x

/-- PILOT_PLATEAU (R143, R144, R240, R241): the sampler's word, the decoding, and the pilot integrity counters. -/
def plateauEff (n : Nat) (p : Plateau) (d : Dev) : Dev :=
  let wave := d.veh.applied
  let d := { d with samp := { d.samp with pilot := pilotWordOf n wave p d.samp.pilot } }
  let above := match wave with
    | .duty k => decide (100 < k)
    | w => w.pwm
  let d := match plateauOf wave p with
    | some (positive, v) =>
      let d := match v with
        | some mv => if positive then positivePlateau mv d else negativePlateau mv d
        | none => d
      { d with saf := shortPeriods ((n - 1) / 8) (v.isNone && above) d.saf }
    | none => d
  { d with saf := { d.saf with
      refBad := match referenceOf n p with
        | some r => if 60 < (r - 9000).natAbs then d.saf.refBad + 1 else 0
        | none => d.saf.refBad } }

/-- PILOT_PLATEAU. -/
def execPilotPlateau (p : Plateau) (s : State) : Out := devStep s (plateauEff s.clk.frame p)

/-- An accepted state that holds the outlet open (R242): B, D without VENT_SUPPORTED, E, INVALID, F. -/
def pilotOpens (d : Dev) : Bool := !wantsEnergy d

/-- PILOT_STATE_ACCEPTED (R242, R250, R255, R256): what each state does. E and INVALID are one condition, whose time runs on
from the one to the other. -/
def pilotAccept (s : State) (st : PilotSt) (d : Dev) : Dev :=
  let n := s.clk.frame
  let old := d.veh.st
  let lost (x : PilotSt) : Bool := decide (x = .e) || decide (x = .invalid)
  let d := { d with
    veh := { d.veh with
      st := st, stAt := if lost old && lost st then d.veh.stAt else n
      stateCount := d.veh.stateCount + 1, noOfferLogged := false }
    saf := if st = PilotSt.a then { d.saf with negBad := 0 } else d.saf }
  let d := d.raise Src.vehicle Event.PILOT_STATE_ACCEPTED
    (leBytes 1 (pilotCode old) ++ leBytes 1 (pilotCode st) ++ leBytes 1 (waveCode d.veh.applied))
  match st with
  | .a =>
    let d := requestOpen n d
    let d := endSession s EndCause.vehicle d
    let d := { d with
      ses := { d.ses with waitA := false, startPending := false, refused := 0 }
      veh := { d.veh with extOnly := false } }
    let d := if d.ses.isOpen then d else { d with ses := { d.ses with st := idleState d } }
    releaseLock n d
  | _ =>
    let d := if old = PilotSt.a ∧ vehConnected st ∧ s.clk.mode = .ready then
        { d with ses := { d.ses with startPending := true } } else d
    let d := if st = PilotSt.b ∧ d.veh.link = .off then
        waveNow s.clk { d with veh := { d.veh with link := .slac, slac := .waiting, slacSince := n + 8 - n % 8 } } else d
    let d := decideSession s d
    if pilotOpens d then openOutlet n d
    else if closeDue s d then closeOutlet n d
    else if outletShut d ∨ d.veh.noOfferLogged ∨ closeFault s d = 0 then d
    else ({ d with veh := { d.veh with noOfferLogged := true } }).raise Src.vehicle Event.C_WITHOUT_OFFER
      (leBytes 1 (closeFault s d))

/-- PILOT_STATE_ACCEPTED is due (R241): three consecutive plateaus decode to a state other than the accepted one. -/
def pilotDue (st : PilotSt) (d : Dev) : Bool :=
  decide (3 ≤ d.veh.candCount) && decide (d.veh.cand = st) && decide (st ≠ d.veh.st)

/-- PILOT_STATE_ACCEPTED. -/
def execPilotStateAccepted (st : PilotSt) (s : State) : Out :=
  devStep s (Dev.when (pilotDue st s.dev) (pilotAccept s st))

/-! Proximity (R243). -/

/-- Resistance on PP in Ω as numerator and denominator, from the auxiliary result in 0.5 µV (R141, R243). -/
def ppRatio (d : Dev) (r : Int) : Int × Int := ((d.nat Param.PP_PULLUP : Int) * (2500000 + r), 2500000 - r)

/-- The rating of a proximity result (R243). -/
def ppDecode (d : Dev) (x : AuxRes) : Nat :=
  if !x.valid then cableInvalid
  else
    let q := ppRatio d x.value
    let within (lo hi : Int) : Bool := decide (lo * q.2 ≤ q.1 ∧ q.1 ≤ hi * q.2)
    if q.2 ≤ 0 ∨ 4500 * q.2 < q.1 then 0
    else if within 60 140 then 63000
    else if within 150 330 then 32000
    else if within 450 1000 then 20000
    else if within 1050 2700 then 13000
    else cableInvalid

/-- A new result of AUX16 (R243): PP is not read for a DC outlet nor for a tethered cable. -/
def ppResult (d : Dev) : Dev :=
  if dcKind d ∨ d.nat Param.PP_MODE = 1 then d
  else
    let x := nth {} d.samp.aux 15
    let c := ppDecode d x
    let q := ppRatio d x.value
    { d with veh := { d.veh with
        cableCand := c, cableCount := if c = d.veh.cableCand then d.veh.cableCount + 1 else 1
        ppRes := if !x.valid then d.veh.ppRes else if q.2 ≤ 0 then 0xFFFFFFFF else (cdiv q.1 q.2.toNat).toNat } }

/-- CABLE_CHANGED is due (R243). -/
def cableDue (d : Dev) : Bool := decide (2 ≤ d.veh.cableCount) && decide (d.veh.cableCand ≠ d.veh.cable)

/-- CABLE_CHANGED (R243, R263): the rating enters the stack in the frame; none or INVALID opens the outlet, none ends the
session with cause 1. -/
def cableAccept (s : State) (d : Dev) : Dev :=
  let d := { d with veh := { d.veh with cable := d.veh.cableCand } }
  let d := d.raise Src.vehicle Event.CABLE_CHANGED (leBytes 4 d.veh.ppRes ++ leBytes 4 d.veh.cable)
  let d := limitStep s d
  if d.veh.cable = 0 then endSession s EndCause.vehicle d
  else if d.veh.cable = cableInvalid ∧ d.ses.isOpen then openOutlet s.clk.frame d else d

/-- CABLE_CHANGED. -/
def execCableChanged (s : State) : Out := devStep s (Dev.when (cableDue s.dev) (cableAccept s))

/-! SLAC and the link (R244, R245). -/

/-- BEACON (R244, R245): every 320 frames; beacons unanswered in turn are counted. -/
def execBeacon (answered : Bool) (s : State) : Out :=
  devStep s fun d => d.when (d.ses.isOpen && vehModemUp d && decide (d.veh.beaconAt + 320 ≤ s.clk.frame)) fun d =>
    { d with veh := { d.veh with
        beaconAt := s.clk.frame, beaconMisses := if answered then 0 else d.veh.beaconMisses + 1 } }

/-- SLAC_PARM_REQ (R244): answered with 10 sounds and a window of 600 ms; the sounding follows. -/
def execSlacParmReq (s : State) : Out :=
  protoStep s fun d => d.when (d.ses.isOpen && decide (d.veh.link = .slac)) fun d =>
    { d with veh := { d.veh with slac := .sounding, slacCnf := (10, 600) } }

/-- SLAC fails (R244, R247): causes 0 timeout, 1 attenuation, 2 sequence; basic charging on AC with HLC_FALLBACK,
otherwise steady until the vehicle has passed through B. -/
def slacFail (s : State) (cause : Nat) (d : Dev) : Dev :=
  let basic := !dcKind d && decide (d.nat Param.HLC_FALLBACK = 1)
  let d := { d with veh := { d.veh with
    slac := .failed, link := if basic then .basic else .off, proto := none, v2g := false, evKnown := false } }
  waveNow s.clk (limitStep s (d.raise Src.vehicle Event.SLAC_FAILED (leBytes 1 cause)))

/-- SLAC_MATCHED (R244): the match is confirmed, or refused by attenuation. -/
def slacMatch (s : State) (evccid : BitVec 48) (attenDb : Nat) (seqOk : Bool) (d : Dev) : Dev :=
  let d := { d with veh := { d.veh with atten := attenDb } }
  if !seqOk then slacFail s 2 d
  else if d.nat Param.SLAC_ATTEN_MAX < attenDb then slacFail s 1 d
  else ({ d with veh := { d.veh with
      slac := .matched, link := .hlc, evccid := evccid, beaconMisses := 0, beaconAt := s.clk.frame } }).raise
    Src.vehicle Event.SLAC_MATCHED (leBytes 8 evccid.toNat ++ leBytes 4 attenDb)

/-- SLAC_MATCHED. -/
def execSlacMatched (evccid : BitVec 48) (attenDb : Nat) (seqOk : Bool) (s : State) : Out :=
  protoStep s fun d => d.when (d.ses.isOpen && decide (d.veh.link = .slac) && decide (d.veh.slac = .sounding))
    (slacMatch s evccid attenDb seqOk)

/-- SLAC_INIT_TIMEOUT is due (R244). -/
def slacTimeoutDue (n : Nat) (d : Dev) : Bool :=
  d.ses.isOpen && decide (d.veh.link = .slac) && decide (d.veh.slac = .waiting) &&
    decide (d.veh.slacSince + secs (d.nat Param.SLAC_INIT_TIMEOUT) ≤ n)

/-- SLAC_INIT_TIMEOUT. -/
def execSlacInitTimeout (s : State) : Out :=
  protoStep s (Dev.when (slacTimeoutDue s.clk.frame s.dev) (slacFail s 0))

/-- The code of a link loss: 0 beacon, 1 TCP, 2 loop (log entry 11). -/
def lossCode : LinkLoss → Nat
  | .beacon => 0 | .tcp => 1 | .loop => 2

/-- VPLC_LINK_LOST is due (R245): three beacons unanswered; the V2G session's connection closes; no charging loop request
for LOOP_LOSS_TIME. -/
def linkLossDue (n : Nat) (c : LinkLoss) (d : Dev) : Bool :=
  d.ses.isOpen && decide (d.veh.link = .hlc) &&
    match c with
    | .beacon => decide (3 ≤ d.veh.beaconMisses)
    | .tcp => d.veh.v2g
    | .loop => d.veh.lastLoop.any fun f => decide (f + ms (d.nat Param.LOOP_LOSS_TIME) ≤ n)

/-- VPLC_LINK_LOST (R245): on AC basic charging with the current duty in this frame; on DC the current is ramped to 0 and
the pilot returns to HLC for a new SLAC. -/
def linkLost (s : State) (c : LinkLoss) (d : Dev) : Dev :=
  let n := s.clk.frame
  let dc := dcKind d
  let d := { d with veh := { d.veh with
    link := if dc then .slac else .basic, slac := if dc then .waiting else .idle, slacSince := n + 8 - n % 8
    v2g := false, proto := none, sdp := none, powerOn := false, lastLoop := none, evKnown := false, beaconMisses := 0
    linkLost := d.veh.linkLost + 1 } }
  let d := if dc ∧ enablesOn d then rampDown n 0 d else d
  let d := d.raise Src.vehicle Event.VPLC_LINK_LOST (leBytes 1 (lossCode c) ++ leBytes 1 (if dc then 1 else 0))
  waveNow s.clk (limitStep s d)

/-- VPLC_LINK_LOST. -/
def execVplcLinkLost (c : LinkLoss) (s : State) : Out :=
  devStep s (Dev.when (linkLossDue s.clk.frame c s.dev) (linkLost s c))

/-! V2G messages (R246 to R249). -/

/-- A response to the vehicle (R255, R261): each asks it to stop while an ordered stop runs, and says so once the station has
shut down. -/
def reply (code : RespCode) (finished : Bool) (values : List Int) (d : Dev) : Dev :=
  { d with veh := { d.veh with answer := some ⟨code, finished, d.ses.stop.isSome, d.dc.stageLost, values⟩ } }

/-- Digital communication is up in an open session. -/
def hlcUp (d : Dev) : Bool := d.ses.isOpen && decide (d.veh.link = .hlc)

/-- SDP_REQUEST (R247): TLS is served; TCP only with SDP_SECURITY at 1, or on a DC outlet for DIN SPEC 70121. -/
def execSdpRequest (tls : Bool) (s : State) : Out :=
  protoStep s fun d => d.when (hlcUp d) fun d =>
    let served := if tls then cryptoUp d else decide (d.nat Param.SDP_SECURITY = 1) || dcKind d
    reply (if served then .ok else .failed) true [if tls then 1 else 0]
      { d with veh := { d.veh with sdp := if served then some tls else none } }

/-- A protocol fits the outlet and the security of the connection (R246, R247). -/
def protoFits (d : Dev) (tls : Bool) : Proto → Bool
  | .din => dcKind d && !tls
  | .iso2 => tls || decide (d.nat Param.SDP_SECURITY = 1)
  | .iso20 => tls

/-- The protocol of an entry of PROTOCOL_ORDER (R265). -/
def protoOf : Nat → Option Proto
  | 1 => some .din | 2 => some .iso2 | 3 => some .iso20 | _ => none

/-- The first entry of PROTOCOL_ORDER that is offered and fits (R247). -/
def chooseProto (d : Dev) (tls : Bool) (offered : List Proto) : Option Proto :=
  ((List.range 3).filterMap fun k => protoOf (d.nat Param.PROTOCOL_ORDER / 256 ^ k % 256)).find? fun p =>
    offered.contains p && protoFits d tls p

/-- SUPPORTED_APP_PROTOCOL (R247). -/
def appProtocol (s : State) (offered : List Proto) (tls : Bool) (d : Dev) : Dev :=
  match chooseProto d tls offered with
  | some p => ({ reply .ok true [] d with veh := { (reply .ok true [] d).veh with proto := some p } }).raise Src.vehicle
      Event.PROTOCOL_SELECTED (leBytes 1 (protoCode (some p)) ++ leBytes 1 (if tls then 1 else 0))
  | none => slacFail s 2 (reply .noNegotiation true [] d)

/-- SUPPORTED_APP_PROTOCOL. -/
def execSupportedAppProtocol (offered : List Proto) (s : State) : Out :=
  protoStep s fun d =>
    match d.veh.sdp with
    | some tls => d.when (hlcUp d) (appProtocol s offered tls)
    | none => d

/-- SESSION_SETUP (R246): the V2G session opens. -/
def execSessionSetup (s : State) : Out :=
  protoStep s fun d => d.when (hlcUp d && d.veh.proto.isSome) fun d =>
    reply .ok true [] { d with veh := { d.veh with
        v2g := true, pnc := false, bpt := false, powerOn := false, lastLoop := none
        contract := if d.veh.contract = 4 then 4 else 0 } }

/-- Payment options offered (R247, R248, R252): external only with an authorisation held, after a refused contract, over
TCP, and in DIN SPEC 70121; otherwise PAYMENT_OPTIONS. -/
def paymentOffer (d : Dev) : Nat :=
  if d.ses.auth.isSome ∨ d.veh.extOnly ∨ d.veh.sdp ≠ some true ∨ d.veh.proto = some .din then 1
  else d.nat Param.PAYMENT_OPTIONS

/-- SERVICE_DISCOVERY (R252). -/
def execServiceDiscovery (s : State) : Out :=
  protoStep s fun d => d.when d.veh.v2g fun d =>
    reply .ok true [paymentOffer d] { d with veh := { d.veh with offered := paymentOffer d } }

/-- PAYMENT_SERVICE_SELECTION (R246, R249, R252): Plug & Charge if offered; a BPT service with ISO 15118-20 and BPT_ENABLE,
which authorises discharge for the session. What is not offered is answered FAILED. -/
def execPaymentServiceSelection (pnc bpt : Bool) (s : State) : Out :=
  protoStep s fun d => d.when d.veh.v2g fun d =>
    let b := bpt && decide (d.nat Param.BPT_ENABLE = 1) && decide (d.veh.proto = some .iso20)
    let p := pnc && d.veh.offered.testBit 1
    reply (if p = pnc ∧ b = bpt then .ok else .failed) true [] { d with
      veh := { d.veh with pnc := p, bpt := b }
      ses := { d.ses with flags := if b then d.ses.flags ||| 0x200#32 else d.ses.flags } }

/-- A contract is refused (R248, R252): causes 0 chain, 1 validity, 2 clock, 3 host; later V2G sessions of the connection
are offered external identification only; a card kept behind it is taken. -/
def pncRefuse (n cause : Nat) (d : Dev) : Dev :=
  let held := d.ses.heldCard
  let d := { d with
    veh := { d.veh with contract := 3, extOnly := true }
    ses := { d.ses with heldCard := none } }
  let d := d.raise Src.vehicle Event.PNC_REFUSED (leBytes 1 cause)
  match held with
  | some id => if d.ses.auth.isNone then takeAuth Src.card 2 id n d else d
  | none => d

/-- The checks of a contract begin (R248): refused by its chain, in which the signature over the challenge counts, its
validity or the clock; a contract whose checks pass is under validation. -/
def contractCheck (c : PncCheck) (emaid : List Byte) (s : State) (d : Dev) : Dev :=
  d.when (d.veh.pnc && d.ses.auth.isNone && decide (d.veh.contract = 0)) fun d =>
    match c with
    | .externalId => d
    | .chainBad => if d.tar.status = 2 then pncRefuse s.clk.frame 2 d else pncRefuse s.clk.frame 0 d
    | .validityBad => if d.tar.status = 2 then pncRefuse s.clk.frame 2 d else pncRefuse s.clk.frame 1 d
    | .chainOk =>
      if d.tar.status = 2 then pncRefuse s.clk.frame 2 d
      else { d with veh := { d.veh with contract := 1, contractSince := s.clk.frame, emaid := emaid } }

/-- AUTHORIZATION_REQ (R248, R252): finished with an authorisation held, FAILED for a refused contract, ongoing while either
is awaited. -/
def execAuthorizationReq (c : PncCheck) (emaid : List Byte) (s : State) : Out :=
  protoStep s fun d => d.when d.veh.v2g fun d =>
    let d := contractCheck c emaid s d
    if d.ses.auth.isSome then reply .ok true [] d
    else if d.veh.pnc ∧ d.veh.contract = 3 then reply .failed true [] d else reply .ok false [] d

/-- PNC_VALIDATED (R248, R262): authorises with PNC_AUTH at 0; otherwise the host is asked, or the contract refused while
the host is lost. -/
def pncValid (n : Nat) (d : Dev) : Dev :=
  if d.nat Param.PNC_AUTH = 0 then takeAuth Src.vehicle 1 d.veh.emaid n d
  else if !d.win.hostPresent then pncRefuse n 3 d
  else ({ d with veh := { d.veh with contract := 4, contractSince := n } }).raise Src.vehicle Event.AUTH_REQUEST (identItem d.veh.emaid)

/-- PNC_VALIDATED. -/
def execPncValidated (s : State) : Out :=
  protoStep s fun d => d.when (d.ses.isOpen && decide (d.veh.contract = 1) && d.ses.auth.isNone) (pncValid s.clk.frame)

/-- PNC_HOST_TIMEOUT (R248). -/
def execPncHostTimeout (s : State) : Out :=
  protoStep s fun d => d.when (decide (d.veh.contract = 4) &&
    decide (d.veh.contractSince + ms (d.nat Param.PNC_HOST_TIMEOUT) ≤ s.clk.frame)) (pncRefuse s.clk.frame 3)

/-- CHARGE_PARAMETER_DISCOVERY (R257, R258): the vehicle's maxima enter the limit stack. -/
def execChargeParameterDiscovery (maxV maxI maxP : Nat) (s : State) : Out :=
  protoStep s fun d => d.when d.veh.v2g fun d =>
    reply .ok true []
      (limitStep s { d with veh := { d.veh with evMaxV := maxV, evMaxI := maxI, evMaxP := maxP, evKnown := true } })

/-- POWER_DELIVERY_REQ (R253, R261): a start is answered OK with an authorisation held and, on DC, after pre-charge; a
stop ends the transfer. -/
def powerDelivery (s : State) (start : Bool) (d : Dev) : Dev :=
  let n := s.clk.frame
  let ok := d.ses.auth.isSome && d.ses.stop.isNone && (!dcKind d || (decide (d.dc.phase = 2) && d.dc.preReady))
  if start then
    if ok then
      let d := reply .ok true [] { d with veh := { d.veh with powerOn := true, lastLoop := some n } }
      if dcKind d then { d with dc := { d.dc with phase := 3 }, ses := { d.ses with st := 4 } } else d
    else reply .failed true [] d
  else
    let d := reply .ok true [] { d with veh := { d.veh with powerOn := false, lastLoop := none } }
    if enablesOn d then rampDown n 0 d else d

/-- POWER_DELIVERY_REQ. -/
def execPowerDeliveryReq (start : Bool) (s : State) : Out :=
  protoStep s fun d => d.when (hlcUp d && d.veh.v2g) (powerDelivery s start)

/-- The current that a loop request passes on (R257, R261): limited in current and in power; negative for discharge, which
needs a BPT service. -/
def loopCurrent (d : Dev) (targetV targetI : Int) (discharge : Bool) : Int :=
  let lim := if discharge then d.ses.limitDis else d.ses.limitDc
  let pow := if discharge then d.ses.limitDisP else d.ses.limitP
  let byPower := if 0 < targetV then 1000 * (pow : Int) / targetV else lim
  let i := min (targetI.natAbs : Int) (min (lim : Int) byPower)
  if discharge then (if d.veh.bpt then -i else 0) else i

/-- The limits of a loop response (R258): 0 while paused; on AC the minimum over the phases, or by ISO 15118-20 the value of
each phase; on DC current and power for charge and discharge. -/
def loopLimits (d : Dev) : List Int :=
  if dcKind d then [d.ses.limitDc, d.ses.limitP, d.ses.limitDis, d.ses.limitDisP]
  else
    let ls := if d.veh.proto = some .iso20 then d.ses.limits.take (phasesUsed d) else [appliedLimit d]
    ls.map fun (i : Nat) => if d.ses.paused then (0 : Int) else (i : Int)

/-- CHARGING_LOOP_REQ (R245, R258, R261): answered with the applied limit. -/
def execChargingLoopReq (targetV targetI : Int) (soc : Nat) (discharge : Bool) (s : State) : Out :=
  protoStep s fun d => d.when (hlcUp d && d.veh.powerOn) fun d =>
    let d := limitStep s { d with veh := { d.veh with lastLoop := some s.clk.frame, soc := soc } }
    let d := reply .ok true (loopLimits d) d
    if d.dc.phase = 3 then
      { d with dc := { d.dc with
          targetV := targetV, targetI := loopCurrent d targetV targetI discharge, discharge := discharge && d.veh.bpt } }
    else d

/-! The DC transfer (R261). -/

/-- CABLE_CHECK_REQ is accepted (R253, R261): a DC session with no condition of closing missing. -/
def cableCheckDue (s : State) (d : Dev) : Bool :=
  hlcUp d && d.veh.v2g && dcKind d && d.unitOn 9 && !enablesOn d && decide (d.dc.phase = 0) && decide (closeFault s d = 0)

/-- CABLE_CHECK_REQ (R261, R295): the DC enables close, the lesser maximum voltage is the target, the insulation test
starts. -/
def cableCheck (n : Nat) (d : Dev) : Dev :=
  let d := requestOutputs n (d.lanes.request ||| 0b010#3) d
  { d with
    dc := { d.dc with
      phase := 1, targetV := (min d.veh.evMaxV (hostWord d 0x014) : Nat), targetI := 0, stopFlags := 0, okCount := 0
      preReady := false, rampStart := none, startedAt := n, stageLost := false }
    saf := { d.saf with
      isoAt := some n, isoVal := none, isoJudged := false, isoLast := none, isoPairs := 0, isoRes := none, isoPositive := true } }

/-- CABLE_CHECK_REQ: answered ongoing until two complete pairs have passed, with the insulation warning (R295), and FAILED
outside a cable check. -/
def execCableCheckReq (s : State) : Out :=
  protoStep s fun d => d.when (hlcUp d && d.veh.v2g) fun d =>
    let d := if cableCheckDue s d then cableCheck s.clk.frame d else d
    if d.dc.phase = 1 then reply .ok (decide (2 ≤ d.saf.isoPairs)) [if d.saf.isoWarned then 1 else 0] d else reply .failed true [] d

/-- PRE_CHARGE_REQ (R261): after a passed cable check, the vehicle's voltage with 2,000 mA; ongoing until it is ready. -/
def execPreChargeReq (targetV : Int) (s : State) : Out :=
  protoStep s fun d => d.when (hlcUp d && d.veh.v2g) fun d =>
    if enablesOn d && (decide (d.dc.phase = 2) || (decide (d.dc.phase = 1) && decide (2 ≤ d.saf.isoPairs))) then
      reply .ok d.dc.preReady [udcMean d] { d with dc := { d.dc with phase := 2, targetV := targetV, targetI := 2000 } }
    else reply .failed true [] d

/-- PRE_CHARGE_READY (R261): |UDC_MEAN − target| ≤ 20,000 mV for 80 consecutive frames. -/
def execPreChargeReady (s : State) : Out :=
  devStep s fun d => d.when (decide (d.dc.phase = 2) && decide (80 ≤ d.dc.okCount)) fun d =>
    { d with dc := { d.dc with preReady := true } }

/-- WELDING_DETECTION_REQ (R285): answered with UDC_MEAN; the vehicle has ended its transfer. -/
def execWeldingDetectionReq (s : State) : Out :=
  protoStep s fun d => d.when (hlcUp d && d.veh.v2g) fun d =>
    reply .ok true [udcMean d] { d with veh := { d.veh with powerOn := false, lastLoop := none } }

/-- STAGE_TIMEOUT is due (R261): no fresh copy for STAGE_TIMEOUT in phases 1 to 3. -/
def stageTimeoutDue (n : Nat) (d : Dev) : Bool :=
  d.ses.isOpen && dcKind d && decide (1 ≤ d.dc.phase ∧ d.dc.phase ≤ 3) && !d.dc.stageLost &&
    decide (max d.win.stageFreshFrame d.dc.startedAt + d.nat Param.STAGE_TIMEOUT ≤ n)

/-- STAGE_TIMEOUT (R261): the ramp-down is an emergency, and the vehicle is told that the station has shut down. -/
def execStageTimeout (s : State) : Out :=
  devStep s fun d => d.when (stageTimeoutDue s.clk.frame d) fun d =>
    let d := { d with dc := { d.dc with stageLost := true }, veh := { d.veh with powerOn := false, lastLoop := none } }
    rampDown s.clk.frame 2 (d.raise Src.vehicle Event.STAGE_TIMEOUT [])

/-- DC_ENABLES_OPEN is due (R245, R261). -/
def enablesOpenDue (n : Nat) (d : Dev) : Bool :=
  enablesOn d && d.dc.rampStart.any fun f => decide ((idcMean d).natAbs ≤ 5000) || decide (f + 1600 ≤ n)

/-- DC_ENABLES_OPEN. -/
def execDcEnablesOpen (s : State) : Out :=
  devStep s (Dev.when (enablesOpenDue s.clk.frame s.dev) (openOutlet s.clk.frame))

/-- What a frame counts of the DC transfer (R261). -/
def dcStep (d : Dev) : Dev :=
  if d.dc.phase = 2 then
    { d with dc := { d.dc with
        okCount := if (udcMean d - d.dc.targetV).natAbs ≤ 20000 then d.dc.okCount + 1 else 0 } }
  else d

/-! Stops and authorisation. -/

/-- SESSION_STOP_REQ (R255, R256): a terminating SessionStop starts an ordered stop with cause 1; a pausing one keeps the
session. -/
def execSessionStopReq (terminate : Bool) (s : State) : Out :=
  protoStep s fun d => d.when (d.veh.v2g) fun d =>
    let d := reply .ok true [] { d with veh := { d.veh with v2g := false, powerOn := false, lastLoop := none } }
    if terminate then orderedStop s EndCause.vehicle d else d

/-- What an identified card does (R252, R262, R263): a driver stop, no use, an authorisation, or a request to the host.
`hit` says that the authorisation list allows it. -/
def cardResult (s : State) (ident : List Byte) (hit : Bool) (d : Dev) : Dev :=
  let n := s.clk.frame
  let unused := d.raise Src.card Event.CARD_NOT_USED []
  if d.ses.endedAt = some n ∨ d.ses.request.isSome ∨ d.ses.heldCard.isSome ∨ ¬pilotMode s.clk.mode then unused
  else
    match d.ses.auth with
    | some a => if d.ses.isOpen ∧ (a.means = 2 ∨ a.means = 3) ∧ a.id = ident then orderedStop s EndCause.card d else unused
    | none =>
      if hit then
        if d.veh.contract = 1 ∨ d.veh.contract = 4 then { d with ses := { d.ses with heldCard := some ident } }
        else takeAuth Src.card 2 ident n d
      else if !d.win.hostPresent then d.raise Src.card Event.CARD_REFUSED []
      else ({ d with ses := { d.ses with request := some (ident, n) } }).raise Src.card Event.AUTH_REQUEST (identItem ident)

/-- A card that waits for the host is refused (R252, R262). -/
def refuseRequest (d : Dev) : Dev :=
  match d.ses.request with
  | some _ => ({ d with ses := { d.ses with request := none } }).raise Src.card Event.CARD_REFUSED []
  | none => d

/-- CARD_REFUSED (R252). -/
def execCardRefused (s : State) : Out :=
  devStep s fun d => d.when (d.ses.request.any fun r =>
    decide (r.2 + ms (d.nat Param.AUTH_HOST_TIMEOUT) ≤ s.clk.frame)) refuseRequest

/-- PREAUTH_EXPIRED is due (R251). -/
def preauthDue (n : Nat) (d : Dev) : Bool :=
  !d.ses.isOpen && d.ses.auth.any fun a => a.expiry.any fun f => decide (f ≤ n)

/-- PREAUTH_EXPIRED. -/
def execPreauthExpired (s : State) : Out :=
  devStep s fun d => d.when (preauthDue s.clk.frame d) fun d =>
    let d := { d with ses := { d.ses with auth := none } }
    ({ d with ses := { d.ses with st := idleState d } }).raise Src.vehicle Event.PREAUTH_EXPIRED []

/-- The host is lost for the session (R262): the record's flag, the grace of an authorised session, and the requests that
wait for the host are refused. -/
def sessionHostLost (n : Nat) (d : Dev) : Dev :=
  let d := if d.ses.isOpen then
      { d with ses := { d.ses with
          flags := d.ses.flags ||| 0x400#32, grace := if d.ses.auth.isSome then some n else none } }
    else d
  let d := refuseRequest d
  if d.veh.contract = 4 then pncRefuse n 3 d else d

/-- HOST_GRACE_EXPIRED is due (R262). -/
def graceDue (n : Nat) (d : Dev) : Bool :=
  d.ses.isOpen && !d.win.hostPresent && d.ses.stop.isNone &&
    d.ses.grace.any fun f => decide (f + secs (d.nat Param.HOST_LOSS_GRACE) ≤ n)

/-- HOST_GRACE_EXPIRED. -/
def execHostGraceExpired (s : State) : Out :=
  devStep s fun d => d.when (graceDue s.clk.frame d) fun d =>
    orderedStop s EndCause.grace (d.raise Src.vehicle Event.HOST_GRACE_EXPIRED [])

end Sys2Proof.Machine
end

