-- ==== Sys2Proof/Machine/Nfc.lean ====
section
/-!
DEFINITION. The contactless reader and the authorisation list (R366 to R377, R387): the ping, the poll, cards, the
lookup and the swap of the banks.
-/

namespace Sys2Proof.Machine

/-! Identification (R368 to R370). -/

/-- The bytes of a Type A UID as its cascade levels send them: a cascade tag 0x88 leads every level but the last. -/
def cascadeBytes (uid : List Byte) : List Byte :=
  if uid.length = 4 then uid
  else if uid.length = 7 then 0x88 :: uid.take 3 ++ uid.drop 3
  else 0x88 :: uid.take 3 ++ 0x88 :: (uid.drop 3).take 3 ++ uid.drop 6

/-- The bits of a byte run, least significant first. -/
def lsbBits (bs : List Byte) : List Bool := bs.flatMap fun b => (List.range 8).map b.getLsbD

/-- Anticollision serves the branch 1 first (R368). -/
def servedBefore : List Bool → List Bool → Bool
  | true :: _, false :: _ => true
  | false :: _, true :: _ => false
  | _ :: a, _ :: b => servedBefore a b
  | _, _ => false

/-- Insert a Type A card in the order of anticollision. -/
def insertA (c : CardAns) : List CardAns → List CardAns
  | [] => [c]
  | x :: r =>
    if servedBefore (lsbBits (cascadeBytes c.ident)) (lsbBits (cascadeBytes x.ident)) then c :: x :: r
    else x :: insertA c r

/-- The Type A part of a poll: at most four cards (R368). -/
def pollA (cards : List CardAns) : List CardAns :=
  ((cards.filter fun c => !c.typeB).foldl (fun l c => insertA c l) []).take 4

/-- The slot a Type B card answers in round r of N slots. -/
def slotOf (r n : Nat) (c : CardAns) : Nat := nth 0 c.slots r % n

/-- Two cards answer in one slot. -/
def slotCollision (r n : Nat) : List CardAns → Bool
  | [] => false
  | c :: rest => rest.any (fun x => slotOf r n x = slotOf r n c) || slotCollision r n rest

/-- The card in the lowest answered slot. -/
def lowestSlot (r n : Nat) : List CardAns → Option CardAns
  | [] => none
  | c :: rest =>
    match lowestSlot r n rest with
    | some x => if slotOf r n x < slotOf r n c then some x else some c
    | none => some c

/-- The Type B part of a poll (R369): rounds from N slots, at most `room` cards; the cards taken in order, the slot
count for the next poll, and whether a collision at 16 slots ended it. -/
def pollB : Nat → Nat → Nat → List CardAns → Nat → List CardAns × Nat × Bool
  | 0, _, n, _, _ => ([], n, false)
  | _, _, n, _, 0 => ([], n, false)
  | fuel + 1, r, n, cards, room + 1 =>
    if slotCollision r n cards then
      if 16 ≤ n then ([], n, true) else pollB fuel (r + 1) (2 * n) cards (room + 1)
    else match lowestSlot r n cards with
      | none => ([], max 1 (n / 2), false)
      | some c =>
        let rest := cards.erase c
        if rest.isEmpty then ([c], max 1 (n / 2), false)
        else
          let x := pollB fuel (r + 1) n rest room
          (c :: x.1, x.2.1, x.2.2)

/-- ISO-DEP is activated with a card (R370): CARD_AID is set and the card offers it. -/
def isoDepUsed (d : Dev) (c : CardAns) : Bool := decide (fieldAt (d.blk Param.CARD_AID) 0 1 ≠ 0) && c.isoDep

/-- The bit rate with a card (R366): 106 kbit/s, raised only after the activation of ISO-DEP, to at most READER_MAX_RATE. -/
def rateUsed (d : Dev) (c : CardAns) : Nat := if isoDepUsed d c then min c.rate (d.nat Param.READER_MAX_RATE) else 0

/-- An identified card's kind and identifier (R370): the application identifier where CARD_AID is set and the card
answers with enough data, else its UID or PUPI. -/
def identify (d : Dev) (c : CardAns) : Nat × List Byte :=
  let len := d.nat Param.CARD_AID_IDLEN
  match c.aidData with
  | some x => if isoDepUsed d c && decide (len ≤ x.length) then (3, x.take len) else (if c.typeB then 2 else 1, c.ident)
  | none => (if c.typeB then 2 else 1, c.ident)

/-- A random UID (R370). -/
def isRandom (x : Nat × List Byte) : Bool := decide (x.1 = 1) && decide (x.2.length = 4) && decide (x.2.head? = some 0x08)

/-! The authorisation list (R375 to R377). -/

/-- KIND, LEN and ID of a list entry, as its order compares them. -/
def entryKey (e : List Byte) : List Byte := e.take 12

/-- The key of an identifier. -/
def keyOf (kind : Nat) (ident : List Byte) : List Byte := leBytes 1 kind ++ leBytes 1 ident.length ++ slice ident 0 10

/-- The entry of an identifier in the active bank (R376). -/
def findEntry (d : Dev) (kind : Nat) (ident : List Byte) : Option (List Byte) :=
  d.nfc.list.find? fun e => decide (entryKey e = keyOf kind ident)

/-- Bytes compared as unsigned numbers, first byte first. -/
def bytesLt : List Byte → List Byte → Bool
  | a :: r, b :: q => if a.toNat < b.toNat then true else if a = b then bytesLt r q else false
  | _, _ => false

/-- The fields of an entry are those of R375. -/
def entryFields (e : List Byte) : Bool :=
  let k := fieldAt e 0 1
  let len := fieldAt e 1 1
  decide (1 ≤ k ∧ k ≤ 3) && decide (4 ≤ len ∧ len ≤ 10) && (slice e (2 + len) (10 - len)).all (· = 0) &&
    decide (fieldAt e 12 1 < 8) && decide (fieldAt e 14 2 = 0)

/-- The entries of a loaded bank. -/
def loadedEntries (d : Dev) : List (List Byte) := (List.range d.nfc.loadCount).map fun k => slice d.nfc.loadBytes (24 * k) 24

/-- The index of the first entry that is wrong in itself or not above the one before (R375, R377). -/
def firstFault : Nat → List Byte → List (List Byte) → Option Nat
  | _, _, [] => none
  | i, prev, e :: r =>
    if entryFields e && (i == 0 || bytesLt (entryKey prev) (entryKey e)) then firstFault (i + 1) e r else some i

/-- Bytes of the active bank. -/
def listBytes (d : Dev) : List Byte := d.nfc.list.flatten

/-- AUTH_LIST_SWAPPED (R377): the banks swap whole. -/
def swapBanks (n : Nat) (d : Dev) : Dev :=
  let old := d.nfc.listVersion
  ({ d with nfc := { d.nfc with
      list := loadedEntries d, listVersion := d.nfc.loadVersion, loadSt := 0, loadBytes := [], swapAt := none } }).raise
    (if d.nfc.loadOwner = 2 then Src.grid else Src.host) Event.AUTH_LIST_SWAPPED
    (leBytes 4 old ++ leBytes 4 d.nfc.loadVersion ++ leBytes 8 n)

/-- The swap is due at the tick of frame n (R377). -/
def swapDue (n : Nat) (d : Dev) : Bool := d.nfc.swapAt.any fun f => decide (f ≤ n)

/-- The bank active at the tick of frame n serves the frame's lookups (R376). -/
def settleSwap (n : Nat) (d : Dev) : Dev := if swapDue n d then swapBanks n d else d

/-- AUTH_BANK_SWAP. -/
def execAuthBankSwap (s : State) : Out := devStep s (settleSwap s.clk.frame)

/-- The job of AUTH_SWAP ends (R377): every entry in order and well formed, and the swap is due at the next tick;
otherwise BAD_PARAM and AUTH_SWAP_REFUSED with the first faulty index. -/
def swapJobEnd (n id : Nat) (d : Dev) : Dev :=
  match firstFault 0 [] (loadedEntries d) with
  | none => endJob id 3 0 { d with nfc := { d.nfc with swapAt := some (n + 1) } }
  | some i =>
    let d := endJob id 4 0x20 { d with nfc := { d.nfc with loadSt := 2 } }
    d.raise (if d.nfc.loadOwner = 2 then Src.grid else Src.host) Event.AUTH_SWAP_REFUSED
      (leBytes 4 d.nfc.loadVersion ++ leBytes 2 i)

/-! Cards presented (R371, R376). -/

/-- A window of validity holds (R376 rule 3). -/
def windowHolds (d : Dev) (e : List Byte) : Bool :=
  decide (d.tar.status ≠ 2) && decide (fieldAt e 16 4 ≤ d.tar.rtc) && decide (d.tar.rtc ≤ fieldAt e 20 4)

/-- The lookup of a presented card (R376). -/
def lookupCard (s : State) (kind : Nat) (ident : List Byte) (d : Dev) : Dev :=
  let d := { d with nfc := { d.nfc with lookups := d.nfc.lookups + 1 } }
  match findEntry d kind ident with
  | none => cardResult s ident false d
  | some e =>
    let d := { d with nfc := { d.nfc with hits := d.nfc.hits + 1 } }
    let f := fieldAt e 12 1
    if f.testBit 0 then d.raise Src.card Event.AUTH_BLOCKED (identItem ident)
    else cardResult s ident (!((f.testBit 1 && !windowHolds d e) || f.testBit 2)) d

/-- An identified card (R370, R371): found again, or presented anew. -/
def cardFound (s : State) (d : Dev) (x : Nat × List Byte) : Dev :=
  let n := s.clk.frame
  if d.nfc.cards.any fun c => decide (c.kind = x.1) && decide (c.ident = x.2) then
    { d with nfc := { d.nfc with cards := d.nfc.cards.map fun c =>
      if c.kind = x.1 ∧ c.ident = x.2 then { c with lastSeen := n } else c } }
  else
    let d := { d with nfc := { d.nfc with cards := d.nfc.cards ++ [({ kind := x.1, ident := x.2, lastSeen := n } : Card)] } }
    if isRandom x then d.raise Src.card Event.CARD_RANDOM_UID []
    else
      let d := { d with nfc := { d.nfc with presented := d.nfc.presented + 1, last := some (x.1, x.2, n) } }
      lookupCard s x.1 x.2 (d.raise Src.card Event.CARD_PRESENTED (leBytes 1 x.1 ++ identItem x.2))

/-- The cards of a poll in the order identified (R371), and the Type B part's end. -/
def pollCards (d : Dev) (ans : PollAns) : List CardAns × Nat × Bool :=
  let types := d.nat Param.POLL_TYPES
  let a := if types.testBit 0 then pollA ans.cards else []
  if types.testBit 1 then
    let b := pollB 64 0 d.nfc.slotN (ans.cards.filter (·.typeB)) (4 - a.length)
    (a ++ b.1, b.2.1, b.2.2)
  else (a, d.nfc.slotN, false)

/-- A poll (R368 to R371). -/
def poll (s : State) (ans : PollAns) (d : Dev) : Dev :=
  let d := settleSwap s.clk.frame d
  let x := pollCards d ans
  let rate := (x.1.getLast?.map (rateUsed d)).getD d.nfc.rate
  let d := { d with nfc := { d.nfc with slotN := x.2.1, wtxTotal := 0, pollAt := s.clk.frame, rate := rate } }
  let d := if x.2.2 then d.raise Src.card Event.CARD_COLLISION [] else d
  (x.1.map (identify d)).foldl (cardFound s) d

/-! The reader (R367, R372 to R374). -/

/-- The reader works (R12, R53, R58, R367). -/
def readerRuns (s : State) : Bool :=
  let d := s.dev
  let m := s.clk.mode
  s.clk.running && d.unitOn 2 && !d.pow.shed && decide (d.pow.st = .mains) && !d.nfc.fault && !d.pow.badParts.getLsbD 2 &&
    !d.pow.starting &&
    decide (m = .commissioning ∨ m = .ready ∨ m = .session ∨ m = .degraded ∨ m = .service)

/-- READER_STATE (R388). -/
def readerState (s : State) : Nat :=
  if s.dev.nfc.fault then 4
  else if !readerRuns s then 0
  else if s.dev.nfc.cards.isEmpty then 1 else 3

/-- The detuning of a reading reaches the working threshold, in 10⁻⁴ of the baseline amplitude (R373): with S the sum of
the k baseline readings, |k·m − S| against |S|. -/
def detuned (base : List (Int × Int)) (m : Int × Int) (thr : Nat) : Bool :=
  let k : Int := base.length
  let sx := base.foldl (fun a v => a + v.1) 0
  let sy := base.foldl (fun a v => a + v.2) 0
  let dx := k * m.1 - sx
  let dy := k * m.2 - sy
  !base.isEmpty && decide ((thr : Int) * thr * (sx * sx + sy * sy) ≤ 100000000 * (dx * dx + dy * dy))

/-- A false alarm (R374). -/
def falseAlarm (m : Int × Int) (d : Dev) : Dev :=
  { d with nfc := { d.nfc with
      falseCount := d.nfc.falseCount + 1, baseline := [m], clean := 0
      threshold := min (4 * d.nat Param.PING_THR) (d.nfc.threshold * 125 / 100) } }

/-- A ping without a false alarm (R374): after 64 in a row the threshold falls by 10 %. -/
def cleanPing (d : Dev) : Dev :=
  if 63 ≤ d.nfc.clean then
    { d with nfc := { d.nfc with clean := 0, threshold := max (d.nat Param.PING_THR) (d.nfc.threshold * 9 / 10) } }
  else { d with nfc := { d.nfc with clean := d.nfc.clean + 1 } }

/-- GAUZE_PING (R373, R374). -/
def pingEff (s : State) (m : Int × Int) (ans : PollAns) (d : Dev) : Dev :=
  let d := { d with nfc := { d.nfc with pingAt := s.clk.frame } }
  if detuned d.nfc.baseline m d.nfc.threshold then
    let found := !(pollCards d ans).1.isEmpty
    let d := poll s ans d
    if found then cleanPing d else falseAlarm m d
  else cleanPing { d with nfc := { d.nfc with baseline := (m :: d.nfc.baseline).take 16 } }

/-- GAUZE_PING is due: no card is present, PING_PERIOD has passed. -/
def pingDue (s : State) : Bool :=
  readerRuns s && s.dev.nfc.cards.isEmpty && decide (s.dev.nfc.pingAt + ms (s.dev.nat Param.PING_PERIOD) ≤ s.clk.frame)

/-- GAUZE_PING. -/
def execGauzePing (re im : Int) (ans : PollAns) (s : State) : Out :=
  protoStep s (Dev.when (pingDue s) (pingEff s (re, im) ans))

/-- POLL_WHILE_PRESENT (R374): every 250 ms. -/
def execPollWhilePresent (ans : PollAns) (s : State) : Out :=
  protoStep s (Dev.when (readerRuns s && !s.dev.nfc.cards.isEmpty && decide (s.dev.nfc.pollAt + ms 250 ≤ s.clk.frame))
    (poll s ans))

/-- CARD_ABSENT (R371). -/
def execCardAbsent (kind : Nat) (ident : List Byte) (s : State) : Out :=
  devStep s fun d =>
    { d with nfc := { d.nfc with cards := d.nfc.cards.filter fun c =>
      !(decide (c.kind = kind) && decide (c.ident = ident) &&
        decide (c.lastSeen + ms (d.nat Param.CARD_ABSENT_TIME) ≤ s.clk.frame)) } }

/-- S_WTX_REQUEST (R372): granted within WTX_MAX_TOTAL, else the card is not used in the poll. -/
def wtxEff (waitMs : Nat) (d : Dev) : Dev :=
  if d.nfc.wtxTotal + waitMs ≤ d.nat Param.WTX_MAX_TOTAL then
    { d with nfc := { d.nfc with wtxTotal := d.nfc.wtxTotal + waitMs } }
  else ({ d with nfc := { d.nfc with wtxTotal := 0 } }).raise Src.card Event.CARD_TIMEOUT []

/-- S_WTX_REQUEST. -/
def execSWtxRequest (waitMs : Nat) (s : State) : Out := protoStep s (Dev.when (readerRuns s) (wtxEff waitMs))

/-- The frame waiting time in ns (R372): what the card states through FWI, capped at 14; FWI 0 is 4,096 periods of 13.56 MHz
(PRESUMED of ISO/IEC 14443-4, log entry 164; R381 gives 38.7 ms for FWI 7). -/
def fwtNs (fwi : Nat) : Nat := 302065 * 2 ^ min fwi 14

/-- CARD_TIMEOUT (R372): a card of FWI `fwi` has not answered for `us` µs after the R(NAK) retry. -/
def execCardTimeout (fwi us : Nat) (s : State) : Out :=
  devStep s (Dev.when (readerRuns s && decide (fwtNs fwi ≤ 1000 * us)) fun d =>
    ({ d with nfc := { d.nfc with wtxTotal := 0 } }).raise Src.card Event.CARD_TIMEOUT [])

/-- The field self-test deviates by more than 30 % (R367). -/
def fieldBad (amplitude stored : Nat) : Bool :=
  decide (30 * stored < 100 * ((amplitude : Int) - stored).natAbs)

/-- The reader is in fault (R367), logged with the amplitude that its self-test measured. -/
def readerFail (amplitude : Nat) (d : Dev) : Dev :=
  ({ d with nfc := { d.nfc with fault := true } }).raise Src.card Event.READER_FAULT (leBytes 4 amplitude)

/-- READER_FAULT (R367, R459): found by the self-test while no card is present, of which this is a failed run. -/
def execReaderFault (amplitude stored : Nat) (s : State) : Out :=
  devStep s (Dev.when (readerRuns s && s.dev.nfc.cards.isEmpty && fieldBad amplitude stored) fun d =>
    readerFail amplitude (selftest s.clk.frame 10 false amplitude d))

/-- CARD_LAST (R388). -/
def cardLast (d : Dev) : List Byte :=
  match d.nfc.last with
  | some x => leBytes 1 x.1 ++ leBytes 1 x.2.1.length ++ slice x.2.1 0 10 ++ leBytes 8 x.2.2
  | none => List.replicate 20 0

/-- A start-up (R367, R369, R373, R377): an open load is discarded, no card is known, the thresholds begin anew; the
active bank is the one whose selector was written. -/
def readerStart (n : Nat) (d : Dev) : Dev :=
  let d := if d.nfc.swapAt.isSome then swapBanks n d else d
  { d with nfc := { d.nfc with
      fault := false, cards := [], baseline := [], threshold := d.nat Param.PING_THR, clean := 0, wtxTotal := 0
      slotN := 1, loadSt := 0, loadBytes := [], pingAt := n, pollAt := n } }

end Sys2Proof.Machine
end

