-- ==== Sys2Proof/Machine/Diag.lean ====
section
/-!
DEFINITION. Diagnostics and test perturbation (chapter 17): self-tests, the test authorisation and its parameters, and
the perturbations.
-/

namespace Sys2Proof.Machine

/-! Test parameters (R461 to R465). -/

/-- Every test parameter at its default, and no authorisation (R462). -/
def clearTests (d : Dev) : Dev :=
  { d with diag := { d.diag with
      testFrom := none, stretch := 0, mboxDelay := 0, portBusy := 0, throttle := 0, gplcHold := 0, commitDelay := 0
      mismatch := 0, wdtWindow := 0, pert := none }
           acs := { d.acs with nextTick := d.acs.nextTick.filter fun e => decide (e.id / 256 ≠ 0x70) } }

/-- The test authorisation ends (R462): TEST_REVERTED with its cause, 0 time, 1 mode change, 2 logout, 3 HOLD, 4 a new
TEST_AUTH. -/
def revertTests (_n cause : Nat) (d : Dev) : Dev :=
  if d.diag.testFrom.isSome then (clearTests d).raise Src.host Event.TEST_REVERTED (leBytes 1 cause) else clearTests d

/-- HOLD was entered in the frame before: at this tick the test parameters revert (R462). -/
def holdReverts (n : Nat) (d : Dev) : Dev :=
  d.when (decide (d.pow.st = .hold) && decide (d.pow.holdFrame + 1 = n) && d.diag.testFrom.isSome) (revertTests n 3)

/-- TEST_STATE. -/
def testActive (d : Dev) : Bool := d.diag.testFrom.isSome

/-- TEST_REMAINING (R463). -/
def testRemaining (n : Nat) (d : Dev) : Nat :=
  match d.diag.testFrom with
  | some f => f + 4800000 - n
  | none => 0

/-- TEST_REVERTED (R462): ten minutes after the TEST_AUTH. -/
def execTestReverted (s : State) : Out :=
  devStep s (Dev.when (testActive s.dev && decide (testRemaining s.clk.frame s.dev = 0)) (revertTests s.clk.frame 0))

/-- Parameters that act on a lane (R465). -/
def lanePertIds : List Nat :=
  [Param.TEST_SLOT_STRETCH, Param.TEST_COMMIT_DELAY, Param.TEST_MISMATCH, Param.TEST_WDT_WINDOW]

/-- The lane field of a lane perturbation's value (R463); none for 0 and 3. -/
def pertLane (id v : Nat) : Option Lane :=
  let f := if id = Param.TEST_MISMATCH then v % 4 else if id = Param.TEST_WDT_WINDOW then v / 65536 % 4 else v / 4096 % 4
  if f = 1 then some .a else if f = 2 then some .b else none

/-- The frames that a lane perturbation acts (R463). -/
def pertFrames (id v : Nat) : Nat :=
  if id = Param.TEST_SLOT_STRETCH ∨ id = Param.TEST_COMMIT_DELAY then v / 65536 else 1

/-- A value of the group is within its field map (R463). -/
def testValueOk (id v : Nat) : Bool :=
  if id = Param.TEST_SLOT_STRETCH then
    decide (v % 256 ≤ 60 ∧ v / 256 % 8 ≤ 4 ∧ v / 2048 % 2 = 0 ∧ v / 16384 % 4 = 0 ∧ 1 ≤ v / 65536 ∧ v < 2 ^ 32) &&
      (pertLane id v).isSome
  else if id = Param.TEST_MBOX_DELAY then decide (v ≤ 100)
  else if id = Param.TEST_PORT_BUSY then decide (v = 0 ∨ (v % 256 < 4 ∧ 1 ≤ v / 256 ∧ v < 65536))
  else if id = Param.TEST_PORT_THROTTLE then decide (v ≤ 90)
  else if id = Param.TEST_GPLC_HOLD then decide (v < 8)
  else if id = Param.TEST_COMMIT_DELAY then
    decide (v % 256 ≤ 15 ∧ v / 256 % 16 = 0 ∧ v / 16384 % 4 = 0 ∧ 1 ≤ v / 65536 ∧ v < 2 ^ 32) && (pertLane id v).isSome
  else if id = Param.TEST_MISMATCH then decide (v < 8) && (pertLane id v).isSome
  else if id = Param.TEST_WDT_WINDOW then
    decide (96 ≤ v % 256 ∧ v % 256 ≤ 118 ∧ 98 ≤ v / 256 % 256 ∧ v / 256 % 256 ≤ 120 ∧ v % 256 < v / 256 % 256 ∧ v < 2 ^ 18) &&
      (pertLane id v).isSome
  else false

/-- A lane perturbation is refused for the time being (R465): a second one, or a lane that is not LEAD or FOLLOW. -/
def lanePertBusy (ids : List Nat) (d : Dev) : Bool :=
  let k := (ids.filter fun id => lanePertIds.contains id).length
  let serves (r : LaneRec) := decide (r.st = .lead ∨ r.st = .follow)
  decide (k ≠ 0) && (decide (1 < k) || d.diag.pert.isSome ||
    (d.acs.nextTick.any fun e => lanePertIds.contains e.id) || !serves d.lanes.a || !serves d.lanes.b)

/-- The length of a test parameter. -/
def testLen (id : Nat) : Nat := (rowOf id).elim 4 PRow.len

/-- A test parameter takes, at the tick of frame n, a value written in the frame before (R463, R464); a lane perturbation
acts from this frame on. -/
def testDeliver (n id v : Nat) (d : Dev) : Dev :=
  let x := d.diag
  let x : Diag :=
    if id = Param.TEST_SLOT_STRETCH then { x with stretch := v }
    else if id = Param.TEST_MBOX_DELAY then { x with mboxDelay := v }
    else if id = Param.TEST_PORT_BUSY then { x with portBusy := v }
    else if id = Param.TEST_PORT_THROTTLE then { x with throttle := v }
    else if id = Param.TEST_GPLC_HOLD then { x with gplcHold := v }
    else if id = Param.TEST_COMMIT_DELAY then { x with commitDelay := v }
    else if id = Param.TEST_MISMATCH then { x with mismatch := v }
    else { x with wdtWindow := v }
  let x : Diag :=
    match (if lanePertIds.contains id then pertLane id v else none) with
    | some l => { x with pert := some ⟨id, l, n, pertFrames id v⟩ }
    | none => x
  { d with diag := x }

/-- TEST_PARAM_SET (R463): logged with the write. -/
def testLogged (id v : Nat) (d : Dev) : Dev :=
  d.raise Src.host Event.TEST_PARAM_SET (leBytes 2 id ++ leBytes (testLen id) v)

/-- The value of a test parameter as read back (R463): a WO parameter has none. -/
def testValue (id : Nat) (d : Dev) : Nat :=
  if id = Param.TEST_SLOT_STRETCH then d.diag.stretch
  else if id = Param.TEST_MBOX_DELAY then d.diag.mboxDelay
  else if id = Param.TEST_PORT_BUSY then d.diag.portBusy
  else if id = Param.TEST_PORT_THROTTLE then d.diag.throttle
  else if id = Param.TEST_GPLC_HOLD then d.diag.gplcHold
  else if id = Param.TEST_COMMIT_DELAY then d.diag.commitDelay
  else 0

/-- A perturbation whose frames have passed returns to its default (R463). -/
def pertStep (n : Nat) (d : Dev) : Dev :=
  match d.diag.pert with
  | some p =>
    if p.first + p.frames ≤ n then
      { d with diag := { d.diag with pert := none, stretch := 0, commitDelay := 0, mismatch := 0, wdtWindow := 0 } }
    else d
  | none => d

/-- A lane perturbation acts in frame n. -/
def pertActs (n : Nat) (p : Pert) : Bool := decide (p.first ≤ n ∧ n < p.first + p.frames)

/-- SLOT of an injected perturbation in its event (R37, R468). -/
def pertSlot (p : Pert) (d : Dev) : Nat :=
  if p.id = Param.TEST_SLOT_STRETCH then d.diag.stretch / 256 % 8
  else if p.id = Param.TEST_COMMIT_DELAY then 2
  else if p.id = Param.TEST_MISMATCH then (if d.diag.mismatch / 4 % 2 = 0 then 1 else 3) else 5

/-- The fault that a perturbation makes in its frame (R464): cause and slot of R37, whether it is a deadline that the lane
reports itself, and none within the margin in ns. A deadline missed in slots 0 and 1 is that of the compare block, in
slots 2 and 3 that of the slot, in slot 4 that of the watchdog (R21). -/
def pertFault (p : Pert) (margin : Nat) (d : Dev) : Option (Nat × Nat × Bool) :=
  let slot := d.diag.stretch / 256 % 8
  if p.id = Param.TEST_SLOT_STRETCH then
    if 1000 * (d.diag.stretch % 256) ≤ margin then none
    else if slot = 4 then some (0x01, 5, false) else some (0x06, max 1 slot, true)
  else if p.id = Param.TEST_COMMIT_DELAY then
    if 1000 * (d.diag.commitDelay % 256) ≤ margin then none else some (0x06, 2, true)
  else if p.id = Param.TEST_WDT_WINDOW then
    let at_ := 120000 - margin
    if at_ < 1000 * (d.diag.wdtWindow % 256) then some (0x02, 5, false)
    else if 1000 * (d.diag.wdtWindow / 256 % 256) < at_ then some (0x01, 5, false) else none
  else none

/-- TEST_INJECTED (R464, R465): a lane perturbation acts in the frame; the margin is that to the lane's next deadline. -/
def injectEff (p : Pert) (margin : Nat) (s : State) : State :=
  let fault := pertFault p margin s.dev
  let s := s.onDev (Dev.raise Src.host Event.TEST_INJECTED
    (leBytes 2 p.id ++ leBytes 1 (laneCode p.lane) ++ leBytes 1 (pertSlot p s.dev)))
  match fault with
  | some (cause, slot, own) => whenS (laneWorks p.lane s) (faultLane p.lane cause slot 0 own) s
  | none => s

/-- TEST_INJECTED. -/
def execTestInjected (margin : Nat) (s : State) : Out :=
  .next (match s.dev.diag.pert with
    | some p => whenS (s.clk.running && pertActs s.clk.frame p) (injectEff p margin) s
    | none => s)

/-! Self-tests (R458). -/

/-- The controller's own job that recomputes the digests of the active set (R458). -/
def digestJob (d : Dev) : Option Job :=
  d.acs.jobs.find? fun j => decide (j.kind = .verify) && j.live && decide (j.owner = 0)

/-- Test 6 begins once every 24 h (R458), by a job of its own of kind 3. -/
def digestStep (n : Nat) (d : Dev) : Dev :=
  d.when (decide ((nth (0, 0) d.diag.last 6).1 + dayFrames ≤ n) && (digestJob d).isNone &&
    !d.acs.jobsWait.any fun j => decide (j.kind = .verify)) (startJob .verify 0 0)

/-- The job of test 6 ends with its result. -/
def digestDone (pass : Bool) (d : Dev) : Dev :=
  match digestJob d with
  | some j => endJob j.id (if pass then 3 else 4) (if pass then 0 else Res.checkMismatch) d
  | none => d

/-- The modem of the grid link fails its loop-back (R351): it is reset. The crypto engine's failure suspends the
jobs that use it, and its pass resumes them (R12, R90). A reader whose field fails is in fault until a run passes (R367; log
entry 166). An LCD line or a Calico image that fails is logged (R227, R390). -/
def selftestConsequence (n t : Nat) (pass : Bool) (detail : Nat) (d : Dev) : Dev :=
  if t = 5 then { d with acs := { d.acs with jobs := d.acs.jobs.map (Job.turned pass) } }
  else if t = 6 then digestDone pass d
  else if t = 10 then (if pass then { d with nfc := { d.nfc with fault := false } } else readerFail detail d)
  else if pass then d
  else if t = 8 then (if modemUp d then modemReset n d else d)
  else if t = 11 then d.raise Src.own Event.LCD_FAULT (leBytes 1 detail)
  else if t = 12 then d.raise Src.card Event.CALICO_FAULT []
  else d

/-- A test of a unit that is disabled is not run (R458), nor that of the reader while a card is present (R367). -/
def testUnit (t : Nat) (d : Dev) : Bool :=
  if t = 8 then d.unitOn 1 else if t = 9 then d.unitOn 0
  else if t = 10 then d.unitOn 2 && d.nfc.cards.isEmpty
  else if t = 11 then d.unitOn 4 else if t = 12 then d.unitOn 3
  else if t = 17 then d.unitOn 10 else true

/-- A test whose runs are those of another row: the fast-trip comparators, the residual current, the quads, the input
pulses and the hold-up capacitance (R51, R276, R280, R282, R287). -/
def testElsewhere (t : Nat) : Bool := t == 13 || t == 14 || t == 15 || t == 16 || t == 18

/-- The result of a run (R459): a test of every frame or period fails by the fault condition of its rule: a modulator
inactive (R127), the auxiliary converter faulty (R142), the pilot reference out of its window in two periods (R293), the
mirror memory's follow cold (R12, R298). Of the others the run brings the result. -/
def testPasses (t : Nat) (pass : Bool) (d : Dev) : Bool :=
  if t = 1 then !d.samp.chans.any Chan.inactive
  else if t = 2 then !d.samp.auxFaulty
  else if t = 3 then decide (d.saf.refBad < 2)
  else if t = 4 then !d.lanes.mirrorCold
  else pass

/-- SELFTEST_RUN (R458, R459). -/
def execSelftestRun (t : Nat) (pass : Bool) (detail : Nat) (s : State) : Out :=
  devStep s (Dev.when (s.clk.running && decide (t < 19) && !testElsewhere t && testUnit t s.dev) fun d =>
    selftestConsequence s.clk.frame t (testPasses t pass s.dev) detail
      (selftest s.clk.frame t (testPasses t pass s.dev) detail d))

/-- SELFTEST_LAST (R460). -/
def selftestBytes (d : Dev) : List Byte :=
  d.diag.last.flatMap fun x => leBytes 8 x.1 ++ leBytes 1 x.2 ++ [0, 0, 0]

/-- A scrub job starts (R183). -/
def scrubJob (own mask n : Nat) (d : Dev) : Dev :=
  startJob .scrub own mask { d with led := { d.led with scrubFrame := n } }

/-- MRAM_SCRUB (R183): once every 24 h, over both arrays; none while one runs. -/
def execMramScrub (s : State) : Out :=
  devStep s fun d => d.when (s.clk.running && decide (d.led.scrubFrame + dayFrames ≤ s.clk.frame) &&
      (jobOf .scrub d).isNone && jobRoom 0 d) (scrubJob 0 3 s.clk.frame)

end Sys2Proof.Machine
end

