-- ==== Sys2Proof/Machine/Display.lean ====
section
/-!
DEFINITION. The display (chapter 08, R226 to R230): the scroll sequence, its steps, the press of DISP_BTN, and the
glyphs of the glass.
-/

namespace Sys2Proof.Machine

/-! The sequence. -/

/-- Entry k of DISP_LIST (R229): kind, argument, identifier. -/
def dispEntry (d : Dev) (k : Nat) : Nat × Nat × Nat :=
  let l := d.blk Param.DISP_LIST
  (fieldAt l (4 + 4 * k) 1, fieldAt l (5 + 4 * k) 1, fieldAt l (6 + 4 * k) 1)

/-- Items of the sequence (R228): 98, 99, then the entries. -/
def dispItems (d : Dev) : Nat := 2 + min 46 (fieldAt (d.blk Param.DISP_LIST) 0 1)

/-- Pages of an item (R228, R229). -/
def dispPages (d : Dev) (item : Nat) : Nat :=
  if item = 0 then max 1 (((swIdent d).length + 7) / 8)
  else if item = 1 then 2
  else if (dispEntry d (item - 2)).1 = 0x0F then 2 else 1

/-- A step shows the local date of a demand maximum, and another its local time, before the item is left (R229 kind 0x03;
log entry 139). -/
def dispHasAlt (d : Dev) (item : Nat) : Bool := 2 ≤ item && decide ((dispEntry d (item - 2)).1 = 0x03)

/-- The next page, or the next item after the last page (R228, R230). -/
def dispAdvance (n : Nat) (d : Dev) : Dev :=
  let x := d.disp
  let x' := if x.page + 1 < dispPages d x.item then { x with page := x.page + 1, since := n, alt := 0 }
    else { x with item := (x.item + 1) % dispItems d, page := 0, since := n, alt := 0 }
  { d with disp := x' }

/-- A step (R230): it stops automatic scrolling; steps of one frame count as one. -/
def displayStep (n : Nat) (d : Dev) : Dev :=
  if d.disp.lastStep = n ∧ d.disp.manual = some n then d
  else
    let d := { d with disp := { d.disp with manual := some n, lastStep := n } }
    if dispHasAlt d d.disp.item && decide (d.disp.alt < 2) then
      { d with disp := { d.disp with alt := d.disp.alt + 1, since := n } }
    else dispAdvance n d

/-- The segment test item for one dwell (R230). -/
def segTestStart (n : Nat) (d : Dev) : Dev :=
  { d with disp := { d.disp with segTest := some (n + secs (d.nat Param.DISP_DWELL)) } }

/-- DISPLAY_DWELL is due (R228): the page was shown for DISP_DWELL and no manual step holds it. -/
def dwellDue (n : Nat) (d : Dev) : Bool :=
  d.disp.manual.isNone && decide (d.disp.since + secs (d.nat Param.DISP_DWELL) ≤ n)

/-- DISPLAY_DWELL. -/
def execDisplayDwell (s : State) : Out := devStep s fun d => d.when (dwellDue s.clk.frame d) (dispAdvance s.clk.frame)

/-- DISP_MANUAL_TIMEOUT is due (R230). -/
def manualDue (n : Nat) (d : Dev) : Bool :=
  match d.disp.manual with
  | some k => decide (k + secs (d.nat Param.DISP_MANUAL_TIMEOUT) ≤ n)
  | none => false

/-- DISP_MANUAL_TIMEOUT: scrolling resumes from the item shown (R230). -/
def execDispManualTimeout (s : State) : Out :=
  devStep s fun d => d.when (manualDue s.clk.frame d) fun d =>
    { d with disp := { d.disp with manual := none, since := s.clk.frame } }

/-- DISP_BTN_RELEASE after a press of a number of frames (R230): a step, the segment test, or nothing. A stuck press
ends; during chatter the press is ignored, and the input must be stable for 100 ms from its release on. -/
def btnReleaseEff (n frames : Nat) (d : Dev) : Dev :=
  if d.disp.btnStuck then { d with disp := { d.disp with btnStuck := false } }
  else if n < d.disp.btnIgnoreUntil then { d with disp := { d.disp with btnIgnoreUntil := n + ms 100 } }
  else if frames < ms 20 then d
  else if frames < secs 2 then displayStep n d
  else if frames ≤ secs 5 then segTestStart n d else d

/-- DISP_BTN_RELEASE. -/
def execDispBtnRelease (frames : Nat) (s : State) : Out := devStep s (btnReleaseEff s.clk.frame frames)

/-- DISP_BTN_STUCK (R230), the press held for a number of frames: more than 30 s. -/
def execDispBtnStuck (frames : Nat) (s : State) : Out :=
  devStep s fun d => d.when (!d.disp.btnStuck && decide (secs 30 < frames)) fun d =>
    ({ d with disp := { d.disp with btnStuck := true } }).raise Src.own Event.DISP_BTN_STUCK []

/-- Chatter of the button (R230): ignored until stable for 100 ms; logged where the input was not ignored before. -/
def btnChatterEff (n : Nat) (d : Dev) : Dev :=
  let was := decide (n < d.disp.btnIgnoreUntil)
  let d := { d with disp := { d.disp with btnIgnoreUntil := n + ms 100 } }
  if was then d else d.raise Src.own Event.DISP_BTN_CHATTER []

/-- DISP_BTN_CHATTER (R230), a number of edges within 100 ms: more than 20. -/
def execDispBtnChatter (edges : Nat) (s : State) : Out :=
  devStep s fun d => d.when (decide (20 < edges)) (btnChatterEff s.clk.frame)

/-- A committed DISP_LIST restarts the sequence at item 98 (R228). -/
def dispRestart (n : Nat) (d : Dev) : Dev :=
  { d with disp := { d.disp with item := 0, page := 0, since := n, alt := 0 } }

/-- The LCD is driven (R53, R65): its unit is enabled and not shed. -/
def lcdOn (d : Dev) : Bool := d.unitOn 4 && !d.pow.shed

/-- The common that is selected (R227), 32 frames each; none while the LCD is not driven. R227 does not say where the cycle
begins: it begins with frame m (DESIGN CHOICE, log entry 167). -/
def lcdCommon (c : Clk) (d : Dev) : Option Nat := if lcdOn d then some ((c.frame - c.startFrame) / 32 % 4) else none

/-- The waveform is inverted, in every other LCD frame of 128 frames (R227). -/
def lcdInverted (c : Clk) : Bool := decide ((c.frame - c.startFrame) / 128 % 2 = 1)

/-- VLCD in mV (R445): 3.00 V and 0.133 V for each step of DISP_CONTRAST. -/
def lcdVoltage (d : Dev) : Nat := 3000 + 133 * d.nat Param.DISP_CONTRAST

/-- DISP_POSITION (R234): the identifier shown; 0xFF while the display is not driven. -/
def dispPosition (d : Dev) : Nat :=
  if !lcdOn d then 0xFF
  else if d.disp.item = 0 then 98 else if d.disp.item = 1 then 99 else (dispEntry d (d.disp.item - 2)).2.2

/-! The glass. -/

/-- Segments g f e d c b a of a character, a in bit 0 (R226, R228); no glyph is blank. -/
def glyph (c : Nat) : BitVec 7 :=
  match c with
  | 0x30 => 0x3F#7 | 0x31 => 0x06#7 | 0x32 => 0x5B#7 | 0x33 => 0x4F#7 | 0x34 => 0x66#7
  | 0x35 => 0x6D#7 | 0x36 => 0x7D#7 | 0x37 => 0x07#7 | 0x38 => 0x7F#7 | 0x39 => 0x6F#7
  | 0x41 => 0x77#7 | 0x62 => 0x7C#7 | 0x42 => 0x7C#7 | 0x43 => 0x39#7 | 0x64 => 0x5E#7 | 0x44 => 0x5E#7
  | 0x45 => 0x79#7 | 0x46 => 0x71#7 | 0x48 => 0x76#7 | 0x4C => 0x38#7 | 0x6E => 0x54#7 | 0x6F => 0x5C#7
  | 0x50 => 0x73#7 | 0x72 => 0x50#7 | 0x74 => 0x78#7 | 0x55 => 0x3E#7 | 0x2D => 0x40#7
  | _ => 0#7

/-- The two segment lines of a digit (R226): COM0 to COM3 drive a, f, e, d, then b, g, c and the decimal point. -/
def digitLines (g : BitVec 7) (dp : Bool) : List (BitVec 4) :=
  let b (k : Nat) := BitVec.ofBool (g.getLsbD k)
  [b 3 ++ b 4 ++ b 5 ++ b 0, BitVec.ofBool dp ++ b 2 ++ b 6 ++ b 1]

/-- The decimal digits of a number, most significant first, in k places. -/
def digits (k n : Nat) : List Nat := (List.range k).map fun j => n / 10 ^ (k - 1 - j) % 10

/-- A hexadecimal digit as a character. -/
def hexChar (v : Nat) : Nat := if v < 10 then 0x30 + v else if v = 11 then 0x62 else if v = 13 then 0x64 else 0x37 + v

/-- What an item shows: nine main characters, the places (0 to 8) with a decimal point, and the annunciators lit in
SEG22 to SEG27. -/
structure Shown where
  chars : List Nat
  points : List Nat := []
  ann : List (Nat × Nat) := []

/-- Blank characters. -/
def blanks (k : Nat) : List Nat := List.replicate k 0x20

/-- A number in k places from D(10−k), with f decimals, leading zeros blanked down to the units digit; a negative one
shows "-" in D1. -/
def showNumber (k f : Nat) (z : Int) (ann : List (Nat × Nat)) : Shown :=
  let ds := (digits k (z.natAbs % 10 ^ k)).map (0x30 + ·)
  let cs := blanks (9 - k) ++ ds
  { chars := if z < 0 then 0x2D :: cs.drop 1 else cs, points := if f = 0 then [] else [8 - f], ann := ann }

/-- "kWh3" (R229): floor(mWh ÷ 1,000) modulo 10⁹, decimal point after D6. -/
def showKwh3 (e : Nat) (ann : List (Nat × Nat)) : Shown := showNumber 9 3 (e / 2 ^ 32 / 1000 % 10 ^ 9 : Nat) ann

/-- Annunciators of a family (R226, R229): unit, arrow, quadrant. -/
def famAnn (f : Nat) : List (Nat × Nat) :=
  if f = 0 ∨ f = 7 ∨ f = 9 then [(24, 0), (26, 0)]
  else if f = 1 ∨ f = 8 ∨ f = 10 then [(24, 0), (26, 1)]
  else if f = 2 then [(24, 1), (26, 0), (26, 2)] else if f = 3 then [(24, 1), (26, 1), (26, 3)]
  else if f = 4 then [(24, 1), (26, 1), (26, 2)] else if f = 5 then [(24, 1), (26, 0), (26, 3)]
  else [(24, 2)]

/-- The annunciator of a tariff (R226). -/
def tariffAnn (t : Nat) : List (Nat × Nat) := if 1 ≤ t ∧ t ≤ 8 then [(22 + (t - 1) / 4, (t - 1) % 4)] else []

/-- The dashes of an item whose value does not exist (R228). -/
def dashes (k : Nat) : Shown := { chars := 0x20 :: blanks (8 - k) ++ List.replicate k 0x2D }

/-- A side exists: the AC outlet while OUTLET_AC is enabled (R65, R228). -/
def sideShown (d : Dev) (side : Nat) : Bool := decide (side = 0) || d.unitOn 8

/-- A family exists: the outlet's registers while their unit is enabled (R65, R228). -/
def famShown (d : Dev) (f : Nat) : Bool :=
  decide (f < 7) || (decide (f < 9) && d.unitOn 8) || (decide (9 ≤ f ∧ f < 11) && d.unitOn 9)

/-- The unit of a family (R226, R229). -/
def unitAnn (f : Nat) : List (Nat × Nat) := (famAnn f).take 1

/-- Local date and time as shown. -/
def showDate (d : Dev) (t : Nat) : Shown :=
  let c := civil (localTime d t / 86400)
  { chars := 0x20 :: (digits 2 c.2.2 ++ digits 2 c.2.1 ++ digits 4 c.1).map (0x30 + ·), points := [2, 4] }

/-- Local time of day as shown. -/
def showTime (d : Dev) (t : Nat) : Shown :=
  let l := localTime d t % 86400
  { chars := blanks 3 ++ (digits 2 (l / 3600) ++ digits 2 (l / 60 % 60) ++ digits 2 (l % 60)).map (0x30 + ·)
    points := [4, 6] }

/-- P_TOTAL of a side, pW. -/
def sideP (x : AcSide) : Int := (x.phases.filter fun p => p.metered && p.valid).foldl (fun a p => a + p.cp) 0

/-- Outlet import of the running or the last session (R229 kind 0x0B). -/
def sessionImport (r : Regs) (d : Dev) : Nat :=
  match d.led.records.getLast? with
  | none => 0
  | some x =>
    let f := if bodyDc x.body then 9 else 7
    let start := (nth {} x.startFams 0).total
    let now := if x.endFrame = 0 then r.total f else fieldAt x.body 0x0D0 8 * 2 ^ 32 + fieldAt x.body 0x0D8 4
    now - start

/-- A list entry as shown (R229). `setCheck` is METR_SET_CHECK. -/
def showEntry (s : State) (setCheck : Nat) (d : Dev) (kind arg : Nat) : Shown :=
  let fam (f : Nat) (e : Nat) (extra : List (Nat × Nat)) : Shown :=
    if famShown d f then showKwh3 e (famAnn f ++ extra) else dashes 8
  let ph : Phase := nth {} (d.metr.side (arg / 16)).phases (arg % 16 - 1)
  let page (v : Nat) : Shown :=
    let h := (List.range 8).map fun j => hexChar (v / 16 ^ (15 - 8 * d.disp.page - j) % 16)
    { chars := (0x31 + d.disp.page) :: h, points := [4], ann := [(25, 3)] }
  let side (k : Nat) (x : Shown) : Shown := if sideShown d k then x else dashes 8
  match kind with
  | 0x01 => fam arg (s.regs.total arg) []
  | 0x02 => fam (arg % 16) (nth 0 (nth {} s.regs.fams (arg % 16)).tariffs (arg / 16 - 1)) (tariffAnn (arg / 16))
  | 0x03 =>
    let m := nth (0, 0) (nth {} d.tar.demands (arg % 4 - 1)).maxima (arg / 16)
    if d.disp.alt = 1 then showDate d m.2 else if d.disp.alt = 2 then showTime d m.2 else showNumber 9 3 (m.1 / 1000 : Nat) ((24, 3) :: tariffAnn (arg / 16))
  | 0x04 => showDate d d.tar.rtc
  | 0x05 => showTime d d.tar.rtc
  | 0x06 => { chars := blanks 8 ++ [0x30 + s.regs.tariff], ann := tariffAnn s.regs.tariff }
  | 0x07 =>
    let p := sideP (d.metr.side arg)
    side arg (showNumber 8 3 (cdiv p (10 ^ 12)) [(24, 3), (26, if p < 0 then 1 else 0)])
  | 0x08 => side (arg / 16) (showNumber 8 1 (ph.urms / 100000 : Nat) [(25, 0), (27, arg % 16 - 1)])
  | 0x09 => side (arg / 16) (showNumber 8 2 (ph.irms / 10000 : Nat) [(25, 1), (27, arg % 16 - 1)])
  | 0x0A => side arg (showNumber 8 3 ((d.metr.side arg).freq : Nat) [(25, 2)])
  | 0x0B =>
    if d.led.records.isEmpty then dashes 8
    else showKwh3 (sessionImport s.regs d) ((24, 0) :: (if d.ses.isOpen then [(29, 0)] else []))
  | 0x0C =>
    match d.tar.snaps.head? with
    | some x => if famShown d arg then showKwh3 (nth {} x.fams arg).total (unitAnn arg) else dashes 8
    | none => dashes 8
  | 0x0D => { chars := (slice Config.serialNumber 7 9).map BitVec.toNat }
  | 0x0E =>
    { chars := (0x30 + s.clk.mode.code) :: blanks 2 ++
        (List.range 6).map fun j => hexChar (d.pow.causes.toNat / 16 ^ (5 - j) % 16) }
  | 0x0F => page setCheck
  | _ => { chars := List.replicate 9 0x38, points := List.range 9,
           ann := (List.range 40).map fun k => (22 + k / 4, k % 4) }

/-- The item shown (R228). -/
def showItem (s : State) (setCheck : Nat) (d : Dev) : Shown :=
  if d.disp.item = 0 then
    let pages := dispPages d 0
    let cs := ((slice (swIdent d) (8 * d.disp.page) 8).map BitVec.toNat)
    { chars := (if 1 < pages then 0x31 + d.disp.page else 0x20) :: cs, ann := if 1 < pages then [(25, 3)] else [] }
  else if d.disp.item = 1 then
    let v := metrCheck d
    { chars := (0x31 + d.disp.page) :: (List.range 8).map fun j => hexChar (v / 16 ^ (15 - 8 * d.disp.page - j) % 16)
      points := [4], ann := [(25, 3)] }
  else
    let e := dispEntry d (d.disp.item - 2)
    showEntry s setCheck d e.1 e.2.1

/-- Annunciators of SEG28 to SEG31 and of the neutral fault, lit while their condition holds (R226, R229). -/
def conditions (s : State) (d : Dev) : List (Nat × Nat) :=
  let m := s.clk.mode
  ([(d.metr.missNeutral.isOpen, (27, 3)), (decide (d.tar.status = 1), (28, 0)), (decide (d.tar.status = 2), (28, 1)),
    (d.keys.cell1.low || d.keys.cell2.low || d.keys.cell1.failed || d.keys.cell2.failed, (28, 2)), (decide (d.keys.latched ≠ 0), (28, 3)),
    (d.ses.isOpen, (29, 0)), (decide (m = .degraded), (29, 1)), (decide (m = .safeStop), (29, 2)),
    (decide (m = .service), (29, 3)), (decide (d.gplc.st = 2), (30, 0)), (decide (d.veh.link = .hlc), (30, 1)),
    (!d.nfc.cards.isEmpty, (30, 2)), (decide (d.sw.lockSt = 2), (30, 3)),
    (d.win.irqStatus.getLsbD 3, (31, 0)), (d.metr.grid.est || d.metr.outlet.est || d.metr.dcs.est.isOpen, (31, 1)),
    (d.metr.pulses.any Pulse.level, (31, 2)), (decide (m = .quarantine), (31, 3))].filter Prod.fst).map Prod.snd

/-- Light segments (line, COM). -/
def light (marks : List (Nat × Nat)) (segs : List (BitVec 4)) : List (BitVec 4) :=
  marks.foldl (fun l m => updAt l m.1 fun w => w ||| (1#4 <<< m.2)) segs

/-- LCD_REFRESH (R226 to R229): the display memory; the segment test lights every segment. -/
def lcdRender (s : State) (setCheck : Nat) (d : Dev) : Dev :=
  let test : Bool := match d.disp.segTest with
    | some k => decide (s.clk.frame < k)
    | none => false
  let all : List (BitVec 4) := List.replicate 48 0xF#4
  let x := showItem s setCheck d
  let main := (x.chars.zipIdx.take 9).flatMap fun c => digitLines (glyph c.1) (x.points.contains c.2)
  let ident := (digits 2 (dispPosition d)).flatMap fun v => digitLines (glyph (0x30 + v)) false
  let user := (List.range 16).map fun k => BitVec.ofNat 4 (d.nat Param.LCD_USER_SEGS / 16 ^ k)
  let segs := light (x.ann ++ conditions s d) (main ++ ident ++ List.replicate 10 0#4 ++ user)
  let full : Bool := decide (x.ann.length = 40)
  { d with disp := { d.disp with segments := if test || full then all else segs
                                 segTest := if test then d.disp.segTest else none } }

/-- LCD_REFRESH is due (R227, R230): every 4,000 frames, at a change of item or page, and for the segment test, while the
LCD is driven. -/
def lcdDue (n : Nat) (d : Dev) : Bool :=
  lcdOn d && (decide (n % 4000 = 0 ∨ n ≤ d.disp.since + 1) || d.disp.segTest.isSome)

/-- The display memory rewritten from the values published for the frame: those held, while a dispute holds publication
(R24, R227). -/
def lcdRefresh (s : State) (d : Dev) : Dev :=
  match d.disp.held with
  | none => lcdRender s d.metr.metrSetCheck d
  | some h =>
    let v := { d with metr := h.metr, tar := h.tar }
    { d with disp := (lcdRender { s with regs := h.regs, dev := v } d.metr.metrSetCheck v).disp }

/-- LCD_REFRESH (R227); an LCD that is not driven is blank. -/
def lcdStep (s : State) (d : Dev) : Dev :=
  if !lcdOn d then { d with disp := { d.disp with segments := List.replicate 48 0 } }
  else d.when (lcdDue s.clk.frame d) (lcdRefresh s)

end Sys2Proof.Machine
end

