-- ==== Sys2Proof/Machine/Switches.lean ====
section
/-!
DEFINITION. The load-switch stage (chapter 11): profiles, protection, diagnosis, VAUX, the rules that command a channel,
and the rows of the stage. Channels are numbered 1 to 8; 9 is the lock bridge (R320).
-/

namespace Sys2Proof.Machine

/-- A channel. -/
def Sw.get (x : Sw) (k : Nat) : Hsw := nth {} x.ch (k - 1)

/-- Change a channel. -/
def onHsw (k : Nat) (f : Hsw → Hsw) (d : Dev) : Dev :=
  { d with sw := { d.sw with ch := updAt d.sw.ch (k - 1) f } }

/-- A channel number of R328. -/
def hswNumber (k : Nat) : Bool := decide (1 ≤ k ∧ k ≤ 8)

/-- A parameter of channel k (R334). -/
def hswParam (d : Dev) (id k : Nat) : Nat := d.nat (id + 16 * (k - 1))

/-- Fields of HSW_CFG (R335). -/
def hswRetries (d : Dev) (k : Nat) : Nat := hswParam d Param.HSW_CFG k / 8 % 16
/-- ASSIGN. -/
def hswAssign (d : Dev) (k : Nat) : Nat := hswParam d Param.HSW_CFG k / 128 % 8
/-- TSOURCE. -/
def hswSource (d : Dev) (k : Nat) : Nat := hswParam d Param.HSW_CFG k / 1024 % 64
/-- OFF_DIAG, SHED, INIT_ON by bit. -/
def hswBit (d : Dev) (b k : Nat) : Bool := (hswParam d Param.HSW_CFG k).testBit b
/-- HOSTLOSS. -/
def hswHostLoss (d : Dev) (k : Nat) : Nat := hswParam d Param.HSW_CFG k / 2 ^ 19 % 4

/-- The unit bit of a channel is set (R65, R313). -/
def hswUnit (d : Dev) (k : Nat) : Bool := d.unitOn (if k ≤ 4 then 5 else 6)

/-- The stage drives channels: frames run in MAINS with nothing shed (R313). -/
def stageOn (d : Dev) : Bool := decide (d.pow.st = .mains) && !d.pow.shed

/-! Profiles (R314, R315). -/

/-- The built-in profiles: eight steps of duration in ms and limit in mA, and the blanking in ms (R315). -/
def builtIn : Nat → List (Nat × Nat) × Nat
  | 0 => ([(5, 12000), (10, 12000), (15, 10000), (20, 8000), (30, 6000), (50, 5000), (100, 4500), (200, 4000)], 15)
  | 1 => ([(1, 6000), (2, 4000), (5, 3000), (10, 2500), (20, 2000), (20, 2000), (20, 2000), (20, 2000)], 1)
  | 2 => ([(50, 12000), (100, 10000), (150, 8000), (200, 7000), (250, 6000), (250, 5000), (500, 4500), (500, 4000)], 50)
  | 3 => ([(20, 8000), (20, 7000), (20, 6000), (40, 5000), (40, 4500), (60, 4000), (100, 4000), (100, 4000)], 20)
  | 4 => ([(10, 6000), (20, 5000), (30, 4000), (40, 3500), (50, 3000), (50, 3000), (100, 3000), (100, 3000)], 10)
  | _ => ([(10, 6000), (20, 5000), (30, 4000), (40, 3500), (50, 3000), (50, 2500), (100, 2500), (100, 2500)], 10)

/-- Profile p (R315, R337). -/
def profile (d : Dev) (p : Nat) : List (Nat × Nat) × Nat :=
  if p < 6 then builtIn p
  else
    let b := d.blk (Param.PROFILE_USER + (p - 6))
    ((List.range 8).map fun j => (fieldAt b (4 * j) 2, fieldAt b (4 * j + 2) 2), fieldAt b 32 2)

/-- The 36 bytes of a built-in profile (R337). -/
def profileBytes (p : Nat) : List Byte :=
  ((builtIn p).1.flatMap fun x => leBytes 2 x.1 ++ leBytes 2 x.2) ++ leBytes 2 (builtIn p).2 ++ [0, 0]

/-- The profile of a channel. -/
def hswProfile (d : Dev) (k : Nat) : List (Nat × Nat) × Nat := profile d (hswParam d Param.HSW_CFG k % 8)

/-- The first step after step j that has a duration; 0 for none (R314). -/
def nextStep (steps : List (Nat × Nat)) (j : Nat) : Nat :=
  match (List.range 8).find? fun i => decide (j ≤ i) && decide ((nth (0, 0) steps i).1 ≠ 0) with
  | some i => i + 1
  | none => 0

/-- A channel takes step j, or is ON with its steady limit (R314). -/
def takeStep (n j : Nat) (h : Hsw) : Hsw :=
  if j = 0 then { h with st := 2, step := 0, stepAt := n, goodSince := n } else { h with st := 1, step := j, stepAt := n }

/-- A channel turns on (R314, R324): its inrush begins at step 1; with VAUX out of range it is off for that. -/
def turnOn (n k : Nat) (d : Dev) : Dev :=
  onHsw k (fun h => if d.sw.uv ≠ 0 then { h with st := 6, step := 0 }
    else { takeStep n (nextStep (hswProfile d k).1 0) h with onAt := n, noDelay := false }) d

/-- The limit of a channel in force, mA (R314). -/
def hswLimit (d : Dev) (k : Nat) : Nat :=
  let h := d.sw.get k
  if h.st = 1 then (nth (0, 0) (hswProfile d k).1 (h.step - 1)).2 else hswParam d Param.HSW_ILIM k

/-- The channel drives its output (R318). -/
def driving (h : Hsw) : Bool := decide (h.st = 1 ∨ h.st = 2)

/-- Past the blanking time of the latest turn-on (R316). -/
def pastBlanking (n k : Nat) (d : Dev) : Bool := decide ((d.sw.get k).onAt + ms (hswProfile d k).2 ≤ n)

/-! PWM (R323). -/

/-- Period of a generator in cycles of the XA clock. -/
def pwmPeriod (f : Nat) : Nat := (24576000 + f / 2) / f

/-- On time of a generator in cycles: duty code c of 4,096, no time but 0 and the whole below 5 µs. -/
def pwmOn (f c : Nat) : Nat :=
  let p := pwmPeriod f
  if c = 0 then 0 else if 4095 ≤ c then p else max 123 (min (p - 123) (c * p / 4096))

/-- Delay of a generator's period after the shared start, in cycles. -/
def pwmDelay (f phase : Nat) : Nat := phase * pwmPeriod f / 360000

/-- The on-pulses of a channel last at least so many tenths of µs (R317, R321); a channel not under PWM is on. -/
def pulseAtLeast (d : Dev) (tenths k : Nat) : Bool :=
  let h := d.sw.get k
  h.cmd ≠ 2 || decide (tenths * 24576 ≤ 10000 * pwmOn (hswParam d Param.HSW_PWM_FREQ k) h.duty)

/-- A generator enabled in frame n starts with those of its frequency that run; with none, the shared count begins at the
first tick that finds it enabled (R323). -/
def pwmJoin (n k : Nat) (d : Dev) : Dev :=
  let f := hswParam d Param.HSW_PWM_FREQ k
  let others := (List.range 8).filterMap fun j =>
    if j + 1 ≠ k ∧ (nth {} d.sw.ch j).pwmFreq = f then (nth {} d.sw.ch j).pwmFrom else none
  onHsw k (fun h => { h with pwmFrom := some (others.head?.getD (n + 1)), pwmFreq := f }) d

/-- Begin of the period in which generator k is at `cyc` cycles after tick n, in cycles since tick 0 (R323); none before its
first period. -/
def pwmPeriodAt (n cyc k : Nat) (d : Dev) : Option Nat :=
  let h := d.sw.get k
  match h.pwmFrom with
  | none => none
  | some start =>
    let first := 3072 * start + pwmDelay h.pwmFreq (hswParam d Param.HSW_PWM_PHASE k)
    let t := 3072 * n + cyc
    if t < first then none else some (t - (t - first) % pwmPeriod h.pwmFreq)

/-- The duty in force then: a change applies from the next period that begins after its write at 75 µs, 1,843 cycles
(R312, R323). -/
def dutyInForce (n cyc k : Nat) (d : Dev) : Nat :=
  let h := d.sw.get k
  match pwmPeriodAt n cyc k d with
  | some b => if 3072 * h.dutyAt + 1843 < b then h.duty else h.dutyWas
  | none => h.dutyWas

/-- Generator k drives its output at `cyc` cycles after tick n (R323). -/
def pwmHigh (n cyc k : Nat) (d : Dev) : Bool :=
  match pwmPeriodAt n cyc k d with
  | some b => decide (3072 * n + cyc < b + pwmOn (d.sw.get k).pwmFreq (dutyInForce n cyc k d))
  | none => false

/-! Commands reach the stage. -/

/-- The commanded state of a channel changes (R312, R328); a running generator keeps its duty to the end of its period
(R323). -/
def setCommand (n k cmd duty : Nat) (d : Dev) : Dev :=
  let was := (d.sw.get k).cmd
  let now := if was = 2 then dutyInForce n 1843 k d else duty
  let d := onHsw k (fun h => { h with cmd := cmd, duty := duty, nextCmd := none, dutyWas := now, dutyAt := n }) d
  if cmd = 2 then (if was = 2 then d else pwmJoin n k d)
  else onHsw k (fun h => { h with pwmFrom := none }) d

/-- LATCH_CLEAR reaches the stage (R320): latch and retry counter cleared, logged; a commanded channel waits for the
restart rule with its delay passed. -/
def clearLatch (k : Nat) (d : Dev) : Dev :=
  (onHsw k (fun h => { h with
      nextClear := false, latched := false, retries := 0, st := if h.cmd = 0 then 0 else 3, noDelay := true })
    (d.ckptDue 5)).raise Src.host Event.HSW_LATCH_CLEARED (leBytes 1 k)

/-- A channel follows its commanded state (R313, R318, R319): one whose unit is disabled reads OFF and keeps its latch. -/
def followCommand (n k : Nat) (d : Dev) : Dev :=
  let h := d.sw.get k
  if !hswUnit d k then onHsw k (fun h => { h with st := 0, step := 0 }) d
  else if h.latched then onHsw k (fun h => { h with st := 5, step := 0 }) d
  else if !stageOn d then onHsw k (fun h => { h with st := 0, step := 0 }) d
  else if h.cmd = 0 then
    (if h.st = 1 ∨ h.st = 2 ∨ h.st = 3 ∨ h.st = 4 then onHsw k (fun h => { h with st := 0, step := 0 }) d else d)
  else if h.st = 0 then turnOn n k d else d

/-- On or off by a rule of R327; none for a host channel or between the two thresholds. -/
def ruleWants (s : State) (d : Dev) (k : Nat) : Option Bool :=
  let w := hswParam d Param.HSW_THERMO k
  let tOn := leInt 2 (leBytes 2 (w % 65536))
  let tOff := leInt 2 (leBytes 2 (w / 65536))
  let t := tempOfCode d (hswSource d k)
  match hswAssign d k with
  | 1 => match t with
    | some v => if v ≤ tOn then some true else if tOff ≤ v then some false else none
    | none => some false
  | 2 => match t with
    | some v => if tOn ≤ v then some true else if v ≤ tOff then some false else none
    | none => some true
  | 3 => some (decide (d.ses.st = 4))
  | 4 => some (decide (s.clk.mode = .degraded ∨ s.clk.mode = .safeStop ∨ s.clk.mode = .quarantine))
  | _ => none

/-- The rule of a channel is evaluated (R327): a rule of temperature where a new result has come since the frame before. -/
def ruleEvaluated (n k : Nat) (d : Dev) : Bool := decide (2 < hswAssign d k) || decide (n ≤ d.samp.auxAt + 1)

/-- A running generator whose HSW_PWM_FREQ has changed joins those of the new frequency (R323). -/
def pwmRetune (n k : Nat) (d : Dev) : Dev :=
  d.when (decide ((d.sw.get k).cmd = 2) && decide ((d.sw.get k).pwmFreq ≠ hswParam d Param.HSW_PWM_FREQ k)) (pwmJoin n k)

/-- The rule commands its channel (R327). -/
def ruleStep (s : State) (k : Nat) (d : Dev) : Dev :=
  match if ruleEvaluated s.clk.frame k d then ruleWants s d k else none with
  | some on => if on = ((d.sw.get k).cmd ≠ 0) then d else setCommand s.clk.frame k (if on then 1 else 0) 0 d
  | none => d

/-- HSW_CHANNEL_APPLY (R312): the rule, a SWITCH_SET and a LATCH_CLEAR of the frame before, and the state that
follows. -/
def channelApply (s : State) (k : Nat) (d : Dev) : Dev :=
  let n := s.clk.frame
  let d := ruleStep s k d
  let d := match (d.sw.get k).nextCmd with
    | some c => setCommand n k c.1 c.2 d
    | none => d
  let d := if (d.sw.get k).nextClear then clearLatch k d else d
  followCommand n k (pwmRetune n k d)

/-- Whether the lanes write channels: with the token or a window gate (R17, R312). -/
def stageWritable (d : Dev) : Bool := d.lanes.acting.isSome

/-- A clear of the bridge's latch reaches the stage (R320). -/
def bridgeClear (d : Dev) : Dev :=
  if d.sw.lockClear then
    ({ d.ckptDue 5 with sw := { d.sw with lockClear := false, lockLatched := false, lockCause := 0 } }).raise Src.host
      Event.HSW_LATCH_CLEARED (leBytes 1 9)
  else d

/-- Every channel applied (R312). -/
def stageApply (s : State) (d : Dev) : Dev :=
  if stageWritable d then (List.range 8).foldl (fun d j => channelApply s (j + 1) d) (bridgeClear d) else d

/-! Protection (R317, R319). -/

/-- A protection off (R319): cause 1 SHORT, 2 THERMAL. The lanes read it in the next frame. -/
def protectionOff (n k cause : Nat) (d : Dev) : Dev :=
  let budget := hswRetries d k
  onHsw k (fun h =>
    let retry := decide (h.retries < budget)
    { h with
      offAt := n, cause := cause, step := 0, offNews := true, noDelay := false
      retries := if retry then h.retries + 1 else h.retries
      latched := !retry, st := if retry then (if cause = 2 then 4 else 3) else 5 }) d

/-- A protection off of the lock bridge stops and fails its drive (R329). -/
def bridgeOff (n cause : Nat) (d : Dev) : Dev :=
  if d.sw.bridge = 1 then driveStop n 4 { d with sw := { d.sw with lockCause := cause } } else d

/-- FAST_SHORT is due (R317): the channel drives, is past its blanking, its on-pulse lasts at least 110 µs, and the current
limit has acted with the output below half of VAUX for 100 µs. -/
def fastShortDue (n k us : Nat) (d : Dev) : Bool :=
  decide (100 ≤ us) && hswNumber k && driving (d.sw.get k) && pastBlanking n k d && pulseAtLeast d 1100 k

/-- FAST_SHORT (R317, R329). -/
def execFastShort (k us : Nat) (s : State) : Out :=
  devStep s fun d =>
    if k = 9 then d.when (decide (100 ≤ us)) (bridgeOff s.clk.frame 1)
    else d.when (fastShortDue s.clk.frame k us d) (protectionOff s.clk.frame k 1)

/-- THERMAL_SHUTDOWN (R317, R329): a junction at 170 °C. -/
def execThermalShutdown (k : Nat) (tj : Int) (s : State) : Out :=
  devStep s fun d => d.when (decide (17000 ≤ tj)) fun d =>
    if k = 9 then bridgeOff s.clk.frame 2 d
    else d.when (hswNumber k && driving (d.sw.get k)) (protectionOff s.clk.frame k 2)

/-- INRUSH_STEP is due (R314). -/
def inrushDue (n k : Nat) (d : Dev) : Bool :=
  let h := d.sw.get k
  hswNumber k && decide (h.st = 1) &&
    decide (h.stepAt + ms (nth (0, 0) (hswProfile d k).1 (h.step - 1)).1 ≤ n)

/-- INRUSH_STEP (R314). -/
def execInrushStep (k : Nat) (s : State) : Out :=
  devStep s fun d => d.when (inrushDue s.clk.frame k d) (onHsw k fun h =>
    takeStep (h.stepAt + ms (nth (0, 0) (hswProfile d k).1 (h.step - 1)).1) (nextStep (hswProfile d k).1 h.step) h)

/-- RETRY_RESTART is due (R319, R320): a protection off comes after the tick of its frame, so its delay has passed at the tick
after. -/
def retryDue (n k : Nat) (d : Dev) : Bool :=
  let h := d.sw.get k
  hswNumber k && decide (h.st = 3 ∨ h.st = 4) && !h.latched && decide (h.cmd ≠ 0) && decide (h.tj < 15000) &&
    (h.noDelay || decide (h.offAt + ms (hswParam d Param.HSW_RETRY_DELAY k) < n)) && stageOn d && hswUnit d k

/-- RETRY_RESTART (R319). -/
def execRetryRestart (k : Nat) (s : State) : Out :=
  devStep s (Dev.when (retryDue s.clk.frame k s.dev) (turnOn s.clk.frame k))

/-- RETRY_COUNTER_RESET (R319). -/
def execRetryCounterReset (k : Nat) (s : State) : Out :=
  devStep s (Dev.when (hswNumber k && decide ((s.dev.sw.get k).st = 2) &&
      decide ((s.dev.sw.get k).goodSince + 8000 ≤ s.clk.frame))
    (onHsw k fun h => { h with retries := 0 }))

/-! Diagnosis (R321). -/

/-- Whether a flag's criterion is tested in a frame, and what it shows: 0 on-state open load, 1 off-state, 2 short to
VAUX. -/
def diagShows (n k flag : Nat) (d : Dev) : Option Bool :=
  let h := d.sw.get k
  match flag with
  | 0 => if h.st = 2 ∧ pastBlanking n k d ∧ pulseAtLeast d 1000 k then
      some (decide (h.current < hswParam d Param.HSW_OL_THR k)) else none
  | 1 => if h.st = 0 ∧ hswBit d 16 k ∧ stageOn d ∧ hswUnit d k then some (decide (3000 < h.vout)) else none
  | _ => if h.st = 0 ∧ stageOn d ∧ hswUnit d k then some (decide (d.sw.vaux < h.voutBare + 1000)) else none

/-- Frames in a row that a criterion has stood against its flag; where the test is not made the flag holds and the count
begins again. -/
def diagCount (shows : Option Bool) (flag : Bool) (count : Nat) : Nat :=
  match shows with
  | some b => if b = flag then 0 else count + 1
  | none => 0

/-- The three counts of a channel (R321). -/
def diagStep (n k : Nat) (d : Dev) : Dev :=
  onHsw k (fun h => { h with
    olOn := diagCount (diagShows n k 0 d) (h.flags.getLsbD 0) h.olOn
    olOff := diagCount (diagShows n k 1 d) (h.flags.getLsbD 1) h.olOff
    stv := diagCount (diagShows n k 2 d) (h.flags.getLsbD 2) h.stv }) d

/-- Flip a flag. -/
def flipFlag (b : Nat) (h : Hsw) : Hsw :=
  { h with flags := h.flags ^^^ (1#3 <<< b)
           olOn := if b = 0 then 0 else h.olOn, olOff := if b = 1 then 0 else h.olOff, stv := if b = 2 then 0 else h.stv }

/-- OPEN_LOAD (R321): the flag changes after 160 frames; each change is logged. -/
def openLoadEff (k : Nat) (off : Bool) (d : Dev) : Dev :=
  let b := if off then 1 else 0
  (onHsw k (flipFlag b) d).raise Src.host Event.HSW_OPEN_LOAD
    (leBytes 1 k ++ leBytes 1 b ++ leBytes 1 (if (d.sw.get k).flags.getLsbD b then 1 else 0))

/-- OPEN_LOAD. -/
def execOpenLoad (k : Nat) (offState : Bool) (s : State) : Out :=
  devStep s (Dev.when (hswNumber k &&
    decide (160 ≤ (if offState then (s.dev.sw.get k).olOff else (s.dev.sw.get k).olOn))) (openLoadEff k offState))

/-- SHORT_TO_VAUX (R321). -/
def shortVauxEff (k : Nat) (d : Dev) : Dev :=
  (onHsw k (flipFlag 2) d).raise Src.host Event.HSW_SHORT_TO_VAUX
    (leBytes 1 k ++ leBytes 1 (if (d.sw.get k).flags.getLsbD 2 then 1 else 0))

/-- SHORT_TO_VAUX. -/
def execShortToVaux (k : Nat) (s : State) : Out :=
  devStep s (Dev.when (hswNumber k && decide (160 ≤ (s.dev.sw.get k).stv)) (shortVauxEff k))

/-! VAUX (R324 to R326). -/

/-- The end of the present excursion of VAUX is logged with the extreme seen (R325). -/
def vauxEnds (d : Dev) : Dev :=
  d.when (decide (d.sw.uv ≠ 0)) fun d =>
    d.raise Src.host (if d.sw.uv = 2 then Event.VAUX_OVERVOLTAGE else Event.VAUX_UNDERVOLTAGE)
      (leBytes 1 1 ++ leBytes 4 d.sw.vauxExtreme)

/-- Driving channels and a driving bridge go off for VAUX (R324); the opposite excursion ends with it. -/
def vauxCut (n kind mv : Nat) (d : Dev) : Dev :=
  let d := vauxEnds d
  let d := { d with sw := { d.sw with
    uv := kind, vauxExtreme := mv, uvGood := 0
    ch := d.sw.ch.map fun h => if driving h then { h with st := 6, step := 0 } else h } }
  d.when (decide (d.sw.bridge = 1)) (driveCut n)

/-- VAUX_UNDERVOLTAGE (R324, R325): mode 0 below UV_OFF, either mode below 5.5 V; an entry is logged once, its extreme
kept. -/
def vauxLow (n mv : Nat) (d : Dev) : Dev :=
  if (d.nat Param.UV_MODE = 0 ∧ mv < d.nat Param.UV_OFF) ∨ mv < 5500 then
    if d.sw.uv = 1 then { d with sw := { d.sw with vauxExtreme := min mv d.sw.vauxExtreme } }
    else (vauxCut n 1 mv d).raise Src.host Event.VAUX_UNDERVOLTAGE (leBytes 1 0 ++ leBytes 4 0)
  else d

/-- VAUX_UNDERVOLTAGE: after 10 µs. -/
def execVauxUndervoltage (mv us : Nat) (s : State) : Out :=
  devStep s (Dev.when (s.clk.running && decide (10 ≤ us)) (vauxLow s.clk.frame mv))

/-- VAUX_OVERVOLTAGE (R324, R325): above 38.0 V. -/
def vauxHigh (n mv : Nat) (d : Dev) : Dev :=
  if 38000 < mv then
    if d.sw.uv = 2 then { d with sw := { d.sw with vauxExtreme := max mv d.sw.vauxExtreme } }
    else (vauxCut n 2 mv d).raise Src.host Event.VAUX_OVERVOLTAGE (leBytes 1 0 ++ leBytes 4 0)
  else d

/-- VAUX_OVERVOLTAGE: after 10 µs. -/
def execVauxOvervoltage (mv us : Nat) (s : State) : Out :=
  devStep s (Dev.when (s.clk.running && decide (10 ≤ us)) (vauxHigh s.clk.frame mv))

/-- The lowest channel in UV_OFF returns to its commanded state, after HSW8 the lock bridge (R325). -/
def returnOne (n : Nat) (d : Dev) : Dev :=
  match (List.range 8).find? fun j => decide ((nth {} d.sw.ch j).st = 6) with
  | some j =>
    if (nth {} d.sw.ch j).cmd = 0 then onHsw (j + 1) (fun h => { h with st := 0 }) d else turnOn n (j + 1) d
  | none => { d with sw := { d.sw with bridgeUv := false } }

/-- VAUX has stayed in range for 80 frames (R325). -/
def vauxGood (d : Dev) : Bool := decide (80 ≤ d.sw.uvGood) && stageOn d

/-- VAUX_RESTORED (R325): the end is logged with the extreme, and the first channel returns; the others follow at the
ticks after, one each. -/
def vauxRestore (n : Nat) (d : Dev) : Dev :=
  let d := vauxEnds d
  returnOne n { d with sw := { d.sw with uv := 0, uvFrame := some n } }

/-- VAUX_RESTORED. -/
def execVauxRestored (s : State) : Out :=
  devStep s (Dev.when (vauxGood s.dev && decide (s.dev.sw.uv ≠ 0)) (vauxRestore s.clk.frame))

/-- The mean of VAUX_CURRENT over the last 8,000 frames, mA (R326); before frame m the stage drew nothing. -/
def vauxMean (d : Dev) : Nat := d.sw.vauxSum / 8000

/-- A second has passed since a frame. -/
def secondSince (n : Nat) (f : Option Nat) : Bool :=
  match f with
  | some k => decide (k + 8000 ≤ n)
  | none => true

/-- The channel to shed (R326): the highest-numbered one that is on with SHED set. -/
def shedChannel (d : Dev) : Option Nat :=
  ((List.range 8).filter fun j => driving (nth {} d.sw.ch j) && hswBit d 17 (j + 1)).getLast?.map (· + 1)

/-- VAUX_OVERLOAD_SHED is due (R326). -/
def shedDue (n : Nat) (d : Dev) : Bool :=
  decide (8000 * d.nat Param.VAUX_I_MAX < d.sw.vauxSum) && secondSince n d.sw.lastShed

/-- VAUX_OVERLOAD_SHED (R326). -/
def shedEff (n : Nat) (d : Dev) : Dev :=
  match shedChannel d with
  | some k =>
    let d := { d with sw := { d.sw with lastShed := some n, shedCount := d.sw.shedCount + 1 } }
    (onHsw k (fun h => { h with st := 7, step := 0, shedCurrent := h.current, shedOrder := d.sw.shedCount }) d).raise
      Src.host Event.VAUX_OVERLOAD (leBytes 1 k ++ leBytes 1 0 ++ leBytes 4 (vauxMean d))
  | none => d

/-- VAUX_OVERLOAD_SHED. -/
def execVauxOverloadShed (s : State) : Out :=
  devStep s (Dev.when (shedDue s.clk.frame s.dev) (shedEff s.clk.frame))

/-- The channel shed last (R326). -/
def shedLast (d : Dev) : Option Nat :=
  ((List.range 8).filter fun j => decide ((nth {} d.sw.ch j).st = 7)).foldl (fun best j =>
    match best with
    | some b => if (nth {} d.sw.ch (b - 1)).shedOrder < (nth {} d.sw.ch j).shedOrder then some (j + 1) else some b
    | none => some (j + 1)) none

/-- VAUX_OVERLOAD_RETURN is due for a channel (R326). -/
def shedReturnDue (n k : Nat) (d : Dev) : Bool :=
  decide (10 * (d.sw.vauxSum + 8000 * (d.sw.get k).shedCurrent) < 9 * 8000 * d.nat Param.VAUX_I_MAX) &&
    secondSince n d.sw.lastReturn && stageOn d

/-- VAUX_OVERLOAD_RETURN (R326). -/
def shedReturn (n : Nat) (d : Dev) : Dev :=
  match shedLast d with
  | some k =>
    if shedReturnDue n k d then
      let d := { d with sw := { d.sw with lastReturn := some n } }
      let d := if (d.sw.get k).cmd = 0 then onHsw k (fun h => { h with st := 0 }) d else turnOn n k d
      d.raise Src.host Event.VAUX_OVERLOAD (leBytes 1 k ++ leBytes 1 1 ++ leBytes 4 (vauxMean d))
    else d
  | none => d

/-- VAUX_OVERLOAD_RETURN. -/
def execVauxOverloadReturn (s : State) : Out := devStep s (shedReturn s.clk.frame)

/-! Lock and coils. -/

/-- LOCK_LOST is due (R330). -/
def lockLostDue (d : Dev) : Bool :=
  lockUsable d && outletShut d && !lockShown d && decide (8 ≤ d.sw.fbHeld) && decide (d.sw.bridge = 0)

/-- LOCK_LOST (R330): alarm, the outlet opened, CHARGING left for AUTHORISED, the lock driven once more. -/
def lockLostEff (n : Nat) (d : Dev) : Dev :=
  let was := d.ses.st
  let d := openOutlet n (d.raise Src.vehicle Event.LOCK_LOST [])
  let d := { d with ses := { d.ses with st := if was = 4 then 3 else was }, sw := { d.sw with lockSt := 1 } }
  driveNow n true false d

/-- LOCK_LOST. -/
def execLockLost (s : State) : Out := devStep s (Dev.when (lockLostDue s.dev) (lockLostEff s.clk.frame))

/-- COIL_PULLIN_END is due (R332). -/
def pullinDue (n : Nat) (d : Dev) : Bool :=
  match d.saf.pullAt with
  | some f => decide (f + ms (d.nat Param.COIL_PULLIN) ≤ n) && !d.saf.economiser
  | none => false

/-- COIL_PULLIN_END (R332): the economiser holds the coil. -/
def execCoilPullinEnd (s : State) : Out :=
  devStep s (Dev.when (pullinDue s.clk.frame s.dev) fun d => { d with saf := { d.saf with economiser := true } })

/-! What a tick brings. -/

/-- A protection off that the status word shows for the first time is counted and logged; a new latch writes a
checkpoint (R312, R320, R338). -/
def offReport (k : Nat) (d : Dev) : Dev :=
  let h := d.sw.get k
  if h.offNews then
    let d := onHsw k (fun h => { h with offNews := false, protCount := h.protCount + 1 }) d
    let d := d.raise Src.host Event.HSW_PROTECTION_OFF (leBytes 1 k ++ leBytes 1 h.cause ++ leBytes 1 h.retries)
    if h.latched then (d.ckptDue 5).raise Src.host Event.HSW_LATCHED (leBytes 1 k ++ leBytes 1 h.cause) else d
  else d

/-- The status word of a channel (R336). -/
def hswWord (h : Hsw) : Nat :=
  h.st + (if h.cmd ≠ 0 then 8 else 0) + (if h.ilim then 16 else 0) + (if h.cause = 1 then 32 else 0) +
    (if h.cause = 2 then 64 else 0) + 128 * h.flags.toNat + (if driving h ∧ h.cmd = 2 then 1024 else 0) +
    4096 * h.retries + 65536 * h.step

/-- The stage's status and measurements of a channel as both lanes read them (R312). -/
def statusRead (n k : Nat) (x : HswIn) (d : Dev) : Dev :=
  let d := onHsw k (fun h => { h with
    current := x.current, tj := x.tj, vout := x.vout, voutBare := x.voutBare, ilim := x.ilim
    word := hswWord { h with ilim := x.ilim }
    goodSince := if h.st = 2 ∧ x.ilim = false then h.goodSince else n }) d
  diagStep n k (offReport k d)

/-- The stage at 0 to 2 µs of a frame (R312, R324 to R326): the channels, VAUX, its mean, and one channel that
returns after an under-voltage. -/
def stageRead (n : Nat) (f : FrameIn) (d : Dev) : Dev :=
  let d := (List.range 8).foldl (fun d j => statusRead n (j + 1) (nth ⟨0, 2500, 0, false, 0⟩ f.hsw j) d) d
  let inRange := decide (d.nat Param.UV_OFF + 500 ≤ f.vaux) && decide (f.vaux ≤ 36000)
  let w := if stageOn d then f.vauxI else 0
  let dropped := if d.sw.vauxWindow.length < 8000 then 0 else d.sw.vauxWindow.getLast?.getD 0
  let d := { d with sw := { d.sw with
    vaux := f.vaux, vauxI := w, vauxWindow := (w :: d.sw.vauxWindow).take 8000
    vauxSum := d.sw.vauxSum + w - dropped
    uvGood := if inRange then d.sw.uvGood + 1 else 0
    vauxExtreme := if d.sw.uv = 1 then min f.vaux d.sw.vauxExtreme
      else if d.sw.uv = 2 then max f.vaux d.sw.vauxExtreme else d.sw.vauxExtreme
    coilI1 := f.coilI1, coilI2 := f.coilI2, senseSel := d.nat Param.SENSE_SEL } }
  if vauxGood d && decide (d.sw.uv = 0) then returnOne n d else d

/-- HSW_STATUS (R336): the word read at the frame's beginning. -/
def hswStatus (d : Dev) (k : Nat) : Nat := (d.sw.get k).word

/-- The fault level is shown for the source selected (R322). -/
def senseFault (d : Dev) : Bool :=
  let c := d.sw.senseSel
  let h := d.sw.get c
  if hswNumber c then decide (h.st = 3 ∨ h.st = 4 ∨ h.st = 5) || decide (h.flags ≠ 0)
  else if c = 9 then d.sw.lockLatched || (lockBusy d && decide (d.sw.stopCond = 4))
  else if c = 10 ∨ c = 11 then ((d.saf.quads.drop (4 * (c - 10))).take 4).any fun q => decide (q.failed ≠ 0)
  else decide (c = 12) && decide (d.sw.uv ≠ 0)

/-- The SENSE output in µV at `cyc` cycles after the tick (R322), none for the fault level of at least 2.9 V: `ma` is the
current of the selected source at that instant, 0 in the off time of a channel under PWM; 0 V while absent, in reset or in
HOLD. -/
def senseLevel (c : Clk) (cyc ma : Nat) (d : Dev) : Option Nat :=
  let k := d.sw.senseSel
  if !c.running || !stageOn d then some 0
  else if senseFault d then none
  else if hswNumber k then
    (if (d.sw.get k).cmd = 2 ∧ pwmHigh c.frame cyc k d = false then some 0 else some (200 * ma))
  else if k = 9 then some (500 * ma)
  else if k = 10 ∨ k = 11 then some (1000 * ma)
  else if k = 12 then some (100 * ma) else some 0

/-- The host is lost (R328): each host channel takes its HOSTLOSS. -/
def stageHostLost (d : Dev) : Dev :=
  (List.range 8).foldl (fun d j =>
    if hswAssign d (j + 1) ≠ 0 then d
    else match hswHostLoss d (j + 1) with
      | 1 => onHsw (j + 1) (fun h => { h with nextCmd := some (0, 0) }) d
      | 2 => onHsw (j + 1) (fun h => { h with nextCmd := some (1, 0) }) d
      | _ => d) d

/-- HOLD and frames that stop (R53, R313): every channel off, commands and latches kept; the bridge undriven. -/
def stageShed (d : Dev) : Dev :=
  { d with sw := { d.sw with
      ch := d.sw.ch.map fun h => if h.st = 5 then h else { h with st := 0, step := 0, pwmFrom := none }
      bridge := 0, bridgeUv := false, nextDrive := none, repeatAt := none
      lockSt := if d.sw.bridge = 0 then d.sw.lockSt else 0 } }

/-- HOLD_EXITED (R313): each channel returns to its commanded state as after an under-voltage. -/
def stageRestore (d : Dev) : Dev :=
  { d with sw := { d.sw with
      uvGood := 0, ch := d.sw.ch.map fun h => if h.st = 0 ∧ h.cmd ≠ 0 then { h with st := 6 } else h } }

/-- The lock's position at frame m, as its feedback shows (R63). A change made since frames stopped is logged: R63 names no
event, the model logs LOCK_DONE with the new position, duration 0 and the feedback (DESIGN CHOICE, log entry 140). -/
def lockStart (was : Nat) (d : Dev) : Dev :=
  let now := if lockUsable d then (if lockShown d then 2 else 1) else 0
  let d := { d with sw := { d.sw with lockSt := now } }
  d.when (decide (now ≠ 0 ∧ (was = 1 ∨ was = 2) ∧ was ≠ now)) fun d => d.raise Src.host Event.LOCK_DONE
    (leBytes 1 (now - 1) ++ leBytes 4 0 ++ leBytes 1 1)

/-- Frame m of a start-up (R313, R320): latches restored, then each channel commanded by its rule or by INIT_ON; the
lock's position is as its feedback shows. -/
def stageStart (s : State) (latches : List (Bool × Nat)) (lkFb : Bool) (d : Dev) : Dev :=
  let chan (j : Nat) : Hsw :=
    let c := nth (false, 0) latches j
    let was := nth {} d.sw.ch j
    { st := if c.1 then 5 else 0, latched := c.1, cause := c.2, protCount := was.protCount
      nextCmd := if hswAssign d (j + 1) = 0 ∧ hswBit d 18 (j + 1) then some (1, 0) else none }
  let bridge := nth (false, 0) latches 8
  let was := d.sw.lockSt
  let d := { d with sw := {
    ch := (List.range 8).map chan, lockLatched := bridge.1, lockCause := bridge.2, fb := lkFb, fbHeld := 8
    lockOps := d.sw.lockOps } }
  stageApply s (lockStart was d)

end Sys2Proof.Machine
end

