-- ==== Sys2Proof/Machine/Power.lean ====
section
/-!
DEFINITION. Modes and power (chapter 02): hold-up, HOLD, the final sequence, RESET_N, SERVICE_N, the service login's
end, and the application of a mode transition.
-/

namespace Sys2Proof.Machine

/-- Hold-up is found not ready (R51): HOLDUP_LOW; the cause bit in Ready, in a session and where the caller says so. -/
def holdupLow (n : Nat) (m : Mode) (always : Bool) (d : Dev) : Dev :=
  let d := { d with pow := { d.pow with holdupReady := false } }
  let d := selftest n 18 false d.pow.holdupCap d
  let d := d.raise Src.own Event.HOLDUP_LOW (leBytesInt 4 d.pow.vhold ++ leBytes 2 d.pow.holdupCap)
  if m = .ready ∨ m = .session ∨ m = .degraded ∨ always = true then d.safeStop m Cause.holdup Event.HOLDUP_LOW else d

/-- HOLDUP_DAILY_MEASUREMENT is due (R51): in Ready, no session, a day since the latest. -/
def dailyCapDue (s : State) : Bool :=
  s.clk.running && decide (s.clk.mode = .ready) && !s.dev.ses.isOpen &&
    decide (s.dev.pow.lastCapMeasure + dayFrames ≤ s.clk.frame)

/-- VHOLD and the latest capacitance make hold-up ready (R51). -/
def holdupGood (d : Dev) : Bool := decide (28000 ≤ d.pow.vhold) && decide (2000 ≤ d.pow.holdupCap)

/-- HOLDUP_DAILY_MEASUREMENT (R51): at least 2,000 µF, with VHOLD at 28 V, keeps hold-up ready. -/
def dailyCapEff (s : State) (cap : Nat) (d : Dev) : Dev :=
  let d := { d with pow := { d.pow with holdupCap := cap, lastCapMeasure := s.clk.frame } }
  if holdupGood d then selftest s.clk.frame 18 true 0 { d with pow := { d.pow with holdupReady := true } }
  else holdupLow s.clk.frame s.clk.mode false d

/-- Readiness of hold-up at a tick in MAINS (R51), while nothing recharges: lost when VHOLD falls below 28 V, found again
when it is back with the capacitance. -/
def holdupStep (c : Clk) (d : Dev) : Dev :=
  if d.pow.st ≠ .mains ∨ d.pow.starting ∨ d.pow.recharge.isSome then d
  else if d.pow.holdupReady && !holdupGood d then holdupLow c.frame c.mode false d
  else { d with pow := { d.pow with holdupReady := holdupGood d } }

/-- HOLDUP_DAILY_MEASUREMENT. -/
def execHoldupDailyMeasurement (capUf : Nat) (s : State) : Out :=
  devStep s (Dev.when (dailyCapDue s) (dailyCapEff s capUf))

/-- HOLDUP_RECHARGE_DONE (R51): VHOLD reached 28 V; ready if the latest capacitance is at least 2,000 µF. -/
def execHoldupRechargeDone (s : State) : Out :=
  devStep s fun d => d.when (d.pow.recharge.isSome && decide (28000 ≤ d.pow.vhold)) fun d =>
    { d with pow := { d.pow with recharge := none, holdupReady := holdupGood d } }

/-- HOLDUP_RECHARGE_TIMEOUT is due (R51): 24,000 frames of charging without 28 V. -/
def rechargeTimeoutDue (n : Nat) (d : Dev) : Bool :=
  match d.pow.recharge with
  | some f => decide (f + 24000 ≤ n) && decide (d.pow.vhold < 28000)
  | none => false

/-- HOLDUP_RECHARGE_TIMEOUT (R51). -/
def execHoldupRechargeTimeout (s : State) : Out :=
  devStep s fun d => d.when (rechargeTimeoutDue s.clk.frame d) fun d =>
    holdupLow s.clk.frame s.clk.mode d.pow.starting { d with pow := { d.pow with recharge := none } }

/-- Units shed in HOLD (R53): vehicle PLC, contactless field and ping, LCD, load switches, lock bridge, pulse
outputs; pulses that fall due are owed. -/
def shedUnits (n : Nat) (d : Dev) : Dev :=
  stageShed { d with
    pow := { d.pow with shed := true }
    veh := { d.veh with link := .none, slac := .idle, v2g := false }
    nfc := { d.nfc with cards := [] }
    metr := { d.metr with pulses := d.metr.pulses.map fun p => if p.level then { p with level := false, lastEnd := n } else p }
    disp := { d.disp with segments := List.replicate 48 0 } }

/-- The grid is present for a last gasp (R54): the RMS over 160 frames of at least one phase is at or above 80 % of
nominal. -/
def gridPresent (d : Dev) : Bool :=
  (List.range 3).any fun k => decide (8 * d.nat Param.NOMINAL_U ≤ 10 * rms160 d k)

/-- Hold-up is available at frame h (R475). -/
def holdAvailable (d : Dev) : Bool := decide (9000 ≤ d.pow.vhold)

/-- The last gasp goes to the host (R54). -/
def gaspToHost (d : Dev) : Bool :=
  decide (d.nat Param.LAST_GASP_ROUTE = 1) || !d.unitOn 1 || decide (d.gplc.st = 3) || !holdAvailable d ||
    !gridPresent d

/-- LAST_GASP (R54): queued to the grid link, or handed to the host. -/
def lastGasp (s : State) (d : Dev) : Dev :=
  let n := s.clk.frame
  if gaspToHost d then hostGasp n { d with gplc := { d.gplc with gasp := 0 } } else queueGasp n (s.regs.total 0 / 2 ^ 32) d

/-- HOLD_ENTERED is due (R50). -/
def holdDue (s : State) : Bool :=
  s.clk.running && decide (s.dev.pow.st = .mains) && decide (2 ≤ s.dev.pow.vsysLow)

/-- HOLD_ENTERED (R53, R54, R475): frame h. -/
def holdEff (s : State) (d : Dev) : Dev :=
  let n := s.clk.frame
  let d := safeOutputs n (shedUnits n (endSession s EndCause.supply d))
  let host := gaspToHost d
  let d := { d with pow := { d.pow with
    st := .hold, holdFrame := n, recharge := none, vsysGood := 0
    finalSeq := if holdAvailable d then none else some n } }
  let d := d.raise Src.own Event.HOLD_ENTERED (leBytesInt 4 d.pow.vhold ++ leBytes 1 (if host then 1 else 0))
  lastGasp s (if holdAvailable d then d else calicoImageWrite n true s (d.ckptDue 3))

/-- HOLD_ENTERED. -/
def execHoldEntered (s : State) : Out := devStep s (Dev.when (holdDue s) (holdEff s))

/-- FINAL_SEQUENCE is due (R55). -/
def finalDue (s : State) : Bool :=
  s.clk.running && decide (s.dev.pow.st = .hold) && s.dev.pow.finalSeq.isNone &&
    (decide (s.dev.pow.vhold < s.dev.nat Param.HOLDUP_FINAL_V) || gridLost s.dev)

/-- FINAL_SEQUENCE (R55): its first frame writes a checkpoint and the Calico image begins. -/
def finalEff (s : State) (d : Dev) : Dev :=
  let d := { d with pow := { d.pow with finalSeq := some s.clk.frame } }
  calicoImageWrite s.clk.frame true s (d.ckptDue 3)

/-- FINAL_SEQUENCE. -/
def execFinalSequence (s : State) : Out := devStep s (Dev.when (finalDue s) (finalEff s))

/-- HOLD_EXITED is due (R50, R56): VSYS valid for 10 ms before the final sequence. -/
def holdExitDue (d : Dev) : Bool :=
  decide (d.pow.st = .hold) && d.pow.finalSeq.isNone && decide (ms 10 ≤ d.pow.vsysGood)

/-- HOLD_EXITED (R51, R56): MAINS, shed units restored, VHOLD recharges. -/
def holdExitEff (n : Nat) (d : Dev) : Dev :=
  (stageRestore { d with pow := { d.pow with
      st := .mains, shed := false, modemShed := false, recharge := some n, holdupReady := false, vsysLow := 0 } }).raise
    Src.own Event.HOLD_EXITED []

/-- HOLD_EXITED. -/
def execHoldExited (s : State) : Out :=
  devStep s fun d => d.when (s.clk.running && holdExitDue d) (holdExitEff s.clk.frame)

/-- Frames stop (R55, R56, R59): the events of the last frame are logged, both lanes are out, the shadow is never released; `kind` is KIND of the gap (R195). -/
def stopFrames (kind : Nat) (s : State) : State :=
  let halt (l : Lane) (r : LaneRec) : LaneRec := { r with st := .reset, repair := none, wrote := laneWrites s.dev l }
  { s with
    clk := { s.clk with running := false }
    dev := stageShed <| logFrame s.clk.frame { holdFlags s.dev with
      lanes := { s.dev.lanes with
        token := none, grant := none, windowGate := none, dispute := none
        a := halt .a s.dev.lanes.a, b := halt .b s.dev.lanes.b }
      pow := { s.dev.pow with stopped := some kind }
      win := { s.dev.win with shadow := {} } } }

/-- The state entered when frames stop without supply (R50): DORMANT if the battery domain's supply switches find either
cell at or above 2.0 V at that moment (`cellHeld`), which no measurement of R392 decides. The pilot is at 0 V through its
pull-down (R62). -/
def dormantOrOff (cellHeld : Bool) (d : Dev) : Dev :=
  { d with
    pow := { d.pow with
      st := if cellHeld then .dormant else .off
      finalSeq := none, vsysLow := 0, vsysGood := 0 }
    veh := { d.veh with applied := .pullDown } }

/-- SUPPLY_COLLAPSE (R50, R56, R475): frames stop with no completed final sequence; a controller held in reset or
waiting for an image loses its supply as well. -/
def supplyCollapse (cellHeld : Bool) (s : State) : State :=
  let s := if s.clk.running then stopFrames 4 s else s
  s.onDev fun d => dormantOrOff cellHeld (safeOutputs s.clk.frame { d with upd := { d.upd with bootBad := false } })

/-- SUPPLY_COLLAPSE. -/
def execSupplyCollapse (cellHeld : Bool) (s : State) : Out :=
  .next (whenS (s.clk.running || decide (s.dev.pow.st = .mains)) (supplyCollapse cellHeld) s)

/-- In reset (R60, R62): the outputs stay safe, the pilot is at 0 V through its pull-down. -/
def holdInReset (d : Dev) : Dev :=
  { d with pow := { d.pow with inReset := true }, veh := { d.veh with applied := .pullDown } }

/-- RESET_REQUEST (R59): frame r ends any session, makes the outputs safe, commits, and is the last. -/
def resetEff (s : State) : State :=
  let s := s.onDev fun d =>
    let d := (safeOutputs s.clk.frame (endSession s EndCause.reset d)).ckptDue 3
    let d := d.raise Src.serge Event.RESET_REQUEST []
    { d with pow := { d.pow with resetCount := d.pow.resetCount + 1 } }
  (stopFrames 1 s).onDev holdInReset

/-- RESET_N while no frames run (R60): a start-up, or the wait for an image (R58), is held in reset; with VSYS present the
reset is counted, to enter RESET_N_COUNT at the next start-up (log entry 141). -/
def resetStill (d : Dev) : Dev :=
  let counts := decide (d.pow.st = .mains) && !d.pow.inReset
  let d := { d with
    pow := { d.pow with lateResets := d.pow.lateResets + (if counts then 1 else 0) }
    upd := { d.upd with bootBad := false } }
  holdInReset d

/-- RESET_REQUEST. -/
def execResetRequest (s : State) : Out := .next (if s.clk.running then resetEff s else s.onDev resetStill)

/-- RESET_RELEASE (R60): start-up may proceed from the SERGE self-compare. -/
def execResetRelease (s : State) : Out :=
  devStep s fun d => { d with pow := { d.pow with inReset := false } }

/-! SERVICE_N. -/

/-- SERVICE_N_RELEASE (R61): a press that the debouncing of 160 frames passes; under 2 s it steps the display; 5 to 10 s
opens the 60 s login window and is logged. -/
def serviceReleaseEff (n frames : Nat) (d : Dev) : Dev :=
  if frames < ms 20 then d
  else if frames < secs 2 then displayStep n d
  else if secs 5 ≤ frames ∧ frames ≤ secs 10 then
    ({ d with pow := { d.pow with loginWindow := some (n + 480000) } }).raise Src.own Event.SERVICE_LOGIN
      (List.replicate 16 0)
  else d

/-- SERVICE_N_RELEASE. During chatter the press is ignored, and the input must be stable for 100 ms from its release
on. -/
def execServiceNRelease (frames : Nat) (s : State) : Out :=
  devStep s fun d =>
    if d.pow.serviceStuck then { d with pow := { d.pow with serviceStuck := false } }
    else if s.clk.frame < d.pow.serviceIgnoreUntil then
      { d with pow := { d.pow with serviceIgnoreUntil := s.clk.frame + ms 100 } }
    else serviceReleaseEff s.clk.frame frames d

/-- SERVICE_N_STUCK (R61), the press held for a number of frames: more than 30 s. -/
def execServiceNStuck (frames : Nat) (s : State) : Out :=
  devStep s fun d => d.when (!d.pow.serviceStuck && decide (secs 30 < frames)) fun d =>
    ({ d with pow := { d.pow with serviceStuck := true } }).raise Src.own Event.SERVICE_N_STUCK []

/-- SERVICE_N_CHATTER (R61), a number of edges within 100 ms: with more than 20, ignored until stable for 100 ms. -/
def execServiceNChatter (edges : Nat) (s : State) : Out :=
  devStep s fun d => d.when (decide (20 < edges)) fun d =>
    { d with pow := { d.pow with serviceIgnoreUntil := s.clk.frame + ms 100 } }

/-- LOGIN_WINDOW_EXPIRY is due (R48). -/
def windowDue (n : Nat) (d : Dev) : Bool :=
  match d.pow.loginWindow with
  | some w => decide (w ≤ n)
  | none => false

/-- LOGIN_WINDOW_EXPIRY (R48). -/
def execLoginWindowExpiry (s : State) : Out :=
  devStep s fun d => d.when (windowDue s.clk.frame d) fun d => { d with pow := { d.pow with loginWindow := none } }

/-! The end of a login. -/

/-- A pending set is discarded, logged when it was not empty (R114, R123). -/
def discardSet (o : Owner) (cause : Nat) (d : Dev) : Dev :=
  let p := match o with
    | .host => d.acs.hostSet
    | .headEnd k => (assoc d.acs.assocSets k).getD {}
  let d' := match o with
    | .host => { d with acs := { d.acs with hostSet := { p with entries := [] } } }
    | .headEnd k => { d with acs := { d.acs with assocSets := insertId d.acs.assocSets k { p with entries := [] } } }
  if p.entries.isEmpty then d
  else d'.raise Src.own Event.PENDING_DISCARDED
    (leBytes 1 (ownerCode o) ++ leBytes 4 p.ids.length ++ leBytes 1 cause)

/-- Every pending set is discarded (R114): cause 0 mode change, 1 logout, 2 start-up. -/
def discardAll (cause : Nat) (d : Dev) : Dev :=
  d.acs.assocSets.foldl (fun d p => discardSet (.headEnd p.1) cause d) (discardSet .host cause d)

/-- An open login ends, logged with its identity (R46, R48, R66). -/
def loginEnds (d : Dev) : Dev :=
  match d.pow.login with
  | some l => ({ d with pow := { d.pow with login := none } }).raise Src.own Event.SERVICE_LOGIN (slice l.identity 0 16)
  | none => d

/-- The row of R43 a logout from Service takes. -/
def logoutTarget (d : Dev) : Mode × ReqKind :=
  if d.keys.identity ≠ 1 then (.quarantine, .toQuarantine)
  else if !d.pow.commissioned ∨ d.pow.reopened ∨ d.saf.confirmSt ≠ 2 ∨ d.acs.sealPending then (.commissioning, .other)
  else if d.pow.causes ≠ 0 then (.safeStop, .toSafeStop) else (.ready, .other)

/-- A service login ends (R43, R48, R51, R462): hold-up is checked first, then the mode that follows is decided; pending
sets are discarded and the test parameters revert. In Factory the mode stays. -/
def logout (c : Clk) (d : Dev) : Dev :=
  if d.pow.login.isNone then d
  else
    let d := revertTests c.frame 2 (discardAll 1 (loginEnds d))
    if c.mode = .service then
      let d := if d.pow.holdupReady then d else holdupLow c.frame c.mode true d
      d.reqMode (logoutTarget d).1 (logoutTarget d).2 (causeEvent Event.SERVICE_LOGIN)
    else d

/-- SERVICE_TIMEOUT is due (R48). -/
def serviceTimeoutDue (n : Nat) (d : Dev) : Bool :=
  match d.pow.login with
  | some l => decide (l.lastAccepted + secs (d.nat Param.SERVICE_TIMEOUT) ≤ n)
  | none => false

/-- SERVICE_TIMEOUT (R48). -/
def execServiceTimeout (s : State) : Out :=
  devStep s fun d => d.when (serviceTimeoutDue s.clk.frame d) (logout s.clk)

/-! The application of a transition. -/

/-- What every mode change does (R46, R114): test parameters revert, a login ends when Service is left, pending sets
are discarded, MODE_CHANGED is logged with its interrupt bit. -/
def modeChangeEff (n : Nat) (old new : Mode) (cause : Nat) (d : Dev) : Dev :=
  let d := revertTests n 1 d
  let d := if old = .service then loginEnds d else d
  let d := discardAll 0 { d with pow := { d.pow with modeReqs := [] } }
  (d.raise Src.own Event.MODE_CHANGED
    (leBytes 1 old.code ++ leBytes 1 new.code ++ leBytes 4 cause ++ leBytes 8 n)).irq 0b100000#9

/-- The triggers of a frame once it has ended (R43, R44): the end of a session leads to Safe-stop where any cause is set by
then, after the triggers to Safe-stop that have an event of their own. -/
def settleReqs (causes : Word) (rs : List ModeReq) : List ModeReq :=
  if causes = 0 then rs
  else
    let ends := rs.filter fun r => decide (r.kind = .sessionEnded)
    rs.filter (fun r => decide (r.kind ≠ .sessionEnded)) ++
      ends.map fun r => { r with target := .safeStop, kind := .toSafeStop }

/-- At a tick the transition decided in the frame before takes effect (R44, R45); none leads to Factory (R41).
`s.clk.frame` is already the new frame. -/
def applyMode (s : State) : State :=
  match bestReq (settleReqs s.dev.pow.causes s.dev.pow.modeReqs) with
  | none => s
  | some r =>
    if r.target = s.clk.mode ∨ r.target = .factory then s.onDev fun d => { d with pow := { d.pow with modeReqs := [] } }
    else
      { s with
        clk := { s.clk with mode := r.target, modePrev := s.clk.mode, modeCause := r.cause }
        dev := modeChangeEff s.clk.frame s.clk.mode r.target r.cause s.dev }

/-- A cause set where Ready has come into force is evaluated again (R44). -/
def readyCause (c : Clk) (d : Dev) : Dev :=
  if c.mode = .ready ∧ d.pow.causes ≠ 0 ∧ d.pow.modeReqs.isEmpty then
    d.reqMode .safeStop .toSafeStop (causeEvent d.pow.causeEv) else d

/-- VSYS and VHOLD at the tick (R50). -/
def supplyStep (f : FrameIn) (d : Dev) : Dev :=
  { d with pow := { d.pow with
      vsys := f.vsys, vhold := f.vhold
      vsysLow := if f.vsys < 8500 then min 2 (d.pow.vsysLow + 1) else 0
      vsysGood := if 9000 ≤ f.vsys then d.pow.vsysGood + 1 else 0 } }

end Sys2Proof.Machine
end

