-- ==== Sys2Proof/Machine/Keys.lean ====
section
/-!
DEFINITION. The battery domain, the key vault, identity, tamper and erasure (R391 to R419), and the signing of records
(R199).
-/

namespace Sys2Proof.Machine

/-! Slots and derivation (R395 to R398). -/

/-- ALG of a slot (R397). -/
def slotAlg (k : Nat) : Nat :=
  nth 0 [0x21, 0x20, 0x10, 0x30, 0x30, 0x01, 0x01, 0x01, 0x10, 0x10, 0x40, 0x40, 0x40, 0x10, 0x11, 0x12] k

/-- DEST of a slot (R397). -/
def slotDest (k : Nat) : Nat := nth 0 [3, 3, 2, 4, 4, 1, 1, 1, 2, 2, 5, 5, 6, 2, 2, 2] k

/-- The assigned KIND of a slot (R397). -/
def slotKind (k : Nat) : Nat := nth 0 [1, 1, 1, 3, 3, 3, 3, 3, 1, 1, 3, 3, 2, 1, 1, 1] k

/-- LEN of a slot's material: PK.root of an SLH-DSA key, the key of KIND 2 and 3 (R395). -/
def slotLen (k : Nat) : Nat := nth 0 [32, 16, 0, 32, 32, 16, 16, 16, 0, 0, 16, 16, 16, 0, 0, 0] k

/-- The derivation label of a slot (R397). -/
def slotLabel (k : Nat) : List Byte :=
  match k with
  | 0 => asciiPad 15 "KM7720 identity"
  | 1 => asciiPad 14 "KM7720 records"
  | 2 => asciiPad 15 "KM7720 recovery"
  | 8 => asciiPad 16 "KM7720 dlms-sign"
  | 9 => asciiPad 14 "KM7720 dlms-ka"
  | 13 => asciiPad 13 "KM7720 secc-2"
  | 14 => asciiPad 19 "KM7720 secc-20-p521"
  | 15 => asciiPad 20 "KM7720 secc-20-ed448"
  | _ => []

/-- Output length L of a slot's derivation in bytes (R398). -/
def slotKdfLen (k : Nat) : Nat :=
  match slotAlg k with
  | 0x21 => 96
  | 0x20 => 48
  | 0x10 => 40
  | 0x11 => 74
  | _ => 57

/-- The derived private key of a slot (R398); none without a root. -/
def derivedKey (d : Dev) (k gen : Nat) : List Byte :=
  match d.keys.root with
  | some r => Config.kdf r (slotLabel k ++ [0] ++ slice Config.serialNumber 0 16 ++ leBytes 4 d.keys.vault.rootGen ++
      leBytes 4 gen) (slotKdfLen k)
  | none => []

/-- A slot. -/
def keySlot (d : Dev) (k : Nat) : KeySlot := nth {} d.keys.slots k

/-- The public key of a derived slot. -/
def slotPublic (d : Dev) (k : Nat) : List Byte := Config.publicKey (slotAlg k) (derivedKey d k (keySlot d k).generation)

/-- A signature by a derived slot. -/
def slotSign (d : Dev) (k : Nat) (msg : List Byte) : List Byte :=
  Config.sign (slotAlg k) (derivedKey d k (keySlot d k).generation) msg

/-- Eight digest bytes in the order of the digest, of which the first is the most significant of the number that holds them
(R469). -/
def digestBytes (x : BitVec 64) : List Byte := (leBytes 8 x.toNat).reverse

/-- The first eight bytes of SHAKE256 of a message, in their order. -/
def digest8 (msg : List Byte) : List Byte := digestBytes (Config.shake256x8 msg)

/-- The descriptor of a slot (R395). -/
def slotDescriptor (d : Dev) (k : Nat) : Nat :=
  let s := keySlot d k
  if s.kind = 0 then 0 else s.kind + slotDest k * 4 + slotAlg k * 256 + slotLen k * 65536

/-- KEY_SLOTS (R416): 32 entries of descriptor, generation and fingerprint, a byte string in digest order (R469). -/
def keySlotsBytes (d : Dev) : List Byte :=
  (List.range 32).flatMap fun k =>
    leBytes 4 (slotDescriptor d k) ++ leBytes 4 (keySlot d k).generation ++ digestBytes (keySlot d k).fingerprint

/-- KEY_DERIVED (R419). -/
def logDerived (src k result : Nat) (d : Dev) : Dev :=
  let s := keySlot d k
  d.raise src Event.KEY_DERIVED (leBytes 1 k ++ leBytes 1 s.kind ++ leBytes 4 s.generation ++
    digestBytes s.fingerprint ++ leBytes 1 result)

/-- Change a slot. -/
def setSlot (k : Nat) (x : KeySlot) (d : Dev) : Dev := { d with keys := { d.keys with slots := d.keys.slots.set k x } }

/-- The record-key statement and its signature, an entry of RECORD_KEY_CERTS (R402). -/
def recordCertEntry (n : Nat) (d : Dev) : List Byte :=
  let body := slice (asciiPad 4 "RKEY" ++ slice Config.serialNumber 0 16 ++ leBytes 4 d.keys.vault.rootGen ++
    leBytes 4 (keySlot d 1).generation ++ leBytes 4 d.keys.recordKeyId ++ leBytes 4 (d.led.recordNumber + 1) ++
    leBytes 8 n ++ slice (slotPublic d 1) 0 32 ++ digestBytes (keySlot d 0).fingerprint) 0 96
  body ++ slice (slotSign d 0 body) 0 29792

/-- Slot 1 is certified with the identity key (R402). -/
def certifyRecords (n : Nat) (d : Dev) : Dev :=
  if d.keys.identity = 1 ∧ (keySlot d 1).kind ≠ 0 then
    { d with keys := { d.keys with
        recordCert := true, recordCerts := (recordCertEntry n d :: d.keys.recordCerts).take 8 } }
  else { d with keys := { d.keys with recordCert := false } }

/-- A derived slot is written at a generation (R395, R398, R399): slots 13 to 15 lose their certificates and write a
request; a new key in slot 1 sets RECORD_KEY_ID. -/
def writeDerived (k gen : Nat) (d : Dev) : Dev :=
  let d := setSlot k ⟨1, gen, 0, []⟩ d
  let pub := slotPublic d k
  let root := if k = 0 then slice pub 32 32 else if k = 1 then slice pub 16 16 else []
  let d := setSlot k ⟨1, gen, Config.shake256x8 pub, root⟩ d
  if k = 1 then { d with keys := { d.keys with recordKeyId := leNat ((digest8 pub).take 4) } }
  else if 13 ≤ k then
    let csr := slice (Config.csr (slotAlg k) (derivedKey d k gen) (asciiPad 7 "KM7720-" ++ Config.serialNumber)) 0 1024
    let d := { d with keys := { d.keys with csrs := d.keys.csrs.set (k - 13) csr } }
    d.setBlk Param.SECC_CERTS (splice (d.blk Param.SECC_CERTS) (4096 * (k - 13)) (List.replicate 4096 0))
  else d

/-- A new identity or recovery key makes the identity erased, to be enrolled again (R399); before the first enrolment it
stays not enrolled (R401). -/
def identityErased (d : Dev) : Dev :=
  { d with keys := { d.keys with identity := if d.keys.cert.isSome then 3 else 0 } }

/-- ENROL_REQUEST (R411). -/
def enrolRequest (d : Dev) : List Byte :=
  slice (asciiPad 4 "EREQ" ++ leBytes 2 1 ++ [0, 0] ++ slice Config.serialNumber 0 16 ++ leBytes 4 d.keys.vault.rootGen ++
    leBytes 4 d.keys.vault.eraseCount ++ slice (slotPublic d 0) 0 64 ++ slice (slotPublic d 2) 0 64 ++
    leBytes 4 d.tar.rtc ++ leBytes 4 d.keys.vault.enrolSeq) 0 192

/-- The MRAM copies take the vault's counters (R414). -/
def storeCounters (d : Dev) : Dev := { d with keys := { d.keys with copyA := d.keys.vault, copyB := d.keys.vault } }

/-- The KEY_DERIVE job that a slot completes (R399). -/
def deriveJob (k : Nat) (d : Dev) : Option Job :=
  d.acs.jobs.find? fun j => j.live && decide (j.kind = .derive) && decide (j.owner ≠ 0) && decide (j.arg % 256 = k)

/-- The source position of an owner code (R23). -/
def ownerSrc (o : Nat) : Nat := if o = 1 then Src.host else if o = 2 then Src.grid else Src.serge

/-- The job of R409 has derived slots 0 and 2: ENROL_REQUEST is built and the job ends. -/
def rootJobStep (d : Dev) : Dev :=
  match d.keys.rootJob with
  | some id =>
    if (keySlot d 0).kind ≠ 0 ∧ (keySlot d 2).kind ≠ 0 then
      endJob id 3 0 { d with keys := { d.keys with rootJob := none, request := enrolRequest d } }
    else d
  | none => d

/-- KEY_DERIVED (R399, R409): the job of KEY_DERIVE writes its slot; or the job of R409 writes slot 0 or 2. -/
def keyDerivedEff (n k : Nat) (d : Dev) : Dev :=
  match deriveJob k d with
  | some j =>
    let d := writeDerived k (j.arg / 256) d
    let d := if k = 0 ∨ k = 2 then
        let e := identityErased d
        { e with keys := { e.keys with request := enrolRequest e } }
      else if k = 1 then certifyRecords n d else d
    endJob j.id 3 0 (logDerived (ownerSrc j.owner) k 0 d)
  | none =>
    if d.keys.rootJob.isSome ∧ (k = 0 ∨ k = 2) ∧ (keySlot d k).kind = 0 then
      rootJobStep (logDerived Src.serge k 0 (identityErased (writeDerived k 1 d)))
    else d

/-- KEY_DERIVED. -/
def execKeyDerived (slot : Nat) (s : State) : Out := devStep s (Dev.when s.clk.running (keyDerivedEff s.clk.frame slot))

/-- An imported key takes effect (R400): all zeros empties the slot. -/
def importKey (src k : Nat) (key : List Byte) (d : Dev) : Dev :=
  let gen := (keySlot d k).generation
  let x : KeySlot := if key.all (· = 0) then ⟨0, gen, 0, []⟩ else ⟨3, gen, Config.keyCheck key, key⟩
  let d := logDerived src k 0 (setSlot k x d)
  if k = 10 then leavePan d
  else if k = 5 then { d with dlms := { d.dlms with lastIc := none } } else d

/-- KEY_TRANSFER (R400): the DLMS keys wrapped under the KEK, by a management association. -/
def keyTransferEff (k : Nat) (wrapped : List Byte) (d : Dev) : Dev :=
  let key := Config.unwrap (keySlot d 7).material wrapped
  if key.length = 16 then importKey Src.grid k key d else d

/-- KEY_TRANSFER. -/
def execKeyTransfer (slot : Nat) (wrapped : List Byte) (s : State) : Out :=
  protoStep s (Dev.when (s.clk.running && decide (5 ≤ slot ∧ slot ≤ 7) && decide ((keySlot s.dev 7).kind ≠ 0) &&
    s.dev.dlms.assocs.any Assoc.mgmt) (keyTransferEff slot wrapped))

/-! Nonce and attestation. -/

/-- A new LOGIN_NONCE is drawn (R404). -/
def drawNonce (n : Nat) (d : Dev) : Dev :=
  { d with keys := { d.keys with
      nonce := leBytes 16 (Config.trng d.keys.draws 16).toNat, draws := d.keys.draws + 1, nonceFrame := n } }

/-- LOGIN_NONCE_REFRESH (R404): every 10 min. -/
def execLoginNonceRefresh (s : State) : Out :=
  devStep s (Dev.when (s.clk.running && decide (s.dev.keys.nonceFrame + secs 600 ≤ s.clk.frame)) (drawNonce s.clk.frame))

/-- The attestation job: a signing job that names no record (R403). -/
def attestJob (d : Dev) : Option Job :=
  d.acs.jobs.find? fun j => j.live && decide (j.kind = .signing) && decide (j.arg = 0)

/-- ATTESTED (R403): the statement and its signature are readable. -/
def attestedEff (d : Dev) : Dev :=
  match attestJob d with
  | some j =>
    let d := { d with keys := { d.keys with attest := d.keys.statement ++ slice (slotSign d 0 d.keys.statement) 0 29792 } }
    endJob j.id 3 0 (d.raise (ownerSrc j.owner) Event.ATTESTED (leBytes 2 j.id ++ leBytes 1 j.owner))
  | none => d

/-- ATTESTED. -/
def execAttested (s : State) : Out := devStep s (Dev.when (cryptoUp s.dev) attestedEff)

/-! Records (R199). -/

/-- The oldest pending record. -/
def pendingRecord (d : Dev) : Option Record := d.led.records.find? fun r => decide (r.signState = 1)

/-- RECORD_SIGNED (R199): the signature over bytes 0x000 to 0x3BF is stored, SIGN_STATE becomes 2, and the frame stands at
0x3E8 (R197). -/
def recordSignedEff (n : Nat) (d : Dev) : Dev :=
  match pendingRecord d with
  | some r =>
    let sig := slice (slotSign d 1 (slice r.body 0 0x3C0)) 0 7856
    let done (b : List Byte) : List Byte := splice (splice b 0x3E0 [2]) 0x3E8 (leBytes 8 n)
    let d := onRecord r.number (fun x => { x with signState := 2, signature := sig, body := done x.body }) d
    let d := d.raise Src.own Event.RECORD_SIGNED (leBytes 4 r.number ++ leBytes 4 (n - r.endFrame))
    match d.acs.jobs.find? (fun j => j.live && decide (j.kind = .signing) && decide (j.arg = r.number)) with
    | some j => endJob j.id 3 0 d
    | none => d
  | none => d

/-- RECORD_SIGNED. -/
def execRecordSigned (s : State) : Out :=
  devStep s (Dev.when (s.clk.running && cryptoUp s.dev && decide ((keySlot s.dev 1).kind ≠ 0))
    (recordSignedEff s.clk.frame))

/-- A pending record becomes unsigned (R199). -/
def markUnsigned (r : Record) (d : Dev) : Dev :=
  let d := onRecord r.number (fun x => { x with
    signState := 3
    body := splice (splice x.body 0x3E0 [3]) 0x00E (leBytes 2 (fieldAt x.body 0x00E 2 % 256 + 256 +
      fieldAt x.body 0x00E 2 / 512 * 512)) }) d
  ({ d with led := { d.led with recordsUnsigned := d.led.recordsUnsigned + 1 } }).raise Src.own Event.RECORD_UNSIGNED
    (leBytes 4 r.number)

/-! Cells (R392). -/

/-- A cell of the battery domain. -/
def Keys.cell (x : Keys) (c : Nat) : Cell := if c = 1 then x.cell1 else x.cell2

/-- Change a cell. -/
def onCell (c : Nat) (f : Cell → Cell) (d : Dev) : Dev :=
  { d with keys := if c = 1 then { d.keys with cell1 := f d.keys.cell1 } else { d.keys with cell2 := f d.keys.cell2 } }

/-- A measurement of a cell is judged (R392): low, failed, both failed; the seconds above either threshold. -/
def cellEff (c mv : Nat) (load : Bool) (d : Dev) : Dev :=
  let old := d.keys.cell c
  let thr := d.nat Param.VBAT_LOW_THR
  let d := onCell c (fun x => { x with
    mv := if load then x.mv else mv
    low := x.low || decide (mv < thr), failed := x.failed || decide (mv < 2000)
    aboveLow := if thr + 100 ≤ mv then x.aboveLow + (if load then 0 else 1) else 0
    aboveFail := if 2100 ≤ mv then x.aboveFail + (if load then 0 else 1) else 0 }) d
  let d := if mv < thr ∧ ¬old.low then
      d.raise Src.serge Event.BACKUP_CELL_LOW (leBytes 1 c ++ leBytesInt 4 mv ++ leBytes 1 0) else d
  let d := if mv < 2000 ∧ ¬old.failed then d.raise Src.serge Event.BACKUP_CELL_FAILED (leBytes 1 c) else d
  if d.keys.cell1.failed ∧ d.keys.cell2.failed ∧ ¬d.keys.lost then
    ({ d with keys := { d.keys with lost := true } }).raise Src.serge Event.BACKUP_LOST []
  else d

/-- Cells are measured in MAINS (R392). -/
def cellDue (s : State) (c : Nat) : Bool := s.clk.running && decide (s.dev.pow.st = .mains) && decide (c = 1 ∨ c = 2)

/-- CELL_MEASUREMENT. -/
def execCellMeasurement (cell mv : Nat) (s : State) : Out := devStep s (Dev.when (cellDue s cell) (cellEff cell mv false))

/-- CELL_LOAD_TEST. -/
def execCellLoadTest (cell mv : Nat) (s : State) : Out := devStep s (Dev.when (cellDue s cell) (cellEff cell mv true))

/-- CELL_RESTORED (R392): 100 mV above its threshold for 60 s, logged as the restoration. -/
def cellRestore (c : Nat) (d : Dev) : Dev :=
  let x := d.keys.cell c
  let low := x.low && decide (60 ≤ x.aboveLow)
  let failed := x.failed && decide (60 ≤ x.aboveFail)
  if low || failed then
    let d := onCell c (fun x => { x with low := x.low && !low, failed := x.failed && !failed }) d
    ({ d with keys := { d.keys with lost := d.keys.cell1.failed && d.keys.cell2.failed } }).raise Src.serge
      Event.BACKUP_CELL_LOW (leBytes 1 c ++ leBytesInt 4 x.mv ++ leBytes 1 1)
  else d

/-- CELL_RESTORED. -/
def execCellRestored (cell : Nat) (s : State) : Out := devStep s (Dev.when (cellDue s cell) (cellRestore cell))

/-! Tamper and erasure (R405 to R410). -/

/-- ERASE_COUNT is raised in the vault (R408, R414). -/
def countErasure (d : Dev) : Dev :=
  { d with keys := { d.keys with vault := { d.keys.vault with eraseCount := d.keys.vault.eraseCount + 1 } } }

/-- KEYZ (R408): the key region is cleared, ERASED set. -/
def keyz (n src : Nat) (d : Dev) : Dev :=
  { d with keys := { d.keys with
      root := none, slots := List.replicate 16 {}, recordCert := false, erased := true
      erasePending := some (src, n) } }

/-- CLASS of a source (R417). -/
def tamperClass (d : Dev) (src : Nat) : Nat := d.nat Param.TAMPER_CFG / 4 ^ (src - 1) % 4

/-- The power state as the ring records it (R407). -/
def tamperPower (d : Dev) : Nat :=
  match d.pow.st with
  | .mains => 0
  | .hold => 1
  | _ => 2

/-- A detection (R406, R407): entered in the ring, latched for class 2 and 3, KEYZ for class 3. -/
def tamperDetect (n src cls : Nat) (d : Dev) : Dev :=
  if cls = 0 then d
  else
    let r : TamperRec := ⟨d.tar.rtc, d.tar.sub, src, cls, tamperPower d, decide (cls = 3)⟩
    let d := { d with keys := { d.keys with
      ring := lastN 16 (d.keys.ring ++ [r]), undrained := min 16 (d.keys.undrained + 1)
      tamperCount := d.keys.tamperCount + 1
      latched := if 2 ≤ cls then d.keys.latched ||| (1#8 <<< (src - 1)) else d.keys.latched } }
    if cls = 3 then countErasure (keyz n src d) else d

/-- TAMPER_DETECTED (R405, R406): a source becomes active while the battery domain has supply. -/
def tamperActive (n src : Nat) (d : Dev) : Dev :=
  if 1 ≤ src ∧ src ≤ 8 ∧ d.keys.supplied ∧ ¬d.keys.active.getLsbD (src - 1) then
    tamperDetect n src (tamperClass d src) { d with keys := { d.keys with active := d.keys.active ||| (1#8 <<< (src - 1)) } }
  else d

/-- TAMPER_DETECTED. -/
def execTamperDetected (src : Nat) (s : State) : Out := devStep s (tamperActive s.clk.frame src)

/-- TAMPER_SOURCE_INACTIVE (R406). -/
def execTamperSourceInactive (src : Nat) (s : State) : Out :=
  devStep s (Dev.when (decide (1 ≤ src ∧ src ≤ 8)) fun d =>
    { d with keys := { d.keys with active := d.keys.active &&& ~~~ (1#8 <<< (src - 1)) } })

/-- A commit raised classes: active sources are detected again (R406). -/
def tamperRaised (n old : Nat) (d : Dev) : Dev :=
  (List.range 8).foldl (fun d k =>
    let cls := tamperClass d (k + 1)
    if d.keys.active.getLsbD k && decide (old / 4 ^ k % 4 < cls) then tamperDetect n (k + 1) cls d else d) d

/-- The lead drains the ring into the general log (R407). -/
def drainRing (d : Dev) : Dev :=
  let fresh := lastN d.keys.undrained d.keys.ring
  fresh.foldl (fun d r => d.raise Src.serge Event.TAMPER_DETECTED
      (leBytes 1 r.source ++ leBytes 1 r.cls ++ leBytes 1 r.power ++ leBytes 4 r.rtc ++ leBytes 2 r.sub))
    { d with keys := { d.keys with undrained := 0 } }

/-- The jobs that an erasure ends (R409, R415, R433): attestation, derivation, enrolment, record signing, and the
verification of a host object. -/
def endKeyJobs (d : Dev) : Dev :=
  let host := decide (d.upd.st = 3) && decide (d.upd.source = 2)
  let d : Dev := { d with acs := { d.acs with
    jobsWait := d.acs.jobsWait.filter fun (j : Job) => decide (j.kind ≠ .signing ∧ j.kind ≠ .derive) } }
  let d' := (d.acs.jobs.filter fun j => j.live && (decide (j.kind = .signing ∨ j.kind = .derive) ||
      (host && decide (j.kind = .verify)))).foldl (fun d j => endJob j.id 4 0x12 d) d
  if host then { d' with upd := { d'.upd with st := 7, result := 0x12 } } else d'

/-- In Factory before the first enrolment an erasure leaves the mode (R393, R401). -/
def unenrolled (s : State) : Bool := decide (s.clk.mode = .factory) && s.dev.keys.cert.isNone

/-- KEYS_ERASED (R409): the frame after the erasure. One for want of supply raises ERASE_COUNT here, where R414 has
restored it (DEDUCED, log entry 165). -/
def erasedEff (s : State) (src : Nat) (d : Dev) : Dev :=
  let n := s.clk.frame
  let d := endSession s EndCause.erased (d.when (decide (src = 9)) countErasure)
  let d := (d.led.records.filter fun r => decide (r.signState = 1)).foldl (fun d r => markUnsigned r d) d
  let d := endKeyJobs (requestOpen n d)
  let d := storeCounters { d with
    pow := { d.pow with reopened := true }
    keys := { d.keys with
      erasePending := none, rootPending := true, rootJob := none, checking := false
      enrolSt := if d.keys.checking then 4 else d.keys.enrolSt
      identity := if d.keys.cert.isSome then 2 else 0 } }
  let d := d.raise Src.serge Event.KEYS_ERASED (leBytes 1 src ++ leBytes 4 d.keys.vault.eraseCount)
  if s.clk.mode = .factory ∨ s.clk.mode = .quarantine then d
  else d.reqMode .quarantine .toQuarantine (causeEvent Event.KEYS_ERASED)

/-- KEYS_ERASED is due: frames run, and the erasure was in an earlier frame. -/
def erasedDue (s : State) : Option Nat :=
  match s.dev.keys.erasePending with
  | some (src, k) => if s.clk.running && decide (k < s.clk.frame) then some src else none
  | none => none

/-- KEYS_ERASED. -/
def execKeysErased (s : State) : Out :=
  devStep s fun d => match erasedDue s with
    | some src => erasedEff s src d
    | none => d

/-- ROOT_GENERATED is due (R393, R409): in Quarantine, or in Factory before the first enrolment. -/
def rootDue (s : State) : Bool :=
  s.clk.running && s.dev.keys.rootPending && (decide (s.clk.mode = .quarantine) || unenrolled s)

/-- ROOT_GENERATED (R409): a new root from the generator, ROOT_GEN raised, the derivation job begins; the grid modem,
whose keys are gone, leaves the PAN. -/
def rootEff (d : Dev) : Dev :=
  let id := d.acs.nextJob
  let d := { d with keys := { d.keys with
    root := some (Config.trng d.keys.draws 32), draws := d.keys.draws + 1, rootPending := false, rootJob := some id
    request := [], vault := { d.keys.vault with rootGen := d.keys.vault.rootGen + 1 } } }
  let d := storeCounters d
  startJob .derive 0 0 ((leavePan d).raise Src.serge Event.ROOT_GENERATED (leBytes 4 d.keys.vault.rootGen))

/-- ROOT_GENERATED. -/
def execRootGenerated (s : State) : Out := devStep s (Dev.when (rootDue s) rootEff)

/-- TAMPER_STATE (R418). -/
def tamperState (d : Dev) : Nat :=
  d.keys.active.toNat + 256 * d.keys.latched.toNat + (if d.keys.erased then 65536 else 0) +
    (if 2000 ≤ d.keys.cell1.mv then 131072 else 0) + (if 2000 ≤ d.keys.cell2.mv then 262144 else 0)

/-! Supply of the battery domain (R391, R393). -/

/-- The battery domain powers up from no supply (R393): the vault reads as erased, its counters are lost, the RTC restarts
at 0, and the next start-up treats it as an erasure with source 9. -/
def batteryUp (n : Nat) (d : Dev) : Dev :=
  let d := keyz n 9 { d with keys := { d.keys with supplied := true, vault := {} } }
  let d := if d.tar.status = 2 then d
    else d.raise Src.metr Event.CLOCK_STATUS_CHANGED (leBytes 1 d.tar.status ++ leBytes 1 2 ++ leBytes 1 0)
  { d with tar := { d.tar with rtc := 0, sub := 0, status := 2, nextStatus := none, load := none } }

/-- BATTERY_DOMAIN_POWER_UP. -/
def execBatteryDomainPowerUp (s : State) : Out :=
  devStep s (Dev.when (!s.dev.keys.supplied) (batteryUp s.clk.frame))

/-- The battery domain loses supply (R393): VSYS absent, no cell at or above 2.0 V. -/
def supplyLostDue (s : State) : Bool :=
  !s.clk.running && s.dev.keys.supplied && decide (s.dev.pow.st = .dormant ∨ s.dev.pow.st = .off)

/-- BATTERY_DOMAIN_SUPPLY_LOST (R393): the vault, the ring and the RTC count are lost. -/
def execBatteryDomainSupplyLost (s : State) : Out :=
  devStep s (Dev.when (supplyLostDue s) fun d =>
    { d with
      keys := { d.keys with
        supplied := false, root := none, slots := List.replicate 16 {}, vault := {}, ring := [], undrained := 0
        active := 0, recordCert := false, cell1 := { d.keys.cell1 with mv := 0 }
        cell2 := { d.keys.cell2 with mv := 0 } }
      pow := { d.pow with st := .off }
      tar := { d.tar with rtc := 0, sub := 0 } })

/-! The token (R412, R413). -/

/-- The fields of a token. -/
def tokenSeq (t : List Byte) : Nat := fieldAt t 0x0A8 4
/-- Root index. -/
def tokenRoot (t : List Byte) : Nat := fieldAt t 6 1
/-- Flags. -/
def tokenFlags (t : List Byte) : Nat := fieldAt t 7 1

/-- The first check of R413 that a token fails, with its result: 1 form, 2 root, 3 request, 4 sequence, 5 time,
6 signature. -/
def tokenFault (d : Dev) (t : List Byte) : Option (Nat × Nat) :=
  let r := d.keys.request
  if t.length ≠ 29984 ∨ slice t 0 4 ≠ asciiPad 4 "ENRL" ∨ fieldAt t 4 2 ≠ 1 ∨ 1 < tokenRoot t ∨ 3 < tokenFlags t ∨
      (slice t 0x0AC 20).any (· ≠ 0) then some (1, 0x20)
  else if tokenRoot t < d.keys.vault.rootMin then some (2, 0x12)
  else if slice t 8 16 ≠ slice r 8 16 ∨ slice t 0x018 8 ≠ slice r 24 8 ∨ slice t 0x020 64 ≠ slice r 32 64 ∨
      slice t 0x060 64 ≠ slice r 96 64 then some (3, 0x21)
  else if tokenSeq t ≤ d.keys.vault.enrolSeq then some (4, 0x20)
  else if d.tar.status ≠ 2 ∧ ¬(fieldAt t 0x0A0 4 ≤ d.tar.rtc ∧ d.tar.rtc ≤ fieldAt t 0x0A4 4) then some (5, 0x20)
  else if !Config.signatureOk (Config.vendorRoot (tokenRoot t)) (slice t 0 0x0C0) (slice t 0x0C0 29792) then some (6, 0x21)
  else none

/-- Derive every empty derived slot at GENERATION 1 (R413). -/
def deriveEmpty (d : Dev) : Dev :=
  (List.range 16).foldl (fun d k =>
    if slotKind k = 1 ∧ (keySlot d k).kind = 0 then logDerived Src.serge k 0 (writeDerived k 1 d) else d) d

/-- The mode that follows an accepted token (R43, R413): from Quarantine to Commissioning when commissioning was never
completed, or reopened, or the token says so; else to Ready with no cause set. -/
def tokenMode (m : Mode) (t : List Byte) (d : Dev) : Option Mode :=
  if m ≠ .quarantine then none
  else if !d.pow.commissioned ∨ d.pow.reopened ∨ (tokenFlags t).testBit 0 then some .commissioning
  else if d.pow.causes = 0 then some .ready else none

/-- A token passes (R413). -/
def acceptToken (s : State) (t : List Byte) (d : Dev) : Dev :=
  let v := { d.keys.vault with
    enrolSeq := tokenSeq t
    rootMin := if (tokenFlags t).testBit 1 ∧ tokenRoot t = 1 then 1 else d.keys.vault.rootMin }
  let d := storeCounters { d with
    keys := { d.keys with
      cert := some t, identity := 1, erased := false, vault := v, enrolSt := 3, enrolResult := 0, checking := false }
    pow := { d.pow with reopened := d.pow.reopened || (tokenFlags t).testBit 0 } }
  let d := certifyRecords s.clk.frame (deriveEmpty d)
  let next := tokenMode s.clk.mode t d
  let d := d.raise Src.serge Event.ENROLLED
    (leBytes 4 (tokenSeq t) ++ leBytes 1 (tokenRoot t) ++ leBytes 1 (next.getD s.clk.mode).code)
  match next with
  | some m => d.reqMode m .other (causeEvent Event.ENROLLED)
  | none => d

/-- A token is refused (R413). -/
def refuseToken (check result : Nat) (d : Dev) : Dev :=
  ({ d with keys := { d.keys with enrolSt := 4, enrolResult := result, checking := false } }).raise Src.serge
    Event.ENROL_REFUSED (leBytes 1 check ++ leBytes 1 result)

/-- The job that checks a token: a controller-owned job of kind 7 other than that of R409. -/
def tokenJob (d : Dev) : Option Job :=
  d.acs.jobs.find? fun j => j.live && decide (j.kind = .derive) && decide (j.owner = 0) && decide (d.keys.rootJob ≠ some j.id)

/-- End the job that checks the token. -/
def endTokenJob (result : Nat) (d : Dev) : Dev :=
  match tokenJob d with
  | some j => endJob j.id (if result = 0 then 3 else 4) result d
  | none => d

/-- ENROLLED (R413): the check of a token received whole ends. -/
def enrolledEff (s : State) (d : Dev) : Dev :=
  match tokenFault d d.keys.token with
  | some f => endTokenJob f.2 (refuseToken f.1 f.2 d)
  | none => endTokenJob 0 (acceptToken s d.keys.token d)

/-- ENROLLED. -/
def execEnrolled (s : State) : Out :=
  devStep s (Dev.when (s.clk.running && s.dev.keys.checking) (enrolledEff s))

/-- A received token is checked by a job (R413). -/
def startTokenCheck (t : List Byte) (d : Dev) : Dev :=
  startJob .derive 0 1 { d with keys := { d.keys with token := t, enrolSt := 2, checking := true } }

/-! Start-up. -/

/-- The larger of two sets of counters, each by itself. -/
def SecCounters.max (a b : SecCounters) : SecCounters :=
  { manifest := Nat.max a.manifest b.manifest
    rollback := (List.range 5).map fun k => Nat.max (nth 0 a.rollback k) (nth 0 b.rollback k)
    rootGen := Nat.max a.rootGen b.rootGen, eraseCount := Nat.max a.eraseCount b.eraseCount
    rootMin := Nat.max a.rootMin b.rootMin, enrolSeq := Nat.max a.enrolSeq b.enrolSeq }

/-- The five anti-rollback counters. -/
def slice5 (l : List Nat) : List Nat := (List.range 5).map fun k => nth 0 l k

/-- The ten counters in the order of R414. -/
def SecCounters.list (c : SecCounters) : List Nat :=
  c.manifest :: slice5 c.rollback ++ [c.rootGen, c.eraseCount, c.rootMin, c.enrolSeq]

/-- Reconciliation of the counters at start-up (R414); each that differed is logged with its copies. -/
def reconcileCounters (vaultOk aOk bOk : Bool) (d : Dev) : Dev :=
  let pick (ok : Bool) (c : SecCounters) : SecCounters := if ok then c else {}
  let m := ((pick vaultOk d.keys.vault).max (pick aOk d.keys.copyA)).max (pick bOk d.keys.copyB)
  let mask (k : Nat) : Nat :=
    let off (c : SecCounters) : Bool := decide (nth 0 c.list k ≠ nth 0 m.list k)
    (if off d.keys.vault then 1 else 0) + (if off d.keys.copyA then 2 else 0) + (if off d.keys.copyB then 4 else 0)
  (List.range 10).foldl (fun e k =>
      if mask k = 0 then e else e.raise Src.serge Event.ROLLBACK_REPAIRED (leBytes 1 k ++ leBytes 1 (mask k)))
    { d with keys := { d.keys with vault := m, copyA := m, copyB := m } }

/-- A slot whose integrity tag fails at start-up is treated as empty, and logged (R395). -/
def dropSlots (bad : BitVec 16) (d : Dev) : Dev :=
  let d := { d with keys := { d.keys with recordCert := d.keys.recordCert && !bad.getLsbD 1 } }
  (List.range 16).foldl (fun d k =>
    if bad.getLsbD k && decide ((keySlot d k).kind ≠ 0) then logDerived Src.serge k Res.checkMismatch (setSlot k {} d)
    else d) d

/-- The first check of R401 that the certificate fails: 1 signature or keys, 2 root index, 3 serial. -/
def certFault (ok : Bool) (d : Dev) : Option Nat :=
  match d.keys.cert with
  | none => none
  | some t =>
    if !ok ∨ (keySlot d 0).kind = 0 ∨ (keySlot d 2).kind = 0 then some 1
    else if tokenRoot t < d.keys.vault.rootMin then some 2
    else if slice t 8 16 ≠ slice Config.serialNumber 0 16 then some 3 else none

/-- The identity check of a start-up (R401): a failure makes the identity invalid and asks for Quarantine. -/
def identityCheck (m : Mode) (ok : Bool) (d : Dev) : Dev :=
  match certFault ok d with
  | none => if d.keys.cert.isSome then { d with keys := { d.keys with identity := 1 } } else d
  | some k =>
    let d := { d with keys := { d.keys with identity := 2 } }
    let d := d.raise Src.serge Event.IDENTITY_INVALID (leBytes 1 k)
    if m = .quarantine then d else d.reqMode .quarantine .toQuarantine (causeEvent Event.IDENTITY_INVALID)

end Sys2Proof.Machine
end

