-- ==== Sys2Proof/Machine/Update.lean ====
section
/-!
DEFINITION. Firmware update (chapter 15) and the image transfer of DLMS (R361): staging, verification, activation,
revert, boot recovery.
-/

namespace Sys2Proof.Machine

/-! Manifests (R421 to R423). -/

/-- Size of a manifest with its signature. -/
def manifestSize : Nat := 30304

/-- MANIFEST_COUNTER of a manifest. -/
def manifestCounter (m : List Byte) : Nat := fieldAt m 0x008 4

/-- INTERFACE of a manifest. -/
def manifestInterface (m : List Byte) : Nat := fieldAt m 0x00E 2

/-- The part entries that a manifest lists. -/
def manifestEntries (m : List Byte) : List (List Byte) :=
  (List.range (min 5 (fieldAt m 0x006 1))).map fun k => slice m (0x040 + 84 * k) 84

/-- Code of a part entry. -/
def entryCode (e : List Byte) : Nat := fieldAt e 0 1
/-- Its anti-rollback counter. -/
def entryRollback (e : List Byte) : Nat := fieldAt e 8 4
/-- Its length. -/
def entryLength (e : List Byte) : Nat := fieldAt e 12 4
/-- FRAME_LEN. -/
def entryFrameLen (e : List Byte) : Nat := fieldAt e 16 4
/-- The digest of the whole part. -/
def entryDigest (e : List Byte) : List Byte := slice e 20 32
/-- FRAME_DIGEST. -/
def entryFrameDigest (e : List Byte) : List Byte := slice e 52 32

/-- The largest length of a part (R422). -/
def partLimit (code : Nat) : Nat :=
  nth 0 [0, 4194304, 524288, 1048576, 1572864, 524288] code

/-- Codes in ascending order, which makes them distinct. -/
def ascending : List Nat → Bool
  | a :: b :: r => decide (a < b) && ascending (b :: r)
  | _ => true

/-- Bytes that are all 0. -/
def allZero (bs : List Byte) : Bool := bs.all (decide <| · = 0)

/-- A part entry is good in form (R422). -/
def entryForm (m e : List Byte) : Bool :=
  decide (1 ≤ entryCode e ∧ entryCode e ≤ 5) && decide (fieldAt e 1 1 = 0) &&
    decide (fieldAt e 2 2 = manifestInterface m) && decide (entryLength e ≤ partLimit (entryCode e)) &&
    (if entryCode e = 1 then decide (entryFrameLen e ≤ entryLength e) else
      decide (entryFrameLen e = 0) && allZero (entryFrameDigest e))

/-- A manifest is good in form (R421). -/
def manifestForm (m : List Byte) : Bool :=
  let es := manifestEntries m
  decide (fieldAt m 0 4 = 0x53464E4D) && decide (fieldAt m 4 2 = 1) &&
    decide (1 ≤ fieldAt m 6 1 ∧ fieldAt m 6 1 ≤ 5) && decide (fieldAt m 7 1 < 2) &&
    decide (fieldAt m 0x00C 1 < 2) && decide (fieldAt m 0x00D 1 = 0) && allZero (slice m 0x03C 4) &&
    allZero (slice m 0x1E4 28) && ascending (es.map entryCode) && es.all (entryForm m) &&
    (List.range 5).all fun k => decide (k < es.length) || allZero (slice m (0x040 + 84 * k) 84)

/-- The parts of a file behind its manifest, cut by the lengths that the manifest lists (R423). -/
def cutParts : List (List Byte) → List Byte → List (List Byte × List Byte)
  | [], _ => []
  | e :: es, bs => (e, bs.take (entryLength e)) :: cutParts es (bs.drop (entryLength e))

/-- The sum of the part lengths. -/
def partsTotal (m : List Byte) : Nat := (manifestEntries m).foldl (fun n e => n + entryLength e) 0

/-- The bytes of a digest of 32 bytes. -/
def entryDigestBytes (bs : List Byte) : List Byte := leBytes 32 (Config.shake256x32 bs).toNat

/-- A part's data has the digests of its entry (R422). -/
def partDigests (x : List Byte × List Byte) : Bool :=
  decide (entryDigestBytes x.2 = entryDigest x.1) &&
    (decide (entryCode x.1 ≠ 1) || decide (entryDigestBytes (x.2.take (entryFrameLen x.1)) = entryFrameDigest x.1))

/-- Set the image set of a number. -/
def setImageSet (k : Nat) (m : Manifest) (d : Dev) : Dev :=
  { d with upd := if k = 0 then { d.upd with set0 := some m } else { d.upd with set1 := some m } }

/-- The number of the inactive set. -/
def inactiveSet (d : Dev) : Nat := 1 - d.upd.activeSet

/-! Staging (R424, R425). -/

/-- IMAGE_DISCARDED (R435): cause 0 replaced through the host, 1 by a DLMS initiate (log entry 11). -/
def discardImage (src cause : Nat) (d : Dev) : Dev :=
  let held := d.dlms.image.isSome || !d.upd.staged.isEmpty
  let d := { d with
    dlms := { d.dlms with image := none, blocks := [] }
    upd := { d.upd with staged := [], stagedLen := 0, source := 0 } }
  if held then d.raise src Event.IMAGE_DISCARDED (leBytes 1 cause) else d

/-- All data of an object has been received (R424, R435). -/
def imageStaged (src : Nat) (d : Dev) : Dev :=
  ({ d with upd := { d.upd with st := 2 } }).raise src Event.IMAGE_STAGED
    (leBytes 1 d.upd.source ++ leBytes 4 d.upd.stagedLen)

/-- A staging of the same part and length is open and was interrupted (R424). -/
def resumes (part length : Nat) (d : Dev) : Bool :=
  decide (d.upd.st = 1) && decide (d.upd.source = 2) && decide (d.upd.part = part) && decide (d.upd.stagedLen = length)

/-- A part that IMAGE_STAGE may name (R424): a whole file, or one that the staged manifest lists. -/
def partNamed (part : Nat) (d : Dev) : Bool :=
  decide (part = 0) || (manifestForm d.upd.manifest && decide (d.upd.manifest.length = manifestSize) &&
    (manifestEntries d.upd.manifest).any fun e => decide (entryCode e = part))

/-- IMAGE_STAGE opens or resumes a staging (R424): a job of kind 2 owns the bulk window. -/
def stageImage (own part length : Nat) (d : Dev) : Dev :=
  let d := if resumes part length d then d
    else
      let d := discardImage Src.host 0 d
      { d with upd := { d.upd with st := 1, source := 2, part := part, stagedLen := length, staged := [], chunks := 0 } }
  let id := d.acs.nextJob
  let next := d.upd.chunks
  let d := openBulk .image id length [] false (startJob .staging own part d)
  { d with acs := { d.acs with bulk := d.acs.bulk.map fun b => { b with next := next } } }

/-- A chunk of an image arrives (R98, R424): the whole object ends the job. -/
def stageChunk (data : List Byte) (d : Dev) : Dev :=
  let d := { d with upd := { d.upd with staged := d.upd.staged ++ data, chunks := d.upd.chunks + 1 } }
  if d.upd.stagedLen ≤ d.upd.staged.length then
    let d := imageStaged Src.host d
    match jobOf .staging d with
    | some j => endJob j.id 3 0 d
    | none => d
  else d

/-! Verification (R426). -/

/-- Result codes that the checks give (R107, R426). -/
abbrev Chk.badParam : Nat := 0x20
/-- NOT_PERMITTED. -/
abbrev Chk.notPermitted : Nat := 0x12
/-- CHECK_MISMATCH. -/
abbrev Chk.mismatch : Nat := 0x21

/-- A container's form, serial and ROOT_GEN are good (R425). -/
def containerForm (d : Dev) (c : List Byte) : Bool :=
  decide (fieldAt c 0 4 = 0x59564352) && decide (fieldAt c 4 2 = 1) && decide (fieldAt c 6 1 = d.upd.part) &&
    decide (fieldAt c 7 1 = 0) && decide (slice c 8 16 = slice Config.serialNumber 0 16) &&
    decide (fieldAt c 0x18 4 = d.keys.vault.rootGen) && decide (fieldAt c 0x1C 4 + 0x80 = c.length)

/-- The plaintext of a container, with the recovery key of slot 2 (R425); none when it does not open. -/
def containerOpen (d : Dev) (c : List Byte) : Option (List Byte) :=
  if (keySlot d 2).kind = 0 then none
  else Config.recoveryOpen (derivedKey d 2 (keySlot d 2).generation) c

/-- A staged object as verification sees it: its manifest, the data of the parts that it brings, and its form. -/
structure StagedImage where
  manifest : List Byte
  parts : List (List Byte × List Byte)
  form : Bool
  deriving DecidableEq, Repr

/-- The staged object's plaintext as a manifest with parts (R423, R424): a whole file, or one part of the manifest
staged before. -/
def imageOf (d : Dev) (part : Nat) (plain : List Byte) : StagedImage :=
  if part = 0 then
    let m := plain.take manifestSize
    ⟨m, cutParts (manifestEntries m) (plain.drop manifestSize),
      manifestForm m && decide (plain.length = manifestSize + partsTotal m)⟩
  else
    let m := d.upd.manifest
    let es := (manifestEntries m).filter fun e => decide (entryCode e = part)
    ⟨m, es.map fun e => (e, plain), partNamed part d && es.all fun e => decide (entryLength e = plain.length)⟩

/-- A failed check of R426: its number in the table's order, the part, the result. -/
structure Reject where
  check : Nat
  part : Nat
  result : Nat
  deriving DecidableEq, Repr

/-- A METR that differs from the active one must be approved (R426). -/
def metrApproved (d : Dev) (m : List Byte) : Bool :=
  match partIn m 2 with
  | some e =>
    decide (entryDigest e = entryDigest (nth [] (activeSet d).parts 1)) ||
      (decide (fieldAt m 7 1 % 2 = 1) && !allZero (slice m 0x02C 16))
  | none => true

/-- SILICON_ISSUE within the range, and R423 for unlisted parts. -/
def siliconOk (d : Dev) (m : List Byte) : Bool :=
  decide (fieldAt m 0x010 2 ≤ Config.siliconIssue.toNat ∧ Config.siliconIssue.toNat ≤ fieldAt m 0x012 2) &&
    (decide ((manifestEntries m).length = 5) || decide (manifestInterface (activeSet d).bytes = manifestInterface m))

/-- The checks of the manifest and its parts, in the table's order (R426). -/
def imageFault (d : Dev) (readOk : Bool) (x : StagedImage) : Option Reject :=
  let m := x.manifest
  let old := (manifestEntries m).find? fun e => decide (entryRollback e < nth 0 d.keys.vault.rollback (entryCode e - 1))
  let bad := x.parts.find? fun p => !partDigests p
  if !x.form then some ⟨3, 0, Chk.badParam⟩
  else if fieldAt m 0x00C 1 < d.keys.vault.rootMin then some ⟨4, 0, Chk.notPermitted⟩
  else if !Config.signatureOk (Config.vendorRoot (fieldAt m 0x00C 1)) (slice m 0 manifestSigned)
      (slice m manifestSigned 29792) then some ⟨5, 0, Chk.mismatch⟩
  else if manifestCounter m ≤ d.keys.vault.manifest then some ⟨6, 0, Chk.badParam⟩
  else if !siliconOk d m then some ⟨7, 0, Chk.badParam⟩
  else if old.isSome then some ⟨8, (old.map entryCode).getD 0, Chk.badParam⟩
  else if !metrApproved d m then some ⟨9, 2, Chk.notPermitted⟩
  else if bad.isSome ∨ !readOk then some ⟨10, (bad.map fun p => entryCode p.1).getD 0, Chk.mismatch⟩
  else none

/-- The mask of the parts that a manifest lists. -/
def partsMask (m : List Byte) : Nat := (manifestEntries m).foldl (fun n e => n + 2 ^ (entryCode e - 1)) 0

/-- A verification fails (R426). -/
def imageRejected (src : Nat) (r : Reject) (d : Dev) : Dev :=
  ({ d with upd := { d.upd with st := 7, result := r.result } }).raise src Event.IMAGE_REJECTED
    (leBytes 1 r.check ++ leBytes 1 r.part ++ leBytes 1 r.result)

/-- The verification of an opened object (R426): writing the inactive set voids what it held. -/
def verifyImage (src : Nat) (readOk : Bool) (x : StagedImage) (d : Dev) : Dev × Nat :=
  let d := if x.form then { d with upd := { d.upd with manifest := x.manifest } } else d
  let fault := imageFault d readOk x
  let d := if (fault.map Reject.check).getD 10 = 10 then
      setImageSet (inactiveSet d) ⟨x.manifest, partsOver x.manifest (activeSet d).parts⟩ d
    else d
  match fault with
  | some r => (imageRejected src r d, r.result)
  | none =>
    (({ d with upd := { d.upd with
        st := 4, result := 0, trialSet := if d.upd.bootRecovery then some (inactiveSet d) else d.upd.trialSet } }).raise src
      Event.IMAGE_VERIFIED (leBytes 4 (manifestCounter x.manifest) ++ leBytes 4 (partsMask x.manifest)), 0)

/-- The verification of the staged object (R425, R426): a host object is a container. -/
def verifyStaged (src : Nat) (readOk : Bool) (d : Dev) : Dev × Nat :=
  let obj := d.upd.staged
  if d.upd.source = 2 then
    if !containerForm d obj then (imageRejected src ⟨1, 0, Chk.badParam⟩ d, Chk.badParam)
    else match containerOpen d obj with
      | none => (imageRejected src ⟨2, 0, Chk.mismatch⟩ d, Chk.mismatch)
      | some plain => verifyImage src readOk (imageOf d d.upd.part plain) d
  else verifyImage src readOk (imageOf d 0 obj) d

/-- The job of IMAGE_VERIFY. -/
def verifyJob (d : Dev) : Option Job :=
  d.acs.jobs.find? fun j => decide (j.kind = .verify) && j.live && decide (j.owner ≠ 0)

/-- IMAGE_VERIFIED (R426): the verification job ends; `readOk` is the read-back of the flash. -/
def imageVerifiedEff (readOk : Bool) (d : Dev) : Dev :=
  match verifyJob d with
  | none => d
  | some j =>
    let r := verifyStaged (ownerSrc j.owner) readOk d
    if r.2 = 0 then endJob j.id 3 0 r.1 else endJob j.id 4 r.2 r.1

/-- IMAGE_VERIFIED. -/
def execImageVerified (readOk : Bool) (s : State) : Out :=
  devStep s (Dev.when (s.clk.running || s.dev.upd.bootRecovery) (imageVerifiedEff readOk))

/-! Activation (R427 to R431). -/

/-- The parts in which two sets differ, by code. -/
def changedParts (a b : Manifest) : List Nat :=
  [1, 2, 3, 4, 5].filter fun c => decide (entryDigest (nth [] a.parts (c - 1)) ≠ entryDigest (nth [] b.parts (c - 1)))

/-- A lane is restarted through the repair steps of R32. -/
def restartLane (l : Lane) (d : Dev) : Dev :=
  d.onLane l fun r => { r with st := .reset, repair := some .selfTest, clean := 0 }

/-- The first result that refuses IMAGE_ACTIVATE (R427), in the table's order; none when it may start. -/
def activateFault (s : State) (arg : Nat) : Option Nat :=
  let d := s.dev
  let new := imageSet d (inactiveSet d)
  let verified := decide (d.upd.st = 4)
  let cell (c : Cell) := decide (d.nat Param.VBAT_LOW_THR ≤ c.mv)
  let other := verified && decide (manifestInterface new.bytes ≠ manifestInterface (activeSet d).bytes)
  if !d.pow.holdupReady || !(cell d.keys.cell1 || cell d.keys.cell2) then some 0x10
  else if other && !(decide (s.clk.mode = .service) && decide (d.veh.st = .a)) then some 0x10
  else if d.nat Param.UPDATE_OWNER_LOCK = 1 then some 0x11
  else if verified && (changedParts (activeSet d) new).contains 2 && decide (1022 < d.log.metr.length) then some 0x11
  else if !verified then some 0x20
  else if d.acs.jobs.any (fun j => j.live && decide (j.kind ≠ .scrub)) || !d.acs.jobsWait.isEmpty ||
      d.led.records.any (fun r => decide (r.signState = 1)) || d.upd.activation.isSome then some 0x02
  else if arg ≠ manifestCounter new.bytes then some 0x21 else none

/-- IMAGE_ACTIVATE starts the activation of the verified set (R427, R428, R431). -/
def startActivation (s : State) (src : Nat) (d : Dev) : Dev :=
  let n := s.clk.frame
  let target := inactiveSet d
  let new := imageSet d target
  let restart := decide (manifestInterface new.bytes ≠ manifestInterface (activeSet d).bytes)
  let follow := laneOther (d.lanes.acting.getD .a)
  let d := (d.acs.jobs.filter fun j => j.live && decide (j.kind = .scrub)).foldl (fun d j => endJob j.id 5 0 d) d
  let a : Activation := ⟨n, restart, manifestCounter new.bytes, target, follow, false, false, none, src⟩
  let d := { d with upd := { d.upd with
    st := 5, activation := some a, restartDue := restart
    trialSet := if restart then some target else d.upd.trialSet } }
  let d := d.raise src Event.ACTIVATION_STARTED (leBytes 4 a.counter ++ leBytes 1 (if restart then 1 else 0))
  if restart || decide ((d.lanes.get follow).st = LaneSt.failed) then d else restartLane follow d

/-- METR_ACTIVATED (R430, R435) where METR differs between the set the lead ran and the one it runs now. -/
def metrActivated (src : Nat) (old new : Manifest) (d : Dev) : Dev :=
  let check (m : Manifest) := (slice (nth [] m.parts 1) 20 8).reverse
  if (changedParts old new).contains 2 then
    d.raiseMetr src Event.METR_ACTIVATED (check old ++ check new ++ slice new.bytes 0x02C 16)
  else d

/-- The changed shared units load their parts and are reset (R428): the grid modem, the vehicle modem, the reader. -/
def loadUnits (n : Nat) (parts : List Nat) (d : Dev) : Dev :=
  let d := if parts.contains 3 then modemReset n d else d
  let d := if parts.contains 4 then
      { d with veh := { d.veh with link := .none, slac := .idle, v2g := false, sdp := none, proto := none } }
    else d
  if parts.contains 5 then { d with nfc := { d.nfc with cards := [], baseline := [], wtxTotal := 0, slotN := 1 } } else d

/-- SERGE moves the token to a lane in TRIAL (R428): TAKEOVER with cause 1, update (log entry 12); the old lead is
restarted. -/
def trialToken (n : Nat) (l : Lane) (d : Dev) : Dev :=
  let d := { d with lanes := { d.lanes with
    token := some l, grant := none, settle := true, takeovers := d.lanes.takeovers + 1 } }
  let d := restartLane (laneOther l) (d.onLane l fun r => { r with st := .lead, repair := none, clean := 0 })
  (d.sergeRaise n Event.TAKEOVER (leBytes 1 (laneCode l) ++ leBytes 8 n ++ leBytes 1 1)).irq 0b10000#9

/-- An activation ends as reverted (R429): its state, its count and its alarm. -/
def revertDone (cause : Nat) (d : Dev) : Dev :=
  ({ d with upd := { d.upd with
      st := 6, result := 0, activation := none, trialSet := none, reverts := d.upd.reverts + 1 } }).raise Src.host
    Event.UPDATE_REVERTED (leBytes 1 cause)

/-- The lane in TRIAL has done its 800 frames. -/
def trialDone (l : Lane) (d : Dev) : Bool := decide ((d.lanes.get l).st = .trial) && decide (800 ≤ (d.lanes.get l).clean)

/-- SERGE may hand the token over: it is healthy, and the requests of both lanes agree (R28). -/
def handoverFree (d : Dev) : Bool := !d.lanes.sergeFault && d.lanes.dispute.isNone

/-- ACTIVATION_HANDOVER (R428 to R430): the token goes to the trial lane; in a revert back to a lane on the active set,
which ends it. -/
def handoverEff (n : Nat) (a : Activation) (d : Dev) : Dev :=
  let old := activeSet d
  let new := imageSet d a.target
  let parts := changedParts old new
  match a.revert with
  | none =>
    if !a.handed && trialDone a.lane d && handoverFree d then
      metrActivated a.src old new (loadUnits n parts
        { trialToken n a.lane d with upd := { d.upd with activation := some { a with handed := true } } })
    else d
  | some cause =>
    if trialDone (laneOther a.lane) d && handoverFree d then
      revertDone cause (metrActivated a.src new old (loadUnits n parts (trialToken n (laneOther a.lane) d)))
    else d

/-- ACTIVATION_HANDOVER. -/
def execActivationHandover (s : State) : Out :=
  devStep s fun d =>
    match d.upd.activation with
    | some a => if s.clk.running && !a.byRestart then handoverEff s.clk.frame a d else d
    | none => d

/-- A lane leads or follows. -/
def laneServes (r : LaneRec) : Bool := decide (r.st = .lead ∨ r.st = .follow)

/-- UPDATE_ACTIVATED is due (R428, R431): the commit frame. -/
def commitDue (s : State) (a : Activation) : Bool :=
  s.clk.running && a.handed && a.revert.isNone && !a.failed && laneServes s.dev.lanes.a && laneServes s.dev.lanes.b &&
    decide (s.clk.frame ≤ a.since + 480000)

/-- UPDATE_ACTIVATED (R428): ACTIVE_SET, MANIFEST_COUNTER and the anti-rollback counters, in all three copies. -/
def activatedEff (n : Nat) (a : Activation) (d : Dev) : Dev :=
  let new := imageSet d a.target
  let parts := changedParts (activeSet d) new
  let roll := (List.range 5).map fun k => max (nth 0 d.keys.vault.rollback k) (entryRollback (nth [] new.parts k))
  let mask := parts.foldl (fun n c => n + 2 ^ (c - 1)) 0
  let d := storeCounters { d with
    keys := { d.keys with vault := { d.keys.vault with manifest := max d.keys.vault.manifest a.counter, rollback := roll } }
    upd := { d.upd with
      st := 0, result := 0, activeSet := a.target, activation := none, trialSet := none, staged := [], stagedLen := 0
      source := 0, manifest := [], activations := d.upd.activations + 1 } }
  (nameplateWrite d).raise a.src Event.UPDATE_ACTIVATED (leBytes 4 a.counter ++ leBytes 4 mask ++ leBytes 4 (n - a.since))

/-- UPDATE_ACTIVATED. -/
def execUpdateActivated (s : State) : Out :=
  devStep s fun d =>
    match d.upd.activation with
    | some a => if commitDue s a then activatedEff s.clk.frame a d else d
    | none => d

/-- Codes of the causes of UPDATE_REVERTED (log entry 11). -/
def revertCode : RevertCause → Nat
  | .deadline => 0 | .stepFailed => 1 | .stopBefore => 2

/-- A revert is due for a cause (R429): 480,000 frames without the commit frame, a failed restart step, or a stop, which
a start-up marks. -/
def revertDue (s : State) (a : Activation) : RevertCause → Bool
  | .deadline => s.clk.running && a.revert.isNone && decide (a.since + 480000 < s.clk.frame)
  | .stepFailed => s.clk.running && a.revert.isNone && a.failed
  | .stopBefore => s.clk.running && a.byRestart && decide (a.revert = some 2)

/-- UPDATE_REVERTED (R429, R431): the lanes on the new set are restarted on the active one. Where that takes a hand-over
or a restart of both lanes, the revert ends with it. -/
def revertEff (cause : Nat) (a : Activation) (d : Dev) : Dev :=
  if a.byRestart then
    if cause = 2 then revertDone cause d
    else { d with upd := { d.upd with activation := some { a with revert := some cause }, restartDue := true } }
  else if a.handed then
    restartLane (laneOther a.lane) { d with upd := { d.upd with activation := some { a with revert := some cause } } }
  else
    let d := if (d.lanes.get a.lane).repair.isSome then restartLane a.lane d else d
    revertDone cause d

/-- UPDATE_REVERTED. -/
def execUpdateReverted (c : RevertCause) (s : State) : Out :=
  devStep s fun d =>
    match d.upd.activation with
    | some a => if revertDue s a c then revertEff (revertCode c) a d else d
    | none => d

/-- BOOT_RECOVERY (R432): the boot ROM of Lane A serves the recovery subset. -/
def execBootRecovery (s : State) : Out :=
  devStep s (Dev.when (!s.clk.running && s.dev.upd.bootBad) fun d => { d with upd := { d.upd with bootRecovery := true } })

/-- A trial set boots at frame m (R431): its METR becomes that of the leading lane (R430). -/
def bootTrial (m target : Nat) (d : Dev) : Dev :=
  let src := (d.upd.activation.map Activation.src).getD Src.host
  let a : Activation := ⟨m, true, manifestCounter (imageSet d target).bytes, target, .a, true, false, none, src⟩
  metrActivated src (activeSet d) (imageSet d target) { d with upd := { d.upd with
    st := 5, activation := some a, trialSet := none, restartDue := false } }

/-- The active set boots with an activation open (R429, R431): a revert that waited for this restart ends, and any other
activation is stopped before its commit. A METR that the lead ran changes back (R430). -/
def bootReverted (a : Activation) (d : Dev) : Dev :=
  let d := if a.handed then metrActivated a.src (imageSet d a.target) (activeSet d) d else d
  match a.revert with
  | some c =>
    if a.byRestart ∧ c ≠ 2 then revertDone c d
    else { d with upd := { d.upd with activation := some { a with byRestart := true, handed := false, revert := some 2 } } }
  | none => { d with upd := { d.upd with activation := some { a with byRestart := true, handed := false, revert := some 2 } } }

/-- What a start-up does to an activation (R429, R431): the trial set named by TRIAL_SET is read once, and boots; in
Factory a verified set boots; else the active set boots. -/
def startActivationState (m : Nat) (factory : Bool) (d : Dev) : Dev :=
  let d := { d with upd := { d.upd with restartDue := false } }
  match d.upd.trialSet with
  | some t => bootTrial m t d
  | none =>
    match d.upd.activation with
    | some a => bootReverted a d
    | none => if factory ∧ d.upd.st = 4 then bootTrial m (inactiveSet d) d else d

/-! DLMS image transfer (R361, R424). -/

/-- DLMS data-access results used by the rows of the image transfer (log entry 41). -/
abbrev Dar.success : Nat := 0
/-- temporary-failure. -/
abbrev Dar.temporaryFailure : Nat := 2
/-- read-write-denied. -/
abbrev Dar.readWriteDenied : Nat := 3
/-- object-undefined. -/
abbrev Dar.objectUndefined : Nat := 4
/-- type-unmatched. -/
abbrev Dar.typeUnmatched : Nat := 12
/-- other-reason. -/
abbrev Dar.otherReason : Nat := 250

/-- A DLMS result stands as the response. -/
def dar (r : Nat) (d : Dev) : Dev := { d with dlms := { d.dlms with response := leBytes 1 r } }

/-- A host staging is open (R424). -/
def hostStaging (d : Dev) : Bool := (jobOf .staging d).isSome

/-- IMAGE_TRANSFER_INITIATE (R361, R424). -/
def transferInitiate (ident : List Byte) (size : Nat) (d : Dev) : Dev :=
  if d.upd.activation.isSome || hostStaging d then dar Dar.temporaryFailure d
  else if 8388608 < size ∨ size = 0 ∨ ident ≠ asciiPad 6 "KM7720" then dar Dar.typeUnmatched d
  else if d.dlms.image = some (ident, size) then dar Dar.success d
  else
    let d := discardImage Src.grid 1 d
    let d := { d with
      dlms := { d.dlms with image := some (ident, size), blocks := [] }
      upd := { d.upd with st := 1, source := 1, part := 0, stagedLen := size } }
    dar Dar.success (d.raise Src.grid Event.IMAGE_TRANSFER_STARTED
      (leBytes 1 ident.length ++ ident ++ leBytes 4 size))

/-- A management association exists over a working link. -/
def managed (s : State) : Bool := s.clk.running && modemUp s.dev && s.dev.dlms.assocs.any Assoc.mgmt

/-- IMAGE_TRANSFER_INITIATE. -/
def execImageTransferInitiate (ident : List Byte) (size : Nat) (s : State) : Out :=
  protoStep s (Dev.when (managed s) (transferInitiate ident size))

/-- Blocks of a transfer. -/
def transferBlocks (size : Nat) (d : Dev) : Nat := (size + d.nat Param.IMAGE_BLOCK_SIZE - 1) / d.nat Param.IMAGE_BLOCK_SIZE

/-- IMAGE_BLOCK_TRANSFER (R361): a block is held after its read-back; one that arrives twice is written once; the last
completes the object. -/
def transferBlock (block : Nat) (data : List Byte) (readBack : Bool) (d : Dev) : Dev :=
  match d.dlms.image with
  | none => dar Dar.temporaryFailure d
  | some (_, size) =>
    let b := d.nat Param.IMAGE_BLOCK_SIZE
    let count := transferBlocks size d
    if d.upd.activation.isSome then dar Dar.temporaryFailure d
    else if count ≤ block ∨ data.length ≠ min b (size - b * block) then dar Dar.typeUnmatched d
    else if (assoc d.dlms.blocks block).isSome then dar Dar.success d
    else if !readBack then dar Dar.temporaryFailure d
    else
      let d := { d with dlms := { d.dlms with blocks := insertId d.dlms.blocks block data } }
      if d.dlms.blocks.length < count then dar Dar.success d
      else
        let d := { d with
          upd := { d.upd with staged := (d.dlms.blocks.map Prod.snd).flatten }
          dlms := { d.dlms with image := none, blocks := [] } }
        dar Dar.success ((imageStaged Src.grid d).raise Src.grid Event.IMAGE_TRANSFER_COMPLETE (leBytes 4 count))

/-- IMAGE_BLOCK_TRANSFER. -/
def execImageBlockTransfer (block : Nat) (data : List Byte) (readBack : Bool) (s : State) : Out :=
  protoStep s (Dev.when (managed s) (transferBlock block data readBack))

/-- STAGED_BYTES (R434). -/
def stagedBytes (d : Dev) : Nat :=
  if d.dlms.image.isSome then d.dlms.blocks.foldl (fun n x => n + x.2.length) 0 else d.upd.staged.length

end Sys2Proof.Machine
end

