-- ==== Sys2Proof/Machine/Hosting.lean ====
section
/-!
DEFINITION. What the loss and the return of the host do (R101, R262, R328), and the lead half of the stage exchange
(R259).
-/

namespace Sys2Proof.Machine

/-- The host is regained: the grace timer stops (R262). -/
def hostRegained (_n : Nat) (d : Dev) : Dev := { d with ses := { d.ses with grace := none } }

/-- The rules of a lost host: sessions (R262) and load-switch channels (R328). -/
def hostLostRules (n : Nat) (d : Dev) : Dev := stageHostLost (sessionHostLost n d)

/-- Bytes 0x004 to 0x05B of the lead half (R259). -/
def leadHalf (s : State) (d : Dev) : List Byte :=
  leBytes 4 0 ++ leBytes 8 s.clk.frame ++
    leBytes 1 d.ses.st ++ leBytes 1 (d.nat Param.OUTLET_KIND) ++ leBytes 1 (pilotCode d.veh.st) ++
    leBytes 1 (protoCode d.veh.proto) ++
    leBytes 1 d.dc.phase ++ leBytes 1 (if enablesOn d then 1 else 0) ++ leBytes 1 (if d.dc.discharge then 1 else 0) ++
    leBytes 1 d.dc.stopFlags ++
    leBytesInt 4 d.dc.targetV ++ leBytesInt 4 d.dc.targetI ++
    leBytes 4 d.ses.limitDc ++ leBytes 4 d.ses.limitP ++ leBytes 4 d.ses.limitDis ++ leBytes 4 d.ses.limitDisP ++
    leBytesInt 4 (udcMean d) ++ leBytesInt 4 (idcMean d) ++
    ([d.veh.evMaxV, d.veh.evMaxI, d.veh.evMaxP].flatMap fun x => leBytes 4 (if d.veh.evKnown then x else 0)) ++
    leBytes 1 d.veh.soc ++ leBytes 1 (if d.veh.powerOn then 1 else 0) ++ leBytes 2 0 ++
    leBytes 4 (d.saf.isoRes.getD 0xFFFFFFFF) ++ leBytes 1 d.ses.binding ++ [0, 0, 0] ++
    (List.range 3).flatMap fun k => leBytes 4 (nth 0 d.ses.limits k)

end Sys2Proof.Machine
end

