-- ==== Sys2Proof/Machine/Window.lean ====
section
/-!
DEFINITION. The host window (chapter 03): the two ports, the words with a behaviour of their own, the release of the
shadow, the event stream and the heartbeat.
-/

namespace Sys2Proof.Machine

/-- A host port's record. -/
def Win.port (w : Win) : Port → PortRec
  | .hspi => w.hspi
  | .huart => w.huart

/-- Change a host port's record. -/
def Dev.onPort (p : Port) (f : PortRec → PortRec) (d : Dev) : Dev :=
  match p with
  | .hspi => { d with win := { d.win with hspi := f d.win.hspi } }
  | .huart => { d with win := { d.win with huart := f d.win.huart } }

/-- The port's unit is enabled (R65). -/
def portOn (p : Port) (d : Dev) : Bool :=
  match p with
  | .hspi => d.unitOn 12
  | .huart => d.unitOn 13

/-- IRQ_N is asserted (R99). -/
def irqAsserted (s : State) : Bool :=
  s.clk.running && decide (s.dev.win.irqStatus &&& s.dev.win.irqEnable ≠ 0)

/-- PORT_STATUS (R103). -/
def portStatus (d : Dev) : Word :=
  (if d.win.hspi.failed || !d.unitOn 12 then 0 else 1) ||| (if d.win.huart.failed || !d.unitOn 13 then 0 else 2) |||
    (if d.win.hostPresent then 4 else 0)

/-- The HSPI status byte (R71). -/
def statusByte (s : State) : Byte :=
  let r := s.dev.win.hspi
  let b (c : Bool) (k : Nat) : Byte := if c then 1#8 <<< k else 0
  b (s.clk.running && s.dev.lanes.token.isSome) 0 ||| (BitVec.ofNat 8 (leadCode s.dev.lanes.token) <<< 1) |||
    b r.range 3 ||| b r.collision 4 ||| b r.crcErr 5 ||| b r.busy 6 ||| b (irqAsserted s) 7

/-! Reading. -/

/-- A slot's state word (R81). -/
def slotWord (x : Slot) : Word :=
  let c : Nat := match x.st with
    | .free => 0 | .filled => 1 | .taken => 2 | .done => 3
  BitVec.ofNat 32 (c + (if x.huart then 4 else 0) + x.seq % 65536 * 65536)

/-- A lane's word in the identity area (R74): its state, and the low bits of the frame it last completed. -/
def laneWord (r : LaneRec) : Word :=
  let c : Nat := match r.st with
    | .off => 0 | .reset => 1 | .boot => 2 | .load => 3 | .resync => 4 | .probation => 5
    | .follow => 6 | .lead => 7 | .failed => 8 | .trial => 5
  BitVec.ofNat 32 (c + r.completed % 2 ^ 28 * 16)

/-- The bulk state word (R98). -/
def bulkWord (d : Dev) : Nat :=
  match d.acs.bulk with
  | none => 0
  | some b => b.owner % 65536 + b.next % 65536 * 65536

/-- The identity and status area 0x00 to 0xFF as published (R74). -/
def statusArea (d : Dev) : List Byte :=
  let p := d.win.pub
  leBytes 4 0x37374D4B ++ leBytes 4 1 ++ leBytes 8 p.frame ++
    leBytes 1 p.mode.code ++ leBytes 1 (if p.hold then 1 else 0) ++ leBytes 1 p.lead ++ leBytes 1 p.clockStatus ++
    leBytes 4 p.causes.toNat ++ leBytes 4 p.rtc ++ leBytes 4 p.startCount ++ leBytes 4 p.newestSeq ++
    leBytes 2 (d.win.writeIndex % 256) ++ leBytes 2 d.win.eventLost ++ leBytes 4 p.portStatus.toNat ++ leBytes 4 0 ++
    leBytes 4 (laneWord d.lanes.a).toNat ++ leBytes 4 (laneWord d.lanes.b).toNat ++ leBytes 8 0 ++
    slice (identityBytes d) 0 64 ++ (if d.upd.bootRecovery then jobTable d else slice p.jobs 0 64) ++
    leBytes 4 (if d.win.snapHeld.getLsbD 0 then 1 else 0) ++ leBytes 4 (if d.win.snapHeld.getLsbD 1 then 1 else 0) ++
    leBytes 4 (if d.win.snapHeld.getLsbD 2 then 1 else 0) ++ leBytes 4 0 ++
    leBytes 4 (if d.upd.bootRecovery then bulkWord d else p.bulk) ++
    leBytes 4 (if d.upd.bootRecovery then 1 else 0)

/-- The word at a window address (R74), the alias bits removed. -/
def readWord (d : Dev) (a : Nat) : Word :=
  if a < 0x100 then BitVec.ofNat 32 (fieldAt (statusArea d) a 4)
  else if a = 0x100 then d.win.doorbell.setWidth 32
  else if a = 0x104 then d.win.doneWord.setWidth 32
  else if a = 0x108 then d.win.heartbeat
  else if a = 0x10C then BitVec.ofNat 32 (d.win.readIndex % 65536)
  else if 0x140 ≤ a ∧ a < 0x180 then slotWord (nth {} d.win.slots ((a - 0x140) / 4))
  else if a = 0x200 then d.win.irqStatus.setWidth 32
  else if a = 0x204 then d.win.irqEnable.setWidth 32
  else if a < 0x1000 then 0
  else BitVec.ofNat 32 (leNat (Mem.readBytes d.win.mem a 4))

/-- Words from an address on, as bytes. -/
def readWords (d : Dev) (a : Nat) (n : Nat) : List Byte :=
  (List.range n).flatMap fun k => leBytes 4 (readWord d (a + 4 * k)).toNat

/-! Writing. -/

/-- The bulk window carries data from the host (R473). -/
def bulkFromHost (d : Dev) : Bool :=
  match d.acs.bulk with
  | some b => !b.toHost
  | none => false

/-- Words that the host writes (R473); the interrupt status word and the slot state words not through an alias (R76). -/
def hostWritable (d : Dev) (kind a : Nat) : Bool :=
  if a = 0x100 ∨ a = 0x108 ∨ a = 0x10C ∨ a = 0x204 then true
  else if (0x140 ≤ a ∧ a < 0x180) ∨ a = 0x200 then decide (kind = 0)
  else if 0x1000 ≤ a ∧ a < 0x9000 then decide (a % 0x800 < 0x400)
  else if 0xE800 ≤ a ∧ a < 0xF000 then true
  else if 0xF000 ≤ a ∧ a < 0x10000 then bulkFromHost d
  else false

/-- A slot state write is counted as a protocol error (R82). -/
def slotError (k : Nat) (d : Dev) : Dev :=
  ({ d with win := { d.win with protocolErrors := d.win.protocolErrors + 1 } }).raise Src.host
    Event.SLOT_PROTOCOL_ERROR (leBytes 1 k)

/-- A host write to a slot state word (R82): FREE to FILLED with a new REQ_SEQ, or DONE to FREE. -/
def slotWrite (k : Nat) (v : Word) (d : Dev) : Dev :=
  let x := nth {} d.win.slots k
  let st := v.toNat % 4
  let seq := v.toNat / 65536
  if x.st = .free ∧ st = 1 ∧ seq ≠ x.seq then
    { d with win := { d.win with slots := d.win.slots.set k { x with st := .filled, seq := seq } } }
  else if x.st = .done ∧ st = 0 then
    { d with win := { d.win with
        slots := d.win.slots.set k { x with st := .free }, doneWord := d.win.doneWord &&& ~~~ (1#16 <<< k) } }
  else slotError k d

/-- The lead reads the heartbeat word (R101): a change since the last reading keeps presence, or regains it and is logged;
no change is a period missed. -/
def heartRead (c : Clk) (d : Dev) : Dev :=
  let w := d.win
  if w.heartbeat = w.beatSeen then { d with win := { w with beatFrame := c.frame, beatMissed := w.beatMissed + 1 } }
  else
    let lost := if w.everPresent then c.frame - w.lostFrame else c.frame - c.startFrame
    let d := { d with win := { w with
      beatSeen := w.heartbeat, hostPresent := true, everPresent := true, beatFrame := c.frame, beatMissed := 0 } }
    if w.hostPresent then d else hostRegained c.frame (d.raise Src.host Event.HOST_REGAINED (leBytes 4 lost))

/-- The heartbeat is read once per HOST_BEAT period, by a lane that acts (R101). -/
def heartStep (c : Clk) (d : Dev) : Dev :=
  d.when (d.lanes.acting.isSome && decide (d.win.beatFrame + ms (d.nat Param.HOST_BEAT) ≤ c.frame)) (heartRead c)

/-- One doorbell bit set remembers its port (R81). -/
def ringPorts (p : Port) (old new : BitVec 16) (slots : List Slot) : List Slot :=
  slots.zipIdx.map fun x =>
    if new.getLsbD x.2 && !old.getLsbD x.2 then { x.1 with rungBy := decide (p = .huart) } else x.1

/-- One host word is performed (R67, R76, R82, R95, R99, R101): kind 0 plain, 1 bit set, 2 bit clear. -/
def portWord (p : Port) (kind a : Nat) (v : Word) (d : Dev) : Dev :=
  let old := readWord d a
  let new := if kind = 1 then old ||| v else if kind = 2 then old &&& ~~~ v else v
  if a = 0x100 then
    { d with win := { d.win with
        slots := ringPorts p d.win.doorbell (new.setWidth 16) d.win.slots, doorbell := new.setWidth 16 } }
  else if a = 0x108 then { d with win := { d.win with heartbeat := new } }
  else if a = 0x10C then { d with win := { d.win with readIndex := new.toNat % 65536 } }
  else if 0x140 ≤ a ∧ a < 0x180 then slotWrite ((a - 0x140) / 4) new d
  else if a = 0x200 then { d with win := { d.win with irqStatus := d.win.irqStatus &&& ~~~ (v.setWidth 9) } }
  else if a = 0x204 then { d with win := { d.win with irqEnable := new.setWidth 9 ||| 0x88#9 } }
  else { d with win := { d.win with mem := Mem.writeBytes d.win.mem a (leBytes 4 new.toNat) } }

/-- Words of a write in ascending order; those that lose a race are not performed (R69, R77). -/
def portWords (p : Port) (kind a : Nat) (lost : List Nat) : Nat → List Byte → Dev → Dev
  | k, b0 :: b1 :: b2 :: b3 :: rest, d =>
    let d := if lost.contains k then d
      else portWord p kind (a + 4 * k) (BitVec.ofNat 32 (leNat [b0, b1, b2, b3])) d
    portWords p kind a lost (k + 1) rest d
  | _, _, d => d

/-- An access is inside the window and aligned, its alias kind valid (R67, R76). -/
def accessOk (addr words : Nat) : Bool :=
  decide (addr < 0x30000) && decide (addr % 4 = 0) && decide (0 < words) && decide (addr % 0x10000 + 4 * words ≤ 0x10000)

/-- A write passes the range check (R69, R473). -/
def writeOk (d : Dev) (addr words : Nat) : Bool :=
  accessOk addr words && (List.range words).all fun k =>
    hostWritable d (addr / 0x10000) (addr % 0x10000 + 4 * k)

/-- A transaction on a port counts as good or bad for PORT_STATUS (R101). -/
def portCount (good : Bool) (r : PortRec) : PortRec :=
  if good then { r with good := r.good + 1, bad := 0 } else { r with good := 0, bad := r.bad + 1 }

/-- TEST_PORT_BUSY refuses this transaction (R464): every k-th on a selected port. -/
def portRefuses (p : Port) (d : Dev) : Bool :=
  let v := d.diag.portBusy
  v.testBit (match p with | .hspi => 0 | .huart => 1) && decide (0 < v / 256) &&
    decide (((d.win.port p).count + 1) % (v / 256) = 0)

/-- A transaction begins on HSPI: the status byte is shifted out and its flags cleared (R71). -/
def hspiBegin (s : State) (d : Dev) : Dev :=
  d.onPort .hspi fun r => { r with
    out := [statusByte s], range := false, collision := false, crcErr := false, busy := false, count := r.count + 1 }

/-- The bytes the CRC of an HSPI transaction covers (R69): opcode, address most significant byte first (log entry 14),
data. -/
def hspiCovered (op : Nat) (addr : BitVec 24) (data : List Byte) : List Byte :=
  leBytes 1 op ++ (leBytes 3 addr.toNat).reverse ++ data

/-- The collision of a write (R77): the flag, or the result, and the counter. -/
def countCollision (p : Port) (d : Dev) : Dev :=
  match p with
  | .hspi => { d with win := { d.win with hspiCollisions := d.win.hspiCollisions + 1 } }
  | .huart => { d with win := { d.win with huartCollisions := d.win.huartCollisions + 1 } }

/-- An HSPI write (R68, R69, R71, R77, R473). -/
def hspiWriteEff (op : Nat) (addr : BitVec 24) (data : List Byte) (crc : Word) (lost : List Nat) (s : State)
    (d : Dev) : Dev :=
  let busy := portRefuses .hspi d
  let d := hspiBegin s d
  let words := data.length / 4
  let hit := lost.any fun k => decide (k < words)
  if busy then d.onPort .hspi fun r => { r with busy := true }
  else if crc ≠ crc32 (hspiCovered op addr data) then
    let d := { d with win := { d.win with crcErrors := d.win.crcErrors + 1 } }
    d.onPort .hspi fun r => portCount false { r with crcErr := true }
  else if data.length % 4 ≠ 0 ∨ 4096 < data.length ∨ !writeOk d addr.toNat words then
    d.onPort .hspi fun r => portCount true { r with range := true }
  else
    let d := portWords .hspi (addr.toNat / 0x10000) (addr.toNat % 0x10000) lost 0 data d
    let d := d.onPort .hspi fun r => portCount true { r with collision := hit }
    if hit then countCollision .hspi d else d

/-- The port answers: its unit is enabled and frames run, or the boot ROM serves it (R62, R432). -/
def portServes (p : Port) (s : State) : Bool := portOn p s.dev && (s.clk.running || s.dev.upd.bootRecovery)

/-- HSPI_WRITE (R69). -/
def execHspiWrite (addr : BitVec 24) (data : List Byte) (crc : Word) (lost : List Nat) (s : State) : Out :=
  devStep s (Dev.when (portServes .hspi s) (hspiWriteEff 0x02 addr data crc lost s))

/-- HSPI_QWRITE (R68): as WRITE, on four lines. -/
def execHspiQwrite (addr : BitVec 24) (data : List Byte) (crc : Word) (lost : List Nat) (s : State) : Out :=
  devStep s (Dev.when (portServes .hspi s) (hspiWriteEff 0x32 addr data crc lost s))

/-- An HSPI read (R68, R70): the marker, the words and the CRC; a read through an alias returns the plain word. -/
def hspiReadEff (op : Nat) (addr : BitVec 24) (words : Nat) (s : State) (d : Dev) : Dev :=
  let busy := portRefuses .hspi d
  let d := hspiBegin s d
  if busy then d.onPort .hspi fun r => { r with busy := true }
  else if !accessOk addr.toNat words then d.onPort .hspi fun r => portCount true { r with range := true }
  else
    let data := readWords d (addr.toNat % 0x10000) words
    d.onPort .hspi fun r => portCount true { r with
      out := r.out ++ 0x5A :: data ++ leBytes 4 (crc32 (hspiCovered op addr data)).toNat }

/-- HSPI_READ (R70). -/
def execHspiRead (addr : BitVec 24) (words : Nat) (s : State) : Out :=
  devStep s (Dev.when (portServes .hspi s) (hspiReadEff 0x03 addr words s))

/-- HSPI_QREAD (R68, R70). -/
def execHspiQread (addr : BitVec 24) (words : Nat) (s : State) : Out :=
  devStep s (Dev.when (portServes .hspi s) (hspiReadEff 0x6B addr words s))

/-- HSPI_STATUS (R71): the status byte once more. -/
def execHspiStatus (s : State) : Out :=
  devStep s (Dev.when (portServes .hspi s) fun d =>
    if portRefuses .hspi d then (hspiBegin s d).onPort .hspi fun r => { r with busy := true }
    else (hspiBegin s d).onPort .hspi fun r => portCount true { r with out := r.out ++ [statusByte s] })

/-- HSPI_INVALID_OPCODE (R68): ignored, RANGE set. -/
def execHspiInvalidOpcode (op : Byte) (s : State) : Out :=
  devStep s (Dev.when (portServes .hspi s &&
      !([0x02, 0x03, 0x32, 0x6B, 0x05] : List Byte).contains op) fun d =>
    (hspiBegin s d).onPort .hspi fun r => portCount true { r with range := true })

/-! HUART. -/

/-- COBS encoding (R72): groups of up to 254 non-zero bytes. -/
def cobsEncode : Nat → List Byte → List Byte
  | 0, _ => []
  | fuel + 1, bs =>
    let run := (bs.takeWhile (· ≠ 0)).take 254
    let rest := bs.drop run.length
    let head := BitVec.ofNat 8 (run.length + 1) :: run
    match rest with
    | [] => head
    | b :: rest' => if run.length = 254 ∧ b ≠ 0 then head ++ cobsEncode fuel rest else head ++ cobsEncode fuel rest'

/-- A HUART frame after decoding (R72). -/
structure UFrame where
  type : Nat
  seq : Nat
  addr : Nat
  len : Nat
  data : List Byte
  deriving DecidableEq, Repr

/-- Decode and check a HUART frame (R72): COBS, CRC and length. A frame whose TYPE is neither 1 nor 2, or whose data does
not match TYPE and LEN, is discarded and counted with them: R72 names no such frame (DESIGN CHOICE, log entry 143). -/
def uartFrame (raw : List Byte) : Option UFrame :=
  match cobsDecode (raw.length + 1) raw with
  | none => none
  | some bs =>
    let body := bs.take (bs.length - 4)
    let f : UFrame := ⟨fieldAt bs 0 1, fieldAt bs 1 1, fieldAt bs 2 3, fieldAt bs 5 2, body.drop 7⟩
    if bs.length < 11 ∨ leNat (bs.drop (bs.length - 4)) ≠ (crc32 body).toNat then none
    else if f.len % 4 ≠ 0 ∨ 1024 < f.len ∨ f.len = 0 then none
    else if (f.type = 1 ∧ f.data = []) ∨ (f.type = 2 ∧ f.data.length = f.len) then some f else none

/-- A HUART reply on the line (R72): echo, RESULT, data, CRC; COBS and delimiter. -/
def uartReply (f : UFrame) (result : Nat) (data : List Byte) : List Byte :=
  let body := leBytes 1 (f.type + 0x80) ++ leBytes 1 f.seq ++ leBytes 3 f.addr ++ leBytes 2 f.len ++
    leBytes 1 result ++ data
  let all := body ++ leBytes 4 (crc32 body).toNat
  cobsEncode (all.length + 1) all ++ [0]

/-- A frame with a COBS, CRC or length error is discarded and counted (R72, R451). -/
def uartBad (d : Dev) : Dev :=
  ({ d with win := { d.win with frameErrors := d.win.frameErrors + 1 } }).onPort .huart fun r =>
    portCount false { r with out := [] }

/-- A HUART frame is answered (R72, R73): a good transaction. -/
def uartAnswer (f : UFrame) (result : Nat) (data : List Byte) (d : Dev) : Dev :=
  d.onPort .huart fun r => portCount true { r with result := result, out := uartReply f result data }

/-- A HUART read (R72, R73). -/
def uartRead (f : UFrame) (d : Dev) : Dev :=
  if accessOk f.addr (f.len / 4) then
    let data := readWords d (f.addr % 0x10000) (f.len / 4)
    uartAnswer f 0 data d
  else uartAnswer f Res.badParam [] d

/-- A HUART write (R73): a repeated SEQ is acknowledged again with its RESULT and not performed. -/
def uartWrite (f : UFrame) (lost : List Nat) (d : Dev) : Dev :=
  match d.win.huart.lastSeq with
  | some (q, res) =>
    if q = f.seq then uartAnswer f res [] d
    else uartWriteNew f lost d
  | none => uartWriteNew f lost d
where
  /-- A write with a new SEQ. -/
  uartWriteNew (f : UFrame) (lost : List Nat) (d : Dev) : Dev :=
    if !writeOk d f.addr (f.len / 4) then uartAnswer f Res.badParam [] d
    else
      let hit := lost.any fun k => decide (k < f.len / 4)
      let d := portWords .huart (f.addr / 0x10000) (f.addr % 0x10000) lost 0 f.data d
      let res := if hit then Res.collision else 0
      let d := (uartAnswer f res [] d).onPort .huart fun r => { r with lastSeq := some (f.seq, res) }
      if hit then countCollision .huart d else d

/-- One HUART frame from the line (R72, R73): BUSY under TEST_PORT_BUSY. -/
def uartEff (raw : List Byte) (lost : List Nat) (d : Dev) : Dev :=
  match uartFrame raw with
  | none => uartBad d
  | some f =>
    let busy := portRefuses .huart d
    let d := d.onPort .huart fun r => { r with count := r.count + 1 }
    if busy then d.onPort .huart fun r => { r with result := Res.busy, out := uartReply f Res.busy [] }
    else if f.type = 1 then uartRead f d else uartWrite f lost d

/-- HUART_READ (R72). -/
def execHuartRead (raw : List Byte) (s : State) : Out :=
  devStep s (Dev.when (portServes .huart s) (uartEff raw []))

/-- HUART_WRITE (R73). -/
def execHuartWrite (raw : List Byte) (lost : List Nat) (s : State) : Out :=
  devStep s (Dev.when (portServes .huart s) (uartEff raw lost))

/-- HUART_BAD_FRAME (R72): what the frame decodes to decides. -/
def execHuartBadFrame (raw : List Byte) (s : State) : Out :=
  devStep s (Dev.when (portServes .huart s) (uartEff raw []))

/-- HUART_GAP_TIMEOUT (R451): the partial frame is discarded as a framing error. -/
def execHuartGapTimeout (s : State) : Out := devStep s (Dev.when (portServes .huart s) uartBad)

/-! Rows of one word. -/

/-- What a port tells the host of a write of one word (R71, R73, R77): the flags of the HSPI status byte, or the RESULT of
the HUART reply. -/
def wordTold (p : Port) (res : Nat) (d : Dev) : Dev :=
  match p with
  | .hspi => d.onPort .hspi fun r => portCount true { r with
      range := decide (res = Res.badParam), collision := decide (res = Res.collision) }
  | .huart => d.onPort .huart fun r => portCount true { r with result := res }

/-- A write of one word begins on a port (R71). -/
def wordBegin (s : State) (p : Port) (d : Dev) : Dev :=
  match p with
  | .hspi => hspiBegin s d
  | .huart => d.onPort .huart fun r => { r with count := r.count + 1 }

/-- One word written by a port outside a longer transaction: the range check, a lost race, or the word (R77, R473); BUSY
under TEST_PORT_BUSY (R464). -/
def wordRow (s : State) (p : Port) (kind a : Nat) (v : Word) (lost : Bool) (d : Dev) : Dev :=
  let busy := portRefuses p d
  let d := wordBegin s p d
  if busy then d.onPort p fun r => { r with busy := decide (p = .hspi), result := if p = .huart then Res.busy else r.result }
  else if !writeOk d (kind * 0x10000 + a) 1 ∨ 0x10000 ≤ a then wordTold p Res.badParam d
  else if lost then countCollision p (wordTold p Res.collision d)
  else wordTold p 0 (portWord p kind a v d)

/-- ALIAS_BIT_SET (R76). -/
def execAliasBitSet (p : Port) (addr : Nat) (mask : Word) (lost : Bool) (s : State) : Out :=
  devStep s (Dev.when (portServes p s) (wordRow s p 1 addr mask lost))

/-- ALIAS_BIT_CLEAR (R76). -/
def execAliasBitClear (p : Port) (addr : Nat) (mask : Word) (lost : Bool) (s : State) : Out :=
  devStep s (Dev.when (portServes p s) (wordRow s p 2 addr mask lost))

/-- DOORBELL_WRITE (R82): through the bit-set alias. -/
def execDoorbellWrite (p : Port) (mask : Word) (s : State) : Out :=
  devStep s (Dev.when (portServes p s) (wordRow s p 1 0x100 mask false))

/-- SLOT_STATE_WRITE (R82). -/
def execSlotStateWrite (p : Port) (k : Nat) (val : Word) (s : State) : Out :=
  devStep s (Dev.when (portServes p s && decide (k < 16)) (wordRow s p 0 (0x140 + 4 * k) val false))

/-- IRQ_STATUS_CLEAR (R99). -/
def execIrqStatusClear (p : Port) (val : Word) (s : State) : Out :=
  devStep s (Dev.when (portServes p s) (wordRow s p 0 0x200 val false))

/-- IRQ_ENABLE_WRITE (R99): bits 3 and 7 read 1. -/
def execIrqEnableWrite (p : Port) (val : Word) (s : State) : Out :=
  devStep s (Dev.when (portServes p s) (wordRow s p 0 0x204 val false))

/-- HEARTBEAT_WRITE (R101). -/
def execHeartbeatWrite (p : Port) (val : Word) (s : State) : Out :=
  devStep s (Dev.when (portServes p s) (wordRow s p 0 0x108 val false))

/-- EVENT_READ_INDEX_WRITE (R95). -/
def execEventReadIndexWrite (p : Port) (val : Word) (s : State) : Out :=
  devStep s (Dev.when (portServes p s) (wordRow s p 0 0x10C val false))

/-- WINDOW_WORD_WRITE (R67). -/
def execWindowWordWrite (p : Port) (addr : Nat) (val : Word) (s : State) : Out :=
  devStep s (Dev.when (portServes p s) (wordRow s p 0 addr val false))

/-! Host presence and ports. -/

/-- HOST_LOST is due (R101): no change for HOST_BEAT_MISS periods of HOST_BEAT. -/
def hostLostDue (d : Dev) : Bool := d.win.hostPresent && decide (d.nat Param.HOST_BEAT_MISS ≤ d.win.beatMissed)

/-- HOST_LOST (R101, R262, R328). -/
def hostLostEff (n : Nat) (d : Dev) : Dev :=
  hostLostRules n (({ d with win := { d.win with hostPresent := false, lostFrame := n } }).raise Src.host
    Event.HOST_LOST (leBytes 8 n))

/-- HOST_LOST. -/
def execHostLost (s : State) : Out :=
  devStep s fun d => d.when (s.clk.running && hostLostDue d) (hostLostEff s.clk.frame)

/-- The code of a port in events. -/
def portCode : Port → Nat
  | .hspi => 0
  | .huart => 1

/-- PORT_FAILED (R101): sixteen consecutive failed transactions. -/
def execPortFailed (p : Port) (s : State) : Out :=
  devStep s fun d => d.when (!(d.win.port p).failed && decide (16 ≤ (d.win.port p).bad)) fun d =>
    ((d.onPort p fun r => { r with failed := true }).raise Src.host Event.PORT_FAILED
      (leBytes 1 (portCode p))).irq 0x100#9

/-- PORT_RESTORED (R101): sixteen consecutive good ones. -/
def execPortRestored (p : Port) (s : State) : Out :=
  devStep s fun d => d.when ((d.win.port p).failed && decide (16 ≤ (d.win.port p).good)) fun d =>
    ((d.onPort p fun r => { r with failed := false }).raise Src.host Event.PORT_RESTORED
      (leBytes 1 (portCode p))).irq 0x100#9

/-! The stream and the release. -/

/-- The stream ring is full (R95). -/
def ringFull (w : Win) : Bool := decide ((w.writeIndex + 1) % 256 = w.readIndex % 256)

/-- An entry is written to the ring (R95). -/
def ringWrite (e : LogEntry) (w : Win) : Win :=
  { w with
    mem := Mem.writeBytes w.mem (0xC000 + 32 * (w.writeIndex % 256)) (entryBytes e)
    writeIndex := (w.writeIndex + 1) % 256, irqStatus := w.irqStatus ||| 0b100#9
    pub := { w.pub with newestSeq := e.seq } }

/-- STREAM_OVERRUN is due (R96): entries were omitted and space has returned. -/
def overrunDue (d : Dev) : Bool := decide (0 < d.win.omitted) && !ringFull d.win

/-- The entry of STREAM_OVERRUN (R96): the number omitted and the first SEQ. -/
def overrunEntry (n : Nat) (d : Dev) : LogEntry :=
  ⟨d.log.nextSeq, n, d.tar.rtc, Event.STREAM_OVERRUN, Src.host, leadCode d.lanes.acting, false, false, false,
    leBytes 4 d.win.omitted ++ leBytes 4 d.win.omittedFirst⟩

/-- STREAM_OVERRUN is logged, and waits before every other entry for the release (R85, R96, R99). -/
def overrunEff (n : Nat) (d : Dev) : Dev :=
  let e := overrunEntry n d
  { d with
    log := { d.log with nextSeq := d.log.nextSeq + 1, general := lastN 4096 (d.log.general ++ [e]) }
    win := { d.win with stream := e :: d.win.stream, omitted := 0 } }

/-- STREAM_OVERRUN found due by the release itself (R96): logged and written first. -/
def overrunNow (n : Nat) (d : Dev) : Dev :=
  let e := overrunEntry n d
  { d with
    log := { d.log with nextSeq := d.log.nextSeq + 1, general := lastN 4096 (d.log.general ++ [e]) }
    win := { ringWrite e d.win with omitted := 0 } }

/-- STREAM_OVERRUN. -/
def execStreamOverrun (s : State) : Out := devStep s fun d => d.when (overrunDue d) (overrunEff s.clk.frame)

/-- One entry enters the stream, or is omitted and counted (R96). -/
def streamEntry (n : Nat) (d : Dev) (e : LogEntry) : Dev :=
  let d := d.when (overrunDue d) (overrunNow n)
  if ringFull d.win then
    { d with win := { d.win with
        eventLost := d.win.eventLost + 1, streamLost := d.win.streamLost + 1
        omittedFirst := if d.win.omitted = 0 then e.seq else d.win.omittedFirst
        omitted := d.win.omitted + 1, irqStatus := d.win.irqStatus ||| 0b1000000#9 } }
  else { d with win := ringWrite e d.win }

/-- The slots that the release makes DONE (R85): their responses, states and interrupt. -/
def releaseSlot (w : Win) (x : Nat × Journal × Nat) (n : Nat) : Win :=
  let sl := nth {} w.slots x.1
  { w with
    mem := Mem.writeBytes w.mem (0x1000 + 0x800 * x.1 + 0x400) x.2.1.response
    slots := w.slots.set x.1 { sl with st := .done, huart := sl.rungBy }
    doneWord := w.doneWord ||| (1#16 <<< x.1)
    irqStatus := if x.2.1.quiet then w.irqStatus else w.irqStatus ||| 1#9
    framesMax := max w.framesMax (min 255 (n - sl.foundAt)) }

/-- A slot whose response is still held shows TAKEN (R81, R464). -/
def takenSlot (w : Win) (x : Nat × Journal × Nat) : Win :=
  let sl := nth {} w.slots x.1
  { w with slots := w.slots.set x.1 { sl with st := .taken, huart := sl.rungBy } }

/-- The release at the tick of frame n (R85, R91, R474): the shadow of the frame before, if its delta carries the marker;
without it only interrupt bits of frame work stay, for the new lead's first release. Responses held by
TEST_MBOX_DELAY wait (R464). -/
def release (n : Nat) (d : Dev) : Dev :=
  let sh := d.win.shadow
  if sh.marker then
    let w := d.win
    let (now, later) := sh.done.partition fun x => decide (x.2.2 ≤ n)
    let w := now.foldl (fun w x => releaseSlot w x n) w
    let w := later.foldl takenSlot w
    let w := { w with
      doorbell := w.doorbell &&& ~~~ sh.bellClear
      irqStatus := w.irqStatus ||| sh.irqSet
      mem := sh.writes.foldl (fun m (x : Nat × List Byte) => Mem.writeBytes m x.1 x.2) w.mem
      snapHeld := (w.snapHeld ||| sh.snapHeld) &&& ~~~ sh.snapFree
      pub := { w.pub with jobs := jobTable d, bulk := bulkWord d }
      shadow := { done := later } }
    w.stream.foldl (streamEntry n) { d with win := { w with stream := [] } }
  else
    { d with win := { d.win with shadow := { done := sh.done.filter (fun x => decide (n < x.2.2)), irqSet := sh.irqSet } } }

/-- The copy of the host half at 0 to 2 µs (R97): the sequence word even and stable; fresh when it differs (R261). -/
def stageCopy (n : Nat) (stable : Bool) (d : Dev) : Dev :=
  let seq := leNat (Mem.readBytes d.win.mem 0xE800 4)
  if stable ∧ seq % 2 = 0 then
    let fresh := decide (seq ≠ d.win.stageSeq)
    { d with win := { d.win with
        stage := Mem.readBytes d.win.mem 0xE800 64, stageSeq := seq, stageFresh := fresh
        stageFreshFrame := if fresh then n else d.win.stageFreshFrame } }
  else { d with win := { d.win with stageMisses := d.win.stageMisses + 1, stageFresh := false } }

/-- The sequence word of the lead half rises to the next even value (R97). -/
def stageRaise (d : Dev) : Dev :=
  { d with win := { d.win with
      leadSeq := d.win.leadSeq + 2, mem := Mem.writeBytes d.win.mem 0xE000 (leBytes 4 (d.win.leadSeq + 2)) } }

/-- The identity and status area, and the lead half of the stage exchange, at 43 to 45 µs (R24, R74, R97). -/
def publish (s : State) (d : Dev) : Dev :=
  { d with win := { d.win with
      pub := { d.win.pub with
               frame := s.clk.frame, mode := s.clk.mode, hold := decide (d.pow.st = .hold)
               lead := leadCode d.lanes.token, clockStatus := d.tar.status, causes := d.pow.causes, rtc := d.tar.rtc
               startCount := d.pow.startCount, portStatus := portStatus d }
      leadSeq := d.win.leadSeq + 2
      mem := Mem.writeBytes d.win.mem 0xE000 (leBytes 4 (d.win.leadSeq + 2) ++ leadHalf s (closePending s.clk.frame d)) } }

/-- The window after a start (R71, R88, R103): nothing of it survives, every field is at its reset value; the monotonic
counters of R102 are no part of it. -/
def Win.cleared (w : Win) : Win :=
  { stageMisses := w.stageMisses, crcErrors := w.crcErrors, frameErrors := w.frameErrors
    hspiCollisions := w.hspiCollisions, huartCollisions := w.huartCollisions, protocolErrors := w.protocolErrors
    streamLost := w.streamLost }

end Sys2Proof.Machine
end

