-- ==== Sys2Proof/Machine/Acs.lean ====
section
/-!
DEFINITION. The Arras Command Set (chapter 04): the catalogue, the order of checks, the reply, the durable ring, jobs
and pending sets.
-/

namespace Sys2Proof.Machine

/-- How ARG_LEN must match a command (R471). -/
inductive ArgLen where
  | fixed (n : Nat)
  | range (lo hi : Nat)
  | credential
  /-- A counted list of IDs whose count stands at an offset. -/
  | ids (off : Nat)
  /-- The entries of PARAM_WRITE. -/
  | entries
  /-- PARAM_WRITE_BLOCK: ten fixed bytes and the length they give. -/
  | block
  deriving DecidableEq, Repr

/-- A row of the catalogue (R109, R110): code, ARG_LEN, the rights H, E and S, the modes, and whether R88 counts it
among the durable kinds. -/
structure CmdRow where
  code : Nat
  len : ArgLen
  h : Bool
  e : Bool
  sv : Bool
  modes : Nat
  durable : Bool
  deriving DecidableEq, Repr

/-- The catalogue, first half (R109, R110). -/
def catalogueA : List CmdRow := [
  ⟨Cmd.IDENTIFY, .fixed 0, true, true, false, 0xFF, false⟩,
  ⟨Cmd.MODE_REQUEST, .fixed 1, true, false, true, 0xFF, true⟩,
  ⟨Cmd.SAFESTOP_CLEAR, .fixed 4, true, true, true, 0x60, true⟩,
  ⟨Cmd.SERVICE_LOGIN, .credential, true, true, false, 0xFF, true⟩,
  ⟨Cmd.SERVICE_LOGOUT, .fixed 0, false, false, true, 0x41, true⟩,
  ⟨Cmd.STOP_REQUEST, .fixed 0, true, true, false, 0x5E, true⟩,
  ⟨Cmd.PARAM_READ, .ids 0, true, true, false, 0xFF, false⟩,
  ⟨Cmd.PARAM_WRITE, .entries, true, true, false, 0xFF, true⟩,
  ⟨Cmd.PARAM_COMMIT, .fixed 4, true, true, false, 0xFF, true⟩,
  ⟨Cmd.PARAM_DISCARD, .fixed 0, true, true, false, 0xFF, true⟩,
  ⟨Cmd.PARAM_DESCRIBE, .fixed 2, true, true, false, 0xFF, false⟩,
  ⟨Cmd.PARAM_READ_BLOCK, .fixed 10, true, true, false, 0xFF, false⟩,
  ⟨Cmd.PARAM_WRITE_BLOCK, .block, true, true, false, 0xFF, true⟩,
  ⟨Cmd.PARAM_PENDING, .fixed 0, true, true, false, 0xFF, false⟩,
  ⟨Cmd.PARAM_ENUM, .fixed 4, true, true, false, 0xFF, false⟩,
  ⟨Cmd.SNAPSHOT_TAKE, .ids 2, true, false, false, 0xFF, false⟩,
  ⟨Cmd.SNAPSHOT_RELEASE, .fixed 1, true, false, false, 0xFF, false⟩,
  ⟨Cmd.CMD_OUTCOME, .fixed 6, true, false, false, 0xFF, false⟩,
  ⟨Cmd.EVENT_FETCH, .fixed 5, true, true, false, 0xFF, false⟩,
  ⟨Cmd.BULK_CHUNK, .fixed 8, true, false, false, 0xFF, false⟩,
  ⟨Cmd.JOB_LIST, .fixed 0, true, true, false, 0xFF, false⟩,
  ⟨Cmd.JOB_STATUS, .fixed 2, true, true, false, 0xFF, false⟩,
  ⟨Cmd.JOB_CANCEL, .fixed 2, true, true, false, 0xFF, true⟩,
  ⟨Cmd.CLOCK_SET, .fixed 5, true, true, false, 0xFE, true⟩,
  ⟨Cmd.SYNC, .fixed 1, true, false, true, 0xFF, false⟩,
  ⟨Cmd.METR_SEAL_OPEN, .credential, false, false, true, 0x40, true⟩,
  ⟨Cmd.METR_SEAL_CLOSE, .fixed 0, false, false, true, 0x41, true⟩]

/-- The catalogue, second half (R110). -/
def catalogueB : List CmdRow := [
  ⟨Cmd.RECORD_READ, .fixed 4, true, true, false, 0xFF, true⟩,
  ⟨Cmd.SIGNATURE_READ, .fixed 4, true, true, false, 0xFF, true⟩,
  ⟨Cmd.REGISTERS_READ, .fixed 1, true, true, false, 0xFF, false⟩,
  ⟨Cmd.METR_LOG_READ, .fixed 3, true, true, false, 0xFF, false⟩,
  ⟨Cmd.CALENDAR_ACTIVATE, .fixed 4, true, true, false, 0x7E, true⟩,
  ⟨Cmd.BILLING_CLOSE, .fixed 0, true, true, false, 0xFE, true⟩,
  ⟨Cmd.DISPLAY_STEP, .fixed 0, true, false, false, 0xFF, false⟩,
  ⟨Cmd.REMOTE_START, .range 2 41, true, false, false, 0x0C, true⟩,
  ⟨Cmd.REMOTE_STOP, .fixed 1, true, true, false, 0x18, true⟩,
  ⟨Cmd.SAFETY_CHECK_READ, .fixed 0, true, false, false, 0xFF, false⟩,
  ⟨Cmd.SAFETY_CONFIRM, .fixed 9, true, false, true, 0x42, true⟩,
  ⟨Cmd.SAFETY_PROOF_TEST, .fixed 1, true, false, true, 0x46, false⟩,
  ⟨Cmd.SWITCH_SET, .fixed 4, true, false, false, 0xFE, true⟩,
  ⟨Cmd.LATCH_CLEAR, .fixed 1, true, false, false, 0xFE, true⟩,
  ⟨Cmd.LOCK_DRIVE, .fixed 1, true, false, false, 0x7C, true⟩,
  ⟨Cmd.CALICO_STAGING_STATUS, .fixed 0, true, false, false, 0xFF, false⟩,
  ⟨Cmd.AUTH_LOAD, .fixed 6, true, true, false, 0xFE, true⟩,
  ⟨Cmd.AUTH_SWAP, .fixed 8, true, true, false, 0xFE, true⟩,
  ⟨Cmd.AUTH_LOOKUP, .range 4 10, true, false, false, 0xFF, false⟩,
  ⟨Cmd.KEY_DERIVE, .fixed 5, false, false, true, 0x41, true⟩,
  ⟨Cmd.ATTEST, .fixed 32, true, true, false, 0xFF, true⟩,
  ⟨Cmd.ENROL, .fixed 0, true, true, false, 0x82, true⟩,
  ⟨Cmd.TAMPER_ACK, .fixed 2, false, false, true, 0x40, true⟩,
  ⟨Cmd.IMAGE_STAGE, .fixed 5, true, false, false, 0xC1, true⟩,
  ⟨Cmd.IMAGE_VERIFY, .fixed 0, true, true, false, 0xFF, true⟩,
  ⟨Cmd.IMAGE_ACTIVATE, .fixed 4, true, true, false, 0x44, true⟩,
  ⟨Cmd.TEST_AUTH, .credential, false, false, true, 0x41, true⟩,
  ⟨Cmd.SCRUB_START, .fixed 1, true, false, false, 0xFF, true⟩]

/-- The catalogue of R109 and R110. -/
def catalogue : List CmdRow := catalogueA ++ catalogueB

/-- The row of a command code. -/
def cmdRow (code : Nat) : Option CmdRow := catalogue.find? (·.code = code)


/-- What a command does once structure, right and mode have passed (R108): refused with a result and no effect, or
executed with a payload, a job id and the new device state. -/
inductive Act where
  | no (result : Nat) (payload : List Byte)
  /-- Refused, with an effect that the spec gives the refusal itself (R305, R404). -/
  | noWith (result : Nat) (d : Dev)
  | yes (payload : List Byte) (d : Dev)
  | job (id : Nat) (payload : List Byte) (d : Dev)

/-- A command's own part. -/
abbrev Handler := State → Owner → List Byte → Act

/-- PARAM_WRITE entries (R109): ID, length with the reserved byte above it, value bytes; none when they do not fill the
arguments. -/
def writeEntries : Nat → List Byte → Option (List (Nat × Nat × List Byte))
  | 0, bs => if bs.isEmpty then some [] else none
  | k + 1, bs =>
    let len := fieldAt bs 2 1
    let padded := (len + 3) / 4 * 4
    if bs.length < 4 + padded then none
    else (writeEntries k (bs.drop (4 + padded))).map fun r =>
      (fieldAt bs 0 2, fieldAt bs 2 2, (bs.drop 4).take len) :: r

/-- ARG_LEN matches (R471). -/
def argLenOk (l : ArgLen) (args : List Byte) : Bool :=
  match l with
  | .fixed n => decide (args.length = n)
  | .range lo hi => decide (lo ≤ args.length ∧ args.length ≤ hi)
  | .credential => decide (args.length = fieldAt args 2 2 ∧ (args.length = 88 ∨ args.length = 120))
  | .ids off => decide (2 + off ≤ args.length ∧ args.length = 2 + off + 2 * fieldAt args off 2)
  | .entries => decide (4 ≤ args.length) && (writeEntries (fieldAt args 0 2) (args.drop 4)).isSome
  | .block => decide (10 ≤ args.length ∧ args.length = 10 + fieldAt args 8 2)

/-- An ID that PARAM_WRITE takes (R112): known, writable, no block. -/
def writableScalar (id : Nat) : Bool :=
  match rowOf id with
  | some r => decide (r.acc ≠ 0 ∧ r.ty ≠ 0x40)
  | none => false

/-- The length an entry's value must have: the parameter's own; a string at most its length. -/
def lenFits (id len : Nat) : Bool :=
  match rowOf id with
  | some r => if r.ty = 0x30 then decide (len ≤ r.len) else decide (len = r.len)
  | none => false

/-- The structure checks beyond ARG_LEN (R108 step 1): counts, reserved fields, IDs and their kinds; the payload of a
refusal. -/
def structFault (code : Nat) (args : List Byte) : Option (List Byte) :=
  if code = Cmd.PARAM_READ then
    if 1 ≤ fieldAt args 0 2 ∧ fieldAt args 0 2 ≤ 32 then none else some []
  else if code = Cmd.PARAM_WRITE then
    if fieldAt args 0 2 = 0 ∨ 32 < fieldAt args 0 2 ∨ fieldAt args 2 2 ≠ 0 then some [] else
      match (writeEntries (fieldAt args 0 2) (args.drop 4)).getD [] |>.findIdx?
          (fun e => !writableScalar e.1 || !lenFits e.1 e.2.1) with
      | some i => some (leBytes 2 i)
      | none => none
  else if code = Cmd.PARAM_READ_BLOCK then
    match rowOf (fieldAt args 0 2) with
    | some r => if r.ty = 0x40 ∧ fieldAt args 2 2 = 0 then none else some []
    | none => some []
  else if code = Cmd.PARAM_WRITE_BLOCK then
    match rowOf (fieldAt args 0 2) with
    | some r => if r.ty = 0x40 ∧ r.acc ≠ 0 ∧ fieldAt args 2 2 = 0 then none else some []
    | none => some []
  else if code = Cmd.SNAPSHOT_TAKE then
    if fieldAt args 1 1 = 0 then none else some []
  else none

/-- The host holds S: a service login is open (R106). -/
def hasS (d : Dev) : Bool := d.pow.login.isSome

/-- The head-end writes only parameters flagged HEADEND (R112), and nothing of group 0x70 (R461); the host does not write
UPDATE_OWNER_LOCK (R434). -/
def headEndWrites (own : Owner) (id : Nat) : Bool :=
  if own = .host then decide (id ≠ Param.UPDATE_OWNER_LOCK) else (rowOf id).any fun r => (flagsOf r id).testBit 5

/-- A right that a subject's own chapter states; NOT_PERMITTED belongs to step 2 of R108. -/
def subjectRight (code : Nat) (own : Owner) (args : List Byte) (s : State) : Bool :=
  let d := s.dev
  if code = Cmd.PARAM_WRITE then
    ((writeEntries (fieldAt args 0 2) (args.drop 4)).getD []).all fun e => headEndWrites own e.1
  else if code = Cmd.PARAM_WRITE_BLOCK then headEndWrites own (fieldAt args 0 2)
  else if code = Cmd.PARAM_READ_BLOCK then
    (rowOf (fieldAt args 0 2)).all fun r => decide (r.acc ≠ 3) && !(flagsOf r (fieldAt args 0 2)).testBit 3
  else if code = Cmd.CLOCK_SET then
    let src := fieldAt args 4 1
    if src = 1 then decide (own = .host) else if src = 2 then decide (own ≠ .host)
    else decide (src = 3) && d.pow.login.any fun l => decide (l.owner = own) || decide (own = .host)
  else if code = Cmd.SWITCH_SET then
    let k := fieldAt args 0 1
    !hswNumber k || (decide (hswAssign d k = 0) && hswUnit d k)
  else if code = Cmd.LOCK_DRIVE then
    lockUsable d && (decide (fieldAt args 0 1 ≠ 0) ||
      !(d.ses.isOpen || outletShut d || decide (d.saf.openSt = 1 ∨ d.saf.openSt = 3)))
  else if code = Cmd.ATTEST then decide (d.keys.identity = 1)
  else if code = Cmd.SIGNATURE_READ then
    d.led.records.all fun r => decide (r.number ≠ fieldAt args 0 4) || (decide (r.signState ≠ 3) && !r.sigBad)
  else true

/-- The right of R108 step 2 (R106, R109). -/
def rightOk (r : CmdRow) (own : Owner) (s : State) : Bool :=
  let host := decide (own = .host)
  if r.code = Cmd.SAFESTOP_CLEAR then
    if s.clk.mode = .service then host && hasS s.dev else true
  else if r.code = Cmd.MODE_REQUEST then host && (decide (s.clk.mode ≠ .service) || hasS s.dev)
  else if host then r.h || (r.sv && hasS s.dev) else r.e

/-- The mode gate of R108 step 3 against the mode in force at the tick (R45). -/
def modeOk (r : CmdRow) (s : State) : Bool := r.modes.testBit s.clk.mode.code

/-- The recovery subset serves the window: the boot ROM of Lane A does (R432), or the protocol section of LANE failed
its digest (R58). -/
def recoveryOnly (s : State) : Bool := (s.dev.upd.bootRecovery && !s.clk.running) || s.dev.pow.badParts.getLsbD 3

/-- The recovery subset (R432). -/
def inRecovery (code : Nat) (args : List Byte) : Bool :=
  [Cmd.IDENTIFY, Cmd.BULK_CHUNK, Cmd.IMAGE_VERIFY, Cmd.JOB_STATUS].contains code ||
    (decide (code = Cmd.IMAGE_STAGE) && decide (fieldAt args 0 1 = 0))

/-- The arguments that ARG_LEN counts: the head-end appends the data of a command marked Bulk as an octet-string, which
the fixed fields do not hold (R359, R471). -/
def fixedArgs (code : Nat) (own : Owner) (args : List Byte) : List Byte :=
  if own = .host then args
  else if code = Cmd.AUTH_LOAD then args.take 6
  else if code = Cmd.ENROL then [] else args

/-- Steps 1 to 3 of R108; the result and payload of a refusal. While only the recovery subset is served, every other
command is REFUSED_MODE and the subset passes the mode gate in every mode (R432). -/
def acsCheck (code : Nat) (own : Owner) (args : List Byte) (s : State) : Option (Nat × List Byte) :=
  if recoveryOnly s && !inRecovery code args then some (Res.refusedMode, []) else
  match cmdRow code with
  | none => some (Res.badParam, [])
  | some r =>
    if !argLenOk r.len (fixedArgs code own args) then some (Res.badParam, [])
    else match structFault code args with
      | some p => some (Res.badParam, p)
      | none =>
        if !rightOk r own s || !subjectRight code own args s then some (Res.notPermitted, [])
        else if !modeOk r s && !recoveryOnly s then some (Res.refusedMode, []) else none

/-- Record a durable command whatever its result (R88). -/
def recordDurable (code tag result frame : Nat) (d : Dev) : Dev :=
  if (cmdRow code).elim false CmdRow.durable then
    { d with acs := { d.acs with durable := lastN 256 (d.acs.durable ++ [⟨tag, code, result, frame⟩]) } }
  else d

/-- A command of the login's owner answered OK or JOB restarts its time (R48). -/
def touchLogin (own : Owner) (result n : Nat) (d : Dev) : Dev :=
  match d.pow.login with
  | some l => if l.owner = own ∧ result ≤ 1 then
      { d with pow := { d.pow with login := some { l with lastAccepted := n } } } else d
  | none => d

/-- The reply stands for the row's caller (R80). -/
def setReply (code tag result frame job : Nat) (payload : List Byte) (d : Dev) : Dev :=
  { d with acs := { d.acs with reply := ⟨code, tag, result, payload.take 1000, job, frame⟩ } }

/-- One ACS command (R83, R108): exactly one reply; a refusal has no effect. -/
def acsRun (code : Nat) (own : Owner) (tag : Nat) (args : List Byte) (h : Handler) (s : State) : State :=
  let n := s.clk.frame
  let fin (result job : Nat) (payload : List Byte) (d : Dev) : State :=
    { s with dev := touchLogin own result n (recordDurable code tag result n (setReply code tag result n job payload d)) }
  match acsCheck code own args s with
  | some (r, p) => fin r 0 p s.dev
  | none =>
    match h s own args with
    | .no r p => fin r 0 p s.dev
    | .noWith r d => fin r 0 [] d
    | .yes p d => fin Res.ok 0 p d
    | .job id p d => fin Res.job id p d

/-- Commands are executed: frames run and a lane leads (R84), or the boot ROM serves the window (R432). -/
def acsServes (s : State) : Bool := s.serving || s.dev.upd.bootRecovery

/-- A row of the command set: executed when commands are; otherwise the request waits unserved (log entry 8). -/
def acsRow (code : Nat) (own : Owner) (tag : Nat) (args : List Byte) (h : Handler) (s : State) : Out :=
  .next (if acsServes s then acsRun code own tag args h s else s)

/-! Jobs (R89 to R92). -/

/-- JOB_ENDED (R91): states 3 done, 4 failed, 5 cancelled. A scrub is done, and the checks of a list swap end with its
own outcome (R377); jobs of the other kinds are completed by the rows of their subjects, so `done` leaves them. A scrub
or a staging may fail. A cancel ends only a job that JOB_CANCEL marked (R92). -/
def jobEndedEff (n id : Nat) (e : JobEnd) (d : Dev) : Dev :=
  match d.acs.jobs.find? (fun j => j.id = id && j.live) with
  | none => d
  | some j =>
    match e with
    | .done => if j.kind = .scrub then endJob id 3 0 d else if j.kind = .authSwap then swapJobEnd n id d else d
    | .failed r => if j.kind = .scrub ∨ j.kind = .staging then endJob id 4 r d else d
    | .cancelled => if j.cancelling then endJob id 5 0 d else d

/-- JOB_ENDED. -/
def execJobEnded (id : Nat) (e : JobEnd) (s : State) : Out :=
  devStep s (Dev.when (s.clk.running || s.dev.upd.bootRecovery) (jobEndedEff s.clk.frame id e))

/-- JOB_LIST (R109). -/
def hJobList : Handler := fun s _ _ => .yes (jobTable s.dev) s.dev

/-- JOB_STATUS (R92). -/
def hJobStatus : Handler := fun s _ args =>
  match s.dev.acs.jobs.find? (·.id = fieldAt args 0 2) with
  | some j => .yes (jobBytes j) s.dev
  | none => .no Res.badParam []

/-- JOB_CANCEL (R92): own jobs only, never a signing job nor a final atomic step. -/
def hJobCancel : Handler := fun s own args =>
  let id := fieldAt args 0 2
  match s.dev.acs.jobs.find? (fun j => j.id = id && j.live) with
  | none => .no Res.badParam []
  | some j =>
    if j.owner ≠ ownerCode own ∨ j.kind = .signing ∨ j.final then .no Res.notPermitted []
    else .yes [] { s.dev with acs := { s.dev.acs with
      jobs := s.dev.acs.jobs.map fun k => if k.id = id then { k with cancelling := true } else k } }

/-- JOB_LIST. -/
def execJobList (own : Owner) (tag : Nat) (args : List Byte) (s : State) : Out :=
  acsRow Cmd.JOB_LIST own tag args hJobList s
/-- JOB_STATUS. -/
def execJobStatus (own : Owner) (tag : Nat) (args : List Byte) (s : State) : Out :=
  acsRow Cmd.JOB_STATUS own tag args hJobStatus s
/-- JOB_CANCEL. -/
def execJobCancel (own : Owner) (tag : Nat) (args : List Byte) (s : State) : Out :=
  acsRow Cmd.JOB_CANCEL own tag args hJobCancel s

/-- The job whose turn it is (R90): round-robin in the order of their starts, a waiting job passing. -/
def nextTurn (turn : Nat) (jobs : List Job) : Option Job :=
  let ready (l : List Job) := l.filter fun j => decide (j.st = 1)
  (ready ((jobs.dropWhile fun j => decide (j.id ≠ turn)).drop 1) ++ ready jobs).head?

/-- A job takes a step (R90 to R92). How far a step gets is a free value (log entry 146); the bank swap of a list is the
final atomic step of its job. -/
def Job.step (n : Nat) (j : Job) : Job :=
  let p := j.progress + (Config.freeValue 21 n).toNat % (1001 - j.progress)
  { j with progress := p, final := decide (j.kind = .authSwap) && decide (p = 1000) }

/-- The job steps of a frame (R90 to R92): cancelled jobs reach state 5 at their step boundary, and one job steps. -/
def jobStep (n : Nat) (d : Dev) : Dev :=
  let d := (d.acs.jobs.filter fun j => j.live && j.cancelling).foldl (fun d j => endJob j.id 5 0 d) d
  let jobs := d.acs.jobs.map (Job.turned (cryptoUp d))
  match nextTurn d.acs.jobTurn jobs with
  | none => { d with acs := { d.acs with jobs := jobs } }
  | some j => { d with acs := { d.acs with
      jobs := jobs.map fun k => if k.id = j.id then k.step n else k, jobTurn := j.id } }

/-! System commands. -/

/-- IDENTIFY (R109): 64 bytes as window 0x40 to 0x7F, then MANIFEST_COUNTER; from the boot ROM the recovery public key
follows (R432). -/
def hIdentify : Handler := fun s _ _ =>
  .yes (slice (identityBytes s.dev) 0 64 ++ leBytes 4 s.dev.keys.vault.manifest ++
    (if s.dev.upd.bootRecovery && !s.clk.running then slotPublic s.dev 2 else [])) s.dev

/-- The transitions that a MODE_REQUEST makes, with their conditions (R43). -/
def modeRequestOk (t : Mode) (s : State) : Bool :=
  let d := s.dev
  let laneOk (r : LaneRec) := decide (r.st = .lead ∨ r.st = .follow)
  match s.clk.mode, t with
  | .factory, .commissioning => decide (d.keys.identity = 1) && d.pow.factoryComplete
  | .commissioning, .ready =>
    decide (d.saf.confirmSt = 2) && !d.acs.sealOpen && d.pow.holdupReady && laneOk d.lanes.a && laneOk d.lanes.b &&
      decide (d.pow.causes = 0)
  | .service, .commissioning => true
  | _, _ => false

/-- MODE_REQUEST (R43, R117): an unlisted transition, or one whose condition fails, is REFUSED_MODE; after a commit of
the same frame BUSY. Ready completes commissioning. -/
def hModeRequest : Handler := fun s _ args =>
  match Mode.ofCode (fieldAt args 0 1) with
  | none => .no Res.refusedMode []
  | some t =>
    if !modeRequestOk t s then .no Res.refusedMode []
    else if s.dev.acs.commitDone then .no Res.busy []
    else
      let d := s.dev.reqMode t .other (causeCmd Cmd.MODE_REQUEST)
      let d := { d with acs := { d.acs with modeDone := true } }
      .yes [] (if t = .ready then { d with pow := { d.pow with commissioned := true, reopened := false } } else d)

/-- STOP_REQUEST (R47, R109, R255): sets HOST_STOP or HEADEND_STOP; in Session or Degraded an ordered stop with cause 3
or 4. -/
def hStopRequest : Handler := fun s own _ =>
  let host := decide (own = .host)
  let d := s.dev.safeStop s.clk.mode (if host then Cause.hostStop else Cause.headEndStop) (causeCmd Cmd.STOP_REQUEST)
  .yes [] (if s.clk.mode = .session ∨ s.clk.mode = .degraded then orderedStop s (if host then 3 else 4) d else d)

/-- Causes of class H (R47); DEGRADED_END takes the class of the fault behind Degraded. -/
def classH (k : Nat) (d : Dev) : Bool :=
  decide (k = 3 ∨ k = 6 ∨ k = 7 ∨ k = 8) || (decide (k = 5) && !d.pow.degradedClassS)

/-- The condition of a cause has gone (R47). -/
def causeGone (k : Nat) (s : State) : Bool :=
  let d := s.dev
  if k = 0 then !d.lanes.sergeFault
  else if k = 2 then decide (d.lanes.a.st ≠ .failed ∧ d.lanes.b.st ≠ .failed)
  else if k = 3 then tripGone s.clk.frame d
  else if k = 4 then latchGone d
  else if k = 6 then d.pow.holdupReady
  else if k = 9 then false else true

/-- SAFESTOP_CLEAR may clear a cause (R47): in Safe-stop those of class H, in Service both classes; HEADEND_STOP only
from the head-end; never IMAGE. -/
def mayClear (k : Nat) (own : Owner) (s : State) : Bool :=
  decide (k < 9) && (classH k s.dev || decide (s.clk.mode = .service)) && causeGone k s &&
    (decide (k ≠ 8) || decide (own ≠ .host))

/-- The causes left after a SAFESTOP_CLEAR. -/
def causesLeft (mask : Nat) (own : Owner) (s : State) : Word :=
  (List.range 10).foldl (fun (c : Word) k =>
    if mask.testBit k && mayClear k own s then c &&& ~~~ (1#32 <<< k) else c) s.dev.pow.causes

/-- SAFESTOP_CLEAR (R43, R47): from Safe-stop with no cause left the mode goes to Ready. -/
def hSafestopClear : Handler := fun s own args =>
  let c := causesLeft (fieldAt args 0 4) own s
  let d := { s.dev with pow := { s.dev.pow with causes := c } }
  let d := if c.getLsbD 3 then d else { d with saf := { d.saf with since := 0, tiers := [] } }
  .yes (leBytes 4 c.toNat)
    (if s.clk.mode = .safeStop ∧ c = 0 then d.reqMode .ready .other (causeCmd Cmd.SAFESTOP_CLEAR) else d)

/-- SERVICE_LOGOUT (R43, R48): the payload is the mode that follows. -/
def hServiceLogout : Handler := fun s _ _ =>
  let d := logout s.clk s.dev
  let m := match bestReq d.pow.modeReqs with
    | some r => r.target
    | none => s.clk.mode
  .yes (leBytes 1 m.code) d

/-- IDENTIFY. -/
def execIdentify (own : Owner) (tag : Nat) (args : List Byte) (s : State) : Out :=
  acsRow Cmd.IDENTIFY own tag args hIdentify s
/-- MODE_REQUEST. -/
def execModeRequest (own : Owner) (tag : Nat) (args : List Byte) (s : State) : Out :=
  acsRow Cmd.MODE_REQUEST own tag args hModeRequest s
/-- STOP_REQUEST. -/
def execStopRequest (own : Owner) (tag : Nat) (args : List Byte) (s : State) : Out :=
  acsRow Cmd.STOP_REQUEST own tag args hStopRequest s
/-- SAFESTOP_CLEAR. -/
def execSafestopClear (own : Owner) (tag : Nat) (args : List Byte) (s : State) : Out :=
  acsRow Cmd.SAFESTOP_CLEAR own tag args hSafestopClear s
/-- SERVICE_LOGOUT. -/
def execServiceLogout (own : Owner) (tag : Nat) (args : List Byte) (s : State) : Out :=
  acsRow Cmd.SERVICE_LOGOUT own tag args hServiceLogout s

/-- CMD_OUTCOME (R88): the newest record of the TAG and code. -/
def hCmdOutcome : Handler := fun s _ args =>
  match s.dev.acs.durable.reverse.find? (fun o => o.tag = fieldAt args 0 4 && o.cmd = fieldAt args 4 2) with
  | some o => .yes (leBytes 1 1 ++ leBytes 1 o.result ++ leBytes 8 o.frame) s.dev
  | none => .yes (leBytes 1 0 ++ leBytes 1 0 ++ leBytes 8 0) s.dev

/-- CMD_OUTCOME. -/
def execCmdOutcome (own : Owner) (tag : Nat) (args : List Byte) (s : State) : Out :=
  acsRow Cmd.CMD_OUTCOME own tag args hCmdOutcome s

/-- EVENT_FETCH (R109): entries of the general log from a sequence number, or from the oldest held. -/
def hEventFetch : Handler := fun s _ args =>
  let n := fieldAt args 4 1
  if n = 0 ∨ 31 < n then .no Res.badParam []
  else
    let es := (s.dev.log.general.filter fun e => fieldAt args 0 4 ≤ e.seq).take n
    let first := (es.head?.map LogEntry.seq).getD (fieldAt args 0 4)
    .yes (leBytes 4 first ++ leBytes 2 es.length ++ leBytes 2 0 ++ es.flatMap entryBytes) s.dev

/-- EVENT_FETCH. -/
def execEventFetch (own : Owner) (tag : Nat) (args : List Byte) (s : State) : Out :=
  acsRow Cmd.EVENT_FETCH own tag args hEventFetch s

/-- METR_LOG_READ (R110): entries of the metrology log from an index. -/
def hMetrLogRead : Handler := fun s _ args =>
  let n := fieldAt args 2 1
  if n = 0 ∨ 31 < n then .no Res.badParam []
  else .yes (((s.dev.log.metr.drop (fieldAt args 0 2)).take n).flatMap entryBytes) s.dev

/-- METR_LOG_READ. -/
def execMetrLogRead (own : Owner) (tag : Nat) (args : List Byte) (s : State) : Out :=
  acsRow Cmd.METR_LOG_READ own tag args hMetrLogRead s

/-- SYNC (R135, R137): 1 when it merged into a pending sync, 0 otherwise; bits other than FORCE are reserved. -/
def hSync : Handler := fun s _ args =>
  let v := fieldAt args 0 1
  if 1 < v then .no Res.badParam []
  else .yes (leBytes 1 (if s.dev.samp.syncPend.isSome then 1 else 0))
    (decideSync s.clk.frame false true (decide (v = 1)) s.dev)

/-- SYNC. -/
def execSync (own : Owner) (tag : Nat) (args : List Byte) (s : State) : Out :=
  acsRow Cmd.SYNC own tag args hSync s

/-! Pending sets and bulk transfers. -/

/-- An owner's pending set (R114). -/
def pendingOf (own : Owner) (d : Dev) : Pending :=
  match own with
  | .host => d.acs.hostSet
  | .headEnd k => (assoc d.acs.assocSets k).getD {}

/-- Replace an owner's pending set. -/
def setPending (own : Owner) (p : Pending) (d : Dev) : Dev :=
  match own with
  | .host => { d with acs := { d.acs with hostSet := p } }
  | .headEnd k => { d with acs := { d.acs with assocSets := insertId d.acs.assocSets k p } }

/-- Bytes of block data in a pending set (R114). -/
def Pending.blockBytes (p : Pending) : Nat :=
  p.entries.foldl (fun n e => match e with
    | .blk _ _ bs => n + bs.length
    | .num _ _ => n) 0

/-- Two entries for the same value, or for the same place of a block. -/
def Staged.same : Staged → Staged → Bool
  | .num a _, .num b _ => decide (a = b)
  | .blk a i _, .blk b j _ => decide (a = b) && decide (i = j)
  | _, _ => false

/-- Put an entry into a set: a second one for the same value replaces the first (R114). -/
def Pending.put (p : Pending) (e : Staged) : Pending := { p with entries := p.entries.filter (fun x => !x.same e) ++ [e] }

/-- Stage the entries of one accepted write: the serial rises by 1 (R114). -/
def Pending.stage (es : List Staged) (p : Pending) : Pending :=
  if es.isEmpty then p else { es.foldl Pending.put p with serial := (p.serial + 1) % 2 ^ 32 }

/-- The limits of a pending set hold (R114). -/
def Pending.fits (p : Pending) : Bool := decide (p.ids.length ≤ 128) && decide (p.blockBytes ≤ 32768)

/-- PARAM_DISCARD (R109, R114). -/
def hParamDiscard : Handler := fun s own _ =>
  let p := pendingOf own s.dev
  .yes (leBytes 2 p.ids.length) (discardSet own 3 s.dev)

/-- PARAM_PENDING (R109). -/
def hParamPending : Handler := fun s own _ =>
  let p := pendingOf own s.dev
  .yes (leBytes 4 p.serial ++ leBytes 2 p.ids.length ++ p.ids.flatMap (leBytes 2)) s.dev

/-- PARAM_DISCARD. -/
def execParamDiscard (own : Owner) (tag : Nat) (args : List Byte) (s : State) : Out :=
  acsRow Cmd.PARAM_DISCARD own tag args hParamDiscard s
/-- PARAM_PENDING. -/
def execParamPending (own : Owner) (tag : Nat) (args : List Byte) (s : State) : Out :=
  acsRow Cmd.PARAM_PENDING own tag args hParamPending s

/-- SNAPSHOT_RELEASE (R93): frees a buffer. -/
def hSnapshotRelease : Handler := fun s _ args =>
  let b := fieldAt args 0 1
  if 2 < b then .no Res.badParam []
  else .yes [] { s.dev with win := { s.dev.win with shadow := { s.dev.win.shadow with
    snapFree := s.dev.win.shadow.snapFree ||| (1#3 <<< b)
    snapHeld := s.dev.win.shadow.snapHeld &&& ~~~ (1#3 <<< b) } } }

/-- SNAPSHOT_RELEASE. -/
def execSnapshotRelease (own : Owner) (tag : Nat) (args : List Byte) (s : State) : Out :=
  acsRow Cmd.SNAPSHOT_RELEASE own tag args hSnapshotRelease s

end Sys2Proof.Machine
end

