-- ==== Sys2Proof/Machine/Services.lean ====
section
/-!
DEFINITION. Commands of the subject groups, first half: credentials, the metrology seal, the safety group, the session,
load switches and the lock (R110 with R48, R252, R255, R303 to R306, R320, R328, R331, R404).
-/

namespace Sys2Proof.Machine

/-! Credentials (R48, R404, R461). -/

/-- KIND of a credential. -/
def credKind (c : List Byte) : Nat := fieldAt c 0 1
/-- RIGHTS of a credential. -/
def credRights (c : List Byte) : Nat := fieldAt c 1 1
/-- The operator identity of a credential. -/
def credIdentity (c : List Byte) : List Byte := slice c 4 16

/-- The form of a credential: KIND 1 with a tag of 32 bytes or KIND 2 with a signature of 64, reserved rights 0. -/
def credForm (c : List Byte) : Bool :=
  decide (credRights c < 16) &&
    ((decide (credKind c = 1) && decide (c.length = 88)) || (decide (credKind c = 2) && decide (c.length = 120)))

/-- Not-after has not passed; it is not checked while the clock is INVALID (R404). -/
def credInTime (c : List Byte) (d : Dev) : Bool := decide (d.tar.status = 2) || decide (d.tar.rtc ≤ fieldAt c 36 4)

/-- Serial and nonce are the controller's, and the tag or signature is good (R404). -/
def credGood (c : List Byte) (d : Dev) : Bool :=
  decide (slice c 20 16 = slice Config.serialNumber 0 16) && decide (slice c 40 16 = d.keys.nonce) &&
    (if credKind c = 1 then decide ((keySlot d 4).kind ≠ 0) && Config.kmacOk (keySlot d 4).material (c.take 56) (slice c 56 32)
     else Config.signatureOk (d.blk Param.SERVICE_AUTH_PUBKEY) (c.take 56) (slice c 56 64))

/-- What refuses a credential, in the order of R108: the right, the mode, a lock, not-after, a login that is open, the
check values. While the clock is INVALID only KIND 2 is accepted (R404). -/
def credFault (c : List Byte) (right mode lock busy : Bool) (d : Dev) : Option Nat :=
  if !credForm c then some Res.badParam
  else if !right || (decide (d.tar.status = 2) && decide (credKind c = 1)) then some Res.notPermitted
  else if !mode then some Res.refusedMode
  else if lock then some Res.refusedLock
  else if !credInTime c d then some Res.badParam
  else if busy then some Res.busy
  else if !credGood c d then some Res.checkMismatch else none

/-- The right of a SERVICE_LOGIN (R43, R48, R404): the service right; a local login within its window; a remote one of
KIND 2 with the remote right, and not in Quarantine. -/
def loginRight (c : List Byte) (own : Owner) (s : State) : Bool :=
  (credRights c).testBit 0 &&
    (if own = .host then s.dev.pow.loginWindow.any fun w => decide (s.clk.frame ≤ w)
     else decide (credKind c = 2) && (credRights c).testBit 3 && decide (s.clk.mode ≠ .quarantine))

/-- The login opens (R43, R48): every mode but Factory leads to Service. -/
def openLogin (c : List Byte) (own : Owner) (s : State) (d : Dev) : Dev :=
  let k := d.pow.loginCount + 1
  let l : Login := ⟨decide (own ≠ .host), own, k, credIdentity c, s.clk.mode, s.clk.frame⟩
  let d := { d with pow := { d.pow with login := some l, loginCount := k, loginWindow := none } }
  let d := d.raise Src.own Event.SERVICE_LOGIN (credIdentity c)
  if s.clk.mode = .factory then d else d.reqMode .service .other (causeEvent Event.SERVICE_LOGIN)

/-- SERVICE_LOGIN: a refusal is logged, and either way a new nonce is drawn (R48, R404). -/
def hServiceLogin : Handler := fun s own c =>
  let d := drawNonce s.clk.frame s.dev
  let free := decide (s.clk.mode ≠ .session) && decide (s.clk.mode ≠ .degraded)
  match credFault c (loginRight c own s) free false s.dev.pow.login.isSome s.dev with
  | some r => .noWith r (d.raise Src.own Event.SERVICE_LOGIN (credIdentity c))
  | none =>
    let d := openLogin c own s d
    .yes (leBytes 4 d.pow.loginCount ++ leBytes 2 (d.nat Param.SERVICE_TIMEOUT)) d

/-- SERVICE_LOGIN. -/
def execServiceLogin (own : Owner) (tag : Nat) (args : List Byte) (s : State) : Out :=
  acsRow Cmd.SERVICE_LOGIN own tag args hServiceLogin s

/-- METR_SEAL_OPEN (R116, R122, R404): needs the metrology right and room in the metrology log for the 16 bytes of the
identity. -/
def hMetrSealOpen : Handler := fun s _ c =>
  let d := drawNonce s.clk.frame s.dev
  match credFault c ((credRights c).testBit 1) true (!metrRoom (entriesOf 16) s.dev) false s.dev with
  | some r => .noWith r d
  | none => .yes [] (({ d with acs := { d.acs with sealOpen := true, sealPending := true } }).raiseMetr Src.host
      Event.METR_SEAL_OPENED (credIdentity c))

/-- METR_SEAL_OPEN. -/
def execMetrSealOpen (own : Owner) (tag : Nat) (args : List Byte) (s : State) : Out :=
  acsRow Cmd.METR_SEAL_OPEN own tag args hMetrSealOpen s

/-- METR_SEAL_CLOSE (R170, R467): returns the set check value; in Factory with a valid identity production is
complete. -/
def hMetrSealClose : Handler := fun s _ _ =>
  let d := s.dev
  let check := leBytes 8 d.metr.metrSetCheck
  let d := ({ d with acs := { d.acs with sealOpen := false, sealPending := false } }).raiseMetr Src.host
    Event.METR_SEAL_CLOSED check
  .yes check (d.when (decide (s.clk.mode = .factory) && decide (d.keys.identity = 1)) fun d =>
    { d with pow := { d.pow with factoryComplete := true } })

/-- METR_SEAL_CLOSE. -/
def execMetrSealClose (own : Owner) (tag : Nat) (args : List Byte) (s : State) : Out :=
  acsRow Cmd.METR_SEAL_CLOSE own tag args hMetrSealClose s

/-- TEST_AUTH (R461, R462): a test authorisation for ten minutes; the parameters of an earlier one revert. -/
def hTestAuth : Handler := fun s _ c =>
  let n := s.clk.frame
  let d := drawNonce n s.dev
  match credFault c ((credRights c).testBit 2) true false false s.dev with
  | some r => .noWith r d
  | none =>
    let d := if testActive d then revertTests n 4 d else d
    .yes [] (({ d with diag := { d.diag with testFrom := some n } }).raise Src.host Event.TEST_AUTHORISED
      (credIdentity c ++ leBytes 8 (n + 4800000)))

/-- TEST_AUTH. -/
def execTestAuth (own : Owner) (tag : Nat) (args : List Byte) (s : State) : Out :=
  acsRow Cmd.TEST_AUTH own tag args hTestAuth s

/-! The safety group (R303 to R306). -/

/-- SAFETY_CHECK_READ. -/
def hSafetyCheckRead : Handler := fun s _ _ =>
  .yes (leBytes 8 (safetyCheckOf s.dev) ++ leBytes 1 s.dev.saf.confirmSt) s.dev

/-- SAFETY_CHECK_READ. -/
def execSafetyCheckRead (own : Owner) (tag : Nat) (args : List Byte) (s : State) : Out :=
  acsRow Cmd.SAFETY_CHECK_READ own tag args hSafetyCheckRead s

/-- Step 2 falls 2 s to 60 s after step 1 (R305). -/
def confirmWindow (n : Nat) (d : Dev) : Bool :=
  decide (d.saf.confirmSt = 1) && decide (d.saf.confirmFrame + 16000 ≤ n) && decide (n ≤ d.saf.confirmFrame + 480000)

/-- SAFETY_CONFIRM (R305). -/
def hSafetyConfirm : Handler := fun s _ args =>
  let d := s.dev
  let v := fieldAt args 0 8
  let step := fieldAt args 8 1
  if step ≠ 1 ∧ step ≠ 2 then .no Res.badParam []
  else if v ≠ safetyCheckOf d then .noWith Res.checkMismatch { d with saf := { d.saf with confirmSt := 0 } }
  else if step = 1 then .yes [] { d with saf := { d.saf with confirmSt := 1, confirmFrame := s.clk.frame } }
  else if confirmWindow s.clk.frame d then
    .yes [] (({ d with saf := { d.saf with confirmSt := 2, confirmed := v } }).raise Src.host Event.SAFETY_CONFIRMED
      (leBytes 8 v))
  else .no Res.checkMismatch []

/-- SAFETY_CONFIRM. -/
def execSafetyConfirm (own : Owner) (tag : Nat) (args : List Byte) (s : State) : Out :=
  acsRow Cmd.SAFETY_CONFIRM own tag args hSafetyConfirm s

/-- SAFETY_CONFIRM_EXPIRED is due (R305). -/
def confirmExpired (n : Nat) (d : Dev) : Bool :=
  decide (d.saf.confirmSt = 1) && decide (d.saf.confirmFrame + 480000 < n)

/-- SAFETY_CONFIRM_EXPIRED. -/
def execSafetyConfirmExpired (s : State) : Out :=
  devStep s (Dev.when (s.clk.running && confirmExpired s.clk.frame s.dev) fun d =>
    ({ d with saf := { d.saf with confirmSt := 0 } }).raise Src.host Event.SAFETY_CONFIRM_EXPIRED [])

/-- A function under proof test is enabled (R306). -/
def proofEnabled (k : Nat) (d : Dev) : Bool :=
  if k = 1 then (List.range 4).any fun j => ftEnabled d j
  else if k = 4 then dualEnabled d false || dualEnabled d true || decide (1 < d.nat Param.CONTACTOR_CFG / 2)
  else if k = 5 then dcKind d && d.unitOn 10
  else true

/-- The tests that a function argument names: 6 is tests 1 to 5 in turn (R306). -/
def proofTests (k : Nat) (d : Dev) : List Nat := if k = 6 then ([1, 2, 3, 4, 5].filter (proofEnabled · d)) ++ [6] else [k]

/-- SAFETY_PROOF_TEST (R306): outcome 0 started, 1 the outlet is closed, 2 the function is disabled. -/
def hSafetyProofTest : Handler := fun s _ args =>
  let d := s.dev
  let k := fieldAt args 0 1
  if k = 0 ∨ 6 < k then .no Res.badParam []
  else if outletShut d then .yes [1] d
  else if !proofEnabled k d then .yes [2] d
  else .yes [0] { d with saf := { d.saf with
    proofs := d.saf.proofs ++ (proofTests k d).filter fun t => !d.saf.proofs.contains t } }

/-- SAFETY_PROOF_TEST. -/
def execSafetyProofTest (own : Owner) (tag : Nat) (args : List Byte) (s : State) : Out :=
  acsRow Cmd.SAFETY_PROOF_TEST own tag args hSafetyProofTest s

/-- A test under way has completed (R306): tests 1 to 5 by themselves, 6 once none of them is left. -/
def proofDoneDue (k : Nat) (d : Dev) : Bool :=
  d.saf.proofs.contains k && (decide (k ≠ 6) || d.saf.proofs.all fun t => decide (t = 6))

/-- PROOF_TEST_DONE (R306, R307): the result is held; a failed test 5 is the insulation monitor's own failure, those of
the other tests are found by their diagnostics. -/
def proofDone (s : State) (k : Nat) (pass : Bool) (d : Dev) : Dev :=
  let d := { d with saf := { d.saf with proofs := d.saf.proofs.filter fun t => decide (t ≠ k) } }
  let d := (testResult k pass d).raise Src.serge Event.PROOF_TEST_DONE (leBytes 1 k ++ leBytes 1 (if pass then 1 else 0))
  if k = 5 ∧ ¬pass then trip s 9 2 0 (some SBit.insulation) d else d

/-- PROOF_TEST_DONE. -/
def execProofTestDone (test : Nat) (pass : Bool) (s : State) : Out :=
  devStep s (Dev.when (s.clk.running && proofDoneDue test s.dev) (proofDone s test pass))

/-! The session (R236, R252, R255). -/

/-- The outlet takes no remote start: it holds an authorisation, or the host is lost without FREE_CHARGING (R252). -/
def remoteStartBlocked (d : Dev) : Bool :=
  d.ses.auth.isSome || (!d.win.hostPresent && decide (d.nat Param.FREE_CHARGING = 0))

/-- REMOTE_START (R248, R252): accepts the contract or the card that waits for it, or authorises by itself. -/
def hRemoteStart : Handler := fun s _ args =>
  let d := s.dev
  let token := args.drop 1
  if remoteStartBlocked d then .no Res.refusedMode []
  else if fieldAt args 0 1 ≠ 1 then .no Res.badParam []
  else
    let means := if d.veh.contract = 4 ∧ d.veh.emaid = token then 1
      else if d.ses.request.any fun r => decide (r.1 = token) then 3 else 4
    .yes [] (takeAuth Src.host means token s.clk.frame d)

/-- REMOTE_START. -/
def execRemoteStart (own : Owner) (tag : Nat) (args : List Byte) (s : State) : Out :=
  acsRow Cmd.REMOTE_START own tag args hRemoteStart s

/-- REMOTE_STOP (R255). -/
def hRemoteStop : Handler := fun s own args =>
  if fieldAt args 0 1 ≠ 1 then .no Res.badParam []
  else if s.dev.ses.isOpen then
    .yes [1] (orderedStop s (if own = .host then EndCause.host else EndCause.headEnd) s.dev)
  else .yes [0] s.dev

/-- REMOTE_STOP. -/
def execRemoteStop (own : Owner) (tag : Nat) (args : List Byte) (s : State) : Out :=
  acsRow Cmd.REMOTE_STOP own tag args hRemoteStop s

/-! Load switches and the lock (R320, R328, R331). -/

/-- SWITCH_SET (R312, R328): the next frame's latch applies it. -/
def hSwitchSet : Handler := fun s _ args =>
  let k := fieldAt args 0 1
  if !hswNumber k || decide (2 < fieldAt args 1 1) || decide (4095 < fieldAt args 2 2) then .no Res.badParam []
  else .yes [] (onHsw k (fun h => { h with nextCmd := some (fieldAt args 1 1, fieldAt args 2 2) }) s.dev)

/-- SWITCH_SET. -/
def execSwitchSet (own : Owner) (tag : Nat) (args : List Byte) (s : State) : Out :=
  acsRow Cmd.SWITCH_SET own tag args hSwitchSet s

/-- LATCH_CLEAR (R312, R320): channels 1 to 8, 9 the lock bridge; without a latch it changes nothing. -/
def hLatchClear : Handler := fun s _ args =>
  let d := s.dev
  let k := fieldAt args 0 1
  if k = 9 then .yes [] (d.when d.sw.lockLatched fun d => { d with sw := { d.sw with lockClear := true } })
  else if hswNumber k then
    .yes [] (d.when (d.sw.get k).latched (onHsw k fun h => { h with nextClear := true }))
  else .no Res.badParam []

/-- LATCH_CLEAR. -/
def execLatchClear (own : Owner) (tag : Nat) (args : List Byte) (s : State) : Out :=
  acsRow Cmd.LATCH_CLEAR own tag args hLatchClear s

/-- LOCK_DRIVE (R331): the next frame's latch point starts the drive. Before start-up is complete the lock is not driven
(R62); the answer is then REFUSED_MODE (DESIGN CHOICE, log entry 142). -/
def hLockDrive : Handler := fun s _ args =>
  let d := s.dev
  let v := fieldAt args 0 1
  if d.pow.starting then .no Res.refusedMode []
  else if d.sw.lockLatched then .no Res.refusedLock []
  else if 1 < v then .no Res.badParam []
  else if lockBusy d then .no Res.busy []
  else .yes [] (driveLockNext (decide (v = 1)) d)

/-- LOCK_DRIVE. -/
def execLockDrive (own : Owner) (tag : Nat) (args : List Byte) (s : State) : Out :=
  acsRow Cmd.LOCK_DRIVE own tag args hLockDrive s

end Sys2Proof.Machine
end

