-- ==== Sys2Proof/Machine/Requests.lean ====
section
/-!
DEFINITION. Commands of the subject groups, second half: records and registers, the clock, the calendar, billing, the
display, the Calico island, the authorisation list, keys, images, the scrub, and the bulk window (R98, R110 with R183,
R200, R203, R210, R215, R223, R230, R376, R377, R384, R399, R403, R406, R413, R424 to R427).
-/

namespace Sys2Proof.Machine

/-! Records and registers. -/

/-- Answer OK with data in the bulk window: the host's window when it is free; a head-end reads the data from the method's
own response (R98, R359). -/
def bulkRead (use : BulkUse) (own : Owner) (data : List Byte) (s : State) : Act :=
  if own ≠ .host then .yes [] s.dev
  else if s.dev.acs.bulk.isSome then .no Res.busy []
  else .yes [] (openBulk use s.dev.acs.slotNow data.length data true s.dev)

/-- The record of a number, if held (R200). -/
def recordOf (k : Nat) (d : Dev) : Option Record := d.led.records.find? fun r => decide (r.number = k)

/-- RECORD_READ. -/
def hRecordRead : Handler := fun s own args =>
  match recordOf (fieldAt args 0 4) s.dev with
  | none => .no Res.badParam []
  | some r => bulkRead .record own (recordImage r) s

/-- RECORD_READ. -/
def execRecordRead (own : Owner) (tag : Nat) (args : List Byte) (s : State) : Out :=
  acsRow Cmd.RECORD_READ own tag args hRecordRead s

/-- SIGNATURE_READ (R200): an unsigned record is refused at the right (R108), and so is one whose stored signature is marked
bad (R12, DESIGN CHOICE: log entry 157). -/
def hSignatureRead : Handler := fun s own args =>
  match recordOf (fieldAt args 0 4) s.dev with
  | none => .no Res.badParam []
  | some r => if r.signState ≠ 2 then .no Res.busy [] else bulkRead .signature own (slice r.signature 0 7856) s

/-- SIGNATURE_READ. -/
def execSignatureRead (own : Owner) (tag : Nat) (args : List Byte) (s : State) : Out :=
  acsRow Cmd.SIGNATURE_READ own tag args hSignatureRead s

/-- The place of a secondary register's code (R178). -/
def secondaryOf (c : Nat) : Option Nat :=
  let ph := c % 32 / 8
  let q := c % 8
  if 0x20 ≤ c ∧ c < 0x38 ∧ q < 7 then some (7 * ph + q)
  else if 0x40 ≤ c ∧ c < 0x58 ∧ q < 7 then some (21 + 7 * ph + q)
  else if 0x58 ≤ c ∧ c < 0x5D then some (42 + (c - 0x58)) else none

/-- The readings of a register code: total, T1 to T8, estimated (R203). -/
def registerBytes (c : Nat) (r : Regs) : Option (List Byte) :=
  if c < 11 then some (famBytes (nth {} r.fams c))
  else (secondaryOf c).map fun k => readingBytes (nth 0 r.secondary k) ++ List.replicate 108 0

/-- A dispute holds publication: the values of the last published frame stand (R24, R93). -/
def pubHeld (d : Dev) : Bool := d.lanes.dispute.isSome && !d.win.heldVals.isEmpty

/-- The key of a register code among the held values, and that of their frame. -/
abbrev heldRegister (c : Nat) : Nat := 0x10000 + c
/-- The key of the held frame number. -/
abbrev heldFrame : Nat := 0x20000

/-- REGISTERS_READ (R203). -/
def hRegistersRead : Handler := fun s _ args =>
  let c := fieldAt args 0 1
  match registerBytes c s.regs with
  | none => .no Res.badParam []
  | some now =>
    let v := if pubHeld s.dev then (assoc s.dev.win.heldVals (heldRegister c)).getD now else now
    let f := if pubHeld s.dev then (assoc s.dev.win.heldVals heldFrame).getD [] else leBytes 8 s.clk.frame
    .yes (leBytes 1 c ++ [0, 0, 0] ++ slice f 0 8 ++ v) s.dev

/-- REGISTERS_READ. -/
def execRegistersRead (own : Owner) (tag : Nat) (args : List Byte) (s : State) : Out :=
  acsRow Cmd.REGISTERS_READ own tag args hRegistersRead s

/-! The clock (R209, R210). -/

/-- The status after a set from a source with a step (R209), with the cause logged. -/
def statusAfterSet (src : Nat) (step : Int) (d : Dev) : Nat × Nat :=
  let big := decide (d.nat Param.CLOCK_STEP_MAX < step.natAbs)
  if statusNext d = 2 then (if src = 2 then (0, 1) else (1, 2))
  else if statusNext d = 0 then (if big then (1, 3) else (0, 0))
  else if src = 2 ∧ ¬big ∧ d.tar.rtcDev.natAbs ≤ driftMax then (0, 6) else (1, 0)

/-- The whole seconds that the RTC will show at the next tick: a frame is 4.096 of its periods (R206). -/
def rtcNext (d : Dev) : Nat := (d.tar.rtc * 32768 + d.tar.sub + 4) / 32768

/-- A set executed in frame n is loaded at the tick of frame n+1 (R210). -/
def clockSetEff (src time : Nat) (d : Dev) : Dev :=
  let old := rtcNext d
  let step : Int := (time : Int) - old
  let st := statusAfterSet src step d
  let d := { d with tar := { d.tar with
    load := some (time, src), lastSet := time, lastStep := step, setCount := d.tar.setCount + 1
    headEndSet := if src = 2 then time else d.tar.headEndSet } }
  let d := d.raise Src.metr Event.CLOCK_STEPPED
    (leBytes 4 old ++ leBytes 4 time ++ leBytesInt 4 step ++ leBytes 1 src)
  clockChange st.1 st.2 d

/-- CLOCK_SET (R210): the response carries the status from the next frame on. -/
def hClockSet : Handler := fun s _ args =>
  let t := fieldAt args 0 4
  let src := fieldAt args 4 1
  if t < 757382400 then .no Res.badParam []
  else
    let d := clockSetEff src t s.dev
    .yes (leBytes 1 (statusNext d)) d

/-- CLOCK_SET. -/
def execClockSet (own : Owner) (tag : Nat) (args : List Byte) (s : State) : Out :=
  acsRow Cmd.CLOCK_SET own tag args hClockSet s

/-! Calendar, billing and display (R215, R223, R230). -/

/-- Start a job for an owner: BUSY without a place (R89). -/
def startFor (kind : JobKind) (own : Owner) (arg : Nat) (payload : List Byte) (d : Dev) : Act :=
  if jobRoom (ownerCode own) d then .job d.acs.nextJob payload (startJob kind (ownerCode own) arg d) else .no Res.busy []

/-- CALENDAR_ACTIVATE. -/
def hCalendarActivate : Handler := fun s own args =>
  if (jobOf .calendar s.dev).isSome then .no Res.busy [] else startFor .calendar own (fieldAt args 0 4) [] s.dev

/-- CALENDAR_ACTIVATE. -/
def execCalendarActivate (own : Owner) (tag : Nat) (args : List Byte) (s : State) : Out :=
  acsRow Cmd.CALENDAR_ACTIVATE own tag args hCalendarActivate s

/-- CALENDAR_ARMED (R215): the calendar job ends, arming the passive calendar or rejecting it. -/
def calendarArmed (d : Dev) : Dev :=
  match jobOf .calendar d with
  | none => d
  | some j =>
    let cal := d.blk Param.PASSIVE_CALENDAR
    let d := { d with tar := { d.tar with passiveCheck := calendarCheck cal } }
    match calendarFault cal with
    | some off => endJob j.id 4 Res.badParam (d.raise Src.metr Event.CALENDAR_REJECTED (leBytes 4 off))
    | none =>
      let t := if j.arg = 0 then d.tar.rtc else j.arg
      let d := { d with tar := { d.tar with armed := some t } }
      endJob j.id 3 0 (d.raise Src.metr Event.CALENDAR_ARMED (leBytes 4 t ++ leBytes 8 (calendarCheck cal)))

/-- CALENDAR_ARMED. -/
def execCalendarArmed (s : State) : Out := devStep s (Dev.when s.clk.running calendarArmed)

/-- BILLING_CLOSE (R223): taken in the tariff step of the next frame. -/
def hBillingClose : Handler := fun s own _ =>
  let d := s.dev
  .yes (leBytes 1 (d.tar.billCount % 24))
    { d with tar := { d.tar with billPending := some (if own = .host then 3 else 4, s.clk.frame) } }

/-- BILLING_CLOSE. -/
def execBillingClose (own : Owner) (tag : Nat) (args : List Byte) (s : State) : Out :=
  acsRow Cmd.BILLING_CLOSE own tag args hBillingClose s

/-- DISPLAY_STEP (R230). -/
def hDisplayStep : Handler := fun s _ _ => .yes [] (displayStep s.clk.frame s.dev)

/-- DISPLAY_STEP. -/
def execDisplayStep (own : Owner) (tag : Nat) (args : List Byte) (s : State) : Out :=
  acsRow Cmd.DISPLAY_STEP own tag args hDisplayStep s

/-- CALICO_STAGING_STATUS (R384). -/
def hCalicoStagingStatus : Handler := fun s _ _ =>
  .yes (stagingStatus s.dev.cal ++ leBytes 1 (stagingOutcome s.dev.cal)) s.dev

/-- CALICO_STAGING_STATUS. -/
def execCalicoStagingStatus (own : Owner) (tag : Nat) (args : List Byte) (s : State) : Out :=
  acsRow Cmd.CALICO_STAGING_STATUS own tag args hCalicoStagingStatus s

/-! The authorisation list (R376, R377). -/

/-- Entries of a load arrive; the last ends it (R377). -/
def loadEntries (data : List Byte) (d : Dev) : Dev :=
  let d := { d with nfc := { d.nfc with loadBytes := d.nfc.loadBytes ++ data } }
  if 24 * d.nfc.loadCount ≤ d.nfc.loadBytes.length then
    ({ d with nfc := { d.nfc with loadSt := 2 } }).raise (ownerSrc d.nfc.loadOwner) Event.AUTH_LIST_LOADED
      (leBytes 4 d.nfc.loadVersion ++ leBytes 1 d.nfc.loadOwner)
  else d

/-- AUTH_LOAD opens the load bank to its owner (R377). -/
def openLoad (version count owner : Nat) (d : Dev) : Dev :=
  { d with nfc := { d.nfc with
      loadSt := 1, loadVersion := version, loadCount := count, loadOwner := owner, loadBytes := [] } }

/-- The bulk window is owned by something other than a load of the same owner. -/
def bulkTaken (use : BulkUse) (d : Dev) : Bool := d.acs.bulk.any fun b => decide (b.use ≠ use)

/-- AUTH_LOAD. -/
def hAuthLoad : Handler := fun s own args =>
  let d := s.dev
  let version := fieldAt args 0 4
  let count := fieldAt args 4 2
  let o := ownerCode own
  if version ≤ d.nfc.listVersion ∨ 8192 < count then .no Res.badParam []
  else if (decide (d.nfc.loadSt ≠ 0) && decide (d.nfc.loadOwner ≠ o)) || decide (d.nfc.loadSt = 3) ||
      (decide (own = .host) && bulkTaken .auth d) then .no Res.busy []
  else
    let d := openLoad version count o d
    if own ≠ .host then .yes [] (loadEntries (args.drop 6) d)
    else if count = 0 then .yes [] (loadEntries [] d)
    else .yes [] (openBulk .auth d.acs.slotNow (24 * count) [] false d)

/-- AUTH_LOAD. -/
def execAuthLoad (own : Owner) (tag : Nat) (args : List Byte) (s : State) : Out :=
  acsRow Cmd.AUTH_LOAD own tag args hAuthLoad s

/-- AUTH_SWAP. -/
def hAuthSwap : Handler := fun s own args =>
  let d := s.dev
  if d.nfc.loadSt ≠ 2 ∨ d.nfc.loadOwner ≠ ownerCode own ∨ d.nfc.loadVersion ≠ fieldAt args 0 4 ∨
      d.nfc.loadBytes.length ≠ 24 * d.nfc.loadCount then .no Res.badParam []
  else if !jobRoom (ownerCode own) d then .no Res.busy []
  else if (crc32 d.nfc.loadBytes).toNat ≠ fieldAt args 4 4 then .no Res.checkMismatch []
  else startFor .authSwap own (fieldAt args 0 4) [] { d with nfc := { d.nfc with loadSt := 3 } }

/-- AUTH_SWAP. -/
def execAuthSwap (own : Owner) (tag : Nat) (args : List Byte) (s : State) : Out :=
  acsRow Cmd.AUTH_SWAP own tag args hAuthSwap s

/-- AUTH_LOOKUP (R376): kinds 1, 2 and 3 in turn, in the bank active at the frame's tick. -/
def hAuthLookup : Handler := fun s _ args =>
  let d := settleSwap s.clk.frame s.dev
  let e := [1, 2, 3].findSome? fun k => findEntry d k args
  .yes (leBytes 1 (if e.isSome then 1 else 0) ++ slice (e.getD []) 0 24 ++ leBytes 4 d.nfc.listVersion) d

/-- AUTH_LOOKUP. -/
def execAuthLookup (own : Owner) (tag : Nat) (args : List Byte) (s : State) : Out :=
  acsRow Cmd.AUTH_LOOKUP own tag args hAuthLookup s

/-! Keys and enrolment (R399, R403, R406, R413). -/

/-- A record is open or pending: the record key stays (R399). -/
def recordKeyBusy (d : Dev) : Bool := d.led.records.any fun r => decide (r.signState = 0 ∨ r.signState = 1)

/-- KEY_DERIVE: its job carries slot and GENERATION. -/
def hKeyDerive : Handler := fun s own args =>
  let d := s.dev
  let k := fieldAt args 0 1
  let gen := fieldAt args 1 4
  if (k = 0 ∨ k = 2) ∧ s.clk.mode = .service ∧ d.keys.identity = 1 then .no Res.refusedMode []
  else if 16 ≤ k ∨ slotKind k ≠ 1 ∨ gen ≤ (keySlot d k).generation then .no Res.badParam []
  else if k = 1 ∧ recordKeyBusy d then .no Res.busy []
  else startFor .derive own (k + 256 * gen) [] d

/-- KEY_DERIVE. -/
def execKeyDerive (own : Owner) (tag : Nat) (args : List Byte) (s : State) : Out :=
  acsRow Cmd.KEY_DERIVE own tag args hKeyDerive s

/-- The statement of ATTEST (R403). -/
def attestStatement (challenge : List Byte) (s : State) : List Byte :=
  let d := s.dev
  let v := d.keys.vault
  slice (asciiPad 4 "ATST" ++ leBytes 2 1 ++ leBytes 2 256 ++ slice Config.serialNumber 0 16 ++ slice challenge 0 32 ++
    leBytes 8 s.clk.frame ++ leBytes 4 d.tar.rtc ++ leBytes 1 s.clk.mode.code ++ leBytes 1 d.tar.status ++
    leBytes 2 (tamperState d) ++ (List.range 5).flatMap (fun k => leBytes 4 (partVersion d (k + 1))) ++
    leBytes 4 v.manifest ++ (slice5 v.rollback).flatMap (leBytes 4) ++ leBytes 4 v.eraseCount ++
    leBytes 8 (metrCheck d) ++ leBytes 8 d.metr.metrSetCheck ++ leBytes 8 (safetyCheckOf d) ++
    leBytes 4 d.keys.recordKeyId ++ leBytes 4 v.rootGen ++ entryDigestBytes (slotPublic d 0) ++
    slice (slotPublic d 1) 0 32 ++ leBytes 1 d.saf.confirmSt) 0 256

/-- ATTEST (R403): one attestation at a time; a signing job that names no record. -/
def hAttest : Handler := fun s own args =>
  let d := s.dev
  if (attestJob d).isSome then .no Res.busy []
  else startFor .signing own 0 [] { d with keys := { d.keys with statement := attestStatement args s } }

/-- ATTEST. -/
def execAttest (own : Owner) (tag : Nat) (args : List Byte) (s : State) : Out :=
  acsRow Cmd.ATTEST own tag args hAttest s

/-- The length of an enrolment token (R412). -/
def tokenLength : Nat := 29984

/-- ENROL (R413): the token follows in the bulk window, or comes with a head-end's command. -/
def hEnrol : Handler := fun s own args =>
  let d := s.dev
  if d.keys.rootJob.isSome || d.keys.checking || (decide (own = .host) && bulkTaken .enrol d) ||
      (decide (own ≠ .host) && !jobRoom 0 d) then .no Res.busy []
  else if own ≠ .host then .yes [] (startTokenCheck args d)
  else .yes [] (openBulk .enrol d.acs.slotNow tokenLength [] false
    { d with keys := { d.keys with enrolSt := 1, enrolResult := 0, token := [] } })

/-- ENROL. -/
def execEnrol (own : Owner) (tag : Nat) (args : List Byte) (s : State) : Out :=
  acsRow Cmd.ENROL own tag args hEnrol s

/-- TAMPER_ACK (R406). -/
def hTamperAck : Handler := fun s _ args =>
  let d := s.dev
  let k := fieldAt args 0 2
  if 1 ≤ k ∧ k ≤ 8 ∧ d.keys.active.getLsbD (k - 1) then .no Res.refusedLock []
  else if k = 0 ∨ 8 < k then .no Res.badParam []
  else .yes [] (({ d with keys := { d.keys with latched := d.keys.latched &&& ~~~ (1#8 <<< (k - 1)) } }).raise Src.host
    Event.TAMPER_ACKED (leBytes 1 k ++ (d.pow.login.map Login.identity).getD (List.replicate 16 0)))

/-- TAMPER_ACK. -/
def execTamperAck (own : Owner) (tag : Nat) (args : List Byte) (s : State) : Out :=
  acsRow Cmd.TAMPER_ACK own tag args hTamperAck s

/-! Images and the scrub (R183, R424 to R427). -/

/-- IMAGE_STAGE: the payload is the first chunk not yet written. -/
def hImageStage : Handler := fun s own args =>
  let d := s.dev
  let part := fieldAt args 0 1
  let len := fieldAt args 1 4
  if 5 < part ∨ len = 0 ∨ 8388608 < len ∨ !partNamed part d then .no Res.badParam []
  else if d.upd.activation.isSome || d.acs.bulk.isSome || (verifyJob d).isSome || !jobRoom (ownerCode own) d then
    .no Res.busy []
  else
    let d' := stageImage (ownerCode own) part len d
    .job d.acs.nextJob (leBytes 2 d'.upd.chunks) d'

/-- IMAGE_STAGE. -/
def execImageStage (own : Owner) (tag : Nat) (args : List Byte) (s : State) : Out :=
  acsRow Cmd.IMAGE_STAGE own tag args hImageStage s

/-- IMAGE_VERIFY (R426): an object received whole, and one verification at a time. -/
def hImageVerify : Handler := fun s own _ =>
  let d := s.dev
  if d.upd.st < 2 ∨ d.upd.staged.isEmpty then .no Res.badParam []
  else if d.upd.activation.isSome || (verifyJob d).isSome then .no Res.busy []
  else startFor .verify own 0 [] { d with upd := { d.upd with st := 3 } }

/-- IMAGE_VERIFY. -/
def execImageVerify (own : Owner) (tag : Nat) (args : List Byte) (s : State) : Out :=
  acsRow Cmd.IMAGE_VERIFY own tag args hImageVerify s

/-- IMAGE_ACTIVATE (R427). -/
def hImageActivate : Handler := fun s own args =>
  match activateFault s (fieldAt args 0 4) with
  | some r => .no r []
  | none => .yes [] (startActivation s (ownerSrc (ownerCode own)) s.dev)

/-- IMAGE_ACTIVATE. -/
def execImageActivate (own : Owner) (tag : Nat) (args : List Byte) (s : State) : Out :=
  acsRow Cmd.IMAGE_ACTIVATE own tag args hImageActivate s

/-- SCRUB_START (R183): a mask of the arrays A and B. -/
def hScrubStart : Handler := fun s own args =>
  let m := fieldAt args 0 1
  if m = 0 ∨ 3 < m then .no Res.badParam []
  else if !jobRoom (ownerCode own) s.dev then .no Res.busy []
  else .job s.dev.acs.nextJob [] (scrubJob (ownerCode own) m s.clk.frame s.dev)

/-- SCRUB_START. -/
def execScrubStart (own : Owner) (tag : Nat) (args : List Byte) (s : State) : Out :=
  acsRow Cmd.SCRUB_START own tag args hScrubStart s

/-! The bulk window (R98). -/

/-- The modes of the command that owns the window (R109, R110). -/
def bulkModes (u : BulkUse) : Nat :=
  match u with
  | .record | .signature => 0xFF
  | .auth => 0xFE
  | .enrol => 0x82
  | .image => 0xC1

/-- Bytes of a transfer received so far. -/
def bulkGot (b : Bulk) (d : Dev) : Nat :=
  match b.use with
  | .auth => d.nfc.loadBytes.length
  | .image => d.upd.staged.length
  | _ => b.data.length

/-- The chunk of data to the host that comes next. -/
def bulkOut (b : Bulk) : List Byte := (b.data.drop (4096 * b.next)).take 4096

/-- The host has taken a chunk: the next appears in the window, or the window is free. -/
def bulkAck (b : Bulk) (d : Dev) : Dev :=
  let b' := { b with next := b.next + 1 }
  if (bulkOut b').isEmpty then { d with acs := { d.acs with bulk := none } }
  else { d with
    acs := { d.acs with bulk := some b' }
    win := { d.win with shadow := { d.win.shadow with
      writes := d.win.shadow.writes ++ [(0xF000, slice (bulkOut b') 0 4096)] } } }

/-- A chunk from the host reaches its user; the last frees the window. -/
def bulkTake (b : Bulk) (data : List Byte) (d : Dev) : Dev :=
  let last := decide (b.length ≤ bulkGot b d + data.length)
  let b' := { b with next := b.next + 1, data := if b.use = BulkUse.enrol then b.data ++ data else b.data }
  let d := { d with acs := { d.acs with bulk := if last then none else some b' } }
  match b.use with
  | .auth => loadEntries data d
  | .image => stageChunk data d
  | .enrol => if last then startTokenCheck b'.data d else d
  | _ => d

/-- BULK_CHUNK (R98, R109): the payload is the next chunk expected. -/
def hBulkChunk : Handler := fun s _ args =>
  let d := s.dev
  let k := fieldAt args 0 2
  let len := fieldAt args 2 2
  match d.acs.bulk with
  | none => .no Res.badParam []
  | some b =>
    let data := if b.toHost then bulkOut b else Mem.readBytes d.win.mem 0xF000 len
    if !recoveryOnly s && !(bulkModes b.use).testBit s.clk.mode.code then .no Res.refusedMode []
    else if len = 0 ∨ 4096 < len ∨ k ≠ b.next % 65536 ∨ data.length ≠ len ∨
        (¬b.toHost ∧ b.length < bulkGot b d + len) then .no Res.badParam []
    else if (crc32 data).toNat ≠ fieldAt args 4 4 then .no Res.checkMismatch []
    else .yes (leBytes 2 (k + 1)) (if b.toHost then bulkAck b d else bulkTake b data d)

/-- BULK_CHUNK. -/
def execBulkChunk (own : Owner) (tag : Nat) (args : List Byte) (s : State) : Out :=
  acsRow Cmd.BULK_CHUNK own tag args hBulkChunk s

end Sys2Proof.Machine
end

