-- ==== Sys2Proof/Machine/Commit.lean ====
section
/-!
DEFINITION. Writing parameters (R112 to R117): the checks of a value, PARAM_WRITE, PARAM_WRITE_BLOCK, PARAM_COMMIT with
what a commit does beside the values, the values' coming into force at the next tick, the rows of single WO and RW
parameters, and the validation of a Calico package (R385).
-/

namespace Sys2Proof.Machine

/-! Values (R112, and the rules of the parameters). -/

/-- A temperature input code or none (R171, R266). -/
def tempSource (v : Nat) : Bool := decide (v ≤ 16 ∨ v = 32)

/-- Bytes 0 to 2 at most k, byte 3 reserved. -/
def threeBytes (k v : Nat) : Bool :=
  decide (v % 256 ≤ k) && decide (v / 256 % 256 ≤ k) && decide (v / 65536 % 256 ≤ k) && decide (v < 2 ^ 24)

/-- HSW_CFG (R335): ASSIGN, TSOURCE, HOSTLOSS and the reserved bits. -/
def hswCfgOk (v : Nat) : Bool :=
  decide (v / 128 % 8 ≤ 4) && tempSource (v / 1024 % 64) && decide (v / 524288 % 4 ≠ 3) && decide (v < 2 ^ 21)

/-- What a scalar's own rule admits beyond MIN to MAX; k is the place in its row. -/
def ruleOk (base k v : Nat) : Bool :=
  if base = Param.CH_PGA then decide (v ≤ pgaMax k)
  else if base = Param.CH_INTEG then decide (v = 0) || integOk k
  else if base = Param.TC_SOURCE ∨ base = Param.DERATE_SOURCE then tempSource v
  else if base = Param.LP1_PERIOD ∨ base = Param.LP2_PERIOD then [1, 2, 3, 5, 10, 15, 20, 30, 60].contains v
  else if base = Param.LP1_SOURCES ∨ base = Param.LP2_SOURCES then threeBytes 10 v
  else if base = Param.DEM_PERIOD then [5, 10, 15, 30, 60].contains v
  else if base = Param.PULSE_SOURCE then decide (v ≤ 7)
  else if base = Param.PROTOCOL_ORDER then threeBytes 3 v
  else if base = Param.PAYMENT_OPTIONS then decide (v ≤ 3)
  else if base = Param.FT_CFG then decide (v % 65536 < 1024) && decide (v < 2 ^ 18)
  else if base = Param.UNIT_ENABLE then decide (v < 2 ^ 14) && (v.testBit 12 || v.testBit 13)
  else if base = Param.HSW_CFG then hswCfgOk v
  else if base = Param.OT_SOURCE then decide (v % 256 ≤ 16) && decide (v / 256 ≤ 16)
  else if base = Param.TAMPER_CFG then decide (v < 2 ^ 20)
  else if base = Param.CONTACTOR_CFG then decide (v ≤ 7)
  else if base = Param.POLL_TYPES then decide (1 ≤ v ∧ v ≤ 3)
  else true

/-- A scalar value is one that its parameter takes (R108 step 5, R112). -/
def valueOk (id : Nat) (v : Int) : Bool :=
  match rowOf id with
  | none => false
  | some r =>
    decide (r.min ≤ v ∧ v ≤ r.max) &&
      (if id / 256 = 0x70 then testValueOk id v.toNat else ruleOk r.id (r.nth id) v.toNat)

/-- An entry of DISP_LIST (R228, R229). -/
def dispEntryOk (e : List Byte) : Bool :=
  let kind := fieldAt e 0 1
  let a := fieldAt e 1 1
  decide (fieldAt e 2 1 ≤ 97) && decide (fieldAt e 3 1 = 0) &&
    (if kind = 1 ∨ kind = 0xC then decide (a ≤ 10)
     else if kind = 2 then decide (1 ≤ a / 16 ∧ a / 16 ≤ 8 ∧ a % 16 ≤ 10)
     else if kind = 3 then decide (a / 16 ≤ 8 ∧ 1 ≤ a % 16 ∧ a % 16 ≤ 3)
     else if kind = 7 ∨ kind = 0xA then decide (a ≤ 1)
     else if kind = 8 ∨ kind = 9 then decide (a / 16 ≤ 1 ∧ 1 ≤ a % 16 ∧ a % 16 ≤ 3)
     else decide (4 ≤ kind ∧ kind ≤ 0x10 ∧ a = 0))

/-- An instant of DST_RULE (R211): month, week, weekday, minute of the day. -/
def dstInstantOk (month week day minute : Nat) : Bool :=
  decide (1 ≤ month ∧ month ≤ 12) && decide (1 ≤ week ∧ week ≤ 5) && decide (1 ≤ day ∧ day ≤ 7) && decide (minute < 1440)

/-- DST_RULE (R211). -/
def dstRuleOk (b : List Byte) : Bool :=
  let f := fun k w => fieldAt b k w
  decide (f 0 1 = 0) || (decide (f 0 1 = 1) && decide (f 1 1 = 30 ∨ f 1 1 = 60) &&
    dstInstantOk (f 2 1) (f 3 1) (f 4 1) (f 6 2) && dstInstantOk (f 8 1) (f 9 1) (f 10 1) (f 12 2) &&
    decide (f 5 1 = 0 ∧ f 11 1 = 0 ∧ f 14 2 = 0))

/-- A user profile (R315, R337): limits of the steps used and the blanking; a step of duration 0 is skipped. -/
def userProfileOk (b : List Byte) : Bool :=
  ((List.range 8).all fun k =>
    let lim := fieldAt b (4 * k + 2) 2
    decide (2000 ≤ lim ∧ lim ≤ 12000) || (decide (lim = 0) && decide (fieldAt b (4 * k) 2 = 0))) &&
  decide (1 ≤ fieldAt b 32 2 ∧ fieldAt b 32 2 ≤ 200) && decide (fieldAt b 34 2 = 0)

/-- AUX_SCAN (R142). -/
def scanOk (b : List Byte) : Bool :=
  let n := fieldAt b 0 1
  decide (1 ≤ n ∧ n ≤ 30) && ((b.drop 1).take n).all fun c =>
    decide ((1 ≤ c.toNat ∧ c.toNat ≤ 16) ∨ c.toNat = 0x20 ∨ c.toNat = 0x21)

/-- A block value is one that its parameter takes. -/
def blockOk (id : Nat) (b : List Byte) : Bool :=
  if id = Param.AUX_SCAN then scanOk b
  else if id = Param.DISP_LIST then
    decide (fieldAt b 0 1 ≤ 46) && decide (slice b 1 3 = [0, 0, 0]) &&
      (List.range (fieldAt b 0 1)).all fun k => dispEntryOk (slice b (4 + 4 * k) 4)
  else if id = Param.PROFILE_USER ∨ id = Param.PROFILE_USER + 1 then userProfileOk b
  else if id = Param.CARD_AID then decide (fieldAt b 0 1 = 0 ∨ (5 ≤ fieldAt b 0 1 ∧ fieldAt b 0 1 ≤ 16))
  else if id = Param.DST_RULE then dstRuleOk b
  else if id = Param.PUSH_DESTINATION then decide (fieldAt b 18 2 = 0)
  else true

/-! Where values live. -/

/-- The slot of an imported key's parameter (R397, R400); none for another parameter. -/
def keySlotOf (id : Nat) : Option Nat :=
  if Param.DLMS_KEY ≤ id ∧ id < Param.DLMS_KEY + 3 then some (5 + (id - Param.DLMS_KEY))
  else if id = Param.GPLC_PSK then some 10
  else if id = Param.COMM_KEY then some 3
  else if id = Param.OPERATOR_KEY then some 4
  else none

/-- The parameter store holds the value: neither a key of a slot nor a parameter that is delivered to a unit. -/
def storedId (id : Nat) : Bool :=
  (keySlotOf id).isNone && decide (id / 256 ≠ 0x70) && (rowOf id).any fun r => decide (r.acc ≠ 3 ∧ r.acc ≠ 0)

/-- The whole value that staged block bytes give over the present one; a text is replaced whole (R113). -/
def overBlock (id off : Nat) (bs cur : List Byte) : List Byte :=
  if (rowOf id).any (fun r => decide (r.ty = 0x30)) then bs else splice cur off bs

/-- A staged value takes its place in the store. -/
def storeStaged (d : Dev) (e : Staged) : Dev :=
  if !storedId e.id then d
  else match e with
    | .num id v => d.setNum id v
    | .blk id off bs => d.setBlk id (overBlock id off bs (d.blk id))

/-- The store as it will be at the next tick, by what has been executed in the frame so far (R117). -/
def inForce (d : Dev) : Dev := d.acs.nextTick.foldl storeStaged d

/-! Checks that an entry passes before anything has effect (R108, R113, R115, R116, R461). -/

/-- Step and result of what an entry's mode, authorisation and seal refuse. -/
def writeGate (id : Nat) (s : State) : Option (Nat × Nat) :=
  match rowOf id with
  | none => some (1, Res.badParam)
  | some r =>
    if !(modesWOf r id).testBit s.clk.mode.code then some (3, Res.refusedMode)
    else if id / 256 = 0x70 ∧ testActive s.dev = false then some (3, Res.notPermitted)
    else if (flagsOf r id).testBit 0 ∧ s.clk.mode = .service ∧ s.dev.acs.sealOpen = false then some (4, Res.refusedLock)
    else none

/-- The failure of the lowest step, with the place of the first entry that meets it. -/
def lowest : Nat → List (Option (Nat × Nat)) → Option (Nat × Nat × Nat)
  | _, [] => none
  | k, none :: r => lowest (k + 1) r
  | k, some (st, res) :: r =>
    match lowest (k + 1) r with
    | some (k', st', res') => if st' < st then some (k', st', res') else some (k, st, res)
    | none => some (k, st, res)

/-- The scalar value of an entry's bytes, by TYPE (R111). -/
def entryNum (id : Nat) (bs : List Byte) : Int :=
  match rowOf id with
  | some r => if 0x11 ≤ r.ty ∧ r.ty ≤ 0x14 then leInt r.len bs else (leNat bs : Int)
  | none => 0

/-- An entry as it is staged: a number, or a text whole. -/
def entryStaged (id : Nat) (bs : List Byte) : Staged :=
  if (rowOf id).any (fun r => decide (r.ty = 0x30)) then .blk id 0 bs else .num id (entryNum id bs)

/-- The value of an entry is in its range. -/
def stagedOk : Staged → Bool
  | .num id v => valueOk id v
  | .blk _ _ _ => true

/-- What an entry fails. -/
def entryFault (s : State) (e : Staged) : Option (Nat × Nat) :=
  match writeGate e.id s with
  | some f => some f
  | none => if stagedOk e then none else some (5, Res.badParam)

/-- SOURCE of an event that a command's owner causes (R23). -/
def srcOf (own : Owner) : Nat := ownerSrc (ownerCode own)

/-- An RW, W1C or WO entry is queued for the tick of the next frame (R113). -/
def queueWrite (own : Owner) (d : Dev) (e : Staged) : Dev :=
  let d := { d with acs := { d.acs with nextTick := d.acs.nextTick.filter (fun x => !Staged.same x e) ++ [e] } }
  let d := d.raise (srcOf own) Event.PARAM_WRITTEN (leBytes 1 (ownerCode own) ++ leBytes 2 e.id)
  match e with
  | .num id v => if id / 256 = 0x70 then testLogged id v.toNat d else d
  | .blk _ _ _ => d

/-- An entry goes to the pending set (R113). -/
def isCommitted (id : Nat) : Bool := (rowOf id).any fun r => decide (r.acc = 4)

/-- Entries that passed every check are written (R113); none when the pending set has no room, or a lane perturbation is
refused for the time being (R114, R465). -/
def writeAll (own : Owner) (es : List Staged) (d : Dev) : Option Dev :=
  let p := (pendingOf own d).stage (es.filter fun e => isCommitted e.id)
  if lanePertBusy (es.map Staged.id) d || !p.fits then none
  else some ((es.filter fun e => !isCommitted e.id).foldl (queueWrite own) (setPending own p d))

/-- PARAM_WRITE (R109, R113). -/
def hParamWrite : Handler := fun s own args =>
  let es := ((writeEntries (fieldAt args 0 2) (args.drop 4)).getD []).map fun e => entryStaged e.1 e.2.2
  match lowest 0 (es.map (entryFault s)) with
  | some (k, _, res) => .no res (if res = Res.badParam then leBytes 2 k else [])
  | none =>
    match writeAll own es s.dev with
    | none => .no Res.busy []
    | some d => .yes (leBytes 4 (pendingOf own d).serial) d

/-- PARAM_WRITE. -/
def execParamWrite (own : Owner) (tag : Nat) (args : List Byte) (s : State) : Out :=
  acsRow Cmd.PARAM_WRITE own tag args hParamWrite s

/-- The value of a written block is in order as far as the write shows: the range, a key whole (R400), and a block that
one write can carry whole. The calendar, the temperature tables and curves are checked at the commit alone (R152, R171,
R213). -/
def blockWriteOk (r : PRow) (id off : Nat) (bs : List Byte) (d : Dev) : Bool :=
  decide (1 ≤ bs.length ∧ bs.length ≤ 992) && decide (off + bs.length ≤ r.len) &&
    ((keySlotOf id).isNone || (decide (off = 0) && decide (bs.length = r.len))) &&
    (decide (992 < r.len) || blockOk id (overBlock id off bs (d.blk id)))

/-- PARAM_WRITE_BLOCK (R109, R113): always to the pending set. TEST_PARAM_SET carries the bytes that the write sets (DESIGN
CHOICE, log entry 156). -/
def hParamWriteBlock : Handler := fun s own args =>
  let id := fieldAt args 0 2
  let off := fieldAt args 4 4
  let bs := args.drop 10
  match rowOf id, writeGate id s with
  | some _, some (_, res) => .no res []
  | some r, none =>
    let p := (pendingOf own s.dev).stage [.blk id off bs]
    let pend := ((pendingOf own s.dev).entries.filter fun e => decide (e.id = id)).foldl storeStaged s.dev
    if !blockWriteOk r id off bs pend then .no Res.badParam []
    else if !p.fits then .no Res.busy []
    else
      let d := setPending own p s.dev
      let d := if id / 256 = 0x70 then d.raise Src.host Event.TEST_PARAM_SET (leBytes 2 id ++ bs) else d
      .yes (leBytes 4 p.serial) d
  | none, _ => .no Res.badParam []

/-- PARAM_WRITE_BLOCK. -/
def execParamWriteBlock (own : Owner) (tag : Nat) (args : List Byte) (s : State) : Out :=
  acsRow Cmd.PARAM_WRITE_BLOCK own tag args hParamWriteBlock s

/-! Checks of a commit over the values that it puts in force. -/

/-- FREQ_MIN and FREQ_MAX enclose the nominal frequency (R173). -/
def freqOk (d : Dev) : Bool :=
  let f := if d.num Param.NOMINAL_F = 0 then 50000 else 60000
  decide (d.nat Param.FREQ_MIN < f) && decide (f < d.nat Param.FREQ_MAX)

/-- The sub-intervals divide the period into whole minutes (R233). -/
def demandOk (j : Nat) (d : Dev) : Bool :=
  decide (d.nat (Param.DEM_PERIOD + 8 * j) % max 1 (d.nat (Param.DEM_SUBPERIODS + 8 * j)) = 0)

/-- OT_SOURCE names inputs with a curve (R307). -/
def otSourceOk (d : Dev) : Bool :=
  let v := d.nat Param.OT_SOURCE
  [v % 256, v / 256].all fun c => decide (c = 0) || curveUsed (d.blk (Param.TEMP_CURVE + (c - 1)))

/-- CAL_PHASE and every table phase value stay within 6,000 together (R171). -/
def phaseSumOk (c : Nat) (d : Dev) : Bool :=
  let tab := d.blk (Param.TC_TABLE + 16 * c)
  (List.range 33).all fun k =>
    decide ((d.num (Param.CAL_PHASE + 16 * c) + leInt 2 (slice tab (4 * k + 2) 2)).natAbs ≤ 6000)

/-- Rated power of a pulse source with 20 % above it, in 10⁻⁶ × 10⁻¹ W: nano units that keep it whole (R166). -/
def pulsePower (src : Nat) (d : Dev) : Nat :=
  let phases := if d.num Param.WIRING = 1 then 1 else 3
  match pulseFamily src with
  | none => 0
  | some f =>
    if f ≤ 6 then 12 * phases * d.nat Param.NOMINAL_U * d.nat Param.NOMINAL_I_GRID
    else if f ≤ 8 then 12 * phases * d.nat Param.NOMINAL_U * d.nat Param.NOMINAL_I_OUTLET
    else 12 * d.nat Param.RATED_UDC * d.nat Param.RATED_IDC

/-- W ≤ 1.44 × 10⁹ ÷ (C × P_r) for a pulse output with a source (R166). -/
def pulseRateOk (j : Nat) (d : Dev) : Bool :=
  let src := d.nat (Param.PULSE_SOURCE + 8 * j)
  decide (src = 0) || decide (d.nat (Param.PULSE_WIDTH + 8 * j) * (d.nat (Param.PULSE_CONST + 8 * j) * pulsePower src d) ≤
    144 * 10 ^ 14)

/-- The lowest class of each source (R405), and the classes of TAMPER_CFG. -/
def tamperOk (d : Dev) : Bool :=
  let v := d.nat Param.TAMPER_CFG
  [6, 7, 8].all fun s => decide (2 ≤ v / 4 ^ (s - 1) % 4)

/-- A curve in use is strictly ascending in its results (R152). -/
def curveOk (b : List Byte) : Bool :=
  !curveUsed b || (List.range 16).all fun k => decide (leInt 4 (slice b (8 * k) 4) < leInt 4 (slice b (8 * k + 8) 4))

/-- T_ON and T_OFF of a channel are ordered for its rule (R327). -/
def thermoOk (k : Nat) (d : Dev) : Bool :=
  let b := leBytes 4 (d.nat (Param.HSW_THERMO + 16 * k))
  let on := leInt 2 (slice b 0 2)
  let off := leInt 2 (slice b 2 2)
  let rule := d.nat (Param.HSW_CFG + 16 * k) / 128 % 8
  if rule = 1 then decide (on < off) else if rule = 2 then decide (off < on) else true

/-- The rules that tie a committed parameter to others, over the values that would be in force (R115). -/
def crossOk (ids : List Nat) (d : Dev) : Bool :=
  let has := fun l : List Nat => l.any fun x => ids.contains x
  (!has [Param.FREQ_MIN, Param.FREQ_MAX] || freqOk d) &&
  ((List.range 3).all fun j => !has [Param.DEM_PERIOD + 8 * j, Param.DEM_SUBPERIODS + 8 * j] || demandOk j d) &&
  (!has [Param.ISO_FAULT_OHMV, Param.ISO_WARN_OHMV] || decide (d.num Param.ISO_FAULT_OHMV < d.num Param.ISO_WARN_OHMV)) &&
  (!has [Param.ISO_STEP, Param.ISO_SETTLE] || decide (d.num Param.ISO_SETTLE + 8 ≤ d.num Param.ISO_STEP)) &&
  (!has (Param.OT_SOURCE :: (List.range 16).map (Param.TEMP_CURVE + ·)) || otSourceOk d) &&
  ((List.range 18).all fun c => !has [Param.CAL_PHASE + 16 * c, Param.TC_TABLE + 16 * c] || phaseSumOk c d) &&
  (!has ([Param.NOMINAL_U, Param.NOMINAL_I_GRID, Param.NOMINAL_I_OUTLET, Param.WIRING, Param.RATED_UDC, Param.RATED_IDC] ++
      (List.range 3).flatMap fun j =>
        [Param.PULSE_SOURCE + 8 * j, Param.PULSE_CONST + 8 * j, Param.PULSE_WIDTH + 8 * j]) ||
    (List.range 3).all fun j => pulseRateOk j d) &&
  (!has [Param.TAMPER_CFG] || tamperOk d) &&
  (!has [Param.DERATE_T_START, Param.DERATE_T_END] || decide (d.num Param.DERATE_T_START < d.num Param.DERATE_T_END)) &&
  ((List.range 8).all fun k => !has [Param.HSW_CFG + 16 * k, Param.HSW_THERMO + 16 * k] || thermoOk k d) &&
  ((List.range 16).all fun k => !has [Param.TEMP_CURVE + k] || curveOk (d.blk (Param.TEMP_CURVE + k))) &&
  ids.all fun id => (rowOf id).any (fun r => decide (r.ty ≠ 0x40)) || blockOk id (d.blk id)

/-- The leaf public key of each chain of SECC_CERTS is that of its slot (R416). -/
def seccOk (ids : List Nat) (d : Dev) : Bool :=
  !ids.contains Param.SECC_CERTS || (List.range 3).all fun k =>
    let c := slice (d.blk Param.SECC_CERTS) (4096 * k) 4096
    allZero c || decide (Config.leafKey c = slotPublic d (13 + k))

/-- IDs whose stored value a commit changes. -/
def changedIds (ids : List Nat) (old new : Dev) : List Nat :=
  ids.filter fun id => storedId id && decide (valueBytes old id ≠ valueBytes new id)

/-- IDs with a FLAGS bit. -/
def withFlag (bit : Nat) (ids : List Nat) : List Nat :=
  ids.filter fun id => (rowOf id).any fun r => (flagsOf r id).testBit bit

/-- Data of METR_SET_CHANGED (R123, R470): the ID, the old value and the new one, a block whole. -/
def metrData (old new : Dev) (id : Nat) : List Byte := leBytes 2 id ++ valueBytes old id ++ valueBytes new id

/-- Entries of the metrology log that the changes of a commit need (R122). -/
def metrEntries (old new : Dev) (ids : List Nat) : Nat :=
  ids.foldl (fun k id => k + entriesOf (metrData old new id).length) 0

/-- What refuses a commit (R108, R115 to R117), `base` and `post` being the store before and after it. -/
def commitFault (s : State) (serial : Nat) (p : Pending) (base post : Dev) : Option Nat :=
  let room := metrRoom (metrEntries base post (withFlag 0 (changedIds p.ids base post))) s.dev
  match lowest 0 (p.ids.map fun id => writeGate id s) with
  | some (_, _, res) => some res
  | none =>
    if !room then some Res.refusedLock
    else if p.entries.isEmpty || !crossOk p.ids post then some Res.badParam
    else if s.dev.acs.modeDone then some Res.busy
    else if serial ≠ p.serial ∨ seccOk p.ids post = false then some Res.checkMismatch
    else none

/-! What a commit does beside the values (R115, R116). -/

/-- One changed LEGAL parameter: counted, and entered in the metrology log with its old and new values (R116, R122). -/
def metrChanged (old new : Dev) (d : Dev) (id : Nat) : Dev :=
  let d := { d with acs := { d.acs with metrChanges := d.acs.metrChanges + 1 } }
  d.raiseMetr Src.host Event.METR_SET_CHANGED (metrData old new id)

/-- Changed SAFETY parameters leave the check value unconfirmed (R116, R303). -/
def safetyChanged (k : Nat) (new : Dev) (d : Dev) : Dev :=
  if k = 0 then d else
    let c := d.saf.changeCount + k
    ({ d with saf := { d.saf with confirmSt := 0, changeCount := c } }).raise Src.host Event.SAFETY_SET_CHANGED
      (leBytes 8 (safetyCheckOf new) ++ leBytes 4 c)

/-- A pulse output whose constant or source is committed starts from nothing (R164, R187). -/
def pulseCommitted (ids : List Nat) (d : Dev) (j : Nat) : Dev :=
  if ids.contains (Param.PULSE_SOURCE + 8 * j) || ids.contains (Param.PULSE_CONST + 8 * j) then
    let owed := pulseOwed d j
    (({ d with metr := { d.metr with pulses := updAt d.metr.pulses j fun x => { x with energy := 0, emitted := 0 } } }).raise
      Src.metr Event.PULSE_CONST_CHANGED (leBytes 1 j ++ leBytes 4 owed)).ckptDue 5
  else d

/-- A load profile is cleared by a commit of its period or its sources (R201). -/
def profileCommitted (ids : List Nat) (d : Dev) (p : Nat) : Dev :=
  let period := ids.contains (Param.LP1_PERIOD + 8 * p)
  if period || ids.contains (Param.LP1_SOURCES + 8 * p) then
    ({ d with led := { d.led with profiles := updAt d.led.profiles p fun x => { x with entries := [], written := 0 } } }).raise
      Src.metr Event.LOAD_PROFILE_CLEARED (leBytes 1 (p + 1) ++ leBytes 1 (if period then 0 else 1))
  else d

/-- A committed passive calendar is disarmed (R215). -/
def calendarCommitted (ids : List Nat) (d : Dev) : Dev :=
  if ids.contains Param.PASSIVE_CALENDAR && d.tar.armed.isSome then
    ({ d with tar := { d.tar with armed := none } }).raise Src.metr Event.CALENDAR_DISARMED []
  else d

/-- Keys are written in the frame of the commit (R400); a token is held for the check that its commit starts (R464). -/
def secretCommitted (own : Owner) (d : Dev) (e : Staged) : Dev :=
  match e with
  | .num _ _ => d
  | .blk id off bs =>
    if id = Param.TEST_ENROL_TOKEN then
      let t := if d.acs.testToken.isEmpty then List.replicate 29984 0 else d.acs.testToken
      { d with acs := { d.acs with testToken := splice t off bs } }
    else match keySlotOf id with
      | some k => importKey (srcOf own) k bs d
      | none => d

/-- Channels whose mode, gain or integrator is committed change it in the frame that follows (R140). -/
def channelsCommitted (n : Nat) (ids : List Nat) (d : Dev) : Dev :=
  let hit : Nat → Bool := fun c => (List.range 5).any fun k => ids.contains (Param.CH_MODE + 16 * c + k)
  { d with samp := { d.samp with
    chans := d.samp.chans.mapIdx fun c ch => if hit c then { ch with changeAt := some n } else ch } }

/-- A metrology parameter: LEGAL, or of the groups of calibration, compensation and metrology events (R118, R168). -/
def isMetrology (id : Nat) : Bool :=
  (rowOf id).any (fun r => (flagsOf r id).testBit 0) || decide (0x12 ≤ id / 256 ∧ id / 256 ≤ 0x14)

/-- A commit is carried out in frame n (R115): every staged value together at the next tick. -/
def commitEff (s : State) (own : Owner) (p : Pending) (base post : Dev) (d : Dev) : Dev :=
  let n := s.clk.frame
  let ids := p.ids
  let count := d.acs.commitCount + 1
  let changed := changedIds ids base post
  let legal := withFlag 0 changed
  let d := setPending own { p with entries := [] } { d with acs := { d.acs with
    commitCount := count, commitDone := true
    nextTick := d.acs.nextTick ++ p.entries.filter fun e => storedId e.id } }
  let d := d.raise (srcOf own) Event.PARAM_COMMITTED (leBytes 1 (ownerCode own) ++ leBytes 4 ids.length ++ leBytes 4 count)
  let d := legal.foldl (metrChanged base post) d
  let d := if legal.isEmpty then d else
    { d with metr := { d.metr with metrSetCheck := metrSetCheckOf post }
             pow := { d.pow with factoryComplete := d.pow.factoryComplete && decide (s.clk.mode ≠ .factory) } }
  let d := if ids.any isMetrology then accSpoil d else d
  let d := safetyChanged (withFlag 1 changed).length post d
  let d := p.entries.foldl (secretCommitted own) d
  let d := (List.range 3).foldl (pulseCommitted ids) d
  let d := (List.range 2).foldl (profileCommitted ids) d
  channelsCommitted n ids (calendarCommitted ids d)

/-- PARAM_COMMIT (R109, R115). -/
def hParamCommit : Handler := fun s own args =>
  let p := pendingOf own s.dev
  let base := inForce s.dev
  let post := p.entries.foldl storeStaged base
  match commitFault s (fieldAt args 0 4) p base post with
  | some r => .no r []
  | none =>
    let d := commitEff s own p base post s.dev
    .yes (leBytes 4 d.acs.commitCount) d

/-- PARAM_COMMIT. -/
def execParamCommit (own : Owner) (tag : Nat) (args : List Byte) (s : State) : Out :=
  acsRow Cmd.PARAM_COMMIT own tag args hParamCommit s

/-! The tick of the next frame (R113, R115). -/

/-- Demand register j starts anew (R233): maxima reset, a SHORT interval from the tick. -/
def demandRestart (r : Regs) (d : Dev) (j : Nat) : Dev :=
  { d with tar := { d.tar with demands := updAt d.tar.demands j fun x =>
      { x with start := d.tar.rtc, short := true, base := r.total (d.nat (Param.DEM_SOURCE + 8 * j)), subs := [], subIndex := 0
               maxima := List.replicate 9 (0, 0) } } }

/-- Load profile p counts its periods from the tick on (R201). -/
def profileRestart (d : Dev) (p : Nat) : Dev :=
  { d with led := { d.led with profiles := updAt d.led.profiles p fun x =>
      { x with lastBoundary := lpBoundary d p d.tar.rtc, status := 0 } } }

/-- A value comes into force at the tick of frame n, or is delivered to its unit (R113). -/
def deliver (n : Nat) (d : Dev) (e : Staged) : Dev :=
  match e with
  | .num id v =>
    if id = Param.CAL_ACC_CTRL then accStart v.toNat d
    else if id = Param.GPLC_STATE_RESET then modemRetry d
    else if id / 256 = 0x70 then testDeliver n id v.toNat d
    else storeStaged d e
  | .blk _ _ _ => storeStaged d e

/-- Parameters that the nameplate shows (R379), METR_SET_CHECK apart. -/
def nameplateIds : List Nat :=
  [Param.POST_ID, Param.OUTLET_KIND, Param.NOMINAL_U, Param.NOMINAL_I_GRID, Param.RATED_UDC, Param.RATED_IDC,
   Param.UNIT_ENABLE]

/-- What units do when a committed parameter comes into force, `old` being the machine before: the tamper monitor (R405),
the display (R228), the temperatures (R152), the demand registers (R233), the load profiles (R201) and the grid modem (R339, R348). -/
def afterDelivery (n : Nat) (r : Regs) (old : Dev) (ids : List Nat) (d : Dev) : Dev :=
  let has := fun x => ids.contains x
  let d := if has Param.TAMPER_CFG then tamperRaised n (old.nat Param.TAMPER_CFG) d else d
  let d := if has Param.DISP_LIST then dispRestart n d else d
  let d := (List.range 16).foldl (fun d j => if has (Param.TEMP_CURVE + j) then tempUpdate j d else d) d
  let d := (List.range 3).foldl (fun d j =>
    if (List.range 4).any fun k =>
      let id := Param.DEM_SOURCE + 8 * j + k
      decide (d.num id ≠ old.num id) then demandRestart r d j else d) d
  let d := (List.range 2).foldl (fun d p =>
    if has (Param.LP1_PERIOD + 8 * p) || has (Param.LP1_SOURCES + 8 * p) then profileRestart d p else d) d
  let d := if ids.any (fun id => nameplateIds.contains id || isMetrology id) then nameplateWrite d else d
  let d := if has Param.HARV_OUT_ENABLE && decide (d.nat Param.HARV_OUT_ENABLE = 0) then
      { d with cal := { d.cal with harvOut := false } } else d
  let d := if has Param.GPLC_EXT_IL || has Param.GPLC_EXT_IL_FER then extStepAll d else d
  if has Param.GPLC_BAND && decide (d.nat Param.GPLC_BAND ≠ old.nat Param.GPLC_BAND) then leavePan d else d

/-- Everything queued for the tick of frame n takes effect (R113, R115). -/
def queueStep (n : Nat) (r : Regs) (d : Dev) : Dev :=
  let q := d.acs.nextTick
  let d' := { d with acs := { d.acs with nextTick := [], commitDone := false, modeDone := false } }
  afterDelivery n r d (q.map Staged.id) (q.foldl (deliver n) d')

/-! Rows that write one parameter of their own: a PARAM_WRITE with that entry. -/

/-- The arguments of a PARAM_WRITE with one entry (R109). -/
def oneEntry (id v : Nat) : List Byte :=
  let len := (rowOf id).elim 0 PRow.len
  leBytes 2 1 ++ leBytes 2 0 ++ leBytes 2 id ++ leBytes 1 len ++ leBytes 1 0 ++ leBytes len v ++
    List.replicate ((len + 3) / 4 * 4 - len) 0

/-- A PARAM_WRITE of one parameter; a value that its length cannot hold is out of range (R112). -/
def writeOne (id v : Nat) (own : Owner) (s : State) : Out :=
  let args := oneEntry id v
  if (rowOf id).all fun r => decide (v < 256 ^ r.len) then acsRow Cmd.PARAM_WRITE own 0 args hParamWrite s
  else acsRow Cmd.PARAM_WRITE own 0 args (fun _ _ _ => .no Res.badParam (leBytes 2 0)) s

/-- CAL_ACC_CTRL (R168). -/
def execCalAccCtrl (own : Owner) (n : Nat) (s : State) : Out := writeOne Param.CAL_ACC_CTRL n own s
/-- SENSE_SEL (R322). -/
def execSenseSel (own : Owner) (v : Nat) (s : State) : Out := writeOne Param.SENSE_SEL v own s
/-- GPLC_STATE_RESET (R351). -/
def execGplcStateReset (own : Owner) (v : Nat) (s : State) : Out := writeOne Param.GPLC_STATE_RESET v own s
/-- TEST_SLOT_STRETCH (R464). -/
def execTestSlotStretch (own : Owner) (v : Nat) (s : State) : Out := writeOne Param.TEST_SLOT_STRETCH v own s
/-- TEST_MBOX_DELAY (R464). -/
def execTestMboxDelay (own : Owner) (v : Nat) (s : State) : Out := writeOne Param.TEST_MBOX_DELAY v own s
/-- TEST_PORT_BUSY (R464). -/
def execTestPortBusy (own : Owner) (v : Nat) (s : State) : Out := writeOne Param.TEST_PORT_BUSY v own s
/-- TEST_PORT_THROTTLE (R464). -/
def execTestPortThrottle (own : Owner) (v : Nat) (s : State) : Out := writeOne Param.TEST_PORT_THROTTLE v own s
/-- TEST_GPLC_HOLD (R464). -/
def execTestGplcHold (own : Owner) (v : Nat) (s : State) : Out := writeOne Param.TEST_GPLC_HOLD v own s
/-- TEST_COMMIT_DELAY (R464). -/
def execTestCommitDelay (own : Owner) (v : Nat) (s : State) : Out := writeOne Param.TEST_COMMIT_DELAY v own s
/-- TEST_MISMATCH (R464). -/
def execTestMismatch (own : Owner) (v : Nat) (s : State) : Out := writeOne Param.TEST_MISMATCH v own s
/-- TEST_WDT_WINDOW (R464). -/
def execTestWdtWindow (own : Owner) (v : Nat) (s : State) : Out := writeOne Param.TEST_WDT_WINDOW v own s

/-- The checks of a committed token begin (R464, R466): in Factory, once no other check and no derivation runs. -/
def tokenStart (m : Mode) (d : Dev) : Dev :=
  if !d.acs.testToken.isEmpty && decide (m = .factory) && !d.keys.checking && d.keys.rootJob.isNone && jobRoom 0 d then
    startTokenCheck d.acs.testToken { d with acs := { d.acs with testToken := [] } }
  else d

/-- TEST_ENROL_TOKEN (R466). -/
def execTestEnrolToken (s : State) : Out := devStep s (Dev.when s.clk.running (tokenStart s.clk.mode))

/-! Calico packages (R384, R385). -/

/-- The entries of a package's body: those of PARAM_WRITE, one after another (R383); the count is a bound. -/
def bodyEntries : Nat → List Byte → Option (List (Nat × Nat × List Byte))
  | _, [] => some []
  | 0, _ :: _ => none
  | k + 1, b :: bs =>
    let e := b :: bs
    let next := 4 + (fieldAt e 2 1 + 3) / 4 * 4
    if e.length < next then none
    else (bodyEntries k (e.drop next)).map fun r => (fieldAt e 0 2, fieldAt e 2 2, (e.drop 4).take (fieldAt e 2 1)) :: r

/-- The package that the commit word selects (R384). -/
def packageNow (x : Cal) : List Byte := (if x.bank = 0 then x.bank0 else x.bank1).take x.length

/-- The tag of a package over what stands before it, under the commissioning package key (R383, R397). -/
def packageTag (d : Dev) : Bool :=
  let b := packageNow d.cal
  decide ((keySlot d 3).kind ≠ 0) &&
    Config.kmacOk (keySlot d 3).material (b.take (b.length - 36)) (slice b (b.length - 36) 32)

/-- The entries of a package, each checked as a PARAM_WRITE of the host; none when one is malformed (R385). -/
def packageStaged (s : State) : Option (List Staged) :=
  let b := packageNow s.dev.cal
  match bodyEntries 32 (slice b 24 (b.length - 60)) with
  | none => none
  | some l =>
    let es := l.map fun e => entryStaged e.1 e.2.2
    if l.all (fun e => writableScalar e.1 && lenFits e.1 e.2.1 && headEndWrites .host e.1) &&
      (lowest 0 (es.map (entryFault s))).isNone then some es else none

/-- The status after a validation (R384). -/
def calicoResult (r : Nat) (d : Dev) : Dev :=
  { d with cal := { d.cal with appliedSeq := d.cal.commitSeq, applyResult := r, applyTime := d.tar.rtc } }

/-- A result other than applied and waiting is a rejection (R384, R385). -/
def calicoRejected (r : Nat) (d : Dev) : Dev :=
  (calicoResult r d).raise Src.card Event.CALICO_REJECTED (leBytes 4 d.cal.commitSeq ++ leBytes 1 r)

/-- A package waits for its validation, or for a mode (R385). -/
def calicoWaits (d : Dev) : Bool := decide (d.cal.commitSeq ≠ d.cal.appliedSeq) || decide (d.cal.applyResult = 4)

/-- Validation of the committed package (R385). -/
def calicoValidate (s : State) (d : Dev) : Dev :=
  if !(s.clk.mode = .factory ∨ s.clk.mode = .commissioning ∨ s.clk.mode = .service) then calicoResult 4 d
  else if !packageTag d then calicoRejected 2 d
  else match packageStaged { s with dev := d } with
    | none => calicoRejected 3 d
    | some es =>
      match writeAll .host es d with
      | none => calicoRejected 5 d
      | some d => (calicoResult 1 d).raise Src.card Event.CALICO_APPLIED
          (leBytes 4 d.cal.commitSeq ++ leBytes 4 d.acs.hostSet.serial)

end Sys2Proof.Machine
end

