-- ==== Sys2Proof/Machine/Readback.lean ====
section
/-!
DEFINITION. Reading parameters (R93, R94, R109, R111, R112): the value of every parameter that is read only, the
descriptors, PARAM_READ, PARAM_READ_BLOCK, PARAM_DESCRIBE, PARAM_ENUM and SNAPSHOT_TAKE; and the monotonic counters
that a checkpoint carries (R189).
-/

namespace Sys2Proof.Machine

/-! Monotonic counters (R111, R188, R189). -/

/-- The counters that are durable from the checkpoint that carries them, one per parameter, by ID. -/
def plainCounters (d : Dev) : List (Nat × Nat) := [
  (Param.START_COUNT, d.pow.startCount), (Param.RESET_N_COUNT, d.pow.resetCount),
  (Param.HSPI_CRC_ERRORS, d.win.crcErrors), (Param.HUART_FRAME_ERRORS, d.win.frameErrors),
  (Param.HSPI_COLLISIONS, d.win.hspiCollisions), (Param.HUART_COLLISIONS, d.win.huartCollisions),
  (Param.FOLLOW_WRITES_DISCARDED, d.lanes.followDiscarded), (Param.SLOT_PROTOCOL_ERRORS, d.win.protocolErrors),
  (Param.EVENT_STREAM_LOST, d.win.streamLost), (Param.STAGE_MISSES, d.win.stageMisses),
  (Param.TAKEOVER_COUNT, d.lanes.takeovers), (Param.DISPUTE_COUNT, d.lanes.disputes),
  (Param.OVERRUN_COUNT, d.lanes.overruns), (Param.MIRROR_ECC_CORRECTED, d.lanes.mirrorCorrected),
  (Param.CLOCK_SET_COUNT, d.tar.setCount), (Param.SYNC_COUNT, d.samp.syncCount),
  (Param.RECORD_NUMBER, d.led.recordNumber), (Param.GAP_COUNT, d.led.gapCount),
  (Param.RECORDS_UNSIGNED, d.led.recordsUnsigned), (Param.RECOVERY_COUNT, d.led.recoveries),
  (Param.MRAM_CORRECTED, d.led.mramCorrected), (Param.TARIFF_SWITCH_COUNT, d.tar.switchCount),
  (Param.PILOT_STATE_COUNT, d.veh.stateCount), (Param.VPLC_LINK_LOSSES, d.veh.linkLost),
  (Param.LOCK_OPS_COUNT, d.sw.lockOps), (Param.NEIGHBOUR_REFUSED, d.gplc.refused),
  (Param.DLMS_SECURITY_FAILURES, d.dlms.secFails), (Param.PING_FALSE_COUNT, d.nfc.falseCount),
  (Param.CARDS_PRESENTED, d.nfc.presented), (Param.CALICO_DEFERRED, d.cal.deferred),
  (Param.AUTH_LOOKUP_COUNT, d.nfc.lookups), (Param.AUTH_HIT_COUNT, d.nfc.hits),
  (Param.ACTIVATION_COUNT, d.upd.activations), (Param.REVERT_COUNT, d.upd.reverts),
  (Param.FLASH_CORRECTED, d.diag.flashCorrected)]

/-- The counters that repeat by channel, and the counter blocks, numbered on from their first ID (log entry 22). -/
def rowCounters (d : Dev) : List (Nat × Nat) :=
  (List.range 18).flatMap (fun c => [(Param.CH_OVER_COUNT + 16 * c, (d.chan c).overCount),
    (Param.CH_FAULT_COUNT + 16 * c, (d.chan c).faultCount)]) ++
  (List.range 8).map (fun k => (Param.HSW_PROT_COUNT + 16 * k, (d.sw.get (k + 1)).protCount)) ++
  (List.range 27).map (fun k => (65536 * Param.GPLC_COUNTERS + k, nth 0 d.gplc.counters k)) ++
  (List.range 4).map (fun k => (65536 * Param.DLMS_IC_TX + k, nth 0 d.dlms.icTx k))

/-- Every counter that a checkpoint carries (R188). -/
def liveCounters (d : Dev) : List (Nat × Nat) := plainCounters d ++ rowCounters d

/-- The published value of a counter: that of the checkpoint in force (R189). -/
def durableOf (d : Dev) (id : Nat) : Nat := (assoc d.led.base.counters id).getD 0

/-- An ID whose value is published at its durable value. -/
def isCounter (d : Dev) (id : Nat) : Bool := (assoc (plainCounters d) id).isSome ||
  ((rowOf id).any fun r => [Param.CH_OVER_COUNT, Param.CH_FAULT_COUNT, Param.HSW_PROT_COUNT].contains r.id)

/-- After a stop that was not ordered, counters stand as the base checkpoint holds them (R189). GAP_COUNT is that of the gap
log, which holds every gap it counts; records of a number that no checkpoint allocated are none. -/
def restoreCounters (c : List (Nat × Nat)) (d : Dev) : Dev :=
  let g : Nat → Nat := fun id => (assoc c id).getD 0
  { d with
    pow := { d.pow with startCount := g Param.START_COUNT, resetCount := g Param.RESET_N_COUNT }
    win := { d.win with
      crcErrors := g Param.HSPI_CRC_ERRORS, frameErrors := g Param.HUART_FRAME_ERRORS
      hspiCollisions := g Param.HSPI_COLLISIONS, huartCollisions := g Param.HUART_COLLISIONS
      protocolErrors := g Param.SLOT_PROTOCOL_ERRORS, streamLost := g Param.EVENT_STREAM_LOST
      stageMisses := g Param.STAGE_MISSES }
    lanes := { d.lanes with
      followDiscarded := g Param.FOLLOW_WRITES_DISCARDED, takeovers := g Param.TAKEOVER_COUNT
      disputes := g Param.DISPUTE_COUNT, overruns := g Param.OVERRUN_COUNT
      mirrorCorrected := g Param.MIRROR_ECC_CORRECTED }
    tar := { d.tar with setCount := g Param.CLOCK_SET_COUNT, switchCount := g Param.TARIFF_SWITCH_COUNT }
    samp := { d.samp with
      syncCount := g Param.SYNC_COUNT
      chans := d.samp.chans.mapIdx fun k ch =>
        { ch with overCount := g (Param.CH_OVER_COUNT + 16 * k), faultCount := g (Param.CH_FAULT_COUNT + 16 * k) } }
    led := { d.led with
      recordNumber := g Param.RECORD_NUMBER
      records := d.led.records.filter fun r => decide (r.number ≤ g Param.RECORD_NUMBER)
      recordsUnsigned := g Param.RECORDS_UNSIGNED, recoveries := g Param.RECOVERY_COUNT
      mramCorrected := g Param.MRAM_CORRECTED }
    veh := { d.veh with stateCount := g Param.PILOT_STATE_COUNT, linkLost := g Param.VPLC_LINK_LOSSES }
    sw := { d.sw with
      lockOps := g Param.LOCK_OPS_COUNT
      ch := d.sw.ch.mapIdx fun k h => { h with protCount := g (Param.HSW_PROT_COUNT + 16 * k) } }
    gplc := { d.gplc with
      refused := g Param.NEIGHBOUR_REFUSED
      counters := (List.range 27).map fun k => g (65536 * Param.GPLC_COUNTERS + k) }
    dlms := { d.dlms with
      secFails := g Param.DLMS_SECURITY_FAILURES
      icTx := (List.range 4).map fun k => g (65536 * Param.DLMS_IC_TX + k) }
    nfc := { d.nfc with
      falseCount := g Param.PING_FALSE_COUNT, presented := g Param.CARDS_PRESENTED
      lookups := g Param.AUTH_LOOKUP_COUNT, hits := g Param.AUTH_HIT_COUNT }
    cal := { d.cal with deferred := g Param.CALICO_DEFERRED }
    upd := { d.upd with activations := g Param.ACTIVATION_COUNT, reverts := g Param.REVERT_COUNT }
    diag := { d.diag with flashCorrected := g Param.FLASH_CORRECTED } }

/-! Measured values (R159, R174). -/

/-- Micro-units to milli-units, rounded as every quotient is. -/
def milli (x : Nat) : Nat := (cdiv x 1000).toNat

/-- pW to mW. -/
def milliW (p : Int) : Int := cdiv p (10 ^ 9)

/-- S of a phase in mW: U_rms × I_rms of its last cycle (R159). -/
def apparent (ph : Phase) : Int := milliW (ph.urms * ph.irms : Nat)

/-- Values of a phase of a side: the parameters V + 0x0 to V + 0x7. -/
def phaseValue (d : Dev) (side k field : Nat) : Int :=
  let ph : Phase := nth {} (d.metr.side side).phases k
  match field with
  | 0 => milli ph.urms
  | 1 => milli ph.irms
  | 2 => milliW ph.cp
  | 3 => milliW ph.cq
  | 4 => apparent ph
  | 5 => pfOf ph.cp (ph.urms * ph.irms : Nat)
  | 6 => ph.angle
  | _ => cycleFlags ph (ph.noLoad (sideNomI d side) || ph.wait)

/-- Values of a side: the parameters T + 0x0 to T + 0x7; totals are sums over the metered phases with a valid cycle. -/
def sideValue (d : Dev) (side field : Nat) : Int :=
  let x := d.metr.side side
  let on := x.phases.filter fun p => p.metered && p.valid
  let sum (f : Phase → Int) : Int := on.foldl (fun a p => a + f p) 0
  let s := sum fun p => (p.urms * p.irms : Nat)
  match field with
  | 0 => milliW (sum Phase.cp)
  | 1 => milliW (sum Phase.cq)
  | 2 => milliW s
  | 3 => pfOf (sum Phase.cp) s
  | 4 => x.freq
  | 5 => x.angle12
  | 6 => x.angle13
  | _ => if side = 0 then milli x.unRms else 0

/-! Values by group (R118): keyed by the first ID of the row, k being the place in the row. -/

/-- A unit of UNIT_ENABLE is powered at the moment (R53, R58, R65). -/
def unitPowered (d : Dev) (b : Nat) : Bool :=
  d.unitOn b && !(d.pow.shed && [0, 2, 4, 5, 6, 7, 11].contains b) && !(decide (b = 1) && d.pow.modemShed) &&
    !(decide (b = 1) && d.pow.badParts.getLsbD 0) && !(decide (b = 0) && d.pow.badParts.getLsbD 1) &&
    !(decide (b = 2) && d.pow.badParts.getLsbD 2)

/-- UNIT_POWERED. -/
def unitsPowered (d : Dev) : Nat := (List.range 14).foldl (fun m b => if unitPowered d b then m + 2 ^ b else m) 0

/-- PILOT_DUTY: 10,000 for a steady pilot (R264). -/
def pilotDuty (d : Dev) : Nat :=
  match d.veh.applied with
  | .steady => 10000
  | .hlc => 500
  | .duty x => x
  | .forceF => 10000
  | .pullDown => 10000

/-- Identity, mode and power, host interface (R64, R102, R119). -/
def roLow (s : State) : List (Nat × Int) :=
  let d := s.dev
  [(Param.SILICON_ISSUE, Config.siliconIssue.toNat), (Param.LANE_VERSION, partVersion d 1),
   (Param.METR_VERSION, partVersion d 2), (Param.NBPL_VERSION, partVersion d 3), (Param.BBPL_VERSION, partVersion d 4),
   (Param.NFCR_VERSION, partVersion d 5), (Param.MANIFEST_COUNTER, d.keys.vault.manifest),
   (Param.METR_CHECK, metrCheck d), (Param.METR_CHANGE_COUNT, d.acs.metrChanges),
   (Param.METR_LOG_USED, d.log.metr.length), (Param.FACTORY_COMPLETE, if d.pow.factoryComplete then 1 else 0),
   (Param.MODE, s.clk.mode.code), (Param.MODE_PREVIOUS, s.clk.modePrev.code), (Param.MODE_CAUSE, s.clk.modeCause),
   (Param.SAFESTOP_CAUSES, d.pow.causes.toNat), (Param.POWER_STATE, if d.pow.st = .hold then 1 else 0),
   (Param.VSYS_LEVEL, d.pow.vsys), (Param.VHOLD_LEVEL, d.pow.vhold), (Param.HOLDUP_CAP, d.pow.holdupCap),
   (Param.UNIT_POWERED, unitsPowered d), (Param.PORT_STATUS, (portStatus d).toNat),
   (Param.MAILBOX_FRAMES_MAX, d.win.framesMax), (Param.PARAM_COMMIT_COUNT, d.acs.commitCount),
   (Param.PENDING_SERIAL_HOST, d.acs.hostSet.serial), (Param.PENDING_COUNT_HOST, d.acs.hostSet.ids.length)]

/-- Lanes and clocks (R36, R231). -/
def roLanes (s : State) : List (Nat × Int) :=
  let d := s.dev
  [(Param.FRAME_NUMBER, s.clk.frame), (Param.LEAD_LANE, leadCode d.lanes.token),
   (Param.LANE_A_STATE, ((laneWord d.lanes.a).toNat % 16 : Nat)),
   (Param.LANE_B_STATE, ((laneWord d.lanes.b).toNat % 16 : Nat)),
   (Param.LANE_FAULT_LAST, d.lanes.faultLast.toNat), (Param.SLOT_MARGIN_MIN, d.lanes.slotMargin),
   (Param.TICK_SOURCE, if d.lanes.tickSource = .xa then 0 else 1), (Param.XA_DEVIATION, d.lanes.xaDev),
   (Param.XB_DEVIATION, d.lanes.xbDev), (Param.RTC_TIME, d.tar.rtc), (Param.CLOCK_STATUS, d.tar.status),
   (Param.CLOCK_LAST_SET, d.tar.lastSet), (Param.CLOCK_LAST_STEP, d.tar.lastStep), (Param.RTC_DEVIATION, d.tar.rtcDev),
   (Param.LOCAL_TIME, localTime d d.tar.rtc)]

/-- Channels and calibration (R145, R146, R171 to R173). -/
def roChannels (d : Dev) (k : Nat) : List (Nat × Int) :=
  let ch := d.chan k
  let tc := nth (0, 0) d.metr.tc k
  let p : Pulse := nth {} d.metr.pulses k
  [(Param.CH_SAMPLE, ch.sample), (Param.CH_FLAGS, ch.flags.toNat), (Param.CH_SCS_RESULT, ch.scsResult),
   (Param.CH_DENSITY, ch.density), (Param.SYNC_PENDING, if d.samp.syncPend.isSome then 1 else 0),
   (Param.SYNC_LAST_FRAME, d.samp.syncLast),
   (Param.AUX_REF_RESULTS, (leNat (leBytesInt 4 d.samp.ref1 ++ leBytesInt 4 d.samp.ref2) : Nat)),
   (Param.CAL_VALUE, nth 0 d.metr.cal k),
   (Param.TC_APPLIED, (leNat (leBytesInt 4 tc.1 ++ leBytesInt 4 tc.2) : Nat)),
   (Param.METR_SET_CHECK, d.metr.metrSetCheck), (Param.CAL_ACC_STATE, d.metr.acc.state),
   (Param.PULSE_EMITTED, p.emitted), (Param.PULSE_OWED, pulseOwed d k)]

/-- Quantities per cycle and per frame (R174); `off` is the ID less 0x1480. -/
def roQuantity (d : Dev) (off : Nat) : Option Int :=
  if off < 0x40 then
    some (if off % 32 < 24 then phaseValue d (off / 32) (off % 32 / 8) (off % 8) else sideValue d (off / 32) (off % 8))
  else match off - 0x40 with
    | 0 => some (udcMean d)
    | 1 => some (idcMean d)
    | 2 => some (milliW (mean80 d.metr.dcs.ps))
    | 3 => some (milli d.metr.grid.inRms)
    | 4 => some (milliW d.metr.grid.pInst)
    | 5 => some (milliW (if dcKind d then d.metr.dcs.p else d.metr.outlet.pInst))
    | _ => none

/-- RECORD_OLDEST (R200, R204): the 512 most recent records are kept; 0 before the first. -/
def oldestRecord (number : Nat) : Nat := if number = 0 then 0 else max 1 (number - 511)

/-- Ledger, tariffs, billing and display (R204, R232 to R234). -/
def roLedger (s : State) (k : Nat) : List (Nat × Int) :=
  let d := s.dev
  let lp : Nat → Profile := fun p => nth {} d.led.profiles p
  let dem : Demand := nth {} d.tar.demands k
  let newest (x : Mram) : Nat := (x.deltas.head?.map Delta.frame).getD 0
  [(Param.LEDGER_FRAME, (max (newest d.led.arrayA) (newest d.led.arrayB) : Nat)), (Param.CHECKPOINT_SEQ, d.led.base.seq),
   (Param.RECORD_OLDEST, oldestRecord (durableOf d Param.RECORD_NUMBER)),
   (Param.RECORDS_PENDING, ((d.led.records.filter fun r => decide (r.signState = 1)).length : Nat)),
   (Param.GAP_LOG_INDEX, (d.led.gapCount % 1024 : Nat)),
   (Param.LP1_WRITE_INDEX, ((lp 0).written % 8640 : Nat)), (Param.LP1_COUNT, (lp 0).entries.length),
   (Param.LP2_WRITE_INDEX, ((lp 1).written % 8640 : Nat)), (Param.LP2_COUNT, (lp 1).entries.length),
   (Param.TARIFF_ACTIVE, s.regs.tariff), (Param.CALENDAR_ACT_TIME, d.tar.armed.getD 0),
   (Param.CALENDAR_ACTIVE_CHECK, d.tar.activeCheck), (Param.CALENDAR_PASSIVE_CHECK, d.tar.passiveCheck),
   (Param.BILLING_COUNT, d.led.base.tar.billCount), (Param.BILLING_LAST_END, d.tar.billLast),
   (Param.DEM_LAST, dem.last), (Param.DEM_LAST_FLAGS, if dem.lastShort then 1 else 0),
   (Param.DISP_POSITION, dispPosition d)]

/-- Vehicle link, session and safety (R264 to R266, R307). -/
def roVehicle (s : State) : List (Nat × Int) :=
  let d := s.dev
  let tests := (List.range 8).foldl (fun m k =>
    m + (if d.saf.testPass.getLsbD k then 4 ^ k else 0) + (if d.saf.testFail.getLsbD k then 2 * 4 ^ k else 0)) 0
  [(Param.PILOT_STATE, pilotCode d.veh.st), (Param.PILOT_DUTY, pilotDuty d),
   (Param.PILOT_LEVELS, (leNat (leBytesInt 2 d.samp.pilot.posMv ++ leBytesInt 2 d.samp.pilot.negMv) : Nat)),
   (Param.PP_RESISTANCE, d.veh.ppRes), (Param.CABLE_RATING, d.veh.cable),
   (Param.ACTIVE_PROTOCOL, protoCode d.veh.proto), (Param.EVCCID, d.veh.evccid.toNat),
   (Param.SESSION_STATE, d.ses.st), (Param.SESSION_RECORD, d.ses.number),
   (Param.SAFETY_CHECK, safetyCheckOf d), (Param.SAFETY_CONFIRM_STATE, d.saf.confirmSt),
   (Param.SAFETY_CONFIRMED_VALUE, d.saf.confirmed), (Param.SAFETY_CHANGE_COUNT, d.saf.changeCount),
   (Param.SAFETY_TRIP_LAST, d.saf.tripLast.toNat), (Param.SAFETY_TEST_RESULTS, (tests : Nat)),
   (Param.RC_VALUES, (leNat (leBytesInt 4 d.saf.m160 ++ leBytes 4 d.saf.rcA) : Nat)),
   (Param.DEGRADED_CAUSE, d.saf.degCause), (Param.DEGRADED_REMAINING, degradedRemaining s.clk.frame d)]

/-- Load switches, lock, grid link, DLMS (R334, R337, R363, R364). -/
def roSwitches (d : Dev) (k : Nat) : List (Nat × Int) :=
  let h := d.sw.get (k + 1)
  [(Param.HSW_STATUS, hswStatus d (k + 1)), (Param.HSW_CURRENT, h.current), (Param.HSW_TJ, h.tj),
   (Param.HSW_DUTY, if h.cmd = 1 then 4095 else if h.cmd = 2 then h.duty else 0),
   (Param.VAUX_LEVEL, d.sw.vaux), (Param.VAUX_CURRENT, d.sw.vauxI), (Param.LOCK_STATE, d.sw.lockSt),
   (Param.COIL_CURRENT, (d.sw.coilI1 % 65536 + 65536 * (d.sw.coilI2 % 65536) : Nat)),
   (Param.GPLC_PAN_ID, (d.gplc.pan.elim 0 Prod.fst : Nat)), (Param.GPLC_SHORT_ADDR, (d.gplc.pan.elim 0 Prod.snd : Nat)),
   (Param.GPLC_STATE, d.gplc.st), (Param.PHASE_MAP, d.gplc.phaseMap.toNat), (Param.DLMS_ASSOC_ACTIVE, d.dlms.assocs.length)]

/-- Contactless, keys, update, diagnostics and tests (R388, R389, R416, R434, R460, R463). -/
def roHigh (s : State) : List (Nat × Int) :=
  let d := s.dev
  let n := s.clk.frame
  [(Param.READER_STATE, readerState s), (Param.PING_THR_NOW, d.nfc.threshold), (Param.CALICO_IMAGE_SEQ, d.cal.imageSeq),
   (Param.AUTH_LIST_VERSION, d.nfc.listVersion), (Param.AUTH_LIST_COUNT, d.nfc.list.length),
   (Param.AUTH_LIST_CRC, (crc32 (listBytes d)).toNat), (Param.AUTH_LOAD_STATE, d.nfc.loadSt),
   (Param.IDENTITY_STATE, d.keys.identity), (Param.VBAT1_LEVEL, d.keys.cell1.mv), (Param.VBAT2_LEVEL, d.keys.cell2.mv),
   (Param.TAMPER_STATE, tamperState d), (Param.TAMPER_COUNT, d.keys.tamperCount),
   (Param.ERASE_COUNT, d.keys.vault.eraseCount), (Param.ROOT_GEN, d.keys.vault.rootGen),
   (Param.ROOT_MIN, d.keys.vault.rootMin), (Param.ENROL_SEQ, d.keys.vault.enrolSeq),
   (Param.ENROL_STATE, (d.keys.enrolSt + 256 * d.keys.enrolResult : Nat)), (Param.RECORD_KEY_ID, d.keys.recordKeyId),
   (Param.UPDATE_STATE, d.upd.st), (Param.UPDATE_RESULT, d.upd.result), (Param.ACTIVE_SET, d.upd.activeSet),
   (Param.STAGING_SOURCE, d.upd.source), (Param.STAGED_BYTES, stagedBytes d),
   (Param.TEST_STATE, if testActive d then 1 else 0), (Param.TEST_REMAINING, testRemaining n d),
   (Param.SELFTEST_SUMMARY, d.diag.summary.toNat), (Param.UPTIME_FRAMES, (n - s.clk.startFrame : Nat)),
   (Param.SRAM_MAPPED, (d.lanes.a.banksOut.toNat + 16 * d.lanes.b.banksOut.toNat : Nat))]

/-- The value of a scalar parameter that is read only. -/
def roNum (s : State) (r : PRow) (id : Nat) : Int :=
  let d := s.dev
  let k := r.nth id
  let g := id / 256
  if isCounter d id then durableOf d id
  else if 0x1480 ≤ id ∧ id < 0x14C6 then (roQuantity d (id - 0x1480)).getD 0
  else
    let l :=
      if g < 3 then roLow s else if g < 5 then roLanes s else if g < 0x18 then roChannels d k
      else if g < 0x20 then roLedger s k else if g < 0x30 then roVehicle s else if g < 0x40 then roSwitches d k
      else roHigh s
    (assoc l r.id).getD 0

/-- The value of a text that is read only (R119): no padding. -/
def roText (s : State) (id : Nat) : List Byte :=
  if id = Param.PART_NUMBER then asciiPad 7 "KM-7720"
  else if id = Param.SERIAL_NUMBER then slice Config.serialNumber 0 16
  else if id = Param.SW_IDENT then swIdent s.dev else []

/-! Blocks that are read only. -/

/-- AUX_RESULTS (R142, R146). -/
def auxBytes (d : Dev) : List Byte :=
  slice ((d.samp.aux.take 18).flatMap fun a => leBytesInt 4 a.value ++ leBytes 4 a.frame) 0 272

/-- DECIM_COEFFS (R130, R146): per stage the tap count, then every coefficient in order, the zeros among them and the centre
2¹⁵ as 0x8000, which no i16 holds (DESIGN CHOICE, log entry 154). -/
def coefBytes : List Byte :=
  (List.range 5).flatMap fun st =>
    let taps := nth 0 hbTaps st
    let c := (taps - 1) / 2
    let h := hbCoefs st
    leBytes 1 taps ++ (List.range taps).flatMap fun j =>
      let dist := if j < c then c - j else j - c
      leBytesInt 2 (if dist = 0 then 2 ^ 15 else if dist % 2 = 1 then nth 0 h (dist / 2) else 0)

/-- TEMP_VALUES (R172). -/
def tempBytes (d : Dev) : List Byte :=
  (List.range 17).flatMap fun j =>
    leBytesInt 4 (nth 2500 d.metr.temps j) ++ leBytes 1 (if nth false d.metr.tempOk j then 1 else 0) ++ [0, 0, 0]

/-- CAL_ACC_RESULT (R172): means of the sums over the frames summed. -/
def calAccBytes (a : CalAcc) : List Byte :=
  let m : Nat → Int := fun j => if a.frames = 0 then 0 else cdiv (nth 0 a.sums j) a.frames
  leBytes 8 a.first ++ leBytes 8 a.last ++ leBytes 4 a.cycles ++ leBytes 4 0 ++
    ((List.range 6).flatMap fun p =>
      leBytes 8 (isqrtRound (m (4 * p)).toNat) ++ leBytes 8 (isqrtRound (m (4 * p + 1)).toNat) ++
        leBytesInt 8 (cdiv (m (4 * p + 2)) (10 ^ 6)) ++ leBytesInt 8 (cdiv (m (4 * p + 3)) (10 ^ 6))) ++
    leBytesInt 8 (m 24) ++ leBytesInt 8 (m 25) ++ leBytesInt 8 (cdiv (m 26) (10 ^ 6)) ++
    (List.range 18).flatMap fun c => leBytesInt 4 (m (27 + c))

/-- An entry of a load profile (R202), 32 bytes. -/
def lpBytes (e : LpEntry) : List Byte :=
  leBytes 4 e.time ++ leBytes 1 e.status ++ leBytes 1 e.tariff ++ [0, 0] ++ (e.values.take 3).flatMap (leBytes 8)

/-- A ring of entries of a width, newest first, of which `written` have been written in all: entry i at its place. -/
def ringBytes (size width written : Nat) (newest : List (List Byte)) (off len : Nat) : List Byte :=
  let first := off / width
  let at_ (i : Nat) : List Byte :=
    -- the entry at place i is the newest one whose number is i modulo the size
    let back := (written + size - 1 - i) % size
    slice ((newest[back]?).getD []) 0 width
  slice (((List.range ((off + len - 1) / width - first + 1)).flatMap fun j => at_ (first + j)).drop (off % width)) 0 len

/-- BILLING_SNAPSHOTS (R224), one of them. -/
def snapBytes (x : Snap) : List Byte :=
  let body := slice (leBytes 4 0x4C4C4942 ++ leBytes 4 x.period ++ leBytes 8 x.frame ++ leBytes 4 x.endTime ++
    leBytes 4 x.startTime ++ leBytes 1 x.cause ++ leBytes 1 x.status ++ leBytes 1 x.flags ++ [0] ++ leBytes 4 0 ++
    slice (x.fams.flatMap famBytes) 0 1320 ++ x.maxima.flatMap fun m => m.flatMap fun y => leBytes 4 y.1 ++ leBytes 4 y.2) 0 0xFD8
  body ++ leBytes 8 (crc64 body).toNat ++ leBytes 32 x.chain.toNat

/-- A built-in or user inrush profile (R315, R337). -/
def demMaxBytes (x : Demand) : List Byte := x.maxima.flatMap fun y => leBytes 4 y.1 ++ leBytes 4 y.2

/-- Part of a block that is read only; rings are formed for the part asked alone. -/
def roBlock (s : State) (r : PRow) (id off len : Nat) : List Byte :=
  let d := s.dev
  let n := s.clk.frame
  let k := r.nth id
  let ring (p : Nat) : List Byte :=
    let x : Profile := nth {} d.led.profiles p
    ringBytes 8640 32 x.written (x.entries.map lpBytes) off len
  let whole : List Byte → List Byte := fun b => slice (b.drop off) 0 len
  if r.id = Param.LP1_BUFFER then ring 0
  else if r.id = Param.LP2_BUFFER then ring 1
  else if r.id = Param.GAP_LOG then ringBytes 1024 32 d.led.gapCount (d.led.gaps.reverse.map gapBytes) off len
  else if r.id = Param.BILLING_SNAPSHOTS then ringBytes 24 4096 d.tar.billCount (d.tar.snaps.map snapBytes) off len
  else if r.id = Param.AUX_RESULTS then whole (auxBytes d)
  else if r.id = Param.DECIM_COEFFS then whole coefBytes
  else if r.id = Param.TEMP_VALUES then whole (tempBytes d)
  else if r.id = Param.CAL_ACC_RESULT then whole (calAccBytes d.metr.acc)
  else if r.id = Param.CHAIN_VALUE then whole (leBytes 32 (chainOf d.led.base).toNat)
  else if r.id = Param.ACTIVE_CALENDAR then whole d.tar.active
  else if r.id = Param.DEM_MAX then whole (demMaxBytes (nth {} d.tar.demands k))
  else if r.id = Param.LIMIT_APPLIED then whole (slice (leadHalf s d) 0x020 16)
  else if r.id = Param.PROFILE then whole (profileBytes k)
  else if r.id = Param.NEIGHBOUR_TABLE then whole (d.gplc.neighbours.flatMap (neighbourBytes n d))
  else if r.id = Param.ROUTE_TABLE then whole (d.gplc.routes.flatMap routeBytes)
  else if r.id = Param.GPLC_COUNTERS then
    whole ((List.range 27).flatMap fun j => leBytes 8 (durableOf d (65536 * Param.GPLC_COUNTERS + j)))
  else if r.id = Param.DLMS_IC_TX then
    whole ((List.range 4).flatMap fun j => leBytes 4 (durableOf d (65536 * Param.DLMS_IC_TX + j)))
  else if r.id = Param.CARD_LAST then whole (cardLast d)
  else if r.id = Param.ENROL_REQUEST then whole d.keys.request
  else if r.id = Param.KEY_SLOTS then whole (keySlotsBytes d)
  else if r.id = Param.ROLLBACK_COUNTERS then whole ((slice5 d.keys.vault.rollback).flatMap (leBytes 4))
  else if r.id = Param.IDENTITY_CERT then whole (d.keys.cert.getD [])
  else if r.id = Param.RECORD_KEY_CERTS then whole (d.keys.recordCerts.flatMap fun c => slice c 0 29888)
  else if r.id = Param.LOGIN_NONCE then whole d.keys.nonce
  else if r.id = Param.ATTEST_RESULT then whole d.keys.attest
  else if r.id = Param.SECC_CSR then whole (d.keys.csrs.flatMap fun c => slice c 0 1024)
  else if r.id = Param.MANIFEST_ACTIVE then whole (slice (activeSet d).bytes 0 512)
  else if r.id = Param.MANIFEST_STAGED then whole (slice d.upd.manifest 0 512)
  else if r.id = Param.SELFTEST_LAST then whole (selftestBytes d)
  else if r.id = Param.SLOT_MARGINS then whole (d.diag.margins.flatMap (leBytes 2))
  else if r.id = Param.RAIL_LEVELS then whole (d.diag.rails.flatMap (leBytes 2))
  else whole []

/-- Part of a block in force: read only from the machine, writable from the store; the test token reads 0 once
consumed (R463). -/
def blockRead (s : State) (r : PRow) (id off len : Nat) : List Byte :=
  if r.acc = 0 then roBlock s r id off len
  else if id = Param.TEST_ENROL_TOKEN then slice (s.dev.acs.testToken.drop off) 0 len
  else slice ((s.dev.blk id).drop off) 0 len

/-! Reading one parameter (R94, R112). -/

/-- MODES_R of a parameter (R112): a SECRET or WO parameter is never readable. -/
def readable (r : PRow) (id : Nat) (m : Mode) : Bool :=
  decide (r.acc ≠ 3) && !(flagsOf r id).testBit 3 && r.modesR.testBit m.code

/-- The value bytes of a scalar or a text as published. -/
def valueOf (s : State) (r : PRow) (id : Nat) : List Byte :=
  if r.ty = 0x30 then (if r.acc = 0 then roText s id else (s.dev.blk id))
  else if r.acc = 0 then leBytesInt r.len (roNum s r id)
  else if id / 256 = 0x70 then leBytes r.len (testValue id s.dev)
  else if r.id = Param.CH_MODE ∧ uisoOwned s.dev (r.nth id) then leBytesInt r.len (s.dev.chan 17).mode
  else leBytesInt r.len (s.dev.num id)

/-- The value that a read returns: while a dispute holds publication, read-only values are those of the last frame
published (R24, R93, R174). -/
def publishedOf (s : State) (r : PRow) (id : Nat) : List Byte :=
  if r.acc = 0 && pubHeld s.dev then (assoc s.dev.win.heldVals id).getD (valueOf s r id) else valueOf s r id

/-- STATUS and value of an entry (R94, R112). -/
def readOne (s : State) (id : Nat) : Nat × List Byte :=
  match rowOf id with
  | none => (1, [])
  | some r =>
    if !readable r id s.clk.mode then (2, [])
    else if r.ty = 0x40 ∨ 24 < r.len then (1, [])
    else (0, publishedOf s r id)

/-- Zeros that fill bytes to a multiple of four. -/
def padFour (bs : List Byte) : List Byte := bs ++ List.replicate ((bs.length + 3) / 4 * 4 - bs.length) 0

/-- The IDs of a counted list at an offset. -/
def idList (args : List Byte) (off : Nat) : List Nat :=
  (List.range (fieldAt args off 2)).map fun k => fieldAt args (off + 2 + 2 * k) 2

/-- PARAM_READ (R109). -/
def hParamRead : Handler := fun s _ args =>
  .yes ((idList args 0).flatMap fun id =>
    let v := readOne s id
    leBytes 2 id ++ leBytes 1 v.2.length ++ leBytes 1 v.1 ++ padFour v.2) s.dev

/-- PARAM_READ. -/
def execParamRead (own : Owner) (tag : Nat) (args : List Byte) (s : State) : Out :=
  acsRow Cmd.PARAM_READ own tag args hParamRead s

/-- PARAM_READ_BLOCK (R109): the length and its range, the mode, and the extent; a SECRET or WO block is refused at the
right. -/
def hParamReadBlock : Handler := fun s _ args =>
  let id := fieldAt args 0 2
  let off := fieldAt args 4 4
  let len := fieldAt args 8 2
  match rowOf id with
  | none => .no Res.badParam []
  | some r =>
    if !r.modesR.testBit s.clk.mode.code then .no Res.refusedMode []
    else if len = 0 ∨ 992 < len ∨ r.len < off + len then .no Res.badParam []
    else .yes (leBytes 4 off ++ blockRead s r id off len) s.dev

/-- PARAM_READ_BLOCK. -/
def execParamReadBlock (own : Owner) (tag : Nat) (args : List Byte) (s : State) : Out :=
  acsRow Cmd.PARAM_READ_BLOCK own tag args hParamReadBlock s

/-- NAME of an ID (R111): the row's, or where a table names its IDs one by one, that name (R172, R308, R337, R416). -/
def nameOf (r : PRow) (id : Nat) : String :=
  let k := id - r.id
  if r.id = Param.TEMP_CURVE then "TEMP_CURVE_" ++ toString (k + 1)
  else if r.id = Param.PROFILE then
    "PROFILE_" ++ nth "" ["LAMP", "LED", "MOTOR", "HEATER", "VALVE", "COIL"] k
  else if r.id = Param.PROFILE_USER then "PROFILE_USER" ++ toString (k + 1)
  else if r.id = Param.FT_CFG then "FT" ++ toString (k + 1) ++ "_CFG"
  else if r.id = Param.DLMS_KEY then "DLMS_" ++ nth "" ["GUEK", "GAK", "KEK"] k
  else r.name

/-- The descriptor (R111), 68 bytes. LENGTH holds a block's size modulo 65,536 where that is larger, and MAX of a u64 whose
greatest value no i64 holds is all ones (DESIGN CHOICE: log entry 147). -/
def descriptor (r : PRow) (id : Nat) : List Byte :=
  let scalar := decide (r.ty ≠ 0x30 ∧ r.ty ≠ 0x40)
  leBytes 2 id ++ leBytes 1 r.ty ++ leBytes 1 r.acc ++ leBytes 1 r.unit ++ leBytes 1 (flagsOf r id) ++
    leBytes 1 (if r.acc = 0 then 0 else modesWOf r id) ++
    leBytes 1 (if r.acc = 3 ∨ (flagsOf r id).testBit 3 then 0 else r.modesR) ++
    leBytes 2 r.len ++ leBytes 2 0 ++ leBytesInt 8 (if scalar then r.min else 0) ++
    leBytesInt 8 (if scalar then r.max else 0) ++ leBytesInt 8 (if scalar then dfltOf r id else 0) ++ asciiPad 32 (nameOf r id)

/-- PARAM_DESCRIBE (R111). -/
def hParamDescribe : Handler := fun s _ args =>
  match rowOf (fieldAt args 0 2) with
  | none => .no Res.badParam []
  | some r => .yes (descriptor r (fieldAt args 0 2)) s.dev

/-- PARAM_DESCRIBE. -/
def execParamDescribe (own : Owner) (tag : Nat) (args : List Byte) (s : State) : Out :=
  acsRow Cmd.PARAM_DESCRIBE own tag args hParamDescribe s

/-- Every ID that is present, in rising order (R118). -/
def allIds : List Nat :=
  let ids := paramTable.flatMap fun r => (List.range r.n).map fun k => r.id + r.stride * k
  (ids.foldl (fun (l : List (Nat × Unit)) id => insertId l id ()) []).map Prod.fst

/-- PARAM_ENUM (R109). -/
def hParamEnum : Handler := fun s _ args =>
  let c := fieldAt args 2 2
  if c = 0 ∨ 480 < c then .no Res.badParam []
  else
    let l := (allIds.filter fun id => decide (fieldAt args 0 2 ≤ id)).take c
    .yes (leBytes 2 l.length ++ l.flatMap (leBytes 2)) s.dev

/-- PARAM_ENUM. -/
def execParamEnum (own : Owner) (tag : Nat) (args : List Byte) (s : State) : Out :=
  acsRow Cmd.PARAM_ENUM own tag args hParamEnum s

/-! Snapshots (R93, R94). -/

/-- The frame of the values that are published: that of the command, or the last one before a mismatch (R93). -/
def publishedFrame (s : State) : List Byte :=
  if pubHeld s.dev then slice ((assoc s.dev.win.heldVals heldFrame).getD []) 0 8 else leBytes 8 s.clk.frame

/-- The content of a snapshot buffer (R94). -/
def snapshotBytes (s : State) (tag : Nat) (ids : List Nat) : List Byte :=
  publishedFrame s ++ leBytes 2 ids.length ++ leBytes 2 0 ++ leBytes 4 tag ++ List.replicate 16 0 ++
    ids.flatMap fun id =>
      let v := readOne s id
      leBytes 2 id ++ leBytes 1 v.2.length ++ leBytes 1 v.1 ++ slice v.2 0 24

/-- Buffer b is free, those that the frame has taken or given back counted (R93). -/
def bufferFree (d : Dev) (b : Nat) : Bool :=
  decide (b < 3) && !d.win.shadow.snapHeld.getLsbD b && (!d.win.snapHeld.getLsbD b || d.win.shadow.snapFree.getLsbD b)

/-- The buffer of a request: the one named, or the first that is free. -/
def bufferFor (d : Dev) (choice : Nat) : Option Nat :=
  if choice = 0xFF then (List.range 3).find? (bufferFree d) else if bufferFree d choice then some choice else none

/-- Address of a snapshot buffer in the window (R75). -/
def bufferAt (b : Nat) : Nat := 0x9000 + 0x1000 * b

/-- SNAPSHOT_TAKE (R93): the buffer and the response are released together. -/
def hSnapshotTake (tag : Nat) : Handler := fun s _ args =>
  let choice := fieldAt args 0 1
  let c := fieldAt args 2 2
  if c = 0 ∨ 128 < c ∨ (2 < choice ∧ choice ≠ 0xFF) then .no Res.badParam []
  else match bufferFor s.dev choice with
    | none => .no Res.busy []
    | some b =>
      let sh := s.dev.win.shadow
      .yes (leBytes 1 b ++ [0] ++ leBytes 2 c ++ publishedFrame s)
        { s.dev with win := { s.dev.win with shadow := { sh with
            snapHeld := sh.snapHeld ||| (1#3 <<< b), snapFree := sh.snapFree &&& ~~~ (1#3 <<< b)
            writes := sh.writes ++ [(bufferAt b, slice (snapshotBytes s tag (idList args 2)) 0 4096)] } } }

/-- SNAPSHOT_TAKE. -/
def execSnapshotTake (own : Owner) (tag : Nat) (args : List Byte) (s : State) : Out :=
  acsRow Cmd.SNAPSHOT_TAKE own tag args (hSnapshotTake tag) s

/-- The values of a frame that a dispute holds for publication: read-only scalars and texts, the registers, and the
frame's number (R24, R93, R203). -/
def heldNow (s : State) : List (Nat × List Byte) :=
  (allIds.filterMap fun id =>
    match rowOf id with
    | some r => if r.acc = 0 ∧ r.ty ≠ 0x40 then some (id, valueOf s r id) else none
    | none => none) ++
  ((List.range 0x60).filterMap fun c => (registerBytes c s.regs).map fun b => (heldRegister c, b)) ++
  [(heldFrame, leBytes 8 s.clk.frame)]

end Sys2Proof.Machine
end

