-- ==== Sys2Proof/Machine/AcsTable.lean ====
section
/-!
DEFINITION. Every command of the Arras Command Set by its code (R109, R110): what the mailboxes and the grid link execute.
-/

namespace Sys2Proof.Machine

/-- The commands' own parts, first half. -/
def handlersA (tag : Nat) : List (Nat × Handler) :=
  [(Cmd.IDENTIFY, hIdentify), (Cmd.MODE_REQUEST, hModeRequest), (Cmd.SAFESTOP_CLEAR, hSafestopClear),
   (Cmd.SERVICE_LOGIN, hServiceLogin), (Cmd.SERVICE_LOGOUT, hServiceLogout),
   (Cmd.STOP_REQUEST, hStopRequest), (Cmd.PARAM_READ, hParamRead), (Cmd.PARAM_WRITE, hParamWrite),
   (Cmd.PARAM_COMMIT, hParamCommit), (Cmd.PARAM_DISCARD, hParamDiscard),
   (Cmd.PARAM_DESCRIBE, hParamDescribe), (Cmd.PARAM_READ_BLOCK, hParamReadBlock),
   (Cmd.PARAM_WRITE_BLOCK, hParamWriteBlock), (Cmd.PARAM_PENDING, hParamPending),
   (Cmd.PARAM_ENUM, hParamEnum), (Cmd.SNAPSHOT_TAKE, hSnapshotTake tag),
   (Cmd.SNAPSHOT_RELEASE, hSnapshotRelease), (Cmd.CMD_OUTCOME, hCmdOutcome), (Cmd.EVENT_FETCH, hEventFetch),
   (Cmd.BULK_CHUNK, hBulkChunk), (Cmd.JOB_LIST, hJobList), (Cmd.JOB_STATUS, hJobStatus),
   (Cmd.JOB_CANCEL, hJobCancel), (Cmd.CLOCK_SET, hClockSet), (Cmd.SYNC, hSync),
   (Cmd.METR_SEAL_OPEN, hMetrSealOpen), (Cmd.METR_SEAL_CLOSE, hMetrSealClose)]

/-- The commands' own parts, second half. -/
def handlersB : List (Nat × Handler) :=
  [(Cmd.RECORD_READ, hRecordRead), (Cmd.SIGNATURE_READ, hSignatureRead),
   (Cmd.REGISTERS_READ, hRegistersRead), (Cmd.METR_LOG_READ, hMetrLogRead),
   (Cmd.CALENDAR_ACTIVATE, hCalendarActivate), (Cmd.BILLING_CLOSE, hBillingClose),
   (Cmd.DISPLAY_STEP, hDisplayStep), (Cmd.REMOTE_START, hRemoteStart), (Cmd.REMOTE_STOP, hRemoteStop),
   (Cmd.SAFETY_CHECK_READ, hSafetyCheckRead), (Cmd.SAFETY_CONFIRM, hSafetyConfirm),
   (Cmd.SAFETY_PROOF_TEST, hSafetyProofTest), (Cmd.SWITCH_SET, hSwitchSet), (Cmd.LATCH_CLEAR, hLatchClear),
   (Cmd.LOCK_DRIVE, hLockDrive), (Cmd.CALICO_STAGING_STATUS, hCalicoStagingStatus),
   (Cmd.AUTH_LOAD, hAuthLoad), (Cmd.AUTH_SWAP, hAuthSwap), (Cmd.AUTH_LOOKUP, hAuthLookup),
   (Cmd.KEY_DERIVE, hKeyDerive), (Cmd.ATTEST, hAttest), (Cmd.ENROL, hEnrol), (Cmd.TAMPER_ACK, hTamperAck),
   (Cmd.IMAGE_STAGE, hImageStage), (Cmd.IMAGE_VERIFY, hImageVerify), (Cmd.IMAGE_ACTIVATE, hImageActivate),
   (Cmd.TEST_AUTH, hTestAuth), (Cmd.SCRUB_START, hScrubStart)]

/-- A command executed by its code (R83, R108); an unknown code is answered by the checks. -/
def runAcs (code : Nat) (own : Owner) (tag : Nat) (args : List Byte) (s : State) : State :=
  acsRun code own tag args ((assoc (handlersA tag ++ handlersB) code).getD fun _ _ _ => .no Res.badParam []) s

end Sys2Proof.Machine
end

