-- ==== Sys2Proof/Machine/Mailbox.lean ====
section
/-!
DEFINITION. Mailbox service (R79 to R87): the scan of the doorbells, a request's execution and response, and what a new
lead settles.
-/

namespace Sys2Proof.Machine

/-- Address of a slot in the window (R75). -/
def slotBase (k : Nat) : Nat := 0x1000 + 0x800 * k

/-- A response (R80). -/
def responseBytes (r : Reply) (seq : Nat) : List Byte :=
  leBytes 2 r.cmd ++ leBytes 1 r.result ++ [0] ++ leBytes 4 r.tag ++ leBytes 8 r.frame ++ leBytes 2 seq ++
    leBytes 2 r.payload.length ++ leBytes 2 r.job ++ [0, 0] ++ r.payload

/-- The frame at whose tick a response of frame n is released: the next, or later by TEST_MBOX_DELAY (R85, R464). -/
def releaseFrame (n : Nat) (d : Dev) : Nat := n + 1 + ms d.diag.mboxDelay

/-- A slot becomes DONE in the shadow, and its doorbell bit is cleared (R82, R85, R87). -/
def slotDone (k due : Nat) (j : Journal) (d : Dev) : Dev :=
  { d with win := { d.win with
      journal := d.win.journal.set k (some j)
      shadow := { d.win.shadow with
        done := d.win.shadow.done ++ [(k, j, due)], bellClear := d.win.shadow.bellClear ||| (1#16 <<< k) } } }

/-- A request whose length or reserved fields are wrong (R79, R108). -/
def badRequest (len flags rest : Nat) : Bool := decide (1008 < len) || decide (flags / 2 ≠ 0) || decide (rest ≠ 0)

/-- The lead takes a FILLED slot whose doorbell bit is set, executes its request for the host and answers (R82 to R84). -/
def serveSlot (k : Nat) (s : State) : State :=
  let n := s.clk.frame
  let b := slotBase k
  let word (off w : Nat) : Nat := leNat (Mem.readBytes s.dev.win.mem (b + off) w)
  let seq := (nth {} s.dev.win.slots k).seq
  let code := word 0 2
  let tag := word 4 4
  let d := s.dev
  let d := { d with
    acs := { d.acs with slotNow := k }
    win := { d.win with slots := updAt d.win.slots k fun x => { x with foundAt := n } } }
  let s' : State :=
    if badRequest (word 2 2) (word 8 4) (word 12 4) then
      { s with dev := recordDurable code tag Res.badParam n (setReply code tag Res.badParam n 0 [] d) }
    else runAcs code .host tag (Mem.readBytes d.win.mem (b + 16) (word 2 2)) { s with dev := d }
  let j : Journal := ⟨seq, responseBytes s'.dev.acs.reply seq, decide (word 8 4 % 2 = 1)⟩
  let d := slotDone k (releaseFrame n s'.dev) j s'.dev
  { s' with dev := { d with acs := { d.acs with slotNow := 0 } } }

/-- One slot in the scan (R82): taken when its bit is set and it is FILLED; a bit whose slot is not FILLED is cleared and
counted. -/
def scanSlot (s : State) (k : Nat) : State :=
  let w := s.dev.win
  if !w.doorbell.getLsbD k || w.shadow.bellClear.getLsbD k then s
  else if (nth {} w.slots k).st = .filled then serveSlot k s
  else s.onDev fun d => slotError k
    { d with win := { d.win with shadow := { d.win.shadow with bellClear := d.win.shadow.bellClear ||| (1#16 <<< k) } } }

/-- A new lead settles a slot (R87): a request that ran and committed is answered from the journal. -/
def settleSlot (n : Nat) (d : Dev) (k : Nat) : Dev :=
  let x := nth {} d.win.slots k
  let held := d.win.shadow.done.any fun y => decide (y.1 = k)
  match nth none d.win.journal k with
  | some j => if (x.st = .filled ∨ x.st = .taken) ∧ j.seq = x.seq ∧ ¬held then slotDone k (n + 1) j d else d
  | none => d

/-- The lead's protocol work of the frame stands: its delta carries the commit marker (R31, R474). -/
def protocolRuns (d : Dev) : Bool := d.win.shadow.marker && (d.lanes.acting.isSome || d.lanes.grant.isSome)

/-- The scan of a frame (R84, R87), made once: at its end, or before the first command of the head-end, whose position in
the frame follows the host's (R23). A new lead settles the slots first. -/
def mailboxScan (s : State) : State :=
  let d := s.dev
  if protocolRuns d && !d.win.scanned then
    let d := if d.lanes.settle then (List.range 16).foldl (settleSlot s.clk.frame) d else d
    let s := { s with dev := { d with
      lanes := { d.lanes with settle := false }, win := { d.win with scanned := true } } }
    (List.range 16).foldl scanSlot s
  else s

end Sys2Proof.Machine
end

