-- ==== Sys2Proof/Machine/Cosem.lean ====
section
/-!
DEFINITION. The COSEM objects that the head-end sees (R358, R359): what a get, a set or an action on an object becomes. The
numbers of attributes and methods, and the codes of value group C for instantaneous values, are those of IEC 62056 (PRESUMED,
log entry 163).
-/

namespace Sys2Proof.Machine

/-- What a DLMS item does: answers octets held here; runs an ACS command, of whose payload a part answers; is refused; names no
object; or waits for a job. -/
inductive CosemDoes where
  | value (bytes : List Byte)
  | run (code : Nat) (args : List Byte) (off len : Nat)
  | denied
  | unknown
  | busy
  deriving DecidableEq, Repr

/-- A command whose whole payload answers. -/
def runWhole (code : Nat) (args : List Byte) : CosemDoes := .run code args 0 1000

/-- The value of a parameter: PARAM_READ gives its ID, length and status before it (R109). -/
def readParam (id : Nat) : CosemDoes := .run Cmd.PARAM_READ (leBytes 2 1 ++ leBytes 2 id) 4 ((rowOf id).elim 0 PRow.len)

/-- Part of a block parameter (R109). -/
def readBlock (id off len : Nat) : CosemDoes :=
  .run Cmd.PARAM_READ_BLOCK (leBytes 2 id ++ leBytes 2 0 ++ leBytes 4 off ++ leBytes 2 len) 4 len

/-- A part that the octets of the item choose: u32 offset, u16 length (R109). -/
def readChosen (id : Nat) (data : List Byte) : CosemDoes := readBlock id (fieldAt data 0 4) (fieldAt data 4 2)

/-- Octets u32 offset, u16 length, data, written to a block; they are staged in the association's pending set (R359). -/
def writeChosen (id : Nat) (data : List Byte) : CosemDoes :=
  runWhole Cmd.PARAM_WRITE_BLOCK (leBytes 2 id ++ leBytes 2 0 ++ data)

/-- A parameter written (R359). -/
def writeParam (id : Nat) (data : List Byte) : CosemDoes :=
  runWhole Cmd.PARAM_WRITE
    (leBytes 2 1 ++ leBytes 2 0 ++ leBytes 2 id ++ leBytes 1 data.length ++ [0] ++ slice data 0 (4 * ((data.length + 3) / 4)))

/-- The register family of an energy object by value groups B and C (R176, R178, R358). -/
def energyCode (b c : Nat) : Option Nat :=
  let total := c - 1
  let ph := c / 20
  let k := c % 20
  let phase := if k = 1 then some 0 else if k = 2 then some 1 else if 5 ≤ k ∧ k ≤ 9 then some (k - 3) else none
  if b = 3 then (if c = 1 then some 0x09 else if c = 2 then some 0x0A else none)
  else if b = 1 ∨ b = 2 then
    if 1 ≤ ph ∧ ph ≤ 3 then phase.map fun j => (if b = 1 then 0x20 else 0x40) + 8 * (ph - 1) + j
    else if ph ≠ 0 then none
    else if c = 1 ∨ c = 2 then some ((if b = 1 then 0 else 7) + total)
    else if 5 ≤ c ∧ c ≤ 9 then some ((if b = 1 then 2 else 0x58) + (c - 5)) else none
  else none

/-- Place of value group E among the readings of REGISTERS_READ (R203, R358): the total, T1 to T8, the estimated one. -/
def energyPlace (e : Nat) : Option Nat := if e ≤ 8 then some e else if e = 128 then some 9 else none

/-- An energy register in mWh (R203, R358). -/
def energyGet (b c e : Nat) : CosemDoes :=
  match energyCode b c, energyPlace e with
  | some f, some j => .run Cmd.REGISTERS_READ (leBytes 1 f) (12 + 12 * j) 8
  | _, _ => .unknown

/-- The parameter of an instantaneous value (R174, R358). -/
def instantId (b c : Nat) : Option Nat :=
  let k := c / 20
  let v := Param.URMS + 32 * (b - 1) + 8 * (k - 1)
  let t := Param.P_TOTAL + 32 * (b - 1)
  if b = 3 then
    (if c = 12 then some Param.UDC_MEAN else if c = 11 then some Param.IDC_MEAN else if c = 16 then some Param.PDC_MEAN else none)
  else if b = 1 ∨ b = 2 then
    if 1 ≤ k ∧ k ≤ 3 then
      match c % 20 with
      | 12 => some v
      | 11 => some (v + 1)
      | 16 => some (v + 2)
      | 3 => some (v + 3)
      | 9 => some (v + 4)
      | 13 => some (v + 5)
      | _ => none
    else match c with
      | 16 => some t
      | 3 => some (t + 1)
      | 9 => some (t + 2)
      | 13 => some (t + 3)
      | 14 => some (t + 4)
      | 92 => some (t + 7)
      | 91 => if b = 1 then some Param.IGN_RMS else none
      | _ => none
  else none

/-- The demand register whose source is the family of an object (R220, R358). -/
def demandOfCode (d : Dev) (b c : Nat) : Option Nat :=
  (energyCode b c).bind fun f => (List.range 3).find? fun j => decide (d.nat (Param.DEM_SOURCE + 8 * j) = f)

/-- The clock status (R358): bit 0 invalid, bit 1 doubtful. -/
def clockStatusOctet (d : Dev) : Byte := if d.tar.status = 2 then 1 else if d.tar.status = 1 then 2 else 0

/-- A get of a simple object of class 1 (R358). -/
def dataGet (d : Dev) (obis : List Nat) : CosemDoes :=
  match obis with
  | [0, 0, 42, 0, 0, 255] => .value (asciiPad 6 "KM7720" ++ slice Config.serialNumber 0 16)
  | [0, 0, 96, 14, 0, 255] => readParam Param.TARIFF_ACTIVE
  | [0, 0, 97, 98, 0, 255] => .value (leBytes 4 d.dlms.alarms.toNat)
  | [0, 0, 97, 98, 10, 255] => .value (leBytes 4 d.dlms.filter.toNat)
  | [0, 128, 96, 10, 0, 255] => readParam Param.PHASE_MAP
  | _ => .unknown

/-- A get of the clock (R358). -/
def clockGet (d : Dev) (attr : Nat) : CosemDoes :=
  match attr with
  | 2 => readParam Param.RTC_TIME
  | 3 => readParam Param.TZ_OFFSET
  | 4 => .value [clockStatusOctet d]
  | 5 => readBlock Param.DST_RULE 0 16
  | _ => .unknown

/-- A get of a profile or log (R358). -/
def profileGet (obis : List Nat) (data : List Byte) : CosemDoes :=
  match obis with
  | [1, 0, 99, 1, 0, 255] => readChosen Param.LP1_BUFFER data
  | [1, 0, 99, 2, 0, 255] => readChosen Param.LP2_BUFFER data
  | [1, 0, 98, 1, 0, 255] => readChosen Param.BILLING_SNAPSHOTS data
  | [0, 0, 99, 98, 0, 255] => runWhole Cmd.EVENT_FETCH data
  | [0, 0, 99, 98, 1, 255] => runWhole Cmd.METR_LOG_READ data
  | _ => .unknown

/-- A get of the vendor classes (R359). -/
def vendorGet (d : Dev) (cls attr : Nat) (obis : List Nat) : CosemDoes :=
  match cls, attr, obis with
  | 200, 2, [0, 128, 99, 1, 0, 255] => readParam Param.RECORD_NUMBER
  | 200, 3, [0, 128, 99, 1, 0, 255] => readParam Param.RECORD_OLDEST
  | 200, 4, [0, 128, 99, 1, 0, 255] => readParam Param.RECORDS_PENDING
  | 201, 2, [0, 128, 43, 0, 0, 255] => .value (slotPublic d 0)
  | 201, 3, [0, 128, 43, 0, 0, 255] => .value (slotPublic d 1)
  | 201, 4, [0, 128, 43, 0, 0, 255] => readParam Param.RECORD_KEY_ID
  | 202, 2, [0, 128, 96, 0, 0, 255] => .run Cmd.PARAM_PENDING [] 0 4
  | _, _, _ => .unknown

/-- Get of an attribute (R358, R359); attribute 1 of every object is its logical name. -/
def cosemGet (d : Dev) (cls : Nat) (obis : List Nat) (attr : Nat) (data : List Byte) : CosemDoes :=
  if attr = 1 then .value (obis.map (BitVec.ofNat 8))
  else if 200 ≤ cls then vendorGet d cls attr obis
  else match cls, obis with
  | 1, _ => dataGet d obis
  | 3, [1, b, c, 8, e, 255] => energyGet b c e
  | 3, [1, b, c, 7, 0, 255] => (instantId b c).elim .unknown readParam
  | 4, [1, b, c, 6, e, 255] =>
    match demandOfCode d b c with
    | some j => if 8 < e then .unknown else readBlock (Param.DEM_MAX + 8 * j) (8 * e + (if attr = 5 then 4 else 0)) 4
    | none => .unknown
  | 5, [1, b, c, 4, 0, 255] =>
    match demandOfCode d b c with
    | some j => readParam ((if attr = 5 then Param.DEM_LAST_FLAGS else Param.DEM_LAST) + 8 * j)
    | none => .unknown
  | 7, _ => profileGet obis data
  | 8, [0, 0, 1, 0, 0, 255] => clockGet d attr
  | 11, [0, 0, 11, 0, 0, 255] => readChosen Param.PASSIVE_CALENDAR data
  | 18, [0, 0, 44, 0, 0, 255] => if attr = 2 then readParam Param.IMAGE_BLOCK_SIZE else .unknown
  | 20, [0, 0, 13, 0, 0, 255] =>
    if attr = 10 then readParam Param.CALENDAR_ACT_TIME
    else readChosen (if attr ≤ 5 then Param.ACTIVE_CALENDAR else Param.PASSIVE_CALENDAR) data
  | _, _ => .unknown

/-- Set of an attribute (R359). -/
def cosemSet (cls : Nat) (obis : List Nat) (attr : Nat) (data : List Byte) : CosemDoes :=
  match cls, attr, obis with
  | 8, 2, [0, 0, 1, 0, 0, 255] => .run Cmd.CLOCK_SET (slice data 0 4 ++ leBytes 1 2) 0 0
  | 8, 3, [0, 0, 1, 0, 0, 255] => writeParam Param.TZ_OFFSET data
  | 8, 5, [0, 0, 1, 0, 0, 255] => runWhole Cmd.PARAM_WRITE_BLOCK (leBytes 2 Param.DST_RULE ++ leBytes 2 0 ++ leBytes 4 0 ++ leBytes 2 data.length ++ data)
  | 11, 2, [0, 0, 11, 0, 0, 255] => writeChosen Param.PASSIVE_CALENDAR data
  | 18, 2, [0, 0, 44, 0, 0, 255] => writeParam Param.IMAGE_BLOCK_SIZE data
  | 20, 10, [0, 0, 13, 0, 0, 255] => runWhole Cmd.CALENDAR_ACTIVATE (slice data 0 4)
  | 20, _, [0, 0, 13, 0, 0, 255] => if 6 ≤ attr ∧ attr ≤ 9 then writeChosen Param.PASSIVE_CALENDAR data else .denied
  | _, _, _ => .denied

/-- The attestation of a job (R359): temporary-failure while it runs. -/
def attestFetch (d : Dev) (job : Nat) : CosemDoes :=
  if d.acs.jobs.any fun j => decide (j.id = job) && j.live then .busy else .value d.keys.attest

/-- A method of an object (R358, R359): of the profiles and logs only the capture of the billing profile. -/
def cosemAct (d : Dev) (cls : Nat) (obis : List Nat) (method : Nat) (data : List Byte) : CosemDoes :=
  match cls, method with
  | 7, 2 => if obis = [1, 0, 98, 1, 0, 255] then runWhole Cmd.BILLING_CLOSE [] else .denied
  | 7, _ => .denied
  | 18, 3 => runWhole Cmd.IMAGE_VERIFY []
  | 18, 4 => runWhole Cmd.IMAGE_ACTIVATE (slice data 0 4)
  | 20, 1 => runWhole Cmd.CALENDAR_ACTIVATE (leBytes 4 0)
  | 200, 1 => runWhole Cmd.RECORD_READ (slice data 0 4)
  | 200, 2 => runWhole Cmd.SIGNATURE_READ (slice data 0 4)
  | 201, 1 => runWhole Cmd.ATTEST (slice data 0 32)
  | 201, 2 => attestFetch d (fieldAt data 0 2)
  | 202, 1 => runWhole Cmd.PARAM_READ data
  | 202, 2 => runWhole Cmd.PARAM_WRITE data
  | 202, 3 => runWhole Cmd.PARAM_COMMIT (slice data 0 4)
  | 202, 4 => runWhole Cmd.PARAM_DISCARD []
  | 202, 5 => runWhole (fieldAt data 0 2) (data.drop 2)
  | 202, 6 => runWhole Cmd.JOB_STATUS (slice data 0 2)
  | _, _ => .unknown

/-- What an item does. -/
def itemDoes (d : Dev) (i : ApduItem) : CosemDoes :=
  match i with
  | .acs code args => runWhole code.toNat args
  | .get cls obis attr data => cosemGet d cls obis attr data
  | .set cls obis attr data => cosemSet cls obis attr data
  | .act cls obis method data => cosemAct d cls obis method data

/-- Some parameter that a command names does not exist (R360). -/
def namesUnknown (code : Nat) (args : List Byte) : Bool :=
  let ids : List Nat :=
    if code = Cmd.PARAM_WRITE then ((writeEntries (fieldAt args 0 2) (args.drop 4)).getD []).map fun e => e.1
    else if code = Cmd.PARAM_READ then idList args 0
    else if code = Cmd.PARAM_DESCRIBE ∨ code = Cmd.PARAM_READ_BLOCK ∨ code = Cmd.PARAM_WRITE_BLOCK then [fieldAt args 0 2]
    else []
  (cmdRow code).isNone || ids.any fun id => (rowOf id).isNone

end Sys2Proof.Machine
end

