-- ==== Sys2Proof/Machine/Dlms.lean ====
section
/-!
DEFINITION. The head-end (R356 to R360): associations, requests executed as ACS commands, the journal of each
association, alarms and pushes.
-/

namespace Sys2Proof.Machine

/-! Associations (R356). -/

/-- An association by its number. -/
def assocOf (k : Nat) (d : Dev) : Option Assoc := d.dlms.assocs.find? fun a => decide (a.id = k)

/-- Client SAP of an association. -/
def clientSap (mgmt : Bool) : Nat := if mgmt then 1 else 0x10

/-- A rejection for security (R356): counted in both counters and logged; an alarm from the fifth within 10 min on. -/
def securityFailed (n cause : Nat) (d : Dev) : Dev :=
  let recent := (n :: d.dlms.secFrames).filter fun f => decide (n < f + 4800000)
  let d := { d with
    gplc := countRx 1 d.gplc
    dlms := { d.dlms with secFails := d.dlms.secFails + 1, secFrames := recent } }
  raiseAll [{ Ev.of Src.grid Event.DLMS_SECURITY_FAILED (leBytes 1 cause) with mute := decide (recent.length < 5) }] d

/-- The keys that the management association needs under the suite are held (R356, R397). -/
def suiteKeys (suite : Nat) (d : Dev) : Bool :=
  let held := fun k => decide ((keySlot d k).kind ≠ 0)
  if suite = 0 then held 5 && held 6 else held 8 && held 9

/-- An association opens (R356). -/
def openAssoc (n : Nat) (mgmt : Bool) (d : Dev) : Dev :=
  let a : Assoc := { id := d.dlms.nextAssoc, mgmt := mgmt, lastReq := n }
  ({ d with dlms := { d.dlms with
      assocs := d.dlms.assocs ++ [a]
      nextAssoc := d.dlms.nextAssoc + 1 } }).raise Src.grid Event.DLMS_ASSOCIATED (leBytes 1 (clientSap mgmt))

/-- DLMS_ASSOCIATED (R356): at most four, at most one of management, which must authenticate under DLMS_SUITE. -/
def associate (n sap suite : Nat) (authentic : Bool) (d : Dev) : Dev :=
  if 4 ≤ d.dlms.assocs.length then d
  else if sap = 0x10 then openAssoc n false d
  else if sap = 1 then
    if d.dlms.assocs.any Assoc.mgmt ∨ suite ≠ d.nat Param.DLMS_SUITE then d
    else if authentic && suiteKeys suite d then openAssoc n true d
    else securityFailed n 0 d
  else d

/-- DLMS_ASSOCIATED. -/
def execDlmsAssociated (sap suite : Nat) (authentic : Bool) (s : State) : Out :=
  protoStep s (Dev.when (joined s) (associate s.clk.frame sap suite authentic))

/-- An association is released: its pending set is discarded (R114, R356). -/
def releaseAssoc (a : Assoc) (d : Dev) : Dev :=
  let d := discardSet (.headEnd a.id) 0 d
  ({ d with
      acs := { d.acs with assocSets := eraseId d.acs.assocSets a.id }
      dlms := { d.dlms with assocs := d.dlms.assocs.filter fun x => decide (x.id ≠ a.id) } }).raise
    Src.grid Event.DLMS_ASSOCIATED (leBytes 1 (clientSap a.mgmt))

/-- No request for DLMS_INACTIVITY (R356). -/
def idleAssoc (n : Nat) (d : Dev) (a : Assoc) : Bool := decide (a.lastReq + secs (d.nat Param.DLMS_INACTIVITY) ≤ n)

/-- DLMS_INACTIVITY. -/
def execDlmsInactivity (k : Nat) (s : State) : Out :=
  protoStep s fun d =>
    match assocOf k d with
    | some a => d.when (s.clk.running && idleAssoc s.clk.frame d a) (releaseAssoc a)
    | none => d

/-! Requests (R359, R360). -/

/-- What the public association may read (R356): the logical device name, the clock, SW_IDENT and METR_CHECK. -/
def publicIds : List Nat :=
  [Param.SERIAL_NUMBER, Param.RTC_TIME, Param.CLOCK_STATUS, Param.TZ_OFFSET, Param.LOCAL_TIME, Param.SW_IDENT,
   Param.METR_CHECK]

/-- An item that an association may ask (R356): the public one reads the logical device name, the clock and the parameters
above. -/
def itemAllowed (mgmt : Bool) (i : ApduItem) : Bool :=
  mgmt || (match i with
    | .acs code args => decide (code.toNat = Cmd.PARAM_READ) && (idList args 0).all fun id => publicIds.contains id
    | .get _ obis _ _ => decide (obis = [0, 0, 42, 0, 0, 255]) || decide (obis = [0, 0, 1, 0, 0, 255])
    | .set .. => false
    | .act .. => false)

/-- The DLMS result of an ACS result (R360); `absent` where the command or a parameter that it names does not exist. -/
def darOf (absent : Bool) (result : Nat) : Nat :=
  if result = Res.ok ∨ result = Res.job then Dar.success
  else if result = Res.busy ∨ result = Res.refusedMode then Dar.temporaryFailure
  else if result = Res.refusedLock ∨ result = Res.notPermitted then Dar.readWriteDenied
  else if result = Res.badParam then (if absent then Dar.objectUndefined else Dar.typeUnmatched)
  else Dar.otherReason

/-- Data that a command sends to the host through the bulk window stands in the head-end's response (R359). -/
def bulkAnswer (code : Nat) (args : List Byte) (d : Dev) : List Byte :=
  match recordOf (fieldAt args 0 4) d with
  | some r =>
    if code = Cmd.RECORD_READ then recordImage r
    else if code = Cmd.SIGNATURE_READ then slice r.signature 0 7856 else []
  | none => []

/-- An ACS command executed for an association (R106, R359): the state after it, and result with data. -/
def runFor (k code : Nat) (args : List Byte) (off len : Nat) (s : State) : State × List Byte :=
  let s := runAcs code (.headEnd k) 0 args (s.onDev fun d => { d with acs := { d.acs with slotNow := 0 } })
  let r := s.dev.acs.reply
  let data :=
    if r.result = Res.ok then (r.payload.drop off).take len ++ bulkAnswer code args s.dev
    else if r.result = Res.job then leBytes 2 r.job else []
  (s, leBytes 1 (darOf (namesUnknown code args) r.result) ++ data)

/-- One item of a request: the state after it, and result with data (R360). -/
def runItem (k : Nat) (mgmt : Bool) (x : State × List Byte) (i : ApduItem) : State × List Byte :=
  let r : State × List Byte :=
    if itemAllowed mgmt i then
      match itemDoes x.1.dev i with
      | .value bytes => (x.1, leBytes 1 Dar.success ++ bytes)
      | .run code args off len => runFor k code args off len x.1
      | .denied => (x.1, leBytes 1 Dar.readWriteDenied)
      | .unknown => (x.1, leBytes 1 Dar.objectUndefined)
      | .busy => (x.1, leBytes 1 Dar.temporaryFailure)
    else (x.1, leBytes 1 Dar.readWriteDenied)
  (r.1, x.2 ++ r.2)

/-- Change an association. -/
def onAssoc (k : Nat) (f : Assoc → Assoc) (d : Dev) : Dev :=
  { d with dlms := { d.dlms with assocs := d.dlms.assocs.map fun a => if a.id = k then f a else a } }

/-- A response leaves by queue 1, the management association's protected with a fresh counter (R352, R356, R364). -/
def respond (n k : Nat) (mgmt : Bool) (bytes : List Byte) (d : Dev) : Dev :=
  let d := onAssoc k (fun a => { a with lastReq := n }) d
  { d with
    gplc := enqueue 1 { kind := .own, dest := gaspDest d.gplc, at_ := n } d.gplc
    dlms := { d.dlms with
      response := bytes, icTx := if mgmt then updAt d.dlms.icTx 0 (· + 1) else d.dlms.icTx } }

/-- The response kept for a request that repeats within 60 s (R360). -/
def keptAnswer (n : Nat) (a : Assoc) (x : Apdu) : Option DlmsAns :=
  a.journal.find? fun j => decide (j.invoke = x.invoke) && decide (j.plain = x.plain) && decide (n ≤ j.frame + 480000)

/-- Alarm bits that the head-end resets, and the filter that it sets (R357); of the management association alone. -/
def alarmAction (x : Apdu) (d : Dev) : Dev :=
  { d with dlms := { d.dlms with
      alarms := d.dlms.alarms &&& ~~~ x.alarmReset, filter := x.alarmFilter.getD d.dlms.filter } }

/-- A request that is not a repeat: its items in order, and the pair of invoke-id and response kept (R360). -/
def request (a : Assoc) (x : Apdu) (s : State) : State :=
  let n := s.clk.frame
  let s := if a.mgmt then s.onDev (alarmAction x) else s
  let r := x.items.foldl (runItem a.id a.mgmt) (s, leBytes 1 x.invoke)
  let d := onAssoc a.id (fun y => { y with journal := lastN 8 (y.journal ++ [⟨x.invoke, x.plain, n, r.2⟩]) }) r.1.dev
  { r.1 with dev := respond n a.id a.mgmt r.2 d }

/-- An APDU of an association (R356, R360): under the management key its counter must rise and its tag verify. -/
def apduEff (a : Assoc) (x : Apdu) (s : State) : State :=
  let n := s.clk.frame
  if a.mgmt && (!x.authentic || !suiteKeys (s.dev.nat Param.DLMS_SUITE) s.dev) then s.onDev (securityFailed n 0)
  else if a.mgmt && s.dev.dlms.lastIc.any (fun c => decide (x.ic ≤ c)) then s.onDev (securityFailed n 1)
  else
    let s := if a.mgmt then s.onDev fun d => { d with dlms := { d.dlms with lastIc := some x.ic } } else s
    match keptAnswer n a x with
    | some j => s.onDev (respond n a.id a.mgmt j.response)
    | none => request a x s

/-- DLMS_APDU: its commands are executed in the grid-link position of R23, after those of the host's slots. -/
def execDlmsApdu (x : Apdu) (s : State) : Out :=
  .next (match assocOf x.assoc s.dev with
    | some a => if joined s && s.serving && s.dev.win.shadow.marker then apduEff a x (mailboxScan s) else s
    | none => s)

/-! Alarms and pushes (R357). -/

/-- The event groups in rising order: the alarm register's bits (R357; log entry 44). -/
def alarmGroups : List Nat :=
  [0x01, 0x02, 0x03, 0x04, 0x10, 0x12, 0x13, 0x14, 0x18, 0x1A, 0x1C, 0x1D, 0x20, 0x21, 0x22, 0x28, 0x30, 0x38, 0x39,
   0x40, 0x41, 0x48, 0x50, 0x70, 0x7F]

/-- The bit of an event's group. -/
def alarmBit (code : Nat) : BitVec 32 :=
  match alarmGroups.findIdx? (· = code / 256) with
  | some k => 1#32 <<< k
  | none => 0

/-- A push leaves by queue 0, where a destination is set and not in HOLD (R357). -/
def push (n : Nat) (d : Dev) : Dev :=
  if (d.blk Param.PUSH_DESTINATION).any (· ≠ 0) && decide (d.pow.st ≠ .hold) && modemUp d then
    { d with
      gplc := enqueue 0 { kind := .push, dest := gaspDest d.gplc, at_ := n } d.gplc
      dlms := { d.dlms with pushFrame := some n, icTx := updAt d.dlms.icTx 0 (· + 1) } }
  else { d with dlms := { d.dlms with pushFrame := some n } }

/-- Alarms logged in a frame set their bits; one that passes the filter is pushed (R357). -/
def alarmStep (n : Nat) (codes : List Nat) (d : Dev) : Dev :=
  let bits := codes.foldl (fun m c => m ||| alarmBit c) 0
  let d := { d with dlms := { d.dlms with alarms := d.dlms.alarms ||| bits } }
  codes.foldl (fun d c => if alarmBit c &&& d.dlms.filter ≠ 0 then push n d else d) d

/-- PUSH_RETRY is due (R357). -/
def pushDue (n : Nat) (d : Dev) : Bool :=
  decide (d.dlms.alarms &&& d.dlms.filter ≠ 0) &&
    d.dlms.pushFrame.any fun f => decide (f + secs (d.nat Param.PUSH_RETRY) ≤ n)

/-- PUSH_RETRY. -/
def execPushRetry (s : State) : Out :=
  devStep s (Dev.when (s.clk.running && pushDue s.clk.frame s.dev) (push s.clk.frame))

end Sys2Proof.Machine
end

