-- ==== Sys2Proof/Machine/Supervision.lean ====
section
/-!
DEFINITION. Rows whose consequences lie in several subjects: a result of the auxiliary converter (R141, R142, R152,
R243, R292) and a faulty channel (R127, R162, R280, R294).
-/

namespace Sys2Proof.Machine

/-- What follows from a new result of auxiliary input j: temperature (R152), over-temperature (R292), cable (R243). -/
def auxConsequence (d : Dev) (j : Nat) : Dev :=
  let d := if j < 17 then otResult (tempCode j) (tempUpdate j d) else d
  if j = 15 then ppResult d else d

/-- The places among the results that a conversion renews: one input, or all when a reference makes every result invalid
(R142). -/
def auxRenewed (before after : Dev) : List Nat :=
  if !before.samp.auxFaulty && after.samp.auxFaulty then List.range 17
  else if before.samp.auxPos < 2 then []
  else (auxIndex (nth 0 before.samp.scan (before.samp.auxPos - 2))).toList

/-- AUX_RESULT (R142). -/
def auxResultEff (n : Nat) (bits : BitVec 1536) (d : Dev) : Dev :=
  let d' := auxConvert n bits (d.blk Param.AUX_SCAN) d
  (auxRenewed d d').foldl auxConsequence d'

/-- AUX_RESULT. -/
def execAuxResult (bits : BitVec 1536) (s : State) : Out :=
  devStep s (Dev.when (auxDue s.clk s.dev) (auxResultEff s.clk.frame bits))

/-- SCS_CONVERSION_DONE (R139, R140): a result of UISO may be a step's value of the insulation monitor (R295). -/
def execScsConversionDone (c : Nat) (s : State) : Out :=
  devStep s fun d => d.when (scsDue s.clk.frame c d) fun d => if c = 17 then isoCapture s.clk.frame (scsEff c d) else scsEff c d

/-- What a channel declared faulty does elsewhere: a billing channel of the outlet ends the session (R162), IRC loses path
M (R280), UGN trips protective-earth continuity (R294). -/
def channelConsequence (s : State) (c : Nat) (d : Dev) : Dev :=
  if c = 14 then pathMLost s 0 d
  else if c = 3 then peTrip s d
  else if (outletChans d).contains c && d.ses.isOpen then endSession s EndCause.metering d
  else d

/-- CHANNEL_FAULT (R127). -/
def execChannelFault (c : Nat) (startup : Bool) (s : State) : Out :=
  devStep s fun d => d.when (channelFaultDue s.clk c startup d) fun d => channelConsequence s c (channelFaultEff c startup d)

end Sys2Proof.Machine
end

