-- ==== Sys2Proof/Machine/Startup.lean ====
section
/-!
DEFINITION. Start-up (R57, R58): the checks before frame m, the recovery of the ledger (R191 to R193), what survives a
stop and what begins anew, the mapped mode, frame m itself, and the moment at which start-up is complete.
-/

namespace Sys2Proof.Machine

/-! What survives, part by part. -/

/-- A parameter is flagged VOLATILE (R111). -/
def volatileId (id : Nat) : Bool := (rowOf id).any fun r => (flagsOf r id).testBit 4

/-- VOLATILE parameters return to their defaults (R111). -/
def dropVolatile (d : Dev) : Dev :=
  { d with par := {
      nums := d.par.nums.filter fun x => !volatileId x.1
      blocks := d.par.blocks.filter fun x => !volatileId x.1 } }

/-- Writes and commits of the last frame are durable (R113, R115) and come into force at frame m; what was on its way to a
unit is lost. -/
def startQueue (m : Nat) (r : Regs) (d : Dev) : Dev :=
  queueStep m r { d with acs := { d.acs with
    nextTick := d.acs.nextTick.filter fun e => storedId e.id && !volatileId e.id } }

/-- A lane after its start-up checks (R57, R58): one that fails them is repaired, or lost where its repairs are spent
(R33). -/
def startLane (m : Nat) (ok spent lead ownXtal : Bool) (own other : Xtal) (r : LaneRec) : LaneRec :=
  { st := if ok then (if lead then .lead else .follow) else if spent then .failed else .reset
    repair := if ok || spent then none else some .selfTest
    repairs := if ok || spent then r.repairs else m :: r.repairs
    faultedAt := none, banksOut := r.banksOut, mramLost := r.mramLost, pll := if ownXtal then own else other }

/-- SERGE and the lanes at frame m (R57, R58, R476): Lane A leads, or Lane B where A is not ready. A restart of the lanes
alone leaves SERGE's queue and its fault (R17); a power cycle or RESET_N does not. -/
def startLanes (m : Nat) (u : StartIn) (cold : Bool) (d : Dev) : Lanes :=
  let x := d.lanes
  let lead : Lane := if u.laneAOk then .a else .b
  let fault := x.sergeFault && !cold
  { a := startLane m u.laneAOk (repairsSpent m .a d) true u.xaOk .xa .xb x.a
    b := startLane m u.laneBOk (repairsSpent m .b d) (!u.laneAOk) u.xbOk .xb .xa x.b
    token := if fault then none else some lead, windowGate := if fault then some lead else none, sergeFault := fault
    queue := if cold then [] else x.queue
    faultLast := x.faultLast, takeovers := x.takeovers, disputes := x.disputes, overruns := x.overruns
    mirrorCorrected := x.mirrorCorrected, followDiscarded := x.followDiscarded
    tickSource := if u.xaOk then .xa else .xb, xaFailed := !u.xaOk, xbFailed := !u.xbOk
    xaDev := x.xaDev, xbDev := x.xbDev, alive := x.alive }

/-- A lane whose start-up check fails with its repairs spent is lost (R33, R58): LANE_LOST, its cause, LANE_FAULT_LAST as in
`laneLost`. -/
def startLost (d : Dev) : Dev :=
  let lost (l : Lane) (d : Dev) : Dev :=
    d.when (decide ((d.lanes.get l).st = .failed)) fun d =>
      ({ d with lanes := { d.lanes with faultLast := faultWord l 0x0F 6 0 true } }.setCause Cause.laneLost).raise
        Src.serge Event.LANE_LOST []
  lost .b (lost .a d)

/-- A crystal found bad at start-up is declared failed (R18, R476). -/
def startCrystals (m : Nat) (u : StartIn) (was : Lanes) (d : Dev) : Dev :=
  let d := if u.xaOk ∨ was.xaFailed then d else d.sergeRaise m Event.CRYSTAL_FAILED (leBytes 1 0)
  if u.xbOk ∨ was.xbFailed then d else d.sergeRaise m Event.CRYSTAL_FAILED (leBytes 1 1)

/-- A channel at frame m (R57, R127, R135, R140): reset, its committed mode in use, a zero word with FILL. -/
def startChan (m : Nat) (d : Dev) (c : Nat) (ch : Chan) : Chan :=
  let x := applyChanMode m d c { overCount := ch.overCount, faultCount := ch.faultCount }
  { x with flags :=
      if unitOff d c ∨ x.mode = 0 then flagBits false false false false false false true
      else if x.mode = 2 then flagBits false false false false false true false
      else flagBits true x.integOn false false false false false }

/-- Sampling at frame m: every decimator leaves reset; nothing has been converted. -/
def startSamp (m : Nat) (d : Dev) : Samp :=
  { chans := d.samp.chans.zipIdx.map fun p => startChan m d p.2 p.1, auxAt := m
    syncCount := d.samp.syncCount, syncLast := d.samp.syncLast }

/-- The accumulators of a side as the recovered entry holds them (R184, R188, R191); `k` is the place of its phases among
the secondary accumulators. -/
def startSide (a b : Int) (sec : List Int) (k : Nat) : AcSide :=
  { accA := a, accB := b
    phases := (List.range 3).map fun j => { accA := nth 0 sec (k + j), accB := nth 0 sec (k + 3 + j) } }

/-- A pulse output as recovered (R164, R191): what was emitted, and the growth of its source. -/
def startPulse (d : Dev) (c : Choice) (r : Regs) (j : Nat) : Pulse :=
  let p := nth (0, 0) c.ckpt.pulses j
  let grown := match pulseFamily (pulseSource d j) with
    | some f => r.total f - (nth {} c.ckpt.fams f).total
    | none => 0
  { energy := p.1 + grown, emitted := p.2 + ((c.delta.map fun dl => nth 0 dl.pulseInc j).getD 0) }

/-- Metrology at frame m: no cycle, no sample, no temperature yet (R152, R155, R161); accumulators and pulses as recovered;
the references of REVERSE_ENERGY are the present totals (R478). -/
def startMetr (c : Choice) (r : Regs) (d : Dev) : Metr :=
  let acc := (c.delta.map Delta.acc).getD c.ckpt.acc
  let sec := c.ckpt.secAcc
  { grid := startSide (nth 0 acc 0) (nth 0 acc 1) sec 0
    outlet := startSide (nth 0 acc 2) (nth 0 sec 12) sec 6
    dcs := { acc := nth 0 acc 3 }
    revRef := (List.range 3).map fun k => r.total (exportFamily k)
    pulses := (List.range 3).map (startPulse d c r)
    metrSetCheck := metrSetCheckOf d, balGrid := d.metr.balGrid, balOut := d.metr.balOut }

/-- RTC time at the last committed frame (R195). -/
def Choice.lastTime (c : Choice) : Nat := c.ckpt.rtc + (c.frame - c.ckpt.frame) / 8000

/-- Estimation episodes and measurement gaps that were open when frames stopped end at the last committed frame (R161,
R162). -/
def endEstims (c : Choice) (d : Dev) : Dev :=
  let es := d.metr.grid.estims.map (fun e => (0, e)) ++ d.metr.outlet.estims.map (fun e => (1, e)) ++ [(2, 0, d.metr.dcs.est)]
  es.foldl (fun d x =>
    if x.2.2.isOpen then raiseAll [estimEnd x.1 x.2.1 x.2.2] d
    else if x.2.2.stopped then phaseGap c.frame c.lastTime x.1 x.2.1 x.2.2 d else d) d

/-- The safety functions at frame m: SERGE's latches, the faults of class S, what tests have shown and what is
confirmed stay (R47, R270, R285, R303); filters, counts and checks begin anew. A first step of a confirmation is
void (R305). -/
def startSaf (m : Nat) (x : Saf) : Saf :=
  { trips := x.trips, since := x.since, tiers := x.tiers, sFaults := x.sFaults, tripLast := x.tripLast, tripFrame := x.tripFrame
    ftFailed := x.ftFailed, ftTestAt := m, rcTestAt := m, pathMLost := x.pathMLost, pathSLost := x.pathSLost
    quads := x.quads.map fun q => { q with on := false, missed := 0 }
    quadNext := x.quadNext, weldLatch := x.weldLatch, discLatE := x.discLatE, discLatD := x.discLatD
    lowFirstE := x.lowFirstE, lowFirstD := x.lowFirstD, tpoAtA := m, tpoAtB := m
    degCause := x.degCause, degBits := x.degBits
    confirmed := x.confirmed, confirmSt := if x.confirmSt = 1 then 0 else x.confirmSt, changeCount := x.changeCount
    testPass := x.testPass, testFail := x.testFail }

/-- The command set at frame m (R88, R91, R114): jobs of the frames before are gone, the records that are pending are
signed from the beginning (R199), and the derivation of R409 starts again. -/
def startJobs (d : Dev) : Dev :=
  let d := { d with
    acs := { durable := d.acs.durable, nextJob := d.acs.nextJob, hostSet := d.acs.hostSet
             nextTick := d.acs.nextTick, commitCount := d.acs.commitCount, metrChanges := d.acs.metrChanges
             sealOpen := d.acs.sealOpen, sealPending := d.acs.sealPending }
    keys := { d.keys with
      checking := false, enrolSt := if d.keys.checking ∨ d.keys.enrolSt = 1 then 0 else d.keys.enrolSt }
    upd := { d.upd with st := if d.upd.st = 3 then 2 else d.upd.st }
    dlms := { d.dlms with assocs := [], pushFrame := none, response := [] } }
  let d := if d.keys.rootJob.isSome ∧ ¬d.keys.rootPending then
      startJob .derive 0 0 { d with keys := { d.keys with rootJob := some d.acs.nextJob } } else d
  (d.led.records.filter fun r => decide (r.signState = 1)).foldl (fun d r => startJob .signing 0 r.number d) d

/-- The clock at frame m (R206, R210, R393): the RTC went on in the battery domain, with a time that it was to load. -/
def startClock (advance : Nat) (d : Dev) : Dev :=
  let t := if d.tar.load.isSome then rtcLoadEff d else d
  let t := rtcTick (if d.tar.load.isSome then advance - 4 else advance)
    { t with tar := { t.tar with loaded := false } }
  clockTick t

/-- A BILLING_CLOSE that counts as pending at a start-up (R219): one that the durable command ring shows executed since
the last billing close. The ring does not hold its owner: the cause is that of the pending close the battery-backed state
shows, else the host's (log entry 138). -/
def startPending (d : Dev) : Option (Nat × Nat) :=
  let last := (d.tar.snaps.head?.map Snap.frame).getD 0
  match d.acs.durable.reverse.find? fun x => decide (x.cmd = Cmd.BILLING_CLOSE ∧ x.result = 0 ∧ last ≤ x.frame) with
  | some x => some ((d.tar.billPending.map Prod.fst).getD 3, x.frame)
  | none => none

/-- The tariff, demand and billing state of the recovered entry (R191, R219, R225). From a delta record, the tariff step of
the recovered frame is repeated on the base checkpoint's state, at that frame's start time. -/
def startTariff (c : Choice) (r : Regs) (d : Dev) : Dev :=
  let k := c.ckpt.tar
  let d := { d with tar := { d.tar with
    nextTariff := max 1 (min 8 k.tariff), demands := k.demands, billLast := k.billLast, billCount := k.billCount
    billPending := startPending d } }
  match c.delta with
  | none => d
  | some dl =>
    let live := d.tar
    let t := k.tn + (dl.frame - c.ckpt.frame) * 4096 / 1000
    let status := if dl.flags.testBit 6 then 2 else if k.status = 2 then live.status else k.status
    let at_ := { d with tar := { d.tar with rtc := t / 32768, status := status, step := none } }
    let d := tariffSwitch dl.frame (billingStep dl.frame ((List.range 3).foldl (demandStep r) (calendarStep at_)))
    { d with tar := { d.tar with rtc := live.rtc, status := live.status, step := live.step } }

/-- The open periods of billing and of the load profiles after a stop (R201, R202, R224): with a gap; a profile whose
boundary passed makes no entry for it. -/
def startPeriods (d : Dev) : Dev :=
  let d := billGap d
  { d with
    led := { d.led with profiles := d.led.profiles.zipIdx.map fun p =>
      let b := lpBoundary d p.2 d.tar.rtc
      if p.1.lastBoundary < b then { p.1 with lastBoundary := b, status := 0x54 }
      else { p.1 with status := p.1.status ||| 0x44 } } }

/-- Vehicle, session and switching state that a stop ends: the record number and the counts stay. -/
def startOutlet (d : Dev) : Dev :=
  { d with
    veh := { applied := .forceF, stateCount := d.veh.stateCount, netKeys := d.veh.netKeys, linkLost := d.veh.linkLost }
    ses := { number := d.ses.number, startFrame := d.ses.startFrame, startTotal := d.ses.startTotal }
    dc := {} }

/-- The record of the session that a recovered entry names is still open: its body holds END_CAUSE 0 (R193). -/
def recordOpen (number : Nat) (d : Dev) : Bool :=
  d.led.records.any fun r => decide (r.number = number) && decide (fieldAt r.body 0x00D 1 = 0)

/-- The session that the recovered entry carries is closed with end cause 10, RECOVERED and GAP, where its body is still
open (R193); the entry of a session's start frame without its checkpoint names the number allocated last. -/
def startSession10 (c : Choice) (s : State) (d : Dev) : Dev :=
  let number := if c.ckpt.session = 0 then d.led.recordNumber else c.ckpt.session
  if c.flags.testBit 0 && recordOpen number d then
    closeSession s EndCause.recovered (fun d => d.raise Src.own Event.SESSION_RECOVERED (leBytes 4 d.ses.number))
      { d with ses := { d.ses with number := number, flags := d.ses.flags ||| 0x82#32 } }
  else d

/-! The ledger. -/

/-- Both arrays in frame m (R193): where one was dropped, or voided by the other's records, it is rebuilt from the
other. -/
def startArrays (m : Nat) (u : StartIn) (d : Dev) : Dev :=
  let needA := !u.arrayAOk || decide ((d.led.arrayB.usable u.arrayBOk).voids ≠ 0)
  let needB := !u.arrayBOk || decide ((d.led.arrayA.usable u.arrayAOk).voids ≠ 0)
  if needA ∧ ¬needB then rebuildArray m .a d
  else if needB ∧ ¬needA then rebuildArray m .b d else d

/-- What recovery logs (R191, R192): the array, the frame and the base; a secondary set rewound; a state under dispute; a
chain that breaks. -/
def recoveryEvents (c : Choice) (breaks : List (Nat × Nat)) (d : Dev) : Dev :=
  let d := ({ d with led := { d.led with recoveries := d.led.recoveries + 1 } }).raise Src.own Event.RECOVERED
    (leBytes 1 (laneCode c.lane) ++ leBytes 8 c.frame ++ leBytes 4 c.ckpt.seq)
  let d := if c.ckpt.frame < c.frame then
      d.raise Src.own Event.SECONDARY_REWOUND (leBytes 4 (c.frame - c.ckpt.frame)) else d
  let d := if c.flags.testBit 3 then d.raise Src.own Event.RECOVERY_DISPUTED [] else d
  breaks.foldl (fun d b => d.raise Src.own Event.CHAIN_BREAK (leBytes 4 b.1 ++ leBytes 4 b.2)) d

/-- The chain breaks of the arrays that recovery used (R192): those of the array of the chosen entry. -/
def startBreaks (c : Choice) (u : StartIn) (d : Dev) : List (Nat × Nat) :=
  let x := usableArrays u.arrayAOk u.arrayBOk d.led
  chainBreaks (match c.lane with
    | .a => x.1
    | .b => x.2)

/-- The gap between the last committed frame and frame m (R195), where frames ran before. -/
def startGap (m startMs : Nat) (c : Choice) (d : Dev) : Dev :=
  match d.pow.stopped with
  | none => d
  | some kind =>
    let last := c.lastTime
    addGap ⟨m, last, d.tar.rtc, if kind = 4 then 0 else startMs, kind, 0, 0⟩
      { d with pow := { d.pow with stopped := none, gapSecs := d.tar.rtc - last } }

/-! The mode. -/

/-- The mode persisted in the ledger; Factory, once left, is never entered again (R41). -/
def persistedMode (s : State) (c : Choice) : Mode :=
  let m := (Mode.ofCode ((c.delta.map Delta.mode).getD c.ckpt.mode)).getD s.clk.mode
  if m = .factory then s.clk.mode else m

/-- The mode after a restart (R40, R43, R58): Session after its end, Service as at a logout; a cause holds Ready out. -/
def mappedMode (d : Dev) : Mode → Mode
  | .ready => if d.pow.causes = 0 then .ready else .safeStop
  | .session => if d.pow.causes = 0 then .ready else .safeStop
  | .degraded => .safeStop
  | .service => if (logoutTarget d).1 = .factory then .quarantine else (logoutTarget d).1
  | m => m

/-- What a start-up does to SAFESTOP_CAUSES (R47, R58, R299): IMAGE as the protocol section shows, and the end of
Degraded. -/
def startCauses (protoOk : Bool) (m : Mode) (d : Dev) : Dev :=
  let d := { d with pow := { d.pow with causes := d.pow.causes &&& ~~~ (1#32 <<< Cause.image) } }
  let d := if protoOk then d else d.setCause Cause.image
  if m = .degraded then
    let d := d.saf.degBits.foldl (fun d b => d.setCause b) (d.setCause Cause.degradedEnd)
    ({ d with pow := { d.pow with degradedClassS := true } }).raise Src.serge Event.DEGRADED_ENDED (leBytes 1 1)
  else d

/-- The safety check value is recomputed (R304). -/
def startSafetySet (d : Dev) : Dev :=
  if d.saf.confirmSt = 2 ∧ safetyCheckOf d ≠ d.saf.confirmed then
    markS SBit.set ((({ d with saf := { d.saf with confirmSt := 0 } }).setCause Cause.safetyLatch).raise Src.serge
      Event.SAFETY_SET_MISMATCH (leBytes 8 (safetyCheckOf d) ++ leBytes 8 d.saf.confirmed))
  else d

/-- Parts whose digest failed in both lanes (R58): bit 0 NBPL, 1 BBPL, 2 NFCR, 3 the protocol section of LANE. -/
def failedParts (u : StartIn) : BitVec 4 :=
  BitVec.ofBool (!u.laneProtoOk) ++ BitVec.ofBool (!u.nfcrOk) ++ BitVec.ofBool (!u.bbplOk) ++ BitVec.ofBool (!u.nbplOk)

/-- Power at frame m (R50, R51): MAINS, VHOLD charging since 20 ms after VSYS valid. -/
def startPower (m : Nat) (u : StartIn) (d : Dev) : Dev :=
  let p := d.pow
  { d with pow := { p with
      st := .mains, modeReqs := [], loginWindow := none, vhold := u.vhold, vsysLow := 0, vsysGood := 0
      holdupCap := u.capUf, holdupReady := false, recharge := some (m - 8 * (u.startMs - 20)), lastCapMeasure := m
      holdFrame := 0, finalSeq := none, resetReq := false, starting := true
      startCount := p.startCount + 1 + p.lateStarts, resetCount := p.resetCount + p.lateResets
      lateStarts := 0, lateResets := 0
      serviceStuck := false, serviceIgnoreUntil := 0, badParts := failedParts u, shed := false, modemShed := false
      gapFrames := u.rtcAdvance * 1000 / 4096 } }

/-! Frame m. -/

/-- Everything before frame m but the registers and the mode: what the recovered entry gives, and what begins anew. -/
def startDev (m : Nat) (c : Choice) (r : Regs) (u : StartIn) (d : Dev) : Dev :=
  let cold := decide (d.pow.stopped ≠ some 2)
  let was := d.lanes
  let d := if d.keys.supplied then d else batteryUp (m - 1) d
  let d := recoveryEvents c (startBreaks c u d) (restoreCounters c.ckpt.counters d)
  let d := { d with led := { d.led with
    base := c.ckpt, est := BitVec.ofNat 6 ((c.delta.map Delta.est).getD 0), due := 0, uncommitted := true
    startMark := none, endMark := none } }
  let d := startCrystals m u (if cold then {} else was) { d with lanes := startLanes m u cold d }
  let d := discardAll 2 (loginEnds (startPower m u (startLost d)))
  let d := reconcileCounters u.vaultCountersOk u.arrayAOk u.arrayBOk (clearTests (dropVolatile d))
  let d := startTariff c r (startClock u.rtcAdvance d)
  let d := startJobs (endEstims c { d with win := { d.win.cleared with beatFrame := m } })
  let d := { d with samp := startSamp m d, metr := startMetr c r d, saf := startSaf m d.saf, disp := { since := m } }
  let d := { d with
    lanes := { d.lanes with slotMargin := 65535 }
    diag := { d.diag with margins := List.replicate 10 65535 } }
  let d := startQueue m r d
  drawNonce m (gridStart (readerStart m (startPeriods (demandsShort d))))

/-- What start-up tests show (R127, R458): the modulators' references, and the digests of the image set. -/
def startTests (s : State) (u : StartIn) (d : Dev) : Dev :=
  let n := s.clk.frame
  let bad := (List.range 18).filter fun c => u.badRefs.getLsbD c
  let d := bad.foldl (fun d c => channelConsequence s c (channelFaultEff c true d)) d
  let d := selftest n 0 bad.isEmpty u.badRefs.toNat d
  selftest n 6 (decide (failedParts u = 0)) (failedParts u).toNat d

/-- BOOT_RECOVERY at the first frame from a recovery image (R432). -/
def startBootRecovery (d : Dev) : Dev :=
  let was := d.upd.bootRecovery
  let d := { d with upd := { d.upd with bootBad := false, bootRecovery := false } }
  if was then d.raise Src.host Event.BOOT_RECOVERY (leBytes 4 1) else d

/-- The machine that start-up has recovered, its mode not yet in force (R57, R193). -/
def startedDev (m : Nat) (c : Choice) (u : StartIn) (s : State) : Dev :=
  let old := persistedMode s c
  let d := startCauses u.laneProtoOk old (startDev m c c.regs u s.dev)
  startSafetySet (startActivationState m (decide (old = .factory)) (startBootRecovery d))

/-- The clock and the registers of frame m: the mode is mapped from the one that persisted (R40, R193). -/
def startedClock (m : Nat) (c : Choice) (d : Dev) (s : State) : State :=
  let old := persistedMode s c
  let mode := mappedMode d old
  { s with
    clk := { frame := m, running := true, startFrame := m, mode := mode
             modePrev := if mode = old then s.clk.modePrev else old
             modeCause := if mode = old then s.clk.modeCause else causeEvent Event.STARTED }
    regs := { c.regs with tariff := tariffHeld d.tar.nextTariff } }

/-- What frame m does before its metering (R57, R193, R385): a session that was open is closed, the start-up checkpoint
is due, the gap and a change of mode are logged; then the identity check and a waiting package. -/
def startedWork (m : Nat) (c : Choice) (u : StartIn) (old : Mode) (s : State) (d : Dev) : Dev :=
  let mode := s.clk.mode
  let d := startOutlet (startSession10 c s d)
  let d := startGap m u.startMs c (startArrays m u (d.ckptDue 4))
  let d := if mode = old then d
    else (d.raise Src.own Event.MODE_CHANGED
      (leBytes 1 old.code ++ leBytes 1 mode.code ++ leBytes 4 (causeEvent Event.STARTED) ++ leBytes 8 m)).irq 0b100000#9
  let d := dropSlots u.badSlots (drainRing (drainQueue (startTests s u d)))
  let d := identityCheck mode u.identityOk d
  let d := stageStart s c.ckpt.latches u.lkFb d
  if calicoWaits d then calicoValidate s d else d

/-- What frame m does after its metering: its tariff step, its limits, the first image, and what it publishes. -/
def startedEnd (m : Nat) (s : State) : State :=
  let d := demandsShort (tariffStep m s.regs s.dev)
  let d := if d.tar.billLast < d.tar.rtc then billGap d else d
  let d := calicoImageWrite m false s (limitStack s.regs.tariff d)
  let d := publish { s with dev := d } { d with win := { d.win with shadow := { d.win.shadow with marker := true } } }
  { s with dev := lcdStep { s with dev := d } d }

/-- Frame m (R57, R193, R385). -/
def frameM (m : Nat) (c : Choice) (u : StartIn) (s : State) : State :=
  let d := startedDev m c u s
  let s' := startedClock m c d s
  startedEnd m (metrFrame { s' with dev := startedWork m c u (persistedMode s c) s' d })

/-- Frames start: an image, a crystal, a lane and a checkpoint are good (R58, R192, R476). -/
def framesStart (u : StartIn) : Bool := (u.xaOk || u.xbOk) && (u.laneAOk || u.laneBOk)

/-- The machine as a start-up finds it: the frame that ran last committed, the records that are bad gone (R184, R191). -/
def beforeStart (u : StartIn) (s : State) : State :=
  (commitFrame (liveCounters s.dev) s).onDev (dropBad u.badRecords)

/-- A start-up without frames (R57, R58): the supply is there, the pilot is in state F, and the start-up counts, from the
next frame m on (log entry 98). -/
def startWithout (d : Dev) : Dev :=
  { d with pow := { d.pow with st := .mains, lateStarts := d.pow.lateStarts + 1 }, veh := { d.veh with applied := .forceF } }

/-- START_UP (R57, R58): the frame that ran last is concluded first. With a bad image in both lanes the boot ROM waits for
a recovery image; without a crystal, a lane or a checkpoint frames do not start. -/
def startUpEff (u : StartIn) (s : State) : State :=
  let s := beforeStart u s
  if !u.frameImageOk then
    s.onDev fun d => { startWithout d with win := d.win.cleared, upd := { d.upd with bootBad := true } }
  else
    match if framesStart u then recoverChoice u.arrayAOk u.arrayBOk s.dev else none with
    | some c => frameM (c.frame + 1) c u s
    | none => s.onDev startWithout

/-- START_UP. -/
def execStartUp (u : StartIn) (s : State) : Out :=
  .next (whenS (!s.clk.running && !s.dev.pow.inReset) (startUpEff u) s)

/-! The end of start-up. -/

/-- A lane's start-up repair has ended (R58). -/
def laneDecided (r : LaneRec) : Bool := decide (r.st = .lead ∨ r.st = .follow ∨ r.st = .failed)

/-- The conditions of the end of start-up are met (R51, R57): hold-up is decided, and so are both lanes. -/
def readyDue (s : State) : Bool :=
  s.clk.running && s.dev.pow.starting && laneDecided s.dev.lanes.a && laneDecided s.dev.lanes.b &&
    (s.dev.pow.recharge.isNone || decide (s.dev.pow.holdupCap < 2000))

/-- STARTUP_READY (R51, R57, R66): a capacitance below 2,000 µF is hold-up not ready; STARTED; from here on the pilot and
the ping follow the mode. -/
def readyEff (s : State) (d : Dev) : Dev :=
  let low := decide (d.pow.holdupCap < 2000) && (d.pow.recharge.isSome || decide (28000 ≤ d.pow.vhold))
  let d := if low then holdupLow s.clk.frame s.clk.mode true d
    else if d.pow.holdupReady then selftest s.clk.frame 18 true 0 d else d
  ({ d with pow := { d.pow with starting := false, recharge := none } }).raise Src.own Event.STARTED
    (leBytes 4 d.pow.gapFrames ++ leBytes 4 d.pow.gapSecs)

/-- STARTUP_READY. -/
def execStartupReady (s : State) : Out := devStep s (Dev.when (readyDue s) (readyEff s))

end Sys2Proof.Machine
end

