-- ==== Sys2Proof/Machine/Tick.lean ====
section
/-!
DEFINITION. FRAME_TICK (R19): the protocol work and the commit that conclude the frame that ran, then the work of the
frame that the tick starts, in the order of its slots. What other rows bring into a frame stands between the two.
-/

namespace Sys2Proof.Machine

/-- The protocol slot of a frame, 70 to 116 µs (R19, R84, R87, R90), by a lead whose delta carries the commit marker: one
that publishes none leaves nothing of it (R31, R474). The dispute recompute replaces the job steps (R26). -/
def protocolSlot (s : State) : State :=
  let s := mailboxScan s
  let recompute := s.dev.lanes.dispute.any fun x => decide (x.frame + 1 = s.clk.frame)
  if !protocolRuns s.dev || recompute then s else s.onDev (jobStep s.clk.frame)

/-! The end of a frame. -/

/-- Checkpoints that the end of the frame calls for (R187): a field limit, or an estimation checkpoint that has waited for
its 128 frames. -/
def dueAtEnd (n : Nat) (r : Regs) (d : Dev) : Dev :=
  let d := if (incOf r d.led.base).any (fun e => decide (2 ^ 47 ≤ e)) ∨ (pulseIncOf d).any (fun e => decide (200 ≤ e)) then
      d.ckptDue 6 else d
  if d.led.estWaits ∧ d.led.base.frame + 128 ≤ n then
    { d with led := { d.led with estWaits := false } }.ckptDue 7
  else d

/-- At a checkpoint: a package committed since is validated, and an image is written, which in the final sequence the first
frame of it has done (R55, R380, R385). -/
def calicoAtCheckpoint (s : State) : State :=
  let d := s.dev
  if d.led.due = 0 then s
  else
    let d := if d.cal.commitSeq = d.cal.appliedSeq then d else calicoValidate s d
    let s := { s with dev := logFrame s.clk.frame d }
    if s.dev.pow.finalSeq.isSome then s else s.onDev (calicoImageWrite s.clk.frame false s)

/-- Alarms logged enter the alarm register and are pushed (R357). -/
def alarmPush (n : Nat) (d : Dev) : Dev := alarmStep n d.log.alarms { d with log := { d.log with alarms := [] } }

/-- The lanes that computed a frame, and those whose frame-complete reports were accepted (R21, R100). -/
def reportBits (f : LaneRec → Bool) (x : Lanes) : BitVec 2 := BitVec.ofBool (f x.b) ++ BitVec.ofBool (f x.a)

/-- Reports of the frame that ends. -/
def reports (n : Nat) (d : Dev) : Dev :=
  let mark (r : LaneRec) : LaneRec := { r with wrote := false, completed := if computes r then n else r.completed }
  { d with lanes := { d.lanes with
      reported := reportBits computes d.lanes, a := mark d.lanes.a, b := mark d.lanes.b } }

/-- The frame that ran is concluded: its crossings, its protocol slot, its checkpoints, its log, its commit (R19, R184 to
R190). -/
def conclude (s : State) : State :=
  let n := s.clk.frame
  let s := protocolSlot (s.onDev (closePending n))
  let s := calicoAtCheckpoint (s.onDev (dueAtEnd n s.regs))
  let s := s.onDev fun d => alarmPush n (logFrame n d)
  (commitFrame (liveCounters s.dev) s).onDev (reports n)

/-- The hold-up final sequence ends with the frame that ran (R55): 128 frames. -/
def finalEnds (s : State) : Bool := s.dev.pow.finalSeq.any fun f => decide (f + 128 ≤ s.clk.frame + 1)

/-- The last frame of an ordered stop, which writes a checkpoint (R55, R187, R431). -/
def stopAfter (kind : Nat) (s : State) : State := stopFrames kind (conclude (s.onDev (Dev.ckptDue 3)))

/-! The beginning of a frame. -/

/-- What the tick itself brings (R50, R85, R113, R206, R209, R463): supply, clock, queued writes, the release. -/
def tickInputs (n : Nat) (f : FrameIn) (r : Regs) (d : Dev) : Dev :=
  let d := clockTick (rtcTick f.rtcAdvance (supplyStep f d))
  let d := release n (queueStep n r (pertStep n (holdReverts n d)))
  { d with
    lanes := { d.lanes with
      tickLost := false, slotMargin := min d.lanes.slotMargin (min 65535 f.slotMargin)
      mirrorCorrected := d.lanes.mirrorCorrected + f.mirrorCorrected
      followDiscarded := d.lanes.followDiscarded + f.followWrites }
    led := { d.led with
      uncommitted := true, mramCorrected := d.led.mramCorrected + f.mramCorrected
      records := d.led.records.map fun r => { r with sigBad := r.sigBad || f.flashBad.contains r.number } }
    diag := { d.diag with flashCorrected := d.diag.flashCorrected + f.flashCorrected }
    win := { d.win with shadow := { d.win.shadow with marker := f.marker }, scanned := false }
    acs := { d.acs with commitDone := false, modeDone := false } }

/-- The mode in force has its own happenings (R385, R466): a package that waited, a committed token. -/
def modeEntered (was : Mode) (s : State) : State :=
  s.onDev fun d =>
    let d := if s.clk.mode ≠ was ∧ (s.clk.mode = .commissioning ∨ s.clk.mode = .service) ∧ d.cal.applyResult = 4 then
        calicoValidate s d else d
    tokenStart s.clk.mode d

/-- SERGE grants the token at a tick to a lane in FOLLOW (R28, R32); after its fault the window gate moves to it, and the
lane settles the slots (R17, R87). -/
def grantAtTick (n : Nat) (d : Dev) : Dev :=
  match d.lanes.grant with
  | some l =>
    if (d.lanes.get l).st ≠ .follow then { d with lanes := { d.lanes with grant := none } }
    else if d.lanes.sergeFault then { d with lanes := { d.lanes with windowGate := some l, grant := none, settle := true } }
    else grantToken n l d
  | none => d

/-- ALIVE_TOGGLE (R100). -/
def aliveStep (n : Nat) (d : Dev) : Dev :=
  let told (l : Lane) : Bool := match l with
    | .a => d.lanes.reported.getLsbD 0
    | .b => d.lanes.reported.getLsbD 1
  if n % 80 = 0 ∧ d.lanes.acting.any told then { d with lanes := { d.lanes with alive := !d.lanes.alive } } else d

/-! The compare. -/

/-- The new LANE and METR leave frame results unchanged, so a lane in TRIAL is compared (R428). -/
def trialCompared (d : Dev) : Bool :=
  d.upd.activation.any fun a => [1, 2].all fun c =>
    decide (entryFrameDigest (nth [] (imageSet d a.target).parts (c - 1)) =
      entryFrameDigest (nth [] (imageSet d (1 - a.target)).parts (c - 1)))

/-- A lane's compare block is compared (R19, R32, R428). -/
def blockCompared (d : Dev) (r : LaneRec) : Bool := computes r && (decide (r.st ≠ .trial) || trialCompared d)

/-- TEST_MISMATCH acts in frame n (R464): on the compare block, or on the output request. -/
def mismatchActs (n : Nat) (output : Bool) (d : Dev) : Bool :=
  d.diag.pert.any (fun p => decide (p.id = Param.TEST_MISMATCH) && pertActs n p) &&
    decide (d.diag.mismatch / 4 % 2 = if output then 1 else 0)

/-- The two compare blocks differ in frame n (R24); with one lane alone the compare is skipped. -/
def blocksDiffer (n : Nat) (ok : Bool) (d : Dev) : Bool :=
  blockCompared d d.lanes.a && blockCompared d d.lanes.b && (!ok || mismatchActs n false d)

/-- The output requests that differ in frame n (R25): those of a lead and a follow. -/
def requestsDiffer (n : Nat) (differ : BitVec 3) (d : Dev) : BitVec 3 :=
  if laneServes d.lanes.a && laneServes d.lanes.b then
    (if mismatchActs n true d then differ ||| 1#3 else differ)
  else 0

/-- A lane that proves itself counts its clean compares; one in TRIAL whose frame results change counts its frames (R33,
R428). -/
def countClean (n : Nat) (ok : Bool) (d : Dev) : Dev :=
  let skipped (r : LaneRec) := decide (r.st = .trial) && !trialCompared d
  let both := blockCompared d d.lanes.a && blockCompared d d.lanes.b
  let bad := blocksDiffer n ok d || d.lanes.dispute.isSome
  let f (r : LaneRec) : LaneRec :=
    if r.st = .probation ∨ r.st = .trial then
      { r with clean := if skipped r then r.clean + 1 else if bad then 0 else if both then r.clean + 1 else r.clean }
    else r
  { d with lanes := { d.lanes with a := f d.lanes.a, b := f d.lanes.b } }

/-- The sync requests that the lanes write in frame n differ (R25, R135). -/
def syncsDiffer (n : Nat) (differ : Bool) (d : Dev) : Bool :=
  laneServes d.lanes.a && laneServes d.lanes.b && syncAsked n d && differ

/-- Outputs that differ in frame n join those of an open dispute, held as they were latched (R25). -/
def disputeGrows (n : Nat) (out latched : BitVec 3) (sync : Bool) (x : Dispute) : Dispute :=
  let more := out &&& ~~~ x.outputs
  { x with
    outputs := x.outputs ||| more, heldOut := (x.heldOut &&& ~~~ more) ||| (latched &&& more)
    outFrame := if x.outputs = 0 ∧ x.sync = false then n else x.outFrame
    sync := x.sync || sync }

/-- COMPARE_MISMATCH and OUTPUT_REQUEST_MISMATCH (R24, R25): a dispute opens; further differences before its verdict are
not counted, and an output that first differs while one is open is held from then on. `before` is the machine at the end of the frame before, whose values stay published while the compare is
disputed. -/
def compareStep (n : Nat) (f : FrameIn) (before : State) (d : Dev) : Dev :=
  let block := blocksDiffer n f.compareOk d
  let out := requestsDiffer n f.outDiffer d
  let sync := syncsDiffer n f.syncDiffer d
  let d := countClean n f.compareOk d
  if d.lanes.dispute.isNone ∧ (block ∨ out ≠ 0 ∨ sync) then
    { d with
      lanes := { d.lanes with
        disputes := d.lanes.disputes + 1
        dispute := some { frame := n, compare := block, outputs := out, heldOut := d.lanes.outputs, outFrame := n, sync := sync } }
      win := { d.win with heldVals := if block then heldNow before else [] }
      disp := { d.disp with held := if block then some ⟨before.regs, before.dev.metr, before.dev.tar⟩ else none } }
  else { d with lanes := { d.lanes with dispute := d.lanes.dispute.map (disputeGrows n out d.lanes.outputs sync) } }

/-- The values of the frame are published unless the compare is disputed (R24): the half of the stage exchange is then
written with the values that stand, under a sequence word raised as in every frame (R97). -/
def publishStep (s : State) (d : Dev) : Dev :=
  if d.lanes.dispute.any Dispute.compare then stageRaise d else publish s { d with disp := { d.disp with held := none } }

/-! The rest of the frame. -/

/-- FLAGS of the running session (R194, R198): estimated energy or a gap on the grid side or its outlet's, a clock that
is not VALID. -/
def sessionFlags (d : Dev) : Dev :=
  let e := estBits d
  let k := if dcKind d then 2 else 1
  let f : Word := (if e.getLsbD 0 || e.getLsbD k then 1 else 0) ||| (if e.getLsbD 3 || e.getLsbD (3 + k) then 2 else 0) |||
    (if d.tar.status ≠ 0 then 8 else 0)
  if d.ses.isOpen then { d with ses := { d.ses with flags := d.ses.flags ||| f } } else d

/-- A read-back of the frame's records fails (R190): the lane is faulted with cause 0x09 in the commit slot. -/
def readbackStep (f : FrameIn) (s : State) : State :=
  let bad (l : Lane) (ok : Bool) (s : State) : State :=
    whenS (!ok && laneWorks l s && laneWrites s.dev l) (faultLane l 0x09 2 0 true) s
  bad .b f.readbackB (bad .a f.readbackA s)

/-- A disputed output without a verdict goes to its safe state at the latch point of frame n+2 (R25): for a sync request,
that no sync is asked for. -/
def disputeExpires (n : Nat) (d : Dev) : Dev :=
  match d.lanes.dispute with
  | none => d
  | some x =>
    if x.outFrame + 2 ≤ n then
      let d := { d with lanes := { d.lanes with dispute := some { x with heldOut := disputedSafe x x.heldOut, sync := false } } }
      if x.sync then { d with samp := { d.samp with syncs := d.samp.syncs.filter fun r => decide (n < r.frame + 2) } } else d
    else d

/-- OUTPUT_LATCH and the load-switch channels, 68 to 75 µs (R19, R239, R312, R329). -/
def latchStep (f : FrameIn) (s : State) : State :=
  let n := s.clk.frame
  s.onDev fun d =>
    let d := latchOutputs n (disputeExpires n (waveStep s.clk (waveApply n d)))
    stageApply s (lockTick n (f.levels.getLsbD 6) f.lockI d)

/-- A login accepted in another mode than Factory leads to Service from the mode that runs (R43): from Quarantine a local
one only. -/
def loginLeads (m : Mode) (l : Login) : Bool :=
  decide (l.fromMode ≠ .factory) &&
    (decide (m = .commissioning ∨ m = .ready ∨ m = .safeStop) || (decide (m = .quarantine) && !l.remote))

/-- A trigger that was discarded and still holds is evaluated again (R44): a login whose move to Service another transition
displaced, and a session that ended in the frame Degraded was entered. -/
def heldTriggers (s : State) (d : Dev) : Dev :=
  let d := readyCause s.clk d
  let d := if d.pow.login.any (loginLeads s.clk.mode) ∧ d.pow.modeReqs.isEmpty then
      d.reqMode .service .other (causeEvent Event.SERVICE_LOGIN) else d
  if s.clk.mode = .degraded ∧ ¬d.ses.isOpen ∧ d.pow.modeReqs.isEmpty then endMode .degraded d else d

/-- From the input snapshot to the publication of a frame, 0 to 45 µs (R19): SERGE's events, samples, the stage, metering,
the tariff step, the limit stack, the compare. -/
def frameFirst (f : FrameIn) (before : State) (s : State) : State :=
  let n := s.clk.frame
  let s := metrFrame (s.onDev fun d =>
    stageCopy n f.stageStable (stageRead n f (sampleStep f (isoTick n (uisoStep n (deferSyncs s.clk (drainRing (drainQueue d))))))))
  let d := dcStep (sessionFlags (tariffStep n s.regs s.dev))
  let d := limitStep { s with dev := d } d
  let d := decideSession { s with dev := d } d
  let d := compareStep n f before d
  { s with dev := publishStep { s with dev := d } d }

/-- From the commit slot to the latch and what follows of frame work (R19): read-back, safety, outputs, display. -/
def frameSecond (f : FrameIn) (s : State) : State :=
  let s := readbackStep f s
  if s.clk.running then
    let s := s.onDev fun d => safetyStep s f.levels f.fluxgateOk d
    let s := latchStep f s
    s.onDev fun d => lcdStep { s with dev := d } (heldTriggers s (phaseMapStep d))
  else s

/-- A checkpoint every 8,000 frames (R187). -/
def periodicDue (n : Nat) (d : Dev) : Dev := d.when (decide (n % 8000 = 0)) (Dev.ckptDue 0)

/-- The next frame starts (R19): `s` is the machine after the frame before it was concluded. -/
def startFrame (f : FrameIn) (s : State) : State :=
  let n := s.clk.frame + 1
  let r := { s.regs with tariff := tariffHeld s.dev.tar.nextTariff }
  let s' : State := { s with clk := { s.clk with frame := n }, regs := r, dev := tickInputs n f r s.dev }
  let s' := modeEntered s.clk.mode (applyMode s')
  let s' := s'.onDev fun d => periodicDue n (digestStep n (heartStep s'.clk (aliveStep n (grantAtTick n (holdupStep s'.clk d)))))
  frameSecond f (frameFirst f s s')

/-- FRAME_TICK (R19). After the last frame of the final sequence, or before an activation by restart, no frame starts
(R55, R431). -/
def frameTickEff (f : FrameIn) (s : State) : State :=
  if finalEnds s then (stopAfter 0 s).onDev (dormantOrOff f.cellHeld)
  else if s.dev.upd.restartDue then
    (stopAfter 2 s).onDev fun d => { d with upd := { d.upd with restartDue := false } }
  else startFrame f (conclude s)

/-- FRAME_TICK. -/
def execFrameTick (f : FrameIn) (s : State) : Out := .next (whenS s.clk.running (frameTickEff f) s)

end Sys2Proof.Machine
end

