-- ==== Sys2Proof/Machine/Dispatch.lean ====
section
/-!
DEFINITION. One arm per row of the command table, each a call of its meaning.
-/

namespace Sys2Proof.Machine

/-- The effect of a command on everything but the queue. -/
def exec (i : Instr) (s : State) : Host.Outcome State Fault Refusal :=
  match i with
  | .frameTick f => Sys2Proof.Machine.execFrameTick f s
  | .disputeHoldExpiry => Sys2Proof.Machine.execDisputeHoldExpiry s
  | .disputeVerdict r => Sys2Proof.Machine.execDisputeVerdict r s
  | .slotDeadlineFault l slot => Sys2Proof.Machine.execSlotDeadlineFault l slot s
  | .watchdogFault l early marker => Sys2Proof.Machine.execWatchdogFault l early marker s
  | .outputRequestMissing => Sys2Proof.Machine.execOutputRequestMissing s
  | .laneSelfFault l c slot => Sys2Proof.Machine.execLaneSelfFault l c slot s
  | .claimRejected l => Sys2Proof.Machine.execClaimRejected l s
  | .laneRepairStepDone l ok badBanks => Sys2Proof.Machine.execLaneRepairStepDone l ok badBanks s
  | .laneRepaired l => Sys2Proof.Machine.execLaneRepaired l s
  | .mramArrayLost l => Sys2Proof.Machine.execMramArrayLost l s
  | .mirrorFault => Sys2Proof.Machine.execMirrorFault s
  | .sergeFault => Sys2Proof.Machine.execSergeFault s
  | .noTickGap frames => Sys2Proof.Machine.execNoTickGap frames s
  | .crystalMeasurement xa xb => Sys2Proof.Machine.execCrystalMeasurement xa xb s
  | .crystalFailed x slot => Sys2Proof.Machine.execCrystalFailed x slot s
  | .startUp u => Sys2Proof.Machine.execStartUp u s
  | .startupReady => Sys2Proof.Machine.execStartupReady s
  | .holdupDailyMeasurement capUf => Sys2Proof.Machine.execHoldupDailyMeasurement capUf s
  | .holdupRechargeDone => Sys2Proof.Machine.execHoldupRechargeDone s
  | .holdupRechargeTimeout => Sys2Proof.Machine.execHoldupRechargeTimeout s
  | .holdEntered => Sys2Proof.Machine.execHoldEntered s
  | .finalSequence => Sys2Proof.Machine.execFinalSequence s
  | .holdExited => Sys2Proof.Machine.execHoldExited s
  | .resetRequest => Sys2Proof.Machine.execResetRequest s
  | .resetRelease => Sys2Proof.Machine.execResetRelease s
  | .serviceNRelease frames => Sys2Proof.Machine.execServiceNRelease frames s
  | .serviceNStuck frames => Sys2Proof.Machine.execServiceNStuck frames s
  | .serviceNChatter edges => Sys2Proof.Machine.execServiceNChatter edges s
  | .loginWindowExpiry => Sys2Proof.Machine.execLoginWindowExpiry s
  | .serviceTimeout => Sys2Proof.Machine.execServiceTimeout s
  | .hspiWrite addr data crc lost => Sys2Proof.Machine.execHspiWrite addr data crc lost s
  | .hspiQwrite addr data crc lost => Sys2Proof.Machine.execHspiQwrite addr data crc lost s
  | .hspiRead addr words => Sys2Proof.Machine.execHspiRead addr words s
  | .hspiQread addr words => Sys2Proof.Machine.execHspiQread addr words s
  | .hspiStatus => Sys2Proof.Machine.execHspiStatus s
  | .hspiInvalidOpcode op => Sys2Proof.Machine.execHspiInvalidOpcode op s
  | .aliasBitSet p addr mask lost => Sys2Proof.Machine.execAliasBitSet p addr mask lost s
  | .aliasBitClear p addr mask lost => Sys2Proof.Machine.execAliasBitClear p addr mask lost s
  | .huartRead raw => Sys2Proof.Machine.execHuartRead raw s
  | .huartWrite raw lost => Sys2Proof.Machine.execHuartWrite raw lost s
  | .huartBadFrame raw => Sys2Proof.Machine.execHuartBadFrame raw s
  | .huartGapTimeout => Sys2Proof.Machine.execHuartGapTimeout s
  | .doorbellWrite p mask => Sys2Proof.Machine.execDoorbellWrite p mask s
  | .slotStateWrite p k val => Sys2Proof.Machine.execSlotStateWrite p k val s
  | .irqStatusClear p val => Sys2Proof.Machine.execIrqStatusClear p val s
  | .irqEnableWrite p val => Sys2Proof.Machine.execIrqEnableWrite p val s
  | .heartbeatWrite p val => Sys2Proof.Machine.execHeartbeatWrite p val s
  | .eventReadIndexWrite p val => Sys2Proof.Machine.execEventReadIndexWrite p val s
  | .windowWordWrite p addr val => Sys2Proof.Machine.execWindowWordWrite p addr val s
  | .hostLost => Sys2Proof.Machine.execHostLost s
  | .portFailed p => Sys2Proof.Machine.execPortFailed p s
  | .portRestored p => Sys2Proof.Machine.execPortRestored p s
  | .streamOverrun => Sys2Proof.Machine.execStreamOverrun s
  | .jobEnded id e => Sys2Proof.Machine.execJobEnded id e s
  | .identify own tag args => Sys2Proof.Machine.execIdentify own tag args s
  | .modeRequest own tag args => Sys2Proof.Machine.execModeRequest own tag args s
  | .safestopClear own tag args => Sys2Proof.Machine.execSafestopClear own tag args s
  | .serviceLogin own tag args => Sys2Proof.Machine.execServiceLogin own tag args s
  | .serviceLogout own tag args => Sys2Proof.Machine.execServiceLogout own tag args s
  | .stopRequest own tag args => Sys2Proof.Machine.execStopRequest own tag args s
  | .paramRead own tag args => Sys2Proof.Machine.execParamRead own tag args s
  | .paramWrite own tag args => Sys2Proof.Machine.execParamWrite own tag args s
  | .paramCommit own tag args => Sys2Proof.Machine.execParamCommit own tag args s
  | .paramDiscard own tag args => Sys2Proof.Machine.execParamDiscard own tag args s
  | .paramDescribe own tag args => Sys2Proof.Machine.execParamDescribe own tag args s
  | .paramReadBlock own tag args => Sys2Proof.Machine.execParamReadBlock own tag args s
  | .paramWriteBlock own tag args => Sys2Proof.Machine.execParamWriteBlock own tag args s
  | .paramPending own tag args => Sys2Proof.Machine.execParamPending own tag args s
  | .paramEnum own tag args => Sys2Proof.Machine.execParamEnum own tag args s
  | .snapshotTake own tag args => Sys2Proof.Machine.execSnapshotTake own tag args s
  | .snapshotRelease own tag args => Sys2Proof.Machine.execSnapshotRelease own tag args s
  | .cmdOutcome own tag args => Sys2Proof.Machine.execCmdOutcome own tag args s
  | .eventFetch own tag args => Sys2Proof.Machine.execEventFetch own tag args s
  | .bulkChunk own tag args => Sys2Proof.Machine.execBulkChunk own tag args s
  | .jobList own tag args => Sys2Proof.Machine.execJobList own tag args s
  | .jobStatus own tag args => Sys2Proof.Machine.execJobStatus own tag args s
  | .jobCancel own tag args => Sys2Proof.Machine.execJobCancel own tag args s
  | .clockSet own tag args => Sys2Proof.Machine.execClockSet own tag args s
  | .rtcLoad => Sys2Proof.Machine.execRtcLoad s
  | .sync own tag args => Sys2Proof.Machine.execSync own tag args s
  | .metrSealOpen own tag args => Sys2Proof.Machine.execMetrSealOpen own tag args s
  | .metrSealClose own tag args => Sys2Proof.Machine.execMetrSealClose own tag args s
  | .recordRead own tag args => Sys2Proof.Machine.execRecordRead own tag args s
  | .signatureRead own tag args => Sys2Proof.Machine.execSignatureRead own tag args s
  | .registersRead own tag args => Sys2Proof.Machine.execRegistersRead own tag args s
  | .metrLogRead own tag args => Sys2Proof.Machine.execMetrLogRead own tag args s
  | .calendarActivate own tag args => Sys2Proof.Machine.execCalendarActivate own tag args s
  | .calendarArmed => Sys2Proof.Machine.execCalendarArmed s
  | .billingClose own tag args => Sys2Proof.Machine.execBillingClose own tag args s
  | .displayStep own tag args => Sys2Proof.Machine.execDisplayStep own tag args s
  | .remoteStart own tag args => Sys2Proof.Machine.execRemoteStart own tag args s
  | .remoteStop own tag args => Sys2Proof.Machine.execRemoteStop own tag args s
  | .safetyCheckRead own tag args => Sys2Proof.Machine.execSafetyCheckRead own tag args s
  | .safetyConfirm own tag args => Sys2Proof.Machine.execSafetyConfirm own tag args s
  | .safetyProofTest own tag args => Sys2Proof.Machine.execSafetyProofTest own tag args s
  | .proofTestDone test pass => Sys2Proof.Machine.execProofTestDone test pass s
  | .switchSet own tag args => Sys2Proof.Machine.execSwitchSet own tag args s
  | .latchClear own tag args => Sys2Proof.Machine.execLatchClear own tag args s
  | .lockDrive own tag args => Sys2Proof.Machine.execLockDrive own tag args s
  | .calicoStagingStatus own tag args => Sys2Proof.Machine.execCalicoStagingStatus own tag args s
  | .authLoad own tag args => Sys2Proof.Machine.execAuthLoad own tag args s
  | .authSwap own tag args => Sys2Proof.Machine.execAuthSwap own tag args s
  | .authBankSwap => Sys2Proof.Machine.execAuthBankSwap s
  | .authLookup own tag args => Sys2Proof.Machine.execAuthLookup own tag args s
  | .keyDerive own tag args => Sys2Proof.Machine.execKeyDerive own tag args s
  | .keyDerived slot => Sys2Proof.Machine.execKeyDerived slot s
  | .attest own tag args => Sys2Proof.Machine.execAttest own tag args s
  | .attested => Sys2Proof.Machine.execAttested s
  | .enrol own tag args => Sys2Proof.Machine.execEnrol own tag args s
  | .enrolled => Sys2Proof.Machine.execEnrolled s
  | .tamperAck own tag args => Sys2Proof.Machine.execTamperAck own tag args s
  | .imageStage own tag args => Sys2Proof.Machine.execImageStage own tag args s
  | .imageVerify own tag args => Sys2Proof.Machine.execImageVerify own tag args s
  | .imageVerified readOk => Sys2Proof.Machine.execImageVerified readOk s
  | .imageActivate own tag args => Sys2Proof.Machine.execImageActivate own tag args s
  | .testAuth own tag args => Sys2Proof.Machine.execTestAuth own tag args s
  | .scrubStart own tag args => Sys2Proof.Machine.execScrubStart own tag args s
  | .calAccCtrl own n => Sys2Proof.Machine.execCalAccCtrl own n s
  | .calAccDone => Sys2Proof.Machine.execCalAccDone s
  | .senseSel own v => Sys2Proof.Machine.execSenseSel own v s
  | .gplcStateReset own v => Sys2Proof.Machine.execGplcStateReset own v s
  | .testSlotStretch own v => Sys2Proof.Machine.execTestSlotStretch own v s
  | .testMboxDelay own v => Sys2Proof.Machine.execTestMboxDelay own v s
  | .testPortBusy own v => Sys2Proof.Machine.execTestPortBusy own v s
  | .testPortThrottle own v => Sys2Proof.Machine.execTestPortThrottle own v s
  | .testGplcHold own v => Sys2Proof.Machine.execTestGplcHold own v s
  | .testCommitDelay own v => Sys2Proof.Machine.execTestCommitDelay own v s
  | .testMismatch own v => Sys2Proof.Machine.execTestMismatch own v s
  | .testWdtWindow own v => Sys2Proof.Machine.execTestWdtWindow own v s
  | .testEnrolToken => Sys2Proof.Machine.execTestEnrolToken s
  | .testInjected margin => Sys2Proof.Machine.execTestInjected margin s
  | .testReverted => Sys2Proof.Machine.execTestReverted s
  | .selftestRun t pass detail => Sys2Proof.Machine.execSelftestRun t pass detail s
  | .channelFault c startup => Sys2Proof.Machine.execChannelFault c startup s
  | .channelRestored c => Sys2Proof.Machine.execChannelRestored c s
  | .channelOverrange c => Sys2Proof.Machine.execChannelOverrange c s
  | .overrangeEnd c => Sys2Proof.Machine.execOverrangeEnd c s
  | .syncInEdge rising => Sys2Proof.Machine.execSyncInEdge rising s
  | .syncInChatter edges => Sys2Proof.Machine.execSyncInChatter edges s
  | .syncReset => Sys2Proof.Machine.execSyncReset s
  | .syncPendingRedecide => Sys2Proof.Machine.execSyncPendingRedecide s
  | .channelModeEffect => Sys2Proof.Machine.execChannelModeEffect s
  | .scsConversionDone c => Sys2Proof.Machine.execScsConversionDone c s
  | .auxResult v => Sys2Proof.Machine.execAuxResult v s
  | .pilotPlateau p => Sys2Proof.Machine.execPilotPlateau p s
  | .zeroCrossing side => Sys2Proof.Machine.execZeroCrossing side s
  | .wrongSequence => Sys2Proof.Machine.execWrongSequence s
  | .missingNeutral => Sys2Proof.Machine.execMissingNeutral s
  | .sag side ph => Sys2Proof.Machine.execSag side ph s
  | .swell side ph => Sys2Proof.Machine.execSwell side ph s
  | .freqOutOfRange => Sys2Proof.Machine.execFreqOutOfRange s
  | .currentWithoutVoltage side ph => Sys2Proof.Machine.execCurrentWithoutVoltage side ph s
  | .reverseEnergy m => Sys2Proof.Machine.execReverseEnergy m s
  | .meterGap m ph => Sys2Proof.Machine.execMeterGap m ph s
  | .pulseStart j => Sys2Proof.Machine.execPulseStart j s
  | .pulseEnd j => Sys2Proof.Machine.execPulseEnd j s
  | .recordSigned => Sys2Proof.Machine.execRecordSigned s
  | .mramScrub => Sys2Proof.Machine.execMramScrub s
  | .loadProfileCapture p => Sys2Proof.Machine.execLoadProfileCapture p s
  | .tariffSwitched => Sys2Proof.Machine.execTariffSwitched s
  | .demandIntervalClose j => Sys2Proof.Machine.execDemandIntervalClose j s
  | .billingCloseScheduled => Sys2Proof.Machine.execBillingCloseScheduled s
  | .calendarActivated => Sys2Proof.Machine.execCalendarActivated s
  | .dstChanged => Sys2Proof.Machine.execDstChanged s
  | .clockInvalid => Sys2Proof.Machine.execClockInvalid s
  | .rtcDrift => Sys2Proof.Machine.execRtcDrift s
  | .clockAgeExpired => Sys2Proof.Machine.execClockAgeExpired s
  | .displayDwell => Sys2Proof.Machine.execDisplayDwell s
  | .dispManualTimeout => Sys2Proof.Machine.execDispManualTimeout s
  | .dispBtnRelease frames => Sys2Proof.Machine.execDispBtnRelease frames s
  | .dispBtnStuck frames => Sys2Proof.Machine.execDispBtnStuck frames s
  | .dispBtnChatter edges => Sys2Proof.Machine.execDispBtnChatter edges s
  | .pilotStateAccepted st => Sys2Proof.Machine.execPilotStateAccepted st s
  | .pilotETimeout => Sys2Proof.Machine.execPilotETimeout s
  | .cableChanged => Sys2Proof.Machine.execCableChanged s
  | .beacon answered => Sys2Proof.Machine.execBeacon answered s
  | .slacParmReq => Sys2Proof.Machine.execSlacParmReq s
  | .slacMatched evccid attenDb seqOk => Sys2Proof.Machine.execSlacMatched evccid attenDb seqOk s
  | .slacInitTimeout => Sys2Proof.Machine.execSlacInitTimeout s
  | .vplcLinkLost c => Sys2Proof.Machine.execVplcLinkLost c s
  | .sdpRequest tls => Sys2Proof.Machine.execSdpRequest tls s
  | .supportedAppProtocol offered => Sys2Proof.Machine.execSupportedAppProtocol offered s
  | .sessionSetup => Sys2Proof.Machine.execSessionSetup s
  | .serviceDiscovery => Sys2Proof.Machine.execServiceDiscovery s
  | .authorizationReq c emaid => Sys2Proof.Machine.execAuthorizationReq c emaid s
  | .pncValidated => Sys2Proof.Machine.execPncValidated s
  | .pncHostTimeout => Sys2Proof.Machine.execPncHostTimeout s
  | .chargeParameterDiscovery maxV maxI maxP => Sys2Proof.Machine.execChargeParameterDiscovery maxV maxI maxP s
  | .powerDeliveryReq start => Sys2Proof.Machine.execPowerDeliveryReq start s
  | .chargingLoopReq targetV targetI soc discharge => Sys2Proof.Machine.execChargingLoopReq targetV targetI soc discharge s
  | .cableCheckReq => Sys2Proof.Machine.execCableCheckReq s
  | .preChargeReq targetV => Sys2Proof.Machine.execPreChargeReq targetV s
  | .preChargeReady => Sys2Proof.Machine.execPreChargeReady s
  | .weldingDetectionReq => Sys2Proof.Machine.execWeldingDetectionReq s
  | .sessionStopReq terminate => Sys2Proof.Machine.execSessionStopReq terminate s
  | .cardRefused => Sys2Proof.Machine.execCardRefused s
  | .preauthExpired => Sys2Proof.Machine.execPreauthExpired s
  | .outletClose => Sys2Proof.Machine.execOutletClose s
  | .stopWaitExpiry => Sys2Proof.Machine.execStopWaitExpiry s
  | .sessionResume => Sys2Proof.Machine.execSessionResume s
  | .stageTimeout => Sys2Proof.Machine.execStageTimeout s
  | .dcEnablesOpen => Sys2Proof.Machine.execDcEnablesOpen s
  | .hostGraceExpired => Sys2Proof.Machine.execHostGraceExpired s
  | .degradedLimitExpiry => Sys2Proof.Machine.execDegradedLimitExpiry s
  | .fastTrip k mv => Sys2Proof.Machine.execFastTrip k mv s
  | .ftComparatorTest failed => Sys2Proof.Machine.execFtComparatorTest failed s
  | .fluxgateDriveFault => Sys2Proof.Machine.execFluxgateDriveFault s
  | .residualTierTrip t => Sys2Proof.Machine.execResidualTierTrip t s
  | .rcPeakTrip ma => Sys2Proof.Machine.execRcPeakTrip ma s
  | .rcTest m160 m40 peakLatched => Sys2Proof.Machine.execRcTest m160 m40 peakLatched s
  | .quadProofPulse m => Sys2Proof.Machine.execQuadProofPulse m s
  | .contactorCloseCheck => Sys2Proof.Machine.execContactorCloseCheck s
  | .contactorDropped mc => Sys2Proof.Machine.execContactorDropped mc s
  | .openingCheck => Sys2Proof.Machine.execOpeningCheck s
  | .testPulse b lowSeen => Sys2Proof.Machine.execTestPulse b lowSeen s
  | .safetyInputTrip v => Sys2Proof.Machine.execSafetyInputTrip v s
  | .discrepancy door => Sys2Proof.Machine.execDiscrepancy door s
  | .chatter v edges => Sys2Proof.Machine.execChatter v edges s
  | .overTemperatureTrip => Sys2Proof.Machine.execOverTemperatureTrip s
  | .pilotIntegrityTrip => Sys2Proof.Machine.execPilotIntegrityTrip s
  | .peContinuityTrip => Sys2Proof.Machine.execPeContinuityTrip s
  | .insulationStep => Sys2Proof.Machine.execInsulationStep s
  | .safetyRearm => Sys2Proof.Machine.execSafetyRearm s
  | .safetyConfirmExpired => Sys2Proof.Machine.execSafetyConfirmExpired s
  | .inrushStep k => Sys2Proof.Machine.execInrushStep k s
  | .fastShort k us => Sys2Proof.Machine.execFastShort k us s
  | .thermalShutdown k tj => Sys2Proof.Machine.execThermalShutdown k tj s
  | .retryRestart k => Sys2Proof.Machine.execRetryRestart k s
  | .retryCounterReset k => Sys2Proof.Machine.execRetryCounterReset k s
  | .openLoad k offState => Sys2Proof.Machine.execOpenLoad k offState s
  | .shortToVaux k => Sys2Proof.Machine.execShortToVaux k s
  | .vauxUndervoltage mv us => Sys2Proof.Machine.execVauxUndervoltage mv us s
  | .vauxOvervoltage mv us => Sys2Proof.Machine.execVauxOvervoltage mv us s
  | .vauxRestored => Sys2Proof.Machine.execVauxRestored s
  | .vauxOverloadShed => Sys2Proof.Machine.execVauxOverloadShed s
  | .vauxOverloadReturn => Sys2Proof.Machine.execVauxOverloadReturn s
  | .lockDriveStop => Sys2Proof.Machine.execLockDriveStop s
  | .lockBrakeEnd => Sys2Proof.Machine.execLockBrakeEnd s
  | .lockRepeat => Sys2Proof.Machine.execLockRepeat s
  | .lockLost => Sys2Proof.Machine.execLockLost s
  | .coilPullinEnd => Sys2Proof.Machine.execCoilPullinEnd s
  | .gplcFrameReceived g => Sys2Proof.Machine.execGplcFrameReceived g s
  | .toneMapResponse t => Sys2Proof.Machine.execToneMapResponse t s
  | .toneMapAge addr => Sys2Proof.Machine.execToneMapAge addr s
  | .routeRequest r => Sys2Proof.Machine.execRouteRequest r s
  | .routeReply r => Sys2Proof.Machine.execRouteReply r s
  | .routeExpiry dest => Sys2Proof.Machine.execRouteExpiry dest s
  | .gplcJoined panId short fast groupKey => Sys2Proof.Machine.execGplcJoined panId short fast groupKey s
  | .gplcPanLost => Sys2Proof.Machine.execGplcPanLost s
  | .bootstrapRetry => Sys2Proof.Machine.execBootstrapRetry s
  | .modemHeartbeatMiss frames => Sys2Proof.Machine.execModemHeartbeatMiss frames s
  | .gplcModemRetry => Sys2Proof.Machine.execGplcModemRetry s
  | .packetDelivered q sends => Sys2Proof.Machine.execPacketDelivered q sends s
  | .packetDropped q noRoute sends => Sys2Proof.Machine.execPacketDropped q noRoute sends s
  | .queueTimeout q => Sys2Proof.Machine.execQueueTimeout q s
  | .lastGaspSent => Sys2Proof.Machine.execLastGaspSent s
  | .lastGaspAbandoned airUs => Sys2Proof.Machine.execLastGaspAbandoned airUs s
  | .modemShed => Sys2Proof.Machine.execModemShed s
  | .dlmsAssociated sap suite authentic => Sys2Proof.Machine.execDlmsAssociated sap suite authentic s
  | .dlmsApdu a => Sys2Proof.Machine.execDlmsApdu a s
  | .dlmsInactivity assoc => Sys2Proof.Machine.execDlmsInactivity assoc s
  | .pushRetry => Sys2Proof.Machine.execPushRetry s
  | .imageTransferInitiate ident size => Sys2Proof.Machine.execImageTransferInitiate ident size s
  | .imageBlockTransfer block data readBack => Sys2Proof.Machine.execImageBlockTransfer block data readBack s
  | .keyTransfer slot wrapped => Sys2Proof.Machine.execKeyTransfer slot wrapped s
  | .gauzePing re im ans => Sys2Proof.Machine.execGauzePing re im ans s
  | .pollWhilePresent ans => Sys2Proof.Machine.execPollWhilePresent ans s
  | .cardAbsent kind ident => Sys2Proof.Machine.execCardAbsent kind ident s
  | .sWtxRequest waitMs => Sys2Proof.Machine.execSWtxRequest waitMs s
  | .cardTimeout fwi us => Sys2Proof.Machine.execCardTimeout fwi us s
  | .readerFault amplitude stored => Sys2Proof.Machine.execReaderFault amplitude stored s
  | .calicoSelect file => Sys2Proof.Machine.execCalicoSelect file s
  | .calicoReadBinary offset len => Sys2Proof.Machine.execCalicoReadBinary offset len s
  | .calicoUpdateBinary offset data => Sys2Proof.Machine.execCalicoUpdateBinary offset data s
  | .calicoTrigger len crc => Sys2Proof.Machine.execCalicoTrigger len crc s
  | .calicoFieldCollapse p => Sys2Proof.Machine.execCalicoFieldCollapse p s
  | .harvOutChange fieldCentiAm supplyOk goodMs => Sys2Proof.Machine.execHarvOutChange fieldCentiAm supplyOk goodMs s
  | .cellMeasurement cell mv => Sys2Proof.Machine.execCellMeasurement cell mv s
  | .cellLoadTest cell mv => Sys2Proof.Machine.execCellLoadTest cell mv s
  | .cellRestored cell => Sys2Proof.Machine.execCellRestored cell s
  | .batteryDomainPowerUp => Sys2Proof.Machine.execBatteryDomainPowerUp s
  | .tamperDetected src => Sys2Proof.Machine.execTamperDetected src s
  | .keysErased => Sys2Proof.Machine.execKeysErased s
  | .rootGenerated => Sys2Proof.Machine.execRootGenerated s
  | .loginNonceRefresh => Sys2Proof.Machine.execLoginNonceRefresh s
  | .activationHandover => Sys2Proof.Machine.execActivationHandover s
  | .updateActivated => Sys2Proof.Machine.execUpdateActivated s
  | .updateReverted c => Sys2Proof.Machine.execUpdateReverted c s
  | .bootRecovery => Sys2Proof.Machine.execBootRecovery s
  | .supplyCollapse v => Sys2Proof.Machine.execSupplyCollapse v s
  | .batteryDomainSupplyLost => Sys2Proof.Machine.execBatteryDomainSupplyLost s
  | .tamperSourceInactive src => Sys2Proof.Machine.execTamperSourceInactive src s
  | .safetyInputHighAccepted v => Sys2Proof.Machine.execSafetyInputHighAccepted v s
  | .paymentServiceSelection pnc bpt => Sys2Proof.Machine.execPaymentServiceSelection pnc bpt s

end Sys2Proof.Machine
end

