-- ==== Sys2Proof/Machine/Step.lean ====
section
/-!
DEFINITION. One step: the command at the front of the queue, and how the host puts a command there.
-/

namespace Sys2Proof.Machine

/-- The command at the front of the queue acts on the state with the rest of the queue; with no command waiting the
block idles (log entry 42). The clock's work is FRAME_TICK, a row of the table. -/
def step (s : State) : Host.Outcome State Fault Refusal :=
  match s.pending with
  | [] => .next s
  | c :: rest => exec c { s with pending := rest }

/-- The command that a word of the table spells, at the front of the queue; the state as it is where it spells none. -/
def State.withFetchWord (s : State) (nbits w : Nat) : State :=
  match decodeTableWord nbits w with
  | some c => { s with pending := c :: s.pending }
  | none => s

end Sys2Proof.Machine
end

