-- ==== Sys2Proof/Safety.lean ====
section
/-!
DEFINITION. What counts as a sound machine, in the terms that claims use: the guarantees of R39 and R270 as predicates
over a state.
-/

namespace Sys2Proof.Machine

/-- A family's tariff registers T1 to T8 sum to its total exactly, residue carried (R39, R177). -/
def Fam.Sound (f : Fam) : Prop := f.tariffs.length = 8 ∧ f.tariffs.sum = f.total

/-- The energy registers are sound (R39, R176): eleven families, each sound, and a tariff in force of 1 to 8 (R216). -/
def Regs.Sound (r : Regs) : Prop :=
  r.fams.length = 11 ∧ (∀ f ∈ r.fams, f.Sound) ∧ 1 ≤ r.tariff ∧ r.tariff ≤ 8

/-- No token is held after a SERGE fault (R17, R28). -/
def Lanes.TokenSound (x : Lanes) : Prop := x.sergeFault = true → x.token = none

/-- Mailbox credits total 16 (R39, R83). -/
def Win.CreditsSound (w : Win) : Prop := w.slots.length = 16 ∧ w.journal.length = 16

/-- The window's RAM is in its canonical form. -/
def Win.RamSound (w : Win) : Prop := Mem.wf w.mem

/-- Every power-enable output is inactive and the pilot is forced to F (R17, R270): the safe state of the latch. -/
def Lanes.OutputsSafe (x : Lanes) : Prop := x.outputs = 0b100#3

/-- The parts of a state that a command may change. -/
inductive Part where
  | clk | regs | lanes | pow | win | acs | par | log | samp | metr | led | tar | disp | veh | ses | dc | saf | sw
  | gplc | dlms | nfc | cal | keys | upd | diag
  deriving DecidableEq, Repr

/-- A part of `dev` is the same. -/
def SamePart (d e : Dev) : Part → Prop
  | .clk => True
  | .regs => True
  | .lanes => e.lanes = d.lanes
  | .pow => e.pow = d.pow
  | .win => e.win = d.win
  | .acs => e.acs = d.acs
  | .par => e.par = d.par
  | .log => e.log = d.log
  | .samp => e.samp = d.samp
  | .metr => e.metr = d.metr
  | .led => e.led = d.led
  | .tar => e.tar = d.tar
  | .disp => e.disp = d.disp
  | .veh => e.veh = d.veh
  | .ses => e.ses = d.ses
  | .dc => e.dc = d.dc
  | .saf => e.saf = d.saf
  | .sw => e.sw = d.sw
  | .gplc => e.gplc = d.gplc
  | .dlms => e.dlms = d.dlms
  | .nfc => e.nfc = d.nfc
  | .cal => e.cal = d.cal
  | .keys => e.keys = d.keys
  | .upd => e.upd = d.upd
  | .diag => e.diag = d.diag

/-- From d to e only the named parts of `dev` may change. -/
def DevOnly (ps : List Part) (d e : Dev) : Prop := ∀ p : Part, p ∉ ps → SamePart d e p

/-- A frame: from s to t only the named parts may change; the queue stays. -/
def OnlyChanges (ps : List Part) (s t : State) : Prop :=
  t.pending = s.pending ∧ (Part.clk ∉ ps → t.clk = s.clk) ∧ (Part.regs ∉ ps → t.regs = s.regs) ∧
    DevOnly ps s.dev t.dev

/-- A command answers a next state in which a property holds. -/
def Completes (c : Instr) (s : State) (P : State → Prop) : Prop := ∃ t, exec c s = .next t ∧ P t

/-! Premises and conclusions that several statements share. -/

/-- The event is among those of the frame. -/
def Logged (src code : Nat) (data : List Byte) (t : State) : Prop := Ev.of src code data ∈ t.dev.log.now

/-- A follow that can be faulted and then repaired: frames run, the other lane holds the token, no dispute is open and the
repairs of 24 h are not spent (R33). -/
def FaultableFollow (l : Lane) (s : State) : Prop :=
  s.clk.running = true ∧ (s.dev.lanes.get l).st = .follow ∧ s.dev.lanes.token = some (laneOther l) ∧
    s.dev.lanes.windowGate = none ∧ s.dev.lanes.dispute = none ∧
    (s.dev.lanes.get (laneOther l)).faultedAt ≠ some s.clk.frame ∧
    ((s.dev.lanes.get l).repairs.filter fun k => s.clk.frame < k + dayFrames).length <
      s.dev.nat Param.REPAIR_LIMIT_24H

/-- What the fault of a follow leaves (R32), with the verdict of a dispute where one decided it (R37). -/
def FollowFaulted (l : Lane) (cause slot verdict : Nat) (s t : State) : Prop :=
  t.dev.lanes.faultLast = faultWord l cause slot verdict false ∧ (t.dev.lanes.get l).st = .reset ∧
    (t.dev.lanes.get l).repair = some .selfTest ∧
    t.dev.lanes.get (laneOther l) = s.dev.lanes.get (laneOther l) ∧ t.dev.lanes.token = s.dev.lanes.token ∧
    t.dev.lanes.grant = s.dev.lanes.grant ∧ t.dev.lanes.outputs = s.dev.lanes.outputs ∧
    t.dev.lanes.request = s.dev.lanes.request ∧ OnlyChanges [.lanes, .upd, .diag] s t

/-- A lead that can be faulted with a follow ready to take the token. -/
def FaultableLead (l : Lane) (s : State) : Prop :=
  s.clk.running = true ∧ (s.dev.lanes.get l).st = .lead ∧ s.dev.lanes.token = some l ∧
    (s.dev.lanes.get (laneOther l)).st = .follow ∧ s.dev.lanes.sergeFault = false ∧ s.dev.lanes.windowGate = none ∧
    s.dev.lanes.dispute = none ∧ (s.dev.lanes.get (laneOther l)).faultedAt ≠ some s.clk.frame ∧
    ((s.dev.lanes.get l).repairs.filter fun k => s.clk.frame < k + dayFrames).length <
      s.dev.nat Param.REPAIR_LIMIT_24H

/-- What the fault of a lead leaves when the token passes in the same frame (R22). -/
def TokenAtOnce (l : Lane) (cause slot verdict : Nat) (s t : State) : Prop :=
  t.dev.lanes.faultLast = faultWord l cause slot verdict false ∧ t.dev.lanes.token = some (laneOther l) ∧
    (t.dev.lanes.get (laneOther l)).st = .lead ∧ (t.dev.lanes.get l).st = .reset ∧
    t.dev.lanes.takeovers = s.dev.lanes.takeovers + 1 ∧ t.dev.lanes.outputs = s.dev.lanes.outputs ∧
    OnlyChanges [.lanes, .win, .upd, .diag] s t

/-- What the fault of a lead leaves when its follow gets the token at the next tick (R21, R32). -/
def TokenNextTick (l : Lane) (cause slot verdict : Nat) (s t : State) : Prop :=
  t.dev.lanes.faultLast = faultWord l cause slot verdict false ∧ t.dev.lanes.token = none ∧
    t.dev.lanes.grant = some (laneOther l) ∧ (t.dev.lanes.get l).st = .reset ∧
    t.dev.lanes.takeovers = s.dev.lanes.takeovers ∧ t.dev.lanes.outputs = s.dev.lanes.outputs ∧
    OnlyChanges [.lanes, .win, .upd, .diag] s t

/-- No lane is left (R22, R42): the safe state, no token, frames stopped, DUAL_LANE set; the mode and the registers stay. -/
def BothLanesOut (s t : State) : Prop :=
  t.dev.lanes.OutputsSafe ∧ t.dev.veh.applied = .forceF ∧ t.dev.lanes.token = none ∧ t.dev.lanes.grant = none ∧
    t.clk.running = false ∧ t.dev.pow.causes.getLsbD Cause.dualLane = true ∧ t.clk.mode = s.clk.mode ∧
    t.clk.frame = s.clk.frame ∧ t.regs = s.regs

/-- A fault of the Degraded kind, by its event and its cause bit, as the mode has it (R298 to R300): Degraded is asked for in
Session, with no bit set; in Degraded the fault is a trip that ends the session; elsewhere the bit is set, and from Ready
Safe-stop is asked for. -/
def DegradedKind (ev bit : Nat) (s t : State) : Prop :=
  (s.clk.mode = .session → s.dev.ses.isOpen = true →
    t.dev.pow.causes = s.dev.pow.causes ∧ ⟨.degraded, .toDegraded, causeEvent ev⟩ ∈ t.dev.pow.modeReqs ∧
      t.dev.saf.degSince = some (s.clk.frame + 1) ∧ t.dev.ses.isOpen = true ∧
      Ev.of Src.serge Event.DEGRADED_ENTERED (leBytes 2 ev ++ leBytes 2 (s.dev.nat Param.DEGRADED_LIMIT)) ∈ t.dev.log.now) ∧
    (s.clk.mode = .degraded →
      t.dev.pow.causes.getLsbD bit = true ∧ ⟨.safeStop, .toSafeStop, causeEvent ev⟩ ∈ t.dev.pow.modeReqs ∧
        t.dev.lanes.OutputsSafe ∧ t.dev.ses.isOpen = false) ∧
    (s.clk.mode ≠ .session → s.clk.mode ≠ .degraded →
      t.dev.pow.causes = s.dev.pow.causes ||| (1#32 <<< bit) ∧ t.dev.lanes.outputs = s.dev.lanes.outputs ∧
        t.dev.pow.modeReqs = s.dev.pow.modeReqs ++
          (if s.clk.mode = .ready then [⟨.safeStop, .toSafeStop, causeEvent ev⟩] else [])) ∧
    t.clk = s.clk ∧ t.regs = s.regs

/-- The HOLDUP cause as a hold-up that is not ready sets it (R51, R298): in Ready, with Safe-stop asked for; in a session, which
runs to its end; in a start-up; in no other case. -/
def HoldupCause (s t : State) : Prop :=
  (s.clk.mode = .ready ∨ s.clk.mode = .session ∨ s.clk.mode = .degraded ∨ s.dev.pow.starting = true →
    t.dev.pow.causes = s.dev.pow.causes ||| (1#32 <<< Cause.holdup)) ∧
    (s.clk.mode ≠ .ready → s.clk.mode ≠ .session → s.clk.mode ≠ .degraded → s.dev.pow.starting = false →
      t.dev.pow.causes = s.dev.pow.causes) ∧
    t.dev.pow.modeReqs = s.dev.pow.modeReqs ++
      (if s.clk.mode = .ready then [⟨.safeStop, .toSafeStop, causeEvent Event.HOLDUP_LOW⟩] else []) ∧
    Logged Src.own Event.HOLDUP_LOW (leBytesInt 4 s.dev.pow.vhold ++ leBytes 2 t.dev.pow.holdupCap) t

/-- The supply is there and a start-up can find a choice of recovered entry (R57, R58, R191, R192). -/
def StartsFrom (u : StartIn) (c : Choice) (s : State) : Prop :=
  s.clk.running = false ∧ s.dev.pow.inReset = false ∧ u.frameImageOk = true ∧ framesStart u = true ∧
    recoverChoice u.arrayAOk u.arrayBOk (beforeStart u s).dev = some c

/-- The mode of frame m for the mode that persisted (R40, R58): Session and Ready lead to Ready or Safe-stop, Degraded to
Safe-stop, Service as a logout does; the others persist. -/
def MappedFrom (old new : Mode) : Prop :=
  match old with
  | .session => new = .ready ∨ new = .safeStop
  | .ready => new = .ready ∨ new = .safeStop
  | .degraded => new = .safeStop
  | .service => new = .quarantine ∨ new = .commissioning ∨ new = .ready ∨ new = .safeStop
  | m => new = m

/-- The mode that a logout from Service asks for (R43, R48, R51). -/
def LogoutAsks (s t : State) : Prop :=
  ∃ r ∈ t.dev.pow.modeReqs, r.cause = causeEvent Event.SERVICE_LOGIN ∧
    r.target =
      (if s.dev.keys.identity ≠ 1 then .quarantine
      else if s.dev.pow.commissioned = false ∨ s.dev.pow.reopened = true ∨ s.dev.saf.confirmSt ≠ 2 ∨
        s.dev.acs.sealPending = true then .commissioning
      else if s.dev.pow.causes ≠ 0 ∨ s.dev.pow.holdupReady = false then .safeStop else .ready)

/-- The lane whose own crystal is x (R12). -/
def xtalLane : Xtal → Lane
  | .xa => .a
  | .xb => .b

/-- Crystal x is declared failed (R18, R476). -/
def Lanes.crystalOut (x : Lanes) : Xtal → Bool
  | .xa => x.xaFailed
  | .xb => x.xbFailed

/-- The other crystal. -/
def xtalOther : Xtal → Xtal
  | .xa => .xb
  | .xb => .xa

/-- A crystal has failed and the other has taken its work (R18). -/
def CrystalMoved (x : Xtal) (s t : State) : Prop :=
  t.dev.lanes.crystalOut x = true ∧ t.dev.lanes.crystalOut (xtalOther x) = false ∧ (t.dev.lanes.get (xtalLane x)).pll = xtalOther x ∧
    t.dev.lanes.tickSource = (if s.dev.lanes.tickSource = x then xtalOther x else s.dev.lanes.tickSource) ∧
    t.dev.samp = s.dev.samp

/-- The array of a lane (R180). -/
def Led.array (x : Led) : Lane → Mram
  | .a => x.arrayA
  | .b => x.arrayB

/-- A dispute of an earlier frame between a lead and its follow l, with nothing but the recompute to decide it. -/
def VerdictOpen (l : Lane) (x : Dispute) (s : State) : Prop :=
  s.clk.running = true ∧ (s.dev.lanes.get l).st = .follow ∧ (s.dev.lanes.get (laneOther l)).st = .lead ∧
    s.dev.lanes.token = some (laneOther l) ∧ s.dev.lanes.sergeFault = false ∧
    s.dev.lanes.windowGate = none ∧ s.dev.lanes.dispute = some x ∧ x.lone = none ∧ x.frame < s.clk.frame ∧
    (∀ m : Lane, (s.dev.lanes.get m).faultedAt ≠ some s.clk.frame ∧
      ((s.dev.lanes.get m).repairs.filter fun k => s.clk.frame < k + dayFrames).length <
        s.dev.nat Param.REPAIR_LIMIT_24H)

/-- The records of lane l from a dispute's frame on are void, and its values are no longer held (R27). -/
def VerdictApplied (l : Lane) (x : Dispute) (t : State) : Prop :=
  t.dev.lanes.dispute = none ∧ (t.dev.lanes.get l).voidFrom = some x.frame

/-- Cause and slot of a verdict (R37): a compare mismatch, or a mismatch of output requests. -/
def Dispute.cause (x : Dispute) : Nat := if x.compare then 0x03 else 0x04
/-- The slot of a verdict. -/
def Dispute.slot (x : Dispute) : Nat := if x.compare then 1 else 3

/-- The follow l returned, less than 8,000 frames before a dispute, from a repair that an unresolved dispute caused
(R26 rule 4). -/
def ReturnedLately (l : Lane) (x : Dispute) (s : State) : Prop :=
  ∃ k, (s.dev.lanes.get l).unresolvedReturn = some k ∧ x.frame < k + 8000

/-- A host port answers this transaction: its unit is on and served, and TEST_PORT_BUSY does not refuse it (R464). -/
def PortOpen (p : Port) (s : State) : Prop := portServes p s = true ∧ portRefuses p s.dev = false

/-- Bytes were written into the window's RAM from an address on, and nothing but the window changed: they read back,
every other byte reads as before, and the canonical form is kept. -/
def RamWritten (a : Nat) (data : List Byte) (s t : State) : Prop :=
  Mem.readBytes t.dev.win.mem a data.length = data ∧
    (∀ b, b < a ∨ a + data.length ≤ b → Mem.read t.dev.win.mem b = Mem.read s.dev.win.mem b) ∧
    t.dev.win.RamSound ∧ t.dev.win.slots = s.dev.win.slots ∧ t.dev.win.irqStatus = s.dev.win.irqStatus ∧
    OnlyChanges [.win] s t

/-- Of the window nothing but the records of the ports has changed, and nothing outside it. -/
def PortsOnly (s t : State) : Prop :=
  t.dev.win = { s.dev.win with hspi := t.dev.win.hspi, huart := t.dev.win.huart } ∧ OnlyChanges [.win] s t

/-- The port tells that a write was out of range (R71, R73): RANGE on HSPI, BAD_PARAM on HUART. -/
def TellsRange (p : Port) (t : State) : Prop :=
  match p with
  | .hspi => t.dev.win.hspi.range = true
  | .huart => t.dev.win.huart.result = Res.badParam

/-- The port tells that a write lost a word (R77), and the loss is counted. -/
def TellsCollision (p : Port) (s t : State) : Prop :=
  match p with
  | .hspi => t.dev.win.hspi.collision = true ∧ t.dev.win.hspiCollisions = s.dev.win.hspiCollisions + 1
  | .huart => t.dev.win.huart.result = Res.collision ∧ t.dev.win.huartCollisions = s.dev.win.huartCollisions + 1

/-- One word of the window was written through a port: nothing but it and the port's record has changed (R67). -/
def WordWritten (w : Win) (s t : State) : Prop :=
  t.dev.win = { w with hspi := t.dev.win.hspi, huart := t.dev.win.huart } ∧ OnlyChanges [.win] s t

/-- HSPI answered with these bytes, RANGE as given, and changed nothing but the port's record (R70, R71). -/
def HspiAnswered (out : List Byte) (range : Bool) (s t : State) : Prop :=
  t.dev.win = { s.dev.win with hspi := t.dev.win.hspi } ∧ t.dev.win.hspi.out = out ∧ t.dev.win.hspi.range = range ∧
    t.dev.win.hspi.bad = 0 ∧ OnlyChanges [.win] s t

/-- A HUART frame was discarded, counted and not answered (R72). -/
def FrameDiscarded (s t : State) : Prop :=
  t.dev.win = { s.dev.win with frameErrors := s.dev.win.frameErrors + 1, huart := t.dev.win.huart } ∧
    t.dev.win.huart.out = [] ∧ t.dev.win.huart.bad = s.dev.win.huart.bad + 1 ∧ OnlyChanges [.win] s t

/-- The bits that a window word has (R74, R95, R99): 16 in the doorbell word and the read index, 9 in the enable word,
all 32 in the others that the host may write through an alias. -/
def wordBits (a : Nat) : Word := if a = 0x100 ∨ a = 0x10C then 0xFFFF else if a = 0x204 then 0x1FF else 0xFFFFFFFF

/-- The bits of a window word that read 1 (R99). -/
def wordFixed (a : Nat) : Word := if a = 0x204 then 0x88 else 0

/-- The frame's delta carries the commit marker (R30). -/
abbrev Committed (s : State) : Prop := s.dev.win.shadow.marker = true

/-- The rows of the lead's protocol state (R30, R31): the vehicle link, the associations, the routing tables and the reader. -/
def protocolRow : Instr → Bool
  | .slacParmReq | .slacMatched .. | .slacInitTimeout | .sdpRequest _ | .supportedAppProtocol _ | .sessionSetup
  | .paymentServiceSelection .. | .serviceDiscovery | .authorizationReq .. | .pncValidated | .pncHostTimeout
  | .chargeParameterDiscovery .. | .powerDeliveryReq _ | .chargingLoopReq .. | .cableCheckReq | .preChargeReq _
  | .weldingDetectionReq | .sessionStopReq _ | .gplcFrameReceived _ | .toneMapResponse _ | .toneMapAge _ | .routeRequest _
  | .routeReply _ | .routeExpiry _ | .gplcJoined .. | .gplcPanLost | .bootstrapRetry | .packetDelivered .. | .packetDropped ..
  | .dlmsAssociated .. | .dlmsApdu _ | .dlmsInactivity _ | .imageTransferInitiate .. | .imageBlockTransfer .. | .keyTransfer ..
  | .gauzePing .. | .pollWhilePresent _ | .sWtxRequest _ => true
  | _ => false

/-! The command set. -/

/-- A request of the command set (R80, R106): code, owner, TAG and arguments. -/
structure AcsReq where
  code : Nat
  own : Owner
  tag : Nat
  args : List Byte

/-- The rows of the catalogue (R109, R110) as requests; none for a row that is no command of the set. -/
def acsReq : Instr → Option AcsReq
  | .identify own tag args => some ⟨Cmd.IDENTIFY, own, tag, args⟩
  | .modeRequest own tag args => some ⟨Cmd.MODE_REQUEST, own, tag, args⟩
  | .safestopClear own tag args => some ⟨Cmd.SAFESTOP_CLEAR, own, tag, args⟩
  | .serviceLogin own tag args => some ⟨Cmd.SERVICE_LOGIN, own, tag, args⟩
  | .serviceLogout own tag args => some ⟨Cmd.SERVICE_LOGOUT, own, tag, args⟩
  | .stopRequest own tag args => some ⟨Cmd.STOP_REQUEST, own, tag, args⟩
  | .paramRead own tag args => some ⟨Cmd.PARAM_READ, own, tag, args⟩
  | .paramWrite own tag args => some ⟨Cmd.PARAM_WRITE, own, tag, args⟩
  | .paramCommit own tag args => some ⟨Cmd.PARAM_COMMIT, own, tag, args⟩
  | .paramDiscard own tag args => some ⟨Cmd.PARAM_DISCARD, own, tag, args⟩
  | .paramDescribe own tag args => some ⟨Cmd.PARAM_DESCRIBE, own, tag, args⟩
  | .paramReadBlock own tag args => some ⟨Cmd.PARAM_READ_BLOCK, own, tag, args⟩
  | .paramWriteBlock own tag args => some ⟨Cmd.PARAM_WRITE_BLOCK, own, tag, args⟩
  | .paramPending own tag args => some ⟨Cmd.PARAM_PENDING, own, tag, args⟩
  | .paramEnum own tag args => some ⟨Cmd.PARAM_ENUM, own, tag, args⟩
  | .snapshotTake own tag args => some ⟨Cmd.SNAPSHOT_TAKE, own, tag, args⟩
  | .snapshotRelease own tag args => some ⟨Cmd.SNAPSHOT_RELEASE, own, tag, args⟩
  | .cmdOutcome own tag args => some ⟨Cmd.CMD_OUTCOME, own, tag, args⟩
  | .eventFetch own tag args => some ⟨Cmd.EVENT_FETCH, own, tag, args⟩
  | .bulkChunk own tag args => some ⟨Cmd.BULK_CHUNK, own, tag, args⟩
  | .jobList own tag args => some ⟨Cmd.JOB_LIST, own, tag, args⟩
  | .jobStatus own tag args => some ⟨Cmd.JOB_STATUS, own, tag, args⟩
  | .jobCancel own tag args => some ⟨Cmd.JOB_CANCEL, own, tag, args⟩
  | .clockSet own tag args => some ⟨Cmd.CLOCK_SET, own, tag, args⟩
  | .sync own tag args => some ⟨Cmd.SYNC, own, tag, args⟩
  | .metrSealOpen own tag args => some ⟨Cmd.METR_SEAL_OPEN, own, tag, args⟩
  | .metrSealClose own tag args => some ⟨Cmd.METR_SEAL_CLOSE, own, tag, args⟩
  | .recordRead own tag args => some ⟨Cmd.RECORD_READ, own, tag, args⟩
  | .signatureRead own tag args => some ⟨Cmd.SIGNATURE_READ, own, tag, args⟩
  | .registersRead own tag args => some ⟨Cmd.REGISTERS_READ, own, tag, args⟩
  | .metrLogRead own tag args => some ⟨Cmd.METR_LOG_READ, own, tag, args⟩
  | .calendarActivate own tag args => some ⟨Cmd.CALENDAR_ACTIVATE, own, tag, args⟩
  | .billingClose own tag args => some ⟨Cmd.BILLING_CLOSE, own, tag, args⟩
  | .displayStep own tag args => some ⟨Cmd.DISPLAY_STEP, own, tag, args⟩
  | .remoteStart own tag args => some ⟨Cmd.REMOTE_START, own, tag, args⟩
  | .remoteStop own tag args => some ⟨Cmd.REMOTE_STOP, own, tag, args⟩
  | .safetyCheckRead own tag args => some ⟨Cmd.SAFETY_CHECK_READ, own, tag, args⟩
  | .safetyConfirm own tag args => some ⟨Cmd.SAFETY_CONFIRM, own, tag, args⟩
  | .safetyProofTest own tag args => some ⟨Cmd.SAFETY_PROOF_TEST, own, tag, args⟩
  | .switchSet own tag args => some ⟨Cmd.SWITCH_SET, own, tag, args⟩
  | .latchClear own tag args => some ⟨Cmd.LATCH_CLEAR, own, tag, args⟩
  | .lockDrive own tag args => some ⟨Cmd.LOCK_DRIVE, own, tag, args⟩
  | .calicoStagingStatus own tag args => some ⟨Cmd.CALICO_STAGING_STATUS, own, tag, args⟩
  | .authLoad own tag args => some ⟨Cmd.AUTH_LOAD, own, tag, args⟩
  | .authSwap own tag args => some ⟨Cmd.AUTH_SWAP, own, tag, args⟩
  | .authLookup own tag args => some ⟨Cmd.AUTH_LOOKUP, own, tag, args⟩
  | .keyDerive own tag args => some ⟨Cmd.KEY_DERIVE, own, tag, args⟩
  | .attest own tag args => some ⟨Cmd.ATTEST, own, tag, args⟩
  | .enrol own tag args => some ⟨Cmd.ENROL, own, tag, args⟩
  | .tamperAck own tag args => some ⟨Cmd.TAMPER_ACK, own, tag, args⟩
  | .imageStage own tag args => some ⟨Cmd.IMAGE_STAGE, own, tag, args⟩
  | .imageVerify own tag args => some ⟨Cmd.IMAGE_VERIFY, own, tag, args⟩
  | .imageActivate own tag args => some ⟨Cmd.IMAGE_ACTIVATE, own, tag, args⟩
  | .testAuth own tag args => some ⟨Cmd.TEST_AUTH, own, tag, args⟩
  | .scrubStart own tag args => some ⟨Cmd.SCRUB_START, own, tag, args⟩
  | _ => none

/-- The request passes steps 1 to 3 of R108: structure, right and mode; and commands are executed (R84). -/
def AcsOpen (code : Nat) (own : Owner) (args : List Byte) (s : State) : Prop :=
  acsServes s = true ∧ acsCheck code own args s = none

/-- The one reply to a command (R80, R83). -/
def Answered (code tag result job : Nat) (payload : List Byte) (s t : State) : Prop :=
  t.dev.acs.reply = ⟨code, tag, result, payload.take 1000, job, s.clk.frame⟩

/-- Of the command set's own state and of modes and power only the reply, the durable ring and the time of the owner's
login have changed (R48, R83, R88). -/
def CoreKept (s t : State) : Prop :=
  t.dev.acs = { s.dev.acs with reply := t.dev.acs.reply, durable := t.dev.acs.durable } ∧
    t.dev.pow = { s.dev.pow with login := t.dev.pow.login }

/-- The command answers OK with a payload and has no other effect. -/
def OnlyAnswers (code tag : Nat) (payload : List Byte) (s t : State) : Prop :=
  Answered code tag Res.ok 0 payload s t ∧ CoreKept s t ∧ OnlyChanges [.acs, .pow] s t

/-- A job was started for an owner and the command answered JOB with its id (R89, R90, R91). -/
def JobStarted (code tag : Nat) (kind : JobKind) (own : Owner) (arg : Nat) (payload : List Byte) (s t : State) : Prop :=
  Answered code tag Res.job s.dev.acs.nextJob payload s t ∧
    t.dev.acs.jobs = makeRoom s.dev.acs.jobs ++
      [{ id := s.dev.acs.nextJob, st := 1, owner := ownerCode own, progress := 0, result := 0, kind := kind, arg := arg }] ∧
    t.dev.acs.nextJob = (if s.dev.acs.nextJob = 0xFFFF then 1 else s.dev.acs.nextJob + 1) ∧
    t.dev.pow = { s.dev.pow with login := t.dev.pow.login }

/-- j is the live job that its id names (R91). -/
def LiveJob (j : Job) (s : State) : Prop := s.dev.acs.jobs.find? (fun k => k.id = j.id && k.live) = some j

/-- The table in which job j has ended in a state with a result (R91). -/
def jobsAfter (j : Job) (st result : Nat) (s : State) : List Job :=
  s.dev.acs.jobs.map fun k => if k.id = j.id then
    { j with st := st, result := result, progress := if st = 3 then 1000 else j.progress } else k

/-- The job ended in a state with a result (R91): its entry stands, unless a job that waits takes its place at once;
JOB_END is raised and JOB_ENDED logged. -/
def JobOver (j : Job) (st result : Nat) (s t : State) : Prop :=
  t.dev.acs.jobs = (takePlace { s.dev with acs := { s.dev.acs with jobs := jobsAfter j st result s } }).acs.jobs ∧
    t.dev.win.shadow.irqSet.getLsbD 1 = true ∧
    Ev.of Src.own Event.JOB_ENDED (leBytes 2 j.id ++ leBytes 1 j.kind.code ++ leBytes 1 j.owner ++ leBytes 1 result) ∈
      t.dev.log.now

/-- A PARAM_WRITE of this one parameter passes every check of R108 and R113 to R116. -/
def WriteOpen (id v : Nat) (own : Owner) (s : State) : Prop :=
  (rowOf id).all (fun r => decide (v < 256 ^ r.len)) = true ∧ AcsOpen Cmd.PARAM_WRITE own (oneEntry id v) s ∧
    writeGate id s = none ∧ valueOk id v = true ∧ lanePertBusy [id] s.dev = false ∧
    (pendingOf own s.dev).fits = true

/-- The value waits for the next tick and the write is logged; nothing else has changed (R113). -/
def WriteQueued (id v : Nat) (own : Owner) (s t : State) : Prop :=
  t.dev.acs.reply.result = Res.ok ∧
    t.dev.acs.nextTick = s.dev.acs.nextTick.filter (fun x => !x.same (.num id v)) ++ [.num id v] ∧
    pendingOf own t.dev = pendingOf own s.dev ∧
    Ev.of (srcOf own) Event.PARAM_WRITTEN (leBytes 1 (ownerCode own) ++ leBytes 2 id) ∈ t.dev.log.now ∧
    OnlyChanges [.acs, .pow, .log] s t

/-- The value of a test parameter waits for the next tick and is logged (R113, R463). -/
def TestQueued (id v : Nat) (own : Owner) (s t : State) : Prop :=
  WriteQueued id v own s t ∧ Logged Src.host Event.TEST_PARAM_SET (leBytes 2 id ++ leBytes (testLen id) v) t

/-- The state with TEST_INJECTED logged for a lane perturbation, before the fault that it makes (R464, R465). -/
def injectLogged (p : Pert) (s : State) : State :=
  s.onDev (Dev.raise Src.host Event.TEST_INJECTED
    (leBytes 2 p.id ++ leBytes 1 (laneCode p.lane) ++ leBytes 1 (pertSlot p s.dev)))

/-- Of the sampling state only channel c has changed, as given (R124). -/
def OnlyChannel (c : Nat) (x : Chan) (s t : State) : Prop :=
  t.dev.samp = { s.dev.samp with chans := s.dev.samp.chans.set c x }

/-- One event was logged in the frame, after those that it had (R23). -/
def Logs (src code : Nat) (data : List Byte) (s t : State) : Prop :=
  t.dev.log = { s.dev.log with now := s.dev.log.now ++ [.of src code data] }

/-- The start of an episode of R163 as logged: indicator 0, side, phase, extreme value. -/
def episodeBegin (side ph : Nat) (e : Episode) : List Byte := [0] ++ leBytes 1 side ++ leBytes 1 ph ++ leBytesInt 4 e.extreme

/-- The end of an episode of R163 as logged: indicator 1, side, phase, extreme value, duration in frames. -/
def episodeClose (side ph n : Nat) (e : Episode) : List Byte :=
  [1] ++ leBytes 1 side ++ leBytes 1 ph ++ leBytesInt 4 e.extreme ++ leBytes 4 (n - e.since)

/-- An episode that has opened in frame n (R163). -/
def Episode.opened (e : Episode) (n : Nat) : Episode := { e with isOpen := true, count := 0, since := n }

/-- Of the metrology state only phase ph, 1 to 3, of a side has changed, as given (R163). -/
def OnlyPhase (side : Side) (ph : Nat) (y : Phase) (s t : State) : Prop :=
  t.dev.metr = s.dev.metr.setSide (sideCode side) { s.dev.metr.side (sideCode side) with
    phases := (s.dev.metr.side (sideCode side)).phases.set (ph - 1) y }

/-- The vehicle's message was answered so; the answer asks it to stop while an ordered stop runs (R255) and says that the
station has shut down once it has (R261). -/
def VehAnswered (code : RespCode) (finished : Bool) (values : List Int) (s t : State) : Prop :=
  t.dev.veh.answer = some ⟨code, finished, s.dev.ses.stop.isSome, s.dev.dc.stageLost, values⟩

/-- Quads and DC enables are off, as latched (R242, R253). -/
def OutletOpened (t : State) : Prop := t.dev.lanes.outputs.getLsbD 0 = false ∧ t.dev.lanes.outputs.getLsbD 1 = false

/-- A trip of function f, of class S or class H (R268 to R274, R291, R298): the safe state at once and the latch; and where
the function was not latched, the session ended, SAFETY_TRIPPED and the cause bit, which a class H trip sets in Ready,
Session and Degraded. -/
def Tripped (f : Nat) (classS : Bool) (s t : State) : Prop :=
  t.dev.lanes.OutputsSafe ∧ t.dev.veh.applied = .forceF ∧ t.dev.saf.trips.getLsbD f = true ∧
    (s.dev.saf.trips.getLsbD f = false →
      t.dev.ses.isOpen = false ∧
        (∃ x, Ev.of Src.serge Event.SAFETY_TRIPPED (BitVec.ofNat 8 f :: x) ∈ t.dev.log.now) ∧
        (classS = true → t.dev.pow.causes.getLsbD Cause.safetyLatch = true) ∧
        (classS = false → s.clk.mode = .ready ∨ s.clk.mode = .session ∨ s.clk.mode = .degraded →
          t.dev.pow.causes.getLsbD Cause.safetyTrip = true)) ∧
    t.clk = s.clk ∧ t.regs = s.regs

/-- Of the load-switch stage only channel k, 1 to 8, has changed, as given (R312). -/
def OnlySwitch (k : Nat) (h : Hsw) (s t : State) : Prop := t.dev.sw = { s.dev.sw with ch := s.dev.sw.ch.set (k - 1) h }

/-- Every test and perturbation parameter is at its default, and no test authorisation runs (R46, R462 to R465). -/
def TestsDefault (t : State) : Prop :=
  t.dev.diag.testFrom = none ∧ t.dev.diag.stretch = 0 ∧ t.dev.diag.mboxDelay = 0 ∧ t.dev.diag.portBusy = 0 ∧
    t.dev.diag.throttle = 0 ∧ t.dev.diag.gplcHold = 0 ∧ t.dev.diag.commitDelay = 0 ∧ t.dev.diag.mismatch = 0 ∧
    t.dev.diag.wdtWindow = 0 ∧ t.dev.diag.pert = none

/-- The event is logged in the frame: among the frame's events, or, where the frame was the last and its log is closed, the
first entry of it in the stream (R120). -/
def LoggedOrEntered (src code : Nat) (data : List Byte) (t : State) : Prop :=
  Logged src code data t ∨ (t.clk.running = false ∧
    ∃ e ∈ t.dev.win.stream, e.src = src ∧ e.code = code ∧ e.frame = t.clk.frame ∧ e.data = data.take 12)

/-- MODE_CHANGED was logged for the change from a mode to the present one (R46, R64, R66). -/
def ModeLogged (old : Mode) (t : State) : Prop :=
  LoggedOrEntered Src.own Event.MODE_CHANGED
    (leBytes 1 old.code ++ leBytes 1 t.clk.mode.code ++ leBytes 4 t.clk.modeCause ++ leBytes 8 t.clk.frame) t

/-- A measurement of cell c, 1 or 2, was judged (R392): its value is kept unless the test load was on; low and failed are
marked and logged where they were not, BACKUP_LOST where both cells are failed now; the other cell is as before. -/
def CellJudged (c mv : Nat) (load : Bool) (s t : State) : Prop :=
  (t.dev.keys.cell c).mv = (if load then (s.dev.keys.cell c).mv else mv) ∧
    (t.dev.keys.cell c).low = ((s.dev.keys.cell c).low || decide (mv < s.dev.nat Param.VBAT_LOW_THR)) ∧
    (t.dev.keys.cell c).failed = ((s.dev.keys.cell c).failed || decide (mv < 2000)) ∧
    t.dev.keys.cell (3 - c) = s.dev.keys.cell (3 - c) ∧
    (mv < s.dev.nat Param.VBAT_LOW_THR → (s.dev.keys.cell c).low = false →
      Logged Src.serge Event.BACKUP_CELL_LOW (leBytes 1 c ++ leBytesInt 4 mv ++ [0]) t) ∧
    (mv < 2000 → (s.dev.keys.cell c).failed = false →
      Logged Src.serge Event.BACKUP_CELL_FAILED (leBytes 1 c) t ∧
        ((s.dev.keys.cell (3 - c)).failed = true → s.dev.keys.lost = false → Logged Src.serge Event.BACKUP_LOST [] t)) ∧
    (s.dev.nat Param.VBAT_LOW_THR ≤ mv → 2000 ≤ mv →
      (s.dev.keys.cell1.failed && s.dev.keys.cell2.failed && !s.dev.keys.lost) = false → t.dev.log = s.dev.log) ∧
    OnlyChanges [.log, .keys] s t

end Sys2Proof.Machine
end

