-- ==== Sys2Proof/Certificates/Slice0/Obligations.lean ====
section
/-!
DEFINITION. The statements for the provers, family by family of the command table.
-/

open Sys2Proof Sys2Proof.Machine

/-- A step takes the command at the front of the queue: it is `exec` of that command with the queue's rest. On an empty
queue it idles, which is the model's choice (log entry 42). -/
def Obligations.StepTakesFront : Prop :=
  (∀ (c : Instr) (rest : List Instr) (s : State), s.pending = c :: rest →
    step s = exec c { s with pending := rest }) ∧
  (∀ s : State, s.pending = [] → step s = .next s)

/-- No command faults or is refused in any state: every command answers a next state, and none touches the queue. -/
def Obligations.EveryCommandAnswers : Prop :=
  ∀ (c : Instr) (s : State), ∃ t, exec c s = .next t ∧ t.pending = s.pending

/-- Every step keeps the energy registers sound (R39, R177): in each of the eleven families T1 to T8 sum to the total,
and the tariff in force is one of 1 to 8. -/
def Obligations.RegistersStaySound : Prop :=
  ∀ s t : State, s.regs.Sound → step s = .next t → t.regs.Sound

/-- The operating mode changes only at the tick of a frame or at a start-up: no other command changes it (R44, R46), nor
MODE_PREVIOUS, nor the number of the frame. -/
def Obligations.ModeChangesAtTickOnly : Prop :=
  ∀ (c : Instr) (s t : State), (∀ f, c ≠ .frameTick f) → (∀ u, c ≠ .startUp u) → exec c s = .next t →
    t.clk.mode = s.clk.mode ∧ t.clk.modePrev = s.clk.modePrev ∧ t.clk.frame = s.clk.frame

/-- A tick with frames running counts one frame (R39): the number of the frame is one more. After the last frame of the final
sequence, and before an activation by restart, it starts none: frames stop, in DORMANT or OFF as the cells hold the battery
domain (R50, R55, R431). -/
def Obligations.TickCountsOneFrame : Prop :=
  ∀ (f : FrameIn) (s : State), s.clk.running = true →
    (finalEnds s = false → s.dev.upd.restartDue = false →
      Completes (.frameTick f) s fun t => t.clk.frame = s.clk.frame + 1 ∧ t.pending = s.pending) ∧
    (finalEnds s = true → Completes (.frameTick f) s fun t =>
      t.clk.running = false ∧ t.clk.frame = s.clk.frame ∧ t.clk.mode = s.clk.mode ∧ t.dev.lanes.token = none ∧
        t.dev.pow.st = (if f.cellHeld = true then .dormant else .off) ∧ t.pending = s.pending) ∧
    (finalEnds s = false → s.dev.upd.restartDue = true → Completes (.frameTick f) s fun t =>
      t.clk.running = false ∧ t.clk.frame = s.clk.frame ∧ t.clk.mode = s.clk.mode ∧ t.dev.lanes.token = none ∧
        t.dev.upd.restartDue = false ∧ t.pending = s.pending)

/-- What reset leaves where the spec gives a value: the energy registers sound and their totals 0, mode Factory, no token, every slot FREE with doorbell and DONE words
0, interrupt status 0, no session, the clock INVALID, the queue empty. -/
def Obligations.ResetValues : Prop :=
  State.reset.regs.Sound ∧ State.reset.pending = [] ∧ State.reset.clk.mode = .factory ∧ State.reset.clk.running = false ∧
    State.reset.dev.lanes.token = none ∧ State.reset.dev.win.slots = List.replicate 16 {} ∧
    State.reset.dev.win.doorbell = 0 ∧ State.reset.dev.win.doneWord = 0 ∧ State.reset.dev.win.irqStatus = 0 ∧
    (∀ f ∈ State.reset.regs.fams, f.total = 0 ∧ f.est = 0) ∧ State.reset.dev.ses.isOpen = false ∧
    State.reset.dev.tar.status = 2 ∧ State.reset.dev.pow.causes = 0

/-- Once left, Factory is never entered again (R41): from a mode other than Factory no command, a mode change at a tick, a
fault and a start-up among them, leads to Factory. -/
def Obligations.FactoryNotReentered : Prop :=
  ∀ (c : Instr) (s t : State), s.clk.mode ≠ .factory → exec c s = .next t → t.clk.mode ≠ .factory

/-- Every mode change (R46), at a tick or at a start-up that maps the mode it recovered: every test and perturbation
parameter is at its default afterwards, no login stays open where Service was left, and MODE_CHANGED carries the old mode,
the new mode, the cause as MODE_CAUSE holds it, and the number of the frame. -/
def Obligations.ModeChangeEffects : Prop :=
  (∀ (c : Instr) (s t : State), (∀ u, c ≠ .startUp u) → exec c s = .next t → t.clk.mode ≠ s.clk.mode →
    TestsDefault t ∧ (s.clk.mode = .service → t.dev.pow.login = none) ∧ ModeLogged s.clk.mode t) ∧
  (∀ (u : StartIn) (c : Choice) (s : State), StartsFrom u c s →
    Completes (.startUp u) s fun t =>
      t.clk.mode ≠ persistedMode (beforeStart u s) c →
        TestsDefault t ∧ t.dev.pow.login = none ∧ ModeLogged (persistedMode (beforeStart u s) c) t)

/-- Slot-deadline, watchdog and self-detected faults, and a claim without the token, of a follow (R21, R29, R32, R37):
LANE_FAULT_LAST says cause, slot and lane, the lane is reset and its repair begins; the other lane, the token and the
latched outputs stay as they are. A claim is queued as an event before the fault, while SERGE's queue has room for both. -/
def Obligations.FollowFaultKeepsService : Prop :=
  ∀ (l : Lane) (s : State), FaultableFollow l s →
    (∀ slot, Completes (.slotDeadlineFault l slot) s (FollowFaulted l 0x06 (deadlineCode slot) 0 s)) ∧
    (∀ early marker, Completes (.watchdogFault l early marker) s
      (FollowFaulted l (if early then 0x02 else 0x01) 5 0 s)) ∧
    (∀ c slot, Completes (.laneSelfFault l c slot) s (FollowFaulted l (selfFaultCause c) slot 0 s)) ∧
    Completes (.claimRejected l) s fun t => FollowFaulted l 0x0D 6 0 s t ∧
      (s.dev.lanes.queue.length < 15 → t.dev.lanes.queue.map SergeEv.code =
        s.dev.lanes.queue.map SergeEv.code ++ [Event.CLAIM_REJECTED, Event.LANE_FAULT])

/-- A faulted lead with a follow (R21, R22, R28, R32): a missing output request at 70 µs, a missed deadline and a
self-detected fault before 70 µs, in a slot below 4, give the follow the token at once, with a take-over counted; a watchdog
fault at 120 µs and a later self-detected fault withdraw the token and grant it for the next tick. The latched outputs stay
as they are. With no follow to take the token each of these is a dual lane fault: the outputs are in the safe state, no lane
holds the token, frames stop, DUAL_LANE is set, the mode stays as it is. -/
def Obligations.LeadFaults : Prop :=
  (∀ (l : Lane) (s : State), FaultableLead l s →
    Completes .outputRequestMissing s (TokenAtOnce l 0x05 3 0 s) ∧
    (∀ slot, Completes (.slotDeadlineFault l slot) s (TokenAtOnce l 0x06 (deadlineCode slot) 0 s)) ∧
    (∀ c slot, slot < 4 → Completes (.laneSelfFault l c slot) s (TokenAtOnce l (selfFaultCause c) slot 0 s)) ∧
    (∀ c slot, 4 ≤ slot → Completes (.laneSelfFault l c slot) s (TokenNextTick l (selfFaultCause c) slot 0 s)) ∧
    (∀ early marker, Completes (.watchdogFault l early marker) s
      (TokenNextTick l (if early then 0x02 else 0x01) 5 0 s))) ∧
  (∀ (l : Lane) (s : State), s.clk.running = true → (s.dev.lanes.get l).st = .lead → s.dev.lanes.token = some l →
    (s.dev.lanes.get (laneOther l)).st ≠ .follow → (s.dev.lanes.get (laneOther l)).st ≠ .lead →
    Completes .outputRequestMissing s (BothLanesOut s) ∧
    (∀ slot, Completes (.slotDeadlineFault l slot) s (BothLanesOut s)) ∧
    (∀ c slot, Completes (.laneSelfFault l c slot) s (BothLanesOut s)) ∧
    (∀ early marker, Completes (.watchdogFault l early marker) s (BothLanesOut s)))

/-- A dispute is settled (R25, R26 rules 3 and 4, R27, R477). A recompute that confirms one lane's block makes the other the
faulty one, with VERDICT 2; one that resolves nothing makes it the follow, or the lead where the follow returned less than
8,000 frames before from a repair that an unresolved dispute caused, with VERDICT 3. The faulty lane's records from the frame
of the mismatch on are void and it is repaired; the token stays with the lead, or passes from it at the next tick. A lane
left alone by another fault is confirmed, or both lanes are out. Without a verdict by the latch point of the second frame
after an output first differed the disputed outputs go to their safe state, and only those. -/
def Obligations.DisputeRows : Prop :=
  (∀ (l : Lane) (x : Dispute) (s : State), VerdictOpen l x s →
    Completes (.disputeVerdict (.confirms (laneOther l))) s (fun t =>
      VerdictApplied l x t ∧ FollowFaulted l x.cause x.slot 2 s t) ∧
    Completes (.disputeVerdict (.confirms l)) s (fun t =>
      VerdictApplied (laneOther l) x t ∧ TokenNextTick (laneOther l) x.cause x.slot 2 s t) ∧
    (¬ ReturnedLately l x s → Completes (.disputeVerdict .unresolved) s fun t =>
      VerdictApplied l x t ∧ FollowFaulted l x.cause x.slot 3 s t) ∧
    (ReturnedLately l x s → Completes (.disputeVerdict .unresolved) s fun t =>
      VerdictApplied (laneOther l) x t ∧ TokenNextTick (laneOther l) x.cause x.slot 3 s t)) ∧
  (∀ (l : Lane) (x : Dispute) (s : State), s.dev.lanes.dispute = some x → x.lone = some l → x.frame < s.clk.frame →
    Completes (.disputeVerdict (.confirms l)) s (fun t =>
      VerdictApplied (laneOther l) x t ∧ t.dev.lanes.token = s.dev.lanes.token ∧ t.dev.lanes.get l = s.dev.lanes.get l ∧
        t.dev.lanes.outputs = s.dev.lanes.outputs ∧ OnlyChanges [.lanes] s t) ∧
    (∀ r, r ≠ .confirms l → Completes (.disputeVerdict r) s (BothLanesOut s))) ∧
  (∀ (x : Dispute) (s : State), s.dev.lanes.dispute = some x → x.outFrame + 2 ≤ s.clk.frame → x.outputs ≠ 0 →
    Completes .disputeHoldExpiry s fun t =>
      (x.outputs.getLsbD 0 = true → t.dev.lanes.outputs.getLsbD 0 = false) ∧
        (x.outputs.getLsbD 1 = true → t.dev.lanes.outputs.getLsbD 1 = false) ∧
        (x.outputs.getLsbD 2 = true → t.dev.lanes.outputs.getLsbD 2 = true) ∧
        (∀ k < 3, x.outputs.getLsbD k = false → t.dev.lanes.outputs.getLsbD k = s.dev.lanes.outputs.getLsbD k) ∧
        OnlyChanges [.lanes, .saf, .veh] s t)

/-- Repair (R14, R32, R33). A step that completes leads to the next, in the state of R32's order, or that of an activation's
trial, with faulty SRAM banks mapped out; the step of the array copies it from the other lane's, both arrays answering, and
ends its void mark. A step that fails outside an activation, and a fault of a lane in PROBATION, lose the lane: it is FAILED
and LANE_LOST is a fault of the Degraded kind. After 800 clean compares the lane in PROBATION becomes the follow. The other
lane and the token stay. -/
def Obligations.RepairRows : Prop :=
  (∀ (l : Lane) (bad : BitVec 4) (step : RepairStep) (s : State), (s.dev.lanes.get l).repair = some step →
    (step ≠ .rebuildArray →
      Completes (.laneRepairStepDone l true bad) s fun t =>
        (t.dev.lanes.get l).repair = (nextRepair step).1 ∧
          (t.dev.lanes.get l).st = (if (nextRepair step).2 = .probation ∧ inTrial l s.dev = true then .trial
            else (nextRepair step).2) ∧
          (t.dev.lanes.get l).banksOut = (s.dev.lanes.get l).banksOut ||| bad ∧
          t.dev.lanes.get (laneOther l) = s.dev.lanes.get (laneOther l) ∧ t.dev.lanes.token = s.dev.lanes.token ∧
          OnlyChanges [.lanes] s t) ∧
    (step = .rebuildArray → (∀ m, (s.dev.lanes.get m).mramLost = false) →
      Completes (.laneRepairStepDone l true bad) s fun t =>
        (t.dev.lanes.get l).repair = some .cloneBank ∧ (t.dev.lanes.get l).st = .resync ∧
          (t.dev.lanes.get l).voidFrom = none ∧
          t.dev.led.array l = (s.dev.led.array (laneOther l)).clonedTo (s.dev.led.array l) ∧
          t.dev.led.array (laneOther l) = s.dev.led.array (laneOther l) ∧
          Logs Src.own Event.ARRAY_REBUILT (leBytes 1 (laneCode l) ++ leBytes 8 s.clk.frame) s t ∧
          t.dev.lanes.get (laneOther l) = s.dev.lanes.get (laneOther l) ∧ t.dev.lanes.token = s.dev.lanes.token ∧
          OnlyChanges [.lanes, .led, .log] s t) ∧
    (s.dev.upd.activation = none →
      Completes (.laneRepairStepDone l false bad) s fun t =>
        (t.dev.lanes.get l).st = .failed ∧ (t.dev.lanes.get l).repair = none ∧
          t.dev.lanes.faultLast = faultWord l 0x0F 6 0 true ∧ Logged Src.serge Event.LANE_LOST [] t ∧
          t.dev.lanes.get (laneOther l) = s.dev.lanes.get (laneOther l) ∧ t.dev.lanes.token = s.dev.lanes.token ∧
          DegradedKind Event.LANE_LOST Cause.laneLost s t)) ∧
  (∀ (l : Lane) (slot : DeadlineSlot) (s : State), s.clk.running = true → (s.dev.lanes.get l).st = .probation →
    s.dev.lanes.token = some (laneOther l) → s.dev.upd.activation = none →
    (s.dev.lanes.get (laneOther l)).faultedAt ≠ some s.clk.frame →
    Completes (.slotDeadlineFault l slot) s fun t =>
      (t.dev.lanes.get l).st = .failed ∧ (t.dev.lanes.get l).repair = none ∧ Logged Src.serge Event.LANE_LOST [] t ∧
        t.dev.lanes.get (laneOther l) = s.dev.lanes.get (laneOther l) ∧ t.dev.lanes.token = s.dev.lanes.token ∧
        DegradedKind Event.LANE_LOST Cause.laneLost s t) ∧
  (∀ (l : Lane) (s : State), (s.dev.lanes.get l).st = .probation → 800 ≤ (s.dev.lanes.get l).clean →
    Completes (.laneRepaired l) s fun t =>
      (t.dev.lanes.get l).st = .follow ∧ (t.dev.lanes.get l).repair = none ∧
        Logs Src.serge Event.LANE_REPAIRED (leBytes 1 (laneCode l)) s t ∧
        t.dev.lanes.get (laneOther l) = s.dev.lanes.get (laneOther l) ∧ t.dev.lanes.token = s.dev.lanes.token ∧
        OnlyChanges [.lanes, .log] s t)

/-- Units of the lanes fail (R12, R15, R17, R298). An MRAM array lost leaves the ledger on the other and raises the alarm,
once. A mirror memory error marks the follow cold and is a fault of the Degraded kind, with SAFETY_LATCH. A SERGE fault
brings the safe state, leaves no token, ends an open session, sets the SERGE cause and asks for Safe-stop from Ready, Session
and Degraded; the lane that held the token gets the window gate, which a second disagreement does not move. -/
def Obligations.UnitFaultRows : Prop :=
  (∀ (l : Lane) (s : State),
    Completes (.mramArrayLost l) s fun t =>
      (t.dev.lanes.get l).mramLost = true ∧ t.dev.lanes.get (laneOther l) = s.dev.lanes.get (laneOther l) ∧
        ((s.dev.lanes.get l).mramLost = false → Logs Src.own Event.MRAM_ARRAY_LOST [] s t ∧
          (t.dev.lanes.get l).st = (s.dev.lanes.get l).st ∧ t.dev.lanes.token = s.dev.lanes.token) ∧
        ((s.dev.lanes.get l).mramLost = true → t = s) ∧ OnlyChanges [.lanes, .log] s t) ∧
  (∀ s : State,
    Completes .mirrorFault s fun t =>
      t.dev.lanes.mirrorCold = true ∧ Logged Src.own Event.MIRROR_FAULT [] t ∧ t.dev.lanes.token = s.dev.lanes.token ∧
        DegradedKind Event.MIRROR_FAULT Cause.safetyLatch s t) ∧
  (∀ s : State,
    Completes .sergeFault s fun t =>
      t.dev.lanes.OutputsSafe ∧ t.dev.veh.applied = .forceF ∧ t.dev.lanes.sergeFault = true ∧ t.dev.lanes.token = none ∧
        (s.dev.lanes.sergeFault = false → t.dev.lanes.windowGate = s.dev.lanes.token) ∧
        (s.dev.lanes.sergeFault = true → t.dev.lanes.windowGate = s.dev.lanes.windowGate) ∧
        t.dev.pow.causes.getLsbD Cause.serge = true ∧ t.dev.ses.isOpen = false ∧
        (s.clk.mode = .ready ∨ s.clk.mode = .session ∨ s.clk.mode = .degraded →
          ⟨.safeStop, .toSafeStop, causeEvent Event.SERGE_FAULT⟩ ∈ t.dev.pow.modeReqs) ∧
        t.regs = s.regs ∧ t.clk = s.clk)

/-- The tick and the crystals (R17, R18, R22, R476). A gap of two frames or more without tick stops metering and is logged. A
measurement with both crystals within 100 ppm keeps both; one with one of them beyond fails that one, whose lane, where it
leads, passes the token at once. A crystal that fails while the other is sound moves tick and PLL to the other, without a
decimator reset, and faults its lane, with VERDICT 1: a follow is repaired, a lead passes the token at once before 70 µs and
at the next tick later. With the other failed already both lanes are out. -/
def Obligations.TickAndCrystalRows : Prop :=
  (∀ (frames : Nat) (s : State), s.clk.running = true → 2 ≤ frames →
    Completes (.noTickGap frames) s fun t =>
      t.dev.lanes.tickLost = true ∧ t.dev.led.gapCount = s.dev.led.gapCount + 1 ∧ t.dev.lanes.token = s.dev.lanes.token ∧
        t.dev.lanes.outputs = s.dev.lanes.outputs ∧ OnlyChanges [.lanes, .led, .tar, .log] s t) ∧
  (∀ (xa xb : Int) (s : State), s.clk.running = true → xa.natAbs ≤ 100000 → xb.natAbs ≤ 100000 →
    Completes (.crystalMeasurement xa xb) s fun t =>
      t.dev.lanes.xaDev = xa ∧ t.dev.lanes.xbDev = xb ∧ t.dev.lanes.xaFailed = s.dev.lanes.xaFailed ∧
        t.dev.lanes.xbFailed = s.dev.lanes.xbFailed ∧ t.dev.lanes.tickSource = s.dev.lanes.tickSource ∧
        OnlyChanges [.lanes, .tar, .log] s t) ∧
  (∀ (x : Xtal) (xa xb : Int) (s : State), s.dev.lanes.crystalOut x = false →
    s.dev.lanes.crystalOut (xtalOther x) = false → crystalVerdict xa xb = some x →
    (FaultableFollow (xtalLane x) s → Completes (.crystalMeasurement xa xb) s fun t =>
      CrystalMoved x s t ∧ t.dev.lanes.faultLast = faultWord (xtalLane x) 0x0E 6 1 false ∧
        t.dev.lanes.token = s.dev.lanes.token ∧ t.clk = s.clk ∧ t.regs = s.regs) ∧
    (FaultableLead (xtalLane x) s → Completes (.crystalMeasurement xa xb) s fun t =>
      CrystalMoved x s t ∧ t.dev.lanes.faultLast = faultWord (xtalLane x) 0x0E 6 1 false ∧
        t.dev.lanes.token = some (laneOther (xtalLane x)) ∧ t.clk = s.clk ∧ t.regs = s.regs)) ∧
  (∀ (x : Xtal) (slot : Nat) (s : State), s.dev.lanes.crystalOut x = false →
    (s.dev.lanes.crystalOut (xtalOther x) = false →
      (FaultableFollow (xtalLane x) s → Completes (.crystalFailed x slot) s fun t =>
        CrystalMoved x s t ∧ FollowFaulted (xtalLane x) 0x0E slot 1 s t) ∧
      (FaultableLead (xtalLane x) s → slot < 4 → Completes (.crystalFailed x slot) s fun t =>
        CrystalMoved x s t ∧ TokenAtOnce (xtalLane x) 0x0E slot 1 s t) ∧
      (FaultableLead (xtalLane x) s → 4 ≤ slot → Completes (.crystalFailed x slot) s fun t =>
        CrystalMoved x s t ∧ TokenNextTick (xtalLane x) 0x0E slot 1 s t)) ∧
    (s.dev.lanes.crystalOut (xtalOther x) = true →
      Completes (.crystalFailed x slot) s fun t =>
        t.dev.lanes.crystalOut x = true ∧ BothLanesOut s t))

/-- Hold-up is measured and judged (R51). The daily measurement keeps the capacitance; with 2,000 µF or more and VHOLD at 28 V
hold-up is ready. Otherwise it is not, HOLDUP_LOW is logged and, in Ready, the HOLDUP cause is set and Safe-stop asked for.
Recharging that reaches 28 V makes it ready by the latest capacitance; 24,000 frames of charging without 28 V make it not
ready, with the cause set in Ready, in a session, which runs on, and in a start-up. -/
def Obligations.HoldupRows : Prop :=
  (∀ (cap : Nat) (s : State), s.clk.running = true → s.clk.mode = .ready → s.dev.ses.isOpen = false →
    s.dev.pow.lastCapMeasure + dayFrames ≤ s.clk.frame →
    Completes (.holdupDailyMeasurement cap) s fun t =>
      t.dev.pow.holdupCap = cap ∧ t.dev.pow.lastCapMeasure = s.clk.frame ∧
        t.dev.pow.holdupReady = (decide (28000 ≤ s.dev.pow.vhold) && decide (2000 ≤ cap)) ∧
        (2000 ≤ cap → 28000 ≤ s.dev.pow.vhold →
          t.dev.pow.causes = s.dev.pow.causes ∧ t.dev.pow.modeReqs = s.dev.pow.modeReqs) ∧
        (cap < 2000 ∨ s.dev.pow.vhold < 28000 → HoldupCause s t) ∧ OnlyChanges [.pow, .log, .diag] s t) ∧
  (∀ s : State, s.dev.pow.recharge ≠ none → 28000 ≤ s.dev.pow.vhold →
    Completes .holdupRechargeDone s fun t =>
      t.dev.pow = { s.dev.pow with recharge := none, holdupReady := decide (2000 ≤ s.dev.pow.holdupCap) } ∧
        OnlyChanges [.pow] s t) ∧
  (∀ (f : Nat) (s : State), s.dev.pow.recharge = some f → f + 24000 ≤ s.clk.frame → s.dev.pow.vhold < 28000 →
    Completes .holdupRechargeTimeout s fun t =>
      t.dev.pow.recharge = none ∧ t.dev.pow.holdupReady = false ∧ HoldupCause s t ∧
        OnlyChanges [.pow, .log, .diag] s t)

/-- HOLD and its ends (R53, R55, R56, R475). Frame h sheds the units, ends the session with cause supply loss, makes every
output safe and logs HOLD_ENTERED; with VHOLD below 9 V the final sequence begins in it. The final sequence starts with a
checkpoint. A return of VSYS before it restores MAINS and recharges. The registers and the frame stay. -/
def Obligations.HoldRows : Prop :=
  (∀ s : State, s.clk.running = true → s.dev.pow.st = .mains → 2 ≤ s.dev.pow.vsysLow →
    Completes .holdEntered s fun t =>
      t.dev.pow.st = .hold ∧ t.dev.pow.holdFrame = s.clk.frame ∧ t.dev.pow.shed = true ∧
        t.dev.ses.isOpen = false ∧ t.dev.lanes.OutputsSafe ∧ t.dev.veh.applied = .forceF ∧
        (s.dev.ses.isOpen = true → t.dev.ses.endedAt = some s.clk.frame) ∧
        t.dev.pow.finalSeq = (if 9000 ≤ s.dev.pow.vhold then none else some s.clk.frame) ∧
        (∃ route, Logged Src.own Event.HOLD_ENTERED (leBytesInt 4 s.dev.pow.vhold ++ leBytes 1 route) t) ∧
        OnlyChanges [.lanes, .pow, .win, .acs, .log, .metr, .led, .disp, .veh, .ses, .dc, .saf, .sw, .gplc, .dlms,
          .nfc, .cal, .keys, .diag] s t) ∧
  (∀ s : State, s.clk.running = true → s.dev.pow.st = .hold → s.dev.pow.finalSeq = none →
    s.dev.pow.vhold < s.dev.nat Param.HOLDUP_FINAL_V ∨ gridLost s.dev = true →
    Completes .finalSequence s fun t =>
      t.dev.pow = { s.dev.pow with finalSeq := some s.clk.frame } ∧
        t.dev.led = { s.dev.led with due := s.dev.led.due ||| 0b1000#8 } ∧ OnlyChanges [.pow, .led, .cal] s t) ∧
  (∀ s : State, s.clk.running = true → s.dev.pow.st = .hold → s.dev.pow.finalSeq = none →
    80 ≤ s.dev.pow.vsysGood →
    Completes .holdExited s fun t =>
      t.dev.pow.st = .mains ∧ t.dev.pow.shed = false ∧ t.dev.pow.recharge = some s.clk.frame ∧
        t.dev.pow.holdupReady = false ∧ Logs Src.own Event.HOLD_EXITED [] s t ∧
        OnlyChanges [.pow, .log, .sw] s t)

/-- RESET_N and a failing supply (R50, R56, R59, R60). A reset request in frame r ends the session, makes the outputs safe,
asks for the checkpoint of an ordered stop and stops frames; one while no frames run holds the start-up; its release lets
start-up proceed. A collapse of the supply stops frames with safe outputs and leaves DORMANT while the battery domain finds a
cell at 2.0 V, OFF otherwise. None touches the registers. -/
def Obligations.ResetRows : Prop :=
  (∀ s : State,
    Completes .resetRequest s fun t =>
      t.clk = { s.clk with running := false } ∧ t.regs = s.regs ∧ t.dev.pow.inReset = true ∧
        (s.clk.running = true → t.dev.pow.resetCount = s.dev.pow.resetCount + 1 ∧ t.dev.lanes.OutputsSafe ∧
          t.dev.lanes.token = none ∧ t.dev.ses.isOpen = false ∧ t.dev.led.due.getLsbD 3 = true) ∧
        (s.clk.running = false → t.dev.lanes = s.dev.lanes ∧ OnlyChanges [.pow, .veh, .upd] s t)) ∧
  (∀ s : State, Completes .resetRelease s fun t =>
    t.dev.pow = { s.dev.pow with inReset := false } ∧ OnlyChanges [.pow] s t) ∧
  (∀ (held : Bool) (s : State), s.clk.running = true ∨ s.dev.pow.st = .mains →
    Completes (.supplyCollapse held) s fun t =>
      t.clk = { s.clk with running := false } ∧ t.regs = s.regs ∧ t.dev.lanes.OutputsSafe ∧
        (s.clk.running = true → t.dev.lanes.token = none) ∧
        t.dev.pow.st = (if held = true then .dormant else .off))

/-- A start-up (R40, R57, R58, R191, R193). From a good image, a crystal, a lane and a recovered entry, frames run from the
frame after the recovered one: the counter of start-ups rises, no total of the recovered registers is lower after frame m,
no session is open, Lane A leads where it passed its checks, else Lane B, and the mode is mapped from the one that persisted. A
bad image in both lanes leaves the boot ROM waiting, without frames. When both lanes are decided and hold-up is, start-up ends
and STARTED is logged, with the HOLDUP cause where the capacitance is below 2,000 µF. -/
def Obligations.StartRows : Prop :=
  (∀ (u : StartIn) (c : Choice) (s : State), StartsFrom u c s →
    Completes (.startUp u) s fun t =>
      t.clk.frame = c.frame + 1 ∧ t.clk.startFrame = c.frame + 1 ∧ t.clk.running = true ∧
        t.dev.pow.starting = true ∧ t.dev.pow.startCount > s.dev.pow.startCount ∧
        MappedFrom (persistedMode (beforeStart u s) c) t.clk.mode ∧ t.dev.ses.isOpen = false ∧
        t.regs.Sound ∧ (∀ k < 11, c.regs.total k ≤ t.regs.total k) ∧
        (t.dev.lanes.sergeFault = false → t.dev.lanes.token = some (if u.laneAOk = true then .a else .b))) ∧
  (∀ (u : StartIn) (s : State), s.clk.running = false → s.dev.pow.inReset = false → u.frameImageOk = false →
    Completes (.startUp u) s fun t =>
      t.clk = s.clk ∧ t.dev.upd.bootBad = true ∧ t.dev.pow.lateStarts = s.dev.pow.lateStarts + 1 ∧
        t.dev.lanes.outputs = s.dev.lanes.outputs) ∧
  (∀ s : State, readyDue s = true →
    Completes .startupReady s fun t =>
      t.dev.pow.starting = false ∧ t.dev.pow.recharge = none ∧
        (2000 ≤ s.dev.pow.holdupCap → t.dev.pow.causes = s.dev.pow.causes ∧ t.dev.pow.modeReqs = s.dev.pow.modeReqs) ∧
        (s.dev.pow.holdupCap < 2000 → s.dev.pow.recharge ≠ none ∨ 28000 ≤ s.dev.pow.vhold →
          t.dev.pow.holdupReady = false ∧ HoldupCause s t) ∧
        Logged Src.own Event.STARTED (leBytes 4 s.dev.pow.gapFrames ++ leBytes 4 s.dev.pow.gapSecs) t ∧
        OnlyChanges [.pow, .log, .diag] s t)

/-- The safety check value at a start-up (R304): it is recomputed over the safety set in force; where the set had been
confirmed and the recomputed value differs from SAFETY_CONFIRMED_VALUE, SAFETY_SET_MISMATCH is logged, SAFETY_LATCH is set and
the state becomes 0; where it is equal the set stays confirmed. -/
def Obligations.SafetySetAtStart : Prop :=
  ∀ (u : StartIn) (c : Choice) (s : State), StartsFrom u c s → s.dev.saf.confirmSt = 2 → s.dev.acs.nextTick = [] →
    Completes (.startUp u) s fun t =>
      t.dev.saf.confirmed = s.dev.saf.confirmed ∧
        (safetyCheckOf t.dev ≠ s.dev.saf.confirmed → t.dev.saf.confirmSt = 0 ∧
          t.dev.pow.causes.getLsbD Cause.safetyLatch = true ∧
          Logged Src.serge Event.SAFETY_SET_MISMATCH
            (leBytes 8 (safetyCheckOf t.dev) ++ leBytes 8 s.dev.saf.confirmed) t) ∧
        (safetyCheckOf t.dev = s.dev.saf.confirmed → t.dev.saf.confirmSt = 2)

/-- SERVICE_N and the login window (R48, R61). A press under 2 s steps the display; one of 5 to 10 s opens the 60 s window and
is logged; one of 2 s to under 5 s, or over 10 s, does nothing. A press over 30 s is stuck, logged, and its release has no
effect; more than 20 edges in 100 ms make the input ignored until it was stable for 100 ms. The window closes after 60 s. A
login without an accepted command for SERVICE_TIMEOUT ends, and in Service the mode of R43 is asked for. -/
def Obligations.ServiceButtonRows : Prop :=
  (∀ (frames : Nat) (s : State), s.dev.pow.serviceStuck = false → s.dev.pow.serviceIgnoreUntil ≤ s.clk.frame →
    (160 ≤ frames → frames < 16000 → Completes (.serviceNRelease frames) s fun t =>
      t = { s with dev := displayStep s.clk.frame s.dev }) ∧
    (40000 ≤ frames → frames ≤ 80000 → Completes (.serviceNRelease frames) s fun t =>
      t.dev.pow = { s.dev.pow with loginWindow := some (s.clk.frame + 480000) } ∧
        Logs Src.own Event.SERVICE_LOGIN (List.replicate 16 0) s t ∧ OnlyChanges [.pow, .log] s t) ∧
    (frames < 160 ∨ (16000 ≤ frames ∧ frames < 40000) ∨ 80000 < frames →
      Completes (.serviceNRelease frames) s fun t => t = s)) ∧
  (∀ (frames : Nat) (s : State),
    (s.dev.pow.serviceStuck = true → Completes (.serviceNRelease frames) s fun t =>
      t.dev.pow = { s.dev.pow with serviceStuck := false } ∧ OnlyChanges [.pow] s t) ∧
    (s.dev.pow.serviceStuck = false → s.clk.frame < s.dev.pow.serviceIgnoreUntil →
      Completes (.serviceNRelease frames) s fun t =>
        t.dev.pow = { s.dev.pow with serviceIgnoreUntil := s.clk.frame + 800 } ∧ OnlyChanges [.pow] s t)) ∧
  (∀ (frames : Nat) (s : State), s.dev.pow.serviceStuck = false → 240000 < frames →
    Completes (.serviceNStuck frames) s fun t =>
      t.dev.pow = { s.dev.pow with serviceStuck := true } ∧ Logs Src.own Event.SERVICE_N_STUCK [] s t ∧
        OnlyChanges [.pow, .log] s t) ∧
  (∀ (edges : Nat) (s : State), 20 < edges → Completes (.serviceNChatter edges) s fun t =>
    t.dev.pow = { s.dev.pow with serviceIgnoreUntil := s.clk.frame + 800 } ∧ OnlyChanges [.pow] s t) ∧
  (∀ (w : Nat) (s : State), s.dev.pow.loginWindow = some w → w ≤ s.clk.frame →
    Completes .loginWindowExpiry s fun t =>
      t.dev.pow = { s.dev.pow with loginWindow := none } ∧ OnlyChanges [.pow] s t) ∧
  (∀ (l : Login) (s : State), s.dev.pow.login = some l →
    l.lastAccepted + 8000 * s.dev.nat Param.SERVICE_TIMEOUT ≤ s.clk.frame →
    Completes .serviceTimeout s fun t =>
      t.dev.pow.login = none ∧ Logged Src.own Event.SERVICE_LOGIN (slice l.identity 0 16) t ∧
        t.dev.acs.hostSet.entries = [] ∧ TestsDefault t ∧
        (s.clk.mode ≠ .service → t.dev.pow.modeReqs = s.dev.pow.modeReqs) ∧
        (s.clk.mode = .service → LogoutAsks s t) ∧ OnlyChanges [.pow, .acs, .log, .diag] s t)

/-- Writes and reads over HSPI (R68, R69, R70, R71, R473). A WRITE or QWRITE with a good CRC into window RAM that the host may
write stores its bytes from its address on and no others; one with a bad CRC stores nothing and is counted; one that leaves
the window, or meets a word that the host does not write, stores nothing and sets RANGE. A READ or QREAD answers the status
byte, the marker, the words and their CRC and changes nothing but the port; outside the window it sets RANGE. STATUS sends the
status byte once more; an unknown opcode sets RANGE. -/
def Obligations.HspiTransfers : Prop :=
  (∀ (addr : BitVec 24) (data : List Byte) (s : State), PortOpen .hspi s → s.dev.win.RamSound →
    data.length % 4 = 0 → data.length ≤ 4096 → 0x1000 ≤ addr.toNat → addr.toNat < 0x10000 →
    writeOk s.dev addr.toNat (data.length / 4) = true →
    Completes (.hspiWrite addr data (crc32 (hspiCovered 0x02 addr data)) []) s (RamWritten addr.toNat data s) ∧
    Completes (.hspiQwrite addr data (crc32 (hspiCovered 0x32 addr data)) []) s (RamWritten addr.toNat data s)) ∧
  (∀ (addr : BitVec 24) (data : List Byte) (crc : Word) (lost : List Nat) (s : State), PortOpen .hspi s →
    (crc ≠ crc32 (hspiCovered 0x02 addr data) → Completes (.hspiWrite addr data crc lost) s fun t =>
      t.dev.win = { s.dev.win with crcErrors := s.dev.win.crcErrors + 1, hspi := t.dev.win.hspi } ∧
        t.dev.win.hspi.crcErr = true ∧ OnlyChanges [.win] s t) ∧
    (crc ≠ crc32 (hspiCovered 0x32 addr data) → Completes (.hspiQwrite addr data crc lost) s fun t =>
      t.dev.win = { s.dev.win with crcErrors := s.dev.win.crcErrors + 1, hspi := t.dev.win.hspi } ∧
        t.dev.win.hspi.crcErr = true ∧ OnlyChanges [.win] s t)) ∧
  (∀ (addr : BitVec 24) (data : List Byte) (lost : List Nat) (s : State), PortOpen .hspi s →
    writeOk s.dev addr.toNat (data.length / 4) = false →
    Completes (.hspiWrite addr data (crc32 (hspiCovered 0x02 addr data)) lost) s (fun t =>
      PortsOnly s t ∧ t.dev.win.hspi.range = true) ∧
    Completes (.hspiQwrite addr data (crc32 (hspiCovered 0x32 addr data)) lost) s (fun t =>
      PortsOnly s t ∧ t.dev.win.hspi.range = true)) ∧
  (∀ (addr : BitVec 24) (words : Nat) (s : State), PortOpen .hspi s → accessOk addr.toNat words = true →
    Completes (.hspiRead addr words) s (HspiAnswered (statusByte s :: 0x5A ::
      (readWords s.dev (addr.toNat % 0x10000) words ++ leBytes 4 (crc32 (hspiCovered 0x03 addr
        (readWords s.dev (addr.toNat % 0x10000) words))).toNat)) false s) ∧
    Completes (.hspiQread addr words) s (HspiAnswered (statusByte s :: 0x5A ::
      (readWords s.dev (addr.toNat % 0x10000) words ++ leBytes 4 (crc32 (hspiCovered 0x6B addr
        (readWords s.dev (addr.toNat % 0x10000) words))).toNat)) false s)) ∧
  (∀ (addr : BitVec 24) (words : Nat) (s : State), PortOpen .hspi s → accessOk addr.toNat words = false →
    Completes (.hspiRead addr words) s (HspiAnswered [statusByte s] true s) ∧
    Completes (.hspiQread addr words) s (HspiAnswered [statusByte s] true s)) ∧
  (∀ s : State, PortOpen .hspi s →
    Completes .hspiStatus s (HspiAnswered [statusByte s, statusByte s] false s)) ∧
  (∀ (op : Byte) (s : State), PortOpen .hspi s → op ≠ 0x02 → op ≠ 0x03 → op ≠ 0x32 → op ≠ 0x6B → op ≠ 0x05 →
    Completes (.hspiInvalidOpcode op) s (HspiAnswered [statusByte s] true s))

/-- The alias windows (R76): a write through the bit-set or bit-clear alias sets or clears the mask bits of the word and
leaves its others, here for every word that the host may write through an alias, whose unused bits read 0 and whose
enable bits 3 and 7 read 1 (R99); a write to the interrupt status word or a slot state word is not performed and its port
says so; one that loses the memory cycle is not performed, and its port says so (R77); a read through an alias returns the
plain word; an access of kind 0b11 is invalid. -/
def Obligations.AliasWrites : Prop :=
  (∀ (p : Port) (a : Nat) (mask : Word) (s : State), PortOpen p s → s.dev.win.RamSound → a < 0x10000 → a % 4 = 0 →
    hostWritable s.dev 1 a = true →
    Completes (.aliasBitSet p a mask false) s (fun t =>
      readWord t.dev a = ((readWord s.dev a ||| mask) &&& wordBits a) ||| wordFixed a ∧
        (∀ b, b < a ∨ a + 4 ≤ b → Mem.read t.dev.win.mem b = Mem.read s.dev.win.mem b) ∧
        OnlyChanges [.win] s t) ∧
    Completes (.aliasBitSet p a mask true) s (fun t =>
      readWord t.dev a = readWord s.dev a ∧ t.dev.win.mem = s.dev.win.mem ∧ TellsCollision p s t ∧
        OnlyChanges [.win] s t)) ∧
  (∀ (p : Port) (a : Nat) (mask : Word) (s : State), PortOpen p s → s.dev.win.RamSound → a < 0x10000 → a % 4 = 0 →
    hostWritable s.dev 2 a = true →
    Completes (.aliasBitClear p a mask false) s (fun t =>
      readWord t.dev a = ((readWord s.dev a &&& ~~~ mask) &&& wordBits a) ||| wordFixed a ∧
        (∀ b, b < a ∨ a + 4 ≤ b → Mem.read t.dev.win.mem b = Mem.read s.dev.win.mem b) ∧
        OnlyChanges [.win] s t) ∧
    Completes (.aliasBitClear p a mask true) s (fun t =>
      readWord t.dev a = readWord s.dev a ∧ t.dev.win.mem = s.dev.win.mem ∧ TellsCollision p s t ∧
        OnlyChanges [.win] s t)) ∧
  (∀ (p : Port) (a : Nat) (mask : Word) (lost : Bool) (s : State), PortOpen p s →
    a = 0x200 ∨ (0x140 ≤ a ∧ a < 0x180) →
    Completes (.aliasBitSet p a mask lost) s (fun t => PortsOnly s t ∧ TellsRange p t) ∧
    Completes (.aliasBitClear p a mask lost) s (fun t => PortsOnly s t ∧ TellsRange p t)) ∧
  (∀ (addr : BitVec 24) (words : Nat) (s : State), PortOpen .hspi s →
    (accessOk addr.toNat words = true → Completes (.hspiRead addr words) s fun t =>
      (t.dev.win.hspi.out.drop 2).take (4 * words) = readWords s.dev (addr.toNat % 0x10000) words) ∧
    (0x30000 ≤ addr.toNat → Completes (.hspiRead addr words) s fun t =>
      t.dev.win.hspi.range = true ∧ t.dev.win.hspi.out = [statusByte s]))

/-- HUART (R72, R73, R451, R473): a good read frame is answered with RESULT 0 and the words; a good write frame with a new SEQ
stores its bytes and remembers SEQ and RESULT; one that repeats the SEQ of the last write accepted is acknowledged again and
not performed; a read or a new write out of range is answered BAD_PARAM and not performed; a bad frame and a gap are counted
and not answered. -/
def Obligations.HuartTransfers : Prop :=
  (∀ (raw : List Byte) (f : UFrame) (s : State), PortOpen .huart s → uartFrame raw = some f → f.type = 1 →
    accessOk f.addr (f.len / 4) = true →
    Completes (.huartRead raw) s fun t =>
      t.dev.win = { s.dev.win with huart := t.dev.win.huart } ∧
        t.dev.win.huart.out = uartReply f 0 (readWords s.dev (f.addr % 0x10000) (f.len / 4)) ∧
        t.dev.win.huart.bad = 0 ∧ OnlyChanges [.win] s t) ∧
  (∀ (raw : List Byte) (f : UFrame) (s : State), PortOpen .huart s → uartFrame raw = some f → f.type = 2 →
    s.dev.win.RamSound → 0x1000 ≤ f.addr → f.addr < 0x10000 → writeOk s.dev f.addr (f.len / 4) = true →
    (∀ res, s.dev.win.huart.lastSeq ≠ some (f.seq, res)) →
    Completes (.huartWrite raw []) s fun t =>
      RamWritten f.addr f.data s t ∧ t.dev.win.huart.lastSeq = some (f.seq, 0) ∧
        t.dev.win.huart.out = uartReply f 0 []) ∧
  (∀ (raw : List Byte) (f : UFrame) (s : State), PortOpen .huart s → uartFrame raw = some f →
    (f.type = 1 → accessOk f.addr (f.len / 4) = false → Completes (.huartRead raw) s fun t =>
      PortsOnly s t ∧ t.dev.win.huart.out = uartReply f Res.badParam []) ∧
    (∀ lost, f.type = 2 → writeOk s.dev f.addr (f.len / 4) = false → (∀ res, s.dev.win.huart.lastSeq ≠ some (f.seq, res)) →
      Completes (.huartWrite raw lost) s fun t =>
        PortsOnly s t ∧ t.dev.win.huart.out = uartReply f Res.badParam [] ∧
          t.dev.win.huart.lastSeq = s.dev.win.huart.lastSeq)) ∧
  (∀ (raw : List Byte) (f : UFrame) (res : Nat) (lost : List Nat) (s : State), PortOpen .huart s →
    uartFrame raw = some f → f.type = 2 → s.dev.win.huart.lastSeq = some (f.seq, res) →
    Completes (.huartWrite raw lost) s fun t =>
      t.dev.win = { s.dev.win with huart := t.dev.win.huart } ∧ t.dev.win.huart.out = uartReply f res [] ∧
        OnlyChanges [.win] s t) ∧
  (∀ (raw : List Byte) (s : State), portServes .huart s = true → uartFrame raw = none →
    Completes (.huartBadFrame raw) s (FrameDiscarded s)) ∧
  (∀ s : State, portServes .huart s = true → Completes .huartGapTimeout s (FrameDiscarded s))

/-- Host writes of the window's own words (R67, R81, R82, R95, R99, R101): the doorbell gains the mask's bits; a slot goes
from FREE to FILLED with a new REQ_SEQ and from DONE to FREE, and any other write of its state is a counted protocol
error; interrupt status bits clear where 1 is written; the enable word keeps bits 3 and 7; the heartbeat word, the read index
and RAM words take what is written. Nothing else of the window changes but the port's record. -/
def Obligations.WindowWordRows : Prop :=
  ∀ (p : Port) (v : Word) (s : State), PortOpen p s →
    Completes (.doorbellWrite p v) s (fun t =>
      WordWritten { s.dev.win with doorbell := s.dev.win.doorbell ||| v.setWidth 16, slots := t.dev.win.slots } s t ∧
        t.dev.win.slots.map (fun x => (x.st, x.huart, x.seq, x.foundAt)) =
          s.dev.win.slots.map fun x => (x.st, x.huart, x.seq, x.foundAt)) ∧
    (∀ (k : Nat) (x : Slot), k < 16 → s.dev.win.slots[k]? = some x →
      (x.st = .free → v.toNat % 4 = 1 → v.toNat / 65536 ≠ x.seq → Completes (.slotStateWrite p k v) s
        (WordWritten { s.dev.win with
          slots := s.dev.win.slots.set k { x with st := .filled, seq := v.toNat / 65536 } } s)) ∧
      (x.st = .done → v.toNat % 4 = 0 → Completes (.slotStateWrite p k v) s
        (WordWritten { s.dev.win with
          slots := s.dev.win.slots.set k { x with st := .free }
          doneWord := s.dev.win.doneWord &&& ~~~ (1#16 <<< k) } s)) ∧
      (x.st = .filled ∨ x.st = .taken ∨ (x.st = .free ∧ (v.toNat % 4 ≠ 1 ∨ v.toNat / 65536 = x.seq)) ∨
          (x.st = .done ∧ v.toNat % 4 ≠ 0) →
        Completes (.slotStateWrite p k v) s fun t =>
          t.dev.win = { s.dev.win with
            protocolErrors := s.dev.win.protocolErrors + 1, hspi := t.dev.win.hspi, huart := t.dev.win.huart } ∧
            Logs Src.host Event.SLOT_PROTOCOL_ERROR (leBytes 1 k) s t ∧ OnlyChanges [.win, .log] s t)) ∧
    Completes (.irqStatusClear p v) s
      (WordWritten { s.dev.win with irqStatus := s.dev.win.irqStatus &&& ~~~ (v.setWidth 9) } s) ∧
    Completes (.irqEnableWrite p v) s (WordWritten { s.dev.win with irqEnable := v.setWidth 9 ||| 0x88#9 } s) ∧
    Completes (.heartbeatWrite p v) s (WordWritten { s.dev.win with heartbeat := v } s) ∧
    Completes (.eventReadIndexWrite p v) s (WordWritten { s.dev.win with readIndex := v.toNat % 65536 } s) ∧
    (∀ a, 0x1000 ≤ a → a < 0x10000 → a % 4 = 0 → hostWritable s.dev 0 a = true → s.dev.win.RamSound →
      Completes (.windowWordWrite p a v) s fun t => RamWritten a (leBytes 4 v.toNat) s t ∧ readWord t.dev a = v)

/-- The host's presence and its ports (R95, R96, R101, R262). At a tick at which a HOST_BEAT period has passed, the lead reads
the heartbeat word: a change makes the host present, or keeps it so, and its return is logged; no change counts one period
more. A host without a change for HOST_BEAT_MISS periods is lost, which is logged, and an open session's authorisation
starts its grace. Sixteen failed transactions mark a port failed and sixteen good ones restore it, each logged with
PORT_ERROR raised. Once the ring has space after omissions, STREAM_OVERRUN with their number and the first SEQ is logged,
before every entry that waits for the stream. -/
def Obligations.HostPresenceRows : Prop :=
  (∀ (f : FrameIn) (l : Lane) (s : State), s.clk.running = true → finalEnds s = false → s.dev.upd.restartDue = false →
    s.dev.lanes.token = some l → s.dev.lanes.grant = none → s.dev.win.doorbell = 0 → s.dev.acs.nextTick = [] →
    s.dev.win.beatFrame + ms (s.dev.nat Param.HOST_BEAT) ≤ s.clk.frame + 1 →
    Completes (.frameTick f) s fun t =>
      t.dev.win.heartbeat = s.dev.win.heartbeat ∧ t.dev.win.beatFrame = s.clk.frame + 1 ∧
        (s.dev.win.heartbeat ≠ s.dev.win.beatSeen → t.dev.win.hostPresent = true ∧
          t.dev.win.beatSeen = s.dev.win.heartbeat ∧ t.dev.win.beatMissed = 0 ∧
          (s.dev.win.hostPresent = false → ∃ frames, LoggedOrEntered Src.host Event.HOST_REGAINED (leBytes 4 frames) t)) ∧
        (s.dev.win.heartbeat = s.dev.win.beatSeen → t.dev.win.hostPresent = s.dev.win.hostPresent ∧
          t.dev.win.beatMissed = s.dev.win.beatMissed + 1)) ∧
  (∀ s : State, s.clk.running = true → s.dev.win.hostPresent = true →
    s.dev.nat Param.HOST_BEAT_MISS ≤ s.dev.win.beatMissed →
    Completes .hostLost s fun t =>
      t.dev.win = { s.dev.win with hostPresent := false, lostFrame := s.clk.frame } ∧
        Logged Src.host Event.HOST_LOST (leBytes 8 s.clk.frame) t ∧
        (s.dev.ses.isOpen = true → s.dev.ses.auth.isSome = true → t.dev.ses.grace = some s.clk.frame) ∧
        t.dev.ses.isOpen = s.dev.ses.isOpen ∧ OnlyChanges [.win, .log, .led, .veh, .ses, .sw] s t) ∧
  (∀ (p : Port) (s : State), (s.dev.win.port p).failed = false → 16 ≤ (s.dev.win.port p).bad →
    Completes (.portFailed p) s fun t =>
      t.dev.win.port p = { s.dev.win.port p with failed := true } ∧ t.dev.win.shadow.irqSet.getLsbD 8 = true ∧
        Logs Src.host Event.PORT_FAILED (leBytes 1 (portCode p)) s t ∧ OnlyChanges [.win, .log] s t) ∧
  (∀ (p : Port) (s : State), (s.dev.win.port p).failed = true → 16 ≤ (s.dev.win.port p).good →
    Completes (.portRestored p) s fun t =>
      t.dev.win.port p = { s.dev.win.port p with failed := false } ∧ t.dev.win.shadow.irqSet.getLsbD 8 = true ∧
        Logs Src.host Event.PORT_RESTORED (leBytes 1 (portCode p)) s t ∧ OnlyChanges [.win, .log] s t) ∧
  (∀ s : State, 0 < s.dev.win.omitted → ringFull s.dev.win = false →
    Completes .streamOverrun s fun t =>
      t.dev.win = { s.dev.win with omitted := 0, stream := t.dev.win.stream } ∧
        t.dev.log.nextSeq = s.dev.log.nextSeq + 1 ∧
        (∃ e, t.dev.win.stream = e :: s.dev.win.stream ∧ e.seq = s.dev.log.nextSeq ∧ e.frame = s.clk.frame ∧
          e.code = Event.STREAM_OVERRUN ∧ e.data = leBytes 4 s.dev.win.omitted ++ leBytes 4 s.dev.win.omittedFirst ∧
          t.dev.log.general.getLast? = some e) ∧
        OnlyChanges [.win, .log] s t)

/-- Requests of the command set that are not executed (R83, R84, R106, R108): while no lane leads and no boot ROM serves,
a request waits and nothing changes; a request refused by steps 1 to 3 of R108 is answered with that result and has no
effect but its reply and, for a durable command, its record (R88). Every other is answered once, with its own code and TAG;
where the answer is a refusal by a condition of its own, it has had no effect but these either, save that of a credential a
new nonce is drawn and a login's refusal is logged, and that a wrong SAFETY_CONFIRM loses its first step. -/
def Obligations.AcsRefusals : Prop :=
  ∀ (c : Instr) (q : AcsReq) (s : State), acsReq c = some q →
    (acsServes s = false → Completes c s fun t => t = s) ∧
    (∀ r p, acsServes s = true → acsCheck q.code q.own q.args s = some (r, p) → Completes c s fun t =>
      Answered q.code q.tag r 0 p s t ∧ 0x10 ≤ r ∧ CoreKept s t ∧
        t.dev.acs.durable = (if (cmdRow q.code).elim false CmdRow.durable then
          lastN 256 (s.dev.acs.durable ++ [⟨q.tag, q.code, r, s.clk.frame⟩]) else s.dev.acs.durable) ∧
        OnlyChanges [.acs] s t) ∧
    (AcsOpen q.code q.own q.args s → Completes c s fun t =>
      t.dev.acs.reply.cmd = q.code ∧ t.dev.acs.reply.tag = q.tag ∧ t.dev.acs.reply.frame = s.clk.frame ∧
        (t.dev.acs.reply.result ≠ Res.ok → t.dev.acs.reply.result ≠ Res.job →
          CoreKept s t ∧ t.dev.pow = s.dev.pow ∧ OnlyChanges [.acs, .log, .keys, .saf] s t ∧
            (q.code ≠ Cmd.SERVICE_LOGIN → t.dev.log = s.dev.log) ∧
            (q.code ∉ [Cmd.SERVICE_LOGIN, Cmd.TEST_AUTH, Cmd.METR_SEAL_OPEN] → t.dev.keys = s.dev.keys) ∧
            (q.code ≠ Cmd.SAFETY_CONFIRM → t.dev.saf = s.dev.saf)))

/-- Commands that only read (R24, R88, R92, R109 to R112, R203, R303, R384, R432): each answers OK with what it reads and has
no effect but its reply. IDENTIFY answers the public key of slot 2 as well from the boot ROM; REGISTERS_READ answers the held
values while a dispute holds publication. -/
def Obligations.ReadCommands : Prop :=
  ∀ (own : Owner) (tag : Nat) (args : List Byte) (s : State),
    (AcsOpen Cmd.IDENTIFY own args s → Completes (.identify own tag args) s
      (OnlyAnswers Cmd.IDENTIFY tag (slice (identityBytes s.dev) 0 64 ++ leBytes 4 s.dev.keys.vault.manifest ++
        (if s.dev.upd.bootRecovery = true ∧ s.clk.running = false then slotPublic s.dev 2 else [])) s)) ∧
    (AcsOpen Cmd.PARAM_READ own args s → Completes (.paramRead own tag args) s
      (OnlyAnswers Cmd.PARAM_READ tag ((idList args 0).flatMap fun id =>
        leBytes 2 id ++ leBytes 1 (readOne s id).2.length ++ leBytes 1 (readOne s id).1 ++ padFour (readOne s id).2) s)) ∧
    (∀ r, AcsOpen Cmd.PARAM_DESCRIBE own args s → rowOf (fieldAt args 0 2) = some r →
      Completes (.paramDescribe own tag args) s
        (OnlyAnswers Cmd.PARAM_DESCRIBE tag (descriptor r (fieldAt args 0 2)) s)) ∧
    (∀ r, AcsOpen Cmd.PARAM_READ_BLOCK own args s → rowOf (fieldAt args 0 2) = some r →
      r.modesR.testBit s.clk.mode.code = true → 0 < fieldAt args 8 2 → fieldAt args 8 2 ≤ 992 →
      fieldAt args 4 4 + fieldAt args 8 2 ≤ r.len → Completes (.paramReadBlock own tag args) s
        (OnlyAnswers Cmd.PARAM_READ_BLOCK tag (leBytes 4 (fieldAt args 4 4) ++
          blockRead s r (fieldAt args 0 2) (fieldAt args 4 4) (fieldAt args 8 2)) s)) ∧
    (AcsOpen Cmd.PARAM_PENDING own args s → Completes (.paramPending own tag args) s
      (OnlyAnswers Cmd.PARAM_PENDING tag (leBytes 4 (pendingOf own s.dev).serial ++
        leBytes 2 (pendingOf own s.dev).ids.length ++ (pendingOf own s.dev).ids.flatMap (leBytes 2)) s)) ∧
    (AcsOpen Cmd.PARAM_ENUM own args s → 0 < fieldAt args 2 2 → fieldAt args 2 2 ≤ 480 →
      Completes (.paramEnum own tag args) s fun t => ∃ ids : List Nat,
        OnlyAnswers Cmd.PARAM_ENUM tag (leBytes 2 ids.length ++ ids.flatMap (leBytes 2)) s t ∧
          ids = (allIds.filter fun id => decide (fieldAt args 0 2 ≤ id)).take (fieldAt args 2 2)) ∧
    (∀ o, AcsOpen Cmd.CMD_OUTCOME own args s →
      s.dev.acs.durable.reverse.find? (fun o => o.tag = fieldAt args 0 4 && o.cmd = fieldAt args 4 2) = some o →
      Completes (.cmdOutcome own tag args) s
        (OnlyAnswers Cmd.CMD_OUTCOME tag (leBytes 1 1 ++ leBytes 1 o.result ++ leBytes 8 o.frame) s)) ∧
    (AcsOpen Cmd.CMD_OUTCOME own args s →
      (∀ o ∈ s.dev.acs.durable, o.tag ≠ fieldAt args 0 4 ∨ o.cmd ≠ fieldAt args 4 2) →
      Completes (.cmdOutcome own tag args) s (OnlyAnswers Cmd.CMD_OUTCOME tag (List.replicate 10 0) s)) ∧
    (AcsOpen Cmd.EVENT_FETCH own args s → 1 ≤ fieldAt args 4 1 → fieldAt args 4 1 ≤ 31 →
      Completes (.eventFetch own tag args) s fun t => ∃ es : List LogEntry,
        OnlyAnswers Cmd.EVENT_FETCH tag (leBytes 4 ((es.head?.map LogEntry.seq).getD (fieldAt args 0 4)) ++
          leBytes 2 es.length ++ leBytes 2 0 ++ es.flatMap entryBytes) s t ∧
        es = (s.dev.log.general.filter fun e => fieldAt args 0 4 ≤ e.seq).take (fieldAt args 4 1)) ∧
    (AcsOpen Cmd.JOB_LIST own args s → Completes (.jobList own tag args) s
      (OnlyAnswers Cmd.JOB_LIST tag (jobTable s.dev) s)) ∧
    (∀ j, AcsOpen Cmd.JOB_STATUS own args s → s.dev.acs.jobs.find? (·.id = fieldAt args 0 2) = some j →
      Completes (.jobStatus own tag args) s (OnlyAnswers Cmd.JOB_STATUS tag (jobBytes j) s)) ∧
    (∀ v, AcsOpen Cmd.REGISTERS_READ own args s → registerBytes (fieldAt args 0 1) s.regs = some v →
      pubHeld s.dev = false → Completes (.registersRead own tag args) s
        (OnlyAnswers Cmd.REGISTERS_READ tag (leBytes 1 (fieldAt args 0 1) ++ [0, 0, 0] ++ leBytes 8 s.clk.frame ++ v) s)) ∧
    (∀ v, AcsOpen Cmd.REGISTERS_READ own args s → registerBytes (fieldAt args 0 1) s.regs = some v →
      pubHeld s.dev = true → Completes (.registersRead own tag args) s
        (OnlyAnswers Cmd.REGISTERS_READ tag (leBytes 1 (fieldAt args 0 1) ++ [0, 0, 0] ++
          slice ((assoc s.dev.win.heldVals heldFrame).getD []) 0 8 ++
          (assoc s.dev.win.heldVals (heldRegister (fieldAt args 0 1))).getD v) s)) ∧
    (AcsOpen Cmd.METR_LOG_READ own args s → 1 ≤ fieldAt args 2 1 → fieldAt args 2 1 ≤ 31 →
      Completes (.metrLogRead own tag args) s (OnlyAnswers Cmd.METR_LOG_READ tag
        (((s.dev.log.metr.drop (fieldAt args 0 2)).take (fieldAt args 2 1)).flatMap entryBytes) s)) ∧
    (AcsOpen Cmd.SAFETY_CHECK_READ own args s → Completes (.safetyCheckRead own tag args) s
      (OnlyAnswers Cmd.SAFETY_CHECK_READ tag (leBytes 8 (safetyCheckOf s.dev) ++ leBytes 1 s.dev.saf.confirmSt) s)) ∧
    (AcsOpen Cmd.CALICO_STAGING_STATUS own args s → Completes (.calicoStagingStatus own tag args) s
      (OnlyAnswers Cmd.CALICO_STAGING_STATUS tag
        (stagingStatus s.dev.cal ++ leBytes 1 (stagingOutcome s.dev.cal)) s))

/-- Snapshots and the bulk window (R93, R98, R200, R359): a snapshot takes a free buffer, whose content is released with the
response; a release frees it; a record and a signed record's signature open the free bulk window to the host, a head-end
reading them as the method's own response; a chunk with its number and CRC-32 is accepted, from the controller, of an
authorisation list, of an image and of an enrolment token, the last one freeing the window. -/
def Obligations.WindowCommands : Prop :=
  ∀ (own : Owner) (tag : Nat) (args : List Byte) (s : State),
    (∀ b, AcsOpen Cmd.SNAPSHOT_TAKE own args s → 1 ≤ fieldAt args 2 2 → fieldAt args 2 2 ≤ 128 →
      fieldAt args 0 1 ≤ 2 ∨ fieldAt args 0 1 = 0xFF → bufferFor s.dev (fieldAt args 0 1) = some b →
      Completes (.snapshotTake own tag args) s fun t =>
        Answered Cmd.SNAPSHOT_TAKE tag Res.ok 0 (leBytes 1 b ++ [0] ++ leBytes 2 (fieldAt args 2 2) ++ publishedFrame s) s t ∧
          CoreKept s t ∧ t.dev.win.shadow.snapHeld = s.dev.win.shadow.snapHeld ||| (1#3 <<< b) ∧
          t.dev.win.shadow.writes = s.dev.win.shadow.writes ++
            [(0x9000 + 0x1000 * b, slice (snapshotBytes s tag (idList args 2)) 0 4096)] ∧
          t.dev.win.mem = s.dev.win.mem ∧ OnlyChanges [.acs, .pow, .win] s t) ∧
    (∀ b, AcsOpen Cmd.SNAPSHOT_RELEASE own args s → fieldAt args 0 1 = b → b ≤ 2 →
      Completes (.snapshotRelease own tag args) s fun t =>
        Answered Cmd.SNAPSHOT_RELEASE tag Res.ok 0 [] s t ∧ CoreKept s t ∧
          t.dev.win.shadow.snapFree.getLsbD b = true ∧ t.dev.win.shadow.snapHeld.getLsbD b = false ∧
          t.dev.win.mem = s.dev.win.mem ∧ OnlyChanges [.acs, .pow, .win] s t) ∧
    (∀ r, own = .host → AcsOpen Cmd.RECORD_READ own args s → recordOf (fieldAt args 0 4) s.dev = some r →
      s.dev.acs.bulk = none → Completes (.recordRead own tag args) s fun t =>
        Answered Cmd.RECORD_READ tag Res.ok 0 [] s t ∧
          t.dev.acs.bulk = some ⟨.record, s.dev.acs.slotNow, 0, true, (recordImage r).length, recordImage r⟩ ∧
          t.dev.win = { s.dev.win with shadow := { s.dev.win.shadow with
            writes := s.dev.win.shadow.writes ++ [(0xF000, slice (recordImage r) 0 4096)] } } ∧
          OnlyChanges [.acs, .pow, .win] s t) ∧
    (∀ r, own ≠ .host → AcsOpen Cmd.RECORD_READ own args s → recordOf (fieldAt args 0 4) s.dev = some r →
      Completes (.recordRead own tag args) s (OnlyAnswers Cmd.RECORD_READ tag [] s)) ∧
    (∀ r, own = .host → AcsOpen Cmd.SIGNATURE_READ own args s → recordOf (fieldAt args 0 4) s.dev = some r →
      r.signState = 2 → s.dev.acs.bulk = none → Completes (.signatureRead own tag args) s fun t =>
        Answered Cmd.SIGNATURE_READ tag Res.ok 0 [] s t ∧
          t.dev.acs.bulk = some ⟨.signature, s.dev.acs.slotNow, 0, true, 7856, slice r.signature 0 7856⟩ ∧
          OnlyChanges [.acs, .pow, .win] s t) ∧
    (∀ r, own ≠ .host → AcsOpen Cmd.SIGNATURE_READ own args s → recordOf (fieldAt args 0 4) s.dev = some r →
      r.signState = 2 → Completes (.signatureRead own tag args) s (OnlyAnswers Cmd.SIGNATURE_READ tag [] s)) ∧
    (∀ b, AcsOpen Cmd.BULK_CHUNK own args s → s.dev.acs.bulk = some b → b.toHost = true →
      recoveryOnly s = true ∨ (bulkModes b.use).testBit s.clk.mode.code = true → fieldAt args 0 2 = b.next % 65536 → bulkOut b ≠ [] →
      (bulkOut b).length = fieldAt args 2 2 → (crc32 (bulkOut b)).toNat = fieldAt args 4 4 →
      Completes (.bulkChunk own tag args) s fun t =>
        Answered Cmd.BULK_CHUNK tag Res.ok 0 (leBytes 2 (fieldAt args 0 2 + 1)) s t ∧
          t.dev.acs.bulk = (if bulkOut { b with next := b.next + 1 } = [] then none
            else some { b with next := b.next + 1 }) ∧
          OnlyChanges [.acs, .pow, .win] s t) ∧
    (∀ b data last, AcsOpen Cmd.BULK_CHUNK own args s → s.dev.acs.bulk = some b → b.toHost = false →
      recoveryOnly s = true ∨ (bulkModes b.use).testBit s.clk.mode.code = true → fieldAt args 0 2 = b.next % 65536 →
      1 ≤ fieldAt args 2 2 → fieldAt args 2 2 ≤ 4096 → bulkGot b s.dev + fieldAt args 2 2 ≤ b.length →
      data = Mem.readBytes s.dev.win.mem 0xF000 (fieldAt args 2 2) →
      last = decide (b.length ≤ bulkGot b s.dev + fieldAt args 2 2) → (crc32 data).toNat = fieldAt args 4 4 →
      Completes (.bulkChunk own tag args) s fun t =>
        Answered Cmd.BULK_CHUNK tag Res.ok 0 (leBytes 2 (fieldAt args 0 2 + 1)) s t ∧
          (b.use = .auth → t.dev.nfc.loadBytes = s.dev.nfc.loadBytes ++ data ∧
            t.dev.acs.bulk = (if last then none else some { b with next := b.next + 1 }) ∧
            OnlyChanges [.acs, .pow, .log, .nfc] s t) ∧
          (b.use = .image → t.dev.upd.staged = s.dev.upd.staged ++ data ∧ t.dev.upd.chunks = s.dev.upd.chunks + 1 ∧
            t.dev.acs.bulk = (if last then none else some { b with next := b.next + 1 }) ∧
            OnlyChanges [.acs, .pow, .win, .log, .upd] s t) ∧
          (b.use = .enrol →
            t.dev.acs.bulk = (if last then none else some { b with next := b.next + 1, data := b.data ++ data }) ∧
            (last = true → t.dev.keys.token = b.data ++ data ∧ t.dev.keys.enrolSt = 2 ∧ t.dev.keys.checking = true) ∧
            (last = false → t.dev.keys = s.dev.keys) ∧ OnlyChanges [.acs, .pow, .keys] s t))

/-- Writing parameters (R109, R113 to R117): accepted entries go to the owner's pending set, whose serial rises, or wait
for the next tick; a block write always goes to the pending set; a commit moves the whole set to the next tick and
counts; a discard empties it. None of them changes a value in force in its own frame. -/
def Obligations.ParamWriting : Prop :=
  ∀ (own : Owner) (tag : Nat) (args : List Byte) (s : State),
    (∀ es : List Staged, AcsOpen Cmd.PARAM_WRITE own args s →
      es = ((writeEntries (fieldAt args 0 2) (args.drop 4)).getD []).map (fun e => entryStaged e.1 e.2.2) →
      lowest 0 (es.map (entryFault s)) = none → lanePertBusy (es.map Staged.id) s.dev = false →
      ((pendingOf own s.dev).stage (es.filter fun e => isCommitted e.id)).fits = true →
      Completes (.paramWrite own tag args) s fun t =>
        Answered Cmd.PARAM_WRITE tag Res.ok 0 (leBytes 4 (pendingOf own t.dev).serial) s t ∧
          pendingOf own t.dev = (pendingOf own s.dev).stage (es.filter fun e => isCommitted e.id) ∧
          (∀ e ∈ es, isCommitted e.id = false → t.dev.acs.nextTick.any (Staged.same e) = true) ∧
          OnlyChanges [.acs, .pow, .log] s t) ∧
    (∀ r, AcsOpen Cmd.PARAM_WRITE_BLOCK own args s → rowOf (fieldAt args 0 2) = some r →
      writeGate (fieldAt args 0 2) s = none → blockWriteOk r (fieldAt args 0 2) (fieldAt args 4 4) (args.drop 10)
        (((pendingOf own s.dev).entries.filter fun e => decide (e.id = fieldAt args 0 2)).foldl storeStaged s.dev) = true →
      ((pendingOf own s.dev).stage [.blk (fieldAt args 0 2) (fieldAt args 4 4) (args.drop 10)]).fits = true →
      Completes (.paramWriteBlock own tag args) s fun t =>
        Answered Cmd.PARAM_WRITE_BLOCK tag Res.ok 0 (leBytes 4 (((pendingOf own s.dev).serial + 1) % 2 ^ 32)) s t ∧
          (pendingOf own t.dev).serial = ((pendingOf own s.dev).serial + 1) % 2 ^ 32 ∧
          (pendingOf own t.dev).entries.getLast? =
            some (.blk (fieldAt args 0 2) (fieldAt args 4 4) (args.drop 10)) ∧
          t.dev.acs.nextTick = s.dev.acs.nextTick ∧ OnlyChanges [.acs, .pow, .log] s t) ∧
    (AcsOpen Cmd.PARAM_COMMIT own args s →
      commitFault s (fieldAt args 0 4) (pendingOf own s.dev) (inForce s.dev)
        ((pendingOf own s.dev).entries.foldl storeStaged (inForce s.dev)) = none →
      Completes (.paramCommit own tag args) s fun t =>
        Answered Cmd.PARAM_COMMIT tag Res.ok 0 (leBytes 4 (s.dev.acs.commitCount + 1)) s t ∧
          t.dev.acs.commitCount = s.dev.acs.commitCount + 1 ∧
          pendingOf own t.dev = { pendingOf own s.dev with entries := [] } ∧
          t.dev.acs.nextTick = s.dev.acs.nextTick ++ (pendingOf own s.dev).entries.filter (fun e => storedId e.id) ∧
          OnlyChanges [.pow, .acs, .log, .samp, .metr, .led, .tar, .saf, .gplc, .keys] s t) ∧
    (AcsOpen Cmd.PARAM_DISCARD own args s → Completes (.paramDiscard own tag args) s fun t =>
      Answered Cmd.PARAM_DISCARD tag Res.ok 0 (leBytes 2 (pendingOf own s.dev).ids.length) s t ∧
        (pendingOf own t.dev).entries = [] ∧ (pendingOf own t.dev).serial = (pendingOf own s.dev).serial ∧
        t.dev.acs.nextTick = s.dev.acs.nextTick ∧ OnlyChanges [.acs, .pow, .log] s t)

/-- Modes, logins and the seal (R43, R47, R48, R116, R170, R404, R461): a listed transition whose condition holds is taken
at the next tick; SAFESTOP_CLEAR clears the causes that it may; STOP_REQUEST sets its cause bit, and in Session or
Degraded starts an ordered stop; each command with a credential does its work if the credential's check values are
good and answers CHECK_MISMATCH otherwise, a new nonce being drawn either way; a logout ends the login. -/
def Obligations.ModeCommands : Prop :=
  ∀ (own : Owner) (tag : Nat) (args : List Byte) (s : State),
    (∀ m, AcsOpen Cmd.MODE_REQUEST own args s → Mode.ofCode (fieldAt args 0 1) = some m → modeRequestOk m s = true →
      s.dev.acs.commitDone = false → Completes (.modeRequest own tag args) s fun t =>
        Answered Cmd.MODE_REQUEST tag Res.ok 0 [] s t ∧
          t.dev.pow.modeReqs = s.dev.pow.modeReqs ++ [⟨m, .other, causeCmd Cmd.MODE_REQUEST⟩] ∧
          (m = .ready → t.dev.pow.commissioned = true ∧ t.dev.pow.reopened = false) ∧
          t.dev.acs.modeDone = true ∧ t.clk.mode = s.clk.mode ∧ OnlyChanges [.acs, .pow] s t) ∧
    (AcsOpen Cmd.SAFESTOP_CLEAR own args s → Completes (.safestopClear own tag args) s fun t =>
      Answered Cmd.SAFESTOP_CLEAR tag Res.ok 0 (leBytes 4 t.dev.pow.causes.toNat) s t ∧
        (∀ k < 10, t.dev.pow.causes.getLsbD k = (s.dev.pow.causes.getLsbD k &&
          !((fieldAt args 0 4).testBit k && mayClear k own s))) ∧
        (s.clk.mode = .safeStop → t.dev.pow.causes = 0 → t.dev.pow.modeReqs =
          s.dev.pow.modeReqs ++ [⟨.ready, .other, causeCmd Cmd.SAFESTOP_CLEAR⟩]) ∧
        (s.clk.mode ≠ .safeStop ∨ t.dev.pow.causes ≠ 0 → t.dev.pow.modeReqs = s.dev.pow.modeReqs) ∧
        OnlyChanges [.acs, .pow, .saf] s t) ∧
    (AcsOpen Cmd.STOP_REQUEST own args s → Completes (.stopRequest own tag args) s fun t =>
      Answered Cmd.STOP_REQUEST tag Res.ok 0 [] s t ∧
        t.dev.pow.causes = s.dev.pow.causes ||| (1#32 <<< (if own = .host then Cause.hostStop else Cause.headEndStop)) ∧
        (s.clk.mode = .ready → t.dev.pow.modeReqs =
          s.dev.pow.modeReqs ++ [⟨.safeStop, .toSafeStop, causeCmd Cmd.STOP_REQUEST⟩]) ∧
        (s.clk.mode = .session ∨ s.clk.mode = .degraded → s.dev.ses.isOpen = true → s.dev.ses.stop = none →
          outletShut s.dev = true → t.dev.ses.stop = some (if own = .host then 3 else 4, s.clk.frame)) ∧
        (s.clk.mode = .session ∨ s.clk.mode = .degraded → s.dev.ses.isOpen = true → s.dev.ses.stop = none →
          outletShut s.dev = false → s.dev.saf.openSt ≠ 1 → t.dev.ses.isOpen = false) ∧
        (s.clk.mode ≠ .session → s.clk.mode ≠ .degraded → OnlyChanges [.acs, .pow] s t)) ∧
    (AcsOpen Cmd.SERVICE_LOGIN own args s → credForm args = true → loginRight args own s = true →
      (s.dev.tar.status ≠ 2 ∨ credKind args = 2) → s.clk.mode ≠ .session → s.clk.mode ≠ .degraded →
      credInTime args s.dev = true → s.dev.pow.login = none → Completes (.serviceLogin own tag args) s fun t =>
        (credGood args s.dev = true →
          Answered Cmd.SERVICE_LOGIN tag Res.ok 0
            (leBytes 4 (s.dev.pow.loginCount + 1) ++ leBytes 2 (s.dev.nat Param.SERVICE_TIMEOUT)) s t ∧
            t.dev.pow.login = some ⟨decide (own ≠ .host), own, s.dev.pow.loginCount + 1, credIdentity args,
              s.clk.mode, s.clk.frame⟩ ∧
            (s.clk.mode ≠ .factory → t.dev.pow.modeReqs =
              s.dev.pow.modeReqs ++ [⟨.service, .other, causeEvent Event.SERVICE_LOGIN⟩])) ∧
        (credGood args s.dev = false →
          Answered Cmd.SERVICE_LOGIN tag Res.checkMismatch 0 [] s t ∧ t.dev.pow = s.dev.pow) ∧
        Logs Src.own Event.SERVICE_LOGIN (credIdentity args) s t ∧
        t.dev.keys = (drawNonce s.clk.frame s.dev).keys ∧ OnlyChanges [.acs, .pow, .log, .keys] s t) ∧
    (∀ r, AcsOpen Cmd.SERVICE_LOGIN own args s →
      credFault args (loginRight args own s) (decide (s.clk.mode ≠ .session) && decide (s.clk.mode ≠ .degraded)) false
        s.dev.pow.login.isSome s.dev = some r →
      Completes (.serviceLogin own tag args) s fun t =>
        Answered Cmd.SERVICE_LOGIN tag r 0 [] s t ∧ t.dev.pow = s.dev.pow ∧
          Logs Src.own Event.SERVICE_LOGIN (credIdentity args) s t ∧
          t.dev.keys = (drawNonce s.clk.frame s.dev).keys ∧ OnlyChanges [.acs, .log, .keys] s t) ∧
    (AcsOpen Cmd.SERVICE_LOGOUT own args s → s.dev.pow.login.isSome = true →
      Completes (.serviceLogout own tag args) s fun t =>
        t.dev.acs.reply.result = Res.ok ∧ t.dev.pow.login = none ∧
          (s.clk.mode = .service → LogoutAsks s t) ∧
          (s.clk.mode = .service → s.dev.pow.modeReqs = [] →
            ∃ m, bestReq t.dev.pow.modeReqs = some m ∧ t.dev.acs.reply.payload = leBytes 1 m.target.code) ∧
          (s.clk.mode ≠ .service → s.dev.pow.modeReqs = [] → t.dev.acs.reply.payload = leBytes 1 s.clk.mode.code) ∧
          OnlyChanges [.acs, .pow, .log, .diag] s t) ∧
    (AcsOpen Cmd.TEST_AUTH own args s → credForm args = true → (credRights args).testBit 2 = true →
      (s.dev.tar.status ≠ 2 ∨ credKind args = 2) → credInTime args s.dev = true →
      Completes (.testAuth own tag args) s fun t =>
        (credGood args s.dev = true → Answered Cmd.TEST_AUTH tag Res.ok 0 [] s t ∧
          t.dev.diag.testFrom = some s.clk.frame) ∧
        (credGood args s.dev = false → Answered Cmd.TEST_AUTH tag Res.checkMismatch 0 [] s t ∧ t.dev.diag = s.dev.diag) ∧
        t.dev.keys = (drawNonce s.clk.frame s.dev).keys ∧ OnlyChanges [.acs, .pow, .log, .keys, .diag] s t) ∧
    (AcsOpen Cmd.METR_SEAL_OPEN own args s → credForm args = true → (credRights args).testBit 1 = true →
      (s.dev.tar.status ≠ 2 ∨ credKind args = 2) → metrRoom (entriesOf 16) s.dev = true → credInTime args s.dev = true →
      Completes (.metrSealOpen own tag args) s fun t =>
        (credGood args s.dev = true → Answered Cmd.METR_SEAL_OPEN tag Res.ok 0 [] s t ∧ t.dev.acs.sealOpen = true ∧
          t.dev.log.metrNow = s.dev.log.metrNow ++ [.of Src.host Event.METR_SEAL_OPENED (credIdentity args)]) ∧
        (credGood args s.dev = false → Answered Cmd.METR_SEAL_OPEN tag Res.checkMismatch 0 [] s t ∧
          t.dev.acs.sealOpen = s.dev.acs.sealOpen ∧ t.dev.log = s.dev.log) ∧
        OnlyChanges [.acs, .pow, .log, .keys] s t) ∧
    (AcsOpen Cmd.METR_SEAL_CLOSE own args s → Completes (.metrSealClose own tag args) s fun t =>
      Answered Cmd.METR_SEAL_CLOSE tag Res.ok 0 (leBytes 8 s.dev.metr.metrSetCheck) s t ∧ t.dev.acs.sealOpen = false ∧
        (s.clk.mode = .factory → s.dev.keys.identity = 1 → t.dev.pow.factoryComplete = true) ∧
        t.dev.log.metrNow = s.dev.log.metrNow ++
          [.of Src.host Event.METR_SEAL_CLOSED (leBytes 8 s.dev.metr.metrSetCheck)] ∧
        OnlyChanges [.acs, .pow, .log] s t)

/-- Commands that start or end jobs (R89 to R92, R183, R215, R377, R399, R403, R424, R426): each that finds room answers
JOB with the new entry's id; JOB_CANCEL marks the owner's own job. -/
def Obligations.JobCommands : Prop :=
  ∀ (own : Owner) (tag : Nat) (args : List Byte) (s : State),
    (∀ j, AcsOpen Cmd.JOB_CANCEL own args s →
      s.dev.acs.jobs.find? (fun j => j.id = fieldAt args 0 2 && j.live) = some j → j.owner = ownerCode own →
      j.kind ≠ .signing → j.final = false → Completes (.jobCancel own tag args) s fun t =>
        Answered Cmd.JOB_CANCEL tag Res.ok 0 [] s t ∧
          t.dev.acs.jobs = (s.dev.acs.jobs.map fun k =>
            if k.id = fieldAt args 0 2 then { k with cancelling := true } else k) ∧ OnlyChanges [.acs, .pow] s t) ∧
    (AcsOpen Cmd.CALENDAR_ACTIVATE own args s → jobOf .calendar s.dev = none → jobRoom (ownerCode own) s.dev = true →
      Completes (.calendarActivate own tag args) s fun t =>
        JobStarted Cmd.CALENDAR_ACTIVATE tag .calendar own (fieldAt args 0 4) [] s t ∧ OnlyChanges [.acs, .pow] s t) ∧
    (AcsOpen Cmd.AUTH_SWAP own args s → s.dev.nfc.loadSt = 2 → s.dev.nfc.loadOwner = ownerCode own →
      s.dev.nfc.loadVersion = fieldAt args 0 4 → s.dev.nfc.loadBytes.length = 24 * s.dev.nfc.loadCount →
      jobRoom (ownerCode own) s.dev = true → (crc32 s.dev.nfc.loadBytes).toNat = fieldAt args 4 4 →
      Completes (.authSwap own tag args) s fun t =>
        JobStarted Cmd.AUTH_SWAP tag .authSwap own (fieldAt args 0 4) [] s t ∧
          t.dev.nfc = { s.dev.nfc with loadSt := 3 } ∧ OnlyChanges [.acs, .pow, .nfc] s t) ∧
    (AcsOpen Cmd.KEY_DERIVE own args s → fieldAt args 0 1 < 16 → slotKind (fieldAt args 0 1) = 1 →
      (keySlot s.dev (fieldAt args 0 1)).generation < fieldAt args 1 4 →
      ¬((fieldAt args 0 1 = 0 ∨ fieldAt args 0 1 = 2) ∧ s.clk.mode = .service ∧ s.dev.keys.identity = 1) →
      ¬(fieldAt args 0 1 = 1 ∧ recordKeyBusy s.dev = true) → jobRoom (ownerCode own) s.dev = true →
      Completes (.keyDerive own tag args) s fun t =>
        JobStarted Cmd.KEY_DERIVE tag .derive own (fieldAt args 0 1 + 256 * fieldAt args 1 4) [] s t ∧
          OnlyChanges [.acs, .pow] s t) ∧
    (AcsOpen Cmd.ATTEST own args s → attestJob s.dev = none → jobRoom (ownerCode own) s.dev = true →
      Completes (.attest own tag args) s fun t =>
        JobStarted Cmd.ATTEST tag .signing own 0 [] s t ∧
          t.dev.keys = { s.dev.keys with statement := attestStatement args s } ∧ OnlyChanges [.acs, .pow, .keys] s t) ∧
    (AcsOpen Cmd.IMAGE_STAGE own args s → fieldAt args 0 1 ≤ 5 → 0 < fieldAt args 1 4 → fieldAt args 1 4 ≤ 8388608 →
      partNamed (fieldAt args 0 1) s.dev = true → s.dev.upd.activation = none → s.dev.acs.bulk = none →
      verifyJob s.dev = none → jobRoom (ownerCode own) s.dev = true → Completes (.imageStage own tag args) s fun t =>
        JobStarted Cmd.IMAGE_STAGE tag .staging own (fieldAt args 0 1) (leBytes 2 t.dev.upd.chunks) s t ∧
          t.dev.acs.bulk =
            some ⟨.image, s.dev.acs.nextJob, t.dev.upd.chunks, false, fieldAt args 1 4, []⟩ ∧
          t.dev.upd.part = fieldAt args 0 1 ∧ t.dev.upd.stagedLen = fieldAt args 1 4 ∧
          OnlyChanges [.acs, .pow, .log, .upd, .dlms] s t) ∧
    (AcsOpen Cmd.IMAGE_VERIFY own args s → 2 ≤ s.dev.upd.st → s.dev.upd.staged ≠ [] → s.dev.upd.activation = none →
      verifyJob s.dev = none → jobRoom (ownerCode own) s.dev = true → Completes (.imageVerify own tag args) s fun t =>
        JobStarted Cmd.IMAGE_VERIFY tag .verify own 0 [] s t ∧ t.dev.upd = { s.dev.upd with st := 3 } ∧
          OnlyChanges [.acs, .pow, .upd] s t) ∧
    (AcsOpen Cmd.SCRUB_START own args s → 1 ≤ fieldAt args 0 1 → fieldAt args 0 1 ≤ 3 →
      jobRoom (ownerCode own) s.dev = true → Completes (.scrubStart own tag args) s fun t =>
        JobStarted Cmd.SCRUB_START tag .scrub own (fieldAt args 0 1) [] s t ∧
          t.dev.led = { s.dev.led with scrubFrame := s.clk.frame } ∧ OnlyChanges [.acs, .pow, .led] s t)

/-- The authorisation list, enrolment, tamper and activation (R376, R377, R406, R413, R427): a new version opens the load
bank to its owner, with its entries in the bulk window or in a head-end's own command; a lookup answers from the list active
in the frame; ENROL opens the bulk window for a token, or checks the one that a head-end's command brings; TAMPER_ACK clears
the latch of an inactive source; IMAGE_ACTIVATE starts the activation of the verified set. -/
def Obligations.KeyAndListCommands : Prop :=
  ∀ (own : Owner) (tag : Nat) (args : List Byte) (s : State),
    (AcsOpen Cmd.AUTH_LOAD own args s → s.dev.nfc.listVersion < fieldAt args 0 4 → fieldAt args 4 2 ≤ 8192 →
      s.dev.nfc.loadSt = 0 ∨ (s.dev.nfc.loadOwner = 1 ∧ s.dev.nfc.loadSt ≠ 3) → bulkTaken .auth s.dev = false →
      0 < fieldAt args 4 2 → own = .host →
      Completes (.authLoad own tag args) s fun t =>
        Answered Cmd.AUTH_LOAD tag Res.ok 0 [] s t ∧
          t.dev.nfc = { s.dev.nfc with loadSt := 1, loadVersion := fieldAt args 0 4, loadCount := fieldAt args 4 2
                                       loadOwner := 1, loadBytes := [] } ∧
          t.dev.acs.bulk = some ⟨.auth, s.dev.acs.slotNow, 0, false, 24 * fieldAt args 4 2, []⟩ ∧
          OnlyChanges [.acs, .pow, .nfc] s t) ∧
    (AcsOpen Cmd.AUTH_LOAD own args s → s.dev.nfc.listVersion < fieldAt args 0 4 → fieldAt args 4 2 = 0 →
      s.dev.nfc.loadSt = 0 ∨ (s.dev.nfc.loadOwner = 1 ∧ s.dev.nfc.loadSt ≠ 3) → bulkTaken .auth s.dev = false →
      own = .host → Completes (.authLoad own tag args) s fun t =>
        Answered Cmd.AUTH_LOAD tag Res.ok 0 [] s t ∧ t.dev.nfc.loadSt = 2 ∧ t.dev.nfc.loadVersion = fieldAt args 0 4 ∧
          t.dev.nfc.loadBytes = [] ∧ t.dev.acs.bulk = s.dev.acs.bulk ∧ OnlyChanges [.acs, .pow, .log, .nfc] s t) ∧
    (AcsOpen Cmd.AUTH_LOAD own args s → s.dev.nfc.listVersion < fieldAt args 0 4 → fieldAt args 4 2 ≤ 8192 →
      s.dev.nfc.loadSt = 0 ∨ (s.dev.nfc.loadOwner = ownerCode own ∧ s.dev.nfc.loadSt ≠ 3) → own ≠ .host → Completes (.authLoad own tag args) s fun t =>
        Answered Cmd.AUTH_LOAD tag Res.ok 0 [] s t ∧ t.dev.nfc.loadBytes = args.drop 6 ∧
          t.dev.nfc.loadSt = (if 24 * fieldAt args 4 2 ≤ (args.drop 6).length then 2 else 1) ∧
          t.dev.nfc.list = s.dev.nfc.list ∧ OnlyChanges [.acs, .pow, .log, .nfc] s t) ∧
    (∀ d, AcsOpen Cmd.AUTH_LOOKUP own args s → d = settleSwap s.clk.frame s.dev →
      Completes (.authLookup own tag args) s fun t =>
        Answered Cmd.AUTH_LOOKUP tag Res.ok 0
          (leBytes 1 (if ([1, 2, 3].findSome? fun k => findEntry d k args).isSome then 1 else 0) ++
            slice (([1, 2, 3].findSome? fun k => findEntry d k args).getD []) 0 24 ++
            leBytes 4 d.nfc.listVersion) s t ∧ t.dev.nfc = d.nfc ∧
          (s.dev.nfc.swapAt = none → t.dev.nfc = s.dev.nfc) ∧ OnlyChanges [.acs, .pow, .log, .nfc] s t) ∧
    (AcsOpen Cmd.ENROL own args s → own = .host → s.dev.keys.rootJob = none → s.dev.keys.checking = false →
      s.dev.acs.bulk = none → Completes (.enrol own tag args) s fun t =>
        Answered Cmd.ENROL tag Res.ok 0 [] s t ∧
          t.dev.keys = { s.dev.keys with enrolSt := 1, enrolResult := 0, token := [] } ∧
          t.dev.acs.bulk = some ⟨.enrol, s.dev.acs.slotNow, 0, false, 29984, []⟩ ∧
          OnlyChanges [.acs, .pow, .keys] s t) ∧
    (AcsOpen Cmd.ENROL own args s → own ≠ .host → s.dev.keys.rootJob = none → s.dev.keys.checking = false →
      jobRoom 0 s.dev = true → Completes (.enrol own tag args) s fun t =>
        Answered Cmd.ENROL tag Res.ok 0 [] s t ∧
          t.dev.keys = { s.dev.keys with enrolSt := 2, token := args, checking := true } ∧
          (∃ j ∈ t.dev.acs.jobs, j.id = s.dev.acs.nextJob ∧ j.kind = .derive ∧ j.st = 1) ∧
          OnlyChanges [.acs, .pow, .keys] s t) ∧
    (∀ k, AcsOpen Cmd.TAMPER_ACK own args s → fieldAt args 0 2 = k → 1 ≤ k → k ≤ 8 →
      s.dev.keys.active.getLsbD (k - 1) = false → Completes (.tamperAck own tag args) s fun t =>
        Answered Cmd.TAMPER_ACK tag Res.ok 0 [] s t ∧ CoreKept s t ∧
          t.dev.keys = { s.dev.keys with latched := s.dev.keys.latched &&& ~~~ (1#8 <<< (k - 1)) } ∧
          Logs Src.host Event.TAMPER_ACKED
            (leBytes 1 k ++ (s.dev.pow.login.map Login.identity).getD (List.replicate 16 0)) s t ∧
          OnlyChanges [.acs, .pow, .log, .keys] s t) ∧
    (AcsOpen Cmd.IMAGE_ACTIVATE own args s → activateFault s (fieldAt args 0 4) = none →
      Completes (.imageActivate own tag args) s fun t =>
        Answered Cmd.IMAGE_ACTIVATE tag Res.ok 0 [] s t ∧ t.dev.upd.st = 5 ∧
          t.dev.upd.activeSet = s.dev.upd.activeSet ∧
          (∃ a, t.dev.upd.activation = some a ∧ a.since = s.clk.frame ∧ a.target = inactiveSet s.dev ∧
            a.handed = false) ∧
          OnlyChanges [.lanes, .pow, .win, .acs, .log, .upd] s t)

/-- Operation (R135, R210, R223, R230, R252, R255, R305, R306, R320, R328, R331): each command, its own conditions met,
answers OK and has its effect, at once or for the next frame, and no other. -/
def Obligations.OperationCommands : Prop :=
  ∀ (own : Owner) (tag : Nat) (args : List Byte) (s : State),
    (AcsOpen Cmd.CLOCK_SET own args s → 757382400 ≤ fieldAt args 0 4 → Completes (.clockSet own tag args) s fun t =>
      Answered Cmd.CLOCK_SET tag Res.ok 0 (leBytes 1 ((t.dev.tar.nextStatus.map Prod.fst).getD t.dev.tar.status)) s t ∧
        t.dev.tar.load = some (fieldAt args 0 4, fieldAt args 4 1) ∧
        t.dev.tar.setCount = s.dev.tar.setCount + 1 ∧ t.dev.tar.rtc = s.dev.tar.rtc ∧
        t.dev.tar.lastStep = (fieldAt args 0 4 : Int) - rtcNext s.dev ∧ CoreKept s t ∧
        Logged Src.metr Event.CLOCK_STEPPED (leBytes 4 (rtcNext s.dev) ++ leBytes 4 (fieldAt args 0 4) ++
          leBytesInt 4 ((fieldAt args 0 4 : Int) - rtcNext s.dev) ++ leBytes 1 (fieldAt args 4 1)) t ∧
        OnlyChanges [.acs, .pow, .log, .tar] s t) ∧
    (AcsOpen Cmd.SYNC own args s → fieldAt args 0 1 ≤ 1 → Completes (.sync own tag args) s fun t =>
      Answered Cmd.SYNC tag Res.ok 0 (leBytes 1 (if s.dev.samp.syncPend.isSome then 1 else 0)) s t ∧ CoreKept s t ∧
        (s.dev.samp.syncPend = none →
          t.dev.samp = { s.dev.samp with
            syncs := addSync ⟨s.clk.frame, false, true, decide (fieldAt args 0 1 = 1)⟩ s.dev.samp.syncs }) ∧
        (∀ p, s.dev.samp.syncPend = some p →
          t.dev.samp = { s.dev.samp with
            syncPend := some (p.merge ⟨s.clk.frame, false, true, decide (fieldAt args 0 1 = 1)⟩) }) ∧
        OnlyChanges [.acs, .pow, .samp] s t) ∧
    (AcsOpen Cmd.BILLING_CLOSE own args s → Completes (.billingClose own tag args) s fun t =>
      Answered Cmd.BILLING_CLOSE tag Res.ok 0 (leBytes 1 (s.dev.tar.billCount % 24)) s t ∧ CoreKept s t ∧
        t.dev.tar = { s.dev.tar with billPending := some (if own = .host then 3 else 4, s.clk.frame) } ∧
        OnlyChanges [.acs, .pow, .tar] s t) ∧
    (AcsOpen Cmd.DISPLAY_STEP own args s → Completes (.displayStep own tag args) s fun t =>
      Answered Cmd.DISPLAY_STEP tag Res.ok 0 [] s t ∧ CoreKept s t ∧ t.dev.disp.manual = some s.clk.frame ∧
        t.dev.disp.lastStep = s.clk.frame ∧ OnlyChanges [.acs, .pow, .disp] s t) ∧
    (AcsOpen Cmd.REMOTE_START own args s → remoteStartBlocked s.dev = false → fieldAt args 0 1 = 1 →
      Completes (.remoteStart own tag args) s fun t =>
        Answered Cmd.REMOTE_START tag Res.ok 0 [] s t ∧ CoreKept s t ∧
          t.dev.ses.auth = some ⟨if s.dev.veh.contract = 4 ∧ s.dev.veh.emaid = args.drop 1 then 1
            else if s.dev.ses.request.any (fun r => decide (r.1 = args.drop 1)) then 3 else 4, args.drop 1,
            if s.dev.ses.isOpen then none else some (s.clk.frame + secs (s.dev.nat Param.REMOTE_START_WINDOW))⟩ ∧
          t.dev.ses.isOpen = s.dev.ses.isOpen ∧ OnlyChanges [.acs, .pow, .log, .led, .veh, .ses] s t) ∧
    (AcsOpen Cmd.REMOTE_STOP own args s → fieldAt args 0 1 = 1 → Completes (.remoteStop own tag args) s fun t =>
      Answered Cmd.REMOTE_STOP tag Res.ok 0 [if s.dev.ses.isOpen then 1 else 0] s t ∧
        (s.dev.ses.isOpen = false → OnlyChanges [.acs, .pow] s t) ∧
        (s.dev.ses.isOpen = true → s.dev.ses.stop = none → outletShut s.dev = true →
          t.dev.ses.stop = some (if own = .host then EndCause.host else EndCause.headEnd, s.clk.frame)) ∧
        (s.dev.ses.isOpen = true → s.dev.ses.stop = none → outletShut s.dev = false → enablesOn s.dev = false →
          s.dev.saf.openSt ≠ 1 → t.dev.ses.isOpen = false)) ∧
    (∀ step, AcsOpen Cmd.SAFETY_CONFIRM own args s → fieldAt args 0 8 = safetyCheckOf s.dev → fieldAt args 8 1 = step →
      step = 1 ∨ step = 2 ∧ confirmWindow s.clk.frame s.dev = true → Completes (.safetyConfirm own tag args) s fun t =>
        Answered Cmd.SAFETY_CONFIRM tag Res.ok 0 [] s t ∧ CoreKept s t ∧ t.dev.saf.confirmSt = step ∧
          (step = 1 → t.dev.saf = { s.dev.saf with confirmSt := 1, confirmFrame := s.clk.frame }) ∧
          (step = 2 → t.dev.saf.confirmed = safetyCheckOf s.dev ∧
            Logs Src.host Event.SAFETY_CONFIRMED (leBytes 8 (fieldAt args 0 8)) s t) ∧
          OnlyChanges [.acs, .pow, .log, .saf] s t) ∧
    (∀ step, AcsOpen Cmd.SAFETY_CONFIRM own args s → fieldAt args 8 1 = step → step = 1 ∨ step = 2 →
      (fieldAt args 0 8 ≠ safetyCheckOf s.dev → Completes (.safetyConfirm own tag args) s fun t =>
        Answered Cmd.SAFETY_CONFIRM tag Res.checkMismatch 0 [] s t ∧ t.dev.saf = { s.dev.saf with confirmSt := 0 } ∧
          OnlyChanges [.acs, .saf] s t) ∧
      (fieldAt args 0 8 = safetyCheckOf s.dev → step = 2 → confirmWindow s.clk.frame s.dev = false →
        Completes (.safetyConfirm own tag args) s fun t =>
          Answered Cmd.SAFETY_CONFIRM tag Res.checkMismatch 0 [] s t ∧ OnlyChanges [.acs] s t)) ∧
    (AcsOpen Cmd.SAFETY_PROOF_TEST own args s → 1 ≤ fieldAt args 0 1 → fieldAt args 0 1 ≤ 6 →
      outletShut s.dev = false → proofEnabled (fieldAt args 0 1) s.dev = true →
      Completes (.safetyProofTest own tag args) s fun t =>
        Answered Cmd.SAFETY_PROOF_TEST tag Res.ok 0 [0] s t ∧ CoreKept s t ∧
          (fieldAt args 0 1 ∈ t.dev.saf.proofs) ∧ OnlyChanges [.acs, .pow, .saf] s t) ∧
    (AcsOpen Cmd.SAFETY_PROOF_TEST own args s → 1 ≤ fieldAt args 0 1 → fieldAt args 0 1 ≤ 6 →
      (outletShut s.dev = true → Completes (.safetyProofTest own tag args) s
        (OnlyAnswers Cmd.SAFETY_PROOF_TEST tag [1] s)) ∧
      (outletShut s.dev = false → proofEnabled (fieldAt args 0 1) s.dev = false →
        Completes (.safetyProofTest own tag args) s (OnlyAnswers Cmd.SAFETY_PROOF_TEST tag [2] s))) ∧
    (AcsOpen Cmd.SWITCH_SET own args s → hswNumber (fieldAt args 0 1) = true → fieldAt args 1 1 ≤ 2 →
      fieldAt args 2 2 ≤ 4095 → Completes (.switchSet own tag args) s fun t =>
        Answered Cmd.SWITCH_SET tag Res.ok 0 [] s t ∧ CoreKept s t ∧
          t.dev.sw = (onHsw (fieldAt args 0 1)
            (fun h => { h with nextCmd := some (fieldAt args 1 1, fieldAt args 2 2) }) s.dev).sw ∧
          OnlyChanges [.acs, .pow, .sw] s t) ∧
    (AcsOpen Cmd.LATCH_CLEAR own args s → fieldAt args 0 1 = 9 ∨ hswNumber (fieldAt args 0 1) = true →
      Completes (.latchClear own tag args) s fun t =>
        Answered Cmd.LATCH_CLEAR tag Res.ok 0 [] s t ∧ CoreKept s t ∧
          (fieldAt args 0 1 = 9 → s.dev.sw.lockLatched = true → t.dev.sw = { s.dev.sw with lockClear := true }) ∧
          (hswNumber (fieldAt args 0 1) = true → (s.dev.sw.get (fieldAt args 0 1)).latched = true →
            t.dev.sw = (onHsw (fieldAt args 0 1) (fun h => { h with nextClear := true }) s.dev).sw) ∧
          (fieldAt args 0 1 = 9 → s.dev.sw.lockLatched = false → t.dev.sw = s.dev.sw) ∧
          (hswNumber (fieldAt args 0 1) = true → (s.dev.sw.get (fieldAt args 0 1)).latched = false → t.dev.sw = s.dev.sw) ∧
          OnlyChanges [.acs, .pow, .sw] s t) ∧
    (AcsOpen Cmd.LOCK_DRIVE own args s → s.dev.pow.starting = false → s.dev.sw.lockLatched = false →
      fieldAt args 0 1 ≤ 1 → lockBusy s.dev = false → Completes (.lockDrive own tag args) s fun t =>
        Answered Cmd.LOCK_DRIVE tag Res.ok 0 [] s t ∧ CoreKept s t ∧
          (s.dev.sw.lockSt = (if fieldAt args 0 1 = 1 then 2 else 1) → t.dev.sw = s.dev.sw) ∧
          (s.dev.sw.lockSt ≠ (if fieldAt args 0 1 = 1 then 2 else 1) → lockUsable s.dev = true →
            t.dev.sw = { s.dev.sw with nextDrive := some (decide (fieldAt args 0 1 = 1)) }) ∧
          OnlyChanges [.acs, .pow, .sw] s t)

/-- Jobs end (R91, R92, R215, R377, R399, R403, R409, R413, R426). A scrub is done, a cancelled job ends where JOB_CANCEL marked
it, a list swap whose entries are in order falls due at the next tick; the calendar is armed or rejected, and logged; a key
slot is written at the generation asked, or at 1 for the identity of an erased controller, every other slot staying; an
attestation is readable; an enrolment token is accepted or refused by its first failed check; an image set is verified or
rejected, the active set staying. -/
def Obligations.JobEnds : Prop :=
  ∀ (j : Job) (s : State), s.clk.running = true → LiveJob j s →
    (j.kind = .scrub → Completes (.jobEnded j.id .done) s fun t =>
      JobOver j 3 0 s t ∧ OnlyChanges [.acs, .log, .win] s t) ∧
    (∀ r, j.kind = .scrub ∨ j.kind = .staging → Completes (.jobEnded j.id (.failed r)) s fun t =>
      JobOver j 4 r s t ∧ OnlyChanges [.acs, .log, .win] s t) ∧
    (j.cancelling = true → Completes (.jobEnded j.id .cancelled) s fun t =>
      JobOver j 5 0 s t ∧ OnlyChanges [.acs, .log, .win] s t) ∧
    (j.kind = .authSwap → firstFault 0 [] (loadedEntries s.dev) = none →
      Completes (.jobEnded j.id .done) s fun t =>
        JobOver j 3 0 s t ∧ t.dev.nfc = { s.dev.nfc with swapAt := some (s.clk.frame + 1) } ∧
          OnlyChanges [.acs, .log, .win, .nfc] s t) ∧
    (jobOf .calendar s.dev = some j → Completes .calendarArmed s fun t =>
      (∀ off, calendarFault (s.dev.blk Param.PASSIVE_CALENDAR) = some off →
        JobOver j 4 Res.badParam s t ∧
          t.dev.tar = { s.dev.tar with passiveCheck := calendarCheck (s.dev.blk Param.PASSIVE_CALENDAR) } ∧
          Logged Src.metr Event.CALENDAR_REJECTED (leBytes 4 off) t) ∧
      (calendarFault (s.dev.blk Param.PASSIVE_CALENDAR) = none → JobOver j 3 0 s t ∧
        t.dev.tar = { s.dev.tar with armed := some (if j.arg = 0 then s.dev.tar.rtc else j.arg)
                                     passiveCheck := calendarCheck (s.dev.blk Param.PASSIVE_CALENDAR) } ∧
        Logged Src.metr Event.CALENDAR_ARMED (leBytes 4 (if j.arg = 0 then s.dev.tar.rtc else j.arg) ++
          leBytes 8 (calendarCheck (s.dev.blk Param.PASSIVE_CALENDAR))) t) ∧
      OnlyChanges [.acs, .log, .win, .tar] s t) ∧
    (∀ k, deriveJob k s.dev = some j → k < s.dev.keys.slots.length → k < 16 → Completes (.keyDerived k) s fun t =>
      JobOver j 3 0 s t ∧ (keySlot t.dev k).kind = 1 ∧ (keySlot t.dev k).generation = j.arg / 256 ∧
        (∀ i < 16, i ≠ k → keySlot t.dev i = keySlot s.dev i) ∧
        (k = 0 ∨ k = 2 → t.dev.keys.identity = (if s.dev.keys.cert.isSome then 3 else 0)) ∧
        OnlyChanges [.acs, .log, .win, .keys, .par] s t) ∧
    (∀ k, deriveJob k s.dev = none → s.dev.keys.rootJob = some j.id → k = 0 ∨ k = 2 → s.dev.keys.slots.length = 16 →
      (keySlot s.dev k).kind = 0 → Completes (.keyDerived k) s fun t =>
        (keySlot t.dev k).kind = 1 ∧ (keySlot t.dev k).generation = 1 ∧
          (∀ i < 16, i ≠ k → keySlot t.dev i = keySlot s.dev i) ∧
          ((keySlot s.dev (2 - k)).kind = 0 → t.dev.acs = s.dev.acs ∧ t.dev.keys.rootJob = some j.id) ∧
          ((keySlot s.dev (2 - k)).kind ≠ 0 → JobOver j 3 0 s t ∧ t.dev.keys.rootJob = none ∧
            t.dev.keys.request = enrolRequest t.dev) ∧
          OnlyChanges [.acs, .log, .win, .keys] s t) ∧
    (attestJob s.dev = some j → cryptoUp s.dev = true → Completes .attested s fun t =>
      JobOver j 3 0 s t ∧
        t.dev.keys = { s.dev.keys with
          attest := s.dev.keys.statement ++ slice (slotSign s.dev 0 s.dev.keys.statement) 0 29792 } ∧
        OnlyChanges [.acs, .log, .win, .keys] s t) ∧
    (s.dev.keys.checking = true → tokenJob s.dev = some j → Completes .enrolled s fun t =>
      t.dev.keys.checking = false ∧
        (∀ f, tokenFault s.dev s.dev.keys.token = some f → JobOver j 4 f.2 s t ∧
          t.dev.keys = { s.dev.keys with enrolSt := 4, enrolResult := f.2, checking := false } ∧
          t.dev.pow = s.dev.pow) ∧
        (tokenFault s.dev s.dev.keys.token = none → t.dev.keys.identity = 1 ∧
          t.dev.keys.cert = some s.dev.keys.token ∧ t.dev.keys.enrolSt = 3 ∧ t.dev.keys.erased = false ∧
          t.dev.keys.vault.enrolSeq = tokenSeq s.dev.keys.token ∧ JobOver j 3 0 s t ∧
          t.dev.pow.modeReqs = s.dev.pow.modeReqs ++
            ((tokenMode s.clk.mode s.dev.keys.token t.dev).map fun m =>
              (⟨m, .other, causeEvent Event.ENROLLED⟩ : ModeReq)).toList) ∧
        OnlyChanges [.acs, .log, .win, .keys, .par, .pow] s t) ∧
    (verifyJob s.dev = some j → ∀ r, (verifyStaged (ownerSrc j.owner) true s.dev).2 = r →
      Completes (.imageVerified true) s fun t =>
        JobOver j (if r = 0 then 3 else 4) r s t ∧ t.dev.upd.st = (if r = 0 then 4 else 7) ∧
          t.dev.upd.result = r ∧ t.dev.upd.activeSet = s.dev.upd.activeSet ∧ OnlyChanges [.acs, .log, .win, .upd] s t)

/-- Values and results come into force at their instant (R210, R306, R307, R376, R377): the RTC takes the time to be loaded; the
banks of the authorisation list swap whole, which is logged; a proof test's result is held and logged, and a failed test 5 is a
latched fault of the insulation monitor, with the outputs safe. -/
def Obligations.InstantRows : Prop :=
  (∀ (x : Nat) (src : Nat) (s : State), s.dev.tar.load = some (x, src) → Completes .rtcLoad s fun t =>
    t.dev.tar = { s.dev.tar with rtc := x, sub := 0, load := none, loaded := true, step := some s.dev.tar.lastStep } ∧
      OnlyChanges [.tar] s t) ∧
  (∀ (f : Nat) (s : State), s.dev.nfc.swapAt = some f → f ≤ s.clk.frame → Completes .authBankSwap s fun t =>
    t.dev.nfc = { s.dev.nfc with
      list := loadedEntries s.dev, listVersion := s.dev.nfc.loadVersion, loadSt := 0, loadBytes := [], swapAt := none } ∧
      Logs (if s.dev.nfc.loadOwner = 2 then Src.grid else Src.host) Event.AUTH_LIST_SWAPPED
        (leBytes 4 s.dev.nfc.listVersion ++ leBytes 4 s.dev.nfc.loadVersion ++ leBytes 8 s.clk.frame) s t ∧
      OnlyChanges [.nfc, .log] s t) ∧
  (∀ (k : Nat) (pass : Bool) (s : State), s.clk.running = true → k ∈ s.dev.saf.proofs → 1 ≤ k → k ≤ 6 →
    (k = 6 → ∀ x ∈ s.dev.saf.proofs, x = 6) → (k = 5 → pass = true) → Completes (.proofTestDone k pass) s fun t =>
      k ∉ t.dev.saf.proofs ∧ t.dev.saf.testPass.getLsbD (k - 1) = pass ∧ t.dev.saf.testFail.getLsbD (k - 1) = !pass ∧
        Logs Src.serge Event.PROOF_TEST_DONE (leBytes 1 k ++ leBytes 1 (if pass then 1 else 0)) s t ∧
        OnlyChanges [.saf, .log] s t) ∧
  (∀ s : State, s.clk.running = true → 5 ∈ s.dev.saf.proofs →
    Completes (.proofTestDone 5 false) s fun t =>
      t.dev.lanes.OutputsSafe ∧ t.dev.saf.testFail.getLsbD 4 = true ∧ t.dev.saf.trips.getLsbD 9 = true ∧
        (s.dev.saf.sFaults.getLsbD SBit.insulation = false → t.dev.pow.causes.getLsbD Cause.safetyLatch = true) ∧
        t.dev.saf.sFaults.getLsbD SBit.insulation = true ∧ Logged Src.serge Event.PROOF_TEST_DONE [5, 0] t)

/-- Rows that write one parameter (R113, R168, R322, R351, R463): each whose checks pass is answered OK, waits for the next
tick, and is logged, one of the test group as TEST_PARAM_SET as well. -/
def Obligations.RegisterWrites : Prop :=
  ∀ (own : Owner) (v : Nat) (s : State),
    (WriteOpen Param.CAL_ACC_CTRL v own s →
      Completes (.calAccCtrl own v) s (WriteQueued Param.CAL_ACC_CTRL v own s)) ∧
    (WriteOpen Param.SENSE_SEL v own s → Completes (.senseSel own v) s (WriteQueued Param.SENSE_SEL v own s)) ∧
    (WriteOpen Param.GPLC_STATE_RESET v own s →
      Completes (.gplcStateReset own v) s (WriteQueued Param.GPLC_STATE_RESET v own s)) ∧
    (WriteOpen Param.TEST_SLOT_STRETCH v own s →
      Completes (.testSlotStretch own v) s (TestQueued Param.TEST_SLOT_STRETCH v own s)) ∧
    (WriteOpen Param.TEST_MBOX_DELAY v own s →
      Completes (.testMboxDelay own v) s (TestQueued Param.TEST_MBOX_DELAY v own s)) ∧
    (WriteOpen Param.TEST_PORT_BUSY v own s →
      Completes (.testPortBusy own v) s (TestQueued Param.TEST_PORT_BUSY v own s)) ∧
    (WriteOpen Param.TEST_PORT_THROTTLE v own s →
      Completes (.testPortThrottle own v) s (TestQueued Param.TEST_PORT_THROTTLE v own s)) ∧
    (WriteOpen Param.TEST_GPLC_HOLD v own s →
      Completes (.testGplcHold own v) s (TestQueued Param.TEST_GPLC_HOLD v own s)) ∧
    (WriteOpen Param.TEST_COMMIT_DELAY v own s →
      Completes (.testCommitDelay own v) s (TestQueued Param.TEST_COMMIT_DELAY v own s)) ∧
    (WriteOpen Param.TEST_MISMATCH v own s →
      Completes (.testMismatch own v) s (TestQueued Param.TEST_MISMATCH v own s)) ∧
    (WriteOpen Param.TEST_WDT_WINDOW v own s →
      Completes (.testWdtWindow own v) s (TestQueued Param.TEST_WDT_WINDOW v own s))

/-- The test group and the self-tests (R458, R459, R462, R464 to R466): a committed token begins its checks in Factory; a
lane perturbation is logged before the lane fault that it makes, of the follow or of the lead, which passes the token; ten
minutes after a TEST_AUTH every test parameter is at its default; a self-test's bit is set when its last run failed, by the
fault condition of its rule for a test of every frame or period, and a change of the bit is logged. -/
def Obligations.TestRows : Prop :=
  (∀ s : State, s.clk.running = true → s.clk.mode = .factory → s.dev.acs.testToken ≠ [] → s.dev.keys.checking = false →
    s.dev.keys.rootJob = none → jobRoom 0 s.dev = true → Completes .testEnrolToken s fun t =>
      t.dev.keys = { s.dev.keys with token := s.dev.acs.testToken, enrolSt := 2, checking := true } ∧
        t.dev.acs.testToken = [] ∧ OnlyChanges [.acs, .keys] s t) ∧
  (∀ (p : Pert) (margin : Nat) (s : State), s.clk.running = true → s.dev.diag.pert = some p → p.first ≤ s.clk.frame →
    s.clk.frame < p.first + p.frames →
    (pertFault p margin s.dev = none → Completes (.testInjected margin) s fun t => t = injectLogged p s) ∧
    (∀ cause slot own, pertFault p margin s.dev = some (cause, slot, own) →
      (FaultableFollow p.lane s →
        Completes (.testInjected margin) s (FollowFaulted p.lane cause slot 0 (injectLogged p s))) ∧
      (FaultableLead p.lane s → Completes (.testInjected margin) s fun t =>
        (own = true → TokenAtOnce p.lane cause slot 0 (injectLogged p s) t) ∧
          (own = false → TokenNextTick p.lane cause slot 0 (injectLogged p s) t)))) ∧
  (∀ (f : Nat) (s : State), s.dev.diag.testFrom = some f → f + 4800000 ≤ s.clk.frame →
    Completes .testReverted s fun t =>
      TestsDefault t ∧ (∀ e ∈ t.dev.acs.nextTick, e.id / 256 ≠ 0x70) ∧ Logs Src.host Event.TEST_REVERTED [0] s t ∧
        OnlyChanges [.diag, .acs, .log] s t) ∧
  (∀ (k : Nat) (op pass : Bool) (detail : Nat) (s : State), s.clk.running = true → k < 19 → testUnit k s.dev = true →
    testElsewhere k = false → testPasses k op s.dev = pass → Completes (.selftestRun k op detail) s fun t =>
      (∀ i < 19, t.dev.diag.summary.getLsbD i = if i = k then !pass else s.dev.diag.summary.getLsbD i) ∧
        (pass = false → s.dev.diag.summary.getLsbD k = false →
          Logged (testSource k) Event.SELFTEST_FAILED (leBytes 1 k ++ leBytes 4 detail) t) ∧
        (pass = true → s.dev.diag.summary.getLsbD k = true →
          Logged (testSource k) Event.SELFTEST_PASSED (leBytes 1 k) t) ∧
        (s.dev.diag.summary.getLsbD k = (!pass) → k ≠ 6 → pass = true ∨ k ∉ [8, 10, 11, 12] → t.dev.log = s.dev.log) ∧
        t.dev.diag.last = s.dev.diag.last.set k (s.clk.frame, if pass then 0 else 1) ∧
        OnlyChanges [.diag, .log, .acs, .gplc, .nfc, .win] s t)

/-- Supervision of the channels (R127, R139, R147, R162): a failed activity check declares the channel faulty, counts and logs
it, and ends an outlet session whose billing channel it is; IRC takes path M with it and UGN trips protective-earth
continuity; so do the references of a start-up, in its first frame; 8,000 good frames restore it; an overrange episode opens
with the first OVER and closes after 8,000 frames without it; a single-cycle conversion of the three frames past gives
S × 32 ÷ 625, from the end of the first after the mode took effect. Every other channel stays. -/
def Obligations.ChannelRows : Prop :=
  ∀ (c : Nat) (x : Chan) (s : State), c < 18 → s.dev.samp.chans[c]? = some x →
    (∀ startup, x.faulty = false → (if startup = true then s.clk.running = true ∧ s.clk.frame = s.clk.startFrame
      else 8 ≤ x.badFrames) → Completes (.channelFault c startup) s fun t =>
      OnlyChannel c { x with faulty := true, inactive := !startup, goodFrames := 0, faultCount := x.faultCount + 1 } s t ∧
        Logged Src.metr Event.CHANNEL_FAULT (leBytes 1 c ++ leBytes 1 (if startup then 0 else 1)) t ∧
        (c = 14 → t.dev.saf.pathMLost = true) ∧ (c = 14 ∨ c = 3 → t.dev.lanes.OutputsSafe) ∧
        (c ≠ 3 → c ≠ 14 → (outletChans s.dev).contains c = true → t.dev.ses.isOpen = false) ∧
        (c ≠ 3 → c ≠ 14 → (outletChans s.dev).contains c = false ∨ s.dev.ses.isOpen = false →
          OnlyChanges [.samp, .log] s t) ∧ t.clk = s.clk ∧ t.regs = s.regs) ∧
    (x.faulty = true → 8000 ≤ x.goodFrames → Completes (.channelRestored c) s fun t =>
      OnlyChannel c { x with faulty := false, inactive := false } s t ∧ Logs Src.metr Event.CHANNEL_RESTORED (leBytes 1 c) s t ∧
        OnlyChanges [.samp, .log] s t) ∧
    (x.overBit = true → x.overOpen = false → Completes (.channelOverrange c) s fun t =>
      OnlyChannel c { x with overOpen := true, overCount := x.overCount + 1 } s t ∧
        Logs Src.metr Event.CHANNEL_OVERRANGE (leBytes 1 c ++ leBytesInt 4 x.sample.natAbs) s t ∧
        OnlyChanges [.samp, .log] s t) ∧
    (x.overOpen = true → 8000 ≤ x.overQuiet → Completes (.overrangeEnd c) s fun t =>
      OnlyChannel c { x with overOpen := false } s t ∧ OnlyChanges [.samp] s t) ∧
    (x.mode = 2 → unitOff s.dev c = false → s.clk.frame % 3 = 0 → x.modeAt + 3 < s.clk.frame →
      Completes (.scsConversionDone c) s fun t =>
        OnlyChannel c { x with scsResult := (64 * sinc3Of x.threeFrames + 625) / 1250 } s t ∧
          (c ≠ 17 → OnlyChanges [.samp] s t) ∧ OnlyChanges [.samp, .saf] s t)

/-- Syncs and converters (R135, R136, R137, R140, R142, R143, R144). An edge of the selected polarity decides a sync or
merges into the pending one; more than 20 edges in 100 ms make edges ignored until 100 ms have passed without one; at the tick of
frame d+3 every channel is reset and SYNC_DONE logged; a pending sync is decided again once nothing defers it; a committed
mode takes effect at a tick that is a multiple of 3. A pass of the auxiliary converter opens with the two references, of which
one outside its window makes every result invalid; a result stands at its input's place and the list advances. The pilot
sampler reports the median of a plateau, or SHORT of one under 20 µs. -/
def Obligations.SyncAndConverterRows : Prop :=
  (∀ (rising : Bool) (s : State), s.dev.samp.syncIgnoreUntil ≤ s.clk.frame →
    s.dev.num Param.SYNC_IN_MODE = (if rising then 1 else 2) → Completes (.syncInEdge rising) s fun t =>
      (s.dev.samp.syncPend = none → t.dev.samp = { s.dev.samp with
        syncs := addSync ⟨s.clk.frame, true, false, false⟩ s.dev.samp.syncs }) ∧
      (∀ p, s.dev.samp.syncPend = some p →
        t.dev.samp = { s.dev.samp with syncPend := some { p with fromPin := true } }) ∧
      OnlyChanges [.samp] s t) ∧
  (∀ (rising : Bool) (s : State), s.clk.frame < s.dev.samp.syncIgnoreUntil → Completes (.syncInEdge rising) s fun t =>
    t.dev.samp = { s.dev.samp with syncIgnoreUntil := s.clk.frame + 800 } ∧ OnlyChanges [.samp] s t) ∧
  (∀ (edges : Nat) (s : State), 20 < edges → Completes (.syncInChatter edges) s fun t =>
    t.dev.samp = { s.dev.samp with syncIgnoreUntil := s.clk.frame + 800 } ∧
      (s.dev.samp.syncIgnoreUntil ≤ s.clk.frame → Logs Src.serge Event.SYNC_IN_CHATTER [] s t) ∧
      (s.clk.frame < s.dev.samp.syncIgnoreUntil → t.dev.log = s.dev.log) ∧ OnlyChanges [.samp, .log] s t) ∧
  (∀ (r : SyncReq) (s : State), syncDue s.clk.frame s.dev = some r → Completes .syncReset s fun t =>
    t.dev.samp = { s.dev.samp with
      chans := s.dev.samp.chans.map Chan.reset
      syncs := s.dev.samp.syncs.filter fun x => decide (s.clk.frame < x.frame + 3)
      syncCount := s.dev.samp.syncCount + 1
      syncLast := s.clk.frame } ∧
      (∀ ch ∈ t.dev.samp.chans, ch.dec = {} ∧ ch.fill = 40) ∧
      Logs Src.serge Event.SYNC_DONE (leBytes 1 ((if r.fromPin then 1 else 0) + (if r.fromHost then 2 else 0)) ++
        leBytes 1 (if r.force then 1 else 0) ++ leBytes 8 s.clk.frame) s t ∧ OnlyChanges [.samp, .ses, .log] s t) ∧
  (∀ (p : SyncReq) (s : State), s.dev.samp.syncPend = some p → defers s.clk s.dev p.force = false →
    Completes .syncPendingRedecide s fun t =>
      t.dev.samp = { s.dev.samp with
        syncPend := none, syncs := addSync { p with frame := s.clk.frame } s.dev.samp.syncs } ∧
        OnlyChanges [.samp] s t) ∧
  (∀ (c k : Nat) (x : Chan) (s : State), s.dev.samp.chans[c]? = some x → x.changeAt = some k → k < s.clk.frame →
    s.clk.frame % 3 = 0 → Completes .channelModeEffect s fun t =>
      (s.dev.samp.chans.length = t.dev.samp.chans.length ∧ ∃ y, t.dev.samp.chans[c]? = some y ∧
        y.mode = (if uisoOwned s.dev c = true then x.mode else s.dev.nat (Param.CH_MODE + 16 * c)) ∧
        y.modeAt = s.clk.frame ∧ y.pga = s.dev.nat (Param.CH_PGA + 16 * c) ∧ y.changeAt = none ∧
        y.dec = {} ∧ y.fill = 40) ∧ OnlyChanges [.samp] s t) ∧
  (∀ (bits : BitVec 1536) (v : Int) (s : State), auxDue s.clk s.dev = true →
    v = (64 * sinc3Of bits + 625) / 1250 →
    (s.dev.samp.auxPos = 0 → Completes (.auxResult bits) s fun t =>
      t.dev.samp.ref1 = v ∧ t.dev.samp.auxPos = 1 ∧ t.dev.samp.auxAt = s.clk.frame ∧
        (v.natAbs ≤ 2500 → t.dev.samp.auxFaulty = s.dev.samp.auxFaulty ∧ t.dev.samp.aux = s.dev.samp.aux) ∧
        (2500 < v.natAbs → t.dev.samp.auxFaulty = true ∧ ∀ r ∈ t.dev.samp.aux, r.valid = false) ∧
        OnlyChanges [.samp, .log, .metr, .veh, .saf] s t) ∧
    (s.dev.samp.auxPos = 1 → Completes (.auxResult bits) s fun t =>
      t.dev.samp.ref2 = v ∧ t.dev.samp.auxPos = 2 ∧ t.dev.samp.auxAt = s.clk.frame ∧
        (s.dev.samp.ref1.natAbs ≤ 2500 → (v - 2000000).natAbs ≤ 4000 → t.dev.samp.auxFaulty = false) ∧
        (4000 < (v - 2000000).natAbs → t.dev.samp.auxFaulty = true ∧ ∀ r ∈ t.dev.samp.aux, r.valid = false) ∧
        OnlyChanges [.samp, .log, .metr, .veh, .saf] s t) ∧
    (∀ k j, s.dev.samp.auxPos = k + 2 → auxIndex (nth 0 s.dev.samp.scan k) = some j →
      Completes (.auxResult bits) s fun t =>
        t.dev.samp = { s.dev.samp with
          auxPos := if k + 1 < s.dev.samp.scan.length then k + 3 else 0
          auxAt := s.clk.frame
          aux := s.dev.samp.aux.set j ⟨v, s.clk.frame % 2 ^ 32, !s.dev.samp.auxFaulty⟩ } ∧
          OnlyChanges [.samp, .log, .metr, .veh, .saf] s t)) ∧
  (∀ (positive : Bool) (p : Plateau) (s : State), p.side = some positive →
    positive = true ∨ s.dev.veh.applied.pwm = true →
    (∀ a b c, p.conv = some (a, b, c) → 200 ≤ s.dev.veh.applied.plateau positive → Completes (.pilotPlateau p) s fun t =>
      t.dev.samp.pilot.short = false ∧ t.dev.samp.pilot.noPwm = (!s.dev.veh.applied.pwm) ∧
        (positive = true → t.dev.samp.pilot.posMv = max (min a b) (min (max a b) c) ∧ t.dev.samp.pilot.newPos = true ∧
          t.dev.samp.pilot.negMv = s.dev.samp.pilot.negMv) ∧
        (positive = false → t.dev.samp.pilot.negMv = max (min a b) (min (max a b) c) ∧ t.dev.samp.pilot.newNeg = true ∧
          t.dev.samp.pilot.posMv = s.dev.samp.pilot.posMv) ∧
        t.dev.samp = { s.dev.samp with pilot := t.dev.samp.pilot } ∧ OnlyChanges [.samp, .veh, .saf] s t) ∧
    (s.dev.veh.applied.plateau positive < 200 → Completes (.pilotPlateau p) s fun t =>
      t.dev.samp.pilot.short = true ∧ t.dev.samp.pilot.noPwm = (!s.dev.veh.applied.pwm) ∧
        t.dev.samp.pilot.posMv = s.dev.samp.pilot.posMv ∧ t.dev.samp.pilot.negMv = s.dev.samp.pilot.negMv ∧
        t.dev.samp = { s.dev.samp with pilot := t.dev.samp.pilot } ∧ OnlyChanges [.samp, .veh, .saf] s t))

/-- Metrology events (R162, R163, R175, R478): an episode opens once its criterion has held for its persistence and closes once
its end criterion has, each end logged with indicator, side, phase and extreme value, the close with its duration in frames;
reverse energy opens when export has grown by REVERSE_EVENT_E without authorised discharge and closes after 60 s without export
booked; an estimation that has lasted as long as it may becomes a measurement gap of its phase or of the DC outlet. -/
def Obligations.MeterEventRows : Prop :=
  (∀ s : State,
    (s.dev.metr.wrongSeq.isOpen = false → 50 ≤ s.dev.metr.wrongSeq.count → Completes .wrongSequence s fun t =>
      t.dev.metr = { s.dev.metr with wrongSeq := s.dev.metr.wrongSeq.opened s.clk.frame } ∧
        Logs Src.metr Event.WRONG_SEQUENCE (episodeBegin 0 0 s.dev.metr.wrongSeq) s t ∧ OnlyChanges [.metr, .log] s t) ∧
    (s.dev.metr.wrongSeq.isOpen = true → 50 ≤ s.dev.metr.wrongSeq.count → Completes .wrongSequence s fun t =>
      t.dev.metr = { s.dev.metr with wrongSeq := {} } ∧
        Logs Src.metr Event.WRONG_SEQUENCE (episodeClose 0 0 s.clk.frame s.dev.metr.wrongSeq) s t ∧
        OnlyChanges [.metr, .log] s t) ∧
    (s.dev.metr.missNeutral.isOpen = false → 25 ≤ s.dev.metr.missNeutral.count → Completes .missingNeutral s fun t =>
      t.dev.metr = { s.dev.metr with missNeutral := s.dev.metr.missNeutral.opened s.clk.frame } ∧
        Logs Src.metr Event.MISSING_NEUTRAL (episodeBegin 0 0 s.dev.metr.missNeutral) s t ∧
        OnlyChanges [.metr, .log] s t) ∧
    (s.dev.metr.missNeutral.isOpen = true → 50 ≤ s.dev.metr.missNeutral.count → Completes .missingNeutral s fun t =>
      t.dev.metr = { s.dev.metr with missNeutral := {} } ∧
        Logs Src.metr Event.MISSING_NEUTRAL (episodeClose 0 0 s.clk.frame s.dev.metr.missNeutral) s t ∧
        OnlyChanges [.metr, .log] s t) ∧
    (s.dev.metr.freqOut.isOpen = false → 10 ≤ s.dev.metr.freqOut.count → Completes .freqOutOfRange s fun t =>
      t.dev.metr = { s.dev.metr with freqOut := s.dev.metr.freqOut.opened s.clk.frame } ∧
        Logs Src.metr Event.FREQ_OUT_OF_RANGE (episodeBegin 0 0 s.dev.metr.freqOut) s t ∧
        OnlyChanges [.metr, .log] s t) ∧
    (s.dev.metr.freqOut.isOpen = true → 50 ≤ s.dev.metr.freqOut.count → Completes .freqOutOfRange s fun t =>
      t.dev.metr = { s.dev.metr with freqOut := {} } ∧
        Logs Src.metr Event.FREQ_OUT_OF_RANGE (episodeClose 0 0 s.clk.frame s.dev.metr.freqOut) s t ∧
        OnlyChanges [.metr, .log] s t)) ∧
  (∀ (side : Side) (ph : Nat) (y : Phase) (s : State), 1 ≤ ph → ph ≤ 3 →
    (s.dev.metr.side (sideCode side)).phases[ph - 1]? = some y →
    (y.sag.isOpen = false → 1 ≤ y.sag.count → Completes (.sag side ph) s fun t =>
      OnlyPhase side ph { y with sag := y.sag.opened s.clk.frame } s t ∧
        Logs Src.metr Event.SAG (episodeBegin (sideCode side) ph y.sag) s t ∧ OnlyChanges [.metr, .log] s t) ∧
    (y.sag.isOpen = true → 1 ≤ y.sag.count → Completes (.sag side ph) s fun t =>
      OnlyPhase side ph { y with sag := {} } s t ∧
        Logs Src.metr Event.SAG (episodeClose (sideCode side) ph s.clk.frame y.sag) s t ∧ OnlyChanges [.metr, .log] s t) ∧
    (y.swell.isOpen = false → 1 ≤ y.swell.count → Completes (.swell side ph) s fun t =>
      OnlyPhase side ph { y with swell := y.swell.opened s.clk.frame } s t ∧
        Logs Src.metr Event.SWELL (episodeBegin (sideCode side) ph y.swell) s t ∧ OnlyChanges [.metr, .log] s t) ∧
    (y.swell.isOpen = true → 1 ≤ y.swell.count → Completes (.swell side ph) s fun t =>
      OnlyPhase side ph { y with swell := {} } s t ∧
        Logs Src.metr Event.SWELL (episodeClose (sideCode side) ph s.clk.frame y.swell) s t ∧
        OnlyChanges [.metr, .log] s t) ∧
    (y.cwv.isOpen = false → 50 ≤ y.cwv.count → Completes (.currentWithoutVoltage side ph) s fun t =>
      OnlyPhase side ph { y with cwv := y.cwv.opened s.clk.frame } s t ∧
        Logs Src.metr Event.CURRENT_WITHOUT_VOLTAGE
          (episodeBegin (sideCode side) ph y.cwv ++ leBytesInt 4 (y.urms / 1000 : Nat)) s t ∧
        OnlyChanges [.metr, .log] s t) ∧
    (y.cwv.isOpen = true → 50 ≤ y.cwv.count → Completes (.currentWithoutVoltage side ph) s fun t =>
      OnlyPhase side ph { y with cwv := {} } s t ∧
        Logs Src.metr Event.CURRENT_WITHOUT_VOLTAGE
          (episodeClose (sideCode side) ph s.clk.frame y.cwv ++ leBytesInt 4 (y.urms / 1000 : Nat)) s t ∧
        OnlyChanges [.metr, .log] s t) ∧
    (∀ m, meterCode m = sideCode side → y.est.spent = true → y.est.gapped = false →
      Completes (.meterGap m ph) s fun t =>
        OnlyPhase side ph { y with est := { y.est with gapped := true } } s t ∧
          Logs Src.metr Event.METER_GAP (leBytes 1 (sideCode side) ++ leBytes 1 ph) s t ∧
          OnlyChanges [.metr, .log] s t)) ∧
  (∀ (ph : Nat) (s : State), s.dev.metr.dcs.est.spent = true → s.dev.metr.dcs.est.gapped = false →
    Completes (.meterGap .dc ph) s fun t =>
      t.dev.metr = { s.dev.metr with
        dcs := { s.dev.metr.dcs with est := { s.dev.metr.dcs.est with gapped := true } } } ∧
        Logs Src.metr Event.METER_GAP [2, 0] s t ∧ OnlyChanges [.metr, .log] s t) ∧
  (∀ (m : MeterSide) (e : Episode) (grown : Nat) (s : State), s.dev.metr.reverse[meterCode m]? = some e →
    grown = s.regs.total (exportFamily (meterCode m)) - nth 0 s.dev.metr.revRef (meterCode m) →
    (e.isOpen = false → reverseEvaluated s.dev (meterCode m) = true → dischargeAuthorised s.dev = false →
      s.dev.nat Param.REVERSE_EVENT_E * 2 ^ 32 ≤ grown → Completes (.reverseEnergy m) s fun t =>
        t.dev.metr.reverse = s.dev.metr.reverse.set (meterCode m)
          { isOpen := true, since := s.clk.frame, extreme := (grown / 2 ^ 32 : Nat) } ∧
          t.dev.metr = { s.dev.metr with reverse := t.dev.metr.reverse } ∧
          Logs Src.metr Event.REVERSE_ENERGY
            ([0] ++ leBytes 1 (meterCode m) ++ [0] ++ leBytesInt 8 (grown / 2 ^ 32 : Nat)) s t ∧
          OnlyChanges [.metr, .log] s t) ∧
    (e.isOpen = true → nth 0 s.dev.metr.revLast (meterCode m) + 480000 ≤ s.clk.frame →
      Completes (.reverseEnergy m) s fun t =>
        t.dev.metr = { s.dev.metr with
          reverse := s.dev.metr.reverse.set (meterCode m) {}
          revRef := s.dev.metr.revRef.set (meterCode m) (s.regs.total (exportFamily (meterCode m))) } ∧
          Logs Src.metr Event.REVERSE_ENERGY ([1] ++ leBytes 1 (meterCode m) ++ [0] ++ leBytesInt 8 e.extreme ++
            leBytes 4 (s.clk.frame - e.since)) s t ∧
          OnlyChanges [.metr, .log] s t))

/-- Cycles, pulses and calibration (R159, R160, R165, R168): a counted crossing closes its side's window and opens the
next, each untainted phase taking P and RMS of the window; a pulse with energy owed starts once its output is free and
ends after 8 × W frames; a calibration accumulation ends done or discarded. -/
def Obligations.CycleAndPulseRows : Prop :=
  (∀ (side : Side) (f : Nat) (s : State), (s.dev.metr.side (sideCode side)).pending = some f →
    Completes (.zeroCrossing side) s fun t =>
      (t.dev.metr.side (sideCode side)).pending = none ∧ (t.dev.metr.side (sideCode side)).windowOpen = true ∧
        (t.dev.metr.side (sideCode side)).crossings =
          (((s.clk.frame - 1) * 65536 + f) :: (s.dev.metr.side (sideCode side)).crossings).take 11 ∧
        (∀ k < 3, ∀ y, (s.dev.metr.side (sideCode side)).phases[k]? = some y →
          closedGood (s.dev.metr.side (sideCode side)).windowOpen y = true →
          ((t.dev.metr.side (sideCode side)).phases[k]?).map (fun z => (z.cp, z.urms, z.irms, z.valid)) =
            some (cdiv y.sumP y.sumW, isqrtRound (cdiv y.sumU2 y.sumW).toNat,
              isqrtRound (cdiv y.sumI2 y.sumW).toNat, true)) ∧
        OnlyChanges [.metr, .saf] s t) ∧
  (∀ (j : Nat) (s : State), pulseStartDue s j s.dev = true → s.dev.metr.pulses.length = 3 →
    Completes (.pulseStart j) s fun t =>
      (nth {} t.dev.metr.pulses j).level = true ∧ (nth {} t.dev.metr.pulses j).startAt = s.clk.frame ∧
        (nth {} t.dev.metr.pulses j).emitted = (nth {} s.dev.metr.pulses j).emitted + 1 ∧
        (nth {} t.dev.metr.pulses j).energy = (nth {} s.dev.metr.pulses j).energy ∧
        (∀ k < 3, k ≠ j → nth {} t.dev.metr.pulses k = nth {} s.dev.metr.pulses k) ∧
        OnlyChanges [.metr, .log] s t) ∧
  (∀ (j : Nat) (x : Pulse) (s : State), s.dev.metr.pulses[j]? = some x → x.level = true →
    x.startAt + 8 * s.dev.nat (Param.PULSE_WIDTH + 8 * j) ≤ s.clk.frame → Completes (.pulseEnd j) s fun t =>
      t.dev.metr = { s.dev.metr with
        pulses := s.dev.metr.pulses.set j { x with level := false, lastEnd := s.clk.frame } } ∧
        OnlyChanges [.metr] s t) ∧
  (∀ s : State, s.dev.metr.acc.state = 1 →
    s.dev.metr.acc.bad = true ∨ (s.dev.metr.acc.armed = true ∧ s.dev.metr.acc.n ≤ s.dev.metr.acc.cycles) →
    Completes .calAccDone s fun t =>
      t.dev.metr = { s.dev.metr with
        acc := { s.dev.metr.acc with state := if s.dev.metr.acc.bad then 3 else 2 } } ∧
        Logs Src.metr Event.CAL_ACC_DONE
          (leBytes 1 (if s.dev.metr.acc.bad then 3 else 2) ++ leBytes 4 s.dev.metr.acc.cycles) s t ∧
        OnlyChanges [.metr, .log] s t)

/-- Records, profiles, tariffs and billing (R183, R199, R201, R215 to R218, R220, R222, R223). The oldest pending record is
signed, with the frame, and every other record stays; the daily scrub starts as a job; a capture due appends one entry of three
totals with the clock's flags; a tariff change is decided for the next tick, inside 1 to 8; a demand interval closes at its
boundary, in sliding mode over the last sub-intervals, or with SHORT after a large step of the clock; a scheduled end
closes the period with cause 1 or 2, sets every maximum to 0 and leaves the totals; an armed calendar whose time has come is
active. -/
def Obligations.RecordAndTariffRows : Prop :=
  (∀ (r : Record) (s : State), s.clk.running = true → cryptoUp s.dev = true → (keySlot s.dev 1).kind ≠ 0 →
    pendingRecord s.dev = some r → Completes .recordSigned s fun t =>
      { r with signState := 2, signature := slice (slotSign s.dev 1 (slice r.body 0 0x3C0)) 0 7856
               body := splice (splice r.body 0x3E0 [2]) 0x3E8 (leBytes 8 s.clk.frame) } ∈ t.dev.led.records ∧
      t.dev.led.records.map Record.number = s.dev.led.records.map Record.number ∧
      t.dev.led.records.filter (fun x => x.number ≠ r.number) =
        s.dev.led.records.filter (fun x => x.number ≠ r.number) ∧
      Logged Src.own Event.RECORD_SIGNED (leBytes 4 r.number ++ leBytes 4 (s.clk.frame - r.endFrame)) t ∧
      (∀ j, s.dev.acs.jobs.find? (fun j => j.live && decide (j.kind = .signing) && decide (j.arg = r.number)) = some j →
        LiveJob j s → JobOver j 3 0 s t) ∧
      ((∀ j ∈ s.dev.acs.jobs, j.live = false ∨ j.kind ≠ .signing ∨ j.arg ≠ r.number) → OnlyChanges [.led, .log] s t) ∧
      OnlyChanges [.led, .log, .acs, .win] s t) ∧
  (∀ s : State, s.clk.running = true → s.dev.led.scrubFrame + 691200000 ≤ s.clk.frame → jobOf .scrub s.dev = none →
    jobRoom 0 s.dev = true → Completes .mramScrub s fun t =>
      t.dev.acs.jobs = makeRoom s.dev.acs.jobs ++
        [{ id := s.dev.acs.nextJob, st := 1, owner := 0, progress := 0, result := 0, kind := .scrub, arg := 3 }] ∧
      t.dev.led = { s.dev.led with scrubFrame := s.clk.frame } ∧ OnlyChanges [.acs, .led] s t) ∧
  (∀ (p : Nat) (x : Profile) (s : State), 1 ≤ p → s.dev.led.profiles[p - 1]? = some x →
    x.lastBoundary < lpBoundary s.dev (p - 1) s.dev.tar.rtc → Completes (.loadProfileCapture p) s fun t =>
      ((t.dev.led.profiles[p - 1]?).bind fun y => y.entries.head?).map
          (fun e => (e.time, e.tariff, e.status, e.values)) =
        some (lpBoundary s.dev (p - 1) s.dev.tar.rtc, s.regs.tariff,
          x.status ||| (if s.dev.tar.status = 1 then 1 else 0) ||| (if s.dev.tar.status = 2 then 2 else 0) |||
            (if lpBoundary s.dev (p - 1) s.dev.tar.rtc ≤ x.latest then 0x20 else 0),
          [s.regs.total (s.dev.nat (Param.LP1_SOURCES + 8 * (p - 1)) % 256) / 2 ^ 32,
           s.regs.total (s.dev.nat (Param.LP1_SOURCES + 8 * (p - 1)) / 256 % 256) / 2 ^ 32,
           s.regs.total (s.dev.nat (Param.LP1_SOURCES + 8 * (p - 1)) / 65536 % 256) / 2 ^ 32]) ∧
      (t.dev.led.profiles[p - 1]?).map (fun y => (y.entries.tail, y.written, y.lastBoundary, y.latest, y.status)) =
        some (x.entries.take 8639, x.written + 1, lpBoundary s.dev (p - 1) s.dev.tar.rtc,
          max (lpBoundary s.dev (p - 1) s.dev.tar.rtc) x.latest, 0) ∧
      (∀ k ≠ p - 1, t.dev.led.profiles[k]? = s.dev.led.profiles[k]?) ∧
      t.dev.led = { s.dev.led with profiles := t.dev.led.profiles } ∧ OnlyChanges [.led] s t) ∧
  (∀ s : State, tariffAt s.dev s.dev.tar.rtc ≠ s.dev.tar.nextTariff → Completes .tariffSwitched s fun t =>
    t.dev.tar = { s.dev.tar with
      nextTariff := tariffAt s.dev s.dev.tar.rtc, switchCount := s.dev.tar.switchCount + 1 } ∧
      1 ≤ t.dev.tar.nextTariff ∧ t.dev.tar.nextTariff ≤ 8 ∧
      Logs Src.metr Event.TARIFF_SWITCHED (leBytes 1 s.dev.tar.nextTariff ++ leBytes 1 t.dev.tar.nextTariff ++
        leBytes 8 s.clk.frame) s t ∧
      t.dev.led = { s.dev.led with due := s.dev.led.due ||| 2 } ∧ OnlyChanges [.tar, .log, .led] s t) ∧
  (∀ (j : Nat) (x : Demand) (grown : Nat) (s : State), j < 3 → s.dev.tar.demands[j]? = some x →
    grown = s.regs.total (s.dev.nat (Param.DEM_SOURCE + 8 * j)) - x.base →
    (bigStep s.dev = false → demandDue j s.dev = true → Completes (.demandIntervalClose j) s fun t =>
      (∀ k ≠ j, t.dev.tar.demands[k]? = s.dev.tar.demands[k]?) ∧ ∃ y, t.dev.tar.demands[j]? = some y ∧
        y.start = demandBoundary s.dev j s.dev.tar.rtc ∧ y.lastEnd = y.start ∧ y.short = false ∧
        y.base = s.regs.total (s.dev.nat (Param.DEM_SOURCE + 8 * j)) ∧
        (s.dev.num (Param.DEM_MODE + 8 * j) ≠ 1 → y.lastShort = x.short ∧
          y.last = demandOf grown (max 1 (s.dev.nat (Param.DEM_PERIOD + 8 * j)))) ∧
        (s.dev.num (Param.DEM_MODE + 8 * j) = 1 →
          y.subs = ((grown, x.short || false) :: x.subs).take (s.dev.nat (Param.DEM_SUBPERIODS + 8 * j)) ∧
          y.last = demandOf (y.subs.foldl (fun e z => e + z.1) 0) (max 1 (s.dev.nat (Param.DEM_PERIOD + 8 * j)))) ∧
        y.maxima = raiseMax (raiseMax x.maxima 0 y.last y.start) s.regs.tariff y.last y.start ∧
        (x.short = true → Logged Src.metr Event.DEMAND_SHORT
          (leBytes 1 (j + 1) ++ leBytes 4 x.start ++ leBytesInt 4 y.last) t) ∧
        t.dev.tar = { s.dev.tar with demands := t.dev.tar.demands } ∧
        t.dev.led = { s.dev.led with due := s.dev.led.due ||| 2 } ∧ OnlyChanges [.tar, .log, .led] s t) ∧
    (bigStep s.dev = true → Completes (.demandIntervalClose j) s fun t =>
      (∀ k ≠ j, t.dev.tar.demands[k]? = s.dev.tar.demands[k]?) ∧ ∃ y, t.dev.tar.demands[j]? = some y ∧
        y.start = s.dev.tar.rtc ∧ y.short = true ∧ y.lastShort = true ∧ OnlyChanges [.tar, .log, .led] s t)) ∧
  (∀ (e : Nat) (s : State), billingDue s.dev = some e → Completes .billingCloseScheduled s fun t =>
    (t.dev.tar.snaps.head?).map (fun x => (x.period, x.frame, x.endTime, x.startTime)) =
        some (s.dev.tar.billCount, s.clk.frame, e, s.dev.tar.billLast) ∧
      (∀ x, t.dev.tar.snaps.head? = some x → x.cause = (if s.dev.tar.step.any (fun k => decide (0 < k) &&
          decide ((s.dev.tar.rtc : Int) < e + k)) = true then 2 else 1) ∧
        Logged Src.metr Event.BILLING_CLOSED (leBytes 4 s.dev.tar.billCount ++ leBytes 1 x.cause ++
          leBytes 1 (s.dev.tar.billCount % 24) ++ leBytes 4 e) t) ∧
      t.dev.tar.snaps.tail = s.dev.tar.snaps.take 23 ∧ t.dev.tar.billCount = s.dev.tar.billCount + 1 ∧
      t.dev.tar.billLast = e ∧ t.dev.tar.billPending = none ∧
      (∀ y ∈ t.dev.tar.demands, ∀ m ∈ y.maxima, m = (0, 0)) ∧
      t.dev.led = { s.dev.led with due := s.dev.led.due ||| 2 } ∧ OnlyChanges [.tar, .log, .led] s t) ∧
  (∀ (k : Nat) (s : State), s.dev.tar.armed = some k → s.dev.tar.status ≠ 2 → k ≤ s.dev.tar.rtc →
    Completes .calendarActivated s fun t =>
      t.dev.tar = { s.dev.tar with
        active := s.dev.blk Param.PASSIVE_CALENDAR
        activeCheck := calendarCheck (s.dev.blk Param.PASSIVE_CALENDAR), armed := none } ∧
      Logs Src.metr Event.CALENDAR_ACTIVATED (leBytes 8 s.dev.tar.activeCheck ++ leBytes 8 t.dev.tar.activeCheck) s t ∧
      OnlyChanges [.tar, .log] s t)

/-- The clock's status and the display (R209, R211, R228, R230): a restarted RTC makes the clock INVALID, drift and age make
a VALID clock DOUBTFUL, each from the next tick; daylight saving follows the rule; the display advances after its
dwell, a short press steps it and stops the scrolling until the timeout, a press of 2 to 5 s shows the segment test; a press
over 30 s is stuck until its release; after more than 20 edges in 100 ms the button is ignored until it was stable for 100 ms. -/
def Obligations.ClockAndDisplayRows : Prop :=
  (∀ s : State, Completes .dstChanged s fun t =>
    t.dev.tar = { s.dev.tar with dst := dstAt s.dev s.dev.tar.rtc } ∧
      (s.dev.tar.dst ≠ dstAt s.dev s.dev.tar.rtc → Logs Src.metr Event.DST_CHANGED (leBytes 4 s.dev.tar.rtc) s t) ∧
      (s.dev.tar.dst = dstAt s.dev s.dev.tar.rtc → t = s) ∧ OnlyChanges [.tar, .log] s t) ∧
  (∀ s : State, statusNext s.dev ≠ 2 → Completes .clockInvalid s fun t =>
    t.dev.tar = { s.dev.tar with nextStatus := some (2, 0) } ∧
      Logs Src.metr Event.CLOCK_STATUS_CHANGED (leBytes 1 (statusNext s.dev) ++ [2, 0]) s t ∧
      OnlyChanges [.tar, .log] s t) ∧
  (∀ s : State, 60 ≤ s.dev.tar.driftCount → Completes .rtcDrift s fun t =>
    t.dev.tar = { s.dev.tar with
      driftLogged := true, nextStatus := if statusNext s.dev = 0 then some (1, 4) else s.dev.tar.nextStatus } ∧
      (s.dev.tar.driftLogged = false → Logged Src.metr Event.RTC_DRIFT (leBytesInt 4 s.dev.tar.rtcDev) t) ∧
      (statusNext s.dev = 0 → Logged Src.metr Event.CLOCK_STATUS_CHANGED [0, 1, 4] t) ∧
      OnlyChanges [.tar, .log] s t) ∧
  (∀ s : State, s.dev.tar.status = 0 → s.dev.nat Param.CLOCK_AGE_MAX ≠ 0 → statusNext s.dev ≠ 1 →
    s.dev.tar.headEndSet + s.dev.nat Param.CLOCK_AGE_MAX * 86400 ≤ s.dev.tar.rtc → Completes .clockAgeExpired s fun t =>
      t.dev.tar = { s.dev.tar with nextStatus := some (1, 5) } ∧
        Logs Src.metr Event.CLOCK_STATUS_CHANGED (leBytes 1 (statusNext s.dev) ++ [1, 5]) s t ∧
        OnlyChanges [.tar, .log] s t) ∧
  (∀ s : State, s.dev.disp.manual = none → s.dev.disp.since + secs (s.dev.nat Param.DISP_DWELL) ≤ s.clk.frame →
    Completes .displayDwell s fun t =>
      t.dev.disp = { s.dev.disp with
        item := if s.dev.disp.page + 1 < dispPages s.dev s.dev.disp.item then s.dev.disp.item
          else (s.dev.disp.item + 1) % dispItems s.dev
        page := if s.dev.disp.page + 1 < dispPages s.dev s.dev.disp.item then s.dev.disp.page + 1 else 0
        since := s.clk.frame, alt := 0 } ∧ OnlyChanges [.disp] s t) ∧
  (∀ (k : Nat) (s : State), s.dev.disp.manual = some k → k + secs (s.dev.nat Param.DISP_MANUAL_TIMEOUT) ≤ s.clk.frame →
    Completes .dispManualTimeout s fun t =>
      t.dev.disp = { s.dev.disp with manual := none, since := s.clk.frame } ∧ OnlyChanges [.disp] s t) ∧
  (∀ (k : Nat) (s : State), s.dev.disp.btnStuck = false → s.dev.disp.btnIgnoreUntil ≤ s.clk.frame →
    Completes (.dispBtnRelease k) s fun t =>
      (k < 160 ∨ 40000 < k → t = s) ∧
      (160 ≤ k → k < 16000 → t.dev.disp.manual = some s.clk.frame ∧ t.dev.disp.segTest = s.dev.disp.segTest ∧
        (s.dev.disp.lastStep ≠ s.clk.frame → t.dev.disp.since = s.clk.frame)) ∧
      (16000 ≤ k → k ≤ 40000 → t.dev.disp =
        { s.dev.disp with segTest := some (s.clk.frame + secs (s.dev.nat Param.DISP_DWELL)) }) ∧
      OnlyChanges [.disp] s t) ∧
  (∀ (k : Nat) (s : State), s.dev.disp.btnStuck = true → Completes (.dispBtnRelease k) s fun t =>
    t.dev.disp = { s.dev.disp with btnStuck := false } ∧ OnlyChanges [.disp] s t) ∧
  (∀ (k : Nat) (s : State), s.dev.disp.btnStuck = false → s.clk.frame < s.dev.disp.btnIgnoreUntil →
    Completes (.dispBtnRelease k) s fun t =>
      t.dev.disp = { s.dev.disp with btnIgnoreUntil := s.clk.frame + 800 } ∧ OnlyChanges [.disp] s t) ∧
  (∀ (frames : Nat) (s : State), s.dev.disp.btnStuck = false → 240000 < frames →
    Completes (.dispBtnStuck frames) s fun t =>
      t.dev.disp = { s.dev.disp with btnStuck := true } ∧ Logs Src.own Event.DISP_BTN_STUCK [] s t ∧
        OnlyChanges [.disp, .log] s t) ∧
  (∀ (edges : Nat) (s : State), 20 < edges → Completes (.dispBtnChatter edges) s fun t =>
    t.dev.disp = { s.dev.disp with btnIgnoreUntil := s.clk.frame + 800 } ∧
      (s.dev.disp.btnIgnoreUntil ≤ s.clk.frame → Logs Src.own Event.DISP_BTN_CHATTER [] s t) ∧
      (s.clk.frame < s.dev.disp.btnIgnoreUntil → t.dev.log = s.dev.log) ∧ OnlyChanges [.disp, .log] s t)

/-- The pilot, the cable and the link (R241 to R245): a state accepted after three plateaus is the vehicle's state, A ends
the session and a state that does not want energy opens the outlet; E and INVALID that last 1 s are a trip; a cable rating
accepted after two results enters the stack; beacons are counted; SLAC is answered with 10 sounds in 600 ms, matches, or fails
by sequence, attenuation or timeout; a lost link falls back to basic charging on AC and returns to SLAC on DC. -/
def Obligations.PilotAndLinkRows : Prop :=
  (∀ (st : PilotSt) (s : State), 3 ≤ s.dev.veh.candCount → s.dev.veh.cand = st → st ≠ s.dev.veh.st →
    Completes (.pilotStateAccepted st) s fun t =>
      t.dev.veh.st = st ∧ t.dev.veh.stAt = (if (s.dev.veh.st = .e ∨ s.dev.veh.st = .invalid) ∧ (st = .e ∨ st = .invalid)
        then s.dev.veh.stAt else s.clk.frame) ∧ t.dev.veh.stateCount = s.dev.veh.stateCount + 1 ∧
      Logged Src.vehicle Event.PILOT_STATE_ACCEPTED
        (leBytes 1 (pilotCode s.dev.veh.st) ++ leBytes 1 (pilotCode st) ++ leBytes 1 (waveCode s.dev.veh.applied)) t ∧
      (st = .a → t.dev.ses.isOpen = false ∧ t.dev.ses.startPending = false ∧ t.dev.saf.negBad = 0) ∧
      (s.dev.lanes.dispute = none → st ≠ .c → st ≠ .d → OutletOpened t) ∧
      (s.clk.mode ≠ .ready → st ≠ .a → t.dev.ses.isOpen = s.dev.ses.isOpen) ∧ t.clk = s.clk ∧ t.regs = s.regs ∧
      OnlyChanges [.lanes, .pow, .acs, .log, .metr, .led, .veh, .ses, .dc, .saf, .sw, .keys] s t) ∧
  (∀ s : State, s.dev.veh.st = .e ∨ s.dev.veh.st = .invalid → s.dev.veh.stAt + 8000 ≤ s.clk.frame →
    Completes .pilotETimeout s fun t => Tripped 7 false s t ∧
      OnlyChanges [.lanes, .pow, .acs, .log, .led, .veh, .ses, .dc, .saf, .keys] s t) ∧
  (∀ s : State, 2 ≤ s.dev.veh.cableCount → s.dev.veh.cableCand ≠ s.dev.veh.cable → Completes .cableChanged s fun t =>
    t.dev.veh.cable = s.dev.veh.cableCand ∧
      Logged Src.vehicle Event.CABLE_CHANGED (leBytes 4 s.dev.veh.ppRes ++ leBytes 4 s.dev.veh.cableCand) t ∧
      (s.dev.veh.cableCand = 0 → t.dev.ses.isOpen = false) ∧
      (s.dev.veh.cableCand = 0xFFFFFFFF → s.dev.ses.isOpen = true → s.dev.lanes.dispute = none → OutletOpened t) ∧
      OnlyChanges [.lanes, .pow, .acs, .log, .led, .veh, .ses, .dc, .saf, .keys] s t) ∧
  (∀ (answered : Bool) (s : State), s.dev.ses.isOpen = true → vehModemUp s.dev = true →
    s.dev.veh.beaconAt + 320 ≤ s.clk.frame → Completes (.beacon answered) s fun t =>
      t.dev.veh = { s.dev.veh with
        beaconAt := s.clk.frame, beaconMisses := if answered then 0 else s.dev.veh.beaconMisses + 1 } ∧
        OnlyChanges [.veh] s t) ∧
  (∀ s : State, s.dev.ses.isOpen = true → s.dev.veh.link = .slac → Committed s → Completes .slacParmReq s fun t =>
    t.dev.veh = { s.dev.veh with slac := .sounding, slacCnf := (10, 600) } ∧ OnlyChanges [.veh] s t) ∧
  (∀ (evccid : BitVec 48) (attenDb : Nat) (seqOk : Bool) (s : State), s.dev.ses.isOpen = true → s.dev.veh.link = .slac →
    s.dev.veh.slac = .sounding → Committed s → Completes (.slacMatched evccid attenDb seqOk) s fun t =>
      t.dev.veh.atten = attenDb ∧
      (seqOk = true → attenDb ≤ s.dev.nat Param.SLAC_ATTEN_MAX → t.dev.veh.link = .hlc ∧ t.dev.veh.slac = .matched ∧
        t.dev.veh.evccid = evccid ∧ t.dev.veh.beaconMisses = 0 ∧
        Logs Src.vehicle Event.SLAC_MATCHED (leBytes 8 evccid.toNat ++ leBytes 4 attenDb) s t) ∧
      (seqOk = true → s.dev.nat Param.SLAC_ATTEN_MAX < attenDb →
        t.dev.veh.slac = .failed ∧ t.dev.veh.link ≠ .hlc ∧ Logged Src.vehicle Event.SLAC_FAILED [1] t) ∧
      (seqOk = false →
        t.dev.veh.slac = .failed ∧ t.dev.veh.link ≠ .hlc ∧ Logged Src.vehicle Event.SLAC_FAILED [2] t) ∧
      OnlyChanges [.lanes, .log, .veh, .ses, .saf] s t) ∧
  (∀ s : State, s.dev.ses.isOpen = true → s.dev.veh.link = .slac → s.dev.veh.slac = .waiting →
    s.dev.veh.slacSince + secs (s.dev.nat Param.SLAC_INIT_TIMEOUT) ≤ s.clk.frame →
      Committed s → Completes .slacInitTimeout s fun t =>
      t.dev.veh.slac = .failed ∧
        t.dev.veh.link = (if s.dev.nat Param.OUTLET_KIND ≠ 1 ∧ s.dev.nat Param.HLC_FALLBACK = 1 then .basic else .off) ∧
        Logged Src.vehicle Event.SLAC_FAILED [0] t ∧ OnlyChanges [.lanes, .log, .veh, .ses, .saf] s t) ∧
  (∀ (c : LinkLoss) (s : State), linkLossDue s.clk.frame c s.dev = true → Completes (.vplcLinkLost c) s fun t =>
    t.dev.veh.v2g = false ∧ t.dev.veh.powerOn = false ∧ t.dev.veh.linkLost = s.dev.veh.linkLost + 1 ∧
      t.dev.veh.link = (if s.dev.nat Param.OUTLET_KIND = 1 then .slac else .basic) ∧
      (s.dev.nat Param.OUTLET_KIND = 1 → s.dev.lanes.outputs.getLsbD 1 = true →
        t.dev.dc.phase = 4 ∧ t.dev.dc.targetI = 0 ∧ t.dev.dc.rampStart = some s.clk.frame) ∧
      Logged Src.vehicle Event.VPLC_LINK_LOST
        (leBytes 1 (lossCode c) ++ [if s.dev.nat Param.OUTLET_KIND = 1 then 1 else 0]) t ∧
      OnlyChanges [.lanes, .log, .veh, .ses, .dc, .saf] s t)

/-- The V2G messages (R31, R246 to R249, R252, R253, R255, R258, R285): each is answered where the link and the session stand
for it, with its response code, and what it fixes is kept: the security and the protocol, payment and service, the contract's
validation, authorisation or refusal, the vehicle's maxima, and the start and the end of the energy transfer. Every answer
asks for the stop that an ordered stop needs. A message or a change of protocol state, whichever its link, leaves nothing in
a frame whose delta carries no commit marker (log entry 170). -/
def Obligations.V2gRequests : Prop :=
  (∀ (tls : Bool) (s : State), s.dev.ses.isOpen = true → s.dev.veh.link = .hlc →
    Committed s → Completes (.sdpRequest tls) s fun t =>
      t.dev.veh = { s.dev.veh with sdp := t.dev.veh.sdp, answer := t.dev.veh.answer } ∧
      (tls = true → t.dev.veh.sdp = if cryptoUp s.dev then some true else none) ∧
      (tls = false → t.dev.veh.sdp =
        if s.dev.nat Param.SDP_SECURITY = 1 ∨ s.dev.nat Param.OUTLET_KIND = 1 then some false else none) ∧
      VehAnswered (if t.dev.veh.sdp.isSome then .ok else .failed) true [if tls then 1 else 0] s t ∧
      OnlyChanges [.veh] s t) ∧
  (∀ (offered : List Proto) (tls : Bool) (s : State), s.dev.ses.isOpen = true → s.dev.veh.link = .hlc →
    s.dev.veh.sdp = some tls → Committed s → Completes (.supportedAppProtocol offered) s fun t =>
      (∀ p, chooseProto s.dev tls offered = some p →
        p ∈ offered ∧ t.dev.veh = { s.dev.veh with proto := some p, answer := t.dev.veh.answer } ∧
        VehAnswered .ok true [] s t ∧
        Logs Src.vehicle Event.PROTOCOL_SELECTED
          (leBytes 1 (protoCode (some p)) ++ leBytes 1 (if tls then 1 else 0)) s t) ∧
      (chooseProto s.dev tls offered = none → t.dev.veh.proto = none ∧ t.dev.veh.link ≠ .hlc ∧
        VehAnswered .noNegotiation true [] s t ∧ Logged Src.vehicle Event.SLAC_FAILED [2] t) ∧
      OnlyChanges [.lanes, .log, .veh, .ses, .saf] s t) ∧
  (∀ s : State, s.dev.ses.isOpen = true → s.dev.veh.link = .hlc → s.dev.veh.proto.isSome = true →
    Committed s → Completes .sessionSetup s fun t =>
      t.dev.veh = { s.dev.veh with
        v2g := true, pnc := false, bpt := false, powerOn := false, lastLoop := none
        contract := if s.dev.veh.contract = 4 then 4 else 0
        answer := t.dev.veh.answer } ∧ VehAnswered .ok true [] s t ∧ OnlyChanges [.veh] s t) ∧
  (∀ s : State, s.dev.veh.v2g = true → Committed s → Completes .serviceDiscovery s fun t =>
    t.dev.veh = { s.dev.veh with offered := t.dev.veh.offered, answer := t.dev.veh.answer } ∧
      t.dev.veh.offered = (if s.dev.ses.auth.isSome = true ∨ s.dev.veh.extOnly = true ∨ s.dev.veh.sdp ≠ some true ∨
        s.dev.veh.proto = some .din then 1 else s.dev.nat Param.PAYMENT_OPTIONS) ∧
      VehAnswered .ok true [t.dev.veh.offered] s t ∧ OnlyChanges [.veh] s t) ∧
  (∀ (pnc bpt : Bool) (s : State), s.dev.veh.v2g = true →
    Committed s → Completes (.paymentServiceSelection pnc bpt) s fun t =>
    t.dev.veh = { s.dev.veh with
      pnc := pnc && s.dev.veh.offered.testBit 1, bpt := t.dev.veh.bpt, answer := t.dev.veh.answer } ∧
      (t.dev.veh.bpt = true ↔ bpt = true ∧ s.dev.nat Param.BPT_ENABLE = 1 ∧ s.dev.veh.proto = some .iso20) ∧
      t.dev.ses = { s.dev.ses with flags := if t.dev.veh.bpt then s.dev.ses.flags ||| 0x200 else s.dev.ses.flags } ∧
      VehAnswered (if t.dev.veh.pnc = pnc ∧ t.dev.veh.bpt = bpt then .ok else .failed) true [] s t ∧
      OnlyChanges [.veh, .ses] s t) ∧
  (∀ (c : PncCheck) (emaid : List Byte) (s : State), s.dev.veh.v2g = true → s.dev.veh.pnc = true →
    s.dev.ses.auth = none → s.dev.veh.contract = 0 → Committed s → Completes (.authorizationReq c emaid) s fun t =>
      (c = .externalId → t.dev.veh = { s.dev.veh with answer := t.dev.veh.answer } ∧ VehAnswered .ok false [] s t ∧
        OnlyChanges [.veh] s t) ∧
      (c = .chainOk → s.dev.tar.status ≠ 2 → t.dev.veh = { s.dev.veh with
          contract := 1, contractSince := s.clk.frame, emaid := emaid, answer := t.dev.veh.answer } ∧
        VehAnswered .ok false [] s t ∧ OnlyChanges [.veh] s t) ∧
      (c ≠ .externalId → s.dev.tar.status = 2 →
        t.dev.veh.contract = 3 ∧ t.dev.veh.extOnly = true ∧ Logged Src.vehicle Event.PNC_REFUSED [2] t) ∧
      (c = .chainBad → s.dev.tar.status ≠ 2 → t.dev.veh.contract = 3 ∧ Logged Src.vehicle Event.PNC_REFUSED [0] t) ∧
      (c = .validityBad → s.dev.tar.status ≠ 2 → t.dev.veh.contract = 3 ∧ Logged Src.vehicle Event.PNC_REFUSED [1] t) ∧
      (s.dev.ses.heldCard = none → t.dev.ses = s.dev.ses ∧
        (t.dev.veh.contract = 3 → VehAnswered .failed true [] s t)) ∧
      (∀ id, s.dev.ses.heldCard = some id → t.dev.veh.contract = 3 →
        t.dev.ses.auth.map Auth.id = some id ∧ VehAnswered .ok true [] s t) ∧
      OnlyChanges [.log, .led, .veh, .ses] s t) ∧
  (∀ (c : PncCheck) (emaid : List Byte) (s : State), s.dev.veh.v2g = true →
    s.dev.veh.pnc = false ∨ s.dev.ses.auth.isSome = true ∨ s.dev.veh.contract ≠ 0 →
    Committed s → Completes (.authorizationReq c emaid) s fun t =>
      t.dev.veh = { s.dev.veh with answer := t.dev.veh.answer } ∧
        (s.dev.ses.auth.isSome = true → VehAnswered .ok true [] s t) ∧
        (s.dev.ses.auth = none → s.dev.veh.pnc = true → s.dev.veh.contract = 3 → VehAnswered .failed true [] s t) ∧
        (s.dev.ses.auth = none → s.dev.veh.pnc = false ∨ s.dev.veh.contract ≠ 3 → VehAnswered .ok false [] s t) ∧
        OnlyChanges [.veh] s t) ∧
  (∀ s : State, s.dev.ses.isOpen = true → s.dev.veh.contract = 1 → s.dev.ses.auth = none →
    Committed s → Completes .pncValidated s fun t =>
      (s.dev.nat Param.PNC_AUTH = 0 → t.dev.ses.auth = some ⟨1, s.dev.veh.emaid, none⟩ ∧ t.dev.veh.contract = 2) ∧
      (s.dev.nat Param.PNC_AUTH ≠ 0 → s.dev.win.hostPresent = true → t.dev.veh.contract = 4 ∧
        t.dev.veh.contractSince = s.clk.frame ∧ t.dev.ses.auth = none ∧
        Logs Src.vehicle Event.AUTH_REQUEST (leBytes 1 s.dev.veh.emaid.length ++ s.dev.veh.emaid) s t) ∧
      (s.dev.nat Param.PNC_AUTH ≠ 0 → s.dev.win.hostPresent = false → t.dev.veh.contract = 3 ∧
        Logged Src.vehicle Event.PNC_REFUSED [3] t) ∧ OnlyChanges [.log, .led, .veh, .ses] s t) ∧
  (∀ s : State, s.dev.veh.contract = 4 → s.dev.veh.contractSince + ms (s.dev.nat Param.PNC_HOST_TIMEOUT) ≤ s.clk.frame →
    Committed s → Completes .pncHostTimeout s fun t => t.dev.veh.contract = 3 ∧ t.dev.veh.extOnly = true ∧
      Logged Src.vehicle Event.PNC_REFUSED [3] t ∧ t.dev.ses.heldCard = none ∧
      OnlyChanges [.log, .led, .veh, .ses] s t) ∧
  (∀ (v i p : Nat) (s : State), s.dev.veh.v2g = true → Committed s → Completes (.chargeParameterDiscovery v i p) s fun t =>
    t.dev.veh.evMaxV = v ∧ t.dev.veh.evMaxI = i ∧ t.dev.veh.evMaxP = p ∧ t.dev.veh.evKnown = true ∧
      (s.dev.nat Param.OUTLET_KIND = 1 → t.dev.ses.limitDc ≤ i ∧ t.dev.ses.limitP ≤ p) ∧
      (s.dev.nat Param.OUTLET_KIND ≠ 1 → s.dev.veh.link = .hlc → t.dev.ses.limitDc ≤ i) ∧
      VehAnswered .ok true [] s t ∧ OnlyChanges [.lanes, .log, .veh, .ses, .saf] s t) ∧
  (∀ s : State, s.dev.ses.isOpen = true → s.dev.veh.link = .hlc → s.dev.veh.v2g = true →
    (s.dev.ses.auth.isSome = true → s.dev.ses.stop = none →
      s.dev.nat Param.OUTLET_KIND = 1 → s.dev.dc.phase = 2 → s.dev.dc.preReady = true →
      Committed s → Completes (.powerDeliveryReq true) s fun t =>
        t.dev.veh = { s.dev.veh with powerOn := true, lastLoop := some s.clk.frame, answer := t.dev.veh.answer } ∧
          t.dev.dc = { s.dev.dc with phase := 3 } ∧ t.dev.ses = { s.dev.ses with st := 4 } ∧
          VehAnswered .ok true [] s t ∧ OnlyChanges [.veh, .ses, .dc] s t) ∧
    (s.dev.ses.auth.isSome = true → s.dev.ses.stop = none → s.dev.nat Param.OUTLET_KIND ≠ 1 →
      Committed s → Completes (.powerDeliveryReq true) s fun t =>
        t.dev.veh = { s.dev.veh with powerOn := true, lastLoop := some s.clk.frame, answer := t.dev.veh.answer } ∧
          VehAnswered .ok true [] s t ∧ OnlyChanges [.veh] s t) ∧
    (s.dev.ses.auth = none ∨ s.dev.ses.stop.isSome = true ∨
      (s.dev.nat Param.OUTLET_KIND = 1 ∧ (s.dev.dc.phase ≠ 2 ∨ s.dev.dc.preReady = false)) →
      Committed s → Completes (.powerDeliveryReq true) s fun t =>
        t.dev.veh = { s.dev.veh with answer := t.dev.veh.answer } ∧ VehAnswered .failed true [] s t ∧
          OnlyChanges [.veh] s t) ∧
    (Committed s → Completes (.powerDeliveryReq false) s fun t =>
      t.dev.veh = { s.dev.veh with powerOn := false, lastLoop := none, answer := t.dev.veh.answer } ∧
        VehAnswered .ok true [] s t ∧
        (s.dev.lanes.outputs.getLsbD 1 = true → t.dev.dc.phase = 4 ∧ t.dev.dc.targetI = 0) ∧
        (s.dev.lanes.outputs.getLsbD 1 = false → t.dev.dc = s.dev.dc) ∧ OnlyChanges [.veh, .dc] s t)) ∧
  (∀ (v i : Int) (soc : Nat) (discharge : Bool) (s : State), s.dev.ses.isOpen = true → s.dev.veh.link = .hlc →
    s.dev.veh.powerOn = true → Committed s → Completes (.chargingLoopReq v i soc discharge) s fun t =>
      t.dev.veh.lastLoop = some s.clk.frame ∧ t.dev.veh.soc = soc ∧ VehAnswered .ok true (loopLimits t.dev) s t ∧
      (s.dev.dc.phase = 3 → t.dev.dc.targetV = v ∧
        (discharge = false → t.dev.dc.targetI ≤ t.dev.ses.limitDc ∧ t.dev.dc.targetI ≤ i.natAbs) ∧
        (discharge = true → s.dev.veh.bpt = false → t.dev.dc.targetI = 0) ∧
        (discharge = true → s.dev.veh.bpt = true → -(t.dev.ses.limitDis : Int) ≤ t.dev.dc.targetI)) ∧
      (s.dev.dc.phase ≠ 3 → t.dev.dc = s.dev.dc) ∧ OnlyChanges [.lanes, .log, .veh, .ses, .dc, .saf] s t) ∧
  (∀ s : State, s.dev.ses.isOpen = true → s.dev.veh.link = .hlc → s.dev.veh.v2g = true →
    Committed s → Completes .weldingDetectionReq s fun t =>
      t.dev.veh = { s.dev.veh with powerOn := false, lastLoop := none, answer := t.dev.veh.answer } ∧
        VehAnswered .ok true [udcMean s.dev] s t ∧ OnlyChanges [.veh] s t) ∧
  (∀ (c : Instr) (s : State), protocolRow c = true → ¬Committed s → Completes c s fun t => t = s)

/-- The DC transfer (R253, R261, R295): a cable check closes the DC enables, starts the insulation test and is answered
ongoing until two pairs have passed; pre-charge follows it with the vehicle's voltage and 2,000 mA, and is ready after 80 good
frames; outside these the answer is FAILED; a host half that is not fresh ramps the current down, and the enables open when
the current is low or 200 ms have passed. -/
def Obligations.DcTransferRows : Prop :=
  (∀ s : State, cableCheckDue s s.dev = true → s.dev.lanes.dispute = none →
    Committed s → Completes .cableCheckReq s fun t =>
    t.dev.lanes.outputs.getLsbD 1 = true ∧ t.dev.dc.phase = 1 ∧ t.dev.dc.targetI = 0 ∧
      t.dev.dc.targetV = (min s.dev.veh.evMaxV (hostWord s.dev 0x014) : Nat) ∧ t.dev.dc.preReady = false ∧
      t.dev.dc.stageLost = false ∧ t.dev.saf.isoAt = some s.clk.frame ∧ t.dev.saf.isoVal = none ∧
      t.dev.saf.isoPairs = 0 ∧ t.dev.saf.isoRes = none ∧ t.dev.ses = s.dev.ses ∧
      t.dev.veh.answer = some ⟨.ok, false, s.dev.ses.stop.isSome, false, [if s.dev.saf.isoWarned then 1 else 0]⟩ ∧
      OnlyChanges [.lanes, .veh, .dc, .saf] s t) ∧
  (∀ s : State, s.dev.ses.isOpen = true → s.dev.veh.link = .hlc → s.dev.veh.v2g = true → cableCheckDue s s.dev = false →
    Committed s → Completes .cableCheckReq s fun t =>
      (s.dev.dc.phase = 1 → VehAnswered .ok (decide (2 ≤ s.dev.saf.isoPairs)) [if s.dev.saf.isoWarned then 1 else 0] s t) ∧
        (s.dev.dc.phase ≠ 1 → VehAnswered .failed true [] s t) ∧
        t.dev.veh = { s.dev.veh with answer := t.dev.veh.answer } ∧ OnlyChanges [.veh] s t) ∧
  (∀ (v : Int) (s : State), s.dev.ses.isOpen = true → s.dev.veh.link = .hlc → s.dev.veh.v2g = true →
    (s.dev.lanes.outputs.getLsbD 1 = true → s.dev.dc.phase = 2 ∨ s.dev.dc.phase = 1 ∧ 2 ≤ s.dev.saf.isoPairs →
      Committed s → Completes (.preChargeReq v) s fun t =>
        t.dev.dc = { s.dev.dc with phase := 2, targetV := v, targetI := 2000 } ∧
          VehAnswered .ok s.dev.dc.preReady [udcMean s.dev] s t ∧ OnlyChanges [.veh, .dc] s t) ∧
    (s.dev.lanes.outputs.getLsbD 1 = false ∨ (s.dev.dc.phase ≠ 2 ∧ (s.dev.dc.phase ≠ 1 ∨ s.dev.saf.isoPairs < 2)) →
      Committed s → Completes (.preChargeReq v) s fun t =>
        VehAnswered .failed true [] s t ∧ OnlyChanges [.veh] s t)) ∧
  (∀ s : State, s.dev.dc.phase = 2 → 80 ≤ s.dev.dc.okCount → Completes .preChargeReady s fun t =>
    t.dev.dc = { s.dev.dc with preReady := true } ∧ OnlyChanges [.dc] s t) ∧
  (∀ s : State, stageTimeoutDue s.clk.frame s.dev = true → Completes .stageTimeout s fun t =>
    t.dev.dc = { s.dev.dc with
      phase := 4, targetI := 0, rampStart := some s.clk.frame, stopFlags := s.dev.dc.stopFlags ||| 2
      okCount := 0, stageLost := true } ∧
      t.dev.veh = { s.dev.veh with powerOn := false, lastLoop := none } ∧
      Logs Src.vehicle Event.STAGE_TIMEOUT [] s t ∧ OnlyChanges [.log, .veh, .dc] s t) ∧
  (∀ (f : Nat) (s : State), s.dev.lanes.outputs.getLsbD 1 = true → s.dev.dc.rampStart = some f →
    (idcMean s.dev).natAbs ≤ 5000 ∨ f + 1600 ≤ s.clk.frame → s.dev.lanes.dispute = none →
    Completes .dcEnablesOpen s fun t => OutletOpened t ∧ t.dev.dc.phase = 0 ∧ t.dev.dc.rampStart = none ∧
      t.dev.dc.targetI = 0 ∧ t.dev.saf.openSt = 1 ∧ t.dev.saf.openAt = s.clk.frame ∧
      (s.dev.ses.isOpen = true → t.dev.ses.st = 6) ∧ t.dev.ses.isOpen = s.dev.ses.isOpen ∧
      OnlyChanges [.lanes, .veh, .ses, .dc, .saf] s t)

/-- The session (R251 to R255, R258, R262, R299): an outlet with every condition met closes; waiting cards and unused
authorisations expire; a stop begins once, keeps its first cause, ramps a DC outlet down, and opens an AC outlet after
STOP_WAIT; a paused session resumes after 60 s of a good limit. -/
def Obligations.SessionRows : Prop :=
  (∀ s : State, closeDue s s.dev = true → s.dev.lanes.dispute = none → Completes .outletClose s fun t =>
    t.dev.lanes.outputs.getLsbD 0 = true ∧ t.dev.ses = { s.dev.ses with st := 4 } ∧
      t.dev.saf.closeAt = some s.clk.frame ∧ OnlyChanges [.lanes, .veh, .ses, .saf] s t) ∧
  (∀ s : State, stopWaitDue s.clk.frame s.dev = true → s.dev.lanes.dispute = none → Completes .stopWaitExpiry s fun t =>
    OutletOpened t ∧ t.dev.ses = { s.dev.ses with st := 6, pauseOpen := none } ∧ t.dev.saf.openSt = 1 ∧
      OnlyChanges [.lanes, .veh, .ses, .dc, .saf] s t) ∧
  (∀ (f : Nat) (s : State), s.dev.ses.isOpen = true → s.dev.ses.paused = true → s.dev.ses.limitOk = some f →
    f + 480000 ≤ s.clk.frame → Completes .sessionResume s fun t =>
      t.dev.ses = { s.dev.ses with paused := false, limitOk := none, pauseOpen := none, st := t.dev.ses.st } ∧
        (s.dev.ses.st ≠ 5 → t.dev.ses.st = s.dev.ses.st) ∧
        (s.dev.ses.st = 5 → t.dev.ses.st = if s.dev.lanes.outputs.getLsbD 0 then 4 else 3) ∧
        Logged Src.vehicle Event.SESSION_PAUSED ([1] ++ leBytes 1 s.dev.ses.binding) t ∧
        OnlyChanges [.lanes, .log, .veh, .ses, .saf] s t) ∧
  (∀ (x : List Byte) (f : Nat) (s : State), s.dev.ses.request = some (x, f) →
    f + ms (s.dev.nat Param.AUTH_HOST_TIMEOUT) ≤ s.clk.frame → Completes .cardRefused s fun t =>
      t.dev.ses = { s.dev.ses with request := none } ∧ Logs Src.card Event.CARD_REFUSED [] s t ∧
        OnlyChanges [.log, .ses] s t) ∧
  (∀ (a : Auth) (f : Nat) (s : State), s.dev.ses.isOpen = false → s.dev.ses.auth = some a → a.expiry = some f →
    f ≤ s.clk.frame → Completes .preauthExpired s fun t =>
      t.dev.ses = { s.dev.ses with auth := none, st := t.dev.ses.st } ∧ t.dev.ses.st ≠ 1 ∧
        Logs Src.vehicle Event.PREAUTH_EXPIRED [] s t ∧ OnlyChanges [.log, .ses] s t) ∧
  (∀ s : State, s.dev.veh.v2g = true → Committed s → Completes (.sessionStopReq false) s fun t =>
    t.dev.veh = { s.dev.veh with v2g := false, powerOn := false, lastLoop := none, answer := t.dev.veh.answer } ∧
      VehAnswered .ok true [] s t ∧ OnlyChanges [.veh] s t) ∧
  (∀ (c : Instr) (cause : Nat) (s : State),
    (c = .sessionStopReq true ∧ cause = EndCause.vehicle ∧ s.dev.veh.v2g = true ∧ Committed s) ∨
    (c = .hostGraceExpired ∧ cause = EndCause.grace ∧ graceDue s.clk.frame s.dev = true) ∨
    (c = .degradedLimitExpiry ∧ cause = EndCause.degraded ∧ degradedExpired s s.dev = true) →
    Completes c s fun t =>
      (∀ x, s.dev.ses.stop = some x → t.dev.ses = s.dev.ses) ∧
      (s.dev.ses.isOpen = true → s.dev.ses.stop = none → outletShut s.dev = true →
        t.dev.ses = { s.dev.ses with stop := some (cause, s.clk.frame) } ∧ t.dev.lanes = s.dev.lanes ∧
          (s.dev.lanes.outputs.getLsbD 1 = true → t.dev.dc.phase = 4 ∧ t.dev.dc.targetI = 0)) ∧
      (s.dev.ses.isOpen = true → s.dev.ses.stop = none → outletShut s.dev = false → s.dev.saf.openSt ≠ 1 →
        t.dev.ses.isOpen = false) ∧
      (s.dev.ses.isOpen = false → t.dev.ses = s.dev.ses) ∧ t.clk = s.clk ∧
      OnlyChanges [.lanes, .pow, .acs, .log, .led, .veh, .ses, .dc, .saf, .keys] s t)

/-- The duty in basic charging (R238), in 10⁻⁴, for a limit in mA: 5 for each 30 mA up to 51,000 mA, 6,400 and 5 for each
125 mA between that and 80,000 mA, 9,600 from there on, none below 6,000 mA; the current that a duty encodes, 6 mA or
25 mA above 6,400 for each step of 10⁻⁴, never exceeds the limit. While a basic session is offered energy the pilot
carries that duty of the applied limit, and without one it is steady; a limit below 6,000 mA, and no other, pauses an AC
session. -/
def Obligations.DutyEncodesLimit : Prop :=
  (∀ i : Nat,
    (i < 6000 → dutyOf i = none) ∧
    (6000 ≤ i → i ≤ 51000 → dutyOf i = some (5 * (i / 30))) ∧
    (51000 < i → i < 80000 → dutyOf i = some (6400 + 5 * (i / 125))) ∧
    (80000 ≤ i → dutyOf i = some 9600) ∧
    (∀ k, dutyOf i = some k → i < 80000 → k % 5 = 0 ∧ (if k ≤ 8500 then 6 * k else 25 * (k - 6400)) ≤ i) ∧
    (80000 ≤ i → 25 * (9600 - 6400) ≤ i)) ∧
  (∀ s : State, pilotMode s.clk.mode = true → s.clk.mode ≠ .ready → s.dev.pow.starting = false →
    s.dev.pow.st = .mains → s.dev.ses.isOpen = true → s.dev.veh.link = .basic →
    s.dev.ses.st = 3 ∨ s.dev.ses.st = 4 ∨ s.dev.ses.st = 6 → s.dev.ses.stop = none → s.dev.ses.paused = false →
    cableValid s.dev = true →
    waveOf s.clk s.dev = (match dutyOf (appliedLimit s.dev) with
      | some k => .duty k
      | none => .steady)) ∧
  (∀ s : State, s.dev.ses.isOpen = true → dcKind s.dev = false → 3 ≤ s.dev.ses.st → s.dev.ses.st ≤ 6 →
    s.dev.ses.paused = false →
    (appliedLimit s.dev < 6000 → (pauseStep s s.dev).ses.paused = true) ∧
    (6000 ≤ appliedLimit s.dev → pauseStep s s.dev = s.dev))

/-- Trips (R275, R277 to R279, R288 to R290, R292 to R294): each row whose condition holds trips its function, class S for a
lost path M, a latched emergency stop, the pilot's reference, read-back and SHORT, and a faulty UGN, class H otherwise;
and it leaves its own mark: a comparator that was beyond comes back only 10 mV inside its threshold, and an input chatters at
more than 20 edges. An input accepted high trips nothing. -/
def Obligations.TripRows : Prop :=
  (∀ (k mv : Nat) (s : State), 1 ≤ k → k ≤ 4 → ftEnabled s.dev (k - 1) = true → ftBeyond s.clk.frame s.dev (k - 1) mv = true →
    Completes (.fastTrip k mv) s fun t => Tripped 1 false s t ∧
      t.dev.saf.ftLast = s.dev.saf.ftLast.set (k - 1) (some s.clk.frame) ∧
      OnlyChanges [.lanes, .pow, .acs, .log, .led, .veh, .ses, .dc, .saf, .keys] s t) ∧
  (∀ s : State, 8 ≤ s.dev.saf.fluxBad → s.dev.saf.pathMLost = false → Completes .fluxgateDriveFault s fun t =>
    Tripped 2 true s t ∧ t.dev.saf.pathMLost = true ∧ t.dev.saf.pathSLost = true ∧
      OnlyChanges [.lanes, .pow, .acs, .log, .led, .veh, .ses, .dc, .saf, .keys] s t) ∧
  (∀ (r : ResTier) (s : State), rcTierDue s.dev (tierIndex r) = true → Completes (.residualTierTrip r) s fun t =>
    Tripped 2 false s t ∧ OnlyChanges [.lanes, .pow, .acs, .log, .led, .veh, .ses, .dc, .saf, .keys] s t) ∧
  (∀ (ma : Nat) (s : State), s.dev.nat Param.RC_PEAK_THR < ma → s.dev.saf.rcTestDue = false →
    s.dev.saf.pathSLost = false → Completes (.rcPeakTrip ma) s fun t =>
      Tripped 2 false s t ∧ OnlyChanges [.lanes, .pow, .acs, .log, .led, .veh, .ses, .dc, .saf, .keys] s t) ∧
  (∀ (i : SafeIn) (s : State), dualEnabled s.dev (safeInDoor i) = true → (s.dev.saf.chan i).level = true →
    Completes (.safetyInputTrip i) s fun t =>
      Tripped (if safeInDoor i then 5 else 4) (!safeInDoor i && decide (s.dev.nat Param.ESTOP_LATCH = 1)) s t ∧
        (t.dev.saf.chan i).level = false ∧
        OnlyChanges [.lanes, .pow, .acs, .log, .led, .veh, .ses, .dc, .saf, .keys] s t) ∧
  (∀ (i : SafeIn) (s : State), (s.dev.saf.chan i).level = false → Completes (.safetyInputHighAccepted i) s fun t =>
    (t.dev.saf.chan i).level = true ∧ (∀ j ∈ [SafeIn.estopA, .estopB, .doorA, .doorB], j ≠ i →
      t.dev.saf.chan j = s.dev.saf.chan j) ∧ t.dev.saf.trips = s.dev.saf.trips ∧ OnlyChanges [.saf] s t) ∧
  (∀ (door : Bool) (s : State), discDue door s.dev = true → Completes (.discrepancy door) s fun t =>
    Tripped (if door then 5 else 4) false s t ∧
      (if door then t.dev.saf.discLatD else t.dev.saf.discLatE) = true ∧
      Logged Src.serge Event.DISCREPANCY ([if door then 5 else 4] ++
        leBytes 1 (if door then s.dev.saf.lowFirstD else s.dev.saf.lowFirstE)) t ∧
      OnlyChanges [.lanes, .pow, .acs, .log, .led, .veh, .ses, .dc, .saf, .keys] s t) ∧
  (∀ (i : SafeIn) (edges : Nat) (s : State), 20 < edges → dualEnabled s.dev (safeInDoor i) = true →
    (s.dev.saf.chan i).chatter = false → Completes (.chatter i edges) s fun t => Tripped (if safeInDoor i then 5 else 4) false s t ∧
      (t.dev.saf.chan i).chatter = true ∧ (t.dev.saf.chan i).stable = 0 ∧
      Logged Src.serge Event.CHATTER (leBytes 1 (safeInCode i)) t ∧
      OnlyChanges [.lanes, .pow, .acs, .log, .led, .veh, .ses, .dc, .saf, .keys] s t) ∧
  (∀ s : State, otDue s.dev = true → Completes .overTemperatureTrip s fun t => Tripped 6 false s t ∧
    OnlyChanges [.lanes, .pow, .acs, .log, .led, .veh, .ses, .dc, .saf, .keys] s t) ∧
  (∀ s : State, 3 ≤ s.dev.saf.negBad → Completes .pilotIntegrityTrip s fun t => Tripped 7 false s t ∧
    OnlyChanges [.lanes, .pow, .acs, .log, .led, .veh, .ses, .dc, .saf, .keys] s t) ∧
  (∀ s : State, s.dev.saf.negBad < 3 → pilotELong s.clk.frame s.dev = false →
    2 ≤ s.dev.saf.refBad ∨ 3 ≤ s.dev.saf.backBad ∨ 3 ≤ s.dev.saf.shortBad →
    Completes .pilotIntegrityTrip s fun t => Tripped 7 true s t ∧
      t.dev.saf.sFaults.getLsbD SBit.pilot = true ∧
      OnlyChanges [.lanes, .pow, .acs, .log, .led, .veh, .ses, .dc, .saf, .keys] s t) ∧
  (∀ s : State, 10 ≤ s.dev.saf.peCycles → Completes .peContinuityTrip s fun t => Tripped 8 false s t ∧
    OnlyChanges [.lanes, .pow, .acs, .log, .led, .veh, .ses, .dc, .saf, .keys] s t) ∧
  (∀ s : State, s.dev.saf.peCycles < 10 → (s.dev.chan 3).faulty = true → Completes .peContinuityTrip s fun t =>
    Tripped 8 true s t ∧ OnlyChanges [.lanes, .pow, .acs, .log, .led, .veh, .ses, .dc, .saf, .keys] s t)

/-- Tests of the safety functions (R276, R280, R282, R283, R287, R295, R299): a test that passes leaves its result and trips
nothing; a comparator, path M, a further quad switch, an input that fails two pulses in turn, and an insulation
value below its threshold or without meaning trip their function; a lost path S is a fault of the Degraded kind. The kind of a
failed proof and the pairs of the insulation monitor are the model's (log entries 158 and 168). -/
def Obligations.SafetyTestRows : Prop :=
  (∀ (failed : BitVec 4) (s : State), testDue s s.dev.saf.ftTestDue s.dev.saf.ftTestAt dayFrames 1 s.dev = true →
    ((∀ k < 4, failed.getLsbD k = false ∨ ftEnabled s.dev k = false) → Completes (.ftComparatorTest failed) s fun t =>
      t.dev.saf = { s.dev.saf with
        ftTestDue := false, ftTestAt := s.clk.frame, ftFailed := 0
        testPass := s.dev.saf.testPass ||| 1, testFail := s.dev.saf.testFail &&& 0xFE } ∧
        t.dev.diag.summary.getLsbD 13 = false ∧ OnlyChanges [.saf, .diag, .log] s t) ∧
    (∀ k < 4, failed.getLsbD k = true → ftEnabled s.dev k = true → Completes (.ftComparatorTest failed) s fun t =>
      Tripped 1 true s t ∧ t.dev.saf.ftFailed.getLsbD k = true ∧ t.dev.saf.testFail.getLsbD 0 = true ∧
        Logged Src.serge Event.FT_TEST_FAILED (leBytes 1 (k + 1)) t ∧ t.dev.diag.summary.getLsbD 13 = true ∧
        OnlyChanges [.lanes, .pow, .acs, .log, .led, .veh, .ses, .dc, .saf, .keys, .diag] s t)) ∧
  (∀ (m160 m40 : Int) (peak okM : Bool) (s : State),
    testDue s s.dev.saf.rcTestDue s.dev.saf.rcTestAt 28800000 2 s.dev = true →
    (okM = true ↔ 6800 ≤ m160 ∧ m160 ≤ 9200 ∧ 255000 ≤ m40 ∧ m40 ≤ 345000 ∧ s.dev.saf.fluxBad < 8 ∧
      (s.dev.chan 14).faulty = false) →
    (okM = true → peak = true → Completes (.rcTest m160 m40 peak) s fun t =>
      t.dev.saf = { s.dev.saf with
        rcTestDue := false, rcTestAt := s.clk.frame, rcHold := [0, 0, 0, 0], pathMLost := false, pathSLost := false
        testPass := s.dev.saf.testPass ||| 2, testFail := s.dev.saf.testFail &&& 0xFD } ∧
        Logged Src.serge Event.RC_TEST_DONE (leBytesInt 4 m160 ++ leBytesInt 4 m40 ++ [0]) t ∧
        OnlyChanges [.saf, .diag, .log] s t) ∧
    (okM = false → Completes (.rcTest m160 m40 peak) s fun t =>
      Tripped 2 true s t ∧ t.dev.saf.pathMLost = true ∧ t.dev.saf.testFail.getLsbD 1 = true ∧
        Logged Src.serge Event.RC_TEST_DONE (leBytesInt 4 m160 ++ leBytesInt 4 m40 ++ [1]) t ∧
        OnlyChanges [.lanes, .pow, .acs, .log, .led, .veh, .ses, .dc, .saf, .keys, .diag] s t) ∧
    (okM = true → peak = false → Completes (.rcTest m160 m40 peak) s fun t =>
      t.dev.saf.pathSLost = true ∧ t.dev.saf.sFaults.getLsbD SBit.pathS = true ∧ t.dev.saf.trips = s.dev.saf.trips ∧
        t.dev.saf.testFail.getLsbD 1 = true ∧
        Logged Src.serge Event.RC_TEST_DONE (leBytesInt 4 m160 ++ leBytesInt 4 m40 ++ [2]) t ∧
        DegradedKind Event.RC_TEST_DONE Cause.safetyLatch s t ∧
        OnlyChanges [.lanes, .pow, .acs, .log, .led, .veh, .ses, .dc, .saf, .keys, .diag] s t)) ∧
  (∀ (q : QuadSw) (k : Nat) (m : ProofMeas) (s : State), proofDue s s.dev = true →
    nextQuad s.dev.saf.quads s.dev.saf.quadNext = k → s.dev.saf.quads[k]? = some q →
    (proofPass s.dev k m = true → Completes (.quadProofPulse m) s fun t =>
      t.dev.saf = { s.dev.saf with
        quads := s.dev.saf.quads.set k { q with missed := 0 }, quadNext := (k + 1) % 8, proofAt := some s.clk.frame } ∧
        OnlyChanges [.saf, .diag, .log] s t) ∧
    (proofPass s.dev k m = false → (∀ x ∈ s.dev.saf.quads, x.failed = 0) → q.missed = 0 →
      Completes (.quadProofPulse m) s fun t =>
        t.dev.saf = { s.dev.saf with
          quads := s.dev.saf.quads.set k { q with missed := 1 }, quadNext := (k + 1) % 8, proofAt := some s.clk.frame } ∧
        Logs Src.serge Event.QUAD_PROOF_MISSED (leBytes 1 (k + 1)) s t ∧ OnlyChanges [.saf, .log] s t) ∧
    (proofPass s.dev k m = false → (∀ x ∈ s.dev.saf.quads, x.failed = 0) → q.missed ≠ 0 →
      Completes (.quadProofPulse m) s fun t =>
        t.dev.saf = { s.dev.saf with
          quads := s.dev.saf.quads.set k { q with missed := 0, failed := if proofShort s.dev k m then 2 else 1 }
          quadNext := (k + 1) % 8, proofAt := some s.clk.frame } ∧
        Logged Src.serge Event.SWITCH_FAILED (leBytes 1 (k + 1) ++ [if proofShort s.dev k m then 2 else 1]) t ∧
        OnlyChanges [.saf, .diag, .log] s t) ∧
    (proofPass s.dev k m = false → ∀ x ∈ s.dev.saf.quads, x.failed ≠ 0 → Completes (.quadProofPulse m) s fun t =>
      Tripped 3 true s t ∧ t.dev.saf.quads = s.dev.saf.quads.set k { q with missed := q.missed + 1 } ∧
        OnlyChanges [.lanes, .pow, .acs, .log, .led, .veh, .ses, .dc, .saf, .keys, .diag] s t)) ∧
  (∀ (b : Bool) (low : BitVec 3) (s : State), pulseTestDue s b s.dev = true →
    ((∀ k < 3, nth false (pulseInputs b s.dev) k = true → low.getLsbD k = true) →
      Completes (.testPulse b low) s fun t => t.dev.saf.trips = s.dev.saf.trips ∧
        (if b then t.dev.saf.tpoAtB else t.dev.saf.tpoAtA) = s.clk.frame ∧
        (∀ k < 3, nth false (pulseInputs b s.dev) k = true →
          nth 0 t.dev.saf.tpoFails (k + if b then 3 else 0) = 0) ∧ OnlyChanges [.saf, .diag, .log] s t) ∧
    (∀ k < 3, nth false (pulseInputs b s.dev) k = true → low.getLsbD k = false →
      nth 0 s.dev.saf.tpoFails (k + if b then 3 else 0) = 1 → Completes (.testPulse b low) s fun t =>
        Tripped (if k = 0 then 4 else if k = 1 then 5 else 3) true s t ∧
          Logged Src.serge Event.INPUT_TEST_FAILED (leBytes 1 (2 * k + 1 + if b then 1 else 0)) t ∧
          OnlyChanges [.lanes, .pow, .acs, .log, .led, .veh, .ses, .dc, .saf, .keys, .diag] s t)) ∧
  (∀ (uA : Int) (s : State), isoDue s.dev = true → s.dev.saf.isoVal = some uA →
    (s.dev.saf.isoLast = none → Completes .insulationStep s fun t =>
      t.dev.saf = { s.dev.saf with isoJudged := true, isoLast := some uA } ∧ OnlyChanges [.saf] s t) ∧
    (∀ x, s.dev.saf.isoLast = some x → Completes .insulationStep s fun t =>
      t.dev.saf.isoJudged = true ∧
      (isoValue s.dev (if s.dev.saf.isoPositive then uA else x) (if s.dev.saf.isoPositive then x else uA) = none →
        Tripped 9 true s t) ∧
      (∀ r, isoValue s.dev (if s.dev.saf.isoPositive then uA else x) (if s.dev.saf.isoPositive then x else uA) = some r →
        (r < isoLimit s.dev (s.dev.nat Param.ISO_FAULT_OHMV) → Tripped 9 false s t) ∧
        (isoLimit s.dev (s.dev.nat Param.ISO_FAULT_OHMV) ≤ r →
          t.dev.saf = { s.dev.saf with
            isoJudged := true, isoLast := some uA, isoRes := some r
            isoPairs := s.dev.saf.isoPairs + (if s.dev.saf.isoPositive then 0 else 1)
            isoWarned := t.dev.saf.isoWarned } ∧
          (r < isoLimit s.dev (s.dev.nat Param.ISO_WARN_OHMV) → t.dev.saf.isoWarned = true ∧
            (s.dev.saf.isoWarned = false → Logs Src.serge Event.INSULATION_WARNING (leBytes 4 r) s t)) ∧
          (isoLimit s.dev (s.dev.nat Param.ISO_WARN_OHMV) ≤ r ∨ s.dev.saf.isoWarned = true →
            t.dev.log = s.dev.log ∧ t.dev.saf.isoWarned = s.dev.saf.isoWarned) ∧
          OnlyChanges [.saf, .log] s t)) ∧
      OnlyChanges [.lanes, .pow, .acs, .log, .led, .veh, .ses, .dc, .saf, .keys] s t))

/-- Contactors, re-arming and confirmation (R270, R284, R285, R305): a close is good where mirror contacts and voltage show
it and a trip otherwise; an opening check finds the outlet open or a weld, which ends the session with SAFETY_LATCH. While no
output is disputed, faults of class S that have gone leave their list and the weld latch is released once SAFETY_LATCH is
clear, and the trips whose condition has gone are released only while no cause bit is set; no output is switched on by
that. -/
def Obligations.ContactorRows : Prop :=
  (∀ s : State, closeCheckDue s.clk.frame s.dev = true →
    (mirrorOpen s.dev = [] → voltageShows s.dev = true → Completes .contactorCloseCheck s fun t =>
      t.dev.saf = { s.dev.saf with closeAt := none, closeOk := true } ∧ OnlyChanges [.saf] s t) ∧
    (mirrorOpen s.dev ≠ [] ∨ voltageShows s.dev = false → Completes .contactorCloseCheck s fun t =>
      Tripped 3 true s t ∧ t.dev.saf.closeOk = false ∧
        Logged Src.serge Event.CONTACTOR_NOT_CLOSED (leBytes 1 ((mirrorOpen s.dev).head?.getD 3) ++ [0]) t ∧
        OnlyChanges [.lanes, .pow, .acs, .log, .led, .veh, .ses, .dc, .saf, .keys] s t)) ∧
  (∀ (mc : Nat) (s : State), s.dev.lanes.outputs.getLsbD 0 = true → s.dev.saf.closeOk = true → mc ∈ mirrorOpen s.dev →
    Completes (.contactorDropped mc) s fun t => Tripped 3 true s t ∧
      Logged Src.serge Event.CONTACTOR_NOT_CLOSED (leBytes 1 mc ++ [1]) t ∧
      OnlyChanges [.lanes, .pow, .acs, .log, .led, .veh, .ses, .dc, .saf, .keys] s t) ∧
  (∀ s : State, s.dev.nat Param.OUTLET_KIND ≠ 1 → openSergeDue s.clk.frame s.dev = true →
    s.clk.frame < s.dev.saf.openAt + ms (s.dev.nat Param.CONTACTOR_OPEN_MAX) + 160 → mirrorClosed s.dev = [] →
    s.dev.saf.weldLatch = false → Completes .openingCheck s fun t =>
      t.dev.saf = { s.dev.saf with openSerge := true, decayFrom := t.dev.saf.decayFrom } ∧ OnlyChanges [.saf] s t) ∧
  (∀ (k : Nat) (s : State), openSergeDue s.clk.frame s.dev = true → (mirrorClosed s.dev).head? = some k →
    outletShut s.dev = false → s.dev.lanes.dispute = none → Completes .openingCheck s fun t =>
      t.dev.saf.weldLatch = true ∧ t.dev.saf.openSt = 3 ∧ t.dev.ses.isOpen = false ∧
      t.dev.pow.causes.getLsbD Cause.safetyLatch = true ∧
      Logged Src.serge Event.WELD_DETECTED (leBytes 1 k ++ leBytes 4 0) t ∧
      OnlyChanges [.lanes, .pow, .acs, .log, .led, .veh, .ses, .dc, .saf, .sw, .keys] s t) ∧
  (∀ (bad : Option Nat) (s : State), s.dev.nat Param.OUTLET_KIND ≠ 1 ∨ s.dev.saf.decayFrom ≠ none →
    openVerdict s.clk.frame s.dev = some bad → outletShut s.dev = false → s.dev.lanes.dispute = none →
    Completes .openingCheck s fun t =>
      t.dev.saf.openSt = (if bad = none then 2 else 3) ∧
      (bad = none → s.dev.ses.stop = none → t.dev.ses.isOpen = s.dev.ses.isOpen ∧ t.dev.pow = s.dev.pow) ∧
      (s.dev.ses.stop ≠ none → t.dev.ses.isOpen = false) ∧
      (∀ k, bad = some k → t.dev.ses.isOpen = false ∧ t.dev.pow.causes.getLsbD Cause.safetyLatch = true ∧
        Logged Src.serge Event.WELD_DETECTED
          (if k = 3 then leBytes 1 0 ++ leBytesInt 4 (outletVoltage s.dev) else leBytes 1 k ++ leBytes 4 0) t) ∧
      OnlyChanges [.lanes, .pow, .acs, .log, .led, .veh, .ses, .dc, .saf, .sw, .keys] s t) ∧
  (∀ s : State, s.clk.running = true → Completes .safetyRearm s fun t =>
    (requestsAgree s.dev = false ∨ s.dev.pow.causes.getLsbD Cause.safetyLatch = true → t = s) ∧
    (requestsAgree s.dev = true → s.dev.pow.causes.getLsbD Cause.safetyLatch = false →
      (∀ k < 16, t.dev.saf.sFaults.getLsbD k = (s.dev.saf.sFaults.getLsbD k && !sGone s.dev k)) ∧
      t.dev.saf.weldLatch = (s.dev.saf.weldLatch && !(mirrorClosed s.dev).isEmpty) ∧
      (∀ f < 16, t.dev.saf.trips.getLsbD f = (s.dev.saf.trips.getLsbD f &&
        !(decide (s.dev.pow.causes = 0 ∧ 1 ≤ f ∧ f ≤ 9) && fnGone s.clk.frame s.dev f))) ∧
      (∀ f < 16, s.dev.saf.trips.getLsbD f = true → t.dev.saf.trips.getLsbD f = false →
        Logged Src.serge Event.SAFETY_REARMED (leBytes 1 f) t)) ∧ OnlyChanges [.log, .saf] s t) ∧
  (∀ s : State, s.clk.running = true → s.dev.saf.confirmSt = 1 → s.dev.saf.confirmFrame + 480000 < s.clk.frame →
    Completes .safetyConfirmExpired s fun t =>
      t.dev.saf = { s.dev.saf with confirmSt := 0 } ∧ Logs Src.host Event.SAFETY_CONFIRM_EXPIRED [] s t ∧
        OnlyChanges [.saf, .log] s t)

/-- The load-switch channels (R314, R317 to R321): an inrush step ends into the next step or ON; a fast short of 100 µs past the
blanking and a junction at 170 °C are a protection off, which counts a retry and waits, or latches when the retries are
spent; a channel whose delay has passed restarts with its inrush; 8,000 good frames reset the retry counter; a diagnosis
flag changes after 160 frames and is logged with its start or its end. Every other channel stays. -/
def Obligations.SwitchChannelRows : Prop :=
  ∀ (k : Nat) (h : Hsw) (s : State), 1 ≤ k → k ≤ 8 → s.dev.sw.ch[k - 1]? = some h →
    (h.st = 1 → h.stepAt + ms (nth (0, 0) (hswProfile s.dev k).1 (h.step - 1)).1 ≤ s.clk.frame →
      Completes (.inrushStep k) s fun t =>
        (nextStep (hswProfile s.dev k).1 h.step ≠ 0 → OnlySwitch k
          { h with
            step := nextStep (hswProfile s.dev k).1 h.step
            stepAt := h.stepAt + ms (nth (0, 0) (hswProfile s.dev k).1 (h.step - 1)).1 } s t) ∧
        (nextStep (hswProfile s.dev k).1 h.step = 0 → OnlySwitch k
          { h with
            st := 2, step := 0, stepAt := h.stepAt + ms (nth (0, 0) (hswProfile s.dev k).1 (h.step - 1)).1
            goodSince := h.stepAt + ms (nth (0, 0) (hswProfile s.dev k).1 (h.step - 1)).1 } s t) ∧
        OnlyChanges [.sw] s t) ∧
    (∀ (c : Instr) (us cause : Nat) (tj : Int), (c = .fastShort k us ∧ 100 ≤ us ∧ cause = 1 ∧
        pastBlanking s.clk.frame k s.dev = true ∧ pulseAtLeast s.dev 1100 k = true) ∨
        (c = .thermalShutdown k tj ∧ 17000 ≤ tj ∧ cause = 2) → h.st = 1 ∨ h.st = 2 →
      Completes c s fun t =>
        (h.retries < hswRetries s.dev k → OnlySwitch k { h with
          offAt := s.clk.frame, cause := cause, step := 0, offNews := true, noDelay := false
          retries := h.retries + 1, latched := false, st := if cause = 2 then 4 else 3 } s t) ∧
        (hswRetries s.dev k ≤ h.retries → OnlySwitch k { h with
          offAt := s.clk.frame, cause := cause, step := 0, offNews := true, noDelay := false
          latched := true, st := 5 } s t) ∧ OnlyChanges [.sw] s t) ∧
    (retryDue s.clk.frame k s.dev = true → s.dev.sw.uv = 0 → Completes (.retryRestart k) s fun t =>
      ((t.dev.sw.ch[k - 1]?).map fun x => (x.st, x.step, x.onAt, x.noDelay)) =
        some (if nextStep (hswProfile s.dev k).1 0 = 0 then 2 else 1, nextStep (hswProfile s.dev k).1 0,
          s.clk.frame, false) ∧
        (∀ j ≠ k - 1, t.dev.sw.ch[j]? = s.dev.sw.ch[j]?) ∧ t.dev.sw = { s.dev.sw with ch := t.dev.sw.ch } ∧
        OnlyChanges [.sw] s t) ∧
    (h.st = 2 → h.goodSince + 8000 ≤ s.clk.frame → Completes (.retryCounterReset k) s fun t =>
      OnlySwitch k { h with retries := 0 } s t ∧ OnlyChanges [.sw] s t) ∧
    (160 ≤ h.olOn → Completes (.openLoad k false) s fun t =>
      OnlySwitch k { h with flags := h.flags ^^^ 1, olOn := 0 } s t ∧
        Logs Src.host Event.HSW_OPEN_LOAD (leBytes 1 k ++ [0, if h.flags.getLsbD 0 then 1 else 0]) s t ∧
        OnlyChanges [.sw, .log] s t) ∧
    (160 ≤ h.olOff → Completes (.openLoad k true) s fun t =>
      OnlySwitch k { h with flags := h.flags ^^^ 2, olOff := 0 } s t ∧
        Logs Src.host Event.HSW_OPEN_LOAD (leBytes 1 k ++ [1, if h.flags.getLsbD 1 then 1 else 0]) s t ∧
        OnlyChanges [.sw, .log] s t) ∧
    (160 ≤ h.stv → Completes (.shortToVaux k) s fun t =>
      OnlySwitch k { h with flags := h.flags ^^^ 4, stv := 0 } s t ∧
        Logs Src.host Event.HSW_SHORT_TO_VAUX (leBytes 1 k ++ [if h.flags.getLsbD 2 then 1 else 0]) s t ∧
        OnlyChanges [.sw, .log] s t)

/-- VAUX, the lock and the coils (R317, R324 to R326, R329, R330, R332): VAUX out of range for 10 µs puts every driving
channel and a driving bridge off and is logged once, with the end of an opposite excursion; in range for 80 frames it ends
with the extreme seen and the lowest channel returns; an overload sheds the highest channel that may be shed, and the one
shed last returns; a lock drive stops, by its own conditions or a protection off, brakes, and is done, repeated once or a
fault; a lock lost opens the outlet; the economiser holds a coil after its pull-in. -/
def Obligations.VauxAndLockRows : Prop :=
  (∀ (mv us kind : Nat) (c : Instr) (s : State), s.clk.running = true → 10 ≤ us →
    (kind = 1 ∧ c = .vauxUndervoltage mv us ∧ (s.dev.nat Param.UV_MODE = 0 ∧ mv < s.dev.nat Param.UV_OFF ∨ mv < 5500)) ∨
      (kind = 2 ∧ c = .vauxOvervoltage mv us ∧ 38000 < mv) →
    (s.dev.sw.uv ≠ kind → Completes c s fun t =>
      t.dev.sw.uv = kind ∧ t.dev.sw.vauxExtreme = mv ∧ t.dev.sw.uvGood = 0 ∧
        t.dev.sw.ch = s.dev.sw.ch.map (fun h => if h.st = 1 ∨ h.st = 2 then { h with st := 6, step := 0 } else h) ∧
        (s.dev.sw.bridge = 1 → t.dev.sw.bridge = 2 ∧ t.dev.sw.brakeAt = s.clk.frame ∧ t.dev.sw.bridgeUv = true) ∧
        (s.dev.sw.bridge ≠ 1 → t.dev.sw.bridge = s.dev.sw.bridge) ∧
        t.dev.log = { s.dev.log with now := s.dev.log.now ++
          (if s.dev.sw.uv = 0 then [] else
            [Ev.of Src.host (if s.dev.sw.uv = 2 then Event.VAUX_OVERVOLTAGE else Event.VAUX_UNDERVOLTAGE)
              ([1] ++ leBytes 4 s.dev.sw.vauxExtreme)]) ++
          [Ev.of Src.host (if kind = 2 then Event.VAUX_OVERVOLTAGE else Event.VAUX_UNDERVOLTAGE) [0, 0, 0, 0, 0]] } ∧
        OnlyChanges [.sw, .log] s t) ∧
    (s.dev.sw.uv = kind → Completes c s fun t =>
      t.dev.sw = { s.dev.sw with
        vauxExtreme := if kind = 1 then min mv s.dev.sw.vauxExtreme else max mv s.dev.sw.vauxExtreme } ∧
        OnlyChanges [.sw] s t)) ∧
  (∀ s : State, vauxGood s.dev = true → s.dev.sw.uv ≠ 0 → Completes .vauxRestored s fun t =>
    t.dev.sw.uv = 0 ∧ t.dev.sw.uvFrame = some s.clk.frame ∧
      Logs Src.host (if s.dev.sw.uv = 2 then Event.VAUX_OVERVOLTAGE else Event.VAUX_UNDERVOLTAGE)
        ([1] ++ leBytes 4 s.dev.sw.vauxExtreme) s t ∧
      (t.dev.sw.ch.filter fun h => h.st = 6).length = (s.dev.sw.ch.filter fun h => h.st = 6).length - 1 ∧
      OnlyChanges [.sw, .log] s t) ∧
  (∀ (k : Nat) (h : Hsw) (s : State), shedDue s.clk.frame s.dev = true → shedChannel s.dev = some k →
    s.dev.sw.ch[k - 1]? = some h → Completes .vauxOverloadShed s fun t =>
      t.dev.sw = { s.dev.sw with
        lastShed := some s.clk.frame, shedCount := s.dev.sw.shedCount + 1
        ch := s.dev.sw.ch.set (k - 1) { h with
          st := 7, step := 0, shedCurrent := h.current, shedOrder := s.dev.sw.shedCount + 1 } } ∧
      Logs Src.host Event.VAUX_OVERLOAD (leBytes 1 k ++ [0] ++ leBytes 4 (s.dev.sw.vauxSum / 8000)) s t ∧
      OnlyChanges [.sw, .log] s t) ∧
  (∀ (k : Nat) (s : State), shedLast s.dev = some k → shedReturnDue s.clk.frame k s.dev = true →
    Completes .vauxOverloadReturn s fun t =>
      t.dev.sw.lastReturn = some s.clk.frame ∧ ((t.dev.sw.ch[k - 1]?).map Hsw.st).all (· ≠ 7) = true ∧
        (∀ j ≠ k - 1, t.dev.sw.ch[j]? = s.dev.sw.ch[j]?) ∧
        Logs Src.host Event.VAUX_OVERLOAD (leBytes 1 k ++ [1] ++ leBytes 4 (s.dev.sw.vauxSum / 8000)) s t ∧
        OnlyChanges [.sw, .log] s t) ∧
  (∀ (s : State) (c : Nat), driveStopCond s.clk.frame s.dev = c → c ≠ 0 → Completes .lockDriveStop s fun t =>
    t.dev.sw = { s.dev.sw with bridge := 2, brakeAt := s.clk.frame, stopCond := c } ∧ OnlyChanges [.sw] s t) ∧
  (∀ s : State, s.dev.sw.bridge = 2 → s.dev.sw.brakeAt + 400 ≤ s.clk.frame →
    (lockShown s.dev = s.dev.sw.lockDir → s.dev.sw.stopCond ≠ 4 → Completes .lockBrakeEnd s fun t =>
      t.dev.sw = { s.dev.sw with
        bridge := 0, lockSt := if s.dev.sw.lockDir then 2 else 1, secondTry := false } ∧
        Logs Src.host Event.LOCK_DONE ([if s.dev.sw.lockDir then 1 else 0] ++
          leBytes 4 (s.dev.sw.brakeAt - s.dev.sw.driveAt) ++ leBytes 1 s.dev.sw.stopCond) s t ∧
        OnlyChanges [.sw, .log] s t) ∧
    (lockShown s.dev ≠ s.dev.sw.lockDir ∨ s.dev.sw.stopCond = 4 → s.dev.sw.secondTry = false →
      Completes .lockBrakeEnd s fun t =>
        t.dev.sw = { s.dev.sw with bridge := 0, lockSt := 0, repeatAt := some (s.clk.frame + 4000) } ∧
          OnlyChanges [.sw] s t) ∧
    (lockShown s.dev ≠ s.dev.sw.lockDir ∨ s.dev.sw.stopCond = 4 → s.dev.sw.secondTry = true →
      Completes .lockBrakeEnd s fun t =>
        t.dev.sw.bridge = 0 ∧ t.dev.sw.lockSt = 4 ∧
          t.dev.sw.lockLatched = (s.dev.sw.lockLatched || decide (s.dev.sw.stopCond = 4)) ∧
          Logged Src.host Event.LOCK_FAULT
            ([if s.dev.sw.lockDir then 1 else 0] ++ leBytes 1 s.dev.sw.stopCond) t ∧
          OnlyChanges [.sw, .log, .led] s t)) ∧
  (∀ (c : Instr) (us cause : Nat) (tj : Int) (s : State),
    (c = .fastShort 9 us ∧ 100 ≤ us ∧ cause = 1) ∨ (c = .thermalShutdown 9 tj ∧ 17000 ≤ tj ∧ cause = 2) →
    s.dev.sw.bridge = 1 → Completes c s fun t =>
      t.dev.sw = { s.dev.sw with bridge := 2, brakeAt := s.clk.frame, stopCond := 4, lockCause := cause } ∧
        OnlyChanges [.sw] s t) ∧
  (∀ (f : Nat) (s : State), s.dev.sw.repeatAt = some f → f ≤ s.clk.frame →
    (lockMayDrive s.dev = true → Completes .lockRepeat s fun t =>
      t.dev.sw.repeatAt = none ∧ t.dev.sw.lockSt = 3 ∧ t.dev.sw.driveAt = s.clk.frame ∧
        t.dev.sw.lockDir = s.dev.sw.lockDir ∧ t.dev.sw.secondTry = true ∧ t.dev.sw.lockOps = s.dev.sw.lockOps + 1 ∧
        t.dev.sw.bridge = (if s.dev.sw.uv = 0 ∧ s.dev.sw.bridgeUv = false then 1 else 2) ∧
        t.dev.sw.ch = s.dev.sw.ch ∧ OnlyChanges [.sw] s t) ∧
    (lockMayDrive s.dev = false → Completes .lockRepeat s fun t =>
      t.dev.sw.repeatAt = none ∧ t.dev.sw.lockSt = 4 ∧ t.dev.sw.bridge = s.dev.sw.bridge ∧
        Logged Src.host Event.LOCK_FAULT ([if s.dev.sw.lockDir then 1 else 0] ++ leBytes 1 s.dev.sw.stopCond) t ∧
        OnlyChanges [.sw, .log, .led] s t)) ∧
  (∀ s : State, lockLostDue s.dev = true → s.dev.lanes.dispute = none → Completes .lockLost s fun t =>
    OutletOpened t ∧ Logged Src.vehicle Event.LOCK_LOST [] t ∧
      t.dev.ses.st = (if s.dev.ses.st = 4 then 3 else s.dev.ses.st) ∧ t.dev.ses.isOpen = s.dev.ses.isOpen ∧
      (lockMayDrive s.dev = true → t.dev.sw.lockDir = true ∧
        t.dev.sw.bridge = (if s.dev.sw.uv = 0 ∧ s.dev.sw.bridgeUv = false then 1 else 2)) ∧
      (lockMayDrive s.dev = false → t.dev.sw.bridge = 0 ∧ t.dev.sw.lockSt = 1) ∧
      OnlyChanges [.lanes, .log, .veh, .ses, .dc, .saf, .sw] s t) ∧
  (∀ (f : Nat) (s : State), s.dev.saf.pullAt = some f → f + ms (s.dev.nat Param.COIL_PULLIN) ≤ s.clk.frame →
    s.dev.saf.economiser = false → Completes .coilPullinEnd s fun t =>
      t.dev.saf = { s.dev.saf with economiser := true } ∧ OnlyChanges [.saf] s t)

/-- The grid link's mesh (R339, R340, R342 to R346, R348, R350): a received frame is counted, refreshes its sender's entry, is
answered where it asks for a tone map and, on a router, waits to be forwarded; a tone map of a modulation in use is taken; an
old map is asked for again and then stale; a route request for the controller is answered and one for another forwarded by a
router, and the way back is learnt; a reply of the controller's own discovery installs its route, one over the route's own next
hop renews it (log entry 161); routes expire; the PAN is joined, with the group key, lost and sought again with a doubling
delay. A request or reply carries the link cost of the hop it came over (log entry 162). -/
def Obligations.GplcMeshRows : Prop :=
  (∀ (f : GplcFrame) (s : State), s.clk.running = true → modemUp s.dev = true →
    (f.securityOk = false → Committed s → Completes (.gplcFrameReceived f) s fun t =>
      t.dev.gplc = { s.dev.gplc with counters := s.dev.gplc.counters.modify 25 (· + 1) } ∧ OnlyChanges [.gplc] s t) ∧
    (f.securityOk = true → s.dev.gplc.counters.length = 27 → s.dev.gplc.queues.length = 3 →
      Committed s → Completes (.gplcFrameReceived f) s fun t =>
        nth 0 t.dev.gplc.counters (24 + if f.duplicate then 2 else 0) =
          nth 0 s.dev.gplc.counters (24 + if f.duplicate then 2 else 0) + 1 ∧
        ((s.dev.gplc.neighbour f.sender).isSome = true ∨ s.dev.gplc.neighbours.length < 512 →
          (t.dev.gplc.neighbour f.sender).map (fun x => (x.lqi, x.heardAt, x.heardRtc)) =
            some (f.lqi, s.clk.frame, s.dev.tar.rtc)) ∧
        (f.fromCoordinator = true → t.dev.gplc.lastCoord = s.clk.frame ∧ t.dev.gplc.lastCoordRtc = s.dev.tar.rtc) ∧
        t.dev.gplc.morust = (if f.asksMap then some (f.sender, morustElement s.dev) else s.dev.gplc.morust) ∧
        (f.forward = true → f.duplicate = false → s.dev.nat Param.GPLC_ROUTER = 1 →
          (s.dev.gplc.queue 2).length < 64 →
          t.dev.gplc.queue 2 = s.dev.gplc.queue 2 ++ [⟨.forwarded, f.dest, s.clk.frame, none⟩]) ∧
        (f.forward = false ∨ f.duplicate = true ∨ s.dev.nat Param.GPLC_ROUTER ≠ 1 →
          t.dev.gplc.queues = s.dev.gplc.queues) ∧ OnlyChanges [.gplc, .log] s t)) ∧
  (∀ (m : ToneMap) (s : State), s.clk.running = true → modemUp s.dev = true →
    (6 < m.modulation → Committed s → Completes (.toneMapResponse m) s fun t => t = s) ∧
    (m.modulation ≤ 6 → (s.dev.gplc.neighbour m.sender).isSome = true →
      Committed s → Completes (.toneMapResponse m) s fun t =>
      (t.dev.gplc.neighbour m.sender).map
        (fun x => (x.modulation, x.carriers, x.gain, x.mapAt, x.asked, x.stale, x.extCap, x.peerUg1)) =
        some (m.modulation, m.carriers &&& allCarriers (carriersOf s.dev), m.gain, s.clk.frame, false, false, m.extCapable,
          m.peerUg1) ∧
      t.dev.gplc.routes = s.dev.gplc.routes ∧ OnlyChanges [.gplc, .log] s t)) ∧
  (∀ (a : Nat) (x : Neighbour) (s : State), s.dev.gplc.neighbour a = some x →
    Committed s → Completes (.toneMapAge a) s fun t =>
      (s.clk.frame - x.mapAt < secs (60 * s.dev.nat Param.GPLC_TMR_TTL) → t = s) ∧
      (secs (60 * s.dev.nat Param.GPLC_TMR_TTL) ≤ s.clk.frame - x.mapAt →
        (t.dev.gplc.neighbour a).map Neighbour.asked = some true) ∧
      (2 * secs (60 * s.dev.nat Param.GPLC_TMR_TTL) ≤ s.clk.frame - x.mapAt →
        (t.dev.gplc.neighbour a).map Neighbour.stale = some true) ∧ OnlyChanges [.gplc] s t) ∧
  (∀ (m : RouteMsg) (s : State), joined s = true → s.dev.gplc.queues.length = 3 →
    (ownAddr s.dev.gplc = some m.dest → (s.dev.gplc.queue 1).length < 32 →
      Committed s → Completes (.routeRequest m) s fun t =>
      t.dev.gplc.queue 1 =
        s.dev.gplc.queue 1 ++ [⟨.own, some m.origin, s.clk.frame, some (hopCost s.dev m.prevHop)⟩] ∧
      (m.hops + 1 ≤ s.dev.nat Param.GPLC_MAX_HOPS → s.dev.gplc.route m.origin = none →
        (t.dev.gplc.route m.origin).map (fun r => (r.next, r.cost, r.hops)) =
          some (m.prevHop, m.cost + hopCost s.dev m.prevHop, m.hops + 1)) ∧ OnlyChanges [.gplc] s t) ∧
    (ownAddr s.dev.gplc ≠ some m.dest → s.dev.nat Param.GPLC_ROUTER ≠ 1 →
      Committed s → Completes (.routeRequest m) s fun t => t = s) ∧
    (ownAddr s.dev.gplc ≠ some m.dest → s.dev.nat Param.GPLC_ROUTER = 1 → (s.dev.gplc.queue 2).length < 64 →
      Committed s → Completes (.routeRequest m) s fun t =>
        t.dev.gplc.queue 2 = s.dev.gplc.queue 2 ++ (if m.hops + 1 < s.dev.nat Param.GPLC_MAX_HOPS
          then [⟨.forwarded, none, s.clk.frame, some (m.cost + hopCost s.dev m.prevHop)⟩] else []) ∧
        OnlyChanges [.gplc] s t) ∧
    (ownAddr s.dev.gplc = some m.origin → m.hops + 1 ≤ s.dev.nat Param.GPLC_MAX_HOPS →
      replaces (s.dev.gplc.route m.dest) (m.cost + hopCost s.dev m.prevHop) = true →
      Committed s → Completes (.routeReply m) s fun t =>
        (t.dev.gplc.route m.dest).map (fun r => (r.next, r.cost, r.hops, r.failed, r.expiry)) =
          some (m.prevHop, m.cost + hopCost s.dev m.prevHop, m.hops + 1, false,
            s.clk.frame + secs (60 * s.dev.nat Param.GPLC_ROUTE_TTL)) ∧
        m.dest ∉ t.dev.gplc.discovery ∧ t.dev.gplc.queues = s.dev.gplc.queues ∧ OnlyChanges [.gplc] s t) ∧
    (∀ r, ownAddr s.dev.gplc = some m.origin → m.hops + 1 ≤ s.dev.nat Param.GPLC_MAX_HOPS →
      s.dev.gplc.route m.dest = some r → replaces (some r) (m.cost + hopCost s.dev m.prevHop) = false →
      Committed s → Completes (.routeReply m) s fun t =>
        (r.next = m.prevHop → (t.dev.gplc.route m.dest).map (fun r => (r.next, r.cost, r.hops, r.expiry)) =
          some (r.next, r.cost, r.hops, s.clk.frame + secs (60 * s.dev.nat Param.GPLC_ROUTE_TTL)) ∧
          m.dest ∉ t.dev.gplc.discovery) ∧
        (r.next ≠ m.prevHop → t = s) ∧ t.dev.gplc.queues = s.dev.gplc.queues ∧ OnlyChanges [.gplc] s t) ∧
    (ownAddr s.dev.gplc = some m.origin → s.dev.nat Param.GPLC_MAX_HOPS < m.hops + 1 →
      Committed s → Completes (.routeReply m) s fun t => t = s) ∧
    (ownAddr s.dev.gplc ≠ some m.origin → s.dev.nat Param.GPLC_ROUTER ≠ 1 →
      Committed s → Completes (.routeReply m) s fun t => t = s) ∧
    (ownAddr s.dev.gplc ≠ some m.origin → s.dev.nat Param.GPLC_ROUTER = 1 → (s.dev.gplc.queue 2).length < 64 →
      Committed s → Completes (.routeReply m) s fun t =>
        t.dev.gplc.queue 2 = s.dev.gplc.queue 2 ++
          [⟨.forwarded, some m.origin, s.clk.frame, some (m.cost + hopCost s.dev m.prevHop)⟩] ∧
        OnlyChanges [.gplc] s t)) ∧
  (∀ (dest : Nat) (r : Route) (s : State), s.dev.gplc.route dest = some r → r.expiry ≤ s.clk.frame →
    Committed s → Completes (.routeExpiry dest) s fun t =>
      (r.coordinator = true → dest ∈ t.dev.gplc.discovery ∧ (t.dev.gplc.route dest).isSome = true ∧
        (dest ∉ s.dev.gplc.discovery → s.dev.gplc.queues.length = 3 → (s.dev.gplc.queue 1).length < 32 →
          t.dev.gplc.queue 1 = s.dev.gplc.queue 1 ++ [⟨.own, none, s.clk.frame, some 0⟩])) ∧
      (r.coordinator = false → t.dev.gplc.route dest = none) ∧
      t.dev.gplc.routes.filter (fun x => x.dest ≠ dest) = s.dev.gplc.routes.filter (fun x => x.dest ≠ dest) ∧
      OnlyChanges [.gplc] s t) ∧
  (∀ (pan short : Nat) (fast : Bool) (key : List Byte) (s : State), s.clk.running = true →
    s.dev.keys.slots.length = 16 → joinDue s.clk.frame pan short fast s.dev = true →
    Committed s → Completes (.gplcJoined pan short fast key) s fun t =>
      t.dev.gplc = { s.dev.gplc with
        st := 2, pan := some (pan, short), lastCoord := s.clk.frame, lastCoordRtc := s.dev.tar.rtc, bootDelay := 60
        bootAt := none } ∧
      (fast = true → t.dev.keys = s.dev.keys) ∧
      (fast = false → (keySlot t.dev 11).kind = 3 ∧ (keySlot t.dev 11).material = slice key 0 16 ∧
        (∀ k < 16, k ≠ 11 → keySlot t.dev k = keySlot s.dev k)) ∧
      Logs Src.grid Event.GPLC_JOINED (leBytes 2 pan ++ leBytes 2 short ++ [if fast then 1 else 0]) s t ∧
      OnlyChanges [.gplc, .keys, .log] s t) ∧
  (∀ s : State, s.dev.gplc.st = 2 →
    s.dev.gplc.lastCoord + secs (60 * s.dev.nat Param.GPLC_PAN_LOSS) ≤ s.clk.frame →
      Committed s → Completes .gplcPanLost s fun t =>
      t.dev.gplc = { s.dev.gplc with st := 1, pan := none, routes := [], discovery := [] } ∧
      Logs Src.grid Event.GPLC_PAN_LOST (leBytes 4 ((s.clk.frame - s.dev.gplc.lastCoord) / 480000)) s t ∧
      OnlyChanges [.gplc, .log] s t) ∧
  (∀ s : State, s.clk.running = true → bootDue s.clk.frame s.dev = true → Committed s → Completes .bootstrapRetry s fun t =>
    t.dev.gplc = { s.dev.gplc with
      bootAt := some (s.clk.frame + secs s.dev.gplc.bootDelay), bootDelay := min 3600 (2 * s.dev.gplc.bootDelay) } ∧
      OnlyChanges [.gplc] s t)

/-- The modem, its queues and the last gasp (R341, R342, R344, R349, R351 to R355): 80 frames without an answer reset the
modem, which drops every packet under MODEM, and the fourth reset within an hour is a fault, left after 24 h; the packet at the
head of the queue served is delivered or dropped, each counted, each transmission of it sent at the transmit level, as a train
padded to a mains period where extended interleaving is in use, and entered once with its neighbour; retries exhausted fail
the route, which is sought again; an old packet times out; the last gasp is sent in time or abandoned and handed to the host,
and the modem is shed after it with the rest dropped for HOLD. -/
def Obligations.GplcQueueRows : Prop :=
  (∀ (frames : Nat) (s : State), s.clk.running = true → modemUp s.dev = true → 80 ≤ frames →
    Completes (.modemHeartbeatMiss frames) s fun t =>
    (∀ q < 3, t.dev.gplc.queue q = []) ∧ s.clk.frame ∈ t.dev.gplc.resets ∧
      (3 ≤ (s.dev.gplc.resets.filter fun f => s.clk.frame < f + 28800000).length →
        t.dev.gplc.st = 3 ∧ t.dev.gplc.faultSince = s.clk.frame ∧ Logged Src.grid Event.GPLC_MODEM_FAULT [] t) ∧
      ((s.dev.gplc.resets.filter fun f => s.clk.frame < f + 28800000).length < 3 → t.dev.gplc.st = s.dev.gplc.st) ∧
      (s.dev.gplc.gasp = 1 → t.dev.gplc.gasp = 3) ∧ OnlyChanges [.gplc, .log, .win] s t) ∧
  (∀ s : State, s.dev.gplc.st = 3 → s.dev.gplc.faultSince + dayFrames ≤ s.clk.frame →
    Completes .gplcModemRetry s fun t =>
      t.dev.gplc = { s.dev.gplc with st := 1, resets := [], bootAt := none, bootDelay := 60 } ∧
        OnlyChanges [.gplc] s t) ∧
  (∀ (q : Nat) (p : Packet) (rest : List Packet) (sends : List Sent) (s : State), s.clk.running = true →
    modemUp s.dev = true → queueServed s.clk.frame q s.dev = true → s.dev.gplc.queue q = p :: rest →
    s.dev.gplc.queues.length = 3 → s.dev.gplc.counters.length = 27 →
    (p.kind ≠ .gasp → routeUsable q s.dev = true → Committed s → Completes (.packetDelivered q sends) s fun t =>
      t.dev.gplc.queue q = rest ∧ (∀ k < 3, k ≠ q → t.dev.gplc.queue k = s.dev.gplc.queue k) ∧
        t.dev.gplc.counters = s.dev.gplc.counters.modify (8 * q + 1) (· + 1) ∧
        (p.dest ≠ none → (coordRoute s.dev.gplc).map Route.dest = p.dest → t.dev.gplc.lastCoord = s.clk.frame) ∧
        (∀ a, packetHop s.dev.gplc p = some a → ∀ y, s.dev.gplc.neighbour a = some y → ∀ x ∈ sends, sends = [x] →
          t.dev.gplc.txLevel = transmitLevel s.dev ∧ t.dev.gplc.txMod = modulationTo (some y) ∧
          t.dev.gplc.txFrames = (if y.extInUse then x.phy else 1) ∧
          t.dev.gplc.txMicros = (if y.extInUse then max x.us (mainsPeriod s.dev) else x.us) ∧
          (t.dev.gplc.neighbour a).map (fun z => (z.tx, z.asked)) = some ((x.acked :: y.tx).take 32, false)) ∧
        OnlyChanges [.gplc, .log] s t) ∧
    (Committed s → Completes (.packetDropped q true sends) s fun t =>
      t.dev.gplc.queue q = rest ∧ (∀ k < 3, k ≠ q → t.dev.gplc.queue k = s.dev.gplc.queue k) ∧
        t.dev.gplc.counters = s.dev.gplc.counters.modify (8 * q + 3) (· + 1) ∧
        (∀ a, p.dest = some a → a ∉ t.dev.gplc.discovery) ∧ OnlyChanges [.gplc, .log, .win] s t) ∧
    (routeUsable q s.dev = true → Committed s → Completes (.packetDropped q false sends) s fun t =>
      (∀ k < 3, k ≠ 1 → t.dev.gplc.queue k = if k = q then rest else s.dev.gplc.queue k) ∧
        nth 0 t.dev.gplc.counters (8 * q + 2) = nth 0 s.dev.gplc.counters (8 * q + 2) + 1 ∧
        (p.dest = none → t.dev.gplc.queue 1 = (if q = 1 then rest else s.dev.gplc.queue 1) ∧
          t.dev.gplc.discovery = s.dev.gplc.discovery) ∧
        (∀ a, p.dest = some a → a ∈ t.dev.gplc.discovery ∧ (t.dev.gplc.route a).all Route.failed = true ∧
          (a ∉ s.dev.gplc.discovery → (s.dev.gplc.queue 1).length < 32 →
            t.dev.gplc.queue 1 = (if q = 1 then rest else s.dev.gplc.queue 1) ++ [⟨.own, none, s.clk.frame, some 0⟩])) ∧
        OnlyChanges [.gplc, .log, .win] s t)) ∧
  (∀ (q : Nat) (p : Packet) (s : State), q < 3 → s.dev.gplc.queues.length = 3 →
    (s.dev.gplc.queue q).find? (fun p => decide (p.kind ≠ .gasp) && decide (p.at_ + queueLimit q ≤ s.clk.frame)) =
      some p → Completes (.queueTimeout q) s fun t =>
        t.dev.gplc.queue q = (s.dev.gplc.queue q).erase p ∧
          t.dev.gplc = { s.dev.gplc with
            queues := t.dev.gplc.queues, counters := s.dev.gplc.counters.modify (8 * q + 4) (· + 1) } ∧
          OnlyChanges [.gplc] s t) ∧
  (∀ s : State, s.clk.running = true → gaspSentDue s.clk.frame s.dev = true → Completes .lastGaspSent s fun t =>
    t.dev.gplc.gasp = 2 ∧ Logs Src.grid Event.LAST_GASP_SENT (leBytes 4 (s.clk.frame - s.dev.gplc.gaspFrame)) s t ∧
      (s.dev.gplc.queues.length = 3 → ∀ p ∈ t.dev.gplc.queue 0, p.kind ≠ .gasp) ∧ OnlyChanges [.gplc, .log] s t) ∧
  (∀ (airUs : Nat) (s : State), s.clk.running = true → s.dev.gplc.gasp = 1 →
    125 * (s.dev.gplc.gaspFrame + 400) ≤ 125 * s.clk.frame + airUs → Completes (.lastGaspAbandoned airUs) s fun t =>
    t.dev.gplc.gasp = 3 ∧ Logged Src.grid Event.LAST_GASP_ABANDONED [] t ∧
      Logged Src.own Event.LAST_GASP (leBytes 8 s.clk.frame ++ leBytes 4 s.dev.tar.rtc) t ∧
      t.dev.win.shadow.irqSet.getLsbD 7 = true ∧
      (s.dev.gplc.queues.length = 3 → ∀ p ∈ t.dev.gplc.queue 0, p.kind ≠ .gasp) ∧ OnlyChanges [.gplc, .log, .win] s t) ∧
  (∀ s : State, s.clk.running = true → modemShedDue s.clk.frame s.dev = true → Completes .modemShed s fun t =>
    t.dev.pow = { s.dev.pow with modemShed := true } ∧ (∀ q < 3, t.dev.gplc.queue q = []) ∧
      (s.dev.gplc.gasp = 1 → t.dev.gplc.gasp = 3 ∧ Logged Src.grid Event.LAST_GASP_ABANDONED [] t) ∧
      (s.dev.gplc.gasp ≠ 1 → t.dev.gplc.gasp = s.dev.gplc.gasp ∧ t.dev.log = s.dev.log) ∧
      OnlyChanges [.gplc, .log, .win, .pow] s t)

/-- The head-end (R23, R356, R357, R360, R361, R400): associations open within their limits and their right; a request is
executed after the host's slots of the frame; a management request needs its tag, its keys and a rising counter, and is
otherwise counted, logged and refused; a repeat within 60 s is answered from the journal; a public association changes nothing
beyond its own answers, and what it may not do is denied; alarms are pushed again; an image comes block by block; and a key
unwrapped by the KEK takes its slot. The numbers of the DLMS results are the model's (log entry 41). -/
def Obligations.HeadEndRows : Prop :=
  (∀ (sap suite : Nat) (authentic : Bool) (s : State), joined s = true →
    (4 ≤ s.dev.dlms.assocs.length → Committed s → Completes (.dlmsAssociated sap suite authentic) s fun t => t = s) ∧
    (s.dev.dlms.assocs.length < 4 → sap = 0x10 → Committed s → Completes (.dlmsAssociated sap suite authentic) s fun t =>
      t.dev.dlms = { s.dev.dlms with
        assocs := s.dev.dlms.assocs ++ [{ id := s.dev.dlms.nextAssoc, mgmt := false, lastReq := s.clk.frame }]
        nextAssoc := s.dev.dlms.nextAssoc + 1 } ∧
        Logs Src.grid Event.DLMS_ASSOCIATED [0x10] s t ∧ OnlyChanges [.dlms, .log] s t) ∧
    (s.dev.dlms.assocs.length < 4 → sap = 1 → (∀ a ∈ s.dev.dlms.assocs, a.mgmt = false) →
      suite = s.dev.nat Param.DLMS_SUITE → authentic = true → suiteKeys suite s.dev = true →
      Committed s → Completes (.dlmsAssociated sap suite authentic) s fun t =>
        t.dev.dlms = { s.dev.dlms with
          assocs := s.dev.dlms.assocs ++ [{ id := s.dev.dlms.nextAssoc, mgmt := true, lastReq := s.clk.frame }]
          nextAssoc := s.dev.dlms.nextAssoc + 1 } ∧
          Logs Src.grid Event.DLMS_ASSOCIATED [1] s t ∧ OnlyChanges [.dlms, .log] s t) ∧
    (s.dev.dlms.assocs.length < 4 → sap = 1 → (∀ a ∈ s.dev.dlms.assocs, a.mgmt = false) →
      suite = s.dev.nat Param.DLMS_SUITE → authentic = false →
        Committed s → Completes (.dlmsAssociated sap suite authentic) s fun t =>
        t.dev.dlms.assocs = s.dev.dlms.assocs ∧ t.dev.dlms.secFails = s.dev.dlms.secFails + 1 ∧
          t.dev.gplc = { s.dev.gplc with counters := s.dev.gplc.counters.modify 25 (· + 1) } ∧
          (∃ e ∈ t.dev.log.now, e.src = Src.grid ∧ e.code = Event.DLMS_SECURITY_FAILED ∧ e.data = [0]) ∧
          OnlyChanges [.dlms, .log, .gplc] s t)) ∧
  (∀ (x : Apdu) (a : Assoc) (s u : State), assocOf x.assoc s.dev = some a → joined s = true → s.serving = true →
    mailboxScan s = u →
    (a.mgmt = true → x.authentic = false ∨ suiteKeys (u.dev.nat Param.DLMS_SUITE) u.dev = false ∨
      u.dev.dlms.lastIc.any (fun c => x.ic ≤ c) = true → Committed s → Completes (.dlmsApdu x) s fun t =>
        t.dev.dlms = { u.dev.dlms with secFails := u.dev.dlms.secFails + 1, secFrames := t.dev.dlms.secFrames } ∧
          (∃ e ∈ t.dev.log.now, e.src = Src.grid ∧ e.code = Event.DLMS_SECURITY_FAILED) ∧
          OnlyChanges [.dlms, .gplc, .log] u t) ∧
    (∀ j, a.mgmt = true → x.authentic = true → suiteKeys (u.dev.nat Param.DLMS_SUITE) u.dev = true →
      u.dev.dlms.lastIc.any (fun c => x.ic ≤ c) = false → keptAnswer u.clk.frame a x = some j →
      Committed s → Completes (.dlmsApdu x) s fun t =>
        t.dev.dlms.response = j.response ∧ t.dev.dlms.lastIc = some x.ic ∧ OnlyChanges [.dlms, .gplc] u t) ∧
    (a.mgmt = true → x.authentic = true → suiteKeys (u.dev.nat Param.DLMS_SUITE) u.dev = true →
      u.dev.dlms.lastIc.any (fun c => x.ic ≤ c) = false → keptAnswer u.clk.frame a x = none → x.items = [] →
      Committed s → Completes (.dlmsApdu x) s fun t =>
        t.dev.dlms.response = leBytes 1 x.invoke ∧ t.dev.dlms.lastIc = some x.ic ∧
          t.dev.dlms.alarms = u.dev.dlms.alarms &&& ~~~ x.alarmReset ∧
          t.dev.dlms.filter = x.alarmFilter.getD u.dev.dlms.filter ∧ OnlyChanges [.dlms, .gplc] u t) ∧
    (a.mgmt = false → Committed s → Completes (.dlmsApdu x) s fun t => t.dev.dlms.lastIc = u.dev.dlms.lastIc ∧
      t.dev.dlms.alarms = u.dev.dlms.alarms ∧ t.dev.dlms.filter = u.dev.dlms.filter ∧
      (∀ i ∈ x.items, x.items = [i] → itemAllowed false i = false → keptAnswer u.clk.frame a x = none →
        t.dev.dlms.response = leBytes 1 x.invoke ++ leBytes 1 Dar.readWriteDenied ∧ t.dev.acs = u.dev.acs) ∧
      OnlyChanges [.dlms, .gplc, .acs, .pow] u t)) ∧
  (∀ (k : Nat) (a : Assoc) (s : State), s.clk.running = true → assocOf k s.dev = some a →
    a.lastReq + secs (s.dev.nat Param.DLMS_INACTIVITY) ≤ s.clk.frame →
      Committed s → Completes (.dlmsInactivity k) s fun t =>
      t.dev.dlms = { s.dev.dlms with assocs := s.dev.dlms.assocs.filter fun x => x.id ≠ a.id } ∧
        assoc t.dev.acs.assocSets a.id = none ∧
        Logged Src.grid Event.DLMS_ASSOCIATED [if a.mgmt then 1 else 0x10] t ∧ OnlyChanges [.dlms, .log, .acs] s t) ∧
  (∀ s : State, s.clk.running = true → pushDue s.clk.frame s.dev = true → Completes .pushRetry s fun t =>
    t.dev.dlms.pushFrame = some s.clk.frame ∧ t.dev.dlms.alarms = s.dev.dlms.alarms ∧
      (s.dev.gplc.queues.length = 3 → s.dev.pow.st ≠ .hold → modemUp s.dev = true →
        (∃ b ∈ s.dev.blk Param.PUSH_DESTINATION, b ≠ 0) → (s.dev.gplc.queue 0).length < 8 →
        t.dev.gplc.queue 0 = s.dev.gplc.queue 0 ++ [⟨.push, (coordRoute s.dev.gplc).map Route.dest, s.clk.frame, none⟩]) ∧
      OnlyChanges [.dlms, .gplc] s t) ∧
  (∀ (ident : List Byte) (size : Nat) (s : State), managed s = true → s.dev.upd.activation = none →
    jobOf .staging s.dev = none → ident = asciiPad 6 "KM7720" → 0 < size → size ≤ 8388608 →
    Committed s → Completes (.imageTransferInitiate ident size) s fun t =>
      t.dev.dlms.image = some (ident, size) ∧ t.dev.dlms.response = [0] ∧
        (s.dev.dlms.image = some (ident, size) → t.dev.dlms.blocks = s.dev.dlms.blocks ∧ t.dev.upd = s.dev.upd) ∧
        (s.dev.dlms.image ≠ some (ident, size) → t.dev.dlms.blocks = [] ∧ t.dev.upd.st = 1 ∧
          t.dev.upd.stagedLen = size ∧ t.dev.upd.staged = []) ∧
        t.dev.upd.activeSet = s.dev.upd.activeSet ∧ OnlyChanges [.dlms, .upd, .log] s t) ∧
  (∀ (block size : Nat) (ident data : List Byte) (readBack : Bool) (s : State), managed s = true →
    s.dev.upd.activation = none → s.dev.dlms.image = some (ident, size) → block < transferBlocks size s.dev →
    data.length = min (s.dev.nat Param.IMAGE_BLOCK_SIZE) (size - s.dev.nat Param.IMAGE_BLOCK_SIZE * block) →
    Committed s → Completes (.imageBlockTransfer block data readBack) s fun t =>
      ((assoc s.dev.dlms.blocks block).isSome = true →
        t.dev.dlms = { s.dev.dlms with response := [0] } ∧ t.dev.upd = s.dev.upd) ∧
      (assoc s.dev.dlms.blocks block = none → readBack = false →
        t.dev.dlms = { s.dev.dlms with response := [2] } ∧ t.dev.upd = s.dev.upd) ∧
      (assoc s.dev.dlms.blocks block = none → readBack = true →
        s.dev.dlms.blocks.length + 1 < transferBlocks size s.dev →
        t.dev.dlms = { s.dev.dlms with blocks := insertId s.dev.dlms.blocks block data, response := [0] } ∧
          t.dev.upd = s.dev.upd) ∧
      (assoc s.dev.dlms.blocks block = none → readBack = true →
        transferBlocks size s.dev ≤ s.dev.dlms.blocks.length + 1 →
        t.dev.dlms.image = none ∧ t.dev.upd.st = 2 ∧
          t.dev.upd.staged = ((insertId s.dev.dlms.blocks block data).map Prod.snd).flatten ∧
          Logged Src.grid Event.IMAGE_TRANSFER_COMPLETE (leBytes 4 (transferBlocks size s.dev)) t) ∧
      t.dev.upd.activeSet = s.dev.upd.activeSet ∧ OnlyChanges [.dlms, .upd, .log] s t) ∧
  (∀ (k : Nat) (wrapped : List Byte) (s : State), s.clk.running = true → 5 ≤ k → k ≤ 7 →
    (keySlot s.dev 7).kind ≠ 0 → s.dev.dlms.assocs.any Assoc.mgmt = true → k < s.dev.keys.slots.length →
    Committed s → Completes (.keyTransfer k wrapped) s fun t =>
      ((Config.unwrap (keySlot s.dev 7).material wrapped).length ≠ 16 → t = s) ∧
      ((Config.unwrap (keySlot s.dev 7).material wrapped).length = 16 →
        ((Config.unwrap (keySlot s.dev 7).material wrapped).all (· = 0) = true → (keySlot t.dev k).kind = 0) ∧
        ((Config.unwrap (keySlot s.dev 7).material wrapped).all (· = 0) = false → (keySlot t.dev k).kind = 3 ∧
          (keySlot t.dev k).material = Config.unwrap (keySlot s.dev 7).material wrapped) ∧
        (∀ i < 16, i ≠ k → keySlot t.dev i = keySlot s.dev i) ∧
        (k = 5 → t.dev.dlms.lastIc = none)) ∧ OnlyChanges [.dlms, .keys, .log] s t)

/-- The contactless reader (R367, R371 to R374, R376): a ping below the threshold joins the baseline; one above it polls, and
raises the threshold where no card is found; every card that a poll identifies is present; a listed card authorises and
a blocked one is only logged; absent cards go; waiting time is granted up to its total, and a card that has not answered for
its frame waiting time is given up (its unit is the family's, log entry 164); a failed field self-test, of which the fault is a
failed run, makes card authorisation unavailable. -/
def Obligations.ReaderRows : Prop :=
  (∀ (re im : Int) (ans : PollAns) (s : State), pingDue s = true →
    (detuned s.dev.nfc.baseline (re, im) s.dev.nfc.threshold = false →
      Committed s → Completes (.gauzePing re im ans) s fun t =>
      t.dev.nfc.baseline = ((re, im) :: s.dev.nfc.baseline).take 16 ∧ t.dev.nfc.pingAt = s.clk.frame ∧
        t.dev.nfc.cards = [] ∧ t.dev.nfc.threshold ≤ max s.dev.nfc.threshold (s.dev.nat Param.PING_THR) ∧
        OnlyChanges [.nfc] s t) ∧
    (detuned s.dev.nfc.baseline (re, im) s.dev.nfc.threshold = true → (pollCards s.dev ans).1 = [] →
      Committed s → Completes (.gauzePing re im ans) s fun t =>
        t.dev.nfc.falseCount = s.dev.nfc.falseCount + 1 ∧ t.dev.nfc.baseline = [(re, im)] ∧ t.dev.nfc.cards = [] ∧
          t.dev.nfc.threshold = min (4 * s.dev.nat Param.PING_THR) (s.dev.nfc.threshold * 125 / 100) ∧
          OnlyChanges [.nfc, .log] s t) ∧
    (detuned s.dev.nfc.baseline (re, im) s.dev.nfc.threshold = true → (pollCards s.dev ans).1 ≠ [] →
      Committed s → Completes (.gauzePing re im ans) s fun t => t.dev.nfc.cards ≠ [] ∧
        (∀ c ∈ (pollCards s.dev ans).1, ∃ y ∈ t.dev.nfc.cards,
          (y.kind, y.ident) = identify s.dev c ∧ y.lastSeen = s.clk.frame) ∧
        OnlyChanges [.lanes, .pow, .acs, .log, .led, .veh, .ses, .dc, .saf, .nfc, .keys] s t)) ∧
  (∀ (ans : PollAns) (s : State), readerRuns s = true → s.dev.nfc.cards ≠ [] →
    s.dev.nfc.pollAt + 2000 ≤ s.clk.frame →
    (Committed s → Completes (.pollWhilePresent ans) s fun t => t.dev.nfc.pollAt = s.clk.frame ∧
      (∀ c ∈ (pollCards s.dev ans).1, ∃ y ∈ t.dev.nfc.cards,
        (y.kind, y.ident) = identify s.dev c ∧ y.lastSeen = s.clk.frame) ∧
      OnlyChanges [.lanes, .pow, .acs, .log, .led, .veh, .ses, .dc, .saf, .nfc, .keys] s t) ∧
    (∀ (c : CardAns) (k : Nat) (x : List Byte), (pollCards s.dev ans).1 = [c] → identify s.dev c = (k, x) →
      isRandom (k, x) = false → (∀ y ∈ s.dev.nfc.cards, y.kind ≠ k ∨ y.ident ≠ x) → s.dev.nfc.swapAt = none →
      (∀ e, findEntry s.dev k x = some e → (fieldAt e 12 1).testBit 0 = true →
        Committed s → Completes (.pollWhilePresent ans) s fun t => t.dev.ses = s.dev.ses ∧
          Logged Src.card Event.AUTH_BLOCKED (leBytes 1 x.length ++ x) t ∧
          t.dev.nfc.lookups = s.dev.nfc.lookups + 1 ∧ t.dev.nfc.hits = s.dev.nfc.hits + 1 ∧
          OnlyChanges [.log, .nfc] s t) ∧
      (∀ e, findEntry s.dev k x = some e → fieldAt e 12 1 = 0 → s.dev.ses.auth = none → s.dev.ses.request = none →
        s.dev.ses.heldCard = none → s.dev.ses.endedAt ≠ some s.clk.frame → pilotMode s.clk.mode = true →
        s.dev.veh.contract ≠ 1 → s.dev.veh.contract ≠ 4 → Committed s → Completes (.pollWhilePresent ans) s fun t =>
          (t.dev.ses.auth.map fun a => (a.means, a.id)) = some (2, x) ∧
            Logged Src.card Event.AUTHORISED ([2] ++ leBytes 1 x.length ++ x) t))) ∧
  (∀ (k : Nat) (x : List Byte) (s : State), Completes (.cardAbsent k x) s fun t =>
    t.dev.nfc = { s.dev.nfc with cards := t.dev.nfc.cards } ∧
      (∀ c ∈ s.dev.nfc.cards, (c ∈ t.dev.nfc.cards ↔ ¬(c.kind = k ∧ c.ident = x ∧
        c.lastSeen + ms (s.dev.nat Param.CARD_ABSENT_TIME) ≤ s.clk.frame))) ∧
      (∀ c ∈ t.dev.nfc.cards, c ∈ s.dev.nfc.cards) ∧ OnlyChanges [.nfc] s t) ∧
  (∀ (w : Nat) (s : State), readerRuns s = true →
    (s.dev.nfc.wtxTotal + w ≤ s.dev.nat Param.WTX_MAX_TOTAL → Committed s → Completes (.sWtxRequest w) s fun t =>
      t.dev.nfc = { s.dev.nfc with wtxTotal := s.dev.nfc.wtxTotal + w } ∧ OnlyChanges [.nfc] s t) ∧
    (s.dev.nat Param.WTX_MAX_TOTAL < s.dev.nfc.wtxTotal + w → Committed s → Completes (.sWtxRequest w) s fun t =>
      t.dev.nfc = { s.dev.nfc with wtxTotal := 0 } ∧ Logs Src.card Event.CARD_TIMEOUT [] s t ∧
        OnlyChanges [.nfc, .log] s t) ∧
    (∀ fwi us : Nat, fwtNs fwi ≤ 1000 * us →
      Completes (.cardTimeout fwi us) s fun t => t.dev.nfc = { s.dev.nfc with wtxTotal := 0 } ∧
      Logs Src.card Event.CARD_TIMEOUT [] s t ∧ OnlyChanges [.nfc, .log] s t)) ∧
  (∀ (amplitude stored : Nat) (s : State), readerRuns s = true → s.dev.nfc.cards = [] →
    30 * stored < 100 * ((amplitude : Int) - stored).natAbs → Completes (.readerFault amplitude stored) s fun t =>
      t.dev.nfc = { s.dev.nfc with fault := true } ∧ readerRuns t = false ∧
        t.dev.diag.summary.getLsbD 10 = true ∧ Logged Src.card Event.READER_FAULT (leBytes 4 amplitude) t ∧
        OnlyChanges [.nfc, .diag, .log] s t)

/-- The Calico island (R381 to R386): a selection fixes the newest image for its reads; reads and updates stay inside their
file; a trigger commits a good package to the bank that is not in force, and a bad one changes no bank; a collapse of
the field leaves either the old or the new commit whole; the harvesting output follows field, enable and supply, goes off
where the supply falls short, and comes back after 10 ms of sufficient field. -/
def Obligations.CalicoRows : Prop :=
  (∀ (f : BitVec 16) (s : State),
    (fileKnown s.dev f.toNat = true → Completes (.calicoSelect f) s fun t =>
      t.dev.cal = { s.dev.cal with
        selected := f.toNat, ended := false, response := [], sw := 0x9000
        held := if f = 0xE1C2 then some (newestSlot s.dev.cal) else none
        heldImage := if f = 0xE1C2 then newestBytes s.dev else [] } ∧ OnlyChanges [.cal] s t) ∧
    (fileKnown s.dev f.toNat = false → Completes (.calicoSelect f) s fun t =>
      t.dev.cal = { s.dev.cal with response := [], sw := t.dev.cal.sw } ∧ OnlyChanges [.cal] s t)) ∧
  (∀ (off len : Nat) (s : State),
    (s.dev.cal.ended = true → Completes (.calicoReadBinary off len) s fun t =>
      t.dev.cal = { s.dev.cal with ended := false, selected := 0, heldImage := [], response := [], sw := 0x6985 } ∧
        OnlyChanges [.cal] s t) ∧
    (∀ c, s.dev.cal.ended = false → fileContent s.dev = some c → Completes (.calicoReadBinary off len) s fun t =>
      t.dev.cal = { s.dev.cal with response := (c.drop off).take (min len 246), sw := 0x9000 } ∧
        OnlyChanges [.cal] s t) ∧
    (s.dev.cal.ended = false → fileContent s.dev = none → Completes (.calicoReadBinary off len) s fun t =>
      t.dev.cal = { s.dev.cal with response := [], sw := t.dev.cal.sw } ∧ OnlyChanges [.cal] s t)) ∧
  (∀ (off : Nat) (data : List Byte) (s : State),
    (s.dev.cal.selected = 0xE1C3 → data.length ≤ 240 → off + data.length ≤ 4096 →
      Completes (.calicoUpdateBinary off data) s fun t =>
        (t.dev.cal.buffer.drop off).take data.length = data ∧
          t.dev.cal.buffer.take off =
            (s.dev.cal.buffer ++ List.replicate (off + data.length - s.dev.cal.buffer.length) 0).take off ∧
          t.dev.cal.buffer.drop (off + data.length) = s.dev.cal.buffer.drop (off + data.length) ∧
          t.dev.cal = { s.dev.cal with buffer := t.dev.cal.buffer, response := [], sw := 0x9000 } ∧
          OnlyChanges [.cal] s t) ∧
    (s.dev.cal.selected ≠ 0xE1C3 ∨ 240 < data.length ∨ 4096 < off + data.length →
      Completes (.calicoUpdateBinary off data) s fun t =>
        t.dev.cal = { s.dev.cal with response := [], sw := t.dev.cal.sw } ∧ OnlyChanges [.cal] s t)) ∧
  (∀ (len : Nat) (crc : Word) (s : State), s.dev.cal.selected = 0xE1C4 →
    (packageOk len crc.toNat s.dev.cal.buffer = false → Completes (.calicoTrigger len crc) s fun t =>
      t.dev.cal = { s.dev.cal with response := [], sw := 0x6984 } ∧ OnlyChanges [.cal] s t) ∧
    (packageOk len crc.toNat s.dev.cal.buffer = true → Completes (.calicoTrigger len crc) s fun t =>
      t.dev.cal.commitSeq = s.dev.cal.commitSeq + 1 ∧ t.dev.cal.attemptSeq = s.dev.cal.commitSeq + 1 ∧
        t.dev.cal.length = len ∧ t.dev.cal.bank = (if s.dev.cal.bank = 1 then 0 else 1) ∧
        (if t.dev.cal.bank = 1 then t.dev.cal.bank1 else t.dev.cal.bank0) = s.dev.cal.buffer.take len ∧
        (if t.dev.cal.bank = 1 then t.dev.cal.bank0 = s.dev.cal.bank0 else t.dev.cal.bank1 = s.dev.cal.bank1) ∧
        t.dev.cal.sw = 0x9000 ∧ OnlyChanges [.cal] s t)) ∧
  (∀ (p : CollapsePoint) (s : State), Completes (.calicoFieldCollapse p) s fun t =>
    t.dev.cal.buffer = [] ∧ t.dev.cal.selected = 0 ∧ t.dev.cal.held = none ∧ t.dev.cal.heldImage = [] ∧
      t.dev.cal.harvOut = false ∧
      (p = .receive ∨ p = .check ∨ p = .stagingWrite ∨ p = .commitOld →
        t.dev.cal.commitSeq = s.dev.cal.commitSeq ∧ t.dev.cal.bank = s.dev.cal.bank ∧
          t.dev.cal.bank0 = s.dev.cal.bank0 ∧ t.dev.cal.bank1 = s.dev.cal.bank1) ∧
      (packageOk (fieldAt s.dev.cal.buffer 6 2) (fieldAt s.dev.cal.buffer (fieldAt s.dev.cal.buffer 6 2 - 4) 4)
        s.dev.cal.buffer = true →
        (p = .stagingWrite ∨ p = .commitOld → t.dev.cal.attemptSeq = s.dev.cal.commitSeq + 1) ∧
        (p = .commitNew ∨ p = .acknowledge → t.dev.cal.commitSeq = s.dev.cal.commitSeq + 1 ∧
          t.dev.cal.bank ≠ s.dev.cal.bank)) ∧ OnlyChanges [.cal] s t) ∧
  (∀ (field goodMs : Nat) (supplyOk : Bool) (s : State), Completes (.harvOutChange field supplyOk goodMs) s fun t =>
    t.dev.cal = { s.dev.cal with harvOut := t.dev.cal.harvOut, harvShort := t.dev.cal.harvShort } ∧
      (t.dev.cal.harvShort = true ↔ supplyOk = false ∨ (s.dev.cal.harvShort = true ∧ goodMs < 10)) ∧
      (t.dev.cal.harvOut = true ↔ 250 ≤ field ∧ s.dev.nat Param.HARV_OUT_ENABLE = 1 ∧ t.dev.cal.harvShort = false) ∧
      OnlyChanges [.cal] s t)

/-- The battery domain (R391 to R393, R404 to R409): cells are judged in MAINS, low and failed ones are logged once and a
cell that has recovered for 60 s is restored; losing and regaining supply erases the vault; a source acts by its class,
and class 3 clears the keys at once; the frame after an erasure ends the session and the jobs that use the keys, counts an
erasure for want of supply (log entry 165), and asks for Quarantine, where a new root is drawn, as in Factory before the first
enrolment; the login nonce is drawn every 600 s. A job of the controller that finds eight running waits (log entry 145), and
the restoration of a cell is the end of BACKUP_CELL_LOW (log entry 169). -/
def Obligations.BatteryAndTamperRows : Prop :=
  (∀ (c mv : Nat) (s : State), s.clk.running = true → s.dev.pow.st = .mains → c = 1 ∨ c = 2 →
    Completes (.cellMeasurement c mv) s (CellJudged c mv false s) ∧
      Completes (.cellLoadTest c mv) s (CellJudged c mv true s)) ∧
  (∀ (c : Nat) (s : State), s.clk.running = true → s.dev.pow.st = .mains → c = 1 ∨ c = 2 →
    Completes (.cellRestored c) s fun t =>
      (t.dev.keys.cell c).low = ((s.dev.keys.cell c).low && decide ((s.dev.keys.cell c).aboveLow < 60)) ∧
      (t.dev.keys.cell c).failed = ((s.dev.keys.cell c).failed && decide ((s.dev.keys.cell c).aboveFail < 60)) ∧
      t.dev.keys.cell (3 - c) = s.dev.keys.cell (3 - c) ∧
      ((s.dev.keys.cell c).low = true → 60 ≤ (s.dev.keys.cell c).aboveLow →
        Logs Src.serge Event.BACKUP_CELL_LOW (leBytes 1 c ++ leBytesInt 4 (s.dev.keys.cell c).mv ++ [1]) s t) ∧
      ((s.dev.keys.cell c).low = false → (s.dev.keys.cell c).failed = true → 60 ≤ (s.dev.keys.cell c).aboveFail →
        Logs Src.serge Event.BACKUP_CELL_LOW (leBytes 1 c ++ leBytesInt 4 (s.dev.keys.cell c).mv ++ [1]) s t) ∧
      OnlyChanges [.log, .keys] s t) ∧
  (∀ s : State,
    (s.dev.keys.supplied = false → Completes .batteryDomainPowerUp s fun t =>
      t.dev.keys.supplied = true ∧ t.dev.keys.root = none ∧ t.dev.keys.slots = List.replicate 16 {} ∧
        t.dev.keys.erased = true ∧ t.dev.keys.erasePending = some (9, s.clk.frame) ∧
        t.dev.keys.vault = {} ∧ t.dev.tar.rtc = 0 ∧ t.dev.tar.status = 2 ∧
        (s.dev.tar.status ≠ 2 →
          Logs Src.metr Event.CLOCK_STATUS_CHANGED (leBytes 1 s.dev.tar.status ++ leBytes 1 2 ++ leBytes 1 0) s t) ∧
        OnlyChanges [.log, .tar, .keys] s t) ∧
    (s.clk.running = false → s.dev.keys.supplied = true → s.dev.pow.st = .dormant ∨ s.dev.pow.st = .off →
      Completes .batteryDomainSupplyLost s fun t =>
        t.dev.keys.supplied = false ∧ t.dev.keys.root = none ∧ t.dev.keys.slots = List.replicate 16 {} ∧
          t.dev.keys.vault = {} ∧ t.dev.keys.ring = [] ∧ t.dev.keys.cert = s.dev.keys.cert ∧
          t.dev.pow = { s.dev.pow with st := .off } ∧ OnlyChanges [.pow, .tar, .keys] s t)) ∧
  (∀ (k : Nat) (s : State), 1 ≤ k → k ≤ 8 → s.dev.keys.supplied = true →
    s.dev.keys.active.getLsbD (k - 1) = false → Completes (.tamperDetected k) s fun t =>
      (∀ b < 8, t.dev.keys.active.getLsbD b = (s.dev.keys.active.getLsbD b || decide (b = k - 1))) ∧
      (∀ b < 8, t.dev.keys.latched.getLsbD b = (s.dev.keys.latched.getLsbD b ||
        (decide (b = k - 1) && decide (2 ≤ tamperClass s.dev k)))) ∧
      (tamperClass s.dev k = 0 → t.dev.keys = { s.dev.keys with active := t.dev.keys.active }) ∧
      (1 ≤ tamperClass s.dev k → t.dev.keys.tamperCount = s.dev.keys.tamperCount + 1 ∧
        (t.dev.keys.ring.getLast?.map fun r => (r.source, r.cls, r.rtc)) =
          some (k, tamperClass s.dev k, s.dev.tar.rtc)) ∧
      (tamperClass s.dev k < 3 → t.dev.keys.slots = s.dev.keys.slots ∧ t.dev.keys.root = s.dev.keys.root ∧
        t.dev.keys.erased = s.dev.keys.erased ∧ t.dev.keys.vault = s.dev.keys.vault) ∧
      (tamperClass s.dev k = 3 → t.dev.keys.slots = List.replicate 16 {} ∧ t.dev.keys.root = none ∧
        t.dev.keys.erased = true ∧ t.dev.keys.erasePending = some (k, s.clk.frame) ∧
        t.dev.keys.vault = { s.dev.keys.vault with eraseCount := s.dev.keys.vault.eraseCount + 1 }) ∧
      t.dev.keys.cert = s.dev.keys.cert ∧ OnlyChanges [.keys] s t) ∧
  (∀ (k : Nat) (s : State), 1 ≤ k → k ≤ 8 → Completes (.tamperSourceInactive k) s fun t =>
    (∀ b < 8, t.dev.keys.active.getLsbD b = (s.dev.keys.active.getLsbD b && !decide (b = k - 1))) ∧
      t.dev.keys = { s.dev.keys with active := t.dev.keys.active } ∧ OnlyChanges [.keys] s t) ∧
  (∀ (src k : Nat) (s : State), s.clk.running = true → s.dev.keys.erasePending = some (src, k) → k < s.clk.frame →
    Completes .keysErased s fun t =>
      t.dev.ses.isOpen = false ∧ (∀ r ∈ t.dev.led.records, r.signState ≠ 1) ∧ t.dev.pow.reopened = true ∧
      (∀ j ∈ t.dev.acs.jobs ++ t.dev.acs.jobsWait, j.live = true → j.kind ≠ .signing ∧ j.kind ≠ .derive) ∧
      t.dev.keys.erasePending = none ∧ t.dev.keys.rootPending = true ∧
      t.dev.keys.vault.eraseCount = s.dev.keys.vault.eraseCount + (if src = 9 then 1 else 0) ∧
      t.dev.keys.copyA = t.dev.keys.vault ∧ t.dev.keys.copyB = t.dev.keys.vault ∧
      (s.clk.mode ≠ .factory → s.clk.mode ≠ .quarantine →
        ⟨.quarantine, .toQuarantine, causeEvent Event.KEYS_ERASED⟩ ∈ t.dev.pow.modeReqs) ∧
      t.dev.keys.identity = (if s.dev.keys.cert.isSome then 2 else 0) ∧ (s.dev.lanes.dispute = none → OutletOpened t) ∧
      Logged Src.serge Event.KEYS_ERASED (leBytes 1 src ++ leBytes 4 t.dev.keys.vault.eraseCount) t ∧
      OnlyChanges [.lanes, .pow, .win, .acs, .log, .led, .veh, .ses, .dc, .saf, .keys, .upd] s t) ∧
  (∀ s : State, s.clk.running = true → s.dev.keys.rootPending = true →
    s.clk.mode = .quarantine ∨ (s.clk.mode = .factory ∧ s.dev.keys.cert = none) →
    Completes .rootGenerated s fun t =>
      t.dev.keys.root = some (Config.trng s.dev.keys.draws 32) ∧ t.dev.keys.draws = s.dev.keys.draws + 1 ∧
      t.dev.keys.vault.rootGen = s.dev.keys.vault.rootGen + 1 ∧ t.dev.keys.rootPending = false ∧
      t.dev.keys.rootJob = some s.dev.acs.nextJob ∧
      ((if jobsFull s.dev then t.dev.acs.jobsWait else t.dev.acs.jobs).getLast?.map
        fun j => (j.id, j.kind, j.owner, j.st)) = some (s.dev.acs.nextJob, JobKind.derive, 0, 1) ∧
      Logged Src.serge Event.ROOT_GENERATED (leBytes 4 (s.dev.keys.vault.rootGen + 1)) t ∧
      OnlyChanges [.acs, .log, .gplc, .keys] s t) ∧
  (∀ s : State, s.clk.running = true → s.dev.keys.nonceFrame + 4800000 ≤ s.clk.frame →
    Completes .loginNonceRefresh s fun t =>
      t.dev.keys = { s.dev.keys with
        nonce := leBytes 16 (Config.trng s.dev.keys.draws 16).toNat, draws := s.dev.keys.draws + 1
        nonceFrame := s.clk.frame } ∧ OnlyChanges [.keys] s t)

/-- Activation and recovery (R428 to R432): SERGE, healthy and with the requests in agreement, moves the token to a lane that
has done its 800 frames of trial, and back in a revert; the commit frame makes the target set active and raises the manifest
counter; a revert before the hand-over ends at once, one after it restarts the old lane, and one of an activation by restart
asks for the restart that ends it; a boot ROM that finds both lanes bad serves recovery. -/
def Obligations.UpdateRows : Prop :=
  (∀ (a : Activation) (s : State), s.clk.running = true → s.dev.upd.activation = some a → a.byRestart = false →
    s.dev.lanes.sergeFault = false → s.dev.lanes.dispute = none →
    (a.revert = none → a.handed = false → trialDone a.lane s.dev = true → Completes .activationHandover s fun t =>
      t.dev.lanes.token = some a.lane ∧ (t.dev.lanes.get a.lane).st = .lead ∧
        (t.dev.lanes.get (laneOther a.lane)).st = .reset ∧ t.dev.lanes.takeovers = s.dev.lanes.takeovers + 1 ∧
        t.dev.upd.activation = some { a with handed := true } ∧ t.dev.upd.activeSet = s.dev.upd.activeSet ∧
        OnlyChanges [.lanes, .win, .log, .veh, .gplc, .nfc, .upd] s t) ∧
    (∀ c, a.revert = some c → trialDone (laneOther a.lane) s.dev = true → Completes .activationHandover s fun t =>
      t.dev.lanes.token = some (laneOther a.lane) ∧ t.dev.lanes.takeovers = s.dev.lanes.takeovers + 1 ∧
        t.dev.upd.st = 6 ∧ t.dev.upd.activation = none ∧ t.dev.upd.reverts = s.dev.upd.reverts + 1 ∧
        t.dev.upd.activeSet = s.dev.upd.activeSet ∧ t.dev.keys = s.dev.keys ∧
        Logged Src.host Event.UPDATE_REVERTED (leBytes 1 c) t ∧
        OnlyChanges [.lanes, .win, .log, .veh, .gplc, .nfc, .upd] s t)) ∧
  (∀ (a : Activation) (s : State), s.dev.upd.activation = some a → commitDue s a = true →
    Completes .updateActivated s fun t =>
      t.dev.upd.activeSet = a.target ∧ t.dev.upd.activation = none ∧ t.dev.upd.st = 0 ∧
        t.dev.upd.activations = s.dev.upd.activations + 1 ∧
        t.dev.keys.vault.manifest = max s.dev.keys.vault.manifest a.counter ∧
        t.dev.keys.vault.rollback.length = 5 ∧
        (∀ k < 5, nth 0 s.dev.keys.vault.rollback k ≤ nth 0 t.dev.keys.vault.rollback k) ∧
        t.dev.keys.copyA = t.dev.keys.vault ∧ t.dev.keys.copyB = t.dev.keys.vault ∧
        OnlyChanges [.log, .cal, .keys, .upd] s t) ∧
  (∀ (c : RevertCause) (a : Activation) (s : State), s.dev.upd.activation = some a → revertDue s a c = true →
    (a.byRestart = false → a.handed = false → Completes (.updateReverted c) s fun t =>
      t.dev.upd = { s.dev.upd with
        st := 6, result := 0, activation := none, trialSet := none, reverts := s.dev.upd.reverts + 1 } ∧
        Logs Src.host Event.UPDATE_REVERTED (leBytes 1 (revertCode c)) s t ∧
        t.dev.lanes.token = s.dev.lanes.token ∧
        t.dev.lanes.get (laneOther a.lane) = s.dev.lanes.get (laneOther a.lane) ∧
        OnlyChanges [.lanes, .log, .upd] s t) ∧
    (a.byRestart = false → a.handed = true → Completes (.updateReverted c) s fun t =>
      t.dev.upd = { s.dev.upd with activation := some { a with revert := some (revertCode c) } } ∧
        (t.dev.lanes.get (laneOther a.lane)).st = .reset ∧
        t.dev.lanes.get a.lane = s.dev.lanes.get a.lane ∧ t.dev.lanes.token = s.dev.lanes.token ∧
        OnlyChanges [.lanes, .upd] s t) ∧
    (a.byRestart = true → c ≠ .stopBefore → Completes (.updateReverted c) s fun t =>
      t.dev.upd = { s.dev.upd with
        activation := some { a with revert := some (revertCode c) }, restartDue := true } ∧ OnlyChanges [.upd] s t) ∧
    (a.byRestart = true → c = .stopBefore → Completes (.updateReverted c) s fun t =>
      t.dev.upd = { s.dev.upd with
        st := 6, result := 0, activation := none, trialSet := none, reverts := s.dev.upd.reverts + 1 } ∧
        Logs Src.host Event.UPDATE_REVERTED [2] s t ∧ OnlyChanges [.log, .upd] s t)) ∧
  (∀ s : State, s.clk.running = false → s.dev.upd.bootBad = true → Completes .bootRecovery s fun t =>
    t.dev.upd = { s.dev.upd with bootRecovery := true } ∧ OnlyChanges [.upd] s t)
end

