-- ==== Sys2Proof/Laws/Bytes.lean ====
section
/-!
SUPPORT. Bytes and numbers: what leBytes spells, and what slice and fieldAt read from a run that was put together.
-/

namespace Sys2Proof.Machine

@[simp] theorem leBytes_length (k n : Nat) : (leBytes k n).length = k := by
  induction k generalizing n with
  | zero => rfl
  | succ k ih => simp [leBytes, ih]

/-- Reading back the k bytes of a number gives it modulo 256^k. -/
theorem leNat_leBytes (k n : Nat) : leNat (leBytes k n) = n % 256 ^ k := by
  induction k generalizing n with
  | zero => simp [leBytes, leNat, Nat.mod_one]
  | succ k ih =>
    have h : n % 256 ^ (k + 1) = n % 256 + 256 * (n / 256 % 256 ^ k) := by
      rw [Nat.pow_add_one, Nat.mul_comm, Nat.mod_mul]
    rw [leBytes, leNat, ih, BitVec.toNat_ofNat, h]

@[simp] theorem slice_length (bs : List Byte) (off k : Nat) : (slice bs off k).length = k := by
  simp only [slice, List.length_append, List.length_replicate, List.length_take]
  omega

/-- The middle of three runs put together. -/
theorem slice_middle (a b c : List Byte) (off k : Nat) (ha : a.length = off) (hb : b.length = k) :
    slice (a ++ (b ++ c)) off k = b := by
  subst ha hb
  simp [slice]

/-- A number written at an offset reads back from there. -/
theorem fieldAt_middle (a c : List Byte) (off k n : Nat) (ha : a.length = off) :
    fieldAt (a ++ (leBytes k n ++ c)) off k = n % 256 ^ k := by
  rw [fieldAt, slice_middle a (leBytes k n) c off k ha (leBytes_length k n), leNat_leBytes]

end Sys2Proof.Machine
end

