-- ==== Sys2Proof/Laws/State.lean ====
section
/-!
SUPPORT. What each update of the state leaves: one lemma for each part and update, so that no later proof unfolds one.
-/

namespace Sys2Proof.Machine

/-! A change of `dev`. -/

@[simp] theorem State.onDev_dev (s : State) (f : Dev → Dev) : (s.onDev f).dev = f s.dev := rfl
@[simp] theorem State.onDev_clk (s : State) (f : Dev → Dev) : (s.onDev f).clk = s.clk := rfl
@[simp] theorem State.onDev_regs (s : State) (f : Dev → Dev) : (s.onDev f).regs = s.regs := rfl
@[simp] theorem State.onDev_pending (s : State) (f : Dev → Dev) : (s.onDev f).pending = s.pending := rfl
@[simp] theorem Dev.when_true (f : Dev → Dev) (d : Dev) : Dev.when true f d = f d := rfl
@[simp] theorem Dev.when_false (f : Dev → Dev) (d : Dev) : Dev.when false f d = d := rfl
@[simp] theorem whenS_true (f : State → State) (s : State) : whenS true f s = f s := rfl
@[simp] theorem whenS_false (f : State → State) (s : State) : whenS false f s = s := rfl

/-! `raise`. -/

@[simp] theorem Dev.raise_lanes (src code : Nat) (data : List Byte) (d : Dev) : (d.raise src code data).lanes = d.lanes := rfl
@[simp] theorem Dev.raise_pow (src code : Nat) (data : List Byte) (d : Dev) : (d.raise src code data).pow = d.pow := rfl
@[simp] theorem Dev.raise_win (src code : Nat) (data : List Byte) (d : Dev) : (d.raise src code data).win = d.win := rfl
@[simp] theorem Dev.raise_acs (src code : Nat) (data : List Byte) (d : Dev) : (d.raise src code data).acs = d.acs := rfl
@[simp] theorem Dev.raise_par (src code : Nat) (data : List Byte) (d : Dev) : (d.raise src code data).par = d.par := rfl
@[simp] theorem Dev.raise_samp (src code : Nat) (data : List Byte) (d : Dev) : (d.raise src code data).samp = d.samp := rfl
@[simp] theorem Dev.raise_metr (src code : Nat) (data : List Byte) (d : Dev) : (d.raise src code data).metr = d.metr := rfl
@[simp] theorem Dev.raise_led (src code : Nat) (data : List Byte) (d : Dev) : (d.raise src code data).led = d.led := rfl
@[simp] theorem Dev.raise_tar (src code : Nat) (data : List Byte) (d : Dev) : (d.raise src code data).tar = d.tar := rfl
@[simp] theorem Dev.raise_disp (src code : Nat) (data : List Byte) (d : Dev) : (d.raise src code data).disp = d.disp := rfl
@[simp] theorem Dev.raise_veh (src code : Nat) (data : List Byte) (d : Dev) : (d.raise src code data).veh = d.veh := rfl
@[simp] theorem Dev.raise_ses (src code : Nat) (data : List Byte) (d : Dev) : (d.raise src code data).ses = d.ses := rfl
@[simp] theorem Dev.raise_dc (src code : Nat) (data : List Byte) (d : Dev) : (d.raise src code data).dc = d.dc := rfl
@[simp] theorem Dev.raise_saf (src code : Nat) (data : List Byte) (d : Dev) : (d.raise src code data).saf = d.saf := rfl
@[simp] theorem Dev.raise_sw (src code : Nat) (data : List Byte) (d : Dev) : (d.raise src code data).sw = d.sw := rfl
@[simp] theorem Dev.raise_gplc (src code : Nat) (data : List Byte) (d : Dev) : (d.raise src code data).gplc = d.gplc := rfl
@[simp] theorem Dev.raise_dlms (src code : Nat) (data : List Byte) (d : Dev) : (d.raise src code data).dlms = d.dlms := rfl
@[simp] theorem Dev.raise_nfc (src code : Nat) (data : List Byte) (d : Dev) : (d.raise src code data).nfc = d.nfc := rfl
@[simp] theorem Dev.raise_cal (src code : Nat) (data : List Byte) (d : Dev) : (d.raise src code data).cal = d.cal := rfl
@[simp] theorem Dev.raise_keys (src code : Nat) (data : List Byte) (d : Dev) : (d.raise src code data).keys = d.keys := rfl
@[simp] theorem Dev.raise_upd (src code : Nat) (data : List Byte) (d : Dev) : (d.raise src code data).upd = d.upd := rfl
@[simp] theorem Dev.raise_diag (src code : Nat) (data : List Byte) (d : Dev) : (d.raise src code data).diag = d.diag := rfl

/-! `raiseMetr`. -/

@[simp] theorem Dev.raiseMetr_lanes (src code : Nat) (data : List Byte) (d : Dev) : (d.raiseMetr src code data).lanes = d.lanes := rfl
@[simp] theorem Dev.raiseMetr_pow (src code : Nat) (data : List Byte) (d : Dev) : (d.raiseMetr src code data).pow = d.pow := rfl
@[simp] theorem Dev.raiseMetr_win (src code : Nat) (data : List Byte) (d : Dev) : (d.raiseMetr src code data).win = d.win := rfl
@[simp] theorem Dev.raiseMetr_acs (src code : Nat) (data : List Byte) (d : Dev) : (d.raiseMetr src code data).acs = d.acs := rfl
@[simp] theorem Dev.raiseMetr_par (src code : Nat) (data : List Byte) (d : Dev) : (d.raiseMetr src code data).par = d.par := rfl
@[simp] theorem Dev.raiseMetr_samp (src code : Nat) (data : List Byte) (d : Dev) : (d.raiseMetr src code data).samp = d.samp := rfl
@[simp] theorem Dev.raiseMetr_metr (src code : Nat) (data : List Byte) (d : Dev) : (d.raiseMetr src code data).metr = d.metr := rfl
@[simp] theorem Dev.raiseMetr_led (src code : Nat) (data : List Byte) (d : Dev) : (d.raiseMetr src code data).led = d.led := rfl
@[simp] theorem Dev.raiseMetr_tar (src code : Nat) (data : List Byte) (d : Dev) : (d.raiseMetr src code data).tar = d.tar := rfl
@[simp] theorem Dev.raiseMetr_disp (src code : Nat) (data : List Byte) (d : Dev) : (d.raiseMetr src code data).disp = d.disp := rfl
@[simp] theorem Dev.raiseMetr_veh (src code : Nat) (data : List Byte) (d : Dev) : (d.raiseMetr src code data).veh = d.veh := rfl
@[simp] theorem Dev.raiseMetr_ses (src code : Nat) (data : List Byte) (d : Dev) : (d.raiseMetr src code data).ses = d.ses := rfl
@[simp] theorem Dev.raiseMetr_dc (src code : Nat) (data : List Byte) (d : Dev) : (d.raiseMetr src code data).dc = d.dc := rfl
@[simp] theorem Dev.raiseMetr_saf (src code : Nat) (data : List Byte) (d : Dev) : (d.raiseMetr src code data).saf = d.saf := rfl
@[simp] theorem Dev.raiseMetr_sw (src code : Nat) (data : List Byte) (d : Dev) : (d.raiseMetr src code data).sw = d.sw := rfl
@[simp] theorem Dev.raiseMetr_gplc (src code : Nat) (data : List Byte) (d : Dev) : (d.raiseMetr src code data).gplc = d.gplc := rfl
@[simp] theorem Dev.raiseMetr_dlms (src code : Nat) (data : List Byte) (d : Dev) : (d.raiseMetr src code data).dlms = d.dlms := rfl
@[simp] theorem Dev.raiseMetr_nfc (src code : Nat) (data : List Byte) (d : Dev) : (d.raiseMetr src code data).nfc = d.nfc := rfl
@[simp] theorem Dev.raiseMetr_cal (src code : Nat) (data : List Byte) (d : Dev) : (d.raiseMetr src code data).cal = d.cal := rfl
@[simp] theorem Dev.raiseMetr_keys (src code : Nat) (data : List Byte) (d : Dev) : (d.raiseMetr src code data).keys = d.keys := rfl
@[simp] theorem Dev.raiseMetr_upd (src code : Nat) (data : List Byte) (d : Dev) : (d.raiseMetr src code data).upd = d.upd := rfl
@[simp] theorem Dev.raiseMetr_diag (src code : Nat) (data : List Byte) (d : Dev) : (d.raiseMetr src code data).diag = d.diag := rfl

/-! `sergeRaise`. -/

@[simp] theorem Dev.sergeRaise_pow (stamp code : Nat) (data : List Byte) (d : Dev) : (d.sergeRaise stamp code data).pow = d.pow := rfl
@[simp] theorem Dev.sergeRaise_win (stamp code : Nat) (data : List Byte) (d : Dev) : (d.sergeRaise stamp code data).win = d.win := rfl
@[simp] theorem Dev.sergeRaise_acs (stamp code : Nat) (data : List Byte) (d : Dev) : (d.sergeRaise stamp code data).acs = d.acs := rfl
@[simp] theorem Dev.sergeRaise_par (stamp code : Nat) (data : List Byte) (d : Dev) : (d.sergeRaise stamp code data).par = d.par := rfl
@[simp] theorem Dev.sergeRaise_log (stamp code : Nat) (data : List Byte) (d : Dev) : (d.sergeRaise stamp code data).log = d.log := rfl
@[simp] theorem Dev.sergeRaise_samp (stamp code : Nat) (data : List Byte) (d : Dev) : (d.sergeRaise stamp code data).samp = d.samp := rfl
@[simp] theorem Dev.sergeRaise_metr (stamp code : Nat) (data : List Byte) (d : Dev) : (d.sergeRaise stamp code data).metr = d.metr := rfl
@[simp] theorem Dev.sergeRaise_led (stamp code : Nat) (data : List Byte) (d : Dev) : (d.sergeRaise stamp code data).led = d.led := rfl
@[simp] theorem Dev.sergeRaise_tar (stamp code : Nat) (data : List Byte) (d : Dev) : (d.sergeRaise stamp code data).tar = d.tar := rfl
@[simp] theorem Dev.sergeRaise_disp (stamp code : Nat) (data : List Byte) (d : Dev) : (d.sergeRaise stamp code data).disp = d.disp := rfl
@[simp] theorem Dev.sergeRaise_veh (stamp code : Nat) (data : List Byte) (d : Dev) : (d.sergeRaise stamp code data).veh = d.veh := rfl
@[simp] theorem Dev.sergeRaise_ses (stamp code : Nat) (data : List Byte) (d : Dev) : (d.sergeRaise stamp code data).ses = d.ses := rfl
@[simp] theorem Dev.sergeRaise_dc (stamp code : Nat) (data : List Byte) (d : Dev) : (d.sergeRaise stamp code data).dc = d.dc := rfl
@[simp] theorem Dev.sergeRaise_saf (stamp code : Nat) (data : List Byte) (d : Dev) : (d.sergeRaise stamp code data).saf = d.saf := rfl
@[simp] theorem Dev.sergeRaise_sw (stamp code : Nat) (data : List Byte) (d : Dev) : (d.sergeRaise stamp code data).sw = d.sw := rfl
@[simp] theorem Dev.sergeRaise_gplc (stamp code : Nat) (data : List Byte) (d : Dev) : (d.sergeRaise stamp code data).gplc = d.gplc := rfl
@[simp] theorem Dev.sergeRaise_dlms (stamp code : Nat) (data : List Byte) (d : Dev) : (d.sergeRaise stamp code data).dlms = d.dlms := rfl
@[simp] theorem Dev.sergeRaise_nfc (stamp code : Nat) (data : List Byte) (d : Dev) : (d.sergeRaise stamp code data).nfc = d.nfc := rfl
@[simp] theorem Dev.sergeRaise_cal (stamp code : Nat) (data : List Byte) (d : Dev) : (d.sergeRaise stamp code data).cal = d.cal := rfl
@[simp] theorem Dev.sergeRaise_keys (stamp code : Nat) (data : List Byte) (d : Dev) : (d.sergeRaise stamp code data).keys = d.keys := rfl
@[simp] theorem Dev.sergeRaise_upd (stamp code : Nat) (data : List Byte) (d : Dev) : (d.sergeRaise stamp code data).upd = d.upd := rfl
@[simp] theorem Dev.sergeRaise_diag (stamp code : Nat) (data : List Byte) (d : Dev) : (d.sergeRaise stamp code data).diag = d.diag := rfl

/-! `irq`. -/

@[simp] theorem Dev.irq_lanes (bits : BitVec 9) (d : Dev) : (d.irq bits).lanes = d.lanes := rfl
@[simp] theorem Dev.irq_pow (bits : BitVec 9) (d : Dev) : (d.irq bits).pow = d.pow := rfl
@[simp] theorem Dev.irq_acs (bits : BitVec 9) (d : Dev) : (d.irq bits).acs = d.acs := rfl
@[simp] theorem Dev.irq_par (bits : BitVec 9) (d : Dev) : (d.irq bits).par = d.par := rfl
@[simp] theorem Dev.irq_log (bits : BitVec 9) (d : Dev) : (d.irq bits).log = d.log := rfl
@[simp] theorem Dev.irq_samp (bits : BitVec 9) (d : Dev) : (d.irq bits).samp = d.samp := rfl
@[simp] theorem Dev.irq_metr (bits : BitVec 9) (d : Dev) : (d.irq bits).metr = d.metr := rfl
@[simp] theorem Dev.irq_led (bits : BitVec 9) (d : Dev) : (d.irq bits).led = d.led := rfl
@[simp] theorem Dev.irq_tar (bits : BitVec 9) (d : Dev) : (d.irq bits).tar = d.tar := rfl
@[simp] theorem Dev.irq_disp (bits : BitVec 9) (d : Dev) : (d.irq bits).disp = d.disp := rfl
@[simp] theorem Dev.irq_veh (bits : BitVec 9) (d : Dev) : (d.irq bits).veh = d.veh := rfl
@[simp] theorem Dev.irq_ses (bits : BitVec 9) (d : Dev) : (d.irq bits).ses = d.ses := rfl
@[simp] theorem Dev.irq_dc (bits : BitVec 9) (d : Dev) : (d.irq bits).dc = d.dc := rfl
@[simp] theorem Dev.irq_saf (bits : BitVec 9) (d : Dev) : (d.irq bits).saf = d.saf := rfl
@[simp] theorem Dev.irq_sw (bits : BitVec 9) (d : Dev) : (d.irq bits).sw = d.sw := rfl
@[simp] theorem Dev.irq_gplc (bits : BitVec 9) (d : Dev) : (d.irq bits).gplc = d.gplc := rfl
@[simp] theorem Dev.irq_dlms (bits : BitVec 9) (d : Dev) : (d.irq bits).dlms = d.dlms := rfl
@[simp] theorem Dev.irq_nfc (bits : BitVec 9) (d : Dev) : (d.irq bits).nfc = d.nfc := rfl
@[simp] theorem Dev.irq_cal (bits : BitVec 9) (d : Dev) : (d.irq bits).cal = d.cal := rfl
@[simp] theorem Dev.irq_keys (bits : BitVec 9) (d : Dev) : (d.irq bits).keys = d.keys := rfl
@[simp] theorem Dev.irq_upd (bits : BitVec 9) (d : Dev) : (d.irq bits).upd = d.upd := rfl
@[simp] theorem Dev.irq_diag (bits : BitVec 9) (d : Dev) : (d.irq bits).diag = d.diag := rfl

/-! `ckptDue`. -/

@[simp] theorem Dev.ckptDue_lanes (k : Nat) (d : Dev) : (d.ckptDue k).lanes = d.lanes := rfl
@[simp] theorem Dev.ckptDue_pow (k : Nat) (d : Dev) : (d.ckptDue k).pow = d.pow := rfl
@[simp] theorem Dev.ckptDue_win (k : Nat) (d : Dev) : (d.ckptDue k).win = d.win := rfl
@[simp] theorem Dev.ckptDue_acs (k : Nat) (d : Dev) : (d.ckptDue k).acs = d.acs := rfl
@[simp] theorem Dev.ckptDue_par (k : Nat) (d : Dev) : (d.ckptDue k).par = d.par := rfl
@[simp] theorem Dev.ckptDue_log (k : Nat) (d : Dev) : (d.ckptDue k).log = d.log := rfl
@[simp] theorem Dev.ckptDue_samp (k : Nat) (d : Dev) : (d.ckptDue k).samp = d.samp := rfl
@[simp] theorem Dev.ckptDue_metr (k : Nat) (d : Dev) : (d.ckptDue k).metr = d.metr := rfl
@[simp] theorem Dev.ckptDue_tar (k : Nat) (d : Dev) : (d.ckptDue k).tar = d.tar := rfl
@[simp] theorem Dev.ckptDue_disp (k : Nat) (d : Dev) : (d.ckptDue k).disp = d.disp := rfl
@[simp] theorem Dev.ckptDue_veh (k : Nat) (d : Dev) : (d.ckptDue k).veh = d.veh := rfl
@[simp] theorem Dev.ckptDue_ses (k : Nat) (d : Dev) : (d.ckptDue k).ses = d.ses := rfl
@[simp] theorem Dev.ckptDue_dc (k : Nat) (d : Dev) : (d.ckptDue k).dc = d.dc := rfl
@[simp] theorem Dev.ckptDue_saf (k : Nat) (d : Dev) : (d.ckptDue k).saf = d.saf := rfl
@[simp] theorem Dev.ckptDue_sw (k : Nat) (d : Dev) : (d.ckptDue k).sw = d.sw := rfl
@[simp] theorem Dev.ckptDue_gplc (k : Nat) (d : Dev) : (d.ckptDue k).gplc = d.gplc := rfl
@[simp] theorem Dev.ckptDue_dlms (k : Nat) (d : Dev) : (d.ckptDue k).dlms = d.dlms := rfl
@[simp] theorem Dev.ckptDue_nfc (k : Nat) (d : Dev) : (d.ckptDue k).nfc = d.nfc := rfl
@[simp] theorem Dev.ckptDue_cal (k : Nat) (d : Dev) : (d.ckptDue k).cal = d.cal := rfl
@[simp] theorem Dev.ckptDue_keys (k : Nat) (d : Dev) : (d.ckptDue k).keys = d.keys := rfl
@[simp] theorem Dev.ckptDue_upd (k : Nat) (d : Dev) : (d.ckptDue k).upd = d.upd := rfl
@[simp] theorem Dev.ckptDue_diag (k : Nat) (d : Dev) : (d.ckptDue k).diag = d.diag := rfl

/-! `reqMode`. -/

@[simp] theorem Dev.reqMode_lanes (m : Mode) (k : ReqKind) (cause : Nat) (d : Dev) : (d.reqMode m k cause).lanes = d.lanes := rfl
@[simp] theorem Dev.reqMode_win (m : Mode) (k : ReqKind) (cause : Nat) (d : Dev) : (d.reqMode m k cause).win = d.win := rfl
@[simp] theorem Dev.reqMode_acs (m : Mode) (k : ReqKind) (cause : Nat) (d : Dev) : (d.reqMode m k cause).acs = d.acs := rfl
@[simp] theorem Dev.reqMode_par (m : Mode) (k : ReqKind) (cause : Nat) (d : Dev) : (d.reqMode m k cause).par = d.par := rfl
@[simp] theorem Dev.reqMode_log (m : Mode) (k : ReqKind) (cause : Nat) (d : Dev) : (d.reqMode m k cause).log = d.log := rfl
@[simp] theorem Dev.reqMode_samp (m : Mode) (k : ReqKind) (cause : Nat) (d : Dev) : (d.reqMode m k cause).samp = d.samp := rfl
@[simp] theorem Dev.reqMode_metr (m : Mode) (k : ReqKind) (cause : Nat) (d : Dev) : (d.reqMode m k cause).metr = d.metr := rfl
@[simp] theorem Dev.reqMode_led (m : Mode) (k : ReqKind) (cause : Nat) (d : Dev) : (d.reqMode m k cause).led = d.led := rfl
@[simp] theorem Dev.reqMode_tar (m : Mode) (k : ReqKind) (cause : Nat) (d : Dev) : (d.reqMode m k cause).tar = d.tar := rfl
@[simp] theorem Dev.reqMode_disp (m : Mode) (k : ReqKind) (cause : Nat) (d : Dev) : (d.reqMode m k cause).disp = d.disp := rfl
@[simp] theorem Dev.reqMode_veh (m : Mode) (k : ReqKind) (cause : Nat) (d : Dev) : (d.reqMode m k cause).veh = d.veh := rfl
@[simp] theorem Dev.reqMode_ses (m : Mode) (k : ReqKind) (cause : Nat) (d : Dev) : (d.reqMode m k cause).ses = d.ses := rfl
@[simp] theorem Dev.reqMode_dc (m : Mode) (k : ReqKind) (cause : Nat) (d : Dev) : (d.reqMode m k cause).dc = d.dc := rfl
@[simp] theorem Dev.reqMode_saf (m : Mode) (k : ReqKind) (cause : Nat) (d : Dev) : (d.reqMode m k cause).saf = d.saf := rfl
@[simp] theorem Dev.reqMode_sw (m : Mode) (k : ReqKind) (cause : Nat) (d : Dev) : (d.reqMode m k cause).sw = d.sw := rfl
@[simp] theorem Dev.reqMode_gplc (m : Mode) (k : ReqKind) (cause : Nat) (d : Dev) : (d.reqMode m k cause).gplc = d.gplc := rfl
@[simp] theorem Dev.reqMode_dlms (m : Mode) (k : ReqKind) (cause : Nat) (d : Dev) : (d.reqMode m k cause).dlms = d.dlms := rfl
@[simp] theorem Dev.reqMode_nfc (m : Mode) (k : ReqKind) (cause : Nat) (d : Dev) : (d.reqMode m k cause).nfc = d.nfc := rfl
@[simp] theorem Dev.reqMode_cal (m : Mode) (k : ReqKind) (cause : Nat) (d : Dev) : (d.reqMode m k cause).cal = d.cal := rfl
@[simp] theorem Dev.reqMode_keys (m : Mode) (k : ReqKind) (cause : Nat) (d : Dev) : (d.reqMode m k cause).keys = d.keys := rfl
@[simp] theorem Dev.reqMode_upd (m : Mode) (k : ReqKind) (cause : Nat) (d : Dev) : (d.reqMode m k cause).upd = d.upd := rfl
@[simp] theorem Dev.reqMode_diag (m : Mode) (k : ReqKind) (cause : Nat) (d : Dev) : (d.reqMode m k cause).diag = d.diag := rfl

/-! `setCause`. -/

@[simp] theorem Dev.setCause_lanes (k : Nat) (d : Dev) : (d.setCause k).lanes = d.lanes := rfl
@[simp] theorem Dev.setCause_win (k : Nat) (d : Dev) : (d.setCause k).win = d.win := rfl
@[simp] theorem Dev.setCause_acs (k : Nat) (d : Dev) : (d.setCause k).acs = d.acs := rfl
@[simp] theorem Dev.setCause_par (k : Nat) (d : Dev) : (d.setCause k).par = d.par := rfl
@[simp] theorem Dev.setCause_log (k : Nat) (d : Dev) : (d.setCause k).log = d.log := rfl
@[simp] theorem Dev.setCause_samp (k : Nat) (d : Dev) : (d.setCause k).samp = d.samp := rfl
@[simp] theorem Dev.setCause_metr (k : Nat) (d : Dev) : (d.setCause k).metr = d.metr := rfl
@[simp] theorem Dev.setCause_led (k : Nat) (d : Dev) : (d.setCause k).led = d.led := rfl
@[simp] theorem Dev.setCause_tar (k : Nat) (d : Dev) : (d.setCause k).tar = d.tar := rfl
@[simp] theorem Dev.setCause_disp (k : Nat) (d : Dev) : (d.setCause k).disp = d.disp := rfl
@[simp] theorem Dev.setCause_veh (k : Nat) (d : Dev) : (d.setCause k).veh = d.veh := rfl
@[simp] theorem Dev.setCause_ses (k : Nat) (d : Dev) : (d.setCause k).ses = d.ses := rfl
@[simp] theorem Dev.setCause_dc (k : Nat) (d : Dev) : (d.setCause k).dc = d.dc := rfl
@[simp] theorem Dev.setCause_saf (k : Nat) (d : Dev) : (d.setCause k).saf = d.saf := rfl
@[simp] theorem Dev.setCause_sw (k : Nat) (d : Dev) : (d.setCause k).sw = d.sw := rfl
@[simp] theorem Dev.setCause_gplc (k : Nat) (d : Dev) : (d.setCause k).gplc = d.gplc := rfl
@[simp] theorem Dev.setCause_dlms (k : Nat) (d : Dev) : (d.setCause k).dlms = d.dlms := rfl
@[simp] theorem Dev.setCause_nfc (k : Nat) (d : Dev) : (d.setCause k).nfc = d.nfc := rfl
@[simp] theorem Dev.setCause_cal (k : Nat) (d : Dev) : (d.setCause k).cal = d.cal := rfl
@[simp] theorem Dev.setCause_keys (k : Nat) (d : Dev) : (d.setCause k).keys = d.keys := rfl
@[simp] theorem Dev.setCause_upd (k : Nat) (d : Dev) : (d.setCause k).upd = d.upd := rfl
@[simp] theorem Dev.setCause_diag (k : Nat) (d : Dev) : (d.setCause k).diag = d.diag := rfl

/-! `onLane`. -/

@[simp] theorem Dev.onLane_pow (l : Lane) (f : LaneRec → LaneRec) (d : Dev) : (d.onLane l f).pow = d.pow := rfl
@[simp] theorem Dev.onLane_win (l : Lane) (f : LaneRec → LaneRec) (d : Dev) : (d.onLane l f).win = d.win := rfl
@[simp] theorem Dev.onLane_acs (l : Lane) (f : LaneRec → LaneRec) (d : Dev) : (d.onLane l f).acs = d.acs := rfl
@[simp] theorem Dev.onLane_par (l : Lane) (f : LaneRec → LaneRec) (d : Dev) : (d.onLane l f).par = d.par := rfl
@[simp] theorem Dev.onLane_log (l : Lane) (f : LaneRec → LaneRec) (d : Dev) : (d.onLane l f).log = d.log := rfl
@[simp] theorem Dev.onLane_samp (l : Lane) (f : LaneRec → LaneRec) (d : Dev) : (d.onLane l f).samp = d.samp := rfl
@[simp] theorem Dev.onLane_metr (l : Lane) (f : LaneRec → LaneRec) (d : Dev) : (d.onLane l f).metr = d.metr := rfl
@[simp] theorem Dev.onLane_led (l : Lane) (f : LaneRec → LaneRec) (d : Dev) : (d.onLane l f).led = d.led := rfl
@[simp] theorem Dev.onLane_tar (l : Lane) (f : LaneRec → LaneRec) (d : Dev) : (d.onLane l f).tar = d.tar := rfl
@[simp] theorem Dev.onLane_disp (l : Lane) (f : LaneRec → LaneRec) (d : Dev) : (d.onLane l f).disp = d.disp := rfl
@[simp] theorem Dev.onLane_veh (l : Lane) (f : LaneRec → LaneRec) (d : Dev) : (d.onLane l f).veh = d.veh := rfl
@[simp] theorem Dev.onLane_ses (l : Lane) (f : LaneRec → LaneRec) (d : Dev) : (d.onLane l f).ses = d.ses := rfl
@[simp] theorem Dev.onLane_dc (l : Lane) (f : LaneRec → LaneRec) (d : Dev) : (d.onLane l f).dc = d.dc := rfl
@[simp] theorem Dev.onLane_saf (l : Lane) (f : LaneRec → LaneRec) (d : Dev) : (d.onLane l f).saf = d.saf := rfl
@[simp] theorem Dev.onLane_sw (l : Lane) (f : LaneRec → LaneRec) (d : Dev) : (d.onLane l f).sw = d.sw := rfl
@[simp] theorem Dev.onLane_gplc (l : Lane) (f : LaneRec → LaneRec) (d : Dev) : (d.onLane l f).gplc = d.gplc := rfl
@[simp] theorem Dev.onLane_dlms (l : Lane) (f : LaneRec → LaneRec) (d : Dev) : (d.onLane l f).dlms = d.dlms := rfl
@[simp] theorem Dev.onLane_nfc (l : Lane) (f : LaneRec → LaneRec) (d : Dev) : (d.onLane l f).nfc = d.nfc := rfl
@[simp] theorem Dev.onLane_cal (l : Lane) (f : LaneRec → LaneRec) (d : Dev) : (d.onLane l f).cal = d.cal := rfl
@[simp] theorem Dev.onLane_keys (l : Lane) (f : LaneRec → LaneRec) (d : Dev) : (d.onLane l f).keys = d.keys := rfl
@[simp] theorem Dev.onLane_upd (l : Lane) (f : LaneRec → LaneRec) (d : Dev) : (d.onLane l f).upd = d.upd := rfl
@[simp] theorem Dev.onLane_diag (l : Lane) (f : LaneRec → LaneRec) (d : Dev) : (d.onLane l f).diag = d.diag := rfl

/-! `setNum`. -/

@[simp] theorem Dev.setNum_lanes (id : Nat) (v : Int) (d : Dev) : (d.setNum id v).lanes = d.lanes := rfl
@[simp] theorem Dev.setNum_pow (id : Nat) (v : Int) (d : Dev) : (d.setNum id v).pow = d.pow := rfl
@[simp] theorem Dev.setNum_win (id : Nat) (v : Int) (d : Dev) : (d.setNum id v).win = d.win := rfl
@[simp] theorem Dev.setNum_acs (id : Nat) (v : Int) (d : Dev) : (d.setNum id v).acs = d.acs := rfl
@[simp] theorem Dev.setNum_log (id : Nat) (v : Int) (d : Dev) : (d.setNum id v).log = d.log := rfl
@[simp] theorem Dev.setNum_samp (id : Nat) (v : Int) (d : Dev) : (d.setNum id v).samp = d.samp := rfl
@[simp] theorem Dev.setNum_metr (id : Nat) (v : Int) (d : Dev) : (d.setNum id v).metr = d.metr := rfl
@[simp] theorem Dev.setNum_led (id : Nat) (v : Int) (d : Dev) : (d.setNum id v).led = d.led := rfl
@[simp] theorem Dev.setNum_tar (id : Nat) (v : Int) (d : Dev) : (d.setNum id v).tar = d.tar := rfl
@[simp] theorem Dev.setNum_disp (id : Nat) (v : Int) (d : Dev) : (d.setNum id v).disp = d.disp := rfl
@[simp] theorem Dev.setNum_veh (id : Nat) (v : Int) (d : Dev) : (d.setNum id v).veh = d.veh := rfl
@[simp] theorem Dev.setNum_ses (id : Nat) (v : Int) (d : Dev) : (d.setNum id v).ses = d.ses := rfl
@[simp] theorem Dev.setNum_dc (id : Nat) (v : Int) (d : Dev) : (d.setNum id v).dc = d.dc := rfl
@[simp] theorem Dev.setNum_saf (id : Nat) (v : Int) (d : Dev) : (d.setNum id v).saf = d.saf := rfl
@[simp] theorem Dev.setNum_sw (id : Nat) (v : Int) (d : Dev) : (d.setNum id v).sw = d.sw := rfl
@[simp] theorem Dev.setNum_gplc (id : Nat) (v : Int) (d : Dev) : (d.setNum id v).gplc = d.gplc := rfl
@[simp] theorem Dev.setNum_dlms (id : Nat) (v : Int) (d : Dev) : (d.setNum id v).dlms = d.dlms := rfl
@[simp] theorem Dev.setNum_nfc (id : Nat) (v : Int) (d : Dev) : (d.setNum id v).nfc = d.nfc := rfl
@[simp] theorem Dev.setNum_cal (id : Nat) (v : Int) (d : Dev) : (d.setNum id v).cal = d.cal := rfl
@[simp] theorem Dev.setNum_keys (id : Nat) (v : Int) (d : Dev) : (d.setNum id v).keys = d.keys := rfl
@[simp] theorem Dev.setNum_upd (id : Nat) (v : Int) (d : Dev) : (d.setNum id v).upd = d.upd := rfl
@[simp] theorem Dev.setNum_diag (id : Nat) (v : Int) (d : Dev) : (d.setNum id v).diag = d.diag := rfl

/-! `setBlk`. -/

@[simp] theorem Dev.setBlk_lanes (id : Nat) (v : List Byte) (d : Dev) : (d.setBlk id v).lanes = d.lanes := rfl
@[simp] theorem Dev.setBlk_pow (id : Nat) (v : List Byte) (d : Dev) : (d.setBlk id v).pow = d.pow := rfl
@[simp] theorem Dev.setBlk_win (id : Nat) (v : List Byte) (d : Dev) : (d.setBlk id v).win = d.win := rfl
@[simp] theorem Dev.setBlk_acs (id : Nat) (v : List Byte) (d : Dev) : (d.setBlk id v).acs = d.acs := rfl
@[simp] theorem Dev.setBlk_log (id : Nat) (v : List Byte) (d : Dev) : (d.setBlk id v).log = d.log := rfl
@[simp] theorem Dev.setBlk_samp (id : Nat) (v : List Byte) (d : Dev) : (d.setBlk id v).samp = d.samp := rfl
@[simp] theorem Dev.setBlk_metr (id : Nat) (v : List Byte) (d : Dev) : (d.setBlk id v).metr = d.metr := rfl
@[simp] theorem Dev.setBlk_led (id : Nat) (v : List Byte) (d : Dev) : (d.setBlk id v).led = d.led := rfl
@[simp] theorem Dev.setBlk_tar (id : Nat) (v : List Byte) (d : Dev) : (d.setBlk id v).tar = d.tar := rfl
@[simp] theorem Dev.setBlk_disp (id : Nat) (v : List Byte) (d : Dev) : (d.setBlk id v).disp = d.disp := rfl
@[simp] theorem Dev.setBlk_veh (id : Nat) (v : List Byte) (d : Dev) : (d.setBlk id v).veh = d.veh := rfl
@[simp] theorem Dev.setBlk_ses (id : Nat) (v : List Byte) (d : Dev) : (d.setBlk id v).ses = d.ses := rfl
@[simp] theorem Dev.setBlk_dc (id : Nat) (v : List Byte) (d : Dev) : (d.setBlk id v).dc = d.dc := rfl
@[simp] theorem Dev.setBlk_saf (id : Nat) (v : List Byte) (d : Dev) : (d.setBlk id v).saf = d.saf := rfl
@[simp] theorem Dev.setBlk_sw (id : Nat) (v : List Byte) (d : Dev) : (d.setBlk id v).sw = d.sw := rfl
@[simp] theorem Dev.setBlk_gplc (id : Nat) (v : List Byte) (d : Dev) : (d.setBlk id v).gplc = d.gplc := rfl
@[simp] theorem Dev.setBlk_dlms (id : Nat) (v : List Byte) (d : Dev) : (d.setBlk id v).dlms = d.dlms := rfl
@[simp] theorem Dev.setBlk_nfc (id : Nat) (v : List Byte) (d : Dev) : (d.setBlk id v).nfc = d.nfc := rfl
@[simp] theorem Dev.setBlk_cal (id : Nat) (v : List Byte) (d : Dev) : (d.setBlk id v).cal = d.cal := rfl
@[simp] theorem Dev.setBlk_keys (id : Nat) (v : List Byte) (d : Dev) : (d.setBlk id v).keys = d.keys := rfl
@[simp] theorem Dev.setBlk_upd (id : Nat) (v : List Byte) (d : Dev) : (d.setBlk id v).upd = d.upd := rfl
@[simp] theorem Dev.setBlk_diag (id : Nat) (v : List Byte) (d : Dev) : (d.setBlk id v).diag = d.diag := rfl

/-! `safeStop`. -/

@[simp] theorem Dev.safeStop_lanes (mode : Mode) (k ev : Nat) (d : Dev) : (d.safeStop mode k ev).lanes = d.lanes := by
  unfold Dev.safeStop; cases mode <;> simp <;> split <;> simp
@[simp] theorem Dev.safeStop_win (mode : Mode) (k ev : Nat) (d : Dev) : (d.safeStop mode k ev).win = d.win := by
  unfold Dev.safeStop; cases mode <;> simp <;> split <;> simp
@[simp] theorem Dev.safeStop_acs (mode : Mode) (k ev : Nat) (d : Dev) : (d.safeStop mode k ev).acs = d.acs := by
  unfold Dev.safeStop; cases mode <;> simp <;> split <;> simp
@[simp] theorem Dev.safeStop_par (mode : Mode) (k ev : Nat) (d : Dev) : (d.safeStop mode k ev).par = d.par := by
  unfold Dev.safeStop; cases mode <;> simp <;> split <;> simp
@[simp] theorem Dev.safeStop_log (mode : Mode) (k ev : Nat) (d : Dev) : (d.safeStop mode k ev).log = d.log := by
  unfold Dev.safeStop; cases mode <;> simp <;> split <;> simp
@[simp] theorem Dev.safeStop_samp (mode : Mode) (k ev : Nat) (d : Dev) : (d.safeStop mode k ev).samp = d.samp := by
  unfold Dev.safeStop; cases mode <;> simp <;> split <;> simp
@[simp] theorem Dev.safeStop_metr (mode : Mode) (k ev : Nat) (d : Dev) : (d.safeStop mode k ev).metr = d.metr := by
  unfold Dev.safeStop; cases mode <;> simp <;> split <;> simp
@[simp] theorem Dev.safeStop_led (mode : Mode) (k ev : Nat) (d : Dev) : (d.safeStop mode k ev).led = d.led := by
  unfold Dev.safeStop; cases mode <;> simp <;> split <;> simp
@[simp] theorem Dev.safeStop_tar (mode : Mode) (k ev : Nat) (d : Dev) : (d.safeStop mode k ev).tar = d.tar := by
  unfold Dev.safeStop; cases mode <;> simp <;> split <;> simp
@[simp] theorem Dev.safeStop_disp (mode : Mode) (k ev : Nat) (d : Dev) : (d.safeStop mode k ev).disp = d.disp := by
  unfold Dev.safeStop; cases mode <;> simp <;> split <;> simp
@[simp] theorem Dev.safeStop_veh (mode : Mode) (k ev : Nat) (d : Dev) : (d.safeStop mode k ev).veh = d.veh := by
  unfold Dev.safeStop; cases mode <;> simp <;> split <;> simp
@[simp] theorem Dev.safeStop_ses (mode : Mode) (k ev : Nat) (d : Dev) : (d.safeStop mode k ev).ses = d.ses := by
  unfold Dev.safeStop; cases mode <;> simp <;> split <;> simp
@[simp] theorem Dev.safeStop_dc (mode : Mode) (k ev : Nat) (d : Dev) : (d.safeStop mode k ev).dc = d.dc := by
  unfold Dev.safeStop; cases mode <;> simp <;> split <;> simp
@[simp] theorem Dev.safeStop_saf (mode : Mode) (k ev : Nat) (d : Dev) : (d.safeStop mode k ev).saf = d.saf := by
  unfold Dev.safeStop; cases mode <;> simp <;> split <;> simp
@[simp] theorem Dev.safeStop_sw (mode : Mode) (k ev : Nat) (d : Dev) : (d.safeStop mode k ev).sw = d.sw := by
  unfold Dev.safeStop; cases mode <;> simp <;> split <;> simp
@[simp] theorem Dev.safeStop_gplc (mode : Mode) (k ev : Nat) (d : Dev) : (d.safeStop mode k ev).gplc = d.gplc := by
  unfold Dev.safeStop; cases mode <;> simp <;> split <;> simp
@[simp] theorem Dev.safeStop_dlms (mode : Mode) (k ev : Nat) (d : Dev) : (d.safeStop mode k ev).dlms = d.dlms := by
  unfold Dev.safeStop; cases mode <;> simp <;> split <;> simp
@[simp] theorem Dev.safeStop_nfc (mode : Mode) (k ev : Nat) (d : Dev) : (d.safeStop mode k ev).nfc = d.nfc := by
  unfold Dev.safeStop; cases mode <;> simp <;> split <;> simp
@[simp] theorem Dev.safeStop_cal (mode : Mode) (k ev : Nat) (d : Dev) : (d.safeStop mode k ev).cal = d.cal := by
  unfold Dev.safeStop; cases mode <;> simp <;> split <;> simp
@[simp] theorem Dev.safeStop_keys (mode : Mode) (k ev : Nat) (d : Dev) : (d.safeStop mode k ev).keys = d.keys := by
  unfold Dev.safeStop; cases mode <;> simp <;> split <;> simp
@[simp] theorem Dev.safeStop_upd (mode : Mode) (k ev : Nat) (d : Dev) : (d.safeStop mode k ev).upd = d.upd := by
  unfold Dev.safeStop; cases mode <;> simp <;> split <;> simp
@[simp] theorem Dev.safeStop_diag (mode : Mode) (k ev : Nat) (d : Dev) : (d.safeStop mode k ev).diag = d.diag := by
  unfold Dev.safeStop; cases mode <;> simp <;> split <;> simp

/-! `onPort`. -/

@[simp] theorem Dev.onPort_lanes (p : Port) (f : PortRec → PortRec) (d : Dev) : (d.onPort p f).lanes = d.lanes := by cases p <;> rfl
@[simp] theorem Dev.onPort_pow (p : Port) (f : PortRec → PortRec) (d : Dev) : (d.onPort p f).pow = d.pow := by cases p <;> rfl
@[simp] theorem Dev.onPort_acs (p : Port) (f : PortRec → PortRec) (d : Dev) : (d.onPort p f).acs = d.acs := by cases p <;> rfl
@[simp] theorem Dev.onPort_par (p : Port) (f : PortRec → PortRec) (d : Dev) : (d.onPort p f).par = d.par := by cases p <;> rfl
@[simp] theorem Dev.onPort_log (p : Port) (f : PortRec → PortRec) (d : Dev) : (d.onPort p f).log = d.log := by cases p <;> rfl
@[simp] theorem Dev.onPort_samp (p : Port) (f : PortRec → PortRec) (d : Dev) : (d.onPort p f).samp = d.samp := by cases p <;> rfl
@[simp] theorem Dev.onPort_metr (p : Port) (f : PortRec → PortRec) (d : Dev) : (d.onPort p f).metr = d.metr := by cases p <;> rfl
@[simp] theorem Dev.onPort_led (p : Port) (f : PortRec → PortRec) (d : Dev) : (d.onPort p f).led = d.led := by cases p <;> rfl
@[simp] theorem Dev.onPort_tar (p : Port) (f : PortRec → PortRec) (d : Dev) : (d.onPort p f).tar = d.tar := by cases p <;> rfl
@[simp] theorem Dev.onPort_disp (p : Port) (f : PortRec → PortRec) (d : Dev) : (d.onPort p f).disp = d.disp := by cases p <;> rfl
@[simp] theorem Dev.onPort_veh (p : Port) (f : PortRec → PortRec) (d : Dev) : (d.onPort p f).veh = d.veh := by cases p <;> rfl
@[simp] theorem Dev.onPort_ses (p : Port) (f : PortRec → PortRec) (d : Dev) : (d.onPort p f).ses = d.ses := by cases p <;> rfl
@[simp] theorem Dev.onPort_dc (p : Port) (f : PortRec → PortRec) (d : Dev) : (d.onPort p f).dc = d.dc := by cases p <;> rfl
@[simp] theorem Dev.onPort_saf (p : Port) (f : PortRec → PortRec) (d : Dev) : (d.onPort p f).saf = d.saf := by cases p <;> rfl
@[simp] theorem Dev.onPort_sw (p : Port) (f : PortRec → PortRec) (d : Dev) : (d.onPort p f).sw = d.sw := by cases p <;> rfl
@[simp] theorem Dev.onPort_gplc (p : Port) (f : PortRec → PortRec) (d : Dev) : (d.onPort p f).gplc = d.gplc := by cases p <;> rfl
@[simp] theorem Dev.onPort_dlms (p : Port) (f : PortRec → PortRec) (d : Dev) : (d.onPort p f).dlms = d.dlms := by cases p <;> rfl
@[simp] theorem Dev.onPort_nfc (p : Port) (f : PortRec → PortRec) (d : Dev) : (d.onPort p f).nfc = d.nfc := by cases p <;> rfl
@[simp] theorem Dev.onPort_cal (p : Port) (f : PortRec → PortRec) (d : Dev) : (d.onPort p f).cal = d.cal := by cases p <;> rfl
@[simp] theorem Dev.onPort_keys (p : Port) (f : PortRec → PortRec) (d : Dev) : (d.onPort p f).keys = d.keys := by cases p <;> rfl
@[simp] theorem Dev.onPort_upd (p : Port) (f : PortRec → PortRec) (d : Dev) : (d.onPort p f).upd = d.upd := by cases p <;> rfl
@[simp] theorem Dev.onPort_diag (p : Port) (f : PortRec → PortRec) (d : Dev) : (d.onPort p f).diag = d.diag := by cases p <;> rfl

@[simp] theorem Dev.raise_now (src code : Nat) (data : List Byte) (d : Dev) :
    (d.raise src code data).log.now = d.log.now ++ [.of src code data] := rfl
@[simp] theorem Dev.sergeRaise_token (stamp code : Nat) (data : List Byte) (d : Dev) :
    (d.sergeRaise stamp code data).lanes.token = d.lanes.token := rfl
@[simp] theorem Dev.sergeRaise_outputs (stamp code : Nat) (data : List Byte) (d : Dev) :
    (d.sergeRaise stamp code data).lanes.outputs = d.lanes.outputs := rfl
@[simp] theorem Dev.setCause_causes (k : Nat) (d : Dev) :
    (d.setCause k).pow.causes = d.pow.causes ||| (1#32 <<< k) := rfl
@[simp] theorem Dev.reqMode_modeReqs (m : Mode) (k : ReqKind) (cause : Nat) (d : Dev) :
    (d.reqMode m k cause).pow.modeReqs = d.pow.modeReqs ++ [⟨m, k, cause⟩] := rfl

end Sys2Proof.Machine
end

