-- ==== Sys2Proof/Laws/Regs.lean ====
section
/-!
SUPPORT. The energy registers stay sound (R39, R177): one lemma for each operation that writes them.
-/

namespace Sys2Proof.Machine

theorem sum_modify_add (l : List Nat) (k e : Nat) (h : k < l.length) :
    (l.modify k (· + e)).sum = l.sum + e := by
  induction l generalizing k with
  | nil => simp at h
  | cons a r ih =>
    cases k with
    | zero => simp only [List.modify_zero_cons, List.sum_cons]; omega
    | succ k =>
      simp only [List.length_cons] at h
      simp only [List.modify_succ_cons, List.sum_cons, ih k (by omega)]; omega

theorem Fam.book_sound {f : Fam} (h : f.Sound) {t : Nat} (ht : 1 ≤ t ∧ t ≤ 8) (e : Nat) : (f.book t e).Sound := by
  obtain ⟨hl, hs⟩ := h
  refine ⟨by simp [Fam.book, updAt, hl], ?_⟩
  have hk : t - 1 < f.tariffs.length := by omega
  simp only [Fam.book, updAt, sum_modify_add f.tariffs (t - 1) e hk, hs]

theorem Fam.est_sound {f : Fam} (h : f.Sound) (e : Nat) : ({ f with est := e } : Fam).Sound := h

theorem Regs.book_sound {r : Regs} (h : r.Sound) (k e : Nat) : (r.book k e).Sound := by
  obtain ⟨hl, hf, h1, h8⟩ := h
  refine ⟨by simp [Regs.book, updAt, hl], ?_, h1, h8⟩
  intro f hm
  simp only [Regs.book, updAt] at hm
  rw [List.mem_iff_getElem] at hm
  obtain ⟨i, hi, rfl⟩ := hm
  rw [List.length_modify] at hi
  rw [List.getElem_modify]
  split
  · exact Fam.book_sound (hf _ (List.getElem_mem hi)) ⟨h1, h8⟩ e
  · exact hf _ (List.getElem_mem hi)

theorem Regs.bookAll_sound {r : Regs} (h : r.Sound) (es : List (Nat × Nat)) : (r.bookAll es).Sound := by
  unfold Regs.bookAll
  induction es generalizing r with
  | nil => exact h
  | cons x xs ih => exact ih (Regs.book_sound h x.1 x.2)

theorem Regs.bookSecondary_sound {r : Regs} (h : r.Sound) (es : List (Nat × Nat)) : (r.bookSecondary es).Sound := h

theorem Regs.tariff_sound {r : Regs} (h : r.Sound) (t : Nat) : ({ r with tariff := tariffHeld t } : Regs).Sound :=
  ⟨h.1, h.2.1, by show 1 ≤ tariffHeld t; unfold tariffHeld; omega, by show tariffHeld t ≤ 8; unfold tariffHeld; omega⟩

theorem mem_zipIdx_fst {α : Type} {l : List α} {x : α × Nat} (h : x ∈ l.zipIdx) : x.1 ∈ l := by
  obtain ⟨a, i⟩ := x
  exact (List.mem_zipIdx h).2.2 ▸ List.getElem_mem _

theorem advanceEst_sound (e : BitVec 6) (b : Ckpt) {fs : List Fam} (h : ∀ f ∈ fs, f.Sound) :
    ∀ f ∈ advanceEst e b fs, f.Sound := by
  intro f hm
  simp only [advanceEst, List.mem_map] at hm
  obtain ⟨x, hx, rfl⟩ := hm
  have hs := h x.1 (mem_zipIdx_fst hx)
  split
  · exact hs
  · exact hs

theorem advanceEst_length (e : BitVec 6) (b : Ckpt) (fs : List Fam) : (advanceEst e b fs).length = fs.length := by
  simp [advanceEst]

/-- A commit leaves the registers sound, and changes no more of them than the estimated parts (R186). -/
theorem commitFrame_sound (cs : List (Nat × Nat)) {s : State} (h : s.regs.Sound) : (commitFrame cs s).regs.Sound := by
  unfold commitFrame
  by_cases hu : s.dev.led.uncommitted = true
  · simp only [hu, if_true]
    by_cases hd : s.dev.led.due = 0
    · simp only [hd, if_true]; exact h
    · simp only [hd, if_false]
      exact ⟨by simp [ckptOf, advanceEst_length, h.1], advanceEst_sound _ _ h.2.1, h.2.2⟩
  · simp only [hu]; exact h

theorem commitFrame_clk (cs : List (Nat × Nat)) (s : State) : (commitFrame cs s).clk = s.clk := by
  unfold commitFrame
  by_cases hu : s.dev.led.uncommitted = true
  · simp only [hu, if_true]
    by_cases hd : s.dev.led.due = 0
    · simp only [hd, if_true]
    · simp only [hd, if_false]
  · simp only [hu]; rfl

theorem commitFrame_pending (cs : List (Nat × Nat)) (s : State) : (commitFrame cs s).pending = s.pending := by
  unfold commitFrame
  by_cases hu : s.dev.led.uncommitted = true
  · simp only [hu, if_true]
    by_cases hd : s.dev.led.due = 0
    · simp only [hd, if_true]
    · simp only [hd, if_false]
  · simp only [hu]; rfl

/-! Recovery. -/

theorem Fam.sound_of_sumOk {f : Fam} (h : f.sumOk = true) : f.Sound := by
  simp only [Fam.sumOk, Bool.and_eq_true, decide_eq_true_eq] at h
  refine ⟨h.1, ?_⟩
  rw [← h.2, List.sum_eq_foldl_nat]

/-- What recovery may choose: a good checkpoint, and a delta record whose tariff is one of 1 to 8 (R191). -/
def Choice.Fit (x : Choice) : Prop := x.ckpt.good = true ∧ ∀ dl, x.delta = some dl → 1 ≤ dl.tariff ∧ dl.tariff ≤ 8

theorem Choice.regs_sound {x : Choice} (h : x.Fit) : x.regs.Sound := by
  obtain ⟨hg, hd⟩ := h
  simp only [Ckpt.good, Bool.and_eq_true, decide_eq_true_eq, List.all_eq_true] at hg
  have hf : ∀ f ∈ x.ckpt.fams, f.Sound := fun f hm => Fam.sound_of_sumOk (hg.2 f hm)
  have key : x.fams.length = 11 ∧ ∀ f ∈ x.fams, f.Sound := by
    unfold Choice.fams
    cases hx : x.delta with
    | none => exact ⟨hg.1, hf⟩
    | some dl =>
      refine ⟨by simp [hg.1], ?_⟩
      intro f hm
      simp only [List.mem_map] at hm
      obtain ⟨y, hy, rfl⟩ := hm
      have hb := Fam.book_sound (hf y.1 (mem_zipIdx_fst hy)) (hd dl hx) (nth 0 dl.inc y.2)
      split
      · exact hb
      · exact hb
  exact Regs.tariff_sound (r := { fams := x.fams, secondary := x.ckpt.secondary, tariff := 1 })
    ⟨key.1, key.2, Nat.le_refl 1, (by omega : 1 ≤ 8)⟩ x.ckpt.tar.tariff

/-- Every record of an array is one that recovery may use. -/
def Mram.Fit (x : Mram) : Prop := (∀ c ∈ x.ckpts, c.good = true) ∧ ∀ dl ∈ x.deltas, 1 ≤ dl.tariff ∧ dl.tariff ≤ 8

theorem usable_fit (ok : Bool) (x : Mram) : (x.usable ok).Fit := by
  cases ok
  · simp [Mram.Fit, Mram.usable]
  · refine ⟨fun c h => (List.mem_filter.mp h).2, fun dl h => ?_⟩
    have := (List.mem_filter.mp h).2
    simp only [Bool.and_eq_true, decide_eq_true_eq] at this
    exact this.1

theorem before_fit {v : Nat} {x : Mram} (h : x.Fit) : (x.before v).Fit := by
  unfold Mram.before
  split
  · exact h
  · exact ⟨fun c k => h.1 c (List.mem_filter.mp k).1, fun dl k => h.2 dl (List.mem_filter.mp k).1⟩

theorem choicesOf_fit {l : Lane} {x : Mram} {c : Choice} (hx : x.Fit) (h : c ∈ choicesOf l x) : c.Fit := by
  simp only [choicesOf, List.mem_append, List.mem_map, List.mem_filterMap, Option.map_eq_some_iff] at h
  rcases h with ⟨k, hk, rfl⟩ | ⟨dl, hdl, k, hk, rfl⟩
  · exact ⟨hx.1 k hk, fun _ h => by simp at h⟩
  · refine ⟨hx.1 k (List.mem_of_find?_eq_some hk), ?_⟩
    intro e he
    simp only [Option.some.injEq] at he
    subst he
    exact hx.2 dl hdl

theorem bestChoice_mem : ∀ {l : List Choice} {c : Choice}, bestChoice l = some c → c ∈ l
  | [], c, h => by simp [bestChoice] at h
  | x :: xs, c, h => by
    unfold bestChoice at h
    cases hb : bestChoice xs with
    | none => rw [hb] at h; simp at h; simp [h]
    | some y =>
      rw [hb] at h
      simp only at h
      split at h
      · simp only [Option.some.injEq] at h; subst h; exact List.mem_cons_of_mem _ (bestChoice_mem hb)
      · simp only [Option.some.injEq] at h; subst h; exact List.mem_cons_self

/-- The registers that a recovery gives are sound, whatever the arrays hold (R191). -/
theorem recoverChoice_sound {a b : Bool} {d : Dev} {c : Choice} (h : recoverChoice a b d = some c) : c.regs.Sound := by
  have hm := bestChoice_mem h
  apply Choice.regs_sound
  simp only [List.mem_append] at hm
  rcases hm with hm | hm
  · exact choicesOf_fit (before_fit (usable_fit a _)) hm
  · exact choicesOf_fit (before_fit (usable_fit b _)) hm

/-- The metrology slot leaves the registers sound (R177). -/
theorem metrFrame_sound {s : State} (h : s.regs.Sound) : (metrFrame s).regs.Sound :=
  Regs.bookSecondary_sound (Regs.bookAll_sound h _) _

end Sys2Proof.Machine
end

