-- ==== Sys2Proof/Laws/Clock.lean ====
section
/-!
SUPPORT. Which operations leave the queue, the energy registers, the mode and the number of the frame as they are: all
but the commit and the metrology of a frame, the tick itself and a start-up.
-/

namespace Sys2Proof.Machine

/-- The queue, the registers, the frame and the mode are the same; frames may have stopped. -/
structure Steady (s t : State) : Prop where
  pending : t.pending = s.pending
  regs : t.regs = s.regs
  frame : t.clk.frame = s.clk.frame
  mode : t.clk.mode = s.clk.mode
  modePrev : t.clk.modePrev = s.clk.modePrev

theorem Steady.refl (s : State) : Steady s s := ⟨rfl, rfl, rfl, rfl, rfl⟩

theorem Steady.trans {s t u : State} (h : Steady s t) (k : Steady t u) : Steady s u :=
  ⟨k.1.trans h.1, k.2.trans h.2, k.3.trans h.3, k.4.trans h.4, k.5.trans h.5⟩

theorem Steady.onDev (s : State) (f : Dev → Dev) : Steady s (s.onDev f) := ⟨rfl, rfl, rfl, rfl, rfl⟩

theorem Steady.dev (s : State) (d : Dev) : Steady s { s with dev := d } := ⟨rfl, rfl, rfl, rfl, rfl⟩

theorem Steady.whenS {c : Bool} {f : State → State} {s : State} (h : Steady s (f s)) : Steady s (whenS c f s) := by
  cases c
  · exact Steady.refl s
  · exact h

theorem Steady.ite {c : Prop} [Decidable c] {s t u : State} (h : Steady s t) (k : Steady s u) :
    Steady s (if c then t else u) := by
  by_cases hc : c
  · rw [if_pos hc]; exact h
  · rw [if_neg hc]; exact k

theorem Steady.foldl {α : Type} {f : State → α → State} (h : ∀ s a, Steady s (f s a)) :
    ∀ (l : List α) (s : State), Steady s (l.foldl f s)
  | [], s => Steady.refl s
  | a :: l, s => (h s a).trans (Steady.foldl h l (f s a))

theorem dualFault_steady (s : State) : Steady s (dualFault s) := ⟨rfl, rfl, rfl, rfl, rfl⟩

theorem faultLane_steady (l : Lane) (cause slot verdict : Nat) (atOnce : Bool) (s : State) :
    Steady s (faultLane l cause slot verdict atOnce s) :=
  Steady.ite ((Steady.dev s _).trans (dualFault_steady _)) (Steady.dev s _)

theorem markShadow_steady (l : Lane) (m : Bool) (s : State) : Steady s (markShadow l m s) := Steady.onDev s _

theorem applyVerdict_steady (x : Dispute) (v : Lane × Nat) (s : State) : Steady s (applyVerdict x v s) :=
  ((Steady.onDev s _).trans (Steady.onDev _ _)).trans (faultLane_steady _ _ _ _ _ _)

theorem crystalFail_steady (x : Xtal) (slot : Nat) (atOnce : Bool) (s : State) :
    Steady s (crystalFail x slot atOnce s) :=
  Steady.ite (Steady.refl s) (Steady.ite ((Steady.dev s _).trans (dualFault_steady _))
    (((Steady.dev s _).trans (Steady.onDev _ _)).trans (Steady.whenS (faultLane_steady _ _ _ _ _ _))))

theorem stopFrames_steady (k : Nat) (s : State) : Steady s (stopFrames k s) := ⟨rfl, rfl, rfl, rfl, rfl⟩

theorem supplyCollapse_steady (held : Bool) (s : State) : Steady s (supplyCollapse held s) := by
  unfold supplyCollapse
  dsimp only
  split
  · exact (stopFrames_steady 4 s).trans (Steady.onDev _ _)
  · exact Steady.onDev _ _

theorem resetEff_steady (s : State) : Steady s (resetEff s) :=
  ((Steady.onDev s _).trans (stopFrames_steady 1 _)).trans (Steady.onDev _ _)

theorem injectEff_steady (p : Pert) (m : Nat) (s : State) : Steady s (injectEff p m s) := by
  unfold injectEff
  dsimp only
  split
  · exact (Steady.onDev s _).trans (Steady.whenS (faultLane_steady _ _ _ _ _ _))
  · exact Steady.onDev s _

theorem acsRun_steady (code : Nat) (own : Owner) (tag : Nat) (args : List Byte) (h : Handler) (s : State) :
    Steady s (acsRun code own tag args h s) := by
  unfold acsRun
  dsimp only
  split
  · exact Steady.dev s _
  · split <;> exact Steady.dev s _

theorem runAcs_steady (code : Nat) (own : Owner) (tag : Nat) (args : List Byte) (s : State) :
    Steady s (runAcs code own tag args s) := acsRun_steady _ _ _ _ _ _

theorem serveSlot_steady (k : Nat) (s : State) : Steady s (serveSlot k s) := by
  unfold serveSlot
  dsimp only
  split
  · exact Steady.dev s _
  · exact ((Steady.dev s _).trans (runAcs_steady _ _ _ _ _)).trans (Steady.dev _ _)

theorem scanSlot_steady (s : State) (k : Nat) : Steady s (scanSlot s k) := by
  unfold scanSlot
  dsimp only
  split
  · exact Steady.refl s
  · split
    · exact serveSlot_steady k s
    · exact Steady.onDev s _

theorem scanAll_steady (s : State) (d : Dev) : Steady s ((List.range 16).foldl scanSlot { s with dev := d }) :=
  (Steady.dev s d).trans (Steady.foldl scanSlot_steady _ _)

theorem mailboxScan_steady (s : State) : Steady s (mailboxScan s) :=
  Steady.ite (scanAll_steady s _) (Steady.refl s)

theorem protocolSlot_steady (s : State) : Steady s (protocolSlot s) :=
  Steady.ite (mailboxScan_steady s) ((mailboxScan_steady s).trans (Steady.onDev _ _))

theorem calicoAtCheckpoint_steady (s : State) : Steady s (calicoAtCheckpoint s) :=
  Steady.ite (Steady.refl s) (Steady.ite (Steady.dev s _) ((Steady.dev s _).trans (Steady.onDev _ _)))

theorem readbackStep_steady (f : FrameIn) (s : State) : Steady s (readbackStep f s) :=
  (Steady.whenS (faultLane_steady _ _ _ _ _ _)).trans (Steady.whenS (faultLane_steady _ _ _ _ _ _))

theorem latchStep_steady (f : FrameIn) (s : State) : Steady s (latchStep f s) := ⟨rfl, rfl, rfl, rfl, rfl⟩

theorem frameSecond_steady (f : FrameIn) (s : State) : Steady s (frameSecond f s) :=
  Steady.ite ((readbackStep_steady f s).trans
    (((Steady.onDev _ _).trans (latchStep_steady f _)).trans (Steady.onDev _ _))) (readbackStep_steady f s)

theorem runFor_steady (k code : Nat) (args : List Byte) (off len : Nat) (s : State) :
    Steady s (runFor k code args off len s).1 := (Steady.onDev s _).trans (runAcs_steady _ _ _ _ _)

theorem runItem_steady (k : Nat) (mgmt : Bool) (x : State × List Byte) (i : ApduItem) :
    Steady x.1 (runItem k mgmt x i).1 := by
  unfold runItem
  dsimp only
  split
  · split
    · exact Steady.refl _
    · exact runFor_steady _ _ _ _ _ _
    · exact Steady.refl _
    · exact Steady.refl _
    · exact Steady.refl _
  · exact Steady.refl _

theorem runItems_steady (k : Nat) (mgmt : Bool) : ∀ (l : List ApduItem) (x : State × List Byte),
    Steady x.1 (l.foldl (runItem k mgmt) x).1
  | [], x => Steady.refl x.1
  | i :: l, x => (runItem_steady k mgmt x i).trans (runItems_steady k mgmt l _)

theorem startedEnd_steady (m : Nat) (s : State) : Steady s (startedEnd m s) := ⟨rfl, rfl, rfl, rfl, rfl⟩

theorem metrFrame_clk (s : State) : (metrFrame s).clk = s.clk := rfl

theorem metrFrame_pending (s : State) : (metrFrame s).pending = s.pending := rfl

theorem startedClock_pending (m : Nat) (c : Choice) (d : Dev) (s : State) : (startedClock m c d s).pending = s.pending := rfl

theorem startedClock_sound {m : Nat} {c : Choice} {d : Dev} {s : State} (h : c.regs.Sound) :
    (startedClock m c d s).regs.Sound := Regs.tariff_sound h _

theorem frameM_pending (m : Nat) (c : Choice) (u : StartIn) (s : State) : (frameM m c u s).pending = s.pending := by
  unfold frameM
  rw [(startedEnd_steady _ _).pending, metrFrame_pending]
  exact startedClock_pending m c (startedDev m c u s) s

theorem frameM_sound {m : Nat} {c : Choice} {u : StartIn} {s : State} (h : c.regs.Sound) :
    (frameM m c u s).regs.Sound := by
  unfold frameM
  rw [(startedEnd_steady _ _).regs]
  refine metrFrame_sound ?_
  exact startedClock_sound (m := m) (d := startedDev m c u s) (s := s) h

theorem request_steady (a : Assoc) (x : Apdu) (s : State) : Steady s (request a x s) := by
  unfold request
  dsimp only
  refine Steady.trans (t := if a.mgmt then s.onDev (alarmAction x) else s)
    (Steady.ite (Steady.onDev s _) (Steady.refl s)) ?_
  exact (runItems_steady a.id a.mgmt x.items (_, leBytes 1 x.invoke)).trans (Steady.dev _ _)

theorem apduEff_steady (a : Assoc) (x : Apdu) (s : State) : Steady s (apduEff a x s) := by
  have h (t : State) (k : Steady s t) : Steady s (match keptAnswer s.clk.frame a x with
      | some j => t.onDev (respond s.clk.frame a.id a.mgmt j.response)
      | none => request a x t) := by
    cases keptAnswer s.clk.frame a x with
    | none => exact k.trans (request_steady a x t)
    | some j => exact k.trans (Steady.onDev t _)
  unfold apduEff
  dsimp only
  refine Steady.ite (Steady.onDev s _) (Steady.ite (Steady.onDev s _) (h _ ?_))
  exact Steady.ite (Steady.onDev s _) (Steady.refl s)

end Sys2Proof.Machine
end

