-- ==== Sys2Proof/Laws/Frames.lean ====
section
/-!
SUPPORT. Frames: how they compose, and one for each shared operation, which says once what the operation may change.
-/

namespace Sys2Proof.Machine

/-! Composition. -/

theorem DevOnly.refl (ps : List Part) (d : Dev) : DevOnly ps d d := fun p _ => by cases p <;> first | rfl | trivial

theorem DevOnly.trans {ps : List Part} {d e f : Dev} (h : DevOnly ps d e) (k : DevOnly ps e f) : DevOnly ps d f := by
  intro p hp
  have a := h p hp
  have b := k p hp
  cases p <;> first | trivial | exact b.trans a

theorem DevOnly.mono {ps qs : List Part} {d e : Dev} (h : DevOnly ps d e) (k : ∀ p ∈ ps, p ∈ qs) : DevOnly qs d e :=
  fun p hp => h p fun hm => hp (k p hm)

theorem DevOnly.when {ps : List Part} {c : Bool} {f : Dev → Dev} {d : Dev} (h : c = true → DevOnly ps d (f d)) :
    DevOnly ps d (d.when c f) := by
  cases c
  · exact DevOnly.refl ps d
  · exact h rfl

theorem DevOnly.ite {ps : List Part} {c : Prop} [Decidable c] {d e f : Dev} (h : c → DevOnly ps d e)
    (k : ¬c → DevOnly ps d f) : DevOnly ps d (if c then e else f) := by
  by_cases hc : c
  · rw [if_pos hc]; exact h hc
  · rw [if_neg hc]; exact k hc

theorem DevOnly.foldl {α : Type} {ps : List Part} {f : Dev → α → Dev} (h : ∀ d a, DevOnly ps d (f d a)) :
    ∀ (l : List α) (d : Dev), DevOnly ps d (l.foldl f d)
  | [], d => DevOnly.refl ps d
  | a :: l, d => (h d a).trans (DevOnly.foldl h l (f d a))

/-- A change of `dev` with a frame is a change of state with that frame. -/
theorem OnlyChanges.onDev {ps : List Part} {f : Dev → Dev} {s : State} (h : DevOnly ps s.dev (f s.dev)) :
    OnlyChanges ps s (s.onDev f) := ⟨rfl, fun _ => rfl, fun _ => rfl, h⟩

/-- The meaning of a row that is a change of `dev` answers that change. -/
theorem Completes.of_devStep {c : Instr} {s : State} {f : Dev → Dev} {P : State → Prop}
    (h : exec c s = devStep s f) (k : P (s.onDev f)) : Completes c s P := ⟨_, h, k⟩

end Sys2Proof.Machine
end

