-- ==== Sys2Proof/Laws/Memory.lean ====
section
/-!
SUPPORT. The window's RAM: every write keeps the canonical form, a byte written reads back, and no other byte changes.
-/

namespace Sys2Proof.Machine

/-- An unlisted address reads as the blank byte. -/
theorem Mem.read_of_lt (m : List Host.Cell) (a : Nat) (h : ∀ c ∈ m, a < c.1) : Mem.read m a = Mem.blank := by
  induction m with
  | nil => rfl
  | cons c r ih =>
    obtain ⟨k, v⟩ := c
    have hk : a < k := h (k, v) (by simp)
    rw [Mem.read, if_neg (by omega)]
    exact ih fun c hc => h c (by simp [hc])

/-- The addresses of a written memory are those it had, and the one written. -/
theorem Mem.mem_write (m : List Host.Cell) (a : Nat) (b : BitVec 8) (c : Host.Cell) (h : c ∈ Mem.write m a b) :
    c ∈ m ∨ c = (a, b) ∧ b ≠ Mem.blank := by
  induction m with
  | nil =>
    rw [Mem.write] at h
    split at h <;> simp_all
  | cons d r ih =>
    obtain ⟨k, v⟩ := d
    rw [Mem.write] at h
    split at h
    · split at h <;> simp_all
      tauto
    · split at h
      · split at h <;> simp_all
        tauto
      · simp only [List.mem_cons] at h ⊢
        rcases h with h | h
        · exact .inl (.inl h)
        · exact (ih h).imp .inr id

/-- Writing a byte keeps the canonical form. -/
theorem Mem.write_wf (m : List Host.Cell) (a : Nat) (b : BitVec 8) (h : Mem.wf m) : Mem.wf (Mem.write m a b) := by
  refine ⟨?_, fun c hc => ?_⟩
  · induction m with
    | nil => rw [Mem.write]; split <;> simp
    | cons d r ih =>
      obtain ⟨k, v⟩ := d
      have hp := h.1
      simp only [List.map_cons, List.pairwise_cons] at hp
      have hr : Mem.wf r := ⟨hp.2, fun c hc => h.2 c (by simp [hc])⟩
      rw [Mem.write]
      split
      · split
        · exact h.1
        · simp only [List.map_cons, List.pairwise_cons, List.mem_cons]
          refine ⟨?_, hp⟩
          rintro x (rfl | hx)
          · assumption
          · have := hp.1 x hx; omega
      · split
        · subst_vars
          split
          · exact hp.2
          · simpa using hp
        · simp only [List.map_cons, List.pairwise_cons, List.mem_map]
          refine ⟨?_, ih hr⟩
          rintro x ⟨c, hc, rfl⟩
          rcases Mem.mem_write r a b c hc with hc | ⟨rfl, -⟩
          · exact hp.1 c.1 (List.mem_map_of_mem hc)
          · show k < a; omega
  · rcases Mem.mem_write m a b c hc with hc | ⟨rfl, hb⟩
    · exact h.2 c hc
    · exact hb

/-- Reading after writing one byte. -/
theorem Mem.read_write (m : List Host.Cell) (a x : Nat) (b : BitVec 8) (h : Mem.wf m) :
    Mem.read (Mem.write m a b) x = if x = a then b else Mem.read m x := by
  induction m with
  | nil =>
    rw [Mem.write]
    split
    · subst_vars; split <;> rfl
    · simp only [Mem.read, eq_comm]
  | cons d r ih =>
    obtain ⟨k, v⟩ := d
    have hp := h.1
    simp only [List.map_cons, List.pairwise_cons, List.mem_map] at hp
    have hlt : ∀ c ∈ r, k < c.1 := fun c hc => hp.1 c.1 ⟨c, hc, rfl⟩
    have hr : Mem.wf r := ⟨hp.2, fun c hc => h.2 c (by simp [hc])⟩
    rw [Mem.write]
    split
    · split
      · subst_vars
        split
        · subst_vars
          exact Mem.read_of_lt _ _ fun c hc => by
            rcases List.mem_cons.1 hc with rfl | hc
            · assumption
            · have := hlt c hc; omega
        · rfl
      · simp only [Mem.read, eq_comm]
    · split
      · subst_vars
        split
        · subst_vars
          by_cases hx : x = k
          · subst hx; rw [if_pos rfl]; exact Mem.read_of_lt _ _ hlt
          · rw [if_neg hx, Mem.read, if_neg (Ne.symm hx)]
        · simp only [Mem.read, eq_comm]
          split <;> rfl
      · rw [Mem.read, Mem.read, ih hr]
        split
        · subst_vars; rw [if_neg (by omega)]
        · rfl

/-- Writing bytes keeps the canonical form. -/
theorem Mem.writeBytes_wf (bs : List Byte) (m : List Host.Cell) (a : Nat) (h : Mem.wf m) :
    Mem.wf (Mem.writeBytes m a bs) := by
  induction bs generalizing m a with
  | nil => exact h
  | cons b r ih => exact ih _ _ (Mem.write_wf m a b h)

/-- Bytes outside a write read as before. -/
theorem Mem.read_writeBytes_out (bs : List Byte) (m : List Host.Cell) (a x : Nat) (h : Mem.wf m)
    (hx : x < a ∨ a + bs.length ≤ x) : Mem.read (Mem.writeBytes m a bs) x = Mem.read m x := by
  induction bs generalizing m a with
  | nil => rfl
  | cons b r ih =>
    simp only [List.length_cons] at hx
    rw [Mem.writeBytes, ih _ _ (Mem.write_wf m a b h) (by omega), Mem.read_write m a x b h, if_neg (by omega)]

/-- Bytes written read back. -/
theorem Mem.readBytes_writeBytes (bs : List Byte) (m : List Host.Cell) (a : Nat) (h : Mem.wf m) :
    Mem.readBytes (Mem.writeBytes m a bs) a bs.length = bs := by
  induction bs generalizing m a with
  | nil => rfl
  | cons b r ih =>
    have hw := Mem.write_wf m a b h
    rw [Mem.writeBytes, List.length_cons, Mem.readBytes, ih _ _ hw,
      Mem.read_writeBytes_out r _ (a + 1) a hw (by omega), Mem.read_write m a a b h, if_pos rfl]

end Sys2Proof.Machine
end

