-- ==== Sys2Proof/WellFormed.lean ====
section
/-!
DEFINITION. The commands whose operands have a form that the block can be given: as many channels, phases, slots,
words and bytes as the spec names. A command that is not well formed names a thing the block does not have; its meaning
is total all the same.
-/

namespace Sys2Proof

/-- The 18 main channels (R124) and the eight load-switch channels (R312) are read in each frame. -/
def FrameIn.wellFormed (f : FrameIn) : Bool := decide (f.bits.length = 18) && decide (f.hsw.length = 8)

/-- A write holds 1 to 1,024 words (R69). -/
def dataWords (data : List Byte) : Bool :=
  decide (data.length % 4 = 0) && decide (4 ≤ data.length ∧ data.length ≤ 4096)

/-- The opcodes of HSPI (R68). -/
def validOpcodes : List Byte := [0x02, 0x03, 0x32, 0x6B, 0x05]

/-- An aligned word of the 64 KiB window (R67). -/
def wordAddr (addr : Nat) : Bool := decide (addr % 4 = 0) && decide (addr < 0x10000)

/-- Arguments of a request: at most 1,008 bytes (R79). -/
def request (args : List Byte) : Bool := decide (args.length ≤ 1008)

/-- A phase of an AC side (R158). -/
def phase (ph : Nat) : Bool := decide (1 ≤ ph ∧ ph ≤ 3)

/-- A load-switch channel (R312). -/
def hswChannel (k : Nat) : Bool := decide (1 ≤ k ∧ k ≤ 8)

/-- A backup cell (R391). -/
def cellNumber (c : Nat) : Bool := decide (c = 1 ∨ c = 2)

/-- A tamper source (R405). -/
def tamperSource (src : Nat) : Bool := decide (1 ≤ src ∧ src ≤ 8)

/-- The operands of a command have the form its rule gives them. -/
def Instr.wellFormed : Instr → Bool
  | .frameTick f => f.wellFormed
  | .disputeHoldExpiry => true
  | .disputeVerdict _ => true
  | .slotDeadlineFault _ _ => true
  | .watchdogFault _ _ _ => true
  | .outputRequestMissing => true
  | .laneSelfFault _ _ slot => decide (slot ≤ 6)
  | .claimRejected _ => true
  | .laneRepairStepDone _ _ _ => true
  | .laneRepaired _ => true
  | .mramArrayLost _ => true
  | .mirrorFault => true
  | .sergeFault => true
  | .noTickGap frames => decide (2 ≤ frames)
  | .crystalMeasurement _ _ => true
  | .crystalFailed _ slot => decide (slot ≤ 6)
  | .startUp _ => true
  | .startupReady => true
  | .holdupDailyMeasurement _ => true
  | .holdupRechargeDone => true
  | .holdupRechargeTimeout => true
  | .holdEntered => true
  | .finalSequence => true
  | .holdExited => true
  | .resetRequest => true
  | .resetRelease => true
  | .serviceNRelease _ => true
  | .serviceNStuck _ => true
  | .serviceNChatter _ => true
  | .loginWindowExpiry => true
  | .serviceTimeout => true
  | .hspiWrite _ data _ _ => dataWords data
  | .hspiQwrite _ data _ _ => dataWords data
  | .hspiRead _ words => decide (1 ≤ words)
  | .hspiQread _ words => decide (1 ≤ words)
  | .hspiStatus => true
  | .hspiInvalidOpcode op => !(validOpcodes.contains op)
  | .aliasBitSet _ addr _ _ => wordAddr addr
  | .aliasBitClear _ addr _ _ => wordAddr addr
  | .huartRead _ => true
  | .huartWrite _ _ => true
  | .huartBadFrame _ => true
  | .huartGapTimeout => true
  | .doorbellWrite _ _ => true
  | .slotStateWrite _ k _ => decide (k < 16)
  | .irqStatusClear _ _ => true
  | .irqEnableWrite _ _ => true
  | .heartbeatWrite _ _ => true
  | .eventReadIndexWrite _ _ => true
  | .windowWordWrite _ addr _ => wordAddr addr
  | .hostLost => true
  | .portFailed _ => true
  | .portRestored _ => true
  | .streamOverrun => true
  | .jobEnded _ _ => true
  | .identify _ _ args => request args
  | .modeRequest _ _ args => request args
  | .safestopClear _ _ args => request args
  | .serviceLogin _ _ args => request args
  | .serviceLogout _ _ args => request args
  | .stopRequest _ _ args => request args
  | .paramRead _ _ args => request args
  | .paramWrite _ _ args => request args
  | .paramCommit _ _ args => request args
  | .paramDiscard _ _ args => request args
  | .paramDescribe _ _ args => request args
  | .paramReadBlock _ _ args => request args
  | .paramWriteBlock _ _ args => request args
  | .paramPending _ _ args => request args
  | .paramEnum _ _ args => request args
  | .snapshotTake _ _ args => request args
  | .snapshotRelease _ _ args => request args
  | .cmdOutcome _ _ args => request args
  | .eventFetch _ _ args => request args
  | .bulkChunk _ _ args => request args
  | .jobList _ _ args => request args
  | .jobStatus _ _ args => request args
  | .jobCancel _ _ args => request args
  | .clockSet _ _ args => request args
  | .rtcLoad => true
  | .sync _ _ args => request args
  | .metrSealOpen _ _ args => request args
  | .metrSealClose _ _ args => request args
  | .recordRead _ _ args => request args
  | .signatureRead _ _ args => request args
  | .registersRead _ _ args => request args
  | .metrLogRead _ _ args => request args
  | .calendarActivate _ _ args => request args
  | .calendarArmed => true
  | .billingClose _ _ args => request args
  | .displayStep _ _ args => request args
  | .remoteStart _ _ args => request args
  | .remoteStop _ _ args => request args
  | .safetyCheckRead _ _ args => request args
  | .safetyConfirm _ _ args => request args
  | .safetyProofTest _ _ args => request args
  | .proofTestDone test _ => decide (1 ≤ test ∧ test ≤ 6)
  | .switchSet _ _ args => request args
  | .latchClear _ _ args => request args
  | .lockDrive _ _ args => request args
  | .calicoStagingStatus _ _ args => request args
  | .authLoad _ _ args => request args
  | .authSwap _ _ args => request args
  | .authBankSwap => true
  | .authLookup _ _ args => request args
  | .keyDerive _ _ args => request args
  | .keyDerived slot => decide (slot < 16)
  | .attest _ _ args => request args
  | .attested => true
  | .enrol _ _ args => request args
  | .enrolled => true
  | .tamperAck _ _ args => request args
  | .imageStage _ _ args => request args
  | .imageVerify _ _ args => request args
  | .imageVerified _ => true
  | .imageActivate _ _ args => request args
  | .testAuth _ _ args => request args
  | .scrubStart _ _ args => request args
  | .calAccCtrl _ _ => true
  | .calAccDone => true
  | .senseSel _ _ => true
  | .gplcStateReset _ _ => true
  | .testSlotStretch _ _ => true
  | .testMboxDelay _ _ => true
  | .testPortBusy _ _ => true
  | .testPortThrottle _ _ => true
  | .testGplcHold _ _ => true
  | .testCommitDelay _ _ => true
  | .testMismatch _ _ => true
  | .testWdtWindow _ _ => true
  | .testEnrolToken => true
  | .testInjected _ => true
  | .testReverted => true
  | .selftestRun t _ _ => decide (t < 19)
  | .channelFault c _ => decide (c < 18)
  | .channelRestored c => decide (c < 18)
  | .channelOverrange c => decide (c < 18)
  | .overrangeEnd c => decide (c < 18)
  | .syncInEdge _ => true
  | .syncInChatter _ => true
  | .syncReset => true
  | .syncPendingRedecide => true
  | .channelModeEffect => true
  | .scsConversionDone c => decide (c < 18)
  | .auxResult _ => true
  | .pilotPlateau _ => true
  | .zeroCrossing _ => true
  | .wrongSequence => true
  | .missingNeutral => true
  | .sag _ ph => phase ph
  | .swell _ ph => phase ph
  | .freqOutOfRange => true
  | .currentWithoutVoltage _ ph => phase ph
  | .reverseEnergy _ => true
  | .meterGap m ph => decide (m = .dc) || phase ph
  | .pulseStart j => decide (j < 3)
  | .pulseEnd j => decide (j < 3)
  | .recordSigned => true
  | .mramScrub => true
  | .loadProfileCapture p => decide (1 ≤ p ∧ p ≤ 2)
  | .tariffSwitched => true
  | .demandIntervalClose j => decide (j < 3)
  | .billingCloseScheduled => true
  | .calendarActivated => true
  | .dstChanged => true
  | .clockInvalid => true
  | .rtcDrift => true
  | .clockAgeExpired => true
  | .displayDwell => true
  | .dispManualTimeout => true
  | .dispBtnRelease _ => true
  | .dispBtnStuck _ => true
  | .dispBtnChatter _ => true
  | .pilotStateAccepted _ => true
  | .pilotETimeout => true
  | .cableChanged => true
  | .beacon _ => true
  | .slacParmReq => true
  | .slacMatched _ _ _ => true
  | .slacInitTimeout => true
  | .vplcLinkLost _ => true
  | .sdpRequest _ => true
  | .supportedAppProtocol _ => true
  | .sessionSetup => true
  | .serviceDiscovery => true
  | .authorizationReq _ _ => true
  | .pncValidated => true
  | .pncHostTimeout => true
  | .chargeParameterDiscovery _ _ _ => true
  | .powerDeliveryReq _ => true
  | .chargingLoopReq _ _ _ _ => true
  | .cableCheckReq => true
  | .preChargeReq _ => true
  | .preChargeReady => true
  | .weldingDetectionReq => true
  | .sessionStopReq _ => true
  | .cardRefused => true
  | .preauthExpired => true
  | .outletClose => true
  | .stopWaitExpiry => true
  | .sessionResume => true
  | .stageTimeout => true
  | .dcEnablesOpen => true
  | .hostGraceExpired => true
  | .degradedLimitExpiry => true
  | .fastTrip k _ => decide (1 ≤ k ∧ k ≤ 4)
  | .ftComparatorTest _ => true
  | .fluxgateDriveFault => true
  | .residualTierTrip _ => true
  | .rcPeakTrip _ => true
  | .rcTest _ _ _ => true
  | .quadProofPulse _ => true
  | .contactorCloseCheck => true
  | .contactorDropped mc => decide (1 ≤ mc ∧ mc ≤ 2)
  | .openingCheck => true
  | .testPulse _ _ => true
  | .safetyInputTrip _ => true
  | .discrepancy _ => true
  | .chatter _ _ => true
  | .overTemperatureTrip => true
  | .pilotIntegrityTrip => true
  | .peContinuityTrip => true
  | .insulationStep => true
  | .safetyRearm => true
  | .safetyConfirmExpired => true
  | .inrushStep k => hswChannel k
  | .fastShort k _ => hswChannel k
  | .thermalShutdown k _ => hswChannel k
  | .retryRestart k => hswChannel k
  | .retryCounterReset k => hswChannel k
  | .openLoad k _ => hswChannel k
  | .shortToVaux k => hswChannel k
  | .vauxUndervoltage _ _ => true
  | .vauxOvervoltage _ _ => true
  | .vauxRestored => true
  | .vauxOverloadShed => true
  | .vauxOverloadReturn => true
  | .lockDriveStop => true
  | .lockBrakeEnd => true
  | .lockRepeat => true
  | .lockLost => true
  | .coilPullinEnd => true
  | .gplcFrameReceived _ => true
  | .toneMapResponse t => decide (t.sender < 0x10000)
  | .toneMapAge _ => true
  | .routeRequest _ => true
  | .routeReply _ => true
  | .routeExpiry _ => true
  | .gplcJoined _ _ _ key => decide (key.length = 16)
  | .gplcPanLost => true
  | .bootstrapRetry => true
  | .modemHeartbeatMiss _ => true
  | .gplcModemRetry => true
  | .packetDelivered q sends => decide (q < 3) && sends.all fun x => decide (1 ≤ x.phy ∧ x.phy ≤ 16)
  | .packetDropped q _ sends => decide (q < 3) && sends.all fun x => decide (1 ≤ x.phy ∧ x.phy ≤ 16)
  | .queueTimeout q => decide (q < 3)
  | .lastGaspSent => true
  | .lastGaspAbandoned _ => true
  | .modemShed => true
  | .dlmsAssociated _ _ _ => true
  | .dlmsApdu _ => true
  | .dlmsInactivity _ => true
  | .pushRetry => true
  | .imageTransferInitiate _ _ => true
  | .imageBlockTransfer _ data _ => decide (data.length ≤ 1024)
  | .keyTransfer slot _ => decide (5 ≤ slot ∧ slot ≤ 7)
  | .gauzePing _ _ _ => true
  | .pollWhilePresent _ => true
  | .cardAbsent _ _ => true
  | .sWtxRequest _ => true
  | .cardTimeout _ _ => true
  | .readerFault _ _ => true
  | .calicoSelect _ => true
  | .calicoReadBinary _ _ => true
  | .calicoUpdateBinary _ data => decide (data.length ≤ 240)
  | .calicoTrigger _ _ => true
  | .calicoFieldCollapse _ => true
  | .harvOutChange _ _ _ => true
  | .cellMeasurement cell _ => cellNumber cell
  | .cellLoadTest cell _ => cellNumber cell
  | .cellRestored cell => cellNumber cell
  | .batteryDomainPowerUp => true
  | .tamperDetected src => tamperSource src
  | .keysErased => true
  | .rootGenerated => true
  | .loginNonceRefresh => true
  | .activationHandover => true
  | .updateActivated => true
  | .updateReverted _ => true
  | .bootRecovery => true
  | .supplyCollapse _ => true
  | .batteryDomainSupplyLost => true
  | .tamperSourceInactive src => tamperSource src
  | .safetyInputHighAccepted _ => true
  | .paymentServiceSelection _ _ => true

end Sys2Proof
end

