-- ==== Sys2Proof/Tests/Slice0.lean ====
section
/-!
SUPPORT. The model's own tests: an ill-formed command for each check of WellFormed; expected results from the spec's
worked examples and tables; and, for the statements in Certificates/Slice0, states and operands that meet the premises of
each clause.
-/

namespace Sys2Proof.Tests

set_option Elab.async false

open Sys2Proof Sys2Proof.Machine

/-! Small states. -/

/-- A machine in Ready: frames run, Lane A leads, Lane B follows. -/
def base : State :=
  { clk := { frame := 100000, running := true, startFrame := 100, mode := .ready, modePrev := .commissioning }
    dev := { lanes := { a := { st := .lead }, b := { st := .follow, pll := .xb }, token := some .a, reported := 3 }
             pow := { st := .mains, vsys := 12000, vhold := 28000, holdupReady := true, holdupCap := 3000
                      commissioned := true, factoryComplete := true }
             win := { hostPresent := true, everPresent := true, beatFrame := 99990, shadow := { marker := true } }
             keys := { supplied := true, recordCert := true, identity := 1 } } }

def onClk (f : Clk → Clk) (s : State) : State := { s with clk := f s.clk }
def onDev (f : Dev → Dev) (s : State) : State := s.onDev f
def onPow (f : Power → Power) : State → State := onDev fun d => { d with pow := f d.pow }
def onLan (f : Lanes → Lanes) : State → State := onDev fun d => { d with lanes := f d.lanes }
def onB (f : LaneRec → LaneRec) : State → State := onLan fun x => { x with b := f x.b }
def onWin (f : Win → Win) : State → State := onDev fun d => { d with win := f d.win }
def onAcs (f : Acs → Acs) : State → State := onDev fun d => { d with acs := f d.acs }
def onSes (f : Ses → Ses) : State → State := onDev fun d => { d with ses := f d.ses }
def onSaf (f : Saf → Saf) : State → State := onDev fun d => { d with saf := f d.saf }
def onVeh (f : Veh → Veh) : State → State := onDev fun d => { d with veh := f d.veh }
def onSw (f : Sw → Sw) : State → State := onDev fun d => { d with sw := f d.sw }
def onKeys (f : Keys → Keys) : State → State := onDev fun d => { d with keys := f d.keys }
def onUpd (f : Upd → Upd) : State → State := onDev fun d => { d with upd := f d.upd }
def onDiag (f : Diag → Diag) : State → State := onDev fun d => { d with diag := f d.diag }
def onTar (f : Tar → Tar) : State → State := onDev fun d => { d with tar := f d.tar }
def onLed (f : Led → Led) : State → State := onDev fun d => { d with led := f d.led }
def onDc (f : Dc → Dc) : State → State := onDev fun d => { d with dc := f d.dc }
def onNfc (f : Nfc → Nfc) : State → State := onDev fun d => { d with nfc := f d.nfc }
def onGplc (f : Gplc → Gplc) : State → State := onDev fun d => { d with gplc := f d.gplc }
def onDlms (f : Dlms → Dlms) : State → State := onDev fun d => { d with dlms := f d.dlms }
def onCal (f : Cal → Cal) : State → State := onDev fun d => { d with cal := f d.cal }
def onSamp (f : Samp → Samp) : State → State := onDev fun d => { d with samp := f d.samp }
def onMetr (f : Metr → Metr) : State → State := onDev fun d => { d with metr := f d.metr }
def onDisp (f : Disp → Disp) : State → State := onDev fun d => { d with disp := f d.disp }
def num (id : Nat) (v : Int) : State → State := onDev (Dev.setNum id v)
def mode (m : Mode) : State → State := onClk ({ · with mode := m })
def frame (n : Nat) : State → State := onClk ({ · with frame := n })
def chan (c : Nat) (f : Chan → Chan) : State → State :=
  onSamp fun x => { x with chans := x.chans.set c (f (x.chans[c]?.getD {})) }

/-- A session that draws energy through the AC outlet. -/
def ses : State :=
  onSes ({ · with isOpen := true, st := 4, number := 5, startFrame := 90000, auth := some ⟨3, [1, 2, 3, 4], none⟩ })
    (onLed ({ · with recordNumber := 5, records := [{ number := 5, startFrame := 90000 }] })
      (onLan ({ · with outputs := 1, request := 1 })
        (onSaf ({ · with closeOk := true }) (onVeh ({ · with st := .c, cable := 32000 }) (mode .session base)))))

/-- A session over the digital link. -/
def hlc : State := onVeh ({ · with link := .hlc, v2g := true, slac := .matched }) ses

/-- A local service login is open in Service. -/
def login : State := mode .service (onPow ({ · with login := some ⟨false, .host, 7, [1, 2, 3], .ready, 0⟩ }) base)

/-- A running test authorisation in Service. -/
def testing : State := onDiag ({ · with testFrom := some 1 }) login

def job (k : JobKind) (own arg : Nat) : Job :=
  { id := 3, st := 1, owner := own, progress := 0, result := 0, kind := k, arg := arg }
def zeros (n : Nat) : List Byte := List.replicate n 0
/-- Small numbers in the layout of a request. -/
def w2 (n : Nat) : List Byte := leBytes 2 n
def w4 (n : Nat) : List Byte := leBytes 4 n

/-- What a good start-up finds. -/
def start : StartIn :=
  { laneAOk := true, laneBOk := true, frameImageOk := true, laneProtoOk := true, nbplOk := true, bbplOk := true, nfcrOk := true
    xaOk := true, xbOk := true, arrayAOk := true, arrayBOk := true, badRecords := [], capUf := 3000, vhold := 28000
    rtcAdvance := 0, startMs := 100, badRefs := 0, identityOk := true, badSlots := 0, vaultCountersOk := true, lkFb := false }
/-- What a quiet frame shows. -/
def quiet : FrameIn :=
  { bits := List.replicate 18 0, overload := 0, rtcAdvance := 4, vsys := 12000, vhold := 28000, cellHeld := true, levels := 0
    fluxgateOk := true, hsw := List.replicate 8 ⟨0, 2500, 12000, false, 12000⟩, vaux := 12000, vauxI := 0, lockI := 0
    coilI1 := 0, coilI2 := 0, compareOk := true, outDiffer := 0, syncDiffer := false, marker := true, readbackA := true
    readbackB := true, stageStable := true, mramCorrected := 0, mirrorCorrected := 0, flashCorrected := 0, flashBad := []
    followWrites := 0, slotMargin := 100 }
def choice (s : State) : Choice :=
  (recoverChoice true true (beforeStart start s).dev).getD ⟨.a, {}, none⟩

/-- A frame of HUART with its CRC and its coding (R72). -/
def raw (b : List Byte) : List Byte := cobsEncode 100 (b ++ w4 (crc32 b).toNat)
/-- A credential of R404 but for its keys. -/
def cred (kind : Byte) : List Byte := [kind, 15] ++ w2 120 ++ zeros 32 ++ w4 0xFFFFFFFF ++ zeros 80

/-- The row of a parameter in the map. -/
def row (id : Nat) : PRow := (rowOf id).getD ⟨0, 0, 0, 0, 0, 0, 0, 0, 0, 0, 0, 0, 0, 0, ""⟩

/-- A node in a mesh with its coordinator, a second neighbour and packets in its queues. -/
def neighbour : Neighbour := { addr := 3, carriers := 0xFF, mapAt := 5, heardAt := 5, heardRtc := 5 }
def route : Route :=
  { dest := 0, next := 3, cost := 3, hops := 1, coordinator := true, expiry := 5, expiryRtc := 5, lastUse := 0 }
/-- A frame from the neighbour. -/
def gframe : GplcFrame :=
  { sender := 3, kilurmos := true, lqi := 40, extIl := true, preUs := 100, eSndUs := 7000, asksMap := false
    fromCoordinator := false, forward := false, dest := none, securityOk := true, duplicate := false }
/-- A packet of the node's own. -/
def own (a : Nat) : Packet := { kind := .own, dest := some a, at_ := 5 }
def net : State :=
  onGplc ({ · with
    st := 2, pan := some (1, 2), neighbours := [neighbour, { neighbour with addr := 4 }], routes := [route]
    queues := [[own 0, own 9], [{ kind := .push, dest := none, at_ := 7 }], [{ kind := .gasp, dest := some 0, at_ := 3 }]] }) base
def keyed : State := onKeys ({ · with slots := List.replicate 16 ⟨3, 1, 5, [1, 2]⟩ }) net

/-- A card without a random identifier. -/
def card : CardAns := { typeB := false, ident := [1, 2, 3, 4], isoDep := false, rate := 0, aidData := none, slots := [] }

/-- The confirmation of the safety check value of a state (R305). -/
def confirmArgs (s : State) (step : Byte) : List Byte := leBytes 8 (safetyCheckOf s.dev) ++ [step]

theorem safetyCheck_lt (d : Dev) : safetyCheckOf d < 256 ^ 8 := BitVec.isLt _

theorem confirmArgs_value (s : State) (step : Byte) : fieldAt (confirmArgs s step) 0 8 = safetyCheckOf s.dev := by
  have h := fieldAt_middle [] [step] 0 8 (safetyCheckOf s.dev) rfl
  rw [Nat.mod_eq_of_lt (safetyCheck_lt s.dev)] at h
  exact h

theorem confirmArgs_step (s : State) (step : Byte) : fieldAt (confirmArgs s step) 8 1 = step.toNat := by
  have h : slice (leBytes 8 (safetyCheckOf s.dev) ++ ([step] ++ [])) 8 1 = [step] :=
    slice_middle _ _ _ _ _ (leBytes_length _ _) rfl
  have e : slice (confirmArgs s step) 8 1 = [step] := h
  simp [fieldAt, e, leNat]

/-- The same with another value. -/
def wrongArgs (s : State) (step : Byte) : List Byte := leBytes 8 (safetyCheckOf s.dev + 1) ++ [step]

theorem wrongArgs_value (s : State) (step : Byte) : fieldAt (wrongArgs s step) 0 8 ≠ safetyCheckOf s.dev := by
  have h : fieldAt (wrongArgs s step) 0 8 = (safetyCheckOf s.dev + 1) % 256 ^ 8 :=
    fieldAt_middle [] [step] 0 8 (safetyCheckOf s.dev + 1) rfl
  have := safetyCheck_lt s.dev
  omega

theorem wrongArgs_step (s : State) (step : Byte) : fieldAt (wrongArgs s step) 8 1 = step.toNat := by
  have h : slice (leBytes 8 (safetyCheckOf s.dev + 1) ++ ([step] ++ [])) 8 1 = [step] :=
    slice_middle _ _ _ _ _ (leBytes_length _ _) rfl
  have e : slice (wrongArgs s step) 8 1 = [step] := h
  simp [fieldAt, e, leNat]

/-- A smallest good package for this module (R380): magic, length, serial number and CRC. -/
def packageHead : List Byte := w4 0x45475453 ++ zeros 2 ++ w2 64 ++ slice Config.serialNumber 0 16 ++ zeros 36
def package : List Byte := packageHead ++ w4 (crc32 packageHead).toNat

theorem packageHead_length : packageHead.length = 60 := by simp [packageHead, w4, w2, zeros]

theorem package_good : packageOk 64 (crc32 packageHead).toNat package = true := by
  have hl : package.length = 64 := by simp [package, packageHead_length, w4]
  have h0 : fieldAt package 0 4 = 0x45475453 := by
    have := fieldAt_middle [] (zeros 2 ++ w2 64 ++ slice Config.serialNumber 0 16 ++ zeros 36 ++
      w4 (crc32 packageHead).toNat) 0 4 0x45475453 rfl
    simpa [package, packageHead, w4, List.append_assoc] using this
  have h6 : fieldAt package 6 2 = 64 := by
    have := fieldAt_middle (w4 0x45475453 ++ zeros 2) (slice Config.serialNumber 0 16 ++ zeros 36 ++
      w4 (crc32 packageHead).toNat) 6 2 64 (by simp [w4, zeros])
    simpa [package, packageHead, w2, List.append_assoc] using this
  have h8 : slice package 8 16 = slice Config.serialNumber 0 16 := by
    have := slice_middle (w4 0x45475453 ++ zeros 2 ++ w2 64) (slice Config.serialNumber 0 16) (zeros 36 ++
      w4 (crc32 packageHead).toNat) 8 16 (by simp [w4, w2, zeros]) (by simp)
    simpa [package, packageHead, List.append_assoc] using this
  have ht : package.take 60 = packageHead := by rw [package, ← packageHead_length]; exact List.take_left
  have hc : fieldAt package 60 4 = (crc32 packageHead).toNat := by
    have h := fieldAt_middle packageHead [] 60 4 (crc32 packageHead).toNat packageHead_length
    rw [Nat.mod_eq_of_lt (show _ < 256 ^ 4 from (crc32 packageHead).isLt)] at h
    simpa [package, w4] using h
  simp [packageOk, hl, h0, h6, h8, ht, hc]

/-! Ill-formed commands: one for each check of WellFormed. -/

theorem test_ill_formed_tick :
    (Instr.frameTick { quiet with bits := [] }).wellFormed = false ∧
    (Instr.frameTick { quiet with hsw := [] }).wellFormed = false := by decide
theorem test_ill_formed_lane : (Instr.laneSelfFault .a .rail 7).wellFormed = false ∧
    (Instr.noTickGap 1).wellFormed = false := by decide
theorem test_ill_formed_port :
    (Instr.hspiWrite 0 [1, 2, 3] 0 []).wellFormed = false ∧ (Instr.hspiQwrite 0 [] 0 []).wellFormed = false ∧
    (Instr.hspiRead 0 0).wellFormed = false ∧ (Instr.hspiQread 0 0).wellFormed = false ∧
    (Instr.hspiInvalidOpcode 0x32).wellFormed = false ∧ (Instr.slotStateWrite .hspi 16 0).wellFormed = false ∧
    (Instr.windowWordWrite .hspi 0x10000 0).wellFormed = false := by decide
theorem test_ill_formed_alias :
    (Instr.aliasBitSet .hspi 2 1 false).wellFormed = false ∧ (Instr.aliasBitClear .hspi 0x10000 1 false).wellFormed = false := by
  decide
theorem test_ill_formed_request : (Instr.identify .host 1 (zeros 1009)).wellFormed = false := by decide +kernel
theorem test_ill_formed_numbers :
    (Instr.proofTestDone 7 true).wellFormed = false ∧ (Instr.keyDerived 16).wellFormed = false ∧
    (Instr.selftestRun 19 true 0).wellFormed = false ∧ (Instr.channelFault 18 false).wellFormed = false ∧
    (Instr.sag .grid 0).wellFormed = false ∧ (Instr.swell .grid 4).wellFormed = false ∧
    (Instr.meterGap .grid 4).wellFormed = false ∧ (Instr.pulseStart 3).wellFormed = false ∧
    (Instr.loadProfileCapture 0).wellFormed = false ∧ (Instr.demandIntervalClose 3).wellFormed = false ∧
    (Instr.fastTrip 5 0).wellFormed = false ∧ (Instr.contactorDropped 3).wellFormed = false ∧
    (Instr.inrushStep 9).wellFormed = false ∧ (Instr.packetDelivered 3 []).wellFormed = false ∧
    (Instr.packetDropped 0 false [⟨17, 0, 0, true⟩]).wellFormed = false ∧ (Instr.gplcJoined 1 2 false []).wellFormed = false ∧
    (Instr.keyTransfer 8 []).wellFormed = false ∧ (Instr.cellRestored 3).wellFormed = false ∧
    (Instr.tamperDetected 9).wellFormed = false := by decide
theorem test_ill_formed_lengths :
    (Instr.imageBlockTransfer 0 (zeros 1025) true).wellFormed = false ∧
    (Instr.calicoUpdateBinary 0 (zeros 241)).wellFormed = false := by decide +kernel
theorem test_ill_formed_sender : (Instr.toneMapResponse ⟨0x10000, 0, 0, 0, false, 0⟩).wellFormed = false := by decide
theorem test_well_formed : (Instr.frameTick quiet).wellFormed = true ∧ (Instr.sag .outlet 3).wellFormed = true ∧
    (Instr.identify .host 1 []).wellFormed = true := by decide

/-! Expected results from the spec's worked examples. -/

/-- 00_scope: 10 ms is 80 frames. -/
theorem test_ten_milliseconds : ms 10 = 80 := by decide
/-- 00_scope, R469: a check value as it is sent. -/
theorem test_check_value_bytes :
    leBytes 8 0x7C1E04A9B3F25D86 = [0x86, 0x5D, 0xF2, 0xB3, 0xA9, 0x04, 0x1E, 0x7C] := by decide
/-- R151: the example at 37.40 °C gives −134 ppm. -/
theorem test_temperature_term :
    tableTerm (zeros 60 ++ [0x88, 0xFF, 0, 0, 0x6A, 0xFF, 0, 0] ++ zeros 64) 0 3740 = -134 := by decide +kernel
/-- R153: one frame at 14,625 W. -/
theorem test_frame_energy : energyOf 14625000000000000 = 2181038080 := by decide +kernel
/-- R130, R151: the nearest value, and a half goes to the even one. -/
theorem test_rounding : cdiv (-144) 10 = -14 ∧ cdiv 5 10 = 0 ∧ cdiv 15 10 = 2 ∧ cdiv (-5) 10 = 0 := by decide
/-- R166: a pulse of 30 ms lasts 240 frames. -/
theorem test_pulse_frames : pulseFrames base.dev 0 = 240 := by decide +kernel
/-- R186: recovery over a checkpoint and a delta record. -/
theorem test_recovered_total :
    let c : Ckpt := { seq := 41000, fams := [{ total := 12345678 * 2 ^ 32 + 0x80000000,
                                               tariffs := [8345678 * 2 ^ 32, 4000000 * 2 ^ 32 + 0x80000000] }] }
    let d : Delta := ⟨7000, 41000, 2, 0, 3, 0, [0x0A3B40000000], [], [], 0⟩
    (Choice.fams ⟨.a, c, some d⟩).map (fun f => (f.total, f.tariffs)) =
      [(12348297 * 2 ^ 32 + 0xC0000000, [8345678 * 2 ^ 32, 4002619 * 2 ^ 32 + 0xC0000000])] := by decide +kernel
/-- R238: the duty for 16 A, 32 A and 63 A, and none below 6 A. -/
theorem test_duty :
    dutyOf 16000 = some 2665 ∧ dutyOf 32000 = some 5330 ∧ dutyOf 63000 = some 8920 ∧ dutyOf 5999 = none := by decide
/-- R257: the tariff cap of 25 A binds. -/
theorem test_limit_example : least [(32000, 1), (32000, 2), (32000, 3), (31600, 4), (25000, 5)] = (25000, 5) := by decide
/-- R257: equal inputs give the lowest code. -/
theorem test_limit_tie : least [(32000, 1), (32000, 2)] = (32000, 1) := by decide
/-- R295: 461 kΩ with the thresholds 100 kΩ and 500 kΩ. -/
theorem test_insulation :
    isoValue (num Param.ISO_INJ_VOLT 50000 base).dev 70 (-34) = some 461 ∧
    isoLimit (num Param.RATED_UDC 1000000 base).dev 100 = 100 ∧
    isoLimit (num Param.RATED_UDC 1000000 base).dev 500 = 500 ∧ isoValue base.dev 5 5 = none := by decide +kernel
/-- R284: 80 % of the nominal voltage is 184 V. -/
theorem test_closing_voltage :
    let at_ (uv : Int) := voltageShows (onMetr (fun m => { m with outlet := { m.outlet with
      phases := List.replicate 3 { uLine := List.replicate 160 uv } } }) base).dev
    at_ 184000000 = true ∧ at_ 183900000 = false := by decide +kernel

/-! The queue and the words of the opcode table. -/

theorem test_first_command_first :
    step { base with pending := [.sergeFault, .mirrorFault] } = exec .sergeFault { base with pending := [.mirrorFault] } :=
  rfl
theorem test_no_words : decodeTableWord 32 0 = none ∧ base.withFetchWord 32 0 = base := by decide

/-! The premises of each clause of the statements are met. -/

theorem test_premises_StepTakesFront :
    (∃ (c : Instr) (rest : List Instr) (s : State), s.pending = c :: rest) ∧
    (∃ (s : State), s.pending = []) :=
  ⟨⟨.sergeFault, [], { base with pending := [.sergeFault] }, (by decide +kernel)⟩,
   ⟨base, (by decide +kernel)⟩⟩

theorem test_premises_RegistersStaySound :
    ∃ (s : State) (t : State), s.regs.Sound ∧ step s = .next t :=
  ⟨{ base with pending := [.sergeFault] }, _, (by unfold Regs.Sound Fam.Sound; decide), (by rfl)⟩

theorem test_premises_ModeChangesAtTickOnly :
    ∃ (c : Instr) (s : State) (t : State), (∀ f, c ≠ .frameTick f) ∧ (∀ u, c ≠ .startUp u) ∧ exec c s = .next t :=
  ⟨.sergeFault, base, _, (fun _ h => nomatch h), (fun _ h => nomatch h), (rfl)⟩

theorem test_premises_TickCountsOneFrame :
    (∃ (s : State), s.clk.running = true ∧ finalEnds s = false ∧ s.dev.upd.restartDue = false) ∧
    (∃ (s : State), s.clk.running = true ∧ finalEnds s = true) ∧
    (∃ (s : State), s.clk.running = true ∧ finalEnds s = false ∧ s.dev.upd.restartDue = true) :=
  ⟨⟨base, (by decide +kernel), (by decide +kernel), (by decide +kernel)⟩,
   ⟨onPow ({ · with st := .hold, finalSeq := some 5 }) base, (by decide +kernel), (by decide +kernel)⟩,
   ⟨onUpd ({ · with restartDue := true }) base, (by decide +kernel), (by decide +kernel), (by decide +kernel)⟩⟩

theorem test_premises_ResetValues :
    ∃ (f : _), f ∈ State.reset.regs.fams :=
  ⟨{}, (by decide +kernel)⟩

theorem test_premises_FactoryNotReentered :
    ∃ (c : Instr) (s : State) (t : State), s.clk.mode ≠ .factory ∧ exec c s = .next t :=
  ⟨.sergeFault, base, _, (by decide +kernel), (rfl)⟩

theorem test_premises_ModeChangeEffects :
    (∃ (c : Instr) (s : State) (t : State), (∀ u, c ≠ .startUp u) ∧ exec c s = .next t ∧ t.clk.mode ≠ s.clk.mode) ∧
    (∃ (c : Instr) (s : State) (t : State), (∀ u, c ≠ .startUp u) ∧ exec c s = .next t ∧ t.clk.mode ≠ s.clk.mode ∧
      s.clk.mode = .service) ∧
    (∃ (u : StartIn) (c : Choice) (s : State), StartsFrom u c s) :=
  ⟨⟨.frameTick quiet, onPow ({ · with modeReqs := [⟨.safeStop, .toSafeStop, 0x2801⟩] }) base, _, (fun _ h => nomatch
     h), (rfl), (by decide +kernel)⟩,
   ⟨.frameTick quiet, onPow ({ · with modeReqs := [⟨.safeStop, .toSafeStop, 0x2801⟩] }) login, _, (fun _ h => nomatch
     h), (rfl), (by decide +kernel), (by decide +kernel)⟩,
   ⟨start, choice State.reset, State.reset,
     (by unfold StartsFrom; exact ⟨by decide +kernel, by decide +kernel, by decide +kernel, by decide +kernel, rfl⟩)⟩⟩

theorem test_premises_FollowFaultKeepsService :
    ∃ (l : Lane) (s : State), FaultableFollow l s :=
  ⟨.b, base, (by unfold FaultableFollow; decide +kernel)⟩

theorem test_premises_LeadFaults :
    (∃ (l : Lane) (s : State), FaultableLead l s) ∧
    (∃ (l : Lane) (s : State) (slot : _), FaultableLead l s ∧ slot < 4) ∧
    (∃ (l : Lane) (s : State) (slot : _), FaultableLead l s ∧ 4 ≤ slot) ∧
    (∃ (l : Lane) (s : State), s.clk.running = true ∧ (s.dev.lanes.get l).st = .lead ∧ s.dev.lanes.token = some l ∧
      (s.dev.lanes.get (laneOther l)).st ≠ .follow ∧ (s.dev.lanes.get (laneOther l)).st ≠ .lead) :=
  ⟨⟨.a, base, (by unfold FaultableLead; decide +kernel)⟩,
   ⟨.a, base, 3, (by unfold FaultableLead; decide +kernel), (by decide +kernel)⟩,
   ⟨.a, base, 4, (by unfold FaultableLead; decide +kernel), (by decide +kernel)⟩,
   ⟨.a, onB ({ · with st := .failed }) base, (by decide +kernel), (by decide +kernel), (by decide +kernel),
     (by decide +kernel), (by decide +kernel)⟩⟩

theorem test_premises_DisputeRows :
    (∃ (l : Lane) (x : Dispute) (s : State), VerdictOpen l x s) ∧
    (∃ (l : Lane) (x : Dispute) (s : State), VerdictOpen l x s ∧ ¬ ReturnedLately l x s) ∧
    (∃ (l : Lane) (x : Dispute) (s : State), VerdictOpen l x s ∧ ReturnedLately l x s) ∧
    (∃ (l : Lane) (x : Dispute) (s : State), s.dev.lanes.dispute = some x ∧ x.lone = some l ∧ x.frame < s.clk.frame) ∧
    (∃ (l : Lane) (x : Dispute) (s : State) (r : Recompute), s.dev.lanes.dispute = some x ∧ x.lone = some l ∧ x.frame
      < s.clk.frame ∧ r ≠ .confirms l) ∧
    (∃ (x : Dispute) (s : State), s.dev.lanes.dispute = some x ∧ x.outFrame + 2 ≤ s.clk.frame ∧ x.outputs ≠ 0) :=
  ⟨⟨.b, ⟨99999, true, 0, 0, 99999, false, none⟩, onLan
     ({ · with dispute := some ⟨99999, true, 0, 0, 99999, false, none⟩ }) base,
     (by unfold VerdictOpen; exact ⟨by decide, by decide, by decide, by decide, by decide, by decide, by decide, by decide, by decide, fun m => by cases m <;> decide +kernel⟩)⟩,
   ⟨.b, ⟨99999, true, 0, 0, 99999, false, none⟩, onLan
     ({ · with dispute := some ⟨99999, true, 0, 0, 99999, false, none⟩ }) base,
     (by unfold VerdictOpen; exact ⟨by decide, by decide, by decide, by decide, by decide, by decide, by decide, by decide, by decide, fun m => by cases m <;> decide +kernel⟩),
     (by rintro ⟨k, h, -⟩; cases h)⟩,
   ⟨.b, ⟨99999, true, 0, 0, 99999, false, none⟩, onB ({ · with unresolvedReturn := some 99000 }) (onLan
     ({ · with dispute := some ⟨99999, true, 0, 0, 99999, false, none⟩ }) base),
     (by unfold VerdictOpen; exact ⟨by decide, by decide, by decide, by decide, by decide, by decide, by decide, by decide, by decide, fun m => by cases m <;> decide +kernel⟩),
     (⟨99000, rfl, by decide⟩)⟩,
   ⟨.a, ⟨99999, true, 0, 0, 99999, false, some .a⟩, onLan
     ({ · with dispute := some ⟨99999, true, 0, 0, 99999, false, (some .a)⟩ }) base, (by decide +kernel),
     (by decide +kernel), (by decide +kernel)⟩,
   ⟨.a, ⟨99999, true, 0, 0, 99999, false, some .a⟩, onLan
     ({ · with dispute := some ⟨99999, true, 0, 0, 99999, false, (some .a)⟩ }) base, .unresolved, (by decide +kernel),
     (by decide +kernel), (by decide +kernel), (by decide +kernel)⟩,
   ⟨⟨99998, false, 1, 0, 99998, false, none⟩, onLan
     ({ · with dispute := some ⟨99998, false, 1, 0, 99998, false, none⟩ }) base, (by decide +kernel),
     (by decide +kernel), (by decide +kernel)⟩⟩

theorem test_premises_RepairRows :
    (∃ (l : Lane) (step : RepairStep) (s : State), (s.dev.lanes.get l).repair = some step ∧ step ≠ .rebuildArray) ∧
    (∃ (l : Lane) (step : RepairStep) (s : State), (s.dev.lanes.get l).repair = some step ∧ step = .rebuildArray ∧ (∀
      m, (s.dev.lanes.get m).mramLost = false)) ∧
    (∃ (l : Lane) (step : RepairStep) (s : State), (s.dev.lanes.get l).repair = some step ∧ s.dev.upd.activation =
      none) ∧
    (∃ (l : Lane) (s : State), s.clk.running = true ∧ (s.dev.lanes.get l).st = .probation ∧ s.dev.lanes.token = some
      (laneOther l) ∧ s.dev.upd.activation = none ∧ (s.dev.lanes.get (laneOther l)).faultedAt ≠ some s.clk.frame) ∧
    (∃ (l : Lane) (s : State), (s.dev.lanes.get l).st = .probation ∧ 800 ≤ (s.dev.lanes.get l).clean) :=
  ⟨⟨.b, .selfTest, onB ({ · with st := .reset, repair := some .selfTest }) base, (by decide +kernel),
     (by decide +kernel)⟩,
   ⟨.b, .rebuildArray, onB ({ · with st := .reset, repair := some .rebuildArray }) base, (by decide +kernel),
     (by decide +kernel), (by intro m; cases m <;> rfl)⟩,
   ⟨.b, .selfTest, onB ({ · with st := .reset, repair := some .selfTest }) base, (by decide +kernel),
     (by decide +kernel)⟩,
   ⟨.b, onB ({ · with st := .probation, repair := some .probation, clean := 5 }) base, (by decide +kernel),
     (by decide +kernel), (by decide +kernel), (by decide +kernel), (by decide +kernel)⟩,
   ⟨.b, onB ({ · with st := .probation, repair := some .probation, clean := 800 }) base, (by decide +kernel),
     (by decide +kernel)⟩⟩

theorem test_premises_TickAndCrystalRows :
    (∃ (frames : Nat) (s : State), s.clk.running = true ∧ 2 ≤ frames) ∧
    (∃ (xa : Int) (xb : Int) (s : State), s.clk.running = true ∧ xa.natAbs ≤ 100000 ∧ xb.natAbs ≤ 100000) ∧
    (∃ (x : Xtal) (xa : Int) (xb : Int) (s : State), s.dev.lanes.crystalOut x = false ∧ s.dev.lanes.crystalOut
      (xtalOther x) = false ∧ crystalVerdict xa xb = some x ∧ FaultableFollow (xtalLane x) s) ∧
    (∃ (x : Xtal) (xa : Int) (xb : Int) (s : State), s.dev.lanes.crystalOut x = false ∧ s.dev.lanes.crystalOut
      (xtalOther x) = false ∧ crystalVerdict xa xb = some x ∧ FaultableLead (xtalLane x) s) ∧
    (∃ (x : Xtal) (s : State), s.dev.lanes.crystalOut x = false ∧ s.dev.lanes.crystalOut (xtalOther x) = false ∧
      FaultableFollow (xtalLane x) s) ∧
    (∃ (x : Xtal) (slot : Nat) (s : State), s.dev.lanes.crystalOut x = false ∧ s.dev.lanes.crystalOut (xtalOther x) =
      false ∧ FaultableLead (xtalLane x) s ∧ slot < 4) ∧
    (∃ (x : Xtal) (slot : Nat) (s : State), s.dev.lanes.crystalOut x = false ∧ s.dev.lanes.crystalOut (xtalOther x) =
      false ∧ FaultableLead (xtalLane x) s ∧ 4 ≤ slot) ∧
    (∃ (x : Xtal) (s : State), s.dev.lanes.crystalOut x = false ∧ s.dev.lanes.crystalOut (xtalOther x) = true) :=
  ⟨⟨2, base, (by decide +kernel), (by decide +kernel)⟩,
   ⟨100000, -100000, base, (by decide +kernel), (by decide +kernel), (by decide +kernel)⟩,
   ⟨.xb, 100000, -100001, base, (by decide +kernel), (by decide +kernel), (by decide +kernel),
     (by unfold FaultableFollow; decide +kernel)⟩,
   ⟨.xa, 100001, -100000, base, (by decide +kernel), (by decide +kernel), (by decide +kernel),
     (by unfold FaultableLead; decide +kernel)⟩,
   ⟨.xb, base, (by decide +kernel), (by decide +kernel), (by unfold FaultableFollow; decide +kernel)⟩,
   ⟨.xa, 3, base, (by decide +kernel), (by decide +kernel), (by unfold FaultableLead; decide +kernel),
     (by decide +kernel)⟩,
   ⟨.xa, 4, base, (by decide +kernel), (by decide +kernel), (by unfold FaultableLead; decide +kernel),
     (by decide +kernel)⟩,
   ⟨.xb, onLan ({ · with xaFailed := true }) base, (by decide +kernel), (by decide +kernel)⟩⟩

theorem test_premises_HoldupRows :
    (∃ (s : State), s.clk.running = true ∧ s.clk.mode = .ready ∧ s.dev.ses.isOpen = false ∧ s.dev.pow.lastCapMeasure +
      dayFrames ≤ s.clk.frame) ∧
    (∃ (s : State), s.dev.pow.recharge ≠ none ∧ 28000 ≤ s.dev.pow.vhold) ∧
    (∃ (f : Nat) (s : State), s.dev.pow.recharge = some f ∧ f + 24000 ≤ s.clk.frame ∧ s.dev.pow.vhold < 28000) :=
  ⟨⟨frame dayFrames base, (by decide +kernel), (by decide +kernel), (by decide +kernel), (by decide +kernel)⟩,
   ⟨onPow ({ · with recharge := some 0 }) base, (by decide +kernel), (by decide +kernel)⟩,
   ⟨76000, onPow ({ · with recharge := some 76000, vhold := 27999 }) base, (by decide +kernel), (by decide +kernel),
     (by decide +kernel)⟩⟩

theorem test_premises_HoldRows :
    (∃ (s : State), s.clk.running = true ∧ s.dev.pow.st = .mains ∧ 2 ≤ s.dev.pow.vsysLow) ∧
    (∃ (s : State), s.clk.running = true ∧ s.dev.pow.st = .hold ∧ s.dev.pow.finalSeq = none ∧ (s.dev.pow.vhold <
      s.dev.nat Param.HOLDUP_FINAL_V ∨ gridLost s.dev = true)) ∧
    (∃ (s : State), s.clk.running = true ∧ s.dev.pow.st = .hold ∧ s.dev.pow.finalSeq = none ∧ 80 ≤ s.dev.pow.vsysGood) :=
  ⟨⟨onPow ({ · with vsysLow := 2 }) base, (by decide +kernel), (by decide +kernel), (by decide +kernel)⟩,
   ⟨onPow ({ · with st := .hold, vhold := 13999 }) base, (by decide +kernel), (by decide +kernel),
     (by decide +kernel), (by decide +kernel)⟩,
   ⟨onPow ({ · with st := .hold, vsysGood := 80 }) base, (by decide +kernel), (by decide +kernel),
     (by decide +kernel), (by decide +kernel)⟩⟩

theorem test_premises_ResetRows :
    ∃ (s : State), (s.clk.running = true ∨ s.dev.pow.st = .mains) :=
  ⟨base, (by decide +kernel)⟩

theorem test_premises_StartRows :
    (∃ (u : StartIn) (c : Choice) (s : State), StartsFrom u c s) ∧
    (∃ (u : StartIn) (s : State), s.clk.running = false ∧ s.dev.pow.inReset = false ∧ u.frameImageOk = false) ∧
    (∃ (s : State), readyDue s = true) :=
  ⟨⟨start, choice State.reset, State.reset,
     (by unfold StartsFrom; exact ⟨by decide +kernel, by decide +kernel, by decide +kernel, by decide +kernel, rfl⟩)⟩,
   ⟨{ start with frameImageOk := false }, State.reset, (by decide +kernel), (by decide +kernel), (by decide +kernel)⟩,
   ⟨onPow ({ · with starting := true }) base, (by decide +kernel)⟩⟩

theorem test_premises_SafetySetAtStart :
    ∃ (u : StartIn) (c : Choice) (s : State), StartsFrom u c s ∧ s.dev.saf.confirmSt = 2 ∧ s.dev.acs.nextTick = [] :=
  ⟨start, choice (onSaf ({ · with confirmSt := 2 }) State.reset), onSaf ({ · with confirmSt := 2 }) State.reset,
    (by unfold StartsFrom; exact ⟨by decide +kernel, by decide +kernel, by decide +kernel, by decide +kernel, rfl⟩),
    (by decide +kernel), (by decide +kernel)⟩

theorem test_premises_ServiceButtonRows :
    (∃ (frames : Nat) (s : State), s.dev.pow.serviceStuck = false ∧ s.dev.pow.serviceIgnoreUntil ≤ s.clk.frame ∧ 160 ≤
      frames ∧ frames < 16000) ∧
    (∃ (frames : Nat) (s : State), s.dev.pow.serviceStuck = false ∧ s.dev.pow.serviceIgnoreUntil ≤ s.clk.frame ∧ 40000
      ≤ frames ∧ frames ≤ 80000) ∧
    (∃ (frames : Nat) (s : State), s.dev.pow.serviceStuck = false ∧ s.dev.pow.serviceIgnoreUntil ≤ s.clk.frame ∧
      (frames < 160 ∨ (16000 ≤ frames ∧ frames < 40000) ∨ 80000 < frames)) ∧
    (∃ (s : State), s.dev.pow.serviceStuck = true) ∧
    (∃ (s : State), s.dev.pow.serviceStuck = false ∧ s.clk.frame < s.dev.pow.serviceIgnoreUntil) ∧
    (∃ (frames : Nat) (s : State), s.dev.pow.serviceStuck = false ∧ 240000 < frames) ∧
    (∃ (edges : Nat), 20 < edges) ∧
    (∃ (w : Nat) (s : State), s.dev.pow.loginWindow = some w ∧ w ≤ s.clk.frame) ∧
    (∃ (l : Login) (s : State), s.dev.pow.login = some l ∧ l.lastAccepted + 8000 * s.dev.nat Param.SERVICE_TIMEOUT ≤
      s.clk.frame) :=
  ⟨⟨160, base, (by decide +kernel), (by decide +kernel), (by decide +kernel), (by decide +kernel)⟩,
   ⟨40000, base, (by decide +kernel), (by decide +kernel), (by decide +kernel), (by decide +kernel)⟩,
   ⟨159, base, (by decide +kernel), (by decide +kernel), (by decide +kernel)⟩,
   ⟨onPow ({ · with serviceStuck := true }) base, (by decide +kernel)⟩,
   ⟨onPow ({ · with serviceIgnoreUntil := 100001 }) base, (by decide +kernel), (by decide +kernel)⟩,
   ⟨240001, base, (by decide +kernel), (by decide +kernel)⟩,
   ⟨21, (by decide +kernel)⟩,
   ⟨100000, onPow ({ · with loginWindow := some 100000 }) base, (by decide +kernel), (by decide +kernel)⟩,
   ⟨⟨false, .host, 7, [1, 2, 3], .ready, 0⟩, frame 7200000 login, (by decide +kernel), (by decide +kernel)⟩⟩

theorem test_premises_HspiTransfers :
    (∃ (addr : BitVec 24) (data : List Byte) (s : State), PortOpen .hspi s ∧ s.dev.win.RamSound ∧ data.length % 4 = 0
      ∧ data.length ≤ 4096 ∧ 0x1000 ≤ addr.toNat ∧ addr.toNat < 0x10000 ∧ writeOk s.dev addr.toNat (data.length / 4) =
      true) ∧
    (∃ (addr : BitVec 24) (data : List Byte) (crc : Word) (s : State), PortOpen .hspi s ∧ crc ≠ crc32 (hspiCovered
      0x02 addr data)) ∧
    (∃ (addr : BitVec 24) (data : List Byte) (crc : Word) (s : State), PortOpen .hspi s ∧ crc ≠ crc32 (hspiCovered
      0x32 addr data)) ∧
    (∃ (addr : BitVec 24) (data : List Byte) (s : State), PortOpen .hspi s ∧ writeOk s.dev addr.toNat (data.length /
      4) = false) ∧
    (∃ (addr : BitVec 24) (words : Nat) (s : State), PortOpen .hspi s ∧ accessOk addr.toNat words = true) ∧
    (∃ (addr : BitVec 24) (words : Nat) (s : State), PortOpen .hspi s ∧ accessOk addr.toNat words = false) ∧
    (∃ (s : State), PortOpen .hspi s) ∧
    (∃ (op : Byte) (s : State), PortOpen .hspi s ∧ op ≠ 0x02 ∧ op ≠ 0x03 ∧ op ≠ 0x32 ∧ op ≠ 0x6B ∧ op ≠ 0x05) :=
  ⟨⟨0x1000, [1, 0, 3, 4, 5, 6, 0, 8], base, (by unfold PortOpen; decide +kernel),
     (by unfold Win.RamSound; decide +kernel), (by decide +kernel), (by decide +kernel), (by decide +kernel),
     (by decide +kernel), (by decide +kernel)⟩,
   ⟨0x1000, [1, 0, 3, 4], 0, base, (by unfold PortOpen; decide +kernel), (by decide +kernel)⟩,
   ⟨0x1000, [1, 0, 3, 4], 0, base, (by unfold PortOpen; decide +kernel), (by decide +kernel)⟩,
   ⟨0x30000, [1, 0, 3, 4], base, (by unfold PortOpen; decide +kernel), (by decide +kernel)⟩,
   ⟨0x1000, 1, base, (by unfold PortOpen; decide +kernel), (by decide +kernel)⟩,
   ⟨0x30000, 1, base, (by unfold PortOpen; decide +kernel), (by decide +kernel)⟩,
   ⟨base, (by unfold PortOpen; decide +kernel)⟩,
   ⟨6, base, (by unfold PortOpen; decide +kernel), (by decide +kernel), (by decide +kernel), (by decide +kernel),
     (by decide +kernel), (by decide +kernel)⟩⟩

theorem test_premises_AliasWrites :
    (∃ (p : Port) (a : Nat) (s : State), PortOpen p s ∧ s.dev.win.RamSound ∧ a < 0x10000 ∧ a % 4 = 0 ∧ hostWritable
      s.dev 1 a = true) ∧
    (∃ (p : Port) (a : Nat) (s : State), PortOpen p s ∧ s.dev.win.RamSound ∧ a < 0x10000 ∧ a % 4 = 0 ∧ hostWritable
      s.dev 2 a = true) ∧
    (∃ (p : Port) (a : Nat) (s : State), PortOpen p s ∧ (a = 0x200 ∨ (0x140 ≤ a ∧ a < 0x180))) ∧
    (∃ (addr : BitVec 24) (words : Nat) (s : State), PortOpen .hspi s ∧ accessOk addr.toNat words = true) ∧
    (∃ (addr : BitVec 24) (s : State), PortOpen .hspi s ∧ 0x30000 ≤ addr.toNat) :=
  ⟨⟨.hspi, 0x100, base, (by unfold PortOpen; decide +kernel), (by unfold Win.RamSound; decide +kernel),
     (by decide +kernel), (by decide +kernel), (by decide +kernel)⟩,
   ⟨.huart, 0x204, base, (by unfold PortOpen; decide +kernel), (by unfold Win.RamSound; decide +kernel),
     (by decide +kernel), (by decide +kernel), (by decide +kernel)⟩,
   ⟨.hspi, 0x17C, base, (by unfold PortOpen; decide +kernel), (by decide +kernel)⟩,
   ⟨0x1000, 1, base, (by unfold PortOpen; decide +kernel), (by decide +kernel)⟩,
   ⟨0x30000, base, (by unfold PortOpen; decide +kernel), (by decide +kernel)⟩⟩

theorem test_premises_HuartTransfers :
    (∃ (raw : List Byte) (f : UFrame) (s : State), PortOpen .huart s ∧ uartFrame raw = some f ∧ f.type = 1 ∧ accessOk
      f.addr (f.len / 4) = true) ∧
    (∃ (raw : List Byte) (f : UFrame) (s : State), PortOpen .huart s ∧ uartFrame raw = some f ∧ f.type = 2 ∧
      s.dev.win.RamSound ∧ 0x1000 ≤ f.addr ∧ f.addr < 0x10000 ∧ writeOk s.dev f.addr (f.len / 4) = true ∧ (∀ res,
      s.dev.win.huart.lastSeq ≠ some (f.seq, res))) ∧
    (∃ (raw : List Byte) (f : UFrame) (s : State), PortOpen .huart s ∧ uartFrame raw = some f ∧ f.type = 1 ∧ accessOk
      f.addr (f.len / 4) = false) ∧
    (∃ (raw : List Byte) (f : UFrame) (s : State), PortOpen .huart s ∧ uartFrame raw = some f ∧ f.type = 2 ∧ writeOk
      s.dev f.addr (f.len / 4) = false ∧ (∀ res, s.dev.win.huart.lastSeq ≠ some (f.seq, res))) ∧
    (∃ (raw : List Byte) (f : UFrame) (res : Nat) (s : State), PortOpen .huart s ∧ uartFrame raw = some f ∧ f.type = 2
      ∧ s.dev.win.huart.lastSeq = some (f.seq, res)) ∧
    (∃ (raw : List Byte) (s : State), portServes .huart s = true ∧ uartFrame raw = none) ∧
    (∃ (s : State), portServes .huart s = true) :=
  ⟨⟨raw [1, 9, 0, 0x10, 0, 8, 0], ⟨1, 9, 0x1000, 8, []⟩, base, (by unfold PortOpen; decide +kernel),
     (by decide +kernel), (by decide +kernel), (by decide +kernel)⟩,
   ⟨raw ([2, 3, 0, 0x10, 0, 8, 0] ++ [1, 0, 3, 4, 5, 6, 0, 8]), ⟨2, 3, 0x1000, 8, [1, 0, 3, 4, 5, 6, 0, 8]⟩, base,
     (by unfold PortOpen; decide +kernel), (by decide +kernel), (by decide +kernel),
     (by unfold Win.RamSound; decide +kernel), (by decide +kernel), (by decide +kernel), (by decide +kernel), (fun _ h
     => nomatch h)⟩,
   ⟨raw [1, 9, 0, 0, 3, 8, 0], ⟨1, 9, 0x30000, 8, []⟩, base, (by unfold PortOpen; decide +kernel),
     (by decide +kernel), (by decide +kernel), (by decide +kernel)⟩,
   ⟨raw ([2, 3, 0, 0, 3, 8, 0] ++ [1, 0, 3, 4, 5, 6, 0, 8]), ⟨2, 3, 0x30000, 8, [1, 0, 3, 4, 5, 6, 0, 8]⟩, base,
     (by unfold PortOpen; decide +kernel), (by decide +kernel), (by decide +kernel), (by decide +kernel), (fun _ h =>
     nomatch h)⟩,
   ⟨raw ([2, 3, 0, 0x10, 0, 8, 0] ++ [1, 0, 3, 4, 5, 6, 0, 8]), ⟨2, 3, 0x1000, 8, [1, 0, 3, 4, 5, 6, 0, 8]⟩, 0, onWin
     (fun w => { w with huart := { w.huart with lastSeq := some (3, 0) } }) base,
     (by unfold PortOpen; decide +kernel), (by decide +kernel), (by decide +kernel), (by decide +kernel)⟩,
   ⟨[3, 4], base, (by decide +kernel), (by decide +kernel)⟩,
   ⟨base, (by decide +kernel)⟩⟩

theorem test_premises_WindowWordRows :
    (∃ (p : Port) (s : State), PortOpen p s) ∧
    (∃ (p : Port) (v : Word) (s : State) (k : Nat) (x : Slot), PortOpen p s ∧ k < 16 ∧ s.dev.win.slots[k]? = some x ∧
      x.st = .free ∧ v.toNat % 4 = 1 ∧ v.toNat / 65536 ≠ x.seq) ∧
    (∃ (p : Port) (v : Word) (s : State) (k : Nat) (x : Slot), PortOpen p s ∧ k < 16 ∧ s.dev.win.slots[k]? = some x ∧
      x.st = .done ∧ v.toNat % 4 = 0) ∧
    (∃ (p : Port) (v : Word) (s : State) (k : Nat) (x : Slot), PortOpen p s ∧ k < 16 ∧ s.dev.win.slots[k]? = some x ∧
      (x.st = .filled ∨ x.st = .taken ∨ (x.st = .free ∧ (v.toNat % 4 ≠ 1 ∨ v.toNat / 65536 = x.seq)) ∨ (x.st = .done ∧
      v.toNat % 4 ≠ 0))) ∧
    (∃ (p : Port) (s : State) (a : _), PortOpen p s ∧ 0x1000 ≤ a ∧ a < 0x10000 ∧ a % 4 = 0 ∧ hostWritable s.dev 0 a =
      true ∧ s.dev.win.RamSound) :=
  ⟨⟨.hspi, base, (by unfold PortOpen; decide +kernel)⟩,
   ⟨.hspi, 0x10001, base, 0, {}, (by unfold PortOpen; decide +kernel), (by decide +kernel), (by decide +kernel),
     (by decide +kernel), (by decide +kernel), (by decide +kernel)⟩,
   ⟨.hspi, 0x10000, onWin ({ · with slots := List.replicate 16 { st := .done } }) base, 15, { st := .done },
     (by unfold PortOpen; decide +kernel), (by decide +kernel), (by decide +kernel), (by decide +kernel),
     (by decide +kernel)⟩,
   ⟨.hspi, 1, onWin ({ · with slots := List.replicate 16 { st := .filled } }) base, 15, { st := .filled },
     (by unfold PortOpen; decide +kernel), (by decide +kernel), (by decide +kernel), (by decide +kernel)⟩,
   ⟨.hspi, base, 0x1000, (by unfold PortOpen; decide +kernel), (by decide +kernel), (by decide +kernel),
     (by decide +kernel), (by decide +kernel), (by unfold Win.RamSound; decide +kernel)⟩⟩

theorem test_premises_HostPresenceRows :
    (∃ (l : Lane) (s : State), s.clk.running = true ∧ finalEnds s = false ∧ s.dev.upd.restartDue = false ∧
      s.dev.lanes.token = some l ∧ s.dev.lanes.grant = none ∧ s.dev.win.doorbell = 0 ∧ s.dev.acs.nextTick = [] ∧
      s.dev.win.beatFrame + ms (s.dev.nat Param.HOST_BEAT) ≤ s.clk.frame + 1) ∧
    (∃ (s : State), s.clk.running = true ∧ s.dev.win.hostPresent = true ∧ s.dev.nat Param.HOST_BEAT_MISS ≤
      s.dev.win.beatMissed) ∧
    (∃ (p : Port) (s : State), (s.dev.win.port p).failed = false ∧ 16 ≤ (s.dev.win.port p).bad) ∧
    (∃ (p : Port) (s : State), (s.dev.win.port p).failed = true ∧ 16 ≤ (s.dev.win.port p).good) ∧
    (∃ (s : State), 0 < s.dev.win.omitted ∧ ringFull s.dev.win = false) :=
  ⟨⟨.a, onWin ({ · with beatFrame := 0 }) base, (by decide +kernel), (by decide +kernel), (by decide +kernel),
     (by decide +kernel), (by decide +kernel), (by decide +kernel), (by decide +kernel), (by decide +kernel)⟩,
   ⟨onWin ({ · with beatMissed := 255 }) base, (by decide +kernel), (by decide +kernel), (by decide +kernel)⟩,
   ⟨.huart, onWin (fun w => { w with huart := { w.huart with bad := 16 } }) base, (by decide +kernel),
     (by decide +kernel)⟩,
   ⟨.hspi, onWin (fun w => { w with hspi := { w.hspi with failed := true, good := 16 } }) base, (by decide +kernel),
     (by decide +kernel)⟩,
   ⟨onWin ({ · with omitted := 1 }) base, (by decide +kernel), (by decide +kernel)⟩⟩

theorem test_premises_AcsRefusals :
    (∃ (c : Instr) (q : AcsReq) (s : State), acsReq c = some q ∧ acsServes s = false) ∧
    (∃ (c : Instr) (q : AcsReq) (s : State) (r : _) (p : _), acsReq c = some q ∧ acsServes s = true ∧ acsCheck q.code
      q.own q.args s = some (r, p)) ∧
    (∃ (c : Instr) (q : AcsReq) (s : State), acsReq c = some q ∧ AcsOpen q.code q.own q.args s) :=
  ⟨⟨.jobList .host 3 [], ⟨Cmd.JOB_LIST, .host, 3, []⟩, State.reset, (rfl), (by decide +kernel)⟩,
   ⟨.jobList .host 3 (zeros 5), ⟨Cmd.JOB_LIST, .host, 3, zeros 5⟩, base, Res.badParam, [], (rfl), (by decide +kernel),
     (by decide +kernel)⟩,
   ⟨.identify .host 3 [], ⟨Cmd.IDENTIFY, .host, 3, []⟩, base, (rfl), (by unfold AcsOpen; decide +kernel)⟩⟩

theorem test_premises_ReadCommands :
    (∃ (own : Owner) (args : List Byte) (s : State), AcsOpen Cmd.IDENTIFY own args s) ∧
    (∃ (own : Owner) (args : List Byte) (s : State), AcsOpen Cmd.PARAM_READ own args s) ∧
    (∃ (own : Owner) (args : List Byte) (s : State) (r : _), AcsOpen Cmd.PARAM_DESCRIBE own args s ∧ rowOf (fieldAt
      args 0 2) = some r) ∧
    (∃ (own : Owner) (args : List Byte) (s : State) (r : _), AcsOpen Cmd.PARAM_READ_BLOCK own args s ∧ rowOf (fieldAt
      args 0 2) = some r ∧ r.modesR.testBit s.clk.mode.code = true ∧ 0 < fieldAt args 8 2 ∧ fieldAt args 8 2 ≤ 992 ∧
      fieldAt args 4 4 + fieldAt args 8 2 ≤ r.len) ∧
    (∃ (own : Owner) (args : List Byte) (s : State), AcsOpen Cmd.PARAM_PENDING own args s) ∧
    (∃ (own : Owner) (args : List Byte) (s : State), AcsOpen Cmd.PARAM_ENUM own args s ∧ 0 < fieldAt args 2 2 ∧
      fieldAt args 2 2 ≤ 480) ∧
    (∃ (own : Owner) (args : List Byte) (s : State) (o : _), AcsOpen Cmd.CMD_OUTCOME own args s ∧
      s.dev.acs.durable.reverse.find? (fun o => o.tag = fieldAt args 0 4 && o.cmd = fieldAt args 4 2) = some o) ∧
    (∃ (own : Owner) (args : List Byte) (s : State), AcsOpen Cmd.CMD_OUTCOME own args s ∧ (∀ o ∈ s.dev.acs.durable,
      o.tag ≠ fieldAt args 0 4 ∨ o.cmd ≠ fieldAt args 4 2)) ∧
    (∃ (own : Owner) (args : List Byte) (s : State), AcsOpen Cmd.EVENT_FETCH own args s ∧ 1 ≤ fieldAt args 4 1 ∧
      fieldAt args 4 1 ≤ 31) ∧
    (∃ (own : Owner) (args : List Byte) (s : State), AcsOpen Cmd.JOB_LIST own args s) ∧
    (∃ (own : Owner) (args : List Byte) (s : State) (j : _), AcsOpen Cmd.JOB_STATUS own args s ∧ s.dev.acs.jobs.find?
      (·.id = fieldAt args 0 2) = some j) ∧
    (∃ (own : Owner) (args : List Byte) (s : State) (v : _), AcsOpen Cmd.REGISTERS_READ own args s ∧ registerBytes
      (fieldAt args 0 1) s.regs = some v ∧ pubHeld s.dev = false) ∧
    (∃ (own : Owner) (args : List Byte) (s : State) (v : _), AcsOpen Cmd.REGISTERS_READ own args s ∧ registerBytes
      (fieldAt args 0 1) s.regs = some v ∧ pubHeld s.dev = true) ∧
    (∃ (own : Owner) (args : List Byte) (s : State), AcsOpen Cmd.METR_LOG_READ own args s ∧ 1 ≤ fieldAt args 2 1 ∧
      fieldAt args 2 1 ≤ 31) ∧
    (∃ (own : Owner) (args : List Byte) (s : State), AcsOpen Cmd.SAFETY_CHECK_READ own args s) ∧
    (∃ (own : Owner) (args : List Byte) (s : State), AcsOpen Cmd.CALICO_STAGING_STATUS own args s) :=
  ⟨⟨.host, [], base, (by unfold AcsOpen; decide +kernel)⟩,
   ⟨.host, w2 1 ++ w2 Param.HOST_BEAT, base, (by unfold AcsOpen; decide +kernel)⟩,
   ⟨.headEnd 1, w2 Param.HOST_BEAT, base, row Param.HOST_BEAT, (by unfold AcsOpen; decide +kernel),
     (by decide +kernel)⟩,
   ⟨.host, w2 Param.AUX_RESULTS ++ zeros 2 ++ w4 4 ++ w2 16, base, row Param.AUX_RESULTS,
     (by unfold AcsOpen; decide +kernel), (by decide +kernel), (by decide +kernel), (by decide +kernel),
     (by decide +kernel), (by decide +kernel)⟩,
   ⟨.headEnd 1, [], base, (by unfold AcsOpen; decide +kernel)⟩,
   ⟨.host, w2 0x200 ++ w2 480, base, (by unfold AcsOpen; decide +kernel), (by decide +kernel), (by decide +kernel)⟩,
   ⟨.host, zeros 6, onAcs ({ · with durable := [⟨0, 0, 0, 5⟩] }) base, ⟨0, 0, 0, 5⟩,
     (by unfold AcsOpen; decide +kernel), (by decide +kernel)⟩,
   ⟨.host, zeros 6, base, (by unfold AcsOpen; decide +kernel), (by decide +kernel)⟩,
   ⟨.headEnd 1, zeros 4 ++ [31], base, (by unfold AcsOpen; decide +kernel), (by decide +kernel), (by decide +kernel)⟩,
   ⟨.host, [], base, (by unfold AcsOpen; decide +kernel)⟩,
   ⟨.host, w2 3, onAcs ({ · with jobs := [job .scrub 0 3] }) base, job .scrub 0 3,
     (by unfold AcsOpen; decide +kernel), (by decide +kernel)⟩,
   ⟨.host, [5], base, (registerBytes 5 base.regs).getD [], (by unfold AcsOpen; decide +kernel), (by decide +kernel),
     (by decide +kernel)⟩,
   ⟨.host, [5], onWin ({ · with heldVals := [(0, [1])] }) (onLan
     ({ · with dispute := some ⟨99999, true, 0, 0, 99999, false, none⟩ }) base), (registerBytes 5 (onWin
     ({ · with heldVals := [(0, [1])] }) (onLan ({ · with dispute := some ⟨99999, true, 0, 0, 99999, false, none⟩ })
     base)).regs).getD [], (by unfold AcsOpen; decide +kernel), (by decide +kernel), (by decide +kernel)⟩,
   ⟨.host, [0, 0, 31], base, (by unfold AcsOpen; decide +kernel), (by decide +kernel), (by decide +kernel)⟩,
   ⟨.host, [], base, (by unfold AcsOpen; decide +kernel)⟩,
   ⟨.host, [], base, (by unfold AcsOpen; decide +kernel)⟩⟩

theorem test_premises_WindowCommands :
    (∃ (own : Owner) (args : List Byte) (s : State) (b : _), AcsOpen Cmd.SNAPSHOT_TAKE own args s ∧ 1 ≤ fieldAt args 2
      2 ∧ fieldAt args 2 2 ≤ 128 ∧ (fieldAt args 0 1 ≤ 2 ∨ fieldAt args 0 1 = 0xFF) ∧ bufferFor s.dev (fieldAt args 0
      1) = some b) ∧
    (∃ (own : Owner) (args : List Byte) (s : State) (b : _), AcsOpen Cmd.SNAPSHOT_RELEASE own args s ∧ fieldAt args 0
      1 = b ∧ b ≤ 2) ∧
    (∃ (own : Owner) (args : List Byte) (s : State) (r : _), own = .host ∧ AcsOpen Cmd.RECORD_READ own args s ∧
      recordOf (fieldAt args 0 4) s.dev = some r ∧ s.dev.acs.bulk = none) ∧
    (∃ (own : Owner) (args : List Byte) (s : State) (r : _), own ≠ .host ∧ AcsOpen Cmd.RECORD_READ own args s ∧
      recordOf (fieldAt args 0 4) s.dev = some r) ∧
    (∃ (own : Owner) (args : List Byte) (s : State) (r : _), own = .host ∧ AcsOpen Cmd.SIGNATURE_READ own args s ∧
      recordOf (fieldAt args 0 4) s.dev = some r ∧ r.signState = 2 ∧ s.dev.acs.bulk = none) ∧
    (∃ (own : Owner) (args : List Byte) (s : State) (r : _), own ≠ .host ∧ AcsOpen Cmd.SIGNATURE_READ own args s ∧
      recordOf (fieldAt args 0 4) s.dev = some r ∧ r.signState = 2) ∧
    (∃ (own : Owner) (args : List Byte) (s : State) (b : _), AcsOpen Cmd.BULK_CHUNK own args s ∧ s.dev.acs.bulk = some
      b ∧ b.toHost = true ∧ (recoveryOnly s = true ∨ (bulkModes b.use).testBit s.clk.mode.code = true) ∧ fieldAt args
      0 2 = b.next % 65536 ∧ bulkOut b ≠ [] ∧ (bulkOut b).length = fieldAt args 2 2 ∧ (crc32 (bulkOut b)).toNat =
      fieldAt args 4 4) ∧
    (∃ (own : Owner) (args : List Byte) (s : State) (b : _) (data : _) (last : _), AcsOpen Cmd.BULK_CHUNK own args s ∧
      s.dev.acs.bulk = some b ∧ b.toHost = false ∧ (recoveryOnly s = true ∨ (bulkModes b.use).testBit s.clk.mode.code
      = true) ∧ fieldAt args 0 2 = b.next % 65536 ∧ 1 ≤ fieldAt args 2 2 ∧ fieldAt args 2 2 ≤ 4096 ∧ bulkGot b s.dev +
      fieldAt args 2 2 ≤ b.length ∧ data = Mem.readBytes s.dev.win.mem 0xF000 (fieldAt args 2 2) ∧ last = decide
      (b.length ≤ bulkGot b s.dev + fieldAt args 2 2) ∧ (crc32 data).toNat = fieldAt args 4 4) :=
  ⟨⟨.host, [0xFF, 0] ++ w2 1 ++ w2 0x200, base, 0, (by unfold AcsOpen; decide +kernel), (by decide +kernel),
     (by decide +kernel), (by decide +kernel), (by decide +kernel)⟩,
   ⟨.host, [2], base, 2, (by unfold AcsOpen; decide +kernel), (by decide +kernel), (by decide +kernel)⟩,
   ⟨.host, w4 5, ses, { number := 5, startFrame := 90000 }, (by decide +kernel), (by unfold AcsOpen; decide +kernel),
     (by decide +kernel), (by decide +kernel)⟩,
   ⟨.headEnd 1, w4 5, ses, { number := 5, startFrame := 90000 }, (by decide +kernel),
     (by unfold AcsOpen; decide +kernel), (by decide +kernel)⟩,
   ⟨.host, w4 5, onLed ({ · with records := [{ number := 5, signState := 2 }] }) base,
     { number := 5, signState := 2 }, (by decide +kernel), (by unfold AcsOpen; decide +kernel), (by decide +kernel),
     (by decide +kernel), (by decide +kernel)⟩,
   ⟨.headEnd 1, w4 5, onLed ({ · with records := [{ number := 5, signState := 2 }] }) base,
     { number := 5, signState := 2 }, (by decide +kernel), (by unfold AcsOpen; decide +kernel), (by decide +kernel),
     (by decide +kernel)⟩,
   ⟨.host, w2 0 ++ w2 8 ++ w4 (crc32 (zeros 8)).toNat, onAcs
     ({ · with bulk := some ⟨.record, 0, 0, true, 8, zeros 8⟩ }) base, ⟨.record, 0, 0, true, 8, zeros 8⟩,
     (by unfold AcsOpen; decide +kernel), (by decide +kernel), (by decide +kernel), (by decide +kernel),
     (by decide +kernel), (by decide +kernel), (by decide +kernel), (by decide +kernel)⟩,
   ⟨.host, w2 0 ++ w2 24 ++ w4 (crc32 (zeros 24)).toNat, onAcs ({ · with bulk := some ⟨.auth, 0, 0, false, 24, []⟩ })
     base, ⟨.auth, 0, 0, false, 24, []⟩, zeros 24, true, (by unfold AcsOpen; decide +kernel), (by decide +kernel),
     (by decide +kernel), (by decide +kernel), (by decide +kernel), (by decide +kernel), (by decide +kernel),
     (by decide +kernel), (by decide +kernel), (by decide +kernel), (by decide +kernel)⟩⟩

theorem test_premises_ParamWriting :
    (∃ (own : Owner) (args : List Byte) (s : State) (es : List Staged), AcsOpen Cmd.PARAM_WRITE own args s ∧ es =
      ((writeEntries (fieldAt args 0 2) (args.drop 4)).getD []).map (fun e => entryStaged e.1 e.2.2) ∧ lowest 0
      (es.map (entryFault s)) = none ∧ lanePertBusy (es.map Staged.id) s.dev = false ∧ ((pendingOf own s.dev).stage
      (es.filter fun e => isCommitted e.id)).fits = true) ∧
    (∃ (own : Owner) (args : List Byte) (s : State) (r : _), AcsOpen Cmd.PARAM_WRITE_BLOCK own args s ∧ rowOf (fieldAt
      args 0 2) = some r ∧ writeGate (fieldAt args 0 2) s = none ∧ blockWriteOk r (fieldAt args 0 2) (fieldAt args 4
      4) (args.drop 10) (((pendingOf own s.dev).entries.filter fun e => decide (e.id = fieldAt args 0 2)).foldl
      storeStaged s.dev) = true ∧ ((pendingOf own s.dev).stage [.blk (fieldAt args 0 2) (fieldAt args 4 4) (args.drop
      10)]).fits = true) ∧
    (∃ (own : Owner) (args : List Byte) (s : State), AcsOpen Cmd.PARAM_COMMIT own args s ∧ commitFault s (fieldAt args
      0 4) (pendingOf own s.dev) (inForce s.dev) ((pendingOf own s.dev).entries.foldl storeStaged (inForce s.dev)) =
      none) ∧
    (∃ (own : Owner) (args : List Byte) (s : State), AcsOpen Cmd.PARAM_DISCARD own args s) :=
  ⟨⟨.host, w2 1 ++ zeros 2 ++ w2 Param.HOST_BEAT ++ [2, 0] ++ w2 300 ++ zeros 2, mode .commissioning base, [.num
     Param.HOST_BEAT 300], (by unfold AcsOpen; decide +kernel), (by decide +kernel), (by decide +kernel),
     (by decide +kernel), (by decide +kernel)⟩,
   ⟨.host, w2 Param.OPERATOR_KEY ++ zeros 6 ++ w2 32 ++ zeros 32, mode .commissioning base, row Param.OPERATOR_KEY,
     (by unfold AcsOpen; decide +kernel), (by decide +kernel), (by decide +kernel), (by decide +kernel),
     (by decide +kernel)⟩,
   ⟨.host, w4 3, mode .commissioning (onAcs ({ · with hostSet := ⟨3, [.num Param.HOST_BEAT 200]⟩ }) base),
     (by unfold AcsOpen; decide +kernel), (by decide +kernel)⟩,
   ⟨.host, [], base, (by unfold AcsOpen; decide +kernel)⟩⟩

theorem test_premises_ModeCommands :
    (∃ (own : Owner) (args : List Byte) (s : State) (m : _), AcsOpen Cmd.MODE_REQUEST own args s ∧ Mode.ofCode
      (fieldAt args 0 1) = some m ∧ modeRequestOk m s = true ∧ s.dev.acs.commitDone = false) ∧
    (∃ (own : Owner) (args : List Byte) (s : State), AcsOpen Cmd.SAFESTOP_CLEAR own args s) ∧
    (∃ (own : Owner) (args : List Byte) (s : State), AcsOpen Cmd.STOP_REQUEST own args s) ∧
    (∃ (own : Owner) (args : List Byte) (s : State), AcsOpen Cmd.SERVICE_LOGIN own args s ∧ credForm args = true ∧
      loginRight args own s = true ∧ (s.dev.tar.status ≠ 2 ∨ credKind args = 2) ∧ s.clk.mode ≠ .session ∧ s.clk.mode ≠
      .degraded ∧ credInTime args s.dev = true ∧ s.dev.pow.login = none) ∧
    (∃ (own : Owner) (args : List Byte) (s : State) (r : _), AcsOpen Cmd.SERVICE_LOGIN own args s ∧ credFault args
      (loginRight args own s) (decide (s.clk.mode ≠ .session) && decide (s.clk.mode ≠ .degraded)) false
      s.dev.pow.login.isSome s.dev = some r) ∧
    (∃ (own : Owner) (args : List Byte) (s : State), AcsOpen Cmd.SERVICE_LOGOUT own args s ∧ s.dev.pow.login.isSome =
      true) ∧
    (∃ (own : Owner) (args : List Byte) (s : State), AcsOpen Cmd.TEST_AUTH own args s ∧ credForm args = true ∧
      (credRights args).testBit 2 = true ∧ (s.dev.tar.status ≠ 2 ∨ credKind args = 2) ∧ credInTime args s.dev = true) ∧
    (∃ (own : Owner) (args : List Byte) (s : State), AcsOpen Cmd.METR_SEAL_OPEN own args s ∧ credForm args = true ∧
      (credRights args).testBit 1 = true ∧ (s.dev.tar.status ≠ 2 ∨ credKind args = 2) ∧ metrRoom (entriesOf 16) s.dev
      = true ∧ credInTime args s.dev = true) ∧
    (∃ (own : Owner) (args : List Byte) (s : State), AcsOpen Cmd.METR_SEAL_CLOSE own args s) :=
  ⟨⟨.host, [2], mode .commissioning (onSaf ({ · with confirmSt := 2 }) base), .ready,
     (by unfold AcsOpen; decide +kernel), (by decide +kernel), (by decide +kernel), (by decide +kernel)⟩,
   ⟨.host, w4 0, mode .safeStop base, (by unfold AcsOpen; decide +kernel)⟩,
   ⟨.host, [], base, (by unfold AcsOpen; decide +kernel)⟩,
   ⟨.host, cred 2, onPow ({ · with loginWindow := some 100000 }) base, (by unfold AcsOpen; decide +kernel),
     (by decide +kernel), (by decide +kernel), (by decide +kernel), (by decide +kernel), (by decide +kernel),
     (by decide +kernel), (by decide +kernel)⟩,
   ⟨.host, cred 2, base, Res.notPermitted, (by unfold AcsOpen; decide +kernel), (by decide +kernel)⟩,
   ⟨.host, [], login, (by unfold AcsOpen; decide +kernel), (by decide +kernel)⟩,
   ⟨.host, cred 2, login, (by unfold AcsOpen; decide +kernel), (by decide +kernel), (by decide +kernel),
     (by decide +kernel), (by decide +kernel)⟩,
   ⟨.host, cred 2, login, (by unfold AcsOpen; decide +kernel), (by decide +kernel), (by decide +kernel),
     (by decide +kernel), (by decide +kernel), (by decide +kernel)⟩,
   ⟨.host, [], login, (by unfold AcsOpen; decide +kernel)⟩⟩

theorem test_premises_JobCommands :
    (∃ (own : Owner) (args : List Byte) (s : State) (j : _), AcsOpen Cmd.JOB_CANCEL own args s ∧ s.dev.acs.jobs.find?
      (fun j => j.id = fieldAt args 0 2 && j.live) = some j ∧ j.owner = ownerCode own ∧ j.kind ≠ .signing ∧ j.final =
      false) ∧
    (∃ (own : Owner) (args : List Byte) (s : State), AcsOpen Cmd.CALENDAR_ACTIVATE own args s ∧ jobOf .calendar s.dev
      = none ∧ jobRoom (ownerCode own) s.dev = true) ∧
    (∃ (own : Owner) (args : List Byte) (s : State), AcsOpen Cmd.AUTH_SWAP own args s ∧ s.dev.nfc.loadSt = 2 ∧
      s.dev.nfc.loadOwner = ownerCode own ∧ s.dev.nfc.loadVersion = fieldAt args 0 4 ∧ s.dev.nfc.loadBytes.length = 24
      * s.dev.nfc.loadCount ∧ jobRoom (ownerCode own) s.dev = true ∧ (crc32 s.dev.nfc.loadBytes).toNat = fieldAt args
      4 4) ∧
    (∃ (own : Owner) (args : List Byte) (s : State), AcsOpen Cmd.KEY_DERIVE own args s ∧ fieldAt args 0 1 < 16 ∧
      slotKind (fieldAt args 0 1) = 1 ∧ (keySlot s.dev (fieldAt args 0 1)).generation < fieldAt args 1 4 ∧ (¬((fieldAt
      args 0 1 = 0 ∨ fieldAt args 0 1 = 2) ∧ s.clk.mode = .service ∧ s.dev.keys.identity = 1)) ∧ (¬(fieldAt args 0 1 =
      1 ∧ recordKeyBusy s.dev = true)) ∧ jobRoom (ownerCode own) s.dev = true) ∧
    (∃ (own : Owner) (args : List Byte) (s : State), AcsOpen Cmd.ATTEST own args s ∧ attestJob s.dev = none ∧ jobRoom
      (ownerCode own) s.dev = true) ∧
    (∃ (own : Owner) (args : List Byte) (s : State), AcsOpen Cmd.IMAGE_STAGE own args s ∧ fieldAt args 0 1 ≤ 5 ∧ 0 <
      fieldAt args 1 4 ∧ fieldAt args 1 4 ≤ 8388608 ∧ partNamed (fieldAt args 0 1) s.dev = true ∧ s.dev.upd.activation
      = none ∧ s.dev.acs.bulk = none ∧ verifyJob s.dev = none ∧ jobRoom (ownerCode own) s.dev = true) ∧
    (∃ (own : Owner) (args : List Byte) (s : State), AcsOpen Cmd.IMAGE_VERIFY own args s ∧ 2 ≤ s.dev.upd.st ∧
      s.dev.upd.staged ≠ [] ∧ s.dev.upd.activation = none ∧ verifyJob s.dev = none ∧ jobRoom (ownerCode own) s.dev =
      true) ∧
    (∃ (own : Owner) (args : List Byte) (s : State), AcsOpen Cmd.SCRUB_START own args s ∧ 1 ≤ fieldAt args 0 1 ∧
      fieldAt args 0 1 ≤ 3 ∧ jobRoom (ownerCode own) s.dev = true) :=
  ⟨⟨.host, w2 3, onAcs ({ · with jobs := [job .scrub 1 3] }) base, job .scrub 1 3,
     (by unfold AcsOpen; decide +kernel), (by decide +kernel), (by decide +kernel), (by decide +kernel),
     (by decide +kernel)⟩,
   ⟨.host, zeros 4, base, (by unfold AcsOpen; decide +kernel), (by decide +kernel), (by decide +kernel)⟩,
   ⟨.host, w4 7 ++ w4 (crc32 (zeros 24)).toNat, onNfc
     ({ · with loadSt := 2, loadOwner := 1, loadVersion := 7, loadCount := 1, loadBytes := zeros 24 }) base,
     (by unfold AcsOpen; decide +kernel), (by decide +kernel), (by decide +kernel), (by decide +kernel),
     (by decide +kernel), (by decide +kernel), (by decide +kernel)⟩,
   ⟨.host, [1] ++ w4 1, login, (by unfold AcsOpen; decide +kernel), (by decide +kernel), (by decide +kernel),
     (by decide +kernel), (by decide +kernel), (by decide +kernel), (by decide +kernel)⟩,
   ⟨.host, zeros 32, base, (by unfold AcsOpen; decide +kernel), (by decide +kernel), (by decide +kernel)⟩,
   ⟨.host, [0] ++ w4 512, login, (by unfold AcsOpen; decide +kernel), (by decide +kernel), (by decide +kernel),
     (by decide +kernel), (by decide +kernel), (by decide +kernel), (by decide +kernel), (by decide +kernel),
     (by decide +kernel)⟩,
   ⟨.host, [], onUpd ({ · with st := 2, staged := [1] }) base, (by unfold AcsOpen; decide +kernel),
     (by decide +kernel), (by decide +kernel), (by decide +kernel), (by decide +kernel), (by decide +kernel)⟩,
   ⟨.host, [3], base, (by unfold AcsOpen; decide +kernel), (by decide +kernel), (by decide +kernel),
     (by decide +kernel)⟩⟩

theorem test_premises_KeyAndListCommands :
    (∃ (own : Owner) (args : List Byte) (s : State), AcsOpen Cmd.AUTH_LOAD own args s ∧ s.dev.nfc.listVersion <
      fieldAt args 0 4 ∧ fieldAt args 4 2 ≤ 8192 ∧ (s.dev.nfc.loadSt = 0 ∨ (s.dev.nfc.loadOwner = 1 ∧ s.dev.nfc.loadSt
      ≠ 3)) ∧ bulkTaken .auth s.dev = false ∧ 0 < fieldAt args 4 2 ∧ own = .host) ∧
    (∃ (own : Owner) (args : List Byte) (s : State), AcsOpen Cmd.AUTH_LOAD own args s ∧ s.dev.nfc.listVersion <
      fieldAt args 0 4 ∧ fieldAt args 4 2 = 0 ∧ (s.dev.nfc.loadSt = 0 ∨ (s.dev.nfc.loadOwner = 1 ∧ s.dev.nfc.loadSt ≠
      3)) ∧ bulkTaken .auth s.dev = false ∧ own = .host) ∧
    (∃ (own : Owner) (args : List Byte) (s : State), AcsOpen Cmd.AUTH_LOAD own args s ∧ s.dev.nfc.listVersion <
      fieldAt args 0 4 ∧ fieldAt args 4 2 ≤ 8192 ∧ (s.dev.nfc.loadSt = 0 ∨ (s.dev.nfc.loadOwner = ownerCode own ∧
      s.dev.nfc.loadSt ≠ 3)) ∧ own ≠ .host) ∧
    (∃ (own : Owner) (args : List Byte) (s : State) (d : _), AcsOpen Cmd.AUTH_LOOKUP own args s ∧ d = settleSwap
      s.clk.frame s.dev) ∧
    (∃ (own : Owner) (args : List Byte) (s : State), AcsOpen Cmd.ENROL own args s ∧ own = .host ∧ s.dev.keys.rootJob =
      none ∧ s.dev.keys.checking = false ∧ s.dev.acs.bulk = none) ∧
    (∃ (own : Owner) (args : List Byte) (s : State), AcsOpen Cmd.ENROL own args s ∧ own ≠ .host ∧ s.dev.keys.rootJob =
      none ∧ s.dev.keys.checking = false ∧ jobRoom 0 s.dev = true) ∧
    (∃ (own : Owner) (args : List Byte) (s : State) (k : _), AcsOpen Cmd.TAMPER_ACK own args s ∧ fieldAt args 0 2 = k
      ∧ 1 ≤ k ∧ k ≤ 8 ∧ s.dev.keys.active.getLsbD (k - 1) = false) ∧
    (∃ (own : Owner) (args : List Byte) (s : State), AcsOpen Cmd.IMAGE_ACTIVATE own args s ∧ activateFault s (fieldAt
      args 0 4) = none) :=
  ⟨⟨.host, w4 9 ++ w2 8192, base, (by unfold AcsOpen; decide +kernel), (by decide +kernel), (by decide +kernel),
     (by decide +kernel), (by decide +kernel), (by decide +kernel), (by decide +kernel)⟩,
   ⟨.host, w4 9 ++ w2 0, base, (by unfold AcsOpen; decide +kernel), (by decide +kernel), (by decide +kernel),
     (by decide +kernel), (by decide +kernel), (by decide +kernel)⟩,
   ⟨.headEnd 1, w4 9 ++ w2 8192, base, (by unfold AcsOpen; decide +kernel), (by decide +kernel), (by decide +kernel),
     (by decide +kernel), (by decide +kernel)⟩,
   ⟨.host, zeros 4, base, settleSwap 100000 base.dev, (by unfold AcsOpen; decide +kernel), (rfl)⟩,
   ⟨.host, [], mode .quarantine base, (by unfold AcsOpen; decide +kernel), (by decide +kernel), (by decide +kernel),
     (by decide +kernel), (by decide +kernel)⟩,
   ⟨.headEnd 1, [], mode .quarantine base, (by unfold AcsOpen; decide +kernel), (by decide +kernel),
     (by decide +kernel), (by decide +kernel), (by decide +kernel)⟩,
   ⟨.host, w2 8, login, 8, (by unfold AcsOpen; decide +kernel), (by decide +kernel), (by decide +kernel),
     (by decide +kernel), (by decide +kernel)⟩,
   ⟨.host, zeros 4, onUpd
     ({ · with st := 4, set0 := some ⟨zeros 512, List.replicate 5 (zeros 64)⟩, set1 := some ⟨zeros 512, List.replicate 5 (zeros 64)⟩ })
     (onKeys ({ · with cell1 := { mv := 3300 } }) base), (by unfold AcsOpen; decide +kernel), (by decide +kernel)⟩⟩

theorem test_premises_OperationCommands :
    (∃ (own : Owner) (args : List Byte) (s : State), AcsOpen Cmd.CLOCK_SET own args s ∧ 757382400 ≤ fieldAt args 0 4) ∧
    (∃ (own : Owner) (args : List Byte) (s : State), AcsOpen Cmd.SYNC own args s ∧ fieldAt args 0 1 ≤ 1) ∧
    (∃ (own : Owner) (args : List Byte) (s : State), AcsOpen Cmd.BILLING_CLOSE own args s) ∧
    (∃ (own : Owner) (args : List Byte) (s : State), AcsOpen Cmd.DISPLAY_STEP own args s) ∧
    (∃ (own : Owner) (args : List Byte) (s : State), AcsOpen Cmd.REMOTE_START own args s ∧ remoteStartBlocked s.dev =
      false ∧ fieldAt args 0 1 = 1) ∧
    (∃ (own : Owner) (args : List Byte) (s : State), AcsOpen Cmd.REMOTE_STOP own args s ∧ fieldAt args 0 1 = 1) ∧
    (∃ (own : Owner) (args : List Byte) (s : State) (step : _), AcsOpen Cmd.SAFETY_CONFIRM own args s ∧ fieldAt args 0
      8 = safetyCheckOf s.dev ∧ fieldAt args 8 1 = step ∧ (step = 1 ∨ step = 2 ∧ confirmWindow s.clk.frame s.dev =
      true)) ∧
    (∃ (own : Owner) (args : List Byte) (s : State) (step : _), AcsOpen Cmd.SAFETY_CONFIRM own args s ∧ fieldAt args 8
      1 = step ∧ (step = 1 ∨ step = 2) ∧ fieldAt args 0 8 ≠ safetyCheckOf s.dev) ∧
    (∃ (own : Owner) (args : List Byte) (s : State) (step : _), AcsOpen Cmd.SAFETY_CONFIRM own args s ∧ fieldAt args 8
      1 = step ∧ (step = 1 ∨ step = 2) ∧ fieldAt args 0 8 = safetyCheckOf s.dev ∧ step = 2 ∧ confirmWindow s.clk.frame
      s.dev = false) ∧
    (∃ (own : Owner) (args : List Byte) (s : State), AcsOpen Cmd.SAFETY_PROOF_TEST own args s ∧ 1 ≤ fieldAt args 0 1 ∧
      fieldAt args 0 1 ≤ 6 ∧ outletShut s.dev = false ∧ proofEnabled (fieldAt args 0 1) s.dev = true) ∧
    (∃ (own : Owner) (args : List Byte) (s : State), AcsOpen Cmd.SAFETY_PROOF_TEST own args s ∧ 1 ≤ fieldAt args 0 1 ∧
      fieldAt args 0 1 ≤ 6 ∧ outletShut s.dev = true) ∧
    (∃ (own : Owner) (args : List Byte) (s : State), AcsOpen Cmd.SAFETY_PROOF_TEST own args s ∧ 1 ≤ fieldAt args 0 1 ∧
      fieldAt args 0 1 ≤ 6 ∧ outletShut s.dev = false ∧ proofEnabled (fieldAt args 0 1) s.dev = false) ∧
    (∃ (own : Owner) (args : List Byte) (s : State), AcsOpen Cmd.SWITCH_SET own args s ∧ hswNumber (fieldAt args 0 1)
      = true ∧ fieldAt args 1 1 ≤ 2 ∧ fieldAt args 2 2 ≤ 4095) ∧
    (∃ (own : Owner) (args : List Byte) (s : State), AcsOpen Cmd.LATCH_CLEAR own args s ∧ (fieldAt args 0 1 = 9 ∨
      hswNumber (fieldAt args 0 1) = true)) ∧
    (∃ (own : Owner) (args : List Byte) (s : State), AcsOpen Cmd.LOCK_DRIVE own args s ∧ s.dev.pow.starting = false ∧
      s.dev.sw.lockLatched = false ∧ fieldAt args 0 1 ≤ 1 ∧ lockBusy s.dev = false) :=
  ⟨⟨.host, w4 757382400 ++ [3], login, (by unfold AcsOpen; decide +kernel), (by decide +kernel)⟩,
   ⟨.host, [1], base, (by unfold AcsOpen; decide +kernel), (by decide +kernel)⟩,
   ⟨.host, [], base, (by unfold AcsOpen; decide +kernel)⟩,
   ⟨.host, [], base, (by unfold AcsOpen; decide +kernel)⟩,
   ⟨.host, [1, 1, 2], base, (by unfold AcsOpen; decide +kernel), (by decide +kernel), (by decide +kernel)⟩,
   ⟨.host, [1], ses, (by unfold AcsOpen; decide +kernel), (by decide +kernel)⟩,
   ⟨.host, confirmArgs login 1, login, 1, (by unfold AcsOpen; decide +kernel), (confirmArgs_value _ _),
     (confirmArgs_step _ _), (by decide +kernel)⟩,
   ⟨.host, wrongArgs login 1, login, 1, (by unfold AcsOpen; decide +kernel), (wrongArgs_step _ _),
     (by decide +kernel), (wrongArgs_value _ _)⟩,
   ⟨.host, confirmArgs login 2, login, 2, (by unfold AcsOpen; decide +kernel), (confirmArgs_step _ _),
     (by decide +kernel), (confirmArgs_value _ _), (by decide +kernel), (by decide +kernel)⟩,
   ⟨.host, [6], login, (by unfold AcsOpen; decide +kernel), (by decide +kernel), (by decide +kernel),
     (by decide +kernel), (by decide +kernel)⟩,
   ⟨.host, [6], onLan ({ · with outputs := 1 }) login, (by unfold AcsOpen; decide +kernel), (by decide +kernel),
     (by decide +kernel), (by decide +kernel)⟩,
   ⟨.host, [5], login, (by unfold AcsOpen; decide +kernel), (by decide +kernel), (by decide +kernel),
     (by decide +kernel), (by decide +kernel)⟩,
   ⟨.host, [8, 2, 0xFF, 0x0F], base, (by unfold AcsOpen; decide +kernel), (by decide +kernel), (by decide +kernel),
     (by decide +kernel)⟩,
   ⟨.host, [9], base, (by unfold AcsOpen; decide +kernel), (by decide +kernel)⟩,
   ⟨.host, [1], num Param.LOCK_FITTED 1 login, (by unfold AcsOpen; decide +kernel), (by decide +kernel),
     (by decide +kernel), (by decide +kernel), (by decide +kernel)⟩⟩

theorem test_premises_JobEnds :
    (∃ (j : Job) (s : State), s.clk.running = true ∧ LiveJob j s ∧ j.kind = .scrub) ∧
    (∃ (j : Job) (s : State), s.clk.running = true ∧ LiveJob j s ∧ (j.kind = .scrub ∨ j.kind = .staging)) ∧
    (∃ (j : Job) (s : State), s.clk.running = true ∧ LiveJob j s ∧ j.cancelling = true) ∧
    (∃ (j : Job) (s : State), s.clk.running = true ∧ LiveJob j s ∧ j.kind = .authSwap ∧ firstFault 0 [] (loadedEntries
      s.dev) = none) ∧
    (∃ (j : Job) (s : State), s.clk.running = true ∧ LiveJob j s ∧ jobOf .calendar s.dev = some j) ∧
    (∃ (j : Job) (s : State) (k : _), s.clk.running = true ∧ LiveJob j s ∧ deriveJob k s.dev = some j ∧ k <
      s.dev.keys.slots.length ∧ k < 16) ∧
    (∃ (j : Job) (s : State) (k : _), s.clk.running = true ∧ LiveJob j s ∧ deriveJob k s.dev = none ∧
      s.dev.keys.rootJob = some j.id ∧ (k = 0 ∨ k = 2) ∧ s.dev.keys.slots.length = 16 ∧ (keySlot s.dev k).kind = 0) ∧
    (∃ (j : Job) (s : State), s.clk.running = true ∧ LiveJob j s ∧ attestJob s.dev = some j ∧ cryptoUp s.dev = true) ∧
    (∃ (j : Job) (s : State), s.clk.running = true ∧ LiveJob j s ∧ s.dev.keys.checking = true ∧ tokenJob s.dev = some
      j) ∧
    (∃ (j : Job) (s : State) (r : _), s.clk.running = true ∧ LiveJob j s ∧ verifyJob s.dev = some j ∧ (verifyStaged
      (ownerSrc j.owner) true s.dev).2 = r) :=
  ⟨⟨job .scrub 1 3, onAcs ({ · with jobs := [job .scrub 1 3] }) base, (by decide +kernel),
     (by unfold LiveJob; decide +kernel), (by decide +kernel)⟩,
   ⟨job .staging 1 0, onAcs ({ · with jobs := [job .staging 1 0] }) base, (by decide +kernel),
     (by unfold LiveJob; decide +kernel), (by decide +kernel)⟩,
   ⟨{ job .derive 1 0 with cancelling := true }, onAcs
     ({ · with jobs := [{ job .derive 1 0 with cancelling := true }] }) base, (by decide +kernel),
     (by unfold LiveJob; decide +kernel), (by decide +kernel)⟩,
   ⟨job .authSwap 1 0, onAcs ({ · with jobs := [job .authSwap 1 0] }) base, (by decide +kernel),
     (by unfold LiveJob; decide +kernel), (by decide +kernel), (by decide +kernel)⟩,
   ⟨job .calendar 1 0, onAcs ({ · with jobs := [job .calendar 1 0] }) base, (by decide +kernel),
     (by unfold LiveJob; decide +kernel), (by decide +kernel)⟩,
   ⟨job .derive 1 (1 + 256 * 7), onAcs ({ · with jobs := [job .derive 1 (1 + 256 * 7)] }) base, 1,
     (by decide +kernel), (by unfold LiveJob; decide +kernel), (by decide +kernel), (by decide +kernel),
     (by decide +kernel)⟩,
   ⟨job .derive 0 0, onKeys ({ · with rootJob := some 3 }) (onAcs ({ · with jobs := [job .derive 0 0] }) base), 2,
     (by decide +kernel), (by unfold LiveJob; decide +kernel), (by decide +kernel), (by decide +kernel),
     (by decide +kernel), (by decide +kernel), (by decide +kernel)⟩,
   ⟨job .signing 1 0, onAcs ({ · with jobs := [job .signing 1 0] }) base, (by decide +kernel),
     (by unfold LiveJob; decide +kernel), (by decide +kernel), (by decide +kernel)⟩,
   ⟨job .derive 0 1, onKeys ({ · with checking := true }) (onAcs ({ · with jobs := [job .derive 0 1] }) base),
     (by decide +kernel), (by unfold LiveJob; decide +kernel), (by decide +kernel), (by decide +kernel)⟩,
   ⟨job .verify 1 1, onAcs ({ · with jobs := [job .verify 1 1] }) base, _, (by decide +kernel),
     (by unfold LiveJob; decide +kernel), (by decide +kernel), (rfl)⟩⟩

theorem test_premises_InstantRows :
    (∃ (x : Nat) (src : Nat) (s : State), s.dev.tar.load = some (x, src)) ∧
    (∃ (f : Nat) (s : State), s.dev.nfc.swapAt = some f ∧ f ≤ s.clk.frame) ∧
    (∃ (k : Nat) (pass : Bool) (s : State), s.clk.running = true ∧ k ∈ s.dev.saf.proofs ∧ 1 ≤ k ∧ k ≤ 6 ∧ (k = 6 → ∀ x
      ∈ s.dev.saf.proofs, x = 6) ∧ (k = 5 → pass = true)) ∧
    (∃ (s : State), s.clk.running = true ∧ 5 ∈ s.dev.saf.proofs) :=
  ⟨⟨900000000, 1, onTar ({ · with load := some (900000000, 1) }) base, (by decide +kernel)⟩,
   ⟨100000, onNfc ({ · with swapAt := some 100000 }) base, (by decide +kernel), (by decide +kernel)⟩,
   ⟨6, false, onSaf ({ · with proofs := [6] }) base, (by decide +kernel), (by decide +kernel), (by decide +kernel),
     (by decide +kernel), (by decide +kernel), (by decide +kernel)⟩,
   ⟨onSaf ({ · with proofs := [5] }) base, (by decide +kernel), (by decide +kernel)⟩⟩

theorem test_premises_RegisterWrites :
    (∃ (own : Owner) (v : Nat) (s : State), WriteOpen Param.CAL_ACC_CTRL v own s) ∧
    (∃ (own : Owner) (v : Nat) (s : State), WriteOpen Param.SENSE_SEL v own s) ∧
    (∃ (own : Owner) (v : Nat) (s : State), WriteOpen Param.GPLC_STATE_RESET v own s) ∧
    (∃ (own : Owner) (v : Nat) (s : State), WriteOpen Param.TEST_SLOT_STRETCH v own s) ∧
    (∃ (own : Owner) (v : Nat) (s : State), WriteOpen Param.TEST_MBOX_DELAY v own s) ∧
    (∃ (own : Owner) (v : Nat) (s : State), WriteOpen Param.TEST_PORT_BUSY v own s) ∧
    (∃ (own : Owner) (v : Nat) (s : State), WriteOpen Param.TEST_PORT_THROTTLE v own s) ∧
    (∃ (own : Owner) (v : Nat) (s : State), WriteOpen Param.TEST_GPLC_HOLD v own s) ∧
    (∃ (own : Owner) (v : Nat) (s : State), WriteOpen Param.TEST_COMMIT_DELAY v own s) ∧
    (∃ (own : Owner) (v : Nat) (s : State), WriteOpen Param.TEST_MISMATCH v own s) ∧
    (∃ (own : Owner) (v : Nat) (s : State), WriteOpen Param.TEST_WDT_WINDOW v own s) :=
  ⟨⟨.host, 10, testing, (by unfold WriteOpen AcsOpen; decide +kernel)⟩,
   ⟨.host, 2, testing, (by unfold WriteOpen AcsOpen; decide +kernel)⟩,
   ⟨.host, 1, testing, (by unfold WriteOpen AcsOpen; decide +kernel)⟩,
   ⟨.host, 0x51105, testing, (by unfold WriteOpen AcsOpen; decide +kernel)⟩,
   ⟨.host, 5, testing, (by unfold WriteOpen AcsOpen; decide +kernel)⟩,
   ⟨.host, 0x301, testing, (by unfold WriteOpen AcsOpen; decide +kernel)⟩,
   ⟨.host, 5, testing, (by unfold WriteOpen AcsOpen; decide +kernel)⟩,
   ⟨.host, 5, testing, (by unfold WriteOpen AcsOpen; decide +kernel)⟩,
   ⟨.host, 0x51005, testing, (by unfold WriteOpen AcsOpen; decide +kernel)⟩,
   ⟨.host, 5, testing, (by unfold WriteOpen AcsOpen; decide +kernel)⟩,
   ⟨.host, 0x16B64, testing, (by unfold WriteOpen AcsOpen; decide +kernel)⟩⟩

theorem test_premises_TestRows :
    (∃ (s : State), s.clk.running = true ∧ s.clk.mode = .factory ∧ s.dev.acs.testToken ≠ [] ∧ s.dev.keys.checking =
      false ∧ s.dev.keys.rootJob = none ∧ jobRoom 0 s.dev = true) ∧
    (∃ (p : Pert) (margin : Nat) (s : State), s.clk.running = true ∧ s.dev.diag.pert = some p ∧ p.first ≤ s.clk.frame
      ∧ s.clk.frame < p.first + p.frames ∧ pertFault p margin s.dev = none) ∧
    (∃ (p : Pert) (margin : Nat) (s : State) (cause : _) (slot : _) (own : _), s.clk.running = true ∧ s.dev.diag.pert
      = some p ∧ p.first ≤ s.clk.frame ∧ s.clk.frame < p.first + p.frames ∧ pertFault p margin s.dev = some (cause,
      slot, own) ∧ FaultableFollow p.lane s) ∧
    (∃ (p : Pert) (margin : Nat) (s : State) (cause : _) (slot : _) (own : _), s.clk.running = true ∧ s.dev.diag.pert
      = some p ∧ p.first ≤ s.clk.frame ∧ s.clk.frame < p.first + p.frames ∧ pertFault p margin s.dev = some (cause,
      slot, own) ∧ FaultableLead p.lane s) ∧
    (∃ (f : Nat) (s : State), s.dev.diag.testFrom = some f ∧ f + 4800000 ≤ s.clk.frame) ∧
    (∃ (k : Nat) (op : Bool) (pass : Bool) (s : State), s.clk.running = true ∧ k < 19 ∧ testUnit k s.dev = true ∧
      testElsewhere k = false ∧ testPasses k op s.dev = pass) :=
  ⟨⟨mode .factory (onAcs ({ · with testToken := [1] }) base), (by decide +kernel), (by decide +kernel),
     (by decide +kernel), (by decide +kernel), (by decide +kernel), (by decide +kernel)⟩,
   ⟨⟨Param.TEST_MISMATCH, .b, 100000, 1⟩, 100000, onDiag
     ({ · with pert := some ⟨Param.TEST_MISMATCH, .b, 100000, 1⟩, mismatch := 5 }) base, (by decide +kernel),
     (by decide +kernel), (by decide +kernel), (by decide +kernel), (by decide +kernel)⟩,
   ⟨⟨Param.TEST_WDT_WINDOW, .b, 100000, 1⟩, 100000, onDiag
     ({ · with pert := some ⟨Param.TEST_WDT_WINDOW, .b, 100000, 1⟩, wdtWindow := 0x16B64 }) base, 2, 5, false,
     (by decide +kernel), (by decide +kernel), (by decide +kernel), (by decide +kernel), (by decide +kernel),
     (by unfold FaultableFollow; decide +kernel)⟩,
   ⟨⟨Param.TEST_WDT_WINDOW, .a, 100000, 1⟩, 100000, onDiag
     ({ · with pert := some ⟨Param.TEST_WDT_WINDOW, .a, 100000, 1⟩, wdtWindow := 0x16B64 }) base, 2, 5, false,
     (by decide +kernel), (by decide +kernel), (by decide +kernel), (by decide +kernel), (by decide +kernel),
     (by unfold FaultableLead; decide +kernel)⟩,
   ⟨1, frame 4800001 testing, (by decide +kernel), (by decide +kernel)⟩,
   ⟨1, false, false, chan 4 (fun _ => { faulty := true, inactive := true }) base, (by decide +kernel),
     (by decide +kernel), (by decide +kernel), (by decide +kernel), (by decide +kernel)⟩⟩

theorem test_premises_ChannelRows :
    (∃ (c : Nat) (x : Chan) (s : State) (startup : _), c < 18 ∧ s.dev.samp.chans[c]? = some x ∧ x.faulty = false ∧ (if
      startup = true then s.clk.running = true ∧ s.clk.frame = s.clk.startFrame else 8 ≤ x.badFrames)) ∧
    (∃ (c : Nat) (x : Chan) (s : State), c < 18 ∧ s.dev.samp.chans[c]? = some x ∧ x.faulty = true ∧ 8000 ≤
      x.goodFrames) ∧
    (∃ (c : Nat) (x : Chan) (s : State), c < 18 ∧ s.dev.samp.chans[c]? = some x ∧ x.overBit = true ∧ x.overOpen =
      false) ∧
    (∃ (c : Nat) (x : Chan) (s : State), c < 18 ∧ s.dev.samp.chans[c]? = some x ∧ x.overOpen = true ∧ 8000 ≤
      x.overQuiet) ∧
    (∃ (c : Nat) (x : Chan) (s : State), c < 18 ∧ s.dev.samp.chans[c]? = some x ∧ x.mode = 2 ∧ unitOff s.dev c = false
      ∧ s.clk.frame % 3 = 0 ∧ x.modeAt + 3 < s.clk.frame) :=
  ⟨⟨17, {}, onClk ({ · with startFrame := 100000 }) base, true, (by decide +kernel), (by decide +kernel),
     (by decide +kernel), (by decide +kernel)⟩,
   ⟨17, { faulty := true, goodFrames := 8000 }, chan 17 (fun _ => { faulty := true, goodFrames := 8000 }) base,
     (by decide +kernel), (by decide +kernel), (by decide +kernel), (by decide +kernel)⟩,
   ⟨0, { flags := 255 }, chan 0 (fun _ => { flags := 255 }) base, (by decide +kernel), (by decide +kernel),
     (by decide +kernel), (by decide +kernel)⟩,
   ⟨0, { overOpen := true, overQuiet := 8000 }, chan 0 (fun _ => { overOpen := true, overQuiet := 8000 }) base,
     (by decide +kernel), (by decide +kernel), (by decide +kernel), (by decide +kernel)⟩,
   ⟨0, { mode := 2 }, frame 99999 (chan 0 (fun _ => { mode := 2 }) base), (by decide +kernel), (by decide +kernel),
     (by decide +kernel), (by decide +kernel), (by decide +kernel), (by decide +kernel)⟩⟩

theorem test_premises_SyncAndConverterRows :
    (∃ (rising : Bool) (s : State), s.dev.samp.syncIgnoreUntil ≤ s.clk.frame ∧ s.dev.num Param.SYNC_IN_MODE = (if
      rising then 1 else 2)) ∧
    (∃ (s : State), s.clk.frame < s.dev.samp.syncIgnoreUntil) ∧
    (∃ (edges : Nat), 20 < edges) ∧
    (∃ (r : SyncReq) (s : State), syncDue s.clk.frame s.dev = some r) ∧
    (∃ (p : SyncReq) (s : State), s.dev.samp.syncPend = some p ∧ defers s.clk s.dev p.force = false) ∧
    (∃ (c : Nat) (k : Nat) (x : Chan) (s : State), s.dev.samp.chans[c]? = some x ∧ x.changeAt = some k ∧ k <
      s.clk.frame ∧ s.clk.frame % 3 = 0) ∧
    (∃ (bits : BitVec 1536) (v : Int) (s : State), auxDue s.clk s.dev = true ∧ v = (64 * sinc3Of bits + 625) / 1250 ∧
      s.dev.samp.auxPos = 0) ∧
    (∃ (bits : BitVec 1536) (v : Int) (s : State), auxDue s.clk s.dev = true ∧ v = (64 * sinc3Of bits + 625) / 1250 ∧
      s.dev.samp.auxPos = 1) ∧
    (∃ (bits : BitVec 1536) (v : Int) (s : State) (k : _) (j : _), auxDue s.clk s.dev = true ∧ v = (64 * sinc3Of bits
      + 625) / 1250 ∧ s.dev.samp.auxPos = k + 2 ∧ auxIndex (nth 0 s.dev.samp.scan k) = some j) ∧
    (∃ (positive : Bool) (p : Plateau) (s : State) (a : _) (b : _) (c : _), p.side = some positive ∧ (positive = true
      ∨ s.dev.veh.applied.pwm = true) ∧ p.conv = some (a, b, c) ∧ 200 ≤ s.dev.veh.applied.plateau positive) ∧
    (∃ (positive : Bool) (p : Plateau) (s : State), p.side = some positive ∧ (positive = true ∨ s.dev.veh.applied.pwm
      = true) ∧ s.dev.veh.applied.plateau positive < 200) :=
  ⟨⟨true, num Param.SYNC_IN_MODE 1 base, (by decide +kernel), (by decide +kernel)⟩,
   ⟨onSamp ({ · with syncIgnoreUntil := 100001 }) base, (by decide +kernel)⟩,
   ⟨21, (by decide +kernel)⟩,
   ⟨⟨99997, true, false, false⟩, onSamp ({ · with syncs := [⟨99997, true, false, false⟩] }) base, (by decide +kernel)⟩,
   ⟨⟨99000, false, true, true⟩, onSamp ({ · with syncPend := some ⟨99000, false, true, true⟩ }) base,
     (by decide +kernel), (by decide +kernel)⟩,
   ⟨5, 5, { changeAt := some 5 }, frame 99999 (chan 5 (fun _ => { changeAt := some 5 }) base), (by decide +kernel),
     (by decide +kernel), (by decide +kernel), (by decide +kernel)⟩,
   ⟨0, _, frame 99999 (onSamp ({ · with auxPos := 0 }) base), (by decide +kernel), (rfl), (by decide +kernel)⟩,
   ⟨0, _, frame 99999 (onSamp ({ · with auxPos := 1 }) base), (by decide +kernel), (rfl), (by decide +kernel)⟩,
   ⟨0, _, frame 99999 (onSamp ({ · with auxPos := 2 }) base), 0, 0, (by decide +kernel), (rfl), (by decide +kernel),
     (by decide +kernel)⟩,
   ⟨true, ⟨some true, some (3, 1, 2), none⟩, onVeh ({ · with applied := .steady }) base, 3, 1, 2, (by decide +kernel),
     (by decide +kernel), (by decide +kernel), (by decide +kernel)⟩,
   ⟨true, ⟨some true, none, none⟩, onVeh ({ · with applied := .duty 1 }) base, (by decide +kernel),
     (by decide +kernel), (by decide +kernel)⟩⟩

theorem test_premises_MeterEventRows :
    (∃ (s : State), s.dev.metr.wrongSeq.isOpen = false ∧ 50 ≤ s.dev.metr.wrongSeq.count) ∧
    (∃ (s : State), s.dev.metr.wrongSeq.isOpen = true ∧ 50 ≤ s.dev.metr.wrongSeq.count) ∧
    (∃ (s : State), s.dev.metr.missNeutral.isOpen = false ∧ 25 ≤ s.dev.metr.missNeutral.count) ∧
    (∃ (s : State), s.dev.metr.missNeutral.isOpen = true ∧ 50 ≤ s.dev.metr.missNeutral.count) ∧
    (∃ (s : State), s.dev.metr.freqOut.isOpen = false ∧ 10 ≤ s.dev.metr.freqOut.count) ∧
    (∃ (s : State), s.dev.metr.freqOut.isOpen = true ∧ 50 ≤ s.dev.metr.freqOut.count) ∧
    (∃ (side : Side) (ph : Nat) (y : Phase) (s : State), 1 ≤ ph ∧ ph ≤ 3 ∧ (s.dev.metr.side (sideCode side)).phases[ph
      - 1]? = some y ∧ y.sag.isOpen = false ∧ 1 ≤ y.sag.count) ∧
    (∃ (side : Side) (ph : Nat) (y : Phase) (s : State), 1 ≤ ph ∧ ph ≤ 3 ∧ (s.dev.metr.side (sideCode side)).phases[ph
      - 1]? = some y ∧ y.sag.isOpen = true ∧ 1 ≤ y.sag.count) ∧
    (∃ (side : Side) (ph : Nat) (y : Phase) (s : State), 1 ≤ ph ∧ ph ≤ 3 ∧ (s.dev.metr.side (sideCode side)).phases[ph
      - 1]? = some y ∧ y.swell.isOpen = false ∧ 1 ≤ y.swell.count) ∧
    (∃ (side : Side) (ph : Nat) (y : Phase) (s : State), 1 ≤ ph ∧ ph ≤ 3 ∧ (s.dev.metr.side (sideCode side)).phases[ph
      - 1]? = some y ∧ y.swell.isOpen = true ∧ 1 ≤ y.swell.count) ∧
    (∃ (side : Side) (ph : Nat) (y : Phase) (s : State), 1 ≤ ph ∧ ph ≤ 3 ∧ (s.dev.metr.side (sideCode side)).phases[ph
      - 1]? = some y ∧ y.cwv.isOpen = false ∧ 50 ≤ y.cwv.count) ∧
    (∃ (side : Side) (ph : Nat) (y : Phase) (s : State), 1 ≤ ph ∧ ph ≤ 3 ∧ (s.dev.metr.side (sideCode side)).phases[ph
      - 1]? = some y ∧ y.cwv.isOpen = true ∧ 50 ≤ y.cwv.count) ∧
    (∃ (side : Side) (ph : Nat) (y : Phase) (s : State) (m : _), 1 ≤ ph ∧ ph ≤ 3 ∧ (s.dev.metr.side (sideCode
      side)).phases[ph - 1]? = some y ∧ meterCode m = sideCode side ∧ y.est.spent = true ∧ y.est.gapped = false) ∧
    (∃ (s : State), s.dev.metr.dcs.est.spent = true ∧ s.dev.metr.dcs.est.gapped = false) ∧
    (∃ (m : MeterSide) (e : Episode) (grown : Nat) (s : State), s.dev.metr.reverse[meterCode m]? = some e ∧ grown =
      s.regs.total (exportFamily (meterCode m)) - nth 0 s.dev.metr.revRef (meterCode m) ∧ e.isOpen = false ∧
      reverseEvaluated s.dev (meterCode m) = true ∧ dischargeAuthorised s.dev = false ∧ s.dev.nat
      Param.REVERSE_EVENT_E * 2 ^ 32 ≤ grown) ∧
    (∃ (m : MeterSide) (e : Episode) (grown : Nat) (s : State), s.dev.metr.reverse[meterCode m]? = some e ∧ grown =
      s.regs.total (exportFamily (meterCode m)) - nth 0 s.dev.metr.revRef (meterCode m) ∧ e.isOpen = true ∧ nth 0
      s.dev.metr.revLast (meterCode m) + 480000 ≤ s.clk.frame) :=
  ⟨⟨onMetr ({ · with wrongSeq := { count := 50 } }) base, (by decide +kernel), (by decide +kernel)⟩,
   ⟨onMetr ({ · with wrongSeq := { isOpen := true, count := 50 } }) base, (by decide +kernel), (by decide +kernel)⟩,
   ⟨onMetr ({ · with missNeutral := { count := 25 } }) base, (by decide +kernel), (by decide +kernel)⟩,
   ⟨onMetr ({ · with missNeutral := { isOpen := true, count := 50 } }) base, (by decide +kernel), (by decide +kernel)⟩,
   ⟨onMetr ({ · with freqOut := { count := 10 } }) base, (by decide +kernel), (by decide +kernel)⟩,
   ⟨onMetr ({ · with freqOut := { isOpen := true, count := 50 } }) base, (by decide +kernel), (by decide +kernel)⟩,
   ⟨.grid, 3, { sag := { count := 1 } }, onMetr (fun m =>
     { m with grid := { m.grid with phases := List.replicate 3 { sag := { count := 1 } } } }) base,
     (by decide +kernel), (by decide +kernel), (by decide +kernel), (by decide +kernel), (by decide +kernel)⟩,
   ⟨.grid, 3, { sag := { isOpen := true, count := 1 } }, onMetr (fun m =>
     { m with grid := { m.grid with phases := List.replicate 3 { sag := { isOpen := true, count := 1 } } } }) base,
     (by decide +kernel), (by decide +kernel), (by decide +kernel), (by decide +kernel), (by decide +kernel)⟩,
   ⟨.grid, 3, { swell := { count := 1 } }, onMetr (fun m =>
     { m with grid := { m.grid with phases := List.replicate 3 { swell := { count := 1 } } } }) base,
     (by decide +kernel), (by decide +kernel), (by decide +kernel), (by decide +kernel), (by decide +kernel)⟩,
   ⟨.grid, 3, { swell := { isOpen := true, count := 1 } }, onMetr (fun m =>
     { m with grid := { m.grid with phases := List.replicate 3 { swell := { isOpen := true, count := 1 } } } }) base,
     (by decide +kernel), (by decide +kernel), (by decide +kernel), (by decide +kernel), (by decide +kernel)⟩,
   ⟨.grid, 3, { cwv := { count := 50 } }, onMetr (fun m =>
     { m with grid := { m.grid with phases := List.replicate 3 { cwv := { count := 50 } } } }) base,
     (by decide +kernel), (by decide +kernel), (by decide +kernel), (by decide +kernel), (by decide +kernel)⟩,
   ⟨.grid, 3, { cwv := { isOpen := true, count := 50 } }, onMetr (fun m =>
     { m with grid := { m.grid with phases := List.replicate 3 { cwv := { isOpen := true, count := 50 } } } }) base,
     (by decide +kernel), (by decide +kernel), (by decide +kernel), (by decide +kernel), (by decide +kernel)⟩,
   ⟨.grid, 1, { est := { isOpen := true, limited := 8001 } }, onMetr (fun m =>
     { m with grid := { m.grid with phases := List.replicate 3 { est := { isOpen := true, limited := 8001 } } } })
     base, .grid, (by decide +kernel), (by decide +kernel), (by decide +kernel), (by decide +kernel),
     (by decide +kernel), (by decide +kernel)⟩,
   ⟨onMetr (fun m => { m with dcs := { m.dcs with est := { isOpen := true, limited := 8001 } } }) base,
     (by decide +kernel), (by decide +kernel)⟩,
   ⟨.grid, {}, _, num Param.REVERSE_EVENT_E 0 (onMetr (fun m =>
     { m with grid := { m.grid with phases := List.replicate 3 { metered := true } } }) base), (by decide +kernel),
     (rfl), (by decide +kernel), (by decide +kernel), (by decide +kernel), (by decide +kernel)⟩,
   ⟨.grid, { isOpen := true }, _, frame 480000 (onMetr ({ · with reverse := List.replicate 3 { isOpen := true } })
     base), (by decide +kernel), (rfl), (by decide +kernel), (by decide +kernel)⟩⟩

theorem test_premises_CycleAndPulseRows :
    (∃ (side : Side) (f : Nat) (s : State), (s.dev.metr.side (sideCode side)).pending = some f) ∧
    (∃ (j : Nat) (s : State), pulseStartDue s j s.dev = true ∧ s.dev.metr.pulses.length = 3) ∧
    (∃ (j : Nat) (x : Pulse) (s : State), s.dev.metr.pulses[j]? = some x ∧ x.level = true ∧ x.startAt + 8 * s.dev.nat
      (Param.PULSE_WIDTH + 8 * j) ≤ s.clk.frame) ∧
    (∃ (s : State), s.dev.metr.acc.state = 1 ∧ (s.dev.metr.acc.bad = true ∨ (s.dev.metr.acc.armed = true ∧
      s.dev.metr.acc.n ≤ s.dev.metr.acc.cycles))) :=
  ⟨⟨.grid, 0, onMetr (fun m => { m with grid := { m.grid with pending := some 0 } }) base, (by decide +kernel)⟩,
   ⟨0, num Param.PULSE_WIDTH 30 (onMetr ({ · with pulses := List.replicate 3 { energy := 2 ^ 70 } }) base),
     (by decide +kernel), (by decide +kernel)⟩,
   ⟨0, { level := true }, onMetr ({ · with pulses := List.replicate 3 { level := true } }) base, (by decide +kernel),
     (by decide +kernel), (by decide +kernel)⟩,
   ⟨onMetr (fun m => { m with acc := { m.acc with state := 1, armed := true, n := 3, cycles := 3 } }) base,
     (by decide +kernel), (by decide +kernel)⟩⟩

theorem test_premises_RecordAndTariffRows :
    (∃ (r : Record) (s : State), s.clk.running = true ∧ cryptoUp s.dev = true ∧ (keySlot s.dev 1).kind ≠ 0 ∧
      pendingRecord s.dev = some r) ∧
    (∃ (s : State), s.clk.running = true ∧ s.dev.led.scrubFrame + 691200000 ≤ s.clk.frame ∧ jobOf .scrub s.dev = none
      ∧ jobRoom 0 s.dev = true) ∧
    (∃ (p : Nat) (x : Profile) (s : State), 1 ≤ p ∧ s.dev.led.profiles[p - 1]? = some x ∧ x.lastBoundary < lpBoundary
      s.dev (p - 1) s.dev.tar.rtc) ∧
    (∃ (s : State), tariffAt s.dev s.dev.tar.rtc ≠ s.dev.tar.nextTariff) ∧
    (∃ (j : Nat) (x : Demand) (grown : Nat) (s : State), j < 3 ∧ s.dev.tar.demands[j]? = some x ∧ grown = s.regs.total
      (s.dev.nat (Param.DEM_SOURCE + 8 * j)) - x.base ∧ bigStep s.dev = false ∧ demandDue j s.dev = true) ∧
    (∃ (j : Nat) (x : Demand) (grown : Nat) (s : State), j < 3 ∧ s.dev.tar.demands[j]? = some x ∧ grown = s.regs.total
      (s.dev.nat (Param.DEM_SOURCE + 8 * j)) - x.base ∧ bigStep s.dev = true) ∧
    (∃ (e : Nat) (s : State), billingDue s.dev = some e) ∧
    (∃ (k : Nat) (s : State), s.dev.tar.armed = some k ∧ s.dev.tar.status ≠ 2 ∧ k ≤ s.dev.tar.rtc) :=
  ⟨⟨{ number := 5, signState := 1 }, onKeys ({ · with slots := List.replicate 16 ⟨1, 1, 5, [1, 2]⟩ }) (onLed
     ({ · with records := [{ number := 5, signState := 1 }] }) base), (by decide +kernel), (by decide +kernel),
     (by decide +kernel), (by decide +kernel)⟩,
   ⟨frame 691200000 base, (by decide +kernel), (by decide +kernel), (by decide +kernel), (by decide +kernel)⟩,
   ⟨2, {}, onTar ({ · with rtc := 900000000 }) base, (by decide +kernel), (by decide +kernel), (by decide +kernel)⟩,
   ⟨onTar ({ · with nextTariff := 3 }) base, (by decide +kernel)⟩,
   ⟨2, { start := 5 }, _, onTar ({ · with rtc := 900000000, demands := List.replicate 3 { start := 5 } }) (num
     (Param.DEM_MODE + 16) 1 base), (by decide +kernel), (by decide +kernel), (rfl), (by decide +kernel),
     (by decide +kernel)⟩,
   ⟨2, {}, _, onTar ({ · with step := some 10000000000 }) base, (by decide +kernel), (by decide +kernel), (rfl),
     (by decide +kernel)⟩,
   ⟨_, num Param.BILLING_DAY 3 (onTar ({ · with rtc := 900000000, status := 0 }) base), (rfl)⟩,
   ⟨5, onTar ({ · with armed := some 5, status := 1, rtc := 5 }) base, (by decide +kernel), (by decide +kernel),
     (by decide +kernel)⟩⟩

theorem test_premises_ClockAndDisplayRows :
    (∃ (s : State), statusNext s.dev ≠ 2) ∧
    (∃ (s : State), 60 ≤ s.dev.tar.driftCount) ∧
    (∃ (s : State), s.dev.tar.status = 0 ∧ s.dev.nat Param.CLOCK_AGE_MAX ≠ 0 ∧ statusNext s.dev ≠ 1 ∧
      s.dev.tar.headEndSet + s.dev.nat Param.CLOCK_AGE_MAX * 86400 ≤ s.dev.tar.rtc) ∧
    (∃ (s : State), s.dev.disp.manual = none ∧ s.dev.disp.since + secs (s.dev.nat Param.DISP_DWELL) ≤ s.clk.frame) ∧
    (∃ (k : Nat) (s : State), s.dev.disp.manual = some k ∧ k + secs (s.dev.nat Param.DISP_MANUAL_TIMEOUT) ≤
      s.clk.frame) ∧
    (∃ (s : State), s.dev.disp.btnStuck = false ∧ s.dev.disp.btnIgnoreUntil ≤ s.clk.frame) ∧
    (∃ (s : State), s.dev.disp.btnStuck = true) ∧
    (∃ (s : State), s.dev.disp.btnStuck = false ∧ s.clk.frame < s.dev.disp.btnIgnoreUntil) ∧
    (∃ (frames : Nat) (s : State), s.dev.disp.btnStuck = false ∧ 240000 < frames) ∧
    (∃ (edges : Nat), 20 < edges) :=
  ⟨⟨onTar ({ · with status := 1 }) base, (by decide +kernel)⟩,
   ⟨onTar ({ · with driftCount := 60 }) base, (by decide +kernel)⟩,
   ⟨num Param.CLOCK_AGE_MAX 1 (onTar ({ · with status := 0, rtc := 900000000 }) base), (by decide +kernel),
     (by decide +kernel), (by decide +kernel), (by decide +kernel)⟩,
   ⟨base, (by decide +kernel), (by decide +kernel)⟩,
   ⟨5, frame 10000000 (onDisp ({ · with manual := some 5 }) base), (by decide +kernel), (by decide +kernel)⟩,
   ⟨base, (by decide +kernel), (by decide +kernel)⟩,
   ⟨onDisp ({ · with btnStuck := true }) base, (by decide +kernel)⟩,
   ⟨onDisp ({ · with btnIgnoreUntil := 100001 }) base, (by decide +kernel), (by decide +kernel)⟩,
   ⟨240001, base, (by decide +kernel), (by decide +kernel)⟩,
   ⟨21, (by decide +kernel)⟩⟩

theorem test_premises_PilotAndLinkRows :
    (∃ (st : PilotSt) (s : State), 3 ≤ s.dev.veh.candCount ∧ s.dev.veh.cand = st ∧ st ≠ s.dev.veh.st) ∧
    (∃ (s : State), (s.dev.veh.st = .e ∨ s.dev.veh.st = .invalid) ∧ s.dev.veh.stAt + 8000 ≤ s.clk.frame) ∧
    (∃ (s : State), 2 ≤ s.dev.veh.cableCount ∧ s.dev.veh.cableCand ≠ s.dev.veh.cable) ∧
    (∃ (s : State), s.dev.ses.isOpen = true ∧ vehModemUp s.dev = true ∧ s.dev.veh.beaconAt + 320 ≤ s.clk.frame) ∧
    (∃ (s : State), s.dev.ses.isOpen = true ∧ s.dev.veh.link = .slac ∧ Committed s) ∧
    (∃ (s : State), s.dev.ses.isOpen = true ∧ s.dev.veh.link = .slac ∧ s.dev.veh.slac = .sounding ∧ Committed s) ∧
    (∃ (s : State), s.dev.ses.isOpen = true ∧ s.dev.veh.link = .slac ∧ s.dev.veh.slac = .waiting ∧ s.dev.veh.slacSince
      + secs (s.dev.nat Param.SLAC_INIT_TIMEOUT) ≤ s.clk.frame ∧ Committed s) ∧
    (∃ (c : LinkLoss) (s : State), linkLossDue s.clk.frame c s.dev = true) :=
  ⟨⟨.b, onVeh ({ · with cand := .b, candCount := 3 }) base, (by decide +kernel), (by decide +kernel),
     (by decide +kernel)⟩,
   ⟨onVeh ({ · with st := .e, stAt := 92000 }) base, (by decide +kernel), (by decide +kernel)⟩,
   ⟨onVeh ({ · with cableCand := 13000, cableCount := 2 }) base, (by decide +kernel), (by decide +kernel)⟩,
   ⟨ses, (by decide +kernel), (by decide +kernel), (by decide +kernel)⟩,
   ⟨onVeh ({ · with link := .slac }) ses, (by decide +kernel), (by decide +kernel), (by decide +kernel)⟩,
   ⟨onVeh ({ · with link := .slac, slac := .sounding }) ses, (by decide +kernel), (by decide +kernel),
     (by decide +kernel), (by decide +kernel)⟩,
   ⟨frame 1000000 (onVeh ({ · with link := .slac, slac := .waiting }) ses), (by decide +kernel), (by decide +kernel),
     (by decide +kernel), (by decide +kernel), (by decide +kernel)⟩,
   ⟨.beacon, onVeh ({ · with beaconMisses := 3 }) hlc, (by decide +kernel)⟩⟩

theorem test_premises_V2gRequests :
    (∃ (s : State), s.dev.ses.isOpen = true ∧ s.dev.veh.link = .hlc ∧ Committed s) ∧
    (∃ (tls : Bool) (s : State), s.dev.ses.isOpen = true ∧ s.dev.veh.link = .hlc ∧ s.dev.veh.sdp = some tls ∧
      Committed s) ∧
    (∃ (s : State), s.dev.ses.isOpen = true ∧ s.dev.veh.link = .hlc ∧ s.dev.veh.proto.isSome = true ∧ Committed s) ∧
    (∃ (s : State), s.dev.veh.v2g = true ∧ Committed s) ∧
    (∃ (s : State), s.dev.veh.v2g = true ∧ s.dev.veh.pnc = true ∧ s.dev.ses.auth = none ∧ s.dev.veh.contract = 0 ∧
      Committed s) ∧
    (∃ (s : State), s.dev.veh.v2g = true ∧ (s.dev.veh.pnc = false ∨ s.dev.ses.auth.isSome = true ∨ s.dev.veh.contract
      ≠ 0) ∧ Committed s) ∧
    (∃ (s : State), s.dev.ses.isOpen = true ∧ s.dev.veh.contract = 1 ∧ s.dev.ses.auth = none ∧ Committed s) ∧
    (∃ (s : State), s.dev.veh.contract = 4 ∧ s.dev.veh.contractSince + ms (s.dev.nat Param.PNC_HOST_TIMEOUT) ≤
      s.clk.frame ∧ Committed s) ∧
    (∃ (s : State), s.dev.ses.isOpen = true ∧ s.dev.veh.link = .hlc ∧ s.dev.veh.v2g = true ∧ s.dev.ses.auth.isSome =
      true ∧ s.dev.ses.stop = none ∧ s.dev.nat Param.OUTLET_KIND = 1 ∧ s.dev.dc.phase = 2 ∧ s.dev.dc.preReady = true ∧
      Committed s) ∧
    (∃ (s : State), s.dev.ses.isOpen = true ∧ s.dev.veh.link = .hlc ∧ s.dev.veh.v2g = true ∧ s.dev.ses.auth.isSome =
      true ∧ s.dev.ses.stop = none ∧ s.dev.nat Param.OUTLET_KIND ≠ 1 ∧ Committed s) ∧
    (∃ (s : State), s.dev.ses.isOpen = true ∧ s.dev.veh.link = .hlc ∧ s.dev.veh.v2g = true ∧ (s.dev.ses.auth = none ∨
      s.dev.ses.stop.isSome = true ∨ (s.dev.nat Param.OUTLET_KIND = 1 ∧ (s.dev.dc.phase ≠ 2 ∨ s.dev.dc.preReady =
      false))) ∧ Committed s) ∧
    (∃ (s : State), s.dev.ses.isOpen = true ∧ s.dev.veh.link = .hlc ∧ s.dev.veh.v2g = true ∧ Committed s) ∧
    (∃ (s : State), s.dev.ses.isOpen = true ∧ s.dev.veh.link = .hlc ∧ s.dev.veh.powerOn = true ∧ Committed s) ∧
    (∃ (c : Instr) (s : State), protocolRow c = true ∧ ¬Committed s) :=
  ⟨⟨hlc, (by decide +kernel), (by decide +kernel), (by decide +kernel)⟩,
   ⟨true, onVeh ({ · with sdp := some true }) hlc, (by decide +kernel), (by decide +kernel), (by decide +kernel),
     (by decide +kernel)⟩,
   ⟨onVeh ({ · with proto := some .iso2 }) hlc, (by decide +kernel), (by decide +kernel), (by decide +kernel),
     (by decide +kernel)⟩,
   ⟨hlc, (by decide +kernel), (by decide +kernel)⟩,
   ⟨onSes ({ · with auth := none }) (onVeh ({ · with pnc := true }) hlc), (by decide +kernel), (by decide +kernel),
     (by decide +kernel), (by decide +kernel), (by decide +kernel)⟩,
   ⟨hlc, (by decide +kernel), (by decide +kernel), (by decide +kernel)⟩,
   ⟨onSes ({ · with auth := none }) (onVeh ({ · with contract := 1 }) hlc), (by decide +kernel), (by decide +kernel),
     (by decide +kernel), (by decide +kernel)⟩,
   ⟨frame 10000000 (onVeh ({ · with contract := 4 }) hlc), (by decide +kernel), (by decide +kernel),
     (by decide +kernel)⟩,
   ⟨num Param.OUTLET_KIND 1 (onDc ({ · with phase := 2, preReady := true }) hlc), (by decide +kernel),
     (by decide +kernel), (by decide +kernel), (by decide +kernel), (by decide +kernel), (by decide +kernel),
     (by decide +kernel), (by decide +kernel), (by decide +kernel)⟩,
   ⟨hlc, (by decide +kernel), (by decide +kernel), (by decide +kernel), (by decide +kernel), (by decide +kernel),
     (by decide +kernel), (by decide +kernel)⟩,
   ⟨onSes ({ · with auth := none }) hlc, (by decide +kernel), (by decide +kernel), (by decide +kernel),
     (by decide +kernel), (by decide +kernel)⟩,
   ⟨hlc, (by decide +kernel), (by decide +kernel), (by decide +kernel), (by decide +kernel)⟩,
   ⟨onVeh ({ · with powerOn := true }) hlc, (by decide +kernel), (by decide +kernel), (by decide +kernel),
     (by decide +kernel)⟩,
   ⟨.sessionSetup, onWin ({ · with shadow := {} }) hlc, (by decide +kernel), (by decide)⟩⟩

theorem test_premises_DcTransferRows :
    (∃ (s : State), cableCheckDue s s.dev = true ∧ s.dev.lanes.dispute = none ∧ Committed s) ∧
    (∃ (s : State), s.dev.ses.isOpen = true ∧ s.dev.veh.link = .hlc ∧ s.dev.veh.v2g = true ∧ cableCheckDue s s.dev =
      false ∧ Committed s) ∧
    (∃ (s : State), s.dev.ses.isOpen = true ∧ s.dev.veh.link = .hlc ∧ s.dev.veh.v2g = true ∧
      s.dev.lanes.outputs.getLsbD 1 = true ∧ (s.dev.dc.phase = 2 ∨ s.dev.dc.phase = 1 ∧ 2 ≤ s.dev.saf.isoPairs) ∧
      Committed s) ∧
    (∃ (s : State), s.dev.ses.isOpen = true ∧ s.dev.veh.link = .hlc ∧ s.dev.veh.v2g = true ∧
      (s.dev.lanes.outputs.getLsbD 1 = false ∨ (s.dev.dc.phase ≠ 2 ∧ (s.dev.dc.phase ≠ 1 ∨ s.dev.saf.isoPairs < 2))) ∧
      Committed s) ∧
    (∃ (s : State), s.dev.dc.phase = 2 ∧ 80 ≤ s.dev.dc.okCount) ∧
    (∃ (s : State), stageTimeoutDue s.clk.frame s.dev = true) ∧
    (∃ (f : Nat) (s : State), s.dev.lanes.outputs.getLsbD 1 = true ∧ s.dev.dc.rampStart = some f ∧ ((idcMean
      s.dev).natAbs ≤ 5000 ∨ f + 1600 ≤ s.clk.frame) ∧ s.dev.lanes.dispute = none) :=
  ⟨⟨num Param.OUTLET_KIND 1 (num Param.LOCK_FITTED 0 (onSes ({ · with st := 3, limitDc := 7000 }) (onLan
     ({ · with outputs := 0, request := 0 }) hlc))), (by decide +kernel), (by decide +kernel), (by decide +kernel)⟩,
   ⟨hlc, (by decide +kernel), (by decide +kernel), (by decide +kernel), (by decide +kernel), (by decide +kernel)⟩,
   ⟨onLan ({ · with outputs := 2 }) (onDc ({ · with phase := 2 }) hlc), (by decide +kernel), (by decide +kernel),
     (by decide +kernel), (by decide +kernel), (by decide +kernel), (by decide +kernel)⟩,
   ⟨onLan ({ · with outputs := 0 }) (onDc ({ · with phase := 2 }) hlc), (by decide +kernel), (by decide +kernel),
     (by decide +kernel), (by decide +kernel), (by decide +kernel)⟩,
   ⟨onDc ({ · with phase := 2, okCount := 80 }) hlc, (by decide +kernel), (by decide +kernel)⟩,
   ⟨num Param.OUTLET_KIND 1 (onDc ({ · with phase := 3 }) (onLan ({ · with outputs := 3 }) hlc)), (by decide +kernel)⟩,
   ⟨98400, onLan ({ · with outputs := 2 }) (onDc ({ · with rampStart := some 98400 }) hlc), (by decide +kernel),
     (by decide +kernel), (by decide +kernel), (by decide +kernel)⟩⟩

theorem test_premises_SessionRows :
    (∃ (s : State), closeDue s s.dev = true ∧ s.dev.lanes.dispute = none) ∧
    (∃ (s : State), stopWaitDue s.clk.frame s.dev = true ∧ s.dev.lanes.dispute = none) ∧
    (∃ (f : Nat) (s : State), s.dev.ses.isOpen = true ∧ s.dev.ses.paused = true ∧ s.dev.ses.limitOk = some f ∧ f +
      480000 ≤ s.clk.frame) ∧
    (∃ (x : List Byte) (f : Nat) (s : State), s.dev.ses.request = some (x, f) ∧ f + ms (s.dev.nat
      Param.AUTH_HOST_TIMEOUT) ≤ s.clk.frame) ∧
    (∃ (a : Auth) (f : Nat) (s : State), s.dev.ses.isOpen = false ∧ s.dev.ses.auth = some a ∧ a.expiry = some f ∧ f ≤
      s.clk.frame) ∧
    (∃ (s : State), s.dev.veh.v2g = true ∧ Committed s) ∧
    (∃ (c : Instr) (cause : Nat) (s : State), ((c = .sessionStopReq true ∧ cause = EndCause.vehicle ∧ s.dev.veh.v2g =
      true ∧ Committed s) ∨ (c = .hostGraceExpired ∧ cause = EndCause.grace ∧ graceDue s.clk.frame s.dev = true) ∨ (c
      = .degradedLimitExpiry ∧ cause = EndCause.degraded ∧ degradedExpired s s.dev = true))) :=
  ⟨⟨num Param.LOCK_FITTED 0 (onSes ({ · with st := 3, limitDc := 7000 }) (onLan
     ({ · with outputs := 0, request := 0 }) (onVeh ({ · with link := .basic }) ses))), (by decide +kernel),
     (by decide +kernel)⟩,
   ⟨onSes ({ · with stop := some (1, 5) }) ses, (by decide +kernel), (by decide +kernel)⟩,
   ⟨5, frame 480005 (onSes ({ · with paused := true, limitOk := some 5, st := 5 }) ses), (by decide +kernel),
     (by decide +kernel), (by decide +kernel), (by decide +kernel)⟩,
   ⟨[1], 5, frame 4800050 (onSes ({ · with request := some ([1], 5) }) base), (by decide +kernel),
     (by decide +kernel)⟩,
   ⟨⟨3, [1], some 5⟩, 5, onSes ({ · with auth := some ⟨3, [1], some 5⟩ }) base, (by decide +kernel),
     (by decide +kernel), (by decide +kernel), (by decide +kernel)⟩,
   ⟨hlc, (by decide +kernel), (by decide +kernel)⟩,
   ⟨.sessionStopReq true, EndCause.vehicle, hlc, (Or.inl ⟨rfl, rfl, rfl, rfl⟩)⟩⟩

theorem test_premises_DutyEncodesLimit :
    (∃ (i : Nat), i < 6000) ∧
    (∃ (i : Nat), 6000 ≤ i ∧ i ≤ 51000) ∧
    (∃ (i : Nat), 51000 < i ∧ i < 80000) ∧
    (∃ (i : Nat), 80000 ≤ i) ∧
    (∃ (i : Nat) (k : _), dutyOf i = some k ∧ i < 80000) ∧
    (∃ (s : State), pilotMode s.clk.mode = true ∧ s.clk.mode ≠ .ready ∧ s.dev.pow.starting = false ∧ s.dev.pow.st =
      .mains ∧ s.dev.ses.isOpen = true ∧ s.dev.veh.link = .basic ∧ (s.dev.ses.st = 3 ∨ s.dev.ses.st = 4 ∨ s.dev.ses.st
      = 6) ∧ s.dev.ses.stop = none ∧ s.dev.ses.paused = false ∧ cableValid s.dev = true) ∧
    (∃ (s : State), s.dev.ses.isOpen = true ∧ dcKind s.dev = false ∧ 3 ≤ s.dev.ses.st ∧ s.dev.ses.st ≤ 6 ∧
      s.dev.ses.paused = false ∧ appliedLimit s.dev < 6000) ∧
    (∃ (s : State), s.dev.ses.isOpen = true ∧ dcKind s.dev = false ∧ 3 ≤ s.dev.ses.st ∧ s.dev.ses.st ≤ 6 ∧
      s.dev.ses.paused = false ∧ 6000 ≤ appliedLimit s.dev) :=
  ⟨⟨5999, (by decide +kernel)⟩,
   ⟨51000, (by decide +kernel), (by decide +kernel)⟩,
   ⟨79999, (by decide +kernel), (by decide +kernel)⟩,
   ⟨80000, (by decide +kernel)⟩,
   ⟨51001, 8440, (by decide +kernel), (by decide +kernel)⟩,
   ⟨onVeh ({ · with link := .basic }) ses, (by decide +kernel), (by decide +kernel), (by decide +kernel),
     (by decide +kernel), (by decide +kernel), (by decide +kernel), (by decide +kernel), (by decide +kernel),
     (by decide +kernel), (by decide +kernel)⟩,
   ⟨onSes ({ · with limitDc := 5999 }) ses, (by decide +kernel), (by decide +kernel), (by decide +kernel),
     (by decide +kernel), (by decide +kernel), (by decide +kernel)⟩,
   ⟨onSes ({ · with limitDc := 6000 }) ses, (by decide +kernel), (by decide +kernel), (by decide +kernel),
     (by decide +kernel), (by decide +kernel), (by decide +kernel)⟩⟩

theorem test_premises_TripRows :
    (∃ (k : Nat) (mv : Nat) (s : State), 1 ≤ k ∧ k ≤ 4 ∧ ftEnabled s.dev (k - 1) = true ∧ ftBeyond s.clk.frame s.dev
      (k - 1) mv = true) ∧
    (∃ (s : State), 8 ≤ s.dev.saf.fluxBad ∧ s.dev.saf.pathMLost = false) ∧
    (∃ (r : ResTier) (s : State), rcTierDue s.dev (tierIndex r) = true) ∧
    (∃ (ma : Nat) (s : State), s.dev.nat Param.RC_PEAK_THR < ma ∧ s.dev.saf.rcTestDue = false ∧ s.dev.saf.pathSLost =
      false) ∧
    (∃ (i : SafeIn) (s : State), dualEnabled s.dev (safeInDoor i) = true ∧ (s.dev.saf.chan i).level = true) ∧
    (∃ (i : SafeIn) (s : State), (s.dev.saf.chan i).level = false) ∧
    (∃ (door : Bool) (s : State), discDue door s.dev = true) ∧
    (∃ (i : SafeIn) (edges : Nat) (s : State), 20 < edges ∧ dualEnabled s.dev (safeInDoor i) = true ∧ (s.dev.saf.chan
      i).chatter = false) ∧
    (∃ (s : State), otDue s.dev = true) ∧
    (∃ (s : State), 3 ≤ s.dev.saf.negBad) ∧
    (∃ (s : State), s.dev.saf.negBad < 3 ∧ pilotELong s.clk.frame s.dev = false ∧ (2 ≤ s.dev.saf.refBad ∨ 3 ≤
      s.dev.saf.backBad ∨ 3 ≤ s.dev.saf.shortBad)) ∧
    (∃ (s : State), 10 ≤ s.dev.saf.peCycles) ∧
    (∃ (s : State), s.dev.saf.peCycles < 10 ∧ (s.dev.chan 3).faulty = true) :=
  ⟨⟨4, 3000, num (Param.FT_CFG + 3) 0x20190 base, (by decide +kernel), (by decide +kernel), (by decide +kernel),
     (by decide +kernel)⟩,
   ⟨onSaf ({ · with fluxBad := 8 }) base, (by decide +kernel), (by decide +kernel)⟩,
   ⟨.dcLow, onSaf ({ · with rcHold := [100000, 100000, 100000, 100000] }) base, (by decide +kernel)⟩,
   ⟨100000, base, (by decide +kernel), (by decide +kernel), (by decide +kernel)⟩,
   ⟨.doorB, num Param.DOOR_ENABLE 1 base, (by decide +kernel), (by decide +kernel)⟩,
   ⟨.doorB, onSaf (fun x => { x with doorB := { x.doorB with level := false } }) base, (by decide +kernel)⟩,
   ⟨true, num Param.DOOR_ENABLE 1 (onSaf ({ · with discD := 1000000 }) base), (by decide +kernel)⟩,
   ⟨.doorB, 21, num Param.DOOR_ENABLE 1 base, (by decide +kernel), (by decide +kernel), (by decide +kernel)⟩,
   ⟨onSaf ({ · with otHigh := [0, 2] }) base, (by decide +kernel)⟩,
   ⟨onSaf ({ · with negBad := 3 }) base, (by decide +kernel)⟩,
   ⟨onSaf ({ · with refBad := 2 }) base, (by decide +kernel), (by decide +kernel), (by decide +kernel)⟩,
   ⟨onSaf ({ · with peCycles := 10 }) base, (by decide +kernel)⟩,
   ⟨chan 3 (fun _ => { faulty := true }) base, (by decide +kernel), (by decide +kernel)⟩⟩

theorem test_premises_SafetyTestRows :
    (∃ (failed : BitVec 4) (s : State), testDue s s.dev.saf.ftTestDue s.dev.saf.ftTestAt dayFrames 1 s.dev = true ∧ (∀
      k < 4, failed.getLsbD k = false ∨ ftEnabled s.dev k = false)) ∧
    (∃ (failed : BitVec 4) (s : State) (k : _), testDue s s.dev.saf.ftTestDue s.dev.saf.ftTestAt dayFrames 1 s.dev =
      true ∧ k < 4 ∧ failed.getLsbD k = true ∧ ftEnabled s.dev k = true) ∧
    (∃ (m160 : Int) (m40 : Int) (peak : Bool) (okM : Bool) (s : State), testDue s s.dev.saf.rcTestDue
      s.dev.saf.rcTestAt 28800000 2 s.dev = true ∧ (okM = true ↔ 6800 ≤ m160 ∧ m160 ≤ 9200 ∧ 255000 ≤ m40 ∧ m40 ≤
      345000 ∧ s.dev.saf.fluxBad < 8 ∧ (s.dev.chan 14).faulty = false) ∧ okM = true ∧ peak = true) ∧
    (∃ (m160 : Int) (m40 : Int) (okM : Bool) (s : State), testDue s s.dev.saf.rcTestDue s.dev.saf.rcTestAt 28800000 2
      s.dev = true ∧ (okM = true ↔ 6800 ≤ m160 ∧ m160 ≤ 9200 ∧ 255000 ≤ m40 ∧ m40 ≤ 345000 ∧ s.dev.saf.fluxBad < 8 ∧
      (s.dev.chan 14).faulty = false) ∧ okM = false) ∧
    (∃ (m160 : Int) (m40 : Int) (peak : Bool) (okM : Bool) (s : State), testDue s s.dev.saf.rcTestDue
      s.dev.saf.rcTestAt 28800000 2 s.dev = true ∧ (okM = true ↔ 6800 ≤ m160 ∧ m160 ≤ 9200 ∧ 255000 ≤ m40 ∧ m40 ≤
      345000 ∧ s.dev.saf.fluxBad < 8 ∧ (s.dev.chan 14).faulty = false) ∧ okM = true ∧ peak = false) ∧
    (∃ (q : QuadSw) (k : Nat) (m : ProofMeas) (s : State), proofDue s s.dev = true ∧ nextQuad s.dev.saf.quads
      s.dev.saf.quadNext = k ∧ s.dev.saf.quads[k]? = some q ∧ proofPass s.dev k m = true) ∧
    (∃ (q : QuadSw) (k : Nat) (m : ProofMeas) (s : State), proofDue s s.dev = true ∧ nextQuad s.dev.saf.quads
      s.dev.saf.quadNext = k ∧ s.dev.saf.quads[k]? = some q ∧ proofPass s.dev k m = false ∧ (∀ x ∈ s.dev.saf.quads,
      x.failed = 0) ∧ q.missed = 0) ∧
    (∃ (q : QuadSw) (k : Nat) (m : ProofMeas) (s : State), proofDue s s.dev = true ∧ nextQuad s.dev.saf.quads
      s.dev.saf.quadNext = k ∧ s.dev.saf.quads[k]? = some q ∧ proofPass s.dev k m = false ∧ (∀ x ∈ s.dev.saf.quads,
      x.failed = 0) ∧ q.missed ≠ 0) ∧
    (∃ (q : QuadSw) (k : Nat) (m : ProofMeas) (s : State) (x : _), proofDue s s.dev = true ∧ nextQuad s.dev.saf.quads
      s.dev.saf.quadNext = k ∧ s.dev.saf.quads[k]? = some q ∧ proofPass s.dev k m = false ∧ x ∈ s.dev.saf.quads ∧
      x.failed ≠ 0) ∧
    (∃ (b : Bool) (low : BitVec 3) (s : State), pulseTestDue s b s.dev = true ∧ (∀ k < 3, nth false (pulseInputs b
      s.dev) k = true → low.getLsbD k = true)) ∧
    (∃ (b : Bool) (low : BitVec 3) (s : State) (k : _), pulseTestDue s b s.dev = true ∧ k < 3 ∧ nth false (pulseInputs
      b s.dev) k = true ∧ low.getLsbD k = false ∧ nth 0 s.dev.saf.tpoFails (k + if b then 3 else 0) = 1) ∧
    (∃ (uA : Int) (s : State), isoDue s.dev = true ∧ s.dev.saf.isoVal = some uA ∧ s.dev.saf.isoLast = none) ∧
    (∃ (uA : Int) (s : State) (x : _), isoDue s.dev = true ∧ s.dev.saf.isoVal = some uA ∧ s.dev.saf.isoLast = some x) :=
  ⟨⟨0, num (Param.FT_CFG + 3) 0x20190 (onSaf ({ · with ftTestDue := true, rcTestDue := true }) base),
     (by decide +kernel), (by decide +kernel)⟩,
   ⟨8, num (Param.FT_CFG + 3) 0x20190 (onSaf ({ · with ftTestDue := true, rcTestDue := true }) base), 3,
     (by decide +kernel), (by decide +kernel), (by decide +kernel), (by decide +kernel)⟩,
   ⟨6800, 345000, true, true, num (Param.FT_CFG + 3) 0x20190 (onSaf ({ · with ftTestDue := true, rcTestDue := true })
     base), (by decide +kernel), (by decide +kernel), (by decide +kernel), (by decide +kernel)⟩,
   ⟨6799, 345000, false, num (Param.FT_CFG + 3) 0x20190 (onSaf ({ · with ftTestDue := true, rcTestDue := true })
     base), (by decide +kernel), (by decide +kernel), (by decide +kernel)⟩,
   ⟨6800, 345000, false, true, num (Param.FT_CFG + 3) 0x20190 (onSaf ({ · with ftTestDue := true, rcTestDue := true })
     base), (by decide +kernel), (by decide +kernel), (by decide +kernel), (by decide +kernel)⟩,
   ⟨{}, 7, ⟨0, 0, 0, 0, 0, 0, true, false⟩, onSaf
     ({ · with proofs := [3], quads := List.replicate 8 {}, quadNext := 7 }) base, (by decide +kernel),
     (by decide +kernel), (by decide +kernel), (by decide +kernel)⟩,
   ⟨{}, 7, ⟨0, 0, 0, 0, 0, 0, true, true⟩, onSaf
     ({ · with proofs := [3], quads := List.replicate 8 {}, quadNext := 7 }) base, (by decide +kernel),
     (by decide +kernel), (by decide +kernel), (by decide +kernel), (by decide +kernel), (by decide +kernel)⟩,
   ⟨{ missed := 1 }, 7, ⟨0, 0, 0, 0, 0, 0, true, true⟩, onSaf
     ({ · with proofs := [3], quads := List.replicate 8 { missed := 1 }, quadNext := 7 }) base, (by decide +kernel),
     (by decide +kernel), (by decide +kernel), (by decide +kernel), (by decide +kernel), (by decide +kernel)⟩,
   ⟨{ failed := 1 }, 7, ⟨0, 0, 0, 0, 0, 0, true, true⟩, onSaf
     ({ · with proofs := [3], quads := List.replicate 8 { failed := 1 }, quadNext := 7 }) base, { failed := 1 },
     (by decide +kernel), (by decide +kernel), (by decide +kernel), (by decide +kernel), (by decide +kernel),
     (by decide +kernel)⟩,
   ⟨false, 7, num Param.CONTACTOR_CFG 7 (num Param.ESTOP_ENABLE 1 (num Param.DOOR_ENABLE 1 (onSaf
     ({ · with proofs := [4], tpoFails := [1, 1, 1, 1, 1, 1] }) base))), (by decide +kernel), (by decide +kernel)⟩,
   ⟨true, 0, num Param.CONTACTOR_CFG 7 (num Param.ESTOP_ENABLE 1 (num Param.DOOR_ENABLE 1 (onSaf
     ({ · with proofs := [4], tpoFails := [1, 1, 1, 1, 1, 1] }) base))), 0, (by decide +kernel), (by decide +kernel),
     (by decide +kernel), (by decide +kernel), (by decide +kernel)⟩,
   ⟨70, num Param.OUTLET_KIND 1 (onDc ({ · with phase := 2 }) (onSaf ({ · with isoVal := some 70, isoLast := none })
     hlc)), (by decide +kernel), (by decide +kernel), (by decide +kernel)⟩,
   ⟨70, num Param.OUTLET_KIND 1 (onDc ({ · with phase := 2 }) (onSaf ({ · with isoVal := some 70, isoLast := some 5 })
     hlc)), 5, (by decide +kernel), (by decide +kernel), (by decide +kernel)⟩⟩

theorem test_premises_ContactorRows :
    (∃ (s : State), closeCheckDue s.clk.frame s.dev = true ∧ mirrorOpen s.dev = [] ∧ voltageShows s.dev = true) ∧
    (∃ (s : State), closeCheckDue s.clk.frame s.dev = true ∧ (mirrorOpen s.dev ≠ [] ∨ voltageShows s.dev = false)) ∧
    (∃ (mc : Nat) (s : State), s.dev.lanes.outputs.getLsbD 0 = true ∧ s.dev.saf.closeOk = true ∧ mc ∈ mirrorOpen
      s.dev) ∧
    (∃ (s : State), s.dev.nat Param.OUTLET_KIND ≠ 1 ∧ openSergeDue s.clk.frame s.dev = true ∧ s.clk.frame <
      s.dev.saf.openAt + ms (s.dev.nat Param.CONTACTOR_OPEN_MAX) + 160 ∧ mirrorClosed s.dev = [] ∧ s.dev.saf.weldLatch
      = false) ∧
    (∃ (k : Nat) (s : State), openSergeDue s.clk.frame s.dev = true ∧ (mirrorClosed s.dev).head? = some k ∧ outletShut
      s.dev = false ∧ s.dev.lanes.dispute = none) ∧
    (∃ (bad : Option Nat) (s : State), (s.dev.nat Param.OUTLET_KIND ≠ 1 ∨ s.dev.saf.decayFrom ≠ none) ∧ openVerdict
      s.clk.frame s.dev = some bad ∧ outletShut s.dev = false ∧ s.dev.lanes.dispute = none) ∧
    (∃ (s : State), s.clk.running = true) ∧
    (∃ (s : State), s.clk.running = true ∧ s.dev.saf.confirmSt = 1 ∧ s.dev.saf.confirmFrame + 480000 < s.clk.frame) :=
  ⟨⟨num Param.CONTACTOR_CFG 7 (onSaf ({ · with closeAt := some 5, closeOk := true, mc1 := false, mc2 := false })
     (onMetr (fun m =>
     { m with outlet := { m.outlet with phases := List.replicate 3 { uLine := List.replicate 160 300000000 } } })
     ses)), (by decide +kernel), (by decide +kernel), (by decide +kernel)⟩,
   ⟨num Param.CONTACTOR_CFG 7 (onSaf ({ · with closeAt := some 5, closeOk := true, mc1 := true, mc2 := true }) (onMetr
     (fun m =>
     { m with outlet := { m.outlet with phases := List.replicate 3 { uLine := List.replicate 160 300000000 } } })
     ses)), (by decide +kernel), (by decide +kernel)⟩,
   ⟨1, num Param.CONTACTOR_CFG 7 (onSaf ({ · with closeAt := some 5, closeOk := true, mc1 := true, mc2 := true })
     (onMetr (fun m =>
     { m with outlet := { m.outlet with phases := List.replicate 3 { uLine := List.replicate 160 300000000 } } })
     ses)), (by decide +kernel), (by decide +kernel), (by decide +kernel)⟩,
   ⟨num Param.CONTACTOR_CFG 7 (onSaf ({ · with openSt := 1, openAt := 99500, mc1 := true, mc2 := true }) base),
     (by decide +kernel), (by decide +kernel), (by decide +kernel), (by decide +kernel), (by decide +kernel)⟩,
   ⟨1, frame 101000 (num Param.CONTACTOR_CFG 7 (onSaf
     ({ · with openSt := 1, openAt := 99500, mc1 := false, mc2 := false }) base)), (by decide +kernel),
     (by decide +kernel), (by decide +kernel), (by decide +kernel)⟩,
   ⟨_, onSaf ({ · with openSt := 1, openSerge := true, openAt := 5, decayFrom := some 5 }) base, (by decide +kernel),
     (rfl), (by decide +kernel), (by decide +kernel)⟩,
   ⟨base, (by decide +kernel)⟩,
   ⟨frame 480006 (onSaf ({ · with confirmSt := 1, confirmFrame := 5 }) base), (by decide +kernel),
     (by decide +kernel), (by decide +kernel)⟩⟩

theorem test_premises_SwitchChannelRows :
    (∃ (k : Nat) (h : Hsw) (s : State), 1 ≤ k ∧ k ≤ 8 ∧ s.dev.sw.ch[k - 1]? = some h ∧ h.st = 1 ∧ h.stepAt + ms (nth
      (0, 0) (hswProfile s.dev k).1 (h.step - 1)).1 ≤ s.clk.frame) ∧
    (∃ (k : Nat) (h : Hsw) (s : State) (c : Instr) (us : Nat) (cause : Nat) (tj : Int), 1 ≤ k ∧ k ≤ 8 ∧ s.dev.sw.ch[k
      - 1]? = some h ∧ ((c = .fastShort k us ∧ 100 ≤ us ∧ cause = 1 ∧ pastBlanking s.clk.frame k s.dev = true ∧
      pulseAtLeast s.dev 1100 k = true) ∨ (c = .thermalShutdown k tj ∧ 17000 ≤ tj ∧ cause = 2)) ∧ (h.st = 1 ∨ h.st =
      2)) ∧
    (∃ (k : Nat) (h : Hsw) (s : State), 1 ≤ k ∧ k ≤ 8 ∧ s.dev.sw.ch[k - 1]? = some h ∧ retryDue s.clk.frame k s.dev =
      true ∧ s.dev.sw.uv = 0) ∧
    (∃ (k : Nat) (h : Hsw) (s : State), 1 ≤ k ∧ k ≤ 8 ∧ s.dev.sw.ch[k - 1]? = some h ∧ h.st = 2 ∧ h.goodSince + 8000 ≤
      s.clk.frame) ∧
    (∃ (k : Nat) (h : Hsw) (s : State), 1 ≤ k ∧ k ≤ 8 ∧ s.dev.sw.ch[k - 1]? = some h ∧ 160 ≤ h.olOn) ∧
    (∃ (k : Nat) (h : Hsw) (s : State), 1 ≤ k ∧ k ≤ 8 ∧ s.dev.sw.ch[k - 1]? = some h ∧ 160 ≤ h.olOff) ∧
    (∃ (k : Nat) (h : Hsw) (s : State), 1 ≤ k ∧ k ≤ 8 ∧ s.dev.sw.ch[k - 1]? = some h ∧ 160 ≤ h.stv) :=
  ⟨⟨8, { st := 1, step := 1, stepAt := 5 }, onSw
     ({ · with ch := List.replicate 8 { st := 1, step := 1, stepAt := 5 } }) base, (by decide +kernel),
     (by decide +kernel), (by decide +kernel), (by decide +kernel), (by decide +kernel)⟩,
   ⟨8, { st := 1 }, onSw ({ · with ch := List.replicate 8 { st := 1 } }) base, .thermalShutdown 8 17000, 0, 2, 17000,
     (by decide +kernel), (by decide +kernel), (by decide +kernel), (Or.inr ⟨rfl, by decide, rfl⟩),
     (by decide +kernel)⟩,
   ⟨8, { st := 4, cmd := 1, offAt := 5 }, onSw ({ · with ch := List.replicate 8 { st := 4, cmd := 1, offAt := 5 } })
     base, (by decide +kernel), (by decide +kernel), (by decide +kernel), (by decide +kernel), (by decide +kernel)⟩,
   ⟨8, { st := 2, goodSince := 92000 }, onSw ({ · with ch := List.replicate 8 { st := 2, goodSince := 92000 } }) base,
     (by decide +kernel), (by decide +kernel), (by decide +kernel), (by decide +kernel), (by decide +kernel)⟩,
   ⟨8, { olOn := 160 }, onSw ({ · with ch := List.replicate 8 { olOn := 160 } }) base, (by decide +kernel),
     (by decide +kernel), (by decide +kernel), (by decide +kernel)⟩,
   ⟨8, { olOff := 160 }, onSw ({ · with ch := List.replicate 8 { olOff := 160 } }) base, (by decide +kernel),
     (by decide +kernel), (by decide +kernel), (by decide +kernel)⟩,
   ⟨8, { stv := 160 }, onSw ({ · with ch := List.replicate 8 { stv := 160 } }) base, (by decide +kernel),
     (by decide +kernel), (by decide +kernel), (by decide +kernel)⟩⟩

theorem test_premises_VauxAndLockRows :
    (∃ (mv : Nat) (us : Nat) (kind : Nat) (c : Instr) (s : State), s.clk.running = true ∧ 10 ≤ us ∧ ((kind = 1 ∧ c =
      .vauxUndervoltage mv us ∧ (s.dev.nat Param.UV_MODE = 0 ∧ mv < s.dev.nat Param.UV_OFF ∨ mv < 5500)) ∨ (kind = 2 ∧
      c = .vauxOvervoltage mv us ∧ 38000 < mv)) ∧ s.dev.sw.uv ≠ kind) ∧
    (∃ (mv : Nat) (us : Nat) (kind : Nat) (c : Instr) (s : State), s.clk.running = true ∧ 10 ≤ us ∧ ((kind = 1 ∧ c =
      .vauxUndervoltage mv us ∧ (s.dev.nat Param.UV_MODE = 0 ∧ mv < s.dev.nat Param.UV_OFF ∨ mv < 5500)) ∨ (kind = 2 ∧
      c = .vauxOvervoltage mv us ∧ 38000 < mv)) ∧ s.dev.sw.uv = kind) ∧
    (∃ (s : State), vauxGood s.dev = true ∧ s.dev.sw.uv ≠ 0) ∧
    (∃ (k : Nat) (h : Hsw) (s : State), shedDue s.clk.frame s.dev = true ∧ shedChannel s.dev = some k ∧ s.dev.sw.ch[k
      - 1]? = some h) ∧
    (∃ (k : Nat) (s : State), shedLast s.dev = some k ∧ shedReturnDue s.clk.frame k s.dev = true) ∧
    (∃ (s : State) (c : Nat), driveStopCond s.clk.frame s.dev = c ∧ c ≠ 0) ∧
    (∃ (s : State), s.dev.sw.bridge = 2 ∧ s.dev.sw.brakeAt + 400 ≤ s.clk.frame ∧ lockShown s.dev = s.dev.sw.lockDir ∧
      s.dev.sw.stopCond ≠ 4) ∧
    (∃ (s : State), s.dev.sw.bridge = 2 ∧ s.dev.sw.brakeAt + 400 ≤ s.clk.frame ∧ (lockShown s.dev ≠ s.dev.sw.lockDir ∨
      s.dev.sw.stopCond = 4) ∧ s.dev.sw.secondTry = false) ∧
    (∃ (s : State), s.dev.sw.bridge = 2 ∧ s.dev.sw.brakeAt + 400 ≤ s.clk.frame ∧ (lockShown s.dev ≠ s.dev.sw.lockDir ∨
      s.dev.sw.stopCond = 4) ∧ s.dev.sw.secondTry = true) ∧
    (∃ (c : Instr) (us : Nat) (cause : Nat) (tj : Int) (s : State), ((c = .fastShort 9 us ∧ 100 ≤ us ∧ cause = 1) ∨ (c
      = .thermalShutdown 9 tj ∧ 17000 ≤ tj ∧ cause = 2)) ∧ s.dev.sw.bridge = 1) ∧
    (∃ (f : Nat) (s : State), s.dev.sw.repeatAt = some f ∧ f ≤ s.clk.frame ∧ lockMayDrive s.dev = true) ∧
    (∃ (f : Nat) (s : State), s.dev.sw.repeatAt = some f ∧ f ≤ s.clk.frame ∧ lockMayDrive s.dev = false) ∧
    (∃ (s : State), lockLostDue s.dev = true ∧ s.dev.lanes.dispute = none) ∧
    (∃ (f : Nat) (s : State), s.dev.saf.pullAt = some f ∧ f + ms (s.dev.nat Param.COIL_PULLIN) ≤ s.clk.frame ∧
      s.dev.saf.economiser = false) :=
  ⟨⟨5499, 10, 1, .vauxUndervoltage 5499 10, base, (by decide +kernel), (by decide +kernel), (Or.inl ⟨rfl, rfl, Or.inr
     (by decide)⟩), (by decide +kernel)⟩,
   ⟨38001, 10, 2, .vauxOvervoltage 38001 10, onSw ({ · with uv := 2 }) base, (by decide +kernel), (by decide +kernel),
     (Or.inr ⟨rfl, rfl, by decide⟩), (by decide +kernel)⟩,
   ⟨onSw ({ · with uv := 2, uvGood := 80 }) base, (by decide +kernel), (by decide +kernel)⟩,
   ⟨8, { st := 2 }, onSw ({ · with vauxSum := 800000000, ch := List.replicate 8 { st := 2 } }) base,
     (by decide +kernel), (by decide +kernel), (by decide +kernel)⟩,
   ⟨2, onSw
     ({ · with ch := [{}, { st := 7, cmd := 1, shedOrder := 2 }, {}, { st := 7, shedOrder := 1 }, {}, {}, {}, {}] })
     base, (by decide +kernel), (by decide +kernel)⟩,
   ⟨onSw ({ · with bridge := 1 }) base, _, (rfl), (by decide +kernel)⟩,
   ⟨onSw ({ · with bridge := 2, brakeAt := 99600, stopCond := 1, secondTry := false, lockDir := false }) base,
     (by decide +kernel), (by decide +kernel), (by decide +kernel), (by decide +kernel)⟩,
   ⟨onSw ({ · with bridge := 2, brakeAt := 99600, stopCond := 4, secondTry := false, lockDir := true }) base,
     (by decide +kernel), (by decide +kernel), (by decide +kernel), (by decide +kernel)⟩,
   ⟨onSw ({ · with bridge := 2, brakeAt := 99600, stopCond := 4, secondTry := true, lockDir := true }) base,
     (by decide +kernel), (by decide +kernel), (by decide +kernel), (by decide +kernel)⟩,
   ⟨.fastShort 9 100, 100, 1, 0, onSw ({ · with bridge := 1 }) base, (Or.inl ⟨rfl, by decide, rfl⟩),
     (by decide +kernel)⟩,
   ⟨5, onSw ({ · with repeatAt := some 5 }) base, (by decide +kernel), (by decide +kernel), (by decide +kernel)⟩,
   ⟨5, onPow ({ · with st := .hold }) (onSw ({ · with repeatAt := some 5 }) base), (by decide +kernel),
     (by decide +kernel), (by decide +kernel)⟩,
   ⟨num Param.LOCK_FITTED 1 (onSw ({ · with fbHeld := 8 }) ses), (by decide +kernel), (by decide +kernel)⟩,
   ⟨5, onSaf ({ · with pullAt := some 5 }) base, (by decide +kernel), (by decide +kernel), (by decide +kernel)⟩⟩

theorem test_premises_GplcMeshRows :
    (∃ (f : GplcFrame) (s : State), s.clk.running = true ∧ modemUp s.dev = true ∧ f.securityOk = false ∧ Committed s) ∧
    (∃ (f : GplcFrame) (s : State), s.clk.running = true ∧ modemUp s.dev = true ∧ f.securityOk = true ∧
      s.dev.gplc.counters.length = 27 ∧ s.dev.gplc.queues.length = 3 ∧ Committed s) ∧
    (∃ (m : ToneMap) (s : State), s.clk.running = true ∧ modemUp s.dev = true ∧ 6 < m.modulation ∧ Committed s) ∧
    (∃ (m : ToneMap) (s : State), s.clk.running = true ∧ modemUp s.dev = true ∧ m.modulation ≤ 6 ∧
      (s.dev.gplc.neighbour m.sender).isSome = true ∧ Committed s) ∧
    (∃ (a : Nat) (x : Neighbour) (s : State), s.dev.gplc.neighbour a = some x ∧ Committed s) ∧
    (∃ (m : RouteMsg) (s : State), joined s = true ∧ s.dev.gplc.queues.length = 3 ∧ ownAddr s.dev.gplc = some m.dest ∧
      (s.dev.gplc.queue 1).length < 32 ∧ Committed s) ∧
    (∃ (m : RouteMsg) (s : State), joined s = true ∧ s.dev.gplc.queues.length = 3 ∧ ownAddr s.dev.gplc ≠ some m.dest ∧
      s.dev.nat Param.GPLC_ROUTER ≠ 1 ∧ Committed s) ∧
    (∃ (m : RouteMsg) (s : State), joined s = true ∧ s.dev.gplc.queues.length = 3 ∧ ownAddr s.dev.gplc ≠ some m.dest ∧
      s.dev.nat Param.GPLC_ROUTER = 1 ∧ (s.dev.gplc.queue 2).length < 64 ∧ Committed s) ∧
    (∃ (m : RouteMsg) (s : State), joined s = true ∧ s.dev.gplc.queues.length = 3 ∧ ownAddr s.dev.gplc = some m.origin
      ∧ m.hops + 1 ≤ s.dev.nat Param.GPLC_MAX_HOPS ∧ replaces (s.dev.gplc.route m.dest) (m.cost + hopCost s.dev
      m.prevHop) = true ∧ Committed s) ∧
    (∃ (m : RouteMsg) (s : State) (r : _), joined s = true ∧ s.dev.gplc.queues.length = 3 ∧ ownAddr s.dev.gplc = some
      m.origin ∧ m.hops + 1 ≤ s.dev.nat Param.GPLC_MAX_HOPS ∧ s.dev.gplc.route m.dest = some r ∧ replaces (some r)
      (m.cost + hopCost s.dev m.prevHop) = false ∧ Committed s) ∧
    (∃ (m : RouteMsg) (s : State), joined s = true ∧ s.dev.gplc.queues.length = 3 ∧ ownAddr s.dev.gplc = some m.origin
      ∧ s.dev.nat Param.GPLC_MAX_HOPS < m.hops + 1 ∧ Committed s) ∧
    (∃ (m : RouteMsg) (s : State), joined s = true ∧ s.dev.gplc.queues.length = 3 ∧ ownAddr s.dev.gplc ≠ some m.origin
      ∧ s.dev.nat Param.GPLC_ROUTER ≠ 1 ∧ Committed s) ∧
    (∃ (m : RouteMsg) (s : State), joined s = true ∧ s.dev.gplc.queues.length = 3 ∧ ownAddr s.dev.gplc ≠ some m.origin
      ∧ s.dev.nat Param.GPLC_ROUTER = 1 ∧ (s.dev.gplc.queue 2).length < 64 ∧ Committed s) ∧
    (∃ (dest : Nat) (r : Route) (s : State), s.dev.gplc.route dest = some r ∧ r.expiry ≤ s.clk.frame ∧ Committed s) ∧
    (∃ (pan : Nat) (short : Nat) (fast : Bool) (s : State), s.clk.running = true ∧ s.dev.keys.slots.length = 16 ∧
      joinDue s.clk.frame pan short fast s.dev = true ∧ Committed s) ∧
    (∃ (s : State), s.dev.gplc.st = 2 ∧ s.dev.gplc.lastCoord + secs (60 * s.dev.nat Param.GPLC_PAN_LOSS) ≤ s.clk.frame
      ∧ Committed s) ∧
    (∃ (s : State), s.clk.running = true ∧ bootDue s.clk.frame s.dev = true ∧ Committed s) :=
  ⟨⟨{ gframe with securityOk := false }, net, (by decide +kernel), (by decide +kernel), (by decide +kernel),
     (by decide +kernel)⟩,
   ⟨gframe, net, (by decide +kernel), (by decide +kernel), (by decide +kernel), (by decide +kernel),
     (by decide +kernel), (by decide +kernel)⟩,
   ⟨⟨3, 7, 0xF, 5, true, 2⟩, net, (by decide +kernel), (by decide +kernel), (by decide +kernel), (by decide +kernel)⟩,
   ⟨⟨3, 6, 0xF, 5, true, 2⟩, net, (by decide +kernel), (by decide +kernel), (by decide +kernel), (by decide +kernel),
     (by decide +kernel)⟩,
   ⟨3, neighbour, net, (by decide +kernel), (by decide +kernel)⟩,
   ⟨⟨5, 2, 3, 5, 2, true⟩, net, (by decide +kernel), (by decide +kernel), (by decide +kernel), (by decide +kernel),
     (by decide +kernel)⟩,
   ⟨⟨5, 9, 3, 5, 2, true⟩, num Param.GPLC_ROUTER 0 net, (by decide +kernel), (by decide +kernel), (by decide +kernel),
     (by decide +kernel), (by decide +kernel)⟩,
   ⟨⟨5, 9, 3, 5, 2, true⟩, num Param.GPLC_ROUTER 1 net, (by decide +kernel), (by decide +kernel), (by decide +kernel),
     (by decide +kernel), (by decide +kernel), (by decide +kernel)⟩,
   ⟨⟨2, 50, 3, 5, 2, true⟩, net, (by decide +kernel), (by decide +kernel), (by decide +kernel), (by decide +kernel),
     (by decide +kernel), (by decide +kernel)⟩,
   ⟨⟨2, 0, 4, 50, 2, true⟩, net, route, (by decide +kernel), (by decide +kernel), (by decide +kernel),
     (by decide +kernel), (by decide +kernel), (by decide +kernel), (by decide +kernel)⟩,
   ⟨⟨2, 50, 3, 5, 300, true⟩, net, (by decide +kernel), (by decide +kernel), (by decide +kernel), (by decide +kernel),
     (by decide +kernel)⟩,
   ⟨⟨5, 9, 3, 5, 2, true⟩, num Param.GPLC_ROUTER 0 net, (by decide +kernel), (by decide +kernel), (by decide +kernel),
     (by decide +kernel), (by decide +kernel)⟩,
   ⟨⟨5, 9, 3, 5, 2, true⟩, num Param.GPLC_ROUTER 1 net, (by decide +kernel), (by decide +kernel), (by decide +kernel),
     (by decide +kernel), (by decide +kernel), (by decide +kernel)⟩,
   ⟨0, route, net, (by decide +kernel), (by decide +kernel), (by decide +kernel)⟩,
   ⟨1, 2, false, onGplc ({ · with st := 1 }) net, (by decide +kernel), (by decide +kernel), (by decide +kernel),
     (by decide +kernel)⟩,
   ⟨frame 1000000000 net, (by decide +kernel), (by decide +kernel), (by decide +kernel)⟩,
   ⟨onGplc ({ · with st := 1, bootDelay := 2000 }) net, (by decide +kernel), (by decide +kernel), (by decide +kernel)⟩⟩

theorem test_premises_GplcQueueRows :
    (∃ (frames : Nat) (s : State), s.clk.running = true ∧ modemUp s.dev = true ∧ 80 ≤ frames) ∧
    (∃ (s : State), s.dev.gplc.st = 3 ∧ s.dev.gplc.faultSince + dayFrames ≤ s.clk.frame) ∧
    (∃ (q : Nat) (p : Packet) (rest : List Packet) (s : State), s.clk.running = true ∧ modemUp s.dev = true ∧
      queueServed s.clk.frame q s.dev = true ∧ s.dev.gplc.queue q = p :: rest ∧ s.dev.gplc.queues.length = 3 ∧
      s.dev.gplc.counters.length = 27 ∧ p.kind ≠ .gasp ∧ routeUsable q s.dev = true ∧ Committed s) ∧
    (∃ (q : Nat) (p : Packet) (rest : List Packet) (s : State), s.clk.running = true ∧ modemUp s.dev = true ∧
      queueServed s.clk.frame q s.dev = true ∧ s.dev.gplc.queue q = p :: rest ∧ s.dev.gplc.queues.length = 3 ∧
      s.dev.gplc.counters.length = 27 ∧ Committed s) ∧
    (∃ (q : Nat) (p : Packet) (rest : List Packet) (s : State), s.clk.running = true ∧ modemUp s.dev = true ∧
      queueServed s.clk.frame q s.dev = true ∧ s.dev.gplc.queue q = p :: rest ∧ s.dev.gplc.queues.length = 3 ∧
      s.dev.gplc.counters.length = 27 ∧ routeUsable q s.dev = true ∧ Committed s) ∧
    (∃ (q : Nat) (p : Packet) (s : State), q < 3 ∧ s.dev.gplc.queues.length = 3 ∧ (s.dev.gplc.queue q).find? (fun p =>
      decide (p.kind ≠ .gasp) && decide (p.at_ + queueLimit q ≤ s.clk.frame)) = some p) ∧
    (∃ (s : State), s.clk.running = true ∧ gaspSentDue s.clk.frame s.dev = true) ∧
    (∃ (airUs : Nat) (s : State), s.clk.running = true ∧ s.dev.gplc.gasp = 1 ∧ 125 * (s.dev.gplc.gaspFrame + 400) ≤
      125 * s.clk.frame + airUs) ∧
    (∃ (s : State), s.clk.running = true ∧ modemShedDue s.clk.frame s.dev = true) :=
  ⟨⟨80, net, (by decide +kernel), (by decide +kernel), (by decide +kernel)⟩,
   ⟨frame 1000000000 (onGplc ({ · with st := 3 }) net), (by decide +kernel), (by decide +kernel)⟩,
   ⟨0, own 0, [own 9], net, (by decide +kernel), (by decide +kernel), (by decide +kernel), (by decide +kernel),
     (by decide +kernel), (by decide +kernel), (by decide +kernel), (by decide +kernel), (by decide +kernel)⟩,
   ⟨0, own 0, [own 9], net, (by decide +kernel), (by decide +kernel), (by decide +kernel), (by decide +kernel),
     (by decide +kernel), (by decide +kernel), (by decide +kernel)⟩,
   ⟨0, own 0, [own 9], net, (by decide +kernel), (by decide +kernel), (by decide +kernel), (by decide +kernel),
     (by decide +kernel), (by decide +kernel), (by decide +kernel), (by decide +kernel)⟩,
   ⟨0, own 0, frame 1000000000 net, (by decide +kernel), (by decide +kernel), (by decide +kernel)⟩,
   ⟨onGplc
     ({ · with gasp := 1, gaspFrame := 99995, queues := [[{ kind := .gasp, dest := some 0, at_ := 5 }], [], []] })
     net, (by decide +kernel), (by decide +kernel)⟩,
   ⟨0, onGplc ({ · with gasp := 1, gaspFrame := 99600 }) net, (by decide +kernel), (by decide +kernel),
     (by decide +kernel)⟩,
   ⟨onPow ({ · with st := .hold, holdFrame := 5 }) (onGplc
     ({ · with gasp := 1, gaspFrame := 99995, queues := [[{ kind := .gasp, dest := some 0, at_ := 5 }], [], []] })
     net), (by decide +kernel), (by decide +kernel)⟩⟩

theorem test_premises_HeadEndRows :
    (∃ (s : State), joined s = true ∧ 4 ≤ s.dev.dlms.assocs.length ∧ Committed s) ∧
    (∃ (sap : Nat) (s : State), joined s = true ∧ s.dev.dlms.assocs.length < 4 ∧ sap = 0x10 ∧ Committed s) ∧
    (∃ (sap : Nat) (suite : Nat) (authentic : Bool) (s : State), joined s = true ∧ s.dev.dlms.assocs.length < 4 ∧ sap
      = 1 ∧ (∀ a ∈ s.dev.dlms.assocs, a.mgmt = false) ∧ suite = s.dev.nat Param.DLMS_SUITE ∧ authentic = true ∧
      suiteKeys suite s.dev = true ∧ Committed s) ∧
    (∃ (sap : Nat) (suite : Nat) (authentic : Bool) (s : State), joined s = true ∧ s.dev.dlms.assocs.length < 4 ∧ sap
      = 1 ∧ (∀ a ∈ s.dev.dlms.assocs, a.mgmt = false) ∧ suite = s.dev.nat Param.DLMS_SUITE ∧ authentic = false ∧
      Committed s) ∧
    (∃ (x : Apdu) (a : Assoc) (s : State) (u : State), assocOf x.assoc s.dev = some a ∧ joined s = true ∧ s.serving =
      true ∧ mailboxScan s = u ∧ a.mgmt = true ∧ (x.authentic = false ∨ suiteKeys (u.dev.nat Param.DLMS_SUITE) u.dev =
      false ∨ u.dev.dlms.lastIc.any (fun c => x.ic ≤ c) = true) ∧ Committed s) ∧
    (∃ (x : Apdu) (a : Assoc) (s : State) (u : State) (j : _), assocOf x.assoc s.dev = some a ∧ joined s = true ∧
      s.serving = true ∧ mailboxScan s = u ∧ a.mgmt = true ∧ x.authentic = true ∧ suiteKeys (u.dev.nat
      Param.DLMS_SUITE) u.dev = true ∧ u.dev.dlms.lastIc.any (fun c => x.ic ≤ c) = false ∧ keptAnswer u.clk.frame a x
      = some j ∧ Committed s) ∧
    (∃ (x : Apdu) (a : Assoc) (s : State) (u : State), assocOf x.assoc s.dev = some a ∧ joined s = true ∧ s.serving =
      true ∧ mailboxScan s = u ∧ a.mgmt = true ∧ x.authentic = true ∧ suiteKeys (u.dev.nat Param.DLMS_SUITE) u.dev =
      true ∧ u.dev.dlms.lastIc.any (fun c => x.ic ≤ c) = false ∧ keptAnswer u.clk.frame a x = none ∧ x.items = [] ∧
      Committed s) ∧
    (∃ (x : Apdu) (a : Assoc) (s : State) (u : State), assocOf x.assoc s.dev = some a ∧ joined s = true ∧ s.serving =
      true ∧ mailboxScan s = u ∧ a.mgmt = false ∧ Committed s) ∧
    (∃ (k : Nat) (a : Assoc) (s : State), s.clk.running = true ∧ assocOf k s.dev = some a ∧ a.lastReq + secs
      (s.dev.nat Param.DLMS_INACTIVITY) ≤ s.clk.frame ∧ Committed s) ∧
    (∃ (s : State), s.clk.running = true ∧ pushDue s.clk.frame s.dev = true) ∧
    (∃ (ident : List Byte) (size : Nat) (s : State), managed s = true ∧ s.dev.upd.activation = none ∧ jobOf .staging
      s.dev = none ∧ ident = asciiPad 6 "KM7720" ∧ 0 < size ∧ size ≤ 8388608 ∧ Committed s) ∧
    (∃ (block : Nat) (size : Nat) (ident : List Byte) (data : List Byte) (s : State), managed s = true ∧
      s.dev.upd.activation = none ∧ s.dev.dlms.image = some (ident, size) ∧ block < transferBlocks size s.dev ∧
      data.length = min (s.dev.nat Param.IMAGE_BLOCK_SIZE) (size - s.dev.nat Param.IMAGE_BLOCK_SIZE * block) ∧
      Committed s) ∧
    (∃ (k : Nat) (s : State), s.clk.running = true ∧ 5 ≤ k ∧ k ≤ 7 ∧ (keySlot s.dev 7).kind ≠ 0 ∧
      s.dev.dlms.assocs.any Assoc.mgmt = true ∧ k < s.dev.keys.slots.length ∧ Committed s) :=
  ⟨⟨onDlms ({ · with assocs := List.replicate 4 { id := 1, mgmt := false, lastReq := 5 } }) keyed,
     (by decide +kernel), (by decide +kernel), (by decide +kernel)⟩,
   ⟨0x10, onDlms ({ · with assocs := List.replicate 3 { id := 1, mgmt := false, lastReq := 5 } }) keyed,
     (by decide +kernel), (by decide +kernel), (by decide +kernel), (by decide +kernel)⟩,
   ⟨1, 1, true, onDlms ({ · with assocs := [] }) keyed, (by decide +kernel), (by decide +kernel), (by decide +kernel),
     (by decide +kernel), (by decide +kernel), (by decide +kernel), (by decide +kernel), (by decide +kernel)⟩,
   ⟨1, 1, false, onDlms ({ · with assocs := [] }) keyed, (by decide +kernel), (by decide +kernel),
     (by decide +kernel), (by decide +kernel), (by decide +kernel), (by decide +kernel), (by decide +kernel)⟩,
   ⟨⟨1, 9, 5, true, [1], [], 3, some 7⟩, { id := 1, mgmt := true, lastReq := 5 }, onDlms
     ({ · with assocs := [{ id := 1, mgmt := true, lastReq := 5 }], lastIc := some 5 }) keyed, mailboxScan (onDlms
     ({ · with assocs := [{ id := 1, mgmt := true, lastReq := 5 }], lastIc := some 5 }) keyed), (by decide +kernel),
     (by decide +kernel), (by decide +kernel), (rfl), (by decide +kernel), (by decide +kernel), (by decide +kernel)⟩,
   ⟨⟨1, 9, 6, true, [1], [], 3, some 7⟩, { id := 1, mgmt := true, lastReq := 5, journal := [⟨9, [1], 99999, [7]⟩] },
     onDlms
     ({ · with assocs := [{ id := 1, mgmt := true, lastReq := 5, journal := [⟨9, [1], 99999, [7]⟩] }], lastIc := some 5 })
     keyed, mailboxScan (onDlms
     ({ · with assocs := [{ id := 1, mgmt := true, lastReq := 5, journal := [⟨9, [1], 99999, [7]⟩] }], lastIc := some 5 })
     keyed), ⟨9, [1], 99999, [7]⟩, (by decide +kernel), (by decide +kernel), (by decide +kernel), (rfl),
     (by decide +kernel), (by decide +kernel), (by decide +kernel), (by decide +kernel), (by decide +kernel),
     (by decide +kernel)⟩,
   ⟨⟨1, 9, 6, true, [1], [], 3, some 7⟩, { id := 1, mgmt := true, lastReq := 5 }, onDlms
     ({ · with assocs := [{ id := 1, mgmt := true, lastReq := 5 }], lastIc := some 5 }) keyed, mailboxScan (onDlms
     ({ · with assocs := [{ id := 1, mgmt := true, lastReq := 5 }], lastIc := some 5 }) keyed), (by decide +kernel),
     (by decide +kernel), (by decide +kernel), (rfl), (by decide +kernel), (by decide +kernel), (by decide +kernel),
     (by decide +kernel), (by decide +kernel), (by decide +kernel), (by decide +kernel)⟩,
   ⟨⟨1, 9, 6, true, [1], [], 3, some 7⟩, { id := 1, mgmt := false, lastReq := 5 }, onDlms
     ({ · with assocs := [{ id := 1, mgmt := false, lastReq := 5 }], lastIc := some 5 }) keyed, mailboxScan (onDlms
     ({ · with assocs := [{ id := 1, mgmt := false, lastReq := 5 }], lastIc := some 5 }) keyed), (by decide +kernel),
     (by decide +kernel), (by decide +kernel), (rfl), (by decide +kernel), (by decide +kernel)⟩,
   ⟨1, { id := 1, mgmt := true, lastReq := 5 }, frame 1000000000 (onDlms
     ({ · with assocs := [{ id := 1, mgmt := true, lastReq := 5 }], lastIc := some 5 }) keyed), (by decide +kernel),
     (by decide +kernel), (by decide +kernel), (by decide +kernel)⟩,
   ⟨frame 1000000000 (onDlms ({ · with alarms := 5, pushFrame := some 5 }) net), (by decide +kernel),
     (by decide +kernel)⟩,
   ⟨asciiPad 6 "KM7720", 8388608, onDlms
     ({ · with assocs := [{ id := 1, mgmt := true, lastReq := 5 }], lastIc := some 5 }) keyed, (by decide +kernel),
     (by decide +kernel), (by decide +kernel), (by decide +kernel), (by decide +kernel), (by decide +kernel),
     (by decide +kernel)⟩,
   ⟨0, 5, [1], zeros 5, onDlms
     ({ · with assocs := [{ id := 1, mgmt := true, lastReq := 5 }], image := some ([1], 5) }) keyed,
     (by decide +kernel), (by decide +kernel), (by decide +kernel), (by decide +kernel), (by decide +kernel),
     (by decide +kernel)⟩,
   ⟨7, onDlms ({ · with assocs := [{ id := 1, mgmt := true, lastReq := 5 }], lastIc := some 5 }) keyed,
     (by decide +kernel), (by decide +kernel), (by decide +kernel), (by decide +kernel), (by decide +kernel),
     (by decide +kernel), (by decide +kernel)⟩⟩

theorem test_premises_ReaderRows :
    (∃ (re : Int) (im : Int) (s : State), pingDue s = true ∧ detuned s.dev.nfc.baseline (re, im) s.dev.nfc.threshold =
      false ∧ Committed s) ∧
    (∃ (re : Int) (im : Int) (ans : PollAns) (s : State), pingDue s = true ∧ detuned s.dev.nfc.baseline (re, im)
      s.dev.nfc.threshold = true ∧ (pollCards s.dev ans).1 = [] ∧ Committed s) ∧
    (∃ (re : Int) (im : Int) (ans : PollAns) (s : State), pingDue s = true ∧ detuned s.dev.nfc.baseline (re, im)
      s.dev.nfc.threshold = true ∧ (pollCards s.dev ans).1 ≠ [] ∧ Committed s) ∧
    (∃ (s : State), readerRuns s = true ∧ s.dev.nfc.cards ≠ [] ∧ s.dev.nfc.pollAt + 2000 ≤ s.clk.frame ∧ Committed s) ∧
    (∃ (ans : PollAns) (s : State) (c : CardAns) (k : Nat) (x : List Byte) (e : _), readerRuns s = true ∧
      s.dev.nfc.cards ≠ [] ∧ s.dev.nfc.pollAt + 2000 ≤ s.clk.frame ∧ (pollCards s.dev ans).1 = [c] ∧ identify s.dev c
      = (k, x) ∧ isRandom (k, x) = false ∧ (∀ y ∈ s.dev.nfc.cards, y.kind ≠ k ∨ y.ident ≠ x) ∧ s.dev.nfc.swapAt = none
      ∧ findEntry s.dev k x = some e ∧ (fieldAt e 12 1).testBit 0 = true ∧ Committed s) ∧
    (∃ (ans : PollAns) (s : State) (c : CardAns) (k : Nat) (x : List Byte) (e : _), readerRuns s = true ∧
      s.dev.nfc.cards ≠ [] ∧ s.dev.nfc.pollAt + 2000 ≤ s.clk.frame ∧ (pollCards s.dev ans).1 = [c] ∧ identify s.dev c
      = (k, x) ∧ isRandom (k, x) = false ∧ (∀ y ∈ s.dev.nfc.cards, y.kind ≠ k ∨ y.ident ≠ x) ∧ s.dev.nfc.swapAt = none
      ∧ findEntry s.dev k x = some e ∧ fieldAt e 12 1 = 0 ∧ s.dev.ses.auth = none ∧ s.dev.ses.request = none ∧
      s.dev.ses.heldCard = none ∧ s.dev.ses.endedAt ≠ some s.clk.frame ∧ pilotMode s.clk.mode = true ∧
      s.dev.veh.contract ≠ 1 ∧ s.dev.veh.contract ≠ 4 ∧ Committed s) ∧
    (∃ (w : Nat) (s : State), readerRuns s = true ∧ s.dev.nfc.wtxTotal + w ≤ s.dev.nat Param.WTX_MAX_TOTAL ∧ Committed
      s) ∧
    (∃ (w : Nat) (s : State), readerRuns s = true ∧ s.dev.nat Param.WTX_MAX_TOTAL < s.dev.nfc.wtxTotal + w ∧ Committed
      s) ∧
    (∃ (s : State) (fwi : Nat) (us : Nat), readerRuns s = true ∧ fwtNs fwi ≤ 1000 * us) ∧
    (∃ (amplitude : Nat) (stored : Nat) (s : State), readerRuns s = true ∧ s.dev.nfc.cards = [] ∧ 30 * stored < 100 *
      ((amplitude : Int) - stored).natAbs) :=
  ⟨⟨100, 100, onNfc ({ · with baseline := [(100, 100), (100, 100)] }) base, (by decide +kernel), (by decide +kernel),
     (by decide +kernel)⟩,
   ⟨500, 100, ⟨[]⟩, onNfc ({ · with baseline := [(100, 100), (100, 100)] }) base, (by decide +kernel),
     (by decide +kernel), (by decide +kernel), (by decide +kernel)⟩,
   ⟨500, 100, ⟨[card]⟩, onNfc ({ · with baseline := [(100, 100), (100, 100)] }) base, (by decide +kernel),
     (by decide +kernel), (by decide +kernel), (by decide +kernel)⟩,
   ⟨onNfc ({ · with cards := [⟨1, [1, 2, 3, 9], 5⟩], list := [] }) base, (by decide +kernel), (by decide +kernel),
     (by decide +kernel), (by decide +kernel)⟩,
   ⟨⟨[card]⟩, onNfc
     ({ · with cards := [⟨1, [1, 2, 3, 9], 5⟩], list := [slice (keyOf 1 [1, 2, 3, 4]) 0 12 ++ [1, 0, 0, 0] ++ zeros 8] })
     base, card, 1, [1, 2, 3, 4], slice (keyOf 1 [1, 2, 3, 4]) 0 12 ++ [1, 0, 0, 0] ++ zeros 8, (by decide +kernel),
     (by decide +kernel), (by decide +kernel), (by decide +kernel), (by decide +kernel), (by decide +kernel),
     (by decide +kernel), (by decide +kernel), (by decide +kernel), (by decide +kernel), (by decide +kernel)⟩,
   ⟨⟨[card]⟩, onNfc
     ({ · with cards := [⟨1, [1, 2, 3, 9], 5⟩], list := [slice (keyOf 1 [1, 2, 3, 4]) 0 12 ++ [0, 0, 0, 0] ++ zeros 8] })
     base, card, 1, [1, 2, 3, 4], slice (keyOf 1 [1, 2, 3, 4]) 0 12 ++ [0, 0, 0, 0] ++ zeros 8, (by decide +kernel),
     (by decide +kernel), (by decide +kernel), (by decide +kernel), (by decide +kernel), (by decide +kernel),
     (by decide +kernel), (by decide +kernel), (by decide +kernel), (by decide +kernel), (by decide +kernel),
     (by decide +kernel), (by decide +kernel), (by decide +kernel), (by decide +kernel), (by decide +kernel),
     (by decide +kernel), (by decide +kernel)⟩,
   ⟨2000, base, (by decide +kernel), (by decide +kernel), (by decide +kernel)⟩,
   ⟨1000000, base, (by decide +kernel), (by decide +kernel), (by decide +kernel)⟩,
   ⟨base, 4, 1000000, (by decide +kernel), (by decide +kernel)⟩,
   ⟨131, 100, base, (by decide +kernel), (by decide +kernel), (by decide +kernel)⟩⟩

theorem test_premises_CalicoRows :
    (∃ (f : BitVec 16) (s : State), fileKnown s.dev f.toNat = true) ∧
    (∃ (f : BitVec 16) (s : State), fileKnown s.dev f.toNat = false) ∧
    (∃ (s : State), s.dev.cal.ended = true) ∧
    (∃ (s : State) (c : _), s.dev.cal.ended = false ∧ fileContent s.dev = some c) ∧
    (∃ (s : State), s.dev.cal.ended = false ∧ fileContent s.dev = none) ∧
    (∃ (off : Nat) (data : List Byte) (s : State), s.dev.cal.selected = 0xE1C3 ∧ data.length ≤ 240 ∧ off + data.length
      ≤ 4096) ∧
    (∃ (off : Nat) (data : List Byte) (s : State), (s.dev.cal.selected ≠ 0xE1C3 ∨ 240 < data.length ∨ 4096 < off +
      data.length)) ∧
    (∃ (len : Nat) (crc : Word) (s : State), s.dev.cal.selected = 0xE1C4 ∧ packageOk len crc.toNat s.dev.cal.buffer =
      false) ∧
    (∃ (len : Nat) (crc : Word) (s : State), s.dev.cal.selected = 0xE1C4 ∧ packageOk len crc.toNat s.dev.cal.buffer =
      true) :=
  ⟨⟨0xE103, base, (by decide +kernel)⟩,
   ⟨5, base, (by decide +kernel)⟩,
   ⟨onCal ({ · with ended := true }) base, (by decide +kernel)⟩,
   ⟨onCal ({ · with selected := 0xE103 }) base, (fileContent (onCal ({ · with selected := 0xE103 }) base).dev).getD
     [], (by decide +kernel), (by decide +kernel)⟩,
   ⟨onCal ({ · with selected := 0 }) base, (by decide +kernel), (by decide +kernel)⟩,
   ⟨3856, zeros 240, onCal ({ · with selected := 0xE1C3 }) base, (by decide +kernel), (by decide +kernel),
     (by decide +kernel)⟩,
   ⟨3857, zeros 240, onCal ({ · with selected := 0xE1C3 }) base, (by decide +kernel)⟩,
   ⟨0, 0, onCal ({ · with selected := 0xE1C4 }) base, (by decide +kernel), (by decide +kernel)⟩,
   ⟨64, crc32 packageHead, onCal ({ · with selected := 0xE1C4, buffer := package }) base, (by decide +kernel),
     (package_good)⟩⟩

theorem test_premises_BatteryAndTamperRows :
    (∃ (c : Nat) (s : State), s.clk.running = true ∧ s.dev.pow.st = .mains ∧ (c = 1 ∨ c = 2)) ∧
    (∃ (s : State), s.dev.keys.supplied = false) ∧
    (∃ (s : State), s.clk.running = false ∧ s.dev.keys.supplied = true ∧ (s.dev.pow.st = .dormant ∨ s.dev.pow.st =
      .off)) ∧
    (∃ (k : Nat) (s : State), 1 ≤ k ∧ k ≤ 8 ∧ s.dev.keys.supplied = true ∧ s.dev.keys.active.getLsbD (k - 1) = false) ∧
    (∃ (k : Nat), 1 ≤ k ∧ k ≤ 8) ∧
    (∃ (src : Nat) (k : Nat) (s : State), s.clk.running = true ∧ s.dev.keys.erasePending = some (src, k) ∧ k <
      s.clk.frame) ∧
    (∃ (s : State), s.clk.running = true ∧ s.dev.keys.rootPending = true ∧ (s.clk.mode = .quarantine ∨ (s.clk.mode =
      .factory ∧ s.dev.keys.cert = none))) ∧
    (∃ (s : State), s.clk.running = true ∧ s.dev.keys.nonceFrame + 4800000 ≤ s.clk.frame) :=
  ⟨⟨2, base, (by decide +kernel), (by decide +kernel), (by decide +kernel)⟩,
   ⟨onKeys ({ · with supplied := false }) base, (by decide +kernel)⟩,
   ⟨onClk ({ · with running := false }) (onPow ({ · with st := .dormant }) base), (by decide +kernel),
     (by decide +kernel), (by decide +kernel)⟩,
   ⟨8, base, (by decide +kernel), (by decide +kernel), (by decide +kernel), (by decide +kernel)⟩,
   ⟨8, (by decide +kernel), (by decide +kernel)⟩,
   ⟨3, 99999, onKeys ({ · with erasePending := some (3, 99999) }) ses, (by decide +kernel), (by decide +kernel),
     (by decide +kernel)⟩,
   ⟨mode .quarantine (onKeys ({ · with rootPending := true }) base), (by decide +kernel), (by decide +kernel),
     (by decide +kernel)⟩,
   ⟨frame 4800000 base, (by decide +kernel), (by decide +kernel)⟩⟩

theorem test_premises_UpdateRows :
    (∃ (a : Activation) (s : State), s.clk.running = true ∧ s.dev.upd.activation = some a ∧ a.byRestart = false ∧
      s.dev.lanes.sergeFault = false ∧ s.dev.lanes.dispute = none ∧ a.revert = none ∧ a.handed = false ∧ trialDone
      a.lane s.dev = true) ∧
    (∃ (a : Activation) (s : State) (c : _), s.clk.running = true ∧ s.dev.upd.activation = some a ∧ a.byRestart =
      false ∧ s.dev.lanes.sergeFault = false ∧ s.dev.lanes.dispute = none ∧ a.revert = some c ∧ trialDone (laneOther
      a.lane) s.dev = true) ∧
    (∃ (a : Activation) (s : State), s.dev.upd.activation = some a ∧ commitDue s a = true) ∧
    (∃ (c : RevertCause) (a : Activation) (s : State), s.dev.upd.activation = some a ∧ revertDue s a c = true ∧
      a.byRestart = false ∧ a.handed = false) ∧
    (∃ (c : RevertCause) (a : Activation) (s : State), s.dev.upd.activation = some a ∧ revertDue s a c = true ∧
      a.byRestart = false ∧ a.handed = true) ∧
    (∃ (c : RevertCause) (a : Activation) (s : State), s.dev.upd.activation = some a ∧ revertDue s a c = true ∧
      a.byRestart = true ∧ c ≠ .stopBefore) ∧
    (∃ (c : RevertCause) (a : Activation) (s : State), s.dev.upd.activation = some a ∧ revertDue s a c = true ∧
      a.byRestart = true ∧ c = .stopBefore) ∧
    (∃ (s : State), s.clk.running = false ∧ s.dev.upd.bootBad = true) :=
  ⟨⟨⟨99000, false, 7, 1, .b, false, false, none, 5⟩, onUpd
     ({ · with activation := some ⟨99000, false, 7, 1, .b, false, false, none, 5⟩ }) (onB
     ({ · with st := .trial, clean := 800 }) base), (by decide +kernel), (by decide +kernel), (by decide +kernel),
     (by decide +kernel), (by decide +kernel), (by decide +kernel), (by decide +kernel), (by decide +kernel)⟩,
   ⟨⟨99000, false, 7, 1, .a, true, false, some 1, 5⟩, onUpd
     ({ · with activation := some ⟨99000, false, 7, 1, .a, true, false, some 1, 5⟩ }) (onB
     ({ · with st := .trial, clean := 800 }) base), 1, (by decide +kernel), (by decide +kernel), (by decide +kernel),
     (by decide +kernel), (by decide +kernel), (by decide +kernel), (by decide +kernel)⟩,
   ⟨⟨99000, false, 7, 1, .b, true, false, none, 5⟩, onUpd
     ({ · with activation := some ⟨99000, false, 7, 1, .b, true, false, none, 5⟩ }) (base), (by decide +kernel),
     (by decide +kernel)⟩,
   ⟨.stepFailed, ⟨99000, false, 7, 1, .b, false, true, none, 5⟩, onUpd
     ({ · with activation := some ⟨99000, false, 7, 1, .b, false, true, none, 5⟩ }) (base), (by decide +kernel),
     (by decide +kernel), (by decide +kernel), (by decide +kernel)⟩,
   ⟨.stepFailed, ⟨99000, false, 7, 1, .b, true, true, none, 5⟩, onUpd
     ({ · with activation := some ⟨99000, false, 7, 1, .b, true, true, none, 5⟩ }) (base), (by decide +kernel),
     (by decide +kernel), (by decide +kernel), (by decide +kernel)⟩,
   ⟨.stepFailed, ⟨99000, true, 7, 1, .b, false, true, none, 5⟩, onUpd
     ({ · with activation := some ⟨99000, true, 7, 1, .b, false, true, none, 5⟩ }) (base), (by decide +kernel),
     (by decide +kernel), (by decide +kernel), (by decide +kernel)⟩,
   ⟨.stopBefore, ⟨99000, true, 7, 1, .b, false, false, some 2, 5⟩, onUpd
     ({ · with activation := some ⟨99000, true, 7, 1, .b, false, false, some 2, 5⟩ }) (base), (by decide +kernel),
     (by decide +kernel), (by decide +kernel), (by decide +kernel)⟩,
   ⟨onUpd ({ · with bootBad := true }) State.reset, (by decide +kernel), (by decide +kernel)⟩⟩

end Sys2Proof.Tests
end

section
/-!
SUPPORT. Frames of the shared operations: the parts of `dev` that each may change, said once.
-/

namespace Sys2Proof.Machine

/-- The parts of `dev`, one by one: what a frame says of each. -/
theorem devOnly_iff (ps : List Part) (d e : Dev) : DevOnly ps d e ↔
    (.lanes ∈ ps ∨ e.lanes = d.lanes) ∧ (.pow ∈ ps ∨ e.pow = d.pow) ∧ (.win ∈ ps ∨ e.win = d.win) ∧
    (.acs ∈ ps ∨ e.acs = d.acs) ∧ (.par ∈ ps ∨ e.par = d.par) ∧ (.log ∈ ps ∨ e.log = d.log) ∧
    (.samp ∈ ps ∨ e.samp = d.samp) ∧ (.metr ∈ ps ∨ e.metr = d.metr) ∧ (.led ∈ ps ∨ e.led = d.led) ∧
    (.tar ∈ ps ∨ e.tar = d.tar) ∧ (.disp ∈ ps ∨ e.disp = d.disp) ∧ (.veh ∈ ps ∨ e.veh = d.veh) ∧
    (.ses ∈ ps ∨ e.ses = d.ses) ∧ (.dc ∈ ps ∨ e.dc = d.dc) ∧ (.saf ∈ ps ∨ e.saf = d.saf) ∧
    (.sw ∈ ps ∨ e.sw = d.sw) ∧ (.gplc ∈ ps ∨ e.gplc = d.gplc) ∧ (.dlms ∈ ps ∨ e.dlms = d.dlms) ∧
    (.nfc ∈ ps ∨ e.nfc = d.nfc) ∧ (.cal ∈ ps ∨ e.cal = d.cal) ∧ (.keys ∈ ps ∨ e.keys = d.keys) ∧
    (.upd ∈ ps ∨ e.upd = d.upd) ∧ (.diag ∈ ps ∨ e.diag = d.diag) := by
  have key (p : Part) : (p ∉ ps → SamePart d e p) ↔ (p ∈ ps ∨ SamePart d e p) := Decidable.imp_iff_or_not.trans
    (by rw [Decidable.not_not, or_comm])
  constructor
  · intro h
    have h' (p : Part) := (key p).1 (h p)
    exact ⟨h' .lanes, h' .pow, h' .win, h' .acs, h' .par, h' .log, h' .samp, h' .metr, h' .led, h' .tar, h' .disp, h' .veh,
      h' .ses, h' .dc, h' .saf, h' .sw, h' .gplc, h' .dlms, h' .nfc, h' .cal, h' .keys, h' .upd, h' .diag⟩
  · rintro ⟨h1, h2, h3, h4, h5, h6, h7, h8, h9, h10, h11, h12, h13, h14, h15, h16, h17, h18, h19, h20, h21, h22, h23⟩ p
    rw [key]
    cases p
    case clk | regs => exact .inr trivial
    all_goals assumption

theorem OnlyChanges.dev {ps : List Part} {s : State} {d : Dev} (h : DevOnly ps s.dev d) :
    OnlyChanges ps s { s with dev := d } := ⟨rfl, fun _ => rfl, fun _ => rfl, h⟩

/-- A row that takes its effect where a condition of `dev` holds, in a state where it holds. -/
theorem Completes.of_when {c : Instr} {s : State} {b : Dev → Bool} {f : Dev → Dev} {P : State → Prop}
    (h : exec c s = devStep s fun d => d.when (b d) f) (hb : b s.dev = true) (k : P (s.onDev f)) : Completes c s P :=
  ⟨_, h.trans (by rw [devStep, State.onDev, hb, Dev.when_true, State.onDev]), k⟩

theorem logEvent_only (n : Nat) (d : Dev) (e : Ev) : DevOnly [.log, .win] d (logEvent n d e) := by
  unfold logEvent
  dsimp only
  split <;> simp [devOnly_iff]

theorem logFrame_only (n : Nat) (d : Dev) : DevOnly [.log, .win] d (logFrame n d) := by
  have h₁ : DevOnly [.log, .win] d { d with log := { d.log with now := [] } } := by simp [devOnly_iff]
  have h₂ := h₁.trans (DevOnly.foldl (logEvent_only n) (orderEvents d.log.now) _)
  have h₃ (e : Dev) : DevOnly [.log, .win] e { e with log := { e.log with metrNow := [] } } := by simp [devOnly_iff]
  have h := h₂.trans (h₃ _)
  exact DevOnly.ite (fun _ => h.trans (logEvent_only n _ _)) fun _ => h

end Sys2Proof.Machine
end

section
/-!
PROOF. What every command does to the queue, the registers and the clock (family 01): a command other than FRAME_TICK and
START_UP is steady, and the concluded frame, the started frame and the recovered frame keep the registers sound.
-/

namespace Sys2Proof.Machine

/-- A command answers a steady next state. -/
def Settles (s : State) (o : Out) : Prop := ∃ t, o = .next t ∧ Steady s t

theorem Settles.next {s t : State} (h : Steady s t) : Settles s (.next t) := ⟨t, rfl, h⟩

theorem devStep_settles (s : State) (f : Dev → Dev) : Settles s (devStep s f) := .next (Steady.onDev s f)

theorem protoStep_settles (s : State) (f : Dev → Dev) : Settles s (protoStep s f) := devStep_settles s _

theorem acsRow_settles (code : Nat) (own : Owner) (tag : Nat) (args : List Byte) (h : Handler) (s : State) :
    Settles s (acsRow code own tag args h s) := .next (Steady.ite (acsRun_steady _ _ _ _ _ _) (Steady.refl s))

theorem writeOne_settles (id v : Nat) (own : Owner) (s : State) : Settles s (writeOne id v own s) := by
  unfold writeOne
  dsimp only
  split <;> exact acsRow_settles _ _ _ _ _ _

theorem execOutputRequestMissing_settles (s : State) : Settles s (execOutputRequestMissing s) := by
  refine .next ?_
  cases s.dev.lanes.token with
  | none => exact Steady.refl s
  | some l => exact Steady.whenS (faultLane_steady _ _ _ _ _ _)

theorem execDisputeVerdict_settles (r : Recompute) (s : State) : Settles s (execDisputeVerdict r s) := by
  refine .next ?_
  split
  · exact Steady.refl s
  · refine Steady.ite (Steady.refl s) ?_
    split
    · exact Steady.ite ((Steady.onDev s _).trans (Steady.onDev _ _)) (dualFault_steady s)
    · exact applyVerdict_steady _ _ s

theorem execCrystalMeasurement_settles (xa xb : Int) (s : State) : Settles s (execCrystalMeasurement xa xb s) := by
  refine .next (Steady.whenS ?_)
  cases crystalVerdict xa xb with
  | none => exact Steady.onDev s _
  | some x => exact (Steady.onDev s _).trans (crystalFail_steady x 6 true _)

theorem execTestInjected_settles (margin : Nat) (s : State) : Settles s (execTestInjected margin s) := by
  refine .next ?_
  cases s.dev.diag.pert with
  | none => exact Steady.refl s
  | some p => exact Steady.whenS (injectEff_steady p margin s)

theorem execDlmsApdu_settles (x : Apdu) (s : State) : Settles s (execDlmsApdu x s) := by
  refine .next ?_
  cases assocOf x.assoc s.dev with
  | none => exact Steady.refl s
  | some a => exact Steady.ite ((mailboxScan_steady s).trans (apduEff_steady a x _)) (Steady.refl s)

/-- Every command but FRAME_TICK and START_UP is steady: most are a change of `dev`, the rows of the command set answer a
request, and the others act on lanes, supply and frames by the operations whose steadiness is known. -/
theorem exec_settles (c : Instr) (s : State) (hf : ∀ f, c ≠ .frameTick f) (hu : ∀ u, c ≠ .startUp u) :
    Settles s (exec c s) := by
  cases c
  case frameTick f => exact absurd rfl (hf f)
  case startUp u => exact absurd rfl (hu u)
  case outputRequestMissing => exact execOutputRequestMissing_settles s
  case disputeVerdict r => exact execDisputeVerdict_settles r s
  case crystalMeasurement xa xb => exact execCrystalMeasurement_settles xa xb s
  case testInjected m => exact execTestInjected_settles m s
  case dlmsApdu x => exact execDlmsApdu_settles x s
  case crystalFailed x slot => exact .next (crystalFail_steady x slot _ s)
  case slotDeadlineFault => exact .next (Steady.whenS (faultLane_steady _ _ _ _ _ _))
  case watchdogFault l early m =>
    exact .next (Steady.whenS ((markShadow_steady l m s).trans (faultLane_steady _ _ _ _ _ _)))
  case laneSelfFault => exact .next (Steady.whenS ((Steady.onDev s _).trans (faultLane_steady _ _ _ _ _ _)))
  case claimRejected => exact .next (Steady.whenS ((Steady.onDev s _).trans (faultLane_steady _ _ _ _ _ _)))
  case supplyCollapse held => exact .next (Steady.whenS (supplyCollapse_steady held s))
  case resetRequest => exact .next (Steady.ite (resetEff_steady s) (Steady.onDev s _))
  case calAccCtrl | senseSel | gplcStateReset | testSlotStretch | testMboxDelay | testPortBusy | testPortThrottle |
      testGplcHold | testCommitDelay | testMismatch | testWdtWindow => exact writeOne_settles _ _ _ s
  case identify | modeRequest | safestopClear | serviceLogin | serviceLogout | stopRequest | paramRead | paramWrite |
      paramCommit | paramDiscard | paramDescribe | paramReadBlock | paramWriteBlock | paramPending | paramEnum |
      snapshotTake | snapshotRelease | cmdOutcome | eventFetch | bulkChunk | jobList | jobStatus | jobCancel | clockSet |
      sync | metrSealOpen | metrSealClose | recordRead | signatureRead | registersRead | metrLogRead | calendarActivate |
      billingClose | displayStep | remoteStart | remoteStop | safetyCheckRead | safetyConfirm | safetyProofTest |
      switchSet | latchClear | lockDrive | calicoStagingStatus | authLoad | authSwap | authLookup | keyDerive | attest |
      enrol | tamperAck | imageStage | imageVerify | imageActivate | testAuth | scrubStart =>
    exact acsRow_settles _ _ _ _ _ s
  all_goals exact devStep_settles s _

/-! A frame concluded and a frame started. -/

/-- The queue is the same, sound registers stay sound, and the clock is the same. -/
structure KeepsSound (s t : State) : Prop where
  pending : t.pending = s.pending
  sound : s.regs.Sound → t.regs.Sound
  frame : t.clk.frame = s.clk.frame
  mode : t.clk.mode = s.clk.mode

theorem Steady.keepsSound {s t : State} (h : Steady s t) : KeepsSound s t :=
  ⟨h.pending, fun k => h.regs ▸ k, h.frame, h.mode⟩

theorem KeepsSound.trans {s t u : State} (h : KeepsSound s t) (k : KeepsSound t u) : KeepsSound s u :=
  ⟨k.pending.trans h.pending, k.sound ∘ h.sound, k.frame.trans h.frame, k.mode.trans h.mode⟩

theorem commitFrame_keepsSound (cs : List (Nat × Nat)) (s : State) : KeepsSound s (commitFrame cs s) :=
  ⟨commitFrame_pending cs s, commitFrame_sound cs, by rw [commitFrame_clk], by rw [commitFrame_clk]⟩

theorem metrFrame_keepsSound (s : State) : KeepsSound s (metrFrame s) :=
  ⟨metrFrame_pending s, metrFrame_sound, by rw [metrFrame_clk], by rw [metrFrame_clk]⟩

theorem conclude_keepsSound (s : State) : KeepsSound s (conclude s) := by
  have h₁ : Steady s (protocolSlot (s.onDev (closePending s.clk.frame))) :=
    (Steady.onDev s _).trans (protocolSlot_steady _)
  have h₂ (t : State) : Steady t (calicoAtCheckpoint (t.onDev (dueAtEnd s.clk.frame t.regs))) :=
    (Steady.onDev t _).trans (calicoAtCheckpoint_steady _)
  have h₃ : Steady s _ := (h₁.trans (h₂ _)).trans (Steady.onDev _ fun d => alarmPush s.clk.frame (logFrame s.clk.frame d))
  exact (h₃.keepsSound.trans (commitFrame_keepsSound _ _)).trans (Steady.onDev _ _).keepsSound

theorem stopAfter_keepsSound (kind : Nat) (s : State) : KeepsSound s (stopAfter kind s) :=
  ((Steady.onDev s _).keepsSound.trans (conclude_keepsSound _)).trans (stopFrames_steady kind _).keepsSound

theorem frameFirst_keepsSound (f : FrameIn) (before s : State) : KeepsSound s (frameFirst f before s) :=
  ((Steady.onDev s _).keepsSound.trans (metrFrame_keepsSound _)).trans (Steady.dev _ _).keepsSound

theorem applyMode_regs (s : State) : (applyMode s).regs = s.regs := by
  unfold applyMode
  split
  · rfl
  · split <;> rfl

theorem applyMode_pending (s : State) : (applyMode s).pending = s.pending := by
  unfold applyMode
  split
  · rfl
  · split <;> rfl

theorem applyMode_frame (s : State) : (applyMode s).clk.frame = s.clk.frame := by
  unfold applyMode
  split
  · rfl
  · split <;> rfl

/-- A frame that starts: the machine at its beginning, with the tariff that the frame before left (R216). -/
def frameBegun (f : FrameIn) (s : State) : State :=
  { s with
    clk := { s.clk with frame := s.clk.frame + 1 }
    regs := { s.regs with tariff := tariffHeld s.dev.tar.nextTariff }
    dev := tickInputs (s.clk.frame + 1) f { s.regs with tariff := tariffHeld s.dev.tar.nextTariff } s.dev }

theorem startFrame_eq (f : FrameIn) (s : State) : ∃ g : State → Dev → Dev,
    startFrame f s = frameSecond f (frameFirst f s
      ((modeEntered s.clk.mode (applyMode (frameBegun f s))).onDev (g (applyMode (frameBegun f s))))) :=
  ⟨fun t d => periodicDue (s.clk.frame + 1) (digestStep (s.clk.frame + 1) (heartStep (modeEntered s.clk.mode t).clk
    (aliveStep (s.clk.frame + 1) (grantAtTick (s.clk.frame + 1) (holdupStep (modeEntered s.clk.mode t).clk d))))), rfl⟩

theorem startFrame_counts (f : FrameIn) (s : State) : (startFrame f s).pending = s.pending ∧
    (startFrame f s).clk.frame = s.clk.frame + 1 ∧ (s.regs.Sound → (startFrame f s).regs.Sound) := by
  obtain ⟨g, hg⟩ := startFrame_eq f s
  have h := ((Steady.onDev _ _).trans (Steady.onDev (modeEntered s.clk.mode (applyMode (frameBegun f s)))
    (g (applyMode (frameBegun f s))))).keepsSound.trans
      ((frameFirst_keepsSound f s _).trans (frameSecond_steady f _).keepsSound)
  rw [hg]
  refine ⟨h.pending.trans (applyMode_pending _), h.frame.trans (applyMode_frame _), fun hs => h.sound ?_⟩
  rw [applyMode_regs]
  exact Regs.tariff_sound hs _

theorem frameTickEff_ends (f : FrameIn) {s : State} (h : finalEnds s = true) :
    frameTickEff f s = (stopAfter 0 s).onDev (dormantOrOff f.cellHeld) := if_pos h

theorem frameTickEff_restarts (f : FrameIn) {s : State} (h : finalEnds s = false) (hr : s.dev.upd.restartDue = true) :
    frameTickEff f s = (stopAfter 2 s).onDev fun d => { d with upd := { d.upd with restartDue := false } } :=
  (if_neg (by simp [h])).trans (if_pos hr)

theorem frameTickEff_starts (f : FrameIn) {s : State} (h : finalEnds s = false) (hr : s.dev.upd.restartDue = false) :
    frameTickEff f s = startFrame f (conclude s) := (if_neg (by simp [h])).trans (if_neg (by simp [hr]))

theorem frameTickEff_keeps (f : FrameIn) (s : State) :
    (frameTickEff f s).pending = s.pending ∧ (s.regs.Sound → (frameTickEff f s).regs.Sound) := by
  cases h : finalEnds s with
  | true =>
    rw [frameTickEff_ends f h]
    have k := (stopAfter_keepsSound 0 s).trans (Steady.onDev _ (dormantOrOff f.cellHeld)).keepsSound
    exact ⟨k.pending, k.sound⟩
  | false =>
    cases hr : s.dev.upd.restartDue with
    | true =>
      rw [frameTickEff_restarts f h hr]
      have k := (stopAfter_keepsSound 2 s).trans (Steady.onDev _ fun d => { d with upd := { d.upd with restartDue := false } }).keepsSound
      exact ⟨k.pending, k.sound⟩
    | false =>
      rw [frameTickEff_starts f h hr]
      have k := conclude_keepsSound s
      obtain ⟨hp, -, hs⟩ := startFrame_counts f (conclude s)
      exact ⟨hp.trans k.pending, hs ∘ k.sound⟩

/-! START_UP: the registers are those that the frame before left, or those of the choice that recovery makes. -/

theorem beforeStart_keepsSound (u : StartIn) (s : State) : KeepsSound s (beforeStart u s) :=
  (commitFrame_keepsSound _ s).trans (Steady.onDev _ _).keepsSound

theorem startUpEff_pending (u : StartIn) (s : State) : (startUpEff u s).pending = s.pending := by
  unfold startUpEff
  dsimp only
  split
  · exact (beforeStart_keepsSound u s).pending
  · split
    · exact (frameM_pending _ _ _ _).trans (beforeStart_keepsSound u s).pending
    · exact (beforeStart_keepsSound u s).pending

theorem startUpEff_sound (u : StartIn) {s : State} (h : s.regs.Sound) : (startUpEff u s).regs.Sound := by
  have hb := (beforeStart_keepsSound u s).sound h
  unfold startUpEff
  dsimp only
  split
  · exact hb
  · split
    · rename_i c hc
      split at hc
      · exact frameM_sound (recoverChoice_sound hc)
      · exact absurd hc (by simp)
    · exact hb

/-- Every command answers a next state with the same queue, in which sound registers are sound. -/
theorem exec_next (c : Instr) (s : State) :
    ∃ t, exec c s = .next t ∧ t.pending = s.pending ∧ (s.regs.Sound → t.regs.Sound) := by
  by_cases hf : ∃ f, c = .frameTick f
  · obtain ⟨f, rfl⟩ := hf
    refine ⟨_, rfl, ?_⟩
    cases s.clk.running
    · exact ⟨rfl, id⟩
    · exact frameTickEff_keeps f s
  by_cases hu : ∃ u, c = .startUp u
  · obtain ⟨u, rfl⟩ := hu
    refine ⟨_, rfl, ?_⟩
    cases !s.clk.running && !s.dev.pow.inReset
    · exact ⟨rfl, id⟩
    · exact ⟨startUpEff_pending u s, startUpEff_sound u⟩
  obtain ⟨t, ht, hs⟩ := exec_settles c s (fun f h => hf ⟨f, h⟩) (fun u h => hu ⟨u, h⟩)
  exact ⟨t, ht, hs.pending, hs.keepsSound.sound⟩

/-! What a stop of frames leaves. -/

@[simp] theorem stopFrames_running (k : Nat) (s : State) : (stopFrames k s).clk.running = false := rfl

@[simp] theorem stageShed_lanes (d : Dev) : (stageShed d).lanes = d.lanes := rfl

@[simp] theorem logFrame_lanes (n : Nat) (d : Dev) : (logFrame n d).lanes = d.lanes := logFrame_only n d .lanes (by decide)

@[simp] theorem stopFrames_token (k : Nat) (s : State) : (stopFrames k s).dev.lanes.token = none := by
  simp [stopFrames]

/-- A stop after the frame that ran: frames stop, no lane holds the token, frame, mode and queue stay. -/
theorem stopAfter_stops (kind : Nat) (s : State) :
    (stopAfter kind s).clk.running = false ∧ (stopAfter kind s).clk.frame = s.clk.frame ∧
      (stopAfter kind s).clk.mode = s.clk.mode ∧ (stopAfter kind s).dev.lanes.token = none ∧
      (stopAfter kind s).pending = s.pending := by
  have k := stopAfter_keepsSound kind s
  refine ⟨?_, k.frame, k.mode, ?_, k.pending⟩ <;> unfold stopAfter
  · exact stopFrames_running kind _
  · exact stopFrames_token kind _

theorem exec_frameTick_running (f : FrameIn) {s : State} (h : s.clk.running = true) :
    exec (.frameTick f) s = .next (frameTickEff f s) := by
  show Host.Outcome.next (whenS s.clk.running (frameTickEff f) s) = _
  rw [h, whenS_true]

end Sys2Proof.Machine

open Sys2Proof Sys2Proof.Machine

/-- Settles O1, by the definition of the step. -/
theorem stepTakesFront : Obligations.StepTakesFront := by
  refine ⟨fun c rest s h => ?_, fun s h => ?_⟩
  · simp only [step, h]
  · simp only [step, h]

/-- Settles O2, from the meaning of each row of the table. -/
theorem everyCommandAnswers : Obligations.EveryCommandAnswers := by
  intro c s
  obtain ⟨t, ht, hp, -⟩ := exec_next c s
  exact ⟨t, ht, hp⟩

/-- Settles O3: a command keeps the registers sound whatever the rest of the queue is. -/
theorem registersStaySound : Obligations.RegistersStaySound := by
  intro s t hs h
  unfold step at h
  split at h
  · obtain rfl : s = t := by simpa using h
    exact hs
  · rename_i c rest _
    obtain ⟨u, hu, -, hk⟩ := exec_next c { s with pending := rest }
    obtain rfl : u = t := by simpa [hu] using h
    exact hk hs

/-- Settles O5, by the three cases of FRAME_TICK: the final sequence ends, a restart is due, or the next frame starts. -/
theorem tickCountsOneFrame : Obligations.TickCountsOneFrame := by
  intro f s hrun
  refine ⟨fun h hr => ⟨_, exec_frameTick_running f hrun, ?_⟩, fun h => ⟨_, exec_frameTick_running f hrun, ?_⟩,
    fun h hr => ⟨_, exec_frameTick_running f hrun, ?_⟩⟩
  · rw [frameTickEff_starts f h hr]
    obtain ⟨hp, hn, -⟩ := startFrame_counts f (conclude s)
    have k := conclude_keepsSound s
    exact ⟨by rw [hn, k.frame], hp.trans k.pending⟩
  · rw [frameTickEff_ends f h]
    have k := stopAfter_stops 0 s
    generalize stopAfter 0 s = t at k
    obtain ⟨hk, hn, hm, ht, hp⟩ := k
    exact ⟨hk, hn, hm, ht, rfl, hp⟩
  · rw [frameTickEff_restarts f h hr]
    have k := stopAfter_stops 2 s
    generalize stopAfter 2 s = t at k
    obtain ⟨hk, hn, hm, ht, hp⟩ := k
    exact ⟨hk, hn, hm, ht, rfl, hp⟩

/-- Settles O6: the values that the declarations of the state give. -/
theorem resetValues : Obligations.ResetValues := by
  have hfam (f : Fam) (h : f ∈ State.reset.regs.fams) : f = {} := List.eq_of_mem_replicate h
  refine ⟨⟨rfl, fun f h => ?_, by decide, by decide⟩, rfl, rfl, rfl, rfl, rfl, rfl, rfl, rfl, fun f h => ?_, rfl, rfl, rfl⟩
  · rw [hfam f h]
    exact ⟨rfl, rfl⟩
  · rw [hfam f h]
    exact ⟨rfl, rfl⟩

end

section
/-!
SUPPORT. The fault of a lane (R21, R22, R26, R32, R37): what each stage leaves of SERGE's and the lanes' state, and what the
three outcomes of a fault leave of the machine.
-/

namespace Sys2Proof.Machine

@[simp] theorem laneOther_laneOther (l : Lane) : laneOther (laneOther l) = l := by cases l <;> rfl

@[simp] theorem laneOther_ne (l : Lane) : laneOther l ≠ l := by cases l <;> decide

@[simp] theorem ne_laneOther (l : Lane) : l ≠ laneOther l := by cases l <;> decide

@[simp] theorem Lanes.get_map_same (x : Lanes) (l : Lane) (f : LaneRec → LaneRec) : (x.map l f).get l = f (x.get l) := by
  cases l <;> rfl

@[simp] theorem Lanes.get_map_other (x : Lanes) (l : Lane) (f : LaneRec → LaneRec) :
    (x.map l f).get (laneOther l) = x.get (laneOther l) := by cases l <;> rfl

theorem Lanes.map_map (x : Lanes) (l : Lane) (f g : LaneRec → LaneRec) : (x.map l f).map l g = x.map l (g ∘ f) := by
  cases l <;> rfl

/-- SERGE's queue after it queues an event (R38). -/
def sergeQueued (stamp code : Nat) (data : List Byte) (q : List SergeEv) : List SergeEv :=
  if q.length < 16 then q ++ [⟨stamp, code, data, 0⟩]
  else q.dropLast ++ [⟨stamp, code, data, ((q.getLast?.map SergeEv.overflow).getD 0) + 1⟩]

@[simp] theorem Dev.sergeRaise_lanes (stamp code : Nat) (data : List Byte) (d : Dev) :
    (d.sergeRaise stamp code data).lanes = { d.lanes with queue := sergeQueued stamp code data d.lanes.queue } := rfl

theorem sergeQueued_codes (stamp code : Nat) (data : List Byte) {q : List SergeEv} (h : q.length < 16) :
    (sergeQueued stamp code data q).map SergeEv.code = q.map SergeEv.code ++ [code] := by
  rw [sergeQueued, if_pos h, List.map_append, List.map_singleton]

theorem sergeQueued_length (stamp code : Nat) (data : List Byte) {q : List SergeEv} (h : q.length < 16) :
    (sergeQueued stamp code data q).length = q.length + 1 := by
  rw [sergeQueued, if_pos h, List.length_append, List.length_singleton]

/-- SERGE's side of the lanes' state at the fault of lane l, its dispute aside. -/
def Lanes.faulted (x : Lanes) (l : Lane) (cause slot verdict n : Nat) : Lanes :=
  { x with
    faultLast := faultWord l cause slot verdict false
    overruns := x.overruns + (if isOverrun cause then 1 else 0)
    token := if x.token = some l then none else x.token
    windowGate := if x.windowGate = some l then none else x.windowGate
    grant := if x.windowGate = some l then some (laneOther l) else x.grant
    queue := sergeQueued n Event.LANE_FAULT (leBytes 4 (faultWord l cause slot verdict false).toNat) x.queue }

theorem faultSerge_lanes (l : Lane) (cause slot verdict n : Nat) (d : Dev) :
    (faultSerge l (faultWord l cause slot verdict false) cause n d).lanes = d.lanes.faulted l cause slot verdict n := by
  simp only [faultSerge, Dev.sergeRaise_lanes, Lanes.faulted, decide_eq_true_eq]

@[simp] theorem faultAside_lanes (l : Lane) (d : Dev) : (faultAside l d).lanes = d.lanes := rfl

@[simp] theorem faultShadow_lanes (v : Bool) (d : Dev) : (faultShadow v d).lanes = d.lanes := by cases v <;> rfl

/-- An open dispute at the fault of lane l: it may go, mark the lane's records void, or be left to the other lane. -/
theorem disputeAtFault_lanes (n : Nat) (l : Lane) (cause : Nat) (d : Dev) :
    ∃ (dp : Option Dispute) (v : LaneRec → Option Nat), (disputeAtFault n l cause d).lanes =
      ({ d.lanes with dispute := dp } : Lanes).map l (fun r => { r with voidFrom := v r }) ∧
      (d.lanes.dispute = none → dp = none ∧ ∀ r, v r = r.voidFrom) := by
  cases h : d.lanes.dispute with
  | none =>
    have hd : disputeAtFault n l cause d = d := by simp only [disputeAtFault, h]
    exact ⟨d.lanes.dispute, LaneRec.voidFrom, by rw [hd]; cases l <;> rfl, fun _ => ⟨h, fun _ => rfl⟩⟩
  | some x =>
    simp only [disputeAtFault, h]
    split
    · exact ⟨none, fun _ => some x.frame, rfl, fun k => absurd k (by simp)⟩
    · exact ⟨some { x with lone := some (laneOther l) }, LaneRec.voidFrom, by cases l <;> rfl, fun k => absurd k (by simp)⟩

/-- What the fault of lane l leaves of the lanes' state x, before the token passes (R21, R32, R37). -/
structure LaneFaulted (l : Lane) (cause slot verdict n : Nat) (x y : Lanes) : Prop where
  faultLast : y.faultLast = faultWord l cause slot verdict false
  token : y.token = if x.token = some l then none else x.token
  windowGate : y.windowGate = if x.windowGate = some l then none else x.windowGate
  grant : y.grant = if x.windowGate = some l then some (laneOther l) else x.grant
  queue : y.queue = sergeQueued n Event.LANE_FAULT (leBytes 4 (faultWord l cause slot verdict false).toNat) x.queue
  other : y.get (laneOther l) = x.get (laneOther l)
  st : (y.get l).st = .reset
  repair : (y.get l).repair = some .selfTest
  pll : (y.get l).pll = (x.get l).pll
  same : y.outputs = x.outputs ∧ y.request = x.request ∧ y.takeovers = x.takeovers ∧ y.tickSource = x.tickSource ∧
    y.xaFailed = x.xaFailed ∧ y.xbFailed = x.xbFailed
  settled : x.dispute = none → y.dispute = none ∧ (y.get l).voidFrom = (x.get l).voidFrom

theorem faultedDev_lanes (l : Lane) (cause slot verdict : Nat) (atOnce : Bool) (n : Nat) (d : Dev) :
    LaneFaulted l cause slot verdict n d.lanes (faultedDev l cause slot verdict atOnce n d).lanes := by
  simp only [faultedDev, faultShadow_lanes]
  generalize hc : (!_ : Bool) = c
  generalize hw : (_ && decide (3 ≤ slot)) = w
  obtain ⟨dp, v, h, hd⟩ := disputeAtFault_lanes n l cause
    ((faultAside l (faultSerge l (faultWord l cause slot verdict false) cause n d)).onLane l (beginRepair n c w))
  rw [h]
  simp only [Dev.onLane, faultAside_lanes, faultSerge_lanes] at hd ⊢
  generalize d.lanes = x at hd ⊢
  cases l <;> exact ⟨rfl, rfl, rfl, rfl, rfl, rfl, rfl, rfl, rfl, ⟨rfl, rfl, rfl, rfl, rfl, rfl⟩,
    fun k => ⟨(hd k).1, (hd k).2 _⟩⟩

theorem disputeAtFault_only (n : Nat) (l : Lane) (cause : Nat) (d : Dev) : DevOnly [.lanes] d (disputeAtFault n l cause d) := by
  unfold disputeAtFault
  cases d.lanes.dispute with
  | none => exact DevOnly.refl _ d
  | some x => dsimp only; split <;> simp [devOnly_iff]

theorem faultedDev_only (l : Lane) (cause slot verdict : Nat) (atOnce : Bool) (n : Nat) (d : Dev) :
    DevOnly [.lanes, .win, .upd, .diag] d (faultedDev l cause slot verdict atOnce n d) := by
  have h₁ (e : Dev) : DevOnly [.lanes, .win, .upd, .diag] d
      (faultAside l (faultSerge l (faultWord l cause slot verdict false) cause n d)) := by
    simp [devOnly_iff, faultAside, faultSerge]
  have h₂ (e : Dev) (f) : DevOnly [.lanes, .win, .upd, .diag] e (e.onLane l f) := by simp [devOnly_iff]
  have h₃ (e : Dev) : DevOnly [.lanes, .win, .upd, .diag] e (disputeAtFault n l cause e) :=
    (disputeAtFault_only n l cause e).mono (by decide)
  have h₄ (v : Bool) (e : Dev) : DevOnly [.lanes, .win, .upd, .diag] e (faultShadow v e) := by
    cases v <;> simp [devOnly_iff, faultShadow]
  exact (((h₁ d).trans (h₂ _ _)).trans (h₃ _)).trans (h₄ _ _)

/-! Outputs and causes. -/

@[simp] theorem applyOutputs_lanes (n : Nat) (o : BitVec 3) (d : Dev) :
    (applyOutputs n o d).lanes = { d.lanes with outputs := o } := rfl

theorem applyOutputs_only (n : Nat) (o : BitVec 3) (d : Dev) : DevOnly [.lanes, .saf, .veh] d (applyOutputs n o d) := by
  simp [devOnly_iff, applyOutputs]

@[simp] theorem safeOutputs_lanes (n : Nat) (d : Dev) :
    (safeOutputs n d).lanes = { d.lanes with request := outSafe, outputs := outSafe } := rfl

@[simp] theorem safeOutputs_applied (n : Nat) (d : Dev) : (safeOutputs n d).veh.applied = .forceF := rfl

theorem safeOutputs_only (n : Nat) (d : Dev) : DevOnly [.lanes, .saf, .veh] d (safeOutputs n d) := by
  simp [devOnly_iff, safeOutputs, applyOutputs]

@[simp] theorem Dev.safeStop_causes (m : Mode) (k ev : Nat) (d : Dev) :
    (d.safeStop m k ev).pow.causes = d.pow.causes ||| (1#32 <<< k) := by
  unfold Dev.safeStop
  cases m
  case session | degraded => dsimp only; split <;> rfl
  all_goals rfl

theorem cause_or_self (c : BitVec 32) {k : Nat} (h : k < 32) : (c ||| (1#32 <<< k)).getLsbD k = true := by
  simp [h]

/-! The three outcomes of a fault. -/

/-- With no lane left the machine is as R22 and R42 have it. -/
theorem dualFault_out (s : State) : BothLanesOut s (dualFault s) := by
  have h := logFrame_only s.clk.frame
  refine ⟨?_, ?_, ?_, ?_, rfl, ?_, rfl, rfl, rfl⟩
  · exact (congrArg Lanes.outputs (h _ .lanes (by decide))).trans (by simp)
  · exact (congrArg Veh.applied (h _ .veh (by decide))).trans (by simp)
  · exact (congrArg Lanes.token (h _ .lanes (by decide))).trans (by simp)
  · exact (congrArg Lanes.grant (h _ .lanes (by decide))).trans (by simp)
  · have hp : (dualFault s).dev.pow.causes = _ := (congrArg Power.causes (h _ .pow (by decide))).trans
      (Dev.safeStop_causes s.clk.mode Cause.dualLane Event.DUAL_LANE_FAULT _)
    rw [hp]
    exact cause_or_self _ (by decide)

theorem BothLanesOut.of_steady {s s' t : State} (h : Steady s s') (k : BothLanesOut s' t) : BothLanesOut s t := by
  obtain ⟨ho, hv, ht, hg, hr, hc, hm, hf, hs⟩ := k
  exact ⟨ho, hv, ht, hg, hr, hc, hm.trans h.mode, hf.trans h.frame, hs.trans h.regs⟩

theorem faultLane_out {l : Lane} {s : State} (h : faultIsDual s.clk.frame l s.dev = true) (cause slot verdict : Nat)
    (atOnce : Bool) : BothLanesOut s (faultLane l cause slot verdict atOnce s) := by
  unfold faultLane
  dsimp only
  rw [if_pos h]
  exact (dualFault_out _).of_steady (Steady.dev s _)

/-- A fault that leaves a lane: the token passes where the faulted lane held it, and the lane is lost where R33 says. -/
theorem faultLane_one {l : Lane} {s : State} (h : faultIsDual s.clk.frame l s.dev = false) (cause slot verdict : Nat)
    (atOnce : Bool) {e : Dev}
    (he : (if decide (s.dev.lanes.token = some l) && !s.dev.lanes.sergeFault then
        passToken l atOnce s.clk.frame (faultedDev l cause slot verdict atOnce s.clk.frame s.dev)
      else faultedDev l cause slot verdict atOnce s.clk.frame s.dev) = e) :
    faultLane l cause slot verdict atOnce s =
      { s with dev := if faultLoses s.clk.frame l s.dev then laneLost s l e else e } := by
  subst he
  unfold faultLane
  dsimp only
  rw [if_neg (by simp [h])]

theorem FaultableFollow.single {l : Lane} {s : State} (h : FaultableFollow l s) :
    faultIsDual s.clk.frame l s.dev = false ∧ faultLoses s.clk.frame l s.dev = false ∧
      s.dev.lanes.token ≠ some l ∧ laneWorks l s = true := by
  obtain ⟨hr, hst, ht, -, -, hf, hl⟩ := h
  have ht' : s.dev.lanes.token ≠ some l := by simp [ht]
  refine ⟨by simp [faultIsDual, hf, ht'], ?_, ht', by simp [laneWorks, hr, hst]⟩
  have := Nat.not_le.2 hl
  simp [faultLoses, hst, repairsSpent, this]

theorem FaultableLead.single {l : Lane} {s : State} (h : FaultableLead l s) :
    faultIsDual s.clk.frame l s.dev = false ∧ faultLoses s.clk.frame l s.dev = false ∧ laneWorks l s = true := by
  obtain ⟨hr, hst, -, ho, -, -, -, hf, hl⟩ := h
  refine ⟨by simp [faultIsDual, hf, canLead, ho], ?_, by simp [laneWorks, hr, hst]⟩
  have := Nat.not_le.2 hl
  simp [faultLoses, hst, repairsSpent, this]

/-- The fault of a lane that does not act leaves the window's shadow. -/
theorem faultedDev_only_idle {l : Lane} {d : Dev} (h : d.lanes.acting ≠ some l) (cause slot verdict : Nat) (atOnce : Bool)
    (n : Nat) : DevOnly [.lanes, .upd, .diag] d (faultedDev l cause slot verdict atOnce n d) := by
  have hw : (faultedDev l cause slot verdict atOnce n d).win = d.win := by
    have k (e : Dev) : (disputeAtFault n l cause e).win = e.win := disputeAtFault_only n l cause e .win (by decide)
    simp only [faultedDev, h, decide_false, Bool.false_and, faultShadow]
    exact k _
  intro p hp
  by_cases hq : p = .win
  · subst hq; exact hw
  · exact faultedDev_only l cause slot verdict atOnce n d p (by cases p <;> simp_all)

/-- A follow is faulted (R32): what it leaves. -/
theorem faultLane_follow {l : Lane} {s : State} (h : FaultableFollow l s) (cause slot verdict : Nat) (atOnce : Bool) :
    FollowFaulted l cause slot verdict s (faultLane l cause slot verdict atOnce s) := by
  obtain ⟨hd, hl, ht, -⟩ := h.single
  obtain ⟨-, -, hto, hg, -, -, -⟩ := h
  rw [faultLane_one hd cause slot verdict atOnce (e := faultedDev l cause slot verdict atOnce s.clk.frame s.dev)
    (by simp [ht]), if_neg (by simp [hl])]
  have k := faultedDev_lanes l cause slot verdict atOnce s.clk.frame s.dev
  have ha : s.dev.lanes.acting ≠ some l := by simp [Lanes.acting, hto]
  obtain ⟨hout, hreq, -⟩ := k.same
  exact ⟨k.faultLast, k.st, k.repair, k.other, by rw [k.token, if_neg ht], by rw [k.grant, if_neg (by simp [hg])],
    hout, hreq, rfl, fun _ => rfl, fun _ => rfl, faultedDev_only_idle ha _ _ _ _ _⟩

theorem faultLane_follow_lanes {l : Lane} {s : State} (h : FaultableFollow l s) (cause slot verdict : Nat) (atOnce : Bool) :
    LaneFaulted l cause slot verdict s.clk.frame s.dev.lanes (faultLane l cause slot verdict atOnce s).dev.lanes := by
  obtain ⟨hd, hl, ht, -⟩ := h.single
  rw [faultLane_one hd cause slot verdict atOnce (e := faultedDev l cause slot verdict atOnce s.clk.frame s.dev)
    (by simp [ht]), if_neg (by simp [hl])]
  exact faultedDev_lanes l cause slot verdict atOnce s.clk.frame s.dev

/-! The token of a faulted lead passes. -/

theorem grantToken_lanes (n : Nat) (l : Lane) (d : Dev) : (grantToken n l d).lanes =
    ({ d.lanes with
      token := some l, grant := none, settle := true, takeovers := d.lanes.takeovers + 1
      queue := sergeQueued n Event.TAKEOVER (leBytes 1 (laneCode l) ++ leBytes 8 n) d.lanes.queue } : Lanes).map l
        (fun r => { r with st := .lead }) := by
  cases l <;> rfl

theorem grantToken_only (n : Nat) (l : Lane) (d : Dev) : DevOnly [.lanes, .win] d (grantToken n l d) := by
  simp [devOnly_iff, grantToken]

/-- What the token's passage leaves of the lanes' state x, that of lane l being withdrawn. -/
structure TokenPassed (l : Lane) (x y : Lanes) (atOnce : Bool) : Prop where
  faulted : y.get l = x.get l
  faultLast : y.faultLast = x.faultLast
  same : y.outputs = x.outputs ∧ y.request = x.request ∧ y.tickSource = x.tickSource ∧ y.xaFailed = x.xaFailed ∧
    y.xbFailed = x.xbFailed ∧ y.dispute = x.dispute
  granted : atOnce = true → y.token = some (laneOther l) ∧ (y.get (laneOther l)).st = .lead ∧ y.takeovers = x.takeovers + 1
  waits : atOnce = false → y.token = x.token ∧ y.grant = some (laneOther l) ∧ y.takeovers = x.takeovers

theorem passToken_lanes (l : Lane) (atOnce : Bool) (n : Nat) (d : Dev) :
    TokenPassed l d.lanes (passToken l atOnce n d).lanes atOnce := by
  cases atOnce with
  | true =>
    have k : (passToken l true n d).lanes = _ := grantToken_lanes n (laneOther l) d
    rw [k]
    generalize d.lanes = x
    cases l <;> exact ⟨rfl, rfl, ⟨rfl, rfl, rfl, rfl, rfl, rfl⟩, fun _ => ⟨rfl, rfl, rfl⟩, fun h => absurd h (by decide)⟩
  | false =>
    cases l <;> exact ⟨rfl, rfl, ⟨rfl, rfl, rfl, rfl, rfl, rfl⟩, fun h => absurd h (by decide), fun _ => ⟨rfl, rfl, rfl⟩⟩

theorem passToken_only (l : Lane) (atOnce : Bool) (n : Nat) (d : Dev) :
    DevOnly [.lanes, .win] d (passToken l atOnce n d) := by
  cases atOnce with
  | true => exact grantToken_only n (laneOther l) d
  | false => simp [devOnly_iff, passToken]

theorem faultLane_lead {l : Lane} {s : State} (h : FaultableLead l s) (cause slot verdict : Nat) (atOnce : Bool) :
    faultLane l cause slot verdict atOnce s = { s with
      dev := passToken l atOnce s.clk.frame (faultedDev l cause slot verdict atOnce s.clk.frame s.dev) } := by
  obtain ⟨hd, hl, -⟩ := h.single
  obtain ⟨-, -, ht, -, hs, -⟩ := h
  rw [faultLane_one hd cause slot verdict atOnce rfl, if_neg (by simp [hl]), if_pos (by simp [ht, hs])]

theorem faultLane_lead_only {l : Lane} {s : State} (h : FaultableLead l s) (cause slot verdict : Nat) (atOnce : Bool) :
    OnlyChanges [.lanes, .win, .upd, .diag] s (faultLane l cause slot verdict atOnce s) := by
  rw [faultLane_lead h]
  exact ⟨rfl, fun _ => rfl, fun _ => rfl,
    (faultedDev_only l cause slot verdict atOnce _ _).trans ((passToken_only l atOnce _ _).mono (by decide))⟩

/-- The fault of a lead at 70 µs (R22): its follow leads at once. -/
theorem faultLane_atOnce {l : Lane} {s : State} (h : FaultableLead l s) (cause slot verdict : Nat) :
    TokenAtOnce l cause slot verdict s (faultLane l cause slot verdict true s) := by
  have ho := faultLane_lead_only h cause slot verdict true
  rw [faultLane_lead h] at ho ⊢
  have k := faultedDev_lanes l cause slot verdict true s.clk.frame s.dev
  have p := passToken_lanes l true s.clk.frame (faultedDev l cause slot verdict true s.clk.frame s.dev)
  obtain ⟨kout, -, ktake, -⟩ := k.same
  obtain ⟨pt, pst, ptake⟩ := p.granted rfl
  exact ⟨p.faultLast.trans k.faultLast, pt, pst, by rw [p.faulted, k.st], by rw [ptake, ktake], p.same.1.trans kout, ho⟩

/-- The fault of a lead later in the frame (R21, R32): its follow gets the token at the next tick. -/
theorem faultLane_nextTick {l : Lane} {s : State} (h : FaultableLead l s) (cause slot verdict : Nat) :
    TokenNextTick l cause slot verdict s (faultLane l cause slot verdict false s) := by
  have ho := faultLane_lead_only h cause slot verdict false
  rw [faultLane_lead h] at ho ⊢
  obtain ⟨-, -, ht, -⟩ := h
  have k := faultedDev_lanes l cause slot verdict false s.clk.frame s.dev
  have p := passToken_lanes l false s.clk.frame (faultedDev l cause slot verdict false s.clk.frame s.dev)
  obtain ⟨kout, -, ktake, -⟩ := k.same
  obtain ⟨pt, pg, ptake⟩ := p.waits rfl
  exact ⟨p.faultLast.trans k.faultLast, by rw [pt, k.token, if_pos ht], pg, by rw [p.faulted, k.st], ptake.trans ktake,
    p.same.1.trans kout, ho⟩

theorem faultLane_lead_lanes {l : Lane} {s : State} (h : FaultableLead l s) (cause slot verdict : Nat) (atOnce : Bool) :
    ∃ y, LaneFaulted l cause slot verdict s.clk.frame s.dev.lanes y ∧
      TokenPassed l y (faultLane l cause slot verdict atOnce s).dev.lanes atOnce := by
  rw [faultLane_lead h]
  exact ⟨_, faultedDev_lanes l cause slot verdict atOnce s.clk.frame s.dev, passToken_lanes l atOnce _ _⟩

/-! A fault after a change that service does not see. -/

theorem OnlyChanges.refl (ps : List Part) (s : State) : OnlyChanges ps s s :=
  ⟨rfl, fun _ => rfl, fun _ => rfl, DevOnly.refl ps s.dev⟩

theorem OnlyChanges.trans {ps : List Part} {s t u : State} (h : OnlyChanges ps s t) (k : OnlyChanges ps t u) :
    OnlyChanges ps s u := by
  obtain ⟨hp, hc, hr, hd⟩ := h
  obtain ⟨kp, kc, kr, kd⟩ := k
  exact ⟨kp.trans hp, fun p => (kc p).trans (hc p), fun p => (kr p).trans (hr p), hd.trans kd⟩

theorem OnlyChanges.mono {ps qs : List Part} {s t : State} (h : OnlyChanges ps s t) (k : ∀ p ∈ ps, p ∈ qs) :
    OnlyChanges qs s t := by
  obtain ⟨hp, hc, hr, hd⟩ := h
  exact ⟨hp, fun p => hc fun q => p (k _ q), fun p => hr fun q => p (k _ q), hd.mono k⟩

theorem Dev.nat_congr {d e : Dev} (h : e.par = d.par) (id : Nat) : e.nat id = d.nat id := by
  unfold Dev.nat Dev.num
  rw [h]

/-- Service and lane l's fitness to be faulted are as in s: what may differ are the parts named, of the lanes SERGE's queue,
a dispute, and what lane l's record holds beside its state and its repairs. -/
structure SameService (ps : List Part) (l : Lane) (s s' : State) : Prop where
  only : OnlyChanges ps s s'
  lane : (s'.dev.lanes.get l).st = (s.dev.lanes.get l).st ∧ (s'.dev.lanes.get l).repairs = (s.dev.lanes.get l).repairs
  other : s'.dev.lanes.get (laneOther l) = s.dev.lanes.get (laneOther l)
  token : s'.dev.lanes.token = s.dev.lanes.token
  grant : s'.dev.lanes.grant = s.dev.lanes.grant
  gate : s'.dev.lanes.windowGate = s.dev.lanes.windowGate ∧ s'.dev.lanes.sergeFault = s.dev.lanes.sergeFault
  same : s'.dev.lanes.outputs = s.dev.lanes.outputs ∧ s'.dev.lanes.request = s.dev.lanes.request ∧
    s'.dev.lanes.takeovers = s.dev.lanes.takeovers

theorem SameService.refl (ps : List Part) (l : Lane) (s : State) : SameService ps l s s :=
  ⟨OnlyChanges.refl ps s, ⟨rfl, rfl⟩, rfl, rfl, rfl, ⟨rfl, rfl⟩, ⟨rfl, rfl, rfl⟩⟩

theorem SameService.trans {ps : List Part} {l : Lane} {s t u : State} (h : SameService ps l s t)
    (k : SameService ps l t u) : SameService ps l s u :=
  ⟨h.only.trans k.only, ⟨k.lane.1.trans h.lane.1, k.lane.2.trans h.lane.2⟩, k.other.trans h.other, k.token.trans h.token,
    k.grant.trans h.grant, ⟨k.gate.1.trans h.gate.1, k.gate.2.trans h.gate.2⟩,
    ⟨k.same.1.trans h.same.1, k.same.2.1.trans h.same.2.1, k.same.2.2.trans h.same.2.2⟩⟩

theorem SameService.onLane (l : Lane) (s : State) {f : LaneRec → LaneRec} (h : ∀ r, (f r).st = r.st ∧ (f r).repairs = r.repairs) :
    SameService [.lanes] l s (s.onDev (Dev.onLane l f)) := by
  refine ⟨OnlyChanges.onDev (by simp [devOnly_iff]), ?_, ?_, ?_, ?_, ?_, ?_⟩
  · simpa [Dev.onLane] using h _
  · simp [Dev.onLane]
  all_goals cases l <;> simp [Dev.onLane, Lanes.map]

theorem SameService.sergeRaise (l : Lane) (s : State) (stamp code : Nat) (data : List Byte) :
    SameService [.lanes] l s (s.onDev (Dev.sergeRaise stamp code data)) := by
  refine ⟨OnlyChanges.onDev (by simp [devOnly_iff]), ?_, ?_, rfl, rfl, ⟨rfl, rfl⟩, ⟨rfl, rfl, rfl⟩⟩
  · cases l <;> exact ⟨rfl, rfl⟩
  · cases l <;> rfl

theorem SameService.mono {ps qs : List Part} {l : Lane} {s s' : State} (h : SameService ps l s s') (k : ∀ p ∈ ps, p ∈ qs) :
    SameService qs l s s' := { h with only := h.only.mono k }

section
variable {ps : List Part} {l : Lane} {s s' t : State} {cause slot verdict : Nat}

theorem SameService.faultableFollow (k : SameService ps l s s') (hd : s'.dev.lanes.dispute = none) (h : FaultableFollow l s)
    (hps : .clk ∉ ps ∧ .par ∉ ps := by decide) : FaultableFollow l s' := by
  obtain ⟨hr, hst, ht, hg, -, hf, hl⟩ := h
  obtain ⟨-, hclk, -, hdev⟩ := k.only
  have hc := hclk hps.1
  refine ⟨by rw [hc, hr], by rw [k.lane.1, hst], by rw [k.token, ht], by rw [k.gate.1, hg], hd, by rw [k.other, hc]; exact hf, ?_⟩
  rw [k.lane.2, hc, Dev.nat_congr (hdev .par hps.2)]
  exact hl

theorem SameService.faultableLead (k : SameService ps l s s') (hd : s'.dev.lanes.dispute = none) (h : FaultableLead l s)
    (hps : .clk ∉ ps ∧ .par ∉ ps := by decide) : FaultableLead l s' := by
  obtain ⟨hr, hst, ht, ho, hs, hg, -, hf, hl⟩ := h
  obtain ⟨-, hclk, -, hdev⟩ := k.only
  have hc := hclk hps.1
  refine ⟨by rw [hc, hr], by rw [k.lane.1, hst], by rw [k.token, ht], by rw [k.other, ho], by rw [k.gate.2, hs],
    by rw [k.gate.1, hg], hd, by rw [k.other, hc]; exact hf, ?_⟩
  rw [k.lane.2, hc, Dev.nat_congr (hdev .par hps.2)]
  exact hl

theorem FollowFaulted.of_same (k : SameService [.lanes] l s s') (h : FollowFaulted l cause slot verdict s' t) :
    FollowFaulted l cause slot verdict s t := by
  obtain ⟨hw, hst, hr, ho, ht, hg, hout, hreq, hc⟩ := h
  obtain ⟨kout, kreq, -⟩ := k.same
  exact ⟨hw, hst, hr, ho.trans k.other, ht.trans k.token, hg.trans k.grant, hout.trans kout, hreq.trans kreq,
    (k.only.mono (by decide)).trans hc⟩

theorem TokenAtOnce.of_same (k : SameService [.lanes, .win] l s s') (h : TokenAtOnce l cause slot verdict s' t) :
    TokenAtOnce l cause slot verdict s t := by
  obtain ⟨hw, ht, ho, hst, htake, hout, hc⟩ := h
  obtain ⟨kout, -, ktake⟩ := k.same
  exact ⟨hw, ht, ho, hst, ktake ▸ htake, hout.trans kout, (k.only.mono (by decide)).trans hc⟩

theorem TokenNextTick.of_same (k : SameService [.lanes, .win] l s s') (h : TokenNextTick l cause slot verdict s' t) :
    TokenNextTick l cause slot verdict s t := by
  obtain ⟨hw, ht, hg, hst, htake, hout, hc⟩ := h
  obtain ⟨kout, -, ktake⟩ := k.same
  exact ⟨hw, ht, hg, hst, htake.trans ktake, hout.trans kout, (k.only.mono (by decide)).trans hc⟩

end

end Sys2Proof.Machine
end

section
/-!
PROOF. The faults of a follow and of a lead (R21, R22, R28, R29, R32, R37).
-/

namespace Sys2Proof.Machine

theorem onLane_dispute (l : Lane) (f : LaneRec → LaneRec) (d : Dev) : (d.onLane l f).lanes.dispute = d.lanes.dispute := by
  cases l <;> rfl

/-- The self-detected fault that a lane reports is noted in its record alone. -/
theorem selfFault_same (l : Lane) (s : State) :
    SameService [.lanes] l s (s.onDev (Dev.onLane l fun r => { r with selfFault := some s.clk.frame })) :=
  SameService.onLane l s fun _ => ⟨rfl, rfl⟩

theorem markShadow_idle {l : Lane} {s : State} (h : s.dev.lanes.acting ≠ some l) (m : Bool) : markShadow l m s = s := by
  simp only [markShadow, State.onDev, if_neg h]

theorem markShadow_lanes (l : Lane) (m : Bool) (s : State) : (markShadow l m s).dev.lanes = s.dev.lanes := by
  simp only [markShadow, State.onDev]
  split <;> rfl

theorem markShadow_same (l : Lane) (m : Bool) (s : State) : SameService [.lanes, .win] l s (markShadow l m s) := by
  have h := markShadow_lanes l m s
  refine ⟨OnlyChanges.onDev ?_, by rw [h]; exact ⟨rfl, rfl⟩, by rw [h], by rw [h], by rw [h], by rw [h]; exact ⟨rfl, rfl⟩,
    by rw [h]; exact ⟨rfl, rfl, rfl⟩⟩
  split <;> simp [devOnly_iff]

/-! The rows, where the lane works. -/

section
variable {l : Lane} {s : State}

theorem exec_slotDeadlineFault (h : laneWorks l s = true) (slot : DeadlineSlot) :
    exec (.slotDeadlineFault l slot) s = .next (faultLane l 0x06 (deadlineCode slot) 0 true s) := by
  show Host.Outcome.next (whenS (laneWorks l s) _ s) = _
  rw [h, whenS_true]

theorem exec_watchdogFault (h : laneWorks l s = true) (early marker : Bool) : exec (.watchdogFault l early marker) s =
    .next (faultLane l (if early then 0x02 else 0x01) 5 0 false (markShadow l marker s)) := by
  show Host.Outcome.next (whenS (laneWorks l s) _ s) = _
  rw [h, whenS_true]

theorem exec_laneSelfFault (h : laneWorks l s = true) (c : SelfFault) (slot : Nat) : exec (.laneSelfFault l c slot) s =
    .next (faultLane l (selfFaultCause c) slot 0 (decide (slot < 4))
      (s.onDev (Dev.onLane l fun r => { r with selfFault := some s.clk.frame }))) := by
  show Host.Outcome.next (whenS (laneWorks l s) _ s) = _
  rw [h, whenS_true]

theorem exec_outputRequestMissing (h : laneWorks l s = true) (ht : s.dev.lanes.token = some l) :
    exec .outputRequestMissing s = .next (faultLane l 0x05 3 0 true s) := by
  show Host.Outcome.next (match s.dev.lanes.token with | some l => _ | none => s) = _
  rw [ht]
  show Host.Outcome.next (whenS (laneWorks l s) _ s) = _
  rw [h, whenS_true]

theorem exec_claimRejected (h : laneWorks l s = true) (ht : s.dev.lanes.token ≠ some l) : exec (.claimRejected l) s =
    .next (faultLane l 0x0D 6 0 false (s.onDev (Dev.sergeRaise s.clk.frame Event.CLAIM_REJECTED []))) := by
  show Host.Outcome.next (whenS (laneWorks l s && decide (s.dev.lanes.token ≠ some l)) _ s) = _
  rw [h, decide_eq_true ht, Bool.and_true, whenS_true]

/-- The claim and the fault of the claimant are both queued while there is room for two (R29, R38). -/
theorem claimRejected_queue (h : FaultableFollow l s) (hq : s.dev.lanes.queue.length < 15) :
    (faultLane l 0x0D 6 0 false (s.onDev (Dev.sergeRaise s.clk.frame Event.CLAIM_REJECTED []))).dev.lanes.queue.map
      SergeEv.code = s.dev.lanes.queue.map SergeEv.code ++ [Event.CLAIM_REJECTED, Event.LANE_FAULT] := by
  obtain ⟨-, -, -, -, hd, -⟩ := id h
  have hs := SameService.sergeRaise l s s.clk.frame Event.CLAIM_REJECTED []
  have h' := hs.faultableFollow hd h
  have hlen := sergeQueued_length s.clk.frame Event.CLAIM_REJECTED [] (q := s.dev.lanes.queue) (by omega)
  rw [(faultLane_follow_lanes h' 0x0D 6 0 false).queue, sergeQueued_codes _ _ _ (by
    simp only [State.onDev_dev, Dev.sergeRaise_lanes]; omega)]
  simp only [State.onDev_dev, Dev.sergeRaise_lanes]
  rw [sergeQueued_codes _ _ _ (by omega), List.append_assoc, List.singleton_append]

end

/-- A lead without a follow: its fault is a dual lane fault (R22). -/
theorem loneLead_dual {l : Lane} {s : State} (hr : s.clk.running = true) (hst : (s.dev.lanes.get l).st = .lead)
    (ht : s.dev.lanes.token = some l) (hf : (s.dev.lanes.get (laneOther l)).st ≠ .follow)
    (hl : (s.dev.lanes.get (laneOther l)).st ≠ .lead) :
    laneWorks l s = true ∧ ∀ {ps s'}, SameService ps l s s' → ∀ n, faultIsDual n l s'.dev = true := by
  refine ⟨by simp [laneWorks, hr, hst], fun k n => ?_⟩
  simp [faultIsDual, canLead, k.token, ht, k.other, hf, hl]

end Sys2Proof.Machine

open Sys2Proof Sys2Proof.Machine

/-- Settles O9: each row faults a follow, after a change that service does not see. -/
theorem followFaultKeepsService : Obligations.FollowFaultKeepsService := by
  intro l s h
  obtain ⟨-, -, ht, hw⟩ := h.single
  obtain ⟨-, -, hto, -, hd, -⟩ := id h
  refine ⟨fun slot => ⟨_, exec_slotDeadlineFault hw slot, faultLane_follow h _ _ _ _⟩,
    fun early marker => ⟨_, exec_watchdogFault hw early marker, ?_⟩,
    fun c slot => ⟨_, exec_laneSelfFault hw c slot, ?_⟩, _, exec_claimRejected hw ht, ?_, claimRejected_queue h⟩
  · rw [markShadow_idle (by simp [Lanes.acting, hto])]
    exact faultLane_follow h _ _ _ _
  · have k := selfFault_same l s
    exact (faultLane_follow (k.faultableFollow (by rw [State.onDev_dev, onLane_dispute, hd]) h) _ _ _ _).of_same k
  · have k := SameService.sergeRaise l s s.clk.frame Event.CLAIM_REJECTED []
    exact (faultLane_follow (k.faultableFollow hd h) _ _ _ _).of_same k

/-- Settles O10: with a follow the token passes at 70 µs or at the next tick; without one no lane is left. -/
theorem leadFaults : Obligations.LeadFaults := by
  constructor
  · intro l s h
    obtain ⟨-, -, hw⟩ := h.single
    obtain ⟨-, -, ht, -, -, -, hd, -⟩ := id h
    have k : SameService [.lanes, .win] l s _ := (selfFault_same l s).mono (by decide)
    have hs := k.faultableLead (by rw [State.onDev_dev, onLane_dispute, hd]) h
    refine ⟨⟨_, exec_outputRequestMissing hw ht, faultLane_atOnce h _ _ _⟩,
      fun slot => ⟨_, exec_slotDeadlineFault hw slot, faultLane_atOnce h _ _ _⟩,
      fun c slot hn => ⟨_, exec_laneSelfFault hw c slot, ?_⟩, fun c slot hn => ⟨_, exec_laneSelfFault hw c slot, ?_⟩,
      fun early marker => ⟨_, exec_watchdogFault hw early marker, ?_⟩⟩
    · rw [decide_eq_true hn]
      exact (faultLane_atOnce hs _ _ _).of_same k
    · rw [decide_eq_false (Nat.not_lt.2 hn)]
      exact (faultLane_nextTick hs _ _ _).of_same k
    · have m := markShadow_same l marker s
      exact (faultLane_nextTick (m.faultableLead (by rw [markShadow_lanes, hd]) h) _ _ _).of_same m
  · intro l s hr hst ht hf hl
    obtain ⟨hw, hdual⟩ := loneLead_dual hr hst ht hf hl
    have h₀ := hdual (SameService.refl [] l s) s.clk.frame
    exact ⟨⟨_, exec_outputRequestMissing hw ht, faultLane_out h₀ _ _ _ _⟩,
      fun slot => ⟨_, exec_slotDeadlineFault hw slot, faultLane_out h₀ _ _ _ _⟩,
      fun c slot => ⟨_, exec_laneSelfFault hw c slot,
        (faultLane_out (hdual (selfFault_same l s) _) _ _ _ _).of_steady (Steady.onDev s _)⟩,
      fun early marker => ⟨_, exec_watchdogFault hw early marker,
        (faultLane_out (hdual (markShadow_same l marker s) _) _ _ _ _).of_steady (markShadow_steady l marker s)⟩⟩

end

section
/-!
PROOF. Disputes (R25 to R27, R477).
-/

namespace Sys2Proof.Machine

/-- A dispute is over and lane l's records from its frame on are void; the cause of the repair that follows is noted. -/
def verdictMark (x : Dispute) (v : Lane × Nat) (s : State) : State :=
  (s.onDev fun d => { d with lanes := { d.lanes with dispute := none } }).onDev
    (Dev.onLane v.1 fun r => { r with voidFrom := some x.frame, unresolvedRepair := decide (v.2 = 3) })

theorem applyVerdict_eq (x : Dispute) (v : Lane × Nat) (s : State) :
    applyVerdict x v s = faultLane v.1 x.cause x.slot v.2 false (verdictMark x v s) := rfl

theorem verdictMark_dispute (x : Dispute) (v : Lane × Nat) (s : State) : (verdictMark x v s).dev.lanes.dispute = none := by
  simp only [verdictMark, State.onDev_dev, onLane_dispute]

theorem verdictMark_voidFrom (x : Dispute) (v : Lane × Nat) (s : State) :
    ((verdictMark x v s).dev.lanes.get v.1).voidFrom = some x.frame := by
  simp only [verdictMark, State.onDev_dev, Dev.onLane, Lanes.get_map_same]

theorem clearDispute_same (l : Lane) (s : State) :
    SameService [.lanes] l s (s.onDev fun d => { d with lanes := { d.lanes with dispute := none } }) := by
  refine ⟨OnlyChanges.onDev (by simp [devOnly_iff]), ?_, ?_, rfl, rfl, ⟨rfl, rfl⟩, ⟨rfl, rfl, rfl⟩⟩
  · cases l <;> exact ⟨rfl, rfl⟩
  · cases l <;> rfl

theorem verdictMark_same (x : Dispute) (v : Lane × Nat) (s : State) : SameService [.lanes] v.1 s (verdictMark x v s) :=
  (clearDispute_same v.1 s).trans (SameService.onLane v.1 _ fun _ => ⟨rfl, rfl⟩)

section
variable {l : Lane} {x : Dispute} {s : State}

theorem exec_disputeVerdict (hx : s.dev.lanes.dispute = some x) (hn : x.frame < s.clk.frame) (hl : x.lone = none)
    (r : Recompute) : exec (.disputeVerdict r) s = .next (applyVerdict x (verdictOf r x s.dev) s) := by
  show execDisputeVerdict r s = _
  simp only [execDisputeVerdict, hx, hl, if_neg (Nat.not_le.2 hn)]

theorem exec_disputeVerdict_lone (hx : s.dev.lanes.dispute = some x) (hn : x.frame < s.clk.frame) (hl : x.lone = some l)
    (r : Recompute) : exec (.disputeVerdict r) s = .next (if r = .confirms l then
      (s.onDev fun d => { d with lanes := { d.lanes with dispute := none } }).onDev
        (Dev.onLane (laneOther l) fun q => { q with voidFrom := some x.frame })
      else dualFault s) := by
  show execDisputeVerdict r s = _
  simp only [execDisputeVerdict, hx, hl, if_neg (Nat.not_le.2 hn)]

/-- With the dispute gone, the follow l of an open dispute can be faulted, and so can its lead. -/
theorem VerdictOpen.cleared (h : VerdictOpen l x s) :
    FaultableFollow l (s.onDev fun d => { d with lanes := { d.lanes with dispute := none } }) ∧
      FaultableLead (laneOther l) (s.onDev fun d => { d with lanes := { d.lanes with dispute := none } }) := by
  obtain ⟨hr, hst, hlead, ht, hs, hg, -, -, -, hm⟩ := h
  have k := clearDispute_same l s
  obtain ⟨kst, krep⟩ := k.lane
  refine ⟨⟨hr, kst.trans hst, ht, hg, rfl, by rw [k.other]; exact (hm (laneOther l)).1, by rw [krep]; exact (hm l).2⟩,
    hr, by rw [k.other, hlead], ht, ?_, hs, hg, rfl, ?_, by rw [k.other]; exact (hm (laneOther l)).2⟩
  · rw [laneOther_laneOther, kst, hst]
  · rw [laneOther_laneOther]
    have := (hm l).1
    cases l <;> exact this

theorem voidMark_same (v : Lane × Nat) (x : Dispute) (s : State) :
    SameService [.lanes] v.1 (s.onDev fun d => { d with lanes := { d.lanes with dispute := none } }) (verdictMark x v s) :=
  SameService.onLane v.1 _ fun _ => ⟨rfl, rfl⟩

/-- The verdict on the follow (R27): its records are void and it is repaired. -/
theorem applyVerdict_follow (h : VerdictOpen l x s) (verdict : Nat) :
    VerdictApplied l x (applyVerdict x (l, verdict) s) ∧
      FollowFaulted l x.cause x.slot verdict s (applyVerdict x (l, verdict) s) := by
  have hd := verdictMark_dispute x (l, verdict) s
  have hv := verdictMark_voidFrom x (l, verdict) s
  have hf := (voidMark_same (l, verdict) x s).faultableFollow hd h.cleared.1
  obtain ⟨hdis, hvoid⟩ := (faultLane_follow_lanes hf x.cause x.slot verdict false).settled hd
  exact ⟨⟨hdis, hvoid.trans hv⟩,
    (faultLane_follow hf x.cause x.slot verdict false).of_same (verdictMark_same x (l, verdict) s)⟩

/-- The verdict on the lead (R27): its records are void, and the token passes at the next tick. -/
theorem applyVerdict_lead (h : VerdictOpen l x s) (verdict : Nat) :
    VerdictApplied (laneOther l) x (applyVerdict x (laneOther l, verdict) s) ∧
      TokenNextTick (laneOther l) x.cause x.slot verdict s (applyVerdict x (laneOther l, verdict) s) := by
  have hd := verdictMark_dispute x (laneOther l, verdict) s
  have hv := verdictMark_voidFrom x (laneOther l, verdict) s
  have hf := (voidMark_same (laneOther l, verdict) x s).faultableLead hd h.cleared.2
  obtain ⟨y, hy, p⟩ := faultLane_lead_lanes hf x.cause x.slot verdict false
  obtain ⟨hdis, hvoid⟩ := hy.settled hd
  obtain ⟨-, -, -, -, -, pd⟩ := p.same
  refine ⟨⟨pd.trans hdis, ?_⟩,
    (faultLane_nextTick hf x.cause x.slot verdict).of_same ((verdictMark_same x (laneOther l, verdict) s).mono (by decide))⟩
  rw [applyVerdict_eq, p.faulted]
  exact hvoid.trans hv

theorem verdictOf_confirms (l : Lane) (x : Dispute) (d : Dev) : verdictOf (.confirms l) x d = (laneOther l, 2) := rfl

/-- Rule 4 of R26: the follow, or the lead where the follow returned lately from a repair of the same cause. -/
theorem verdictOf_unresolved (h : VerdictOpen l x s) :
    (¬ ReturnedLately l x s → verdictOf .unresolved x s.dev = (l, 3)) ∧
      (ReturnedLately l x s → verdictOf .unresolved x s.dev = (laneOther l, 3)) := by
  obtain ⟨-, -, -, ht, -⟩ := h
  have ha : s.dev.lanes.acting = some (laneOther l) := by simp only [Lanes.acting, ht]
  simp only [verdictOf, ha, Option.getD_some, laneOther_laneOther, ReturnedLately]
  cases (s.dev.lanes.get l).unresolvedReturn with
  | none => simp
  | some k => by_cases hk : x.frame < k + 8000 <;> simp [hk]

end

/-- Without a verdict the disputed outputs go to their safe state, and only those (R25). -/
theorem disputedSafe_bits (x : Dispute) (o : BitVec 3) :
    (x.outputs.getLsbD 0 = true → (disputedSafe x o).getLsbD 0 = false) ∧
      (x.outputs.getLsbD 1 = true → (disputedSafe x o).getLsbD 1 = false) ∧
      (x.outputs.getLsbD 2 = true → (disputedSafe x o).getLsbD 2 = true) ∧
      ∀ k < 3, x.outputs.getLsbD k = false → (disputedSafe x o).getLsbD k = o.getLsbD k := by
  have key (k : Nat) (hk : k < 3) : (disputedSafe x o).getLsbD k =
      ((o.getLsbD k && !(x.outputs.getLsbD k && (0b011#3).getLsbD k)) || (x.outputs.getLsbD k && (0b100#3).getLsbD k)) := by
    simp [disputedSafe, hk]
  refine ⟨fun h => ?_, fun h => ?_, fun h => ?_, fun k hk h => ?_⟩
  · rw [key 0 (by decide), h]; simp
  · rw [key 1 (by decide), h]; simp
  · rw [key 2 (by decide), h]; simp
  · rw [key k hk, h]; simp

theorem exec_disputeHoldExpiry {x : Dispute} {s : State} (hx : s.dev.lanes.dispute = some x)
    (hn : x.outFrame + 2 ≤ s.clk.frame) (ho : x.outputs ≠ 0) :
    exec .disputeHoldExpiry s = .next (s.onDev fun d => applyOutputs s.clk.frame (disputedSafe x d.lanes.outputs)
      { d with lanes := { d.lanes with dispute := some { x with heldOut := disputedSafe x x.heldOut } } }) := by
  show execDisputeHoldExpiry s = _
  simp only [execDisputeHoldExpiry, devStep, State.onDev, hx, if_pos (And.intro hn ho)]

end Sys2Proof.Machine

open Sys2Proof Sys2Proof.Machine

/-- Settles O11, by the lane on which the verdict falls, by the lone lane's recompute, and by the bits of the held outputs. -/
theorem disputeRows : Obligations.DisputeRows := by
  refine ⟨fun l x s h => ?_, fun l x s hx hl hn => ⟨?_, fun r hr => ?_⟩, fun x s hx hn ho => ?_⟩
  · obtain ⟨-, -, -, -, -, -, hx, hl, hn, -⟩ := id h
    obtain ⟨hfollow, hlead⟩ := verdictOf_unresolved h
    refine ⟨⟨_, exec_disputeVerdict hx hn hl _, ?_⟩, ⟨_, exec_disputeVerdict hx hn hl _, ?_⟩,
      fun hr => ⟨_, exec_disputeVerdict hx hn hl _, ?_⟩, fun hr => ⟨_, exec_disputeVerdict hx hn hl _, ?_⟩⟩
    · rw [verdictOf_confirms, laneOther_laneOther]
      exact applyVerdict_follow h 2
    · exact applyVerdict_lead h 2
    · rw [hfollow hr]
      exact applyVerdict_follow h 3
    · rw [hlead hr]
      exact applyVerdict_lead h 3
  · refine ⟨_, exec_disputeVerdict_lone hx hn hl _, ?_⟩
    rw [if_pos rfl]
    have h₁ := clearDispute_same l s
    refine ⟨⟨?_, ?_⟩, ?_, ?_, ?_, h₁.only.trans (OnlyChanges.onDev (by simp [devOnly_iff]))⟩
    · rw [State.onDev_dev, onLane_dispute]; rfl
    all_goals cases l <;> rfl
  · refine ⟨_, exec_disputeVerdict_lone hx hn hl _, ?_⟩
    rw [if_neg hr]
    exact dualFault_out s
  · refine ⟨_, exec_disputeHoldExpiry hx hn ho, ?_⟩
    obtain ⟨h0, h1, h2, hk⟩ := disputedSafe_bits x s.dev.lanes.outputs
    exact ⟨h0, h1, h2, hk, OnlyChanges.onDev (by simp [devOnly_iff, applyOutputs])⟩

end

section
/-!
SUPPORT. The end of a session and a fault of the Degraded kind (R43, R255, R298 to R300): what they leave of the outputs, the
session, the causes, the requests for a mode and the events of the frame.
-/

namespace Sys2Proof.Machine

/-- The events of the frame, the requests for a mode and the causes of d are still there in e. -/
structure Grows (d e : Dev) : Prop where
  now : d.log.now ⊆ e.log.now
  reqs : d.pow.modeReqs ⊆ e.pow.modeReqs
  causes : ∀ k, d.pow.causes.getLsbD k = true → e.pow.causes.getLsbD k = true

theorem Grows.refl (d : Dev) : Grows d d := ⟨List.Subset.refl _, List.Subset.refl _, fun _ => id⟩

theorem Grows.trans {d e f : Dev} (h : Grows d e) (k : Grows e f) : Grows d f :=
  ⟨List.Subset.trans h.now k.now, List.Subset.trans h.reqs k.reqs, fun j => k.causes j ∘ h.causes j⟩

/-- What changes neither the log nor modes and power. -/
theorem Grows.of_eq {d e : Dev} (hl : e.log = d.log) (hp : e.pow = d.pow) : Grows d e :=
  ⟨by rw [hl]; exact List.Subset.refl _, by rw [hp]; exact List.Subset.refl _, fun k => by rw [hp]; exact id⟩

theorem Grows.of_only {ps : List Part} {d e : Dev} (h : DevOnly ps d e) (hl : .log ∉ ps) (hp : .pow ∉ ps) : Grows d e :=
  Grows.of_eq (h .log hl) (h .pow hp)

theorem Grows.raise (src code : Nat) (data : List Byte) (d : Dev) : Grows d (d.raise src code data) :=
  ⟨List.subset_append_left _ _, List.Subset.refl _, fun _ => id⟩

theorem Grows.reqMode (m : Mode) (k : ReqKind) (c : Nat) (d : Dev) : Grows d (d.reqMode m k c) :=
  ⟨List.Subset.refl _, List.subset_append_left _ _, fun _ => id⟩

theorem Grows.setCause (k : Nat) (d : Dev) : Grows d (d.setCause k) := by
  refine ⟨List.Subset.refl _, List.Subset.refl _, fun j h => ?_⟩
  rw [Dev.setCause_causes, BitVec.getLsbD_or, h, Bool.true_or]

theorem Grows.setCauses (ks : List Nat) : ∀ d : Dev, Grows d (ks.foldl (fun d b => d.setCause b) d) := by
  induction ks with
  | nil => exact Grows.refl
  | cons k ks ih => exact fun d => (Grows.setCause k d).trans (ih _)

/-! The end of a session. -/

theorem requestOpen_only (n : Nat) (d : Dev) : DevOnly [.lanes, .saf, .veh] d (requestOpen n d) := by
  simp [devOnly_iff, requestOpen, requestOutputs, latchOutputs, applyOutputs]

theorem balanceLog_only (k : Nat) (b : Nat × Int × Int × Int) (d : Dev) : DevOnly [.log] d (balanceLog k b d) :=
  DevOnly.ite (fun _ => by simp [devOnly_iff]) fun _ => DevOnly.refl _ d

theorem Grows.balanceLog (k : Nat) (b : Nat × Int × Int × Int) (d : Dev) : Grows d (balanceLog k b d) := by
  unfold Machine.balanceLog
  split
  · exact Grows.raise _ _ _ d
  · exact Grows.refl d

/-- The record of the session that closes, with its body as it ends (R197, R198). -/
def closingRecord (s : State) (cause : Nat) (d : Dev) : Dev :=
  let d := { d with ses := { d.ses with flags := endFlags d cause } }
  let bal := balance d s.regs (dcKind d) (s.clk.frame - d.ses.startFrame) (decide (cause = EndCause.supply))
  let d := onRecord d.ses.number (fun r => { r with
    body := closingBody s d cause d.acs.nextJob d.ses.flags bal r.body, signState := 1, endFrame := s.clk.frame }) d
  { d with led := { d.led with endMark := some d.ses.number } }.ckptDue 2

theorem closingRecord_only (s : State) (cause : Nat) (d : Dev) : DevOnly [.ses, .led] d (closingRecord s cause d) := by
  simp [devOnly_iff, closingRecord, onRecord, Dev.ckptDue]

theorem closeSession_eq (s : State) (cause : Nat) (ev : Dev → Dev) (d : Dev) : ∃ bal, closeSession s cause ev d =
    clearSession s.clk.frame (clearNmk (startJob .signing 0 (balanceLog d.ses.number bal (ev (closingRecord s cause d))).ses.number
      (balanceLog d.ses.number bal (ev (closingRecord s cause d))))) := ⟨_, rfl⟩

theorem sessionEndedEv_only (s : State) (cause : Nat) (d : Dev) : DevOnly [.log] d (sessionEndedEv s cause d) := by
  simp [devOnly_iff, sessionEndedEv]

/-- The parts that the end of a session writes outside the log. -/
theorem clearSession_only (n arg : Nat) (d : Dev) :
    DevOnly [.acs, .keys, .ses, .dc, .veh, .saf] d (clearSession n (clearNmk (startJob .signing 0 arg d))) := by
  simp [devOnly_iff, clearSession, clearNmk, startJob]

theorem closeSession_only (s : State) (cause : Nat) (d : Dev) :
    DevOnly [.ses, .led, .log, .acs, .keys, .dc, .veh, .saf] d (closeSession s cause (sessionEndedEv s cause) d) := by
  obtain ⟨bal, h⟩ := closeSession_eq s cause (sessionEndedEv s cause) d
  rw [h]
  exact ((((closingRecord_only s cause d).mono (by decide)).trans ((sessionEndedEv_only s cause _).mono (by decide))).trans
    ((balanceLog_only _ _ _).mono (by decide))).trans ((clearSession_only _ _ _).mono (by decide))

theorem Grows.closeSession (s : State) (cause : Nat) (d : Dev) :
    Grows d (closeSession s cause (sessionEndedEv s cause) d) := by
  obtain ⟨bal, h⟩ := closeSession_eq s cause (sessionEndedEv s cause) d
  rw [h]
  exact (((Grows.of_only (closingRecord_only s cause d) (by decide) (by decide)).trans (Grows.raise _ _ _ _)).trans
    (Grows.balanceLog _ _ _)).trans (Grows.of_only (clearSession_only _ _ _) (by decide) (by decide))

theorem closeSession_closed (s : State) (cause : Nat) (ev : Dev → Dev) (d : Dev) :
    (closeSession s cause ev d).ses.isOpen = false := rfl

theorem setCauses_only (ks : List Nat) (d : Dev) : DevOnly [.pow] d (ks.foldl (fun d b => d.setCause b) d) :=
  DevOnly.foldl (fun d b => by simp [devOnly_iff]) ks d

theorem endMode_only (m : Mode) (d : Dev) : DevOnly [.pow, .log, .saf] d (endMode m d) := by
  cases m
  case degraded =>
    have h₁ : DevOnly [.pow, .log, .saf] d (d.saf.degBits.foldl (fun d b => d.setCause b) (d.setCause Cause.degradedEnd)) :=
      (DevOnly.trans (by simp [devOnly_iff]) (setCauses_only _ _)).mono (by decide)
    refine h₁.trans ?_
    simp [devOnly_iff, endMode]
  case session => simp [devOnly_iff, endMode]
  all_goals exact DevOnly.refl _ d

theorem Grows.endMode (m : Mode) (d : Dev) : Grows d (endMode m d) := by
  cases m
  case degraded =>
    have h₁ := (Grows.setCause Cause.degradedEnd d).trans (Grows.setCauses d.saf.degBits _)
    refine h₁.trans ⟨List.subset_append_left _ _, List.subset_append_left _ _, fun _ => id⟩
  case session => exact Grows.reqMode _ _ _ d
  all_goals exact Grows.refl d

theorem endSession_only (s : State) (cause : Nat) (d : Dev) :
    DevOnly [.lanes, .pow, .ses, .led, .log, .acs, .keys, .dc, .veh, .saf] d (endSession s cause d) :=
  DevOnly.ite (fun _ => (((requestOpen_only _ d).mono (by decide)).trans ((closeSession_only s cause _).mono (by decide))).trans
    ((endMode_only _ _).mono (by decide))) fun _ => DevOnly.refl _ d

theorem Grows.endSession (s : State) (cause : Nat) (d : Dev) : Grows d (endSession s cause d) := by
  unfold Machine.endSession
  split
  · exact ((Grows.of_only (requestOpen_only _ d) (by decide) (by decide)).trans (Grows.closeSession s cause _)).trans
      (Grows.endMode _ _)
  · exact Grows.refl d

theorem endMode_ses (m : Mode) (d : Dev) : (endMode m d).ses = d.ses := endMode_only m d .ses (by decide)

theorem endSession_closed (s : State) (cause : Nat) (d : Dev) : (endSession s cause d).ses.isOpen = false := by
  unfold endSession
  split
  · rw [endMode_ses]
    exact closeSession_closed _ _ _ _
  · rename_i h
    simpa using h

/-- Of the lanes' state the end of a session changes the outputs alone. -/
theorem endSession_lanes (s : State) (cause : Nat) (d : Dev) :
    ∃ o r, (endSession s cause d).lanes = { d.lanes with outputs := o, request := r } := by
  unfold endSession
  split
  · rw [endMode_only _ _ .lanes (by decide), closeSession_only s cause _ .lanes (by decide)]
    exact ⟨_, _, rfl⟩
  · exact ⟨_, _, rfl⟩

/-! A fault of the Degraded kind. -/

/-- A fault of the Degraded kind found in Degraded sets its bit and asks for Safe-stop (R300). -/
def tripAsked (ev bit : Nat) (d : Dev) : Dev :=
  ({ d with pow := { (d.setCause bit).pow with causeEv := ev } }).reqMode .safeStop .toSafeStop (causeEvent ev)

/-- A fault of the Degraded kind found in Session starts Degraded (R298, R299). -/
def degradedBegun (n ev bit : Nat) (d : Dev) : Dev :=
  { d with
    saf := { d.saf with
      degCause := if d.saf.degSince.isNone then ev else d.saf.degCause
      degBits := if d.saf.degSince.isNone then [bit] else d.saf.degBits ++ [bit]
      degSince := some (n + 1), degExpired := false }
    ses := { d.ses with flags := d.ses.flags ||| 0b100000#32 } }

section
variable {s : State}

theorem degradedFault_degraded (h : s.clk.mode = .degraded) (ev bit : Nat) (d : Dev) : degradedFault s ev bit none d =
    safeOutputs s.clk.frame (endSession s EndCause.trip (tripAsked ev bit d)) := if_pos h

theorem degradedFault_session (h : s.clk.mode = .session) {d : Dev} (ho : d.ses.isOpen = true) (ev bit : Nat) :
    degradedFault s ev bit none d = ((degradedBegun s.clk.frame ev bit d).raise Src.serge Event.DEGRADED_ENTERED
      (leBytes 2 ev ++ leBytes 2 (d.nat Param.DEGRADED_LIMIT))).reqMode .degraded .toDegraded (causeEvent ev) :=
  (if_neg (by simp [h])).trans (if_pos ⟨h, ho⟩)

theorem degradedFault_other (h : s.clk.mode ≠ .degraded) {d : Dev} (ho : ¬(s.clk.mode = .session ∧ d.ses.isOpen = true))
    (ev bit : Nat) : degradedFault s ev bit none d = d.safeStop s.clk.mode bit ev := (if_neg h).trans (if_neg ho)

end

theorem Grows.markS (k : Nat) (d : Dev) : Grows d (markS k d) :=
  ⟨List.Subset.refl _, List.Subset.refl _, fun _ => id⟩

theorem Grows.safeStop (m : Mode) (k ev : Nat) (d : Dev) : Grows d (d.safeStop m k ev) := by
  refine ⟨by simp, ?_, fun j h => by rw [Dev.safeStop_causes, BitVec.getLsbD_or, h, Bool.true_or]⟩
  unfold Dev.safeStop
  cases m
  case ready => exact List.subset_append_left _ _
  case session | degraded =>
    dsimp only
    split
    · exact List.subset_append_left _ _
    · exact List.Subset.refl _
  all_goals exact List.Subset.refl _

/-- A fault of the Degraded kind after its mark as one of class S. -/
theorem degradedFault_marked (s : State) (ev bit : Nat) (sb : Option Nat) (d : Dev) : ∃ e, Grows d e ∧ DevOnly [.saf] d e ∧
    degradedFault s ev bit sb d = degradedFault s ev bit none e := by
  cases sb with
  | none => exact ⟨d, Grows.refl d, DevOnly.refl _ d, rfl⟩
  | some k => exact ⟨markS k d, Grows.markS k d, by simp [devOnly_iff, markS], rfl⟩

/-- Of the lanes' state a fault of the Degraded kind changes the outputs alone, and it undoes no finding. -/
theorem degradedFault_keeps (s : State) (ev bit : Nat) (sb : Option Nat) (d : Dev) :
    Grows d (degradedFault s ev bit sb d) ∧
      ∃ o r, (degradedFault s ev bit sb d).lanes = { d.lanes with outputs := o, request := r } := by
  obtain ⟨e, hg, hm, he⟩ := degradedFault_marked s ev bit sb d
  have hl : e.lanes = d.lanes := hm .lanes (by decide)
  rw [he, ← hl]
  by_cases h : s.clk.mode = .degraded
  · rw [degradedFault_degraded h]
    have ha : Grows e (tripAsked ev bit e) := (Grows.setCause bit e).trans
      ⟨List.Subset.refl _, List.subset_append_left _ _, fun _ => id⟩
    obtain ⟨o, r, k⟩ := endSession_lanes s EndCause.trip (tripAsked ev bit e)
    refine ⟨((hg.trans ha).trans (Grows.endSession _ _ _)).trans
      (Grows.of_only (safeOutputs_only _ _) (by decide) (by decide)), outSafe, outSafe, ?_⟩
    rw [safeOutputs_lanes, k]
    rfl
  · by_cases ho : s.clk.mode = .session ∧ e.ses.isOpen = true
    · rw [degradedFault_session ho.1 ho.2]
      have hb : Grows e (degradedBegun s.clk.frame ev bit e) := Grows.of_only (ps := [.saf, .ses])
        (by simp [devOnly_iff, degradedBegun]) (by decide) (by decide)
      exact ⟨((hg.trans hb).trans (Grows.raise _ _ _ _)).trans (Grows.reqMode _ _ _ _), _, _, rfl⟩
    · rw [degradedFault_other h ho]
      exact ⟨hg.trans (Grows.safeStop _ _ _ _), _, _, by rw [Dev.safeStop_lanes]⟩

/-- A fault of the Degraded kind in a machine whose outputs, session, modes and parameters are those of s. -/
theorem degradedFault_kind (s : State) (ev : Nat) {bit : Nat} (hb : bit < 32) (sb : Option Nat) {d : Dev}
    (hp : d.pow = s.dev.pow) (hs : d.ses = s.dev.ses) (hpar : d.par = s.dev.par)
    (ho : d.lanes.outputs = s.dev.lanes.outputs) :
    DegradedKind ev bit s { s with dev := degradedFault s ev bit sb d } := by
  obtain ⟨e, -, hm, he⟩ := degradedFault_marked s ev bit sb d
  rw [he]
  replace hp : e.pow = s.dev.pow := (hm .pow (by decide)).trans hp
  replace hs : e.ses = s.dev.ses := (hm .ses (by decide)).trans hs
  replace hpar : e.par = s.dev.par := (hm .par (by decide)).trans hpar
  replace ho : e.lanes.outputs = s.dev.lanes.outputs := (congrArg Lanes.outputs (hm .lanes (by decide))).trans ho
  refine ⟨fun hmode hopen => ?_, fun hmode => ?_, fun h₁ h₂ => ?_, rfl, rfl⟩
  · rw [← hs] at hopen
    rw [degradedFault_session hmode hopen, Dev.nat_congr hpar]
    refine ⟨show e.pow.causes = _ by rw [hp], ?_, rfl, hopen, ?_⟩
    · exact List.mem_append_right _ (List.mem_singleton_self _)
    · exact List.mem_append_right _ (List.mem_singleton_self _)
  · rw [degradedFault_degraded hmode]
    have hg := (Grows.endSession s EndCause.trip (tripAsked ev bit e)).trans
      (Grows.of_only (safeOutputs_only s.clk.frame _) (by decide) (by decide))
    refine ⟨hg.causes bit (cause_or_self _ hb), hg.reqs (List.mem_append_right _ (List.mem_singleton_self _)), rfl, ?_⟩
    rw [safeOutputs_only _ _ .ses (by decide)]
    exact endSession_closed _ _ _
  · rw [degradedFault_other h₂ fun k => h₁ k.1]
    refine ⟨by rw [Dev.safeStop_causes, hp], by rw [Dev.safeStop_lanes, ho], ?_⟩
    rw [← hp]
    unfold Dev.safeStop
    revert h₁ h₂
    cases s.clk.mode <;> simp [Dev.setCause]

end Sys2Proof.Machine
end

section
/-!
PROOF. The repair of a lane and its loss, and the faults of the lanes' units (R12, R14, R15, R17, R32, R33, R298).
-/

namespace Sys2Proof.Machine

/-! A lane is lost. -/

/-- Lane l as it is lost, with LANE_LOST logged, before the fault of the Degraded kind that it is (R14, R33). -/
def lostMark (l : Lane) (d : Dev) : Dev :=
  let d := d.onLane l fun r => { r with st := .failed, repair := none }
  ({ d with lanes := { d.lanes with faultLast := faultWord l 0x0F 6 0 true } }).raise Src.serge Event.LANE_LOST []

theorem laneLost_eq (s : State) (l : Lane) (d : Dev) :
    laneLost s l d = degradedFault s Event.LANE_LOST Cause.laneLost none (lostMark l d) := rfl

/-- What the loss of lane l leaves (R14, R33). -/
structure LaneGone (l : Lane) (s t : State) : Prop where
  st : (t.dev.lanes.get l).st = .failed
  repair : (t.dev.lanes.get l).repair = none
  faultLast : t.dev.lanes.faultLast = faultWord l 0x0F 6 0 true
  logged : Logged Src.serge Event.LANE_LOST [] t
  other : t.dev.lanes.get (laneOther l) = s.dev.lanes.get (laneOther l)
  token : t.dev.lanes.token = s.dev.lanes.token
  kind : DegradedKind Event.LANE_LOST Cause.laneLost s t

theorem laneLost_gone {l : Lane} {s : State} {d : Dev} (ho : d.lanes.get (laneOther l) = s.dev.lanes.get (laneOther l))
    (ht : d.lanes.token = s.dev.lanes.token) (hout : d.lanes.outputs = s.dev.lanes.outputs)
    (hd : DevOnly [.lanes, .win, .upd, .diag] s.dev d) : LaneGone l s { s with dev := laneLost s l d } := by
  obtain ⟨hg, o, r, hl⟩ := degradedFault_keeps s Event.LANE_LOST Cause.laneLost none (lostMark l d)
  have hm : DevOnly [.lanes, .win, .upd, .diag, .log] s.dev (lostMark l d) :=
    (hd.mono (by decide)).trans (by simp [devOnly_iff, lostMark])
  have key := degradedFault_kind s Event.LANE_LOST (bit := Cause.laneLost) (by decide) none (d := lostMark l d)
    (hm .pow (by decide)) (hm .ses (by decide)) (hm .par (by decide)) (by cases l <;> exact hout)
  rw [laneLost_eq]
  refine ⟨?_, ?_, ?_, ?_, ?_, ?_, key⟩
  · dsimp only; rw [hl]; cases l <;> rfl
  · dsimp only; rw [hl]; cases l <;> rfl
  · dsimp only; rw [hl]; cases l <;> rfl
  · exact hg.now (List.mem_append_right _ (List.mem_singleton_self _))
  · dsimp only; rw [hl, ← ho]; cases l <;> rfl
  · dsimp only; rw [hl, ← ht]; cases l <;> rfl

/-- A lane in PROBATION is faulted outside an activation (R33): it is lost. -/
theorem faultLane_probation {l : Lane} {s : State} (hst : (s.dev.lanes.get l).st = .probation)
    (ht : s.dev.lanes.token = some (laneOther l)) (hu : s.dev.upd.activation = none)
    (hf : (s.dev.lanes.get (laneOther l)).faultedAt ≠ some s.clk.frame) (cause slot verdict : Nat) (atOnce : Bool) :
    LaneGone l s (faultLane l cause slot verdict atOnce s) := by
  have ht' : s.dev.lanes.token ≠ some l := by simp [ht]
  rw [faultLane_one (by simp [faultIsDual, hf, ht']) cause slot verdict atOnce
    (e := faultedDev l cause slot verdict atOnce s.clk.frame s.dev) (by simp [ht']), if_pos (by simp [faultLoses, hst, hu])]
  have k := faultedDev_lanes l cause slot verdict atOnce s.clk.frame s.dev
  exact laneLost_gone k.other (by rw [k.token, if_neg ht']) k.same.1 (faultedDev_only l cause slot verdict atOnce _ _)

/-! Repair steps. -/

section
variable {l : Lane} {s : State} {step : RepairStep}

theorem exec_repairStep_done (h : (s.dev.lanes.get l).repair = some step) (bad : BitVec 4) {d : Dev}
    (hd : (if step = .rebuildArray then rebuildArray s.clk.frame l s.dev else s.dev) = d) :
    exec (.laneRepairStepDone l true bad) s =
      .next { s with dev := d.onLane l (repairStepEff bad step (inTrial l d)) } := by
  subst hd
  show execLaneRepairStepDone l true bad s = _
  simp only [execLaneRepairStepDone, devStep, State.onDev, h, if_true]

theorem exec_repairStep_failed (h : (s.dev.lanes.get l).repair = some step) (hu : s.dev.upd.activation = none)
    (bad : BitVec 4) : exec (.laneRepairStepDone l false bad) s = .next { s with dev := laneLost s l s.dev } := by
  show execLaneRepairStepDone l false bad s = _
  simp [execLaneRepairStepDone, devStep, State.onDev, h, hu]

end

/-- The array of a lane rebuilt from the other's, both arrays answering (R27, R32). -/
theorem rebuildArray_clones {l : Lane} {d : Dev} (h : ∀ m, (d.lanes.get m).mramLost = false) (n : Nat) :
    (rebuildArray n l d).led.array l = (d.led.array (laneOther l)).clonedTo (d.led.array l) ∧
      (rebuildArray n l d).led.array (laneOther l) = d.led.array (laneOther l) ∧
      (rebuildArray n l d).lanes = d.lanes ∧ (rebuildArray n l d).upd = d.upd ∧
      (rebuildArray n l d).log =
        { d.log with now := d.log.now ++ [.of Src.own Event.ARRAY_REBUILT (leBytes 1 (laneCode l) ++ leBytes 8 n)] } ∧
      DevOnly [.led, .log] d (rebuildArray n l d) := by
  have ha := h l
  have hb := h (laneOther l)
  cases l <;> simp only [rebuildArray, ha, hb, if_neg Bool.false_ne_true] <;>
    exact ⟨rfl, rfl, rfl, rfl, rfl, by simp [devOnly_iff]⟩

end Sys2Proof.Machine

open Sys2Proof Sys2Proof.Machine

/-- Settles O12: a step that completes, the step of the array, a step that fails, a fault in PROBATION, and the return. -/
theorem repairRows : Obligations.RepairRows := by
  refine ⟨fun l bad step s h => ⟨fun hs => ?_, fun hs hm => ?_, fun hu => ?_⟩, fun l slot s hr hst ht hu hf => ?_,
    fun l s hst hc => ?_⟩
  · refine ⟨_, exec_repairStep_done h bad (if_neg hs), ?_⟩
    have hst : ((repairStepEff bad step (inTrial l s.dev) (s.dev.lanes.get l)).st) =
        if (nextRepair step).2 = .probation ∧ inTrial l s.dev = true then .trial else (nextRepair step).2 := by
      simp [repairStepEff]
    refine ⟨?_, hst ▸ ?_, ?_, ?_, ?_, OnlyChanges.onDev (by simp [devOnly_iff])⟩
    all_goals cases l <;> rfl
  · subst hs
    obtain ⟨hown, hother, hl, hupd, hlog, honly⟩ := rebuildArray_clones (l := l) hm s.clk.frame
    refine ⟨_, exec_repairStep_done h bad (if_pos rfl), ?_, ?_, ?_, hown, hother, hlog, ?_, ?_, OnlyChanges.dev ?_⟩
    · simp [Dev.onLane, repairStepEff, nextRepair]
    · simp [Dev.onLane, repairStepEff, nextRepair]
    · simp [Dev.onLane, repairStepEff]
    · simp [Dev.onLane, hl]
    · simp only [Dev.onLane, hl]; cases l <;> rfl
    · exact (honly.mono (by decide)).trans (by simp [devOnly_iff])
  · obtain ⟨a, b, c, d, e, f, g⟩ := laneLost_gone (l := l) (s := s) rfl rfl rfl (DevOnly.refl _ _)
    exact ⟨_, exec_repairStep_failed h hu bad, a, b, c, d, e, f, g⟩
  · obtain ⟨a, b, -, d, e, f, g⟩ := faultLane_probation hst ht hu hf 0x06 (deadlineCode slot) 0 true
    exact ⟨_, exec_slotDeadlineFault (by simp [laneWorks, hr, hst]) slot, a, b, d, e, f, g⟩
  · refine Completes.of_when (b := repairedDue l) rfl (by simp [repairedDue, hst, hc]) ⟨?_, ?_, ?_, ?_, ?_, OnlyChanges.onDev (by simp [devOnly_iff, repairedEff])⟩
    all_goals cases l <;> rfl

end

section
/-!
PROOF. The faults of an array, of the mirror memory and of SERGE (R12, R15, R17, R298), and the crystals (R18, R476).
-/

namespace Sys2Proof.Machine

/-! SERGE's fault. -/

/-- SERGE's fault up to the cause that it sets (R17). -/
def sergeOut (s : State) : Dev :=
  let d := safeOutputs s.clk.frame (endSession s EndCause.trip s.dev)
  ({ d with lanes := { d.lanes with sergeFault := true, windowGate := gateAtFault d.lanes, token := none } }).sergeRaise
    s.clk.frame Event.SERGE_FAULT []

theorem exec_sergeFault (s : State) :
    exec .sergeFault s = .next { s with dev := (sergeOut s).safeStop s.clk.mode Cause.serge Event.SERGE_FAULT } := rfl

theorem gateAtFault_outputs (x : Lanes) (o r : BitVec 3) :
    gateAtFault { x with outputs := o, request := r } = gateAtFault x := rfl

/-- A SERGE fault asks for Safe-stop from Ready, Session and Degraded (R43). -/
theorem safeStop_serge_asks {m : Mode} (h : m = .ready ∨ m = .session ∨ m = .degraded) (ev : Nat) (d : Dev) :
    ⟨.safeStop, .toSafeStop, causeEvent ev⟩ ∈ (d.safeStop m Cause.serge ev).pow.modeReqs := by
  have hmem : (⟨.safeStop, .toSafeStop, causeEvent ev⟩ : ModeReq) ∈
      d.pow.modeReqs ++ [⟨.safeStop, .toSafeStop, causeEvent ev⟩] := List.mem_append_right _ (List.mem_singleton_self _)
  rcases h with rfl | rfl | rfl <;> exact hmem

theorem sergeOut_lanes (s : State) : ∃ q o, (sergeOut s).lanes = { s.dev.lanes with
    sergeFault := true, windowGate := gateAtFault s.dev.lanes, token := none, queue := q, outputs := outSafe, request := o } := by
  obtain ⟨o, r, h⟩ := endSession_lanes s EndCause.trip s.dev
  refine ⟨sergeQueued s.clk.frame Event.SERGE_FAULT [] s.dev.lanes.queue, outSafe, ?_⟩
  simp only [sergeOut, Dev.sergeRaise_lanes, safeOutputs_lanes, h, gateAtFault]

/-! Crystals. -/

/-- SERGE's side of a failed crystal (R18): the tick moves to the other, and CRYSTAL_FAILED is queued. -/
def crystalMark (x : Xtal) (s : State) : State :=
  s.onDev fun d => ({ d with lanes := { d.lanes with
    xaFailed := d.lanes.xaFailed || decide (x = Xtal.xa), xbFailed := d.lanes.xbFailed || !decide (x = Xtal.xa)
    tickSource := if d.lanes.tickSource = x then xtalOther x else d.lanes.tickSource } }).sergeRaise s.clk.frame
      Event.CRYSTAL_FAILED (leBytes 1 (if decide (x = Xtal.xa) = true then 0 else 1))

/-- A failed crystal whose lane's PLL has moved to the other. -/
def crystalMove (x : Xtal) (s : State) : State :=
  (crystalMark x s).onDev (Dev.onLane (xtalLane x) fun r => { r with pll := xtalOther x })

theorem holdFlags_lanes (d : Dev) : (holdFlags d).lanes = d.lanes := by
  unfold holdFlags
  split <;> rfl

theorem dualFault_crystalOut (s : State) (x : Xtal) : (dualFault s).dev.lanes.crystalOut x = s.dev.lanes.crystalOut x := by
  have h := logFrame_only s.clk.frame
  refine (congrArg (Lanes.crystalOut · x) (h _ .lanes (by decide))).trans ?_
  cases x <;> simp [Lanes.crystalOut, holdFlags_lanes]

section
variable {x : Xtal} {s t : State}

theorem crystalFail_last (h : s.dev.lanes.crystalOut x = false) (ho : s.dev.lanes.crystalOut (xtalOther x) = true) (slot : Nat)
    (atOnce : Bool) : crystalFail x slot atOnce s = dualFault (crystalMark x s) := by
  cases x <;> simp only [Lanes.crystalOut, xtalOther] at h ho <;> simp [crystalFail, crystalMark, State.onDev, xtalOther, h, ho]

theorem crystalFail_one (h : s.dev.lanes.crystalOut x = false) (ho : s.dev.lanes.crystalOut (xtalOther x) = false) (slot : Nat)
    (atOnce : Bool) : crystalFail x slot atOnce s =
      whenS (laneWorks (xtalLane x) (crystalMove x s)) (faultLane (xtalLane x) 0x0E slot 1 atOnce) (crystalMove x s) := by
  cases x <;> simp only [Lanes.crystalOut, xtalOther] at h ho <;>
    simp [crystalFail, crystalMove, crystalMark, State.onDev, xtalOther, xtalLane, h, ho]

theorem crystalMark_same (l : Lane) (x : Xtal) (s : State) : SameService [.lanes] l s (crystalMark x s) := by
  refine ⟨OnlyChanges.onDev (by simp [devOnly_iff]), ?_, ?_, rfl, rfl, ⟨rfl, rfl⟩, ⟨rfl, rfl, rfl⟩⟩
  · cases l <;> exact ⟨rfl, rfl⟩
  · cases l <;> rfl

theorem crystalMove_same (x : Xtal) (s : State) : SameService [.lanes] (xtalLane x) s (crystalMove x s) :=
  (crystalMark_same _ x s).trans (SameService.onLane _ _ fun _ => ⟨rfl, rfl⟩)

theorem crystalMark_out (x : Xtal) (s : State) : (crystalMark x s).dev.lanes.crystalOut x = true := by
  cases x <;> simp [crystalMark, Lanes.crystalOut]

theorem crystalMove_moved (h : s.dev.lanes.crystalOut (xtalOther x) = false) : CrystalMoved x s (crystalMove x s) := by
  cases x <;> simp only [Lanes.crystalOut, xtalOther] at h <;>
    simp [CrystalMoved, crystalMove, crystalMark, Lanes.crystalOut, xtalOther, xtalLane, Dev.onLane, Lanes.map, Lanes.get, h]

/-- What a later change of the lanes keeps of a failed crystal. -/
theorem CrystalMoved.of_lanes {u : State} (h : CrystalMoved x s t)
    (hl : u.dev.lanes.tickSource = t.dev.lanes.tickSource ∧ u.dev.lanes.xaFailed = t.dev.lanes.xaFailed ∧
      u.dev.lanes.xbFailed = t.dev.lanes.xbFailed)
    (hp : (u.dev.lanes.get (xtalLane x)).pll = (t.dev.lanes.get (xtalLane x)).pll) (hs : u.dev.samp = t.dev.samp) :
    CrystalMoved x s u := by
  obtain ⟨h₁, h₂, h₃, h₄, h₅⟩ := h
  obtain ⟨ht, ha, hb⟩ := hl
  have key (y : Xtal) : u.dev.lanes.crystalOut y = t.dev.lanes.crystalOut y := by cases y; exacts [ha, hb]
  exact ⟨(key x).trans h₁, (key _).trans h₂, hp.trans h₃, ht.trans h₄, hs.trans h₅⟩

/-- A crystal fails whose lane is a follow (R18): the lane is repaired. -/
theorem crystalFail_follow (h : s.dev.lanes.crystalOut x = false) (ho : s.dev.lanes.crystalOut (xtalOther x) = false)
    (hf : FaultableFollow (xtalLane x) s) (slot : Nat) (atOnce : Bool) :
    CrystalMoved x s (crystalFail x slot atOnce s) ∧
      FollowFaulted (xtalLane x) 0x0E slot 1 s (crystalFail x slot atOnce s) := by
  have k := crystalMove_same x s
  obtain ⟨-, -, -, -, hd, -⟩ := id hf
  have hf' := k.faultableFollow (by rw [crystalMove, State.onDev_dev, onLane_dispute]; exact hd) hf
  obtain ⟨-, -, -, hw⟩ := hf'.single
  rw [crystalFail_one h ho, hw, whenS_true]
  have y := faultLane_follow_lanes hf' 0x0E slot 1 atOnce
  have f := faultLane_follow hf' 0x0E slot 1 atOnce
  obtain ⟨-, -, -, -, -, -, -, -, -, -, -, honly⟩ := id f
  obtain ⟨-, -, -, hsrc⟩ := y.same
  exact ⟨(crystalMove_moved ho).of_lanes hsrc y.pll (honly .samp (by decide)), f.of_same k⟩

/-- A crystal fails whose lane leads (R18, R22): the token passes, at once or at the next tick. -/
theorem crystalFail_lead (h : s.dev.lanes.crystalOut x = false) (ho : s.dev.lanes.crystalOut (xtalOther x) = false)
    (hf : FaultableLead (xtalLane x) s) (slot : Nat) (atOnce : Bool) :
    CrystalMoved x s (crystalFail x slot atOnce s) ∧
      (atOnce = true → TokenAtOnce (xtalLane x) 0x0E slot 1 s (crystalFail x slot atOnce s)) ∧
      (atOnce = false → TokenNextTick (xtalLane x) 0x0E slot 1 s (crystalFail x slot atOnce s)) := by
  have k := crystalMove_same x s
  obtain ⟨-, -, -, -, -, -, hd, -⟩ := id hf
  have hf' := k.faultableLead (by rw [crystalMove, State.onDev_dev, onLane_dispute]; exact hd) hf
  obtain ⟨-, -, hw⟩ := hf'.single
  rw [crystalFail_one h ho, hw, whenS_true]
  obtain ⟨y, hy, p⟩ := faultLane_lead_lanes hf' 0x0E slot 1 atOnce
  obtain ⟨-, -, -, honly⟩ := faultLane_lead_only hf' 0x0E slot 1 atOnce
  obtain ⟨-, -, -, ysrc, ya, yb⟩ := hy.same
  obtain ⟨-, -, psrc, pa, pb, -⟩ := p.same
  have km : SameService [.lanes, .win] (xtalLane x) s (crystalMove x s) := k.mono (by decide)
  refine ⟨(crystalMove_moved ho).of_lanes ⟨psrc.trans ysrc, pa.trans ya, pb.trans yb⟩ (by rw [p.faulted, hy.pll])
    (honly .samp (by decide)), fun ha => ?_, fun ha => ?_⟩
  · subst ha
    exact (faultLane_atOnce hf' _ _ _).of_same km
  · subst ha
    exact (faultLane_nextTick hf' _ _ _).of_same km

/-- The last crystal fails (R476): both lanes are out. -/
theorem crystalFail_both (h : s.dev.lanes.crystalOut x = false) (ho : s.dev.lanes.crystalOut (xtalOther x) = true) (slot : Nat)
    (atOnce : Bool) : (crystalFail x slot atOnce s).dev.lanes.crystalOut x = true ∧ BothLanesOut s (crystalFail x slot atOnce s) := by
  rw [crystalFail_last h ho]
  exact ⟨(dualFault_crystalOut _ x).trans (crystalMark_out x s), (dualFault_out _).of_steady (Steady.onDev s _)⟩

end

/-! The 1 s measurement. -/

/-- The measurement of the crystals as it is kept (R18, R206). -/
def crystalsMeasured (xa xb : Int) (s : State) : State :=
  s.onDev fun d => rtcMeasure xa xb { d with lanes := { d.lanes with xaDev := xa, xbDev := xb } }

theorem rtcMeasure_only (xa xb : Int) (d : Dev) : DevOnly [.tar] d (rtcMeasure xa xb d) :=
  DevOnly.ite (fun _ => DevOnly.refl _ d) fun _ => by simp [devOnly_iff]

theorem crystalsMeasured_lanes (xa xb : Int) (s : State) :
    (crystalsMeasured xa xb s).dev.lanes = { s.dev.lanes with xaDev := xa, xbDev := xb } :=
  rtcMeasure_only xa xb _ .lanes (by decide)

theorem crystalsMeasured_only (xa xb : Int) (s : State) : OnlyChanges [.lanes, .tar] s (crystalsMeasured xa xb s) :=
  OnlyChanges.onDev (DevOnly.trans (by simp [devOnly_iff]) ((rtcMeasure_only xa xb _).mono (by decide)))

theorem crystalsMeasured_same (l : Lane) (xa xb : Int) (s : State) :
    SameService [.lanes, .tar] l s (crystalsMeasured xa xb s) := by
  have h := crystalsMeasured_lanes xa xb s
  refine ⟨crystalsMeasured_only xa xb s, ?_, ?_, ?_, ?_, ?_, ?_⟩ <;> rw [h]
  · cases l <;> exact ⟨rfl, rfl⟩
  · cases l <;> rfl
  · exact ⟨rfl, rfl⟩
  · exact ⟨rfl, rfl, rfl⟩

theorem crystalVerdict_none {xa xb : Int} (ha : xa.natAbs ≤ 100000) (hb : xb.natAbs ≤ 100000) : crystalVerdict xa xb = none := by
  simp [crystalVerdict, Nat.not_lt.2 ha, Nat.not_lt.2 hb]

theorem exec_crystalMeasurement {xa xb : Int} {s : State} (h : s.clk.running = true) :
    exec (.crystalMeasurement xa xb) s = .next (match crystalVerdict xa xb with
      | some x => crystalFail x 6 true (crystalsMeasured xa xb s)
      | none => crystalsMeasured xa xb s) := by
  show execCrystalMeasurement xa xb s = _
  simp only [execCrystalMeasurement, h, whenS_true]
  rfl

/-- What a measurement keeps of the crystals and of a lane that can be faulted. -/
theorem crystalsMeasured_moved {x : Xtal} {xa xb : Int} {s t : State} (h : CrystalMoved x (crystalsMeasured xa xb s) t) :
    CrystalMoved x s t := by
  have hl := crystalsMeasured_lanes xa xb s
  obtain ⟨-, -, -, honly⟩ := crystalsMeasured_only xa xb s
  obtain ⟨h₁, h₂, h₃, h₄, h₅⟩ := h
  rw [hl] at h₄
  exact ⟨h₁, h₂, h₃, h₄, h₅.trans (honly .samp (by decide))⟩

theorem crystalsMeasured_crystalOut (x : Xtal) (xa xb : Int) (s : State) :
    (crystalsMeasured xa xb s).dev.lanes.crystalOut x = s.dev.lanes.crystalOut x := by
  rw [crystalsMeasured_lanes]
  cases x <;> rfl

theorem crystalsMeasured_dispute (xa xb : Int) (s : State) :
    (crystalsMeasured xa xb s).dev.lanes.dispute = s.dev.lanes.dispute := by rw [crystalsMeasured_lanes]

end Sys2Proof.Machine

open Sys2Proof Sys2Proof.Machine

/-- Settles O13: the array's, the mirror memory's and SERGE's fault. -/
theorem unitFaultRows : Obligations.UnitFaultRows := by
  refine ⟨fun l s => ?_, fun s => ?_, fun s => ?_⟩
  · cases h : (s.dev.lanes.get l).mramLost with
    | true =>
      have he : exec (.mramArrayLost l) s = .next s := by
        show execMramArrayLost l s = _
        simp only [execMramArrayLost, devStep, State.onDev, h, Bool.not_true, Dev.when_false]
      exact ⟨s, he, h, rfl, fun k => absurd k (by simp), fun _ => rfl, OnlyChanges.refl _ s⟩
    | false =>
      refine Completes.of_when (b := fun d => !(d.lanes.get l).mramLost) rfl (by simp [h])
        ⟨?_, ?_, fun _ => ⟨?_, ?_, ?_⟩, fun k => absurd k (by simp), OnlyChanges.onDev (by simp [devOnly_iff])⟩
      all_goals cases l <;> rfl
  · refine Completes.of_devStep rfl ?_
    let d : Dev := ({ s.dev with lanes := { s.dev.lanes with mirrorCold := true } } : Dev).raise Src.own Event.MIRROR_FAULT []
    obtain ⟨hg, o, r, hl⟩ := degradedFault_keeps s Event.MIRROR_FAULT Cause.safetyLatch (some SBit.mirror) d
    exact ⟨(congrArg Lanes.mirrorCold hl).trans rfl, hg.now (List.mem_append_right _ (List.mem_singleton_self _)),
      (congrArg Lanes.token hl).trans rfl,
      degradedFault_kind s Event.MIRROR_FAULT (by decide) (some SBit.mirror) (d := d) rfl rfl rfl rfl⟩
  · refine ⟨_, exec_sergeFault s, ?_⟩
    obtain ⟨q, o, hl⟩ := sergeOut_lanes s
    have ho : (sergeOut s).ses.isOpen = false :=
      (congrArg Ses.isOpen (safeOutputs_only s.clk.frame _ .ses (by decide))).trans (endSession_closed _ _ _)
    have hv : (sergeOut s).veh.applied = .forceF := rfl
    dsimp only
    simp only [Lanes.OutputsSafe, Dev.safeStop_lanes, Dev.safeStop_veh, Dev.safeStop_ses, Dev.safeStop_causes, hl, hv, ho]
    refine ⟨trivial, trivial, trivial, trivial, fun h => ?_, fun h => ?_, cause_or_self _ (by decide), trivial,
      fun h => safeStop_serge_asks h _ _, trivial, trivial⟩
    · simp only [gateAtFault, h, if_neg Bool.false_ne_true]
    · simp only [gateAtFault, h, if_true]

/-- Settles O14: the gap of the tick, the measurement of the crystals, and a crystal that fails. -/
theorem tickAndCrystalRows : Obligations.TickAndCrystalRows := by
  refine ⟨fun frames s hr hf => ?_, fun xa xb s hr ha hb => ?_, fun x xa xb s hx ho hv => ⟨fun hf => ?_, fun hf => ?_⟩,
    fun x slot s hx => ⟨fun ho => ⟨fun hf => ?_, fun hf hs => ?_, fun hf hs => ?_⟩, fun ho => ?_⟩⟩
  · exact Completes.of_when (b := fun _ => s.clk.running && decide (2 ≤ frames)) rfl (by simp [hr, hf])
      ⟨rfl, rfl, rfl, rfl, OnlyChanges.onDev (by simp [devOnly_iff, addGap, billGap, lpMark, demandsShort])⟩
  · refine ⟨_, exec_crystalMeasurement hr, ?_⟩
    have hl := crystalsMeasured_lanes xa xb s
    rw [crystalVerdict_none ha hb]
    dsimp only
    exact ⟨by rw [hl], by rw [hl], by rw [hl], by rw [hl], by rw [hl], (crystalsMeasured_only xa xb s).mono (by decide)⟩
  · have k := crystalsMeasured_same (xtalLane x) xa xb s
    obtain ⟨hr, -, -, -, hd, -⟩ := id hf
    obtain ⟨hm, hw, -, -, -, ht, -, -, -, -, hclk, hregs, -⟩ := crystalFail_follow (x := x) (s := crystalsMeasured xa xb s)
      (by rw [crystalsMeasured_crystalOut, hx]) (by rw [crystalsMeasured_crystalOut, ho])
      (k.faultableFollow (by rw [crystalsMeasured_dispute, hd]) hf) 6 true
    refine ⟨_, exec_crystalMeasurement hr, ?_⟩
    rw [hv]
    exact ⟨crystalsMeasured_moved hm, hw, ht.trans k.token, hclk (by decide), hregs (by decide)⟩
  · have k := crystalsMeasured_same (xtalLane x) xa xb s
    obtain ⟨hr, -, -, -, -, -, hd, -⟩ := id hf
    obtain ⟨hm, hp, -⟩ := crystalFail_lead (x := x) (s := crystalsMeasured xa xb s)
      (by rw [crystalsMeasured_crystalOut, hx]) (by rw [crystalsMeasured_crystalOut, ho])
      (k.faultableLead (by rw [crystalsMeasured_dispute, hd]) hf) 6 true
    obtain ⟨hw, ht, -, -, -, -, -, hclk, hregs, -⟩ := hp rfl
    refine ⟨_, exec_crystalMeasurement hr, ?_⟩
    rw [hv]
    exact ⟨crystalsMeasured_moved hm, hw, ht, hclk (by decide), hregs (by decide)⟩
  · exact ⟨_, rfl, crystalFail_follow hx ho hf slot _⟩
  · obtain ⟨hm, ht, -⟩ := crystalFail_lead hx ho hf slot (decide (slot < 4))
    exact ⟨_, rfl, hm, ht (decide_eq_true hs)⟩
  · obtain ⟨hm, -, ht⟩ := crystalFail_lead hx ho hf slot (decide (slot < 4))
    exact ⟨_, rfl, hm, ht (decide_eq_false (Nat.not_lt.2 hs))⟩
  · exact ⟨_, rfl, crystalFail_both hx ho slot _⟩

end

section
/-!
SUPPORT. The vehicle link (R30, R244 to R249, R252, R257, R258): the rows of the lead's protocol state, the answer to a
message, the limit stack, and what an authorisation and a refused contract leave.
-/

namespace Sys2Proof.Machine

/-! Rows of the lead's protocol state. -/

theorem protoStep_committed {s : State} (h : Committed s) (f : Dev → Dev) : protoStep s f = .next (s.onDev f) := by
  rw [protoStep, h]
  rfl

theorem protoStep_uncommitted {s : State} (h : ¬Committed s) (f : Dev → Dev) : protoStep s f = .next s := by
  rw [protoStep, Bool.eq_false_iff.2 h]
  rfl

theorem Completes.of_proto {c : Instr} {s : State} {f : Dev → Dev} {P : State → Prop} (hc : Committed s)
    (h : exec c s = protoStep s f) (k : P (s.onDev f)) : Completes c s P := ⟨_, h.trans (protoStep_committed hc f), k⟩

/-- A row of the protocol state that takes its effect where a condition holds, in a state where it holds. -/
theorem Completes.of_protoWhen {c : Instr} {s : State} {b : Dev → Bool} {f : Dev → Dev} {P : State → Prop}
    (hc : Committed s) (h : exec c s = protoStep s fun d => d.when (b d) f) (hb : b s.dev = true) (k : P (s.onDev f)) :
    Completes c s P := by
  refine Completes.of_proto hc h ?_
  rw [State.onDev, hb]
  exact k

/-- Each row of the protocol state leaves nothing in a frame whose delta carries no commit marker (R31). -/
theorem exec_protocolRow {c : Instr} (h : protocolRow c = true) {s : State} (hc : ¬Committed s) : exec c s = .next s := by
  cases c
  case dlmsApdu x =>
    show execDlmsApdu x s = _
    simp only [execDlmsApdu, Bool.eq_false_iff.2 hc, Bool.and_false]
    cases assocOf x.assoc s.dev <;> rfl
  case slacParmReq | slacMatched | slacInitTimeout | sdpRequest | supportedAppProtocol | sessionSetup |
      paymentServiceSelection | serviceDiscovery | authorizationReq | pncValidated | pncHostTimeout |
      chargeParameterDiscovery | powerDeliveryReq | chargingLoopReq | cableCheckReq | preChargeReq | weldingDetectionReq |
      sessionStopReq | gplcFrameReceived | toneMapResponse | toneMapAge | routeRequest | routeReply | routeExpiry |
      gplcJoined | gplcPanLost | bootstrapRetry | packetDelivered | packetDropped | dlmsAssociated | dlmsInactivity |
      imageTransferInitiate | imageBlockTransfer | keyTransfer | gauzePing | pollWhilePresent | sWtxRequest =>
    exact protoStep_uncommitted hc _
  all_goals exact absurd h (by simp [protocolRow])

/-! The answer to a message. -/

theorem reply_only (code : RespCode) (fin : Bool) (vs : List Int) (d : Dev) : DevOnly [.veh] d (reply code fin vs d) := by
  simp [devOnly_iff, reply]

@[simp] theorem reply_veh (code : RespCode) (fin : Bool) (vs : List Int) (d : Dev) : (reply code fin vs d).veh =
    { d.veh with answer := some ⟨code, fin, d.ses.stop.isSome, d.dc.stageLost, vs⟩ } := rfl

/-! Outputs that a row changes. -/

theorem waveNow_only (c : Clk) (d : Dev) : DevOnly [.lanes, .saf, .veh] d (waveNow c d) := by
  simp [devOnly_iff, waveNow, latchOutputs, waveStep, applyOutputs]

/-- The vehicle link after a change of the wave: what is asked of the pilot, what is latched and what is applied. -/
theorem waveNow_veh (c : Clk) (d : Dev) : ∃ q l a, (waveNow c d).veh = { d.veh with request := q, latched := l, applied := a } :=
  ⟨_, _, _, rfl⟩

/-! The limit stack (R257, R258). -/

theorem peCycle_only (complete : Bool) (un : Nat) (d : Dev) : DevOnly [.metr, .saf] d (peCycle complete un d) :=
  DevOnly.ite (fun _ => by simp [devOnly_iff]) fun _ => DevOnly.refl _ d

theorem DevOnly.setMetr {d e : Dev} (h : DevOnly [.metr, .saf] d e) (m : Metr) :
    DevOnly [.metr, .saf] d { e with metr := m } := h.trans (by simp [devOnly_iff])

theorem zeroCrossingEff_only (n side : Nat) (d : Dev) : DevOnly [.metr, .saf] d (zeroCrossingEff n side d) := by
  unfold zeroCrossingEff
  dsimp only
  split
  · exact DevOnly.refl _ d
  · split
    · refine DevOnly.setMetr ?_ _
      refine DevOnly.trans ?_ (peCycle_only _ _ _)
      simp [devOnly_iff, gridEvents]
    · simp [devOnly_iff]

theorem closePending_only (n : Nat) (d : Dev) : DevOnly [.metr, .saf] d (closePending n d) :=
  (zeroCrossingEff_only n 0 d).trans (zeroCrossingEff_only n 1 _)

theorem limitStack_ses (tariff : Nat) (d : Dev) : ∃ ls i p b x y, (limitStack tariff d).ses =
    { d.ses with limits := ls, limitDc := i, limitP := p, binding := b, limitDis := x, limitDisP := y } := by
  unfold limitStack
  split <;> exact ⟨_, _, _, _, _, _, rfl⟩

/-- What a step of the limits leaves of a machine d with limits that stand in e's session. -/
structure LimitsTaken (d t : Dev) : Prop where
  only : DevOnly [.lanes, .log, .veh, .ses, .saf] d t
  grows : Grows d t
  veh : ∃ q l a, t.veh = { d.veh with request := q, latched := l, applied := a }
  stop : t.ses.stop = d.ses.stop

/-- The session as the pause finds it (R258): paused, with the time from which an outlet of basic charging may open. -/
def pausedDev (o : Option Nat) (st : Nat) (d : Dev) : Dev :=
  { d with ses := { d.ses with paused := true, limitOk := none, pauseOpen := o, st := st } }

theorem pauseStep_cases (s : State) (d : Dev) : pauseStep s d = d ∨
    (∃ o, pauseStep s d = { d with ses := { d.ses with limitOk := o } }) ∨
    ∃ o st x, pauseStep s d = waveNow s.clk ((pausedDev o st d).raise Src.vehicle Event.SESSION_PAUSED x) := by
  unfold pauseStep
  dsimp only
  split
  · exact .inl rfl
  · split
    · exact .inr (.inl ⟨_, rfl⟩)
    · split
      · exact .inr (.inr ⟨_, _, _, rfl⟩)
      · exact .inl rfl

theorem pauseStep_taken (s : State) (d : Dev) : LimitsTaken d (pauseStep s d) ∧
    (pauseStep s d).ses.limitDc = d.ses.limitDc ∧ (pauseStep s d).ses.limitP = d.ses.limitP := by
  rcases pauseStep_cases s d with h | ⟨o, h⟩ | ⟨o, st, x, h⟩ <;> rw [h]
  · exact ⟨⟨DevOnly.refl _ d, Grows.refl d, ⟨_, _, _, rfl⟩, rfl⟩, rfl, rfl⟩
  · exact ⟨⟨by simp [devOnly_iff], Grows.of_eq rfl rfl, ⟨_, _, _, rfl⟩, rfl⟩, rfl, rfl⟩
  · have hp : DevOnly [.log, .ses] d ((pausedDev o st d).raise Src.vehicle Event.SESSION_PAUSED x) := by
      simp [devOnly_iff, pausedDev]
    have hw := waveNow_only s.clk ((pausedDev o st d).raise Src.vehicle Event.SESSION_PAUSED x)
    have hs : _ = (pausedDev o st d).ses := hw .ses (by decide)
    refine ⟨⟨(hp.mono (by decide)).trans (hw.mono (by decide)), ?_, waveNow_veh _ _, by rw [hs]; rfl⟩,
      by rw [hs]; rfl, by rw [hs]; rfl⟩
    exact Grows.trans (e := pausedDev o st d) (Grows.of_eq rfl rfl)
      ((Grows.raise _ _ _ _).trans (Grows.of_only hw (by decide) (by decide)))

/-- The metering that counts already for the limits: a step of the limits takes those of the stack over it. -/
theorem limitStep_eq (s : State) (d : Dev) : ∃ e, DevOnly [.metr, .saf] d e ∧
    limitStep s d = pauseStep s { d with ses := (limitStack s.regs.tariff e).ses } :=
  ⟨closePending s.clk.frame d, closePending_only _ d, rfl⟩

theorem limitStep_taken (s : State) (d : Dev) : LimitsTaken d (limitStep s d) := by
  obtain ⟨e, he, h⟩ := limitStep_eq s d
  obtain ⟨ls, i, p, b, x, y, hses⟩ := limitStack_ses s.regs.tariff e
  have hs : e.ses = d.ses := he .ses (by decide)
  obtain ⟨⟨honly, hgrows, hveh, hstop⟩, -⟩ := pauseStep_taken s { d with ses := (limitStack s.regs.tariff e).ses }
  rw [h]
  refine ⟨DevOnly.trans (by simp [devOnly_iff]) honly, ⟨hgrows.now, hgrows.reqs, hgrows.causes⟩, hveh, hstop.trans ?_⟩
  dsimp only
  rw [hses, hs]

/-! Least inputs. -/

theorem least_le {xs : List (Nat × Nat)} {x : Nat × Nat} (h : x ∈ xs) : (least xs).1 ≤ x.1 := by
  induction xs with
  | nil => exact absurd h (by simp)
  | cons y ys ih =>
    cases ys with
    | nil =>
      obtain rfl : x = y := by simpa using h
      exact Nat.le_refl _
    | cons z zs =>
      rw [least]
      rcases List.mem_cons.1 h with rfl | hx
      · split
        · rename_i hb
          simp only [bindsBefore, Bool.or_eq_true, Bool.and_eq_true, decide_eq_true_eq] at hb
          omega
        · exact Nat.le_refl _
      · have hle := ih hx
        split
        · exact hle
        · rename_i hb
          simp only [bindsBefore, Bool.or_eq_true, Bool.and_eq_true, decide_eq_true_eq, not_or, not_and] at hb
          omega

theorem least_mem {xs : List (Nat × Nat)} (h : xs ≠ []) : least xs ∈ xs := by
  induction xs with
  | nil => exact absurd rfl h
  | cons y ys ih =>
    cases ys with
    | nil => exact List.mem_singleton_self y
    | cons z zs =>
      rw [least]
      split
      · exact List.mem_cons_of_mem _ (ih (by simp))
      · exact List.mem_cons_self

theorem limitStep_limits (s : State) (d : Dev) : ∃ e, DevOnly [.metr, .saf] d e ∧
    (limitStep s d).ses.limitDc = (limitStack s.regs.tariff e).ses.limitDc ∧
    (limitStep s d).ses.limitP = (limitStack s.regs.tariff e).ses.limitP := by
  obtain ⟨e, he, h⟩ := limitStep_eq s d
  obtain ⟨-, hi, hp⟩ := pauseStep_taken s { d with ses := (limitStack s.regs.tariff e).ses }
  rw [h]
  exact ⟨e, he, hi, hp⟩

/-- On a DC outlet the vehicle's maxima bound the limits for current and for power (R257). -/
theorem limitStack_dc {tariff : Nat} {d : Dev} (h : dcKind d = true) (hk : d.veh.evKnown = true) :
    (limitStack tariff d).ses.limitDc ≤ d.veh.evMaxI ∧ (limitStack tariff d).ses.limitP ≤ d.veh.evMaxP := by
  rw [limitStack, if_pos h]
  exact ⟨least_le (x := (d.veh.evMaxI, 2)) (by simp [dcInputs, hk]),
    least_le (x := (d.veh.evMaxP, 2)) (by simp [dcPowerInputs, hk])⟩

/-- On an AC outlet with digital communication the vehicle's maximum current bounds the limit (R257). -/
theorem limitStack_ac {tariff : Nat} {d : Dev} (h : dcKind d = false) (hk : d.veh.evKnown = true) (hl : d.veh.link = .hlc) :
    (limitStack tariff d).ses.limitDc ≤ d.veh.evMaxI := by
  rw [limitStack, if_neg (by simp [h])]
  have hpos : 0 < phasesUsed d := by unfold phasesUsed; split <;> decide
  have hmem : least (acInputs d tariff 0) ∈ (List.range (phasesUsed d)).map fun k => least (acInputs d tariff k) :=
    List.mem_map.2 ⟨0, List.mem_range.2 hpos, rfl⟩
  exact (least_le hmem).trans (least_le (x := (d.veh.evMaxI, 2)) (by simp [acInputs, hk, hl]))

/-! An authorisation is taken, a contract is refused (R248, R251, R252). -/

theorem recordAuth_only (d : Dev) : DevOnly [.led] d (recordAuth d) :=
  DevOnly.ite (fun _ => by simp [devOnly_iff, onRecord]) fun _ => DevOnly.refl _ d

/-- What an authorisation leaves (R251, R252). -/
structure AuthTaken (means : Nat) (id : List Byte) (d t : Dev) : Prop where
  only : DevOnly [.log, .led, .veh, .ses] d t
  grows : Grows d t
  veh : t.veh = { d.veh with contract := if means = 1 then 2 else if d.veh.contract = 4 then 0 else d.veh.contract }
  stop : t.ses.stop = d.ses.stop
  held : t.ses.heldCard = none
  auth : ∃ e, t.ses.auth = some ⟨means, id, e⟩ ∧ (d.ses.isOpen = true → e = none)

theorem takeAuth_taken (src means : Nat) (id : List Byte) (n : Nat) (d : Dev) : AuthTaken means id d (takeAuth src means id n d) := by
  have h₁ : ∃ d₁, (if d.ses.heldCard.isSome ∨ (d.ses.request.isSome ∧ means ≠ 3) then
      d.raise Src.card Event.CARD_NOT_USED [] else d) = d₁ ∧ Grows d d₁ ∧ DevOnly [.log] d d₁ := by
    split
    · exact ⟨_, rfl, Grows.raise _ _ _ d, by simp [devOnly_iff]⟩
    · exact ⟨_, rfl, Grows.refl d, DevOnly.refl _ d⟩
  obtain ⟨d₁, he, hg, ho⟩ := h₁
  have hveh : d₁.veh = d.veh := ho .veh (by decide)
  have hses : d₁.ses = d.ses := ho .ses (by decide)
  have hr := recordAuth_only
  unfold takeAuth
  rw [he]
  dsimp only
  refine ⟨?_, ?_, ?_, ?_, ?_, ?_⟩
  · refine DevOnly.trans (ho.mono (by decide)) (DevOnly.trans ?_ ((hr _).mono (by decide)))
    simp [devOnly_iff]
  · refine hg.trans (Grows.trans ?_ (Grows.of_only (hr _) (by decide) (by decide)))
    exact ⟨List.subset_append_left _ _, List.Subset.refl _, fun _ h => h⟩
  · rw [hr _ .veh (by decide), ← hveh]
    rfl
  · rw [hr _ .ses (by decide), ← hses]
    rfl
  · rw [hr _ .ses (by decide)]
    rfl
  · rw [hr _ .ses (by decide)]
    refine ⟨_, rfl, fun hopen => if_pos ?_⟩
    rw [hses]
    exact hopen

/-- What a refused contract leaves (R248, R252): a card kept behind it is taken. -/
structure ContractRefused (cause : Nat) (d t : Dev) : Prop where
  only : DevOnly [.log, .led, .veh, .ses] d t
  veh : t.veh = { d.veh with contract := 3, extOnly := true }
  logged : Ev.of Src.vehicle Event.PNC_REFUSED (leBytes 1 cause) ∈ t.log.now
  stop : t.ses.stop = d.ses.stop
  held : t.ses.heldCard = none
  kept : d.ses.heldCard = none → t.ses = d.ses
  taken : ∀ id, d.ses.heldCard = some id → d.ses.auth = none → t.ses.auth.map Auth.id = some id

/-- The contract refused, before a card kept behind it is taken. -/
def refusedDev (cause : Nat) (d : Dev) : Dev :=
  ({ d with veh := { d.veh with contract := 3, extOnly := true }, ses := { d.ses with heldCard := none } } : Dev).raise
    Src.vehicle Event.PNC_REFUSED (leBytes 1 cause)

theorem pncRefuse_refused (n cause : Nat) (d : Dev) : ContractRefused cause d (pncRefuse n cause d) := by
  have hlog : Ev.of Src.vehicle Event.PNC_REFUSED (leBytes 1 cause) ∈ (refusedDev cause d).log.now :=
    List.mem_append_right _ (List.mem_singleton_self _)
  have ho : DevOnly [.log, .led, .veh, .ses] d (refusedDev cause d) := by simp [devOnly_iff, refusedDev]
  have hkeep (h : pncRefuse n cause d = refusedDev cause d) (hn : d.ses.heldCard = none ∨ d.ses.auth ≠ none) :
      ContractRefused cause d (pncRefuse n cause d) := by
    rw [h]
    refine ⟨ho, rfl, hlog, rfl, rfl, fun k => ?_, fun id k ka => ?_⟩
    · show ({ d.ses with heldCard := none } : Ses) = d.ses
      rw [← k]
    · exact absurd hn (by simp [k, ka])
  cases hc : d.ses.heldCard with
  | none => exact hkeep (by simp only [pncRefuse, hc]; rfl) (.inl hc)
  | some id =>
    cases ha : d.ses.auth with
    | some a => exact hkeep (by simp [pncRefuse, hc, ha, refusedDev]) (.inr (by simp [ha]))
    | none =>
      have h : pncRefuse n cause d = takeAuth Src.card 2 id n (refusedDev cause d) := by
        simp [pncRefuse, hc, ha, refusedDev]
      obtain ⟨hto, htg, htv, hts, hth, e, hta, -⟩ := takeAuth_taken Src.card 2 id n (refusedDev cause d)
      rw [h]
      refine ⟨ho.trans hto, htv.trans rfl, htg.now hlog, hts, hth, fun k => absurd k (by simp [hc]), fun id' k _ => ?_⟩
      obtain rfl : id = id' := by simpa [hc] using k
      rw [hta]
      rfl

/-! SLAC fails (R244, R247). -/

/-- What a failed SLAC leaves. -/
structure SlacFailed (cause : Nat) (d t : Dev) : Prop where
  only : DevOnly [.lanes, .log, .veh, .ses, .saf] d t
  logged : Ev.of Src.vehicle Event.SLAC_FAILED (leBytes 1 cause) ∈ t.log.now
  link : t.veh.link ≠ .hlc
  proto : t.veh.proto = none
  answer : t.veh.answer = d.veh.answer

theorem slacFail_failed (s : State) (cause : Nat) (d : Dev) : SlacFailed cause d (slacFail s cause d) := by
  unfold slacFail
  dsimp only
  generalize hb : (!dcKind d && decide (d.nat Param.HLC_FALLBACK = 1)) = basic
  generalize he : Dev.raise _ _ _ _ = e
  have hd : DevOnly [.lanes, .log, .veh, .ses, .saf] d e := by simp [← he, devOnly_iff]
  have hlog : Ev.of Src.vehicle Event.SLAC_FAILED (leBytes 1 cause) ∈ e.log.now := by simp [← he]
  have hveh : e.veh.link ≠ .hlc ∧ e.veh.proto = none ∧ e.veh.answer = d.veh.answer := by
    subst he
    cases basic <;> simp
  obtain ⟨ho, hg, ⟨q, l, a, hv⟩, -⟩ := limitStep_taken s e
  obtain ⟨q', l', a', hw⟩ := waveNow_veh s.clk (limitStep s e)
  have hwo := waveNow_only s.clk (limitStep s e)
  refine ⟨(hd.trans ho).trans (hwo.mono (by decide)), (hg.trans (Grows.of_only hwo (by decide) (by decide))).now hlog, ?_, ?_, ?_⟩
  all_goals rw [hw, hv]
  · exact hveh.1
  · exact hveh.2.1
  · exact hveh.2.2

end Sys2Proof.Machine
end

section
/-!
PROOF. The V2G messages (R246 to R249, R252, R253, R257, R258).
-/

namespace Sys2Proof.Machine

theorem hlcUp_of {d : Dev} (ho : d.ses.isOpen = true) (hl : d.veh.link = .hlc) : hlcUp d = true := by simp [hlcUp, ho, hl]

/-- SDP is answered OK where the connection is served (R247). -/
theorem sdp_code (tls served : Bool) : (if served = true then RespCode.ok else .failed) =
    if (if served = true then some tls else none).isSome = true then .ok else .failed := by cases served <;> rfl

/-! SUPPORTED_APP_PROTOCOL. -/

theorem chooseProto_offered {d : Dev} {tls : Bool} {offered : List Proto} {p : Proto} (h : chooseProto d tls offered = some p) :
    p ∈ offered := by
  have := List.find?_some h
  simp only [Bool.and_eq_true, List.contains_iff_mem] at this
  exact this.1

theorem appProtocol_chosen {d : Dev} {tls : Bool} {offered : List Proto} {p : Proto} (s : State)
    (h : chooseProto d tls offered = some p) : appProtocol s offered tls d =
      ({ reply .ok true [] d with veh := { (reply .ok true [] d).veh with proto := some p } }).raise Src.vehicle
        Event.PROTOCOL_SELECTED (leBytes 1 (protoCode (some p)) ++ leBytes 1 (if tls then 1 else 0)) := by
  rw [appProtocol, h]

theorem appProtocol_none {d : Dev} {tls : Bool} {offered : List Proto} (s : State) (h : chooseProto d tls offered = none) :
    appProtocol s offered tls d = slacFail s 2 (reply .noNegotiation true [] d) := by
  rw [appProtocol, h]

theorem exec_supportedAppProtocol {s : State} {tls : Bool} (hc : Committed s) (ht : s.dev.veh.sdp = some tls)
    (hu : hlcUp s.dev = true) (offered : List Proto) :
    exec (.supportedAppProtocol offered) s = .next (s.onDev (appProtocol s offered tls)) := by
  refine (protoStep_committed hc _).trans ?_
  simp only [State.onDev, ht, hu, Dev.when_true]

/-! AUTHORIZATION_REQ. -/

/-- The answer to AUTHORIZATION_REQ after the contract's check (R248, R252). -/
def authReply (d : Dev) : Dev :=
  if d.ses.auth.isSome then reply .ok true [] d
  else if d.veh.pnc ∧ d.veh.contract = 3 then reply .failed true [] d else reply .ok false [] d

theorem authReply_only (d : Dev) : DevOnly [.veh] d (authReply d) :=
  DevOnly.ite (fun _ => reply_only _ _ _ d) fun _ => DevOnly.ite (fun _ => reply_only _ _ _ d) fun _ => reply_only _ _ _ d

theorem authReply_veh (d : Dev) : (authReply d).veh = { d.veh with answer := (authReply d).veh.answer } := by
  unfold authReply
  split
  · rfl
  · split <;> rfl

/-- How AUTHORIZATION_REQ is answered (R248, R252): finished or not, by the authorisation held and the contract. -/
theorem authReply_answered {s : State} {d : Dev} (hs : d.ses.stop = s.dev.ses.stop) (hd : d.dc = s.dev.dc) :
    (d.ses.auth.isSome = true → VehAnswered .ok true [] s { s with dev := authReply d }) ∧
    (d.ses.auth = none → d.veh.pnc = true → d.veh.contract = 3 →
      VehAnswered .failed true [] s { s with dev := authReply d }) ∧
    (d.ses.auth = none → d.veh.pnc = false ∨ d.veh.contract ≠ 3 →
      VehAnswered .ok false [] s { s with dev := authReply d }) := by
  have key (code : RespCode) (fin : Bool) (h : authReply d = reply code fin [] d) :
      VehAnswered code fin [] s { s with dev := authReply d } := by
    rw [h]
    show some _ = some _
    rw [hs, hd]
  refine ⟨fun h => key _ _ (if_pos h), fun h hp h3 => key _ _ ?_, fun h hn => key _ _ ?_⟩
  · exact (if_neg (by simp [h])).trans (if_pos ⟨hp, h3⟩)
  · exact (if_neg (by simp [h])).trans (if_neg fun k => hn.elim (fun h => absurd k.1 (by simp [h])) fun h => h k.2)

/-- AUTHORIZATION_REQ that refuses a contract (R248, R252): FAILED, or OK with the card kept behind it. -/
theorem ContractRefused.answered {cause : Nat} {s : State} {e : Dev} (k : ContractRefused cause s.dev e)
    (hp : s.dev.veh.pnc = true) (ha : s.dev.ses.auth = none) :
    (authReply e).veh.contract = 3 ∧ (authReply e).veh.extOnly = true ∧
      Logged Src.vehicle Event.PNC_REFUSED (leBytes 1 cause) { s with dev := authReply e } ∧
      (s.dev.ses.heldCard = none → (authReply e).ses = s.dev.ses ∧
        VehAnswered .failed true [] s { s with dev := authReply e }) ∧
      (∀ id, s.dev.ses.heldCard = some id → (authReply e).ses.auth.map Auth.id = some id ∧
        VehAnswered .ok true [] s { s with dev := authReply e }) ∧
      OnlyChanges [.log, .led, .veh, .ses] s { s with dev := authReply e } := by
  obtain ⟨hok, hfail, -⟩ := authReply_answered (s := s) k.stop (k.only .dc (by decide))
  have hveh := authReply_veh e
  have hlog : (authReply e).log = e.log := authReply_only e .log (by decide)
  have hses : (authReply e).ses = e.ses := authReply_only e .ses (by decide)
  refine ⟨by rw [hveh, k.veh], by rw [hveh, k.veh], ?_, fun hn => ⟨hses.trans (k.kept hn), ?_⟩, fun id hid => ?_,
    OnlyChanges.dev (k.only.trans ((authReply_only e).mono (by decide)))⟩
  · show _ ∈ (authReply e).log.now
    rw [hlog]
    exact k.logged
  · exact hfail (by rw [k.kept hn, ha]) (by rw [k.veh]; exact hp) (by rw [k.veh])
  · have ht := k.taken id hid ha
    exact ⟨(congrArg (fun x : Ses => x.auth.map Auth.id) hses).trans ht, hok (by rw [← Option.isSome_map, ht]; rfl)⟩

theorem exec_authorizationReq {s : State} (hc : Committed s) (hv : s.dev.veh.v2g = true) (c : PncCheck) (emaid : List Byte) :
    exec (.authorizationReq c emaid) s = .next (s.onDev fun d => authReply (contractCheck c emaid s d)) := by
  refine (protoStep_committed hc _).trans ?_
  rw [State.onDev, hv]
  rfl

theorem contractCheck_idle {c : PncCheck} {emaid : List Byte} {s : State} {d : Dev}
    (h : d.veh.pnc = false ∨ d.ses.auth.isSome = true ∨ d.veh.contract ≠ 0) : contractCheck c emaid s d = d := by
  have hb : (d.veh.pnc && d.ses.auth.isNone && decide (d.veh.contract = 0)) = false := by
    rcases h with h | h | h
    · simp [h]
    · simp [Option.isNone_eq_false_iff.2 h]
    · simp [h]
  rw [contractCheck, hb, Dev.when_false]

section
variable {c : PncCheck} {emaid : List Byte} {s : State} {d : Dev}

theorem contractCheck_begins (hp : d.veh.pnc = true) (ha : d.ses.auth = none) (hc : d.veh.contract = 0) :
    contractCheck c emaid s d = match c with
      | .externalId => d
      | .chainBad => if d.tar.status = 2 then pncRefuse s.clk.frame 2 d else pncRefuse s.clk.frame 0 d
      | .validityBad => if d.tar.status = 2 then pncRefuse s.clk.frame 2 d else pncRefuse s.clk.frame 1 d
      | .chainOk =>
        if d.tar.status = 2 then pncRefuse s.clk.frame 2 d
        else { d with veh := { d.veh with contract := 1, contractSince := s.clk.frame, emaid := emaid } } := by
  rw [contractCheck, hp, ha, decide_eq_true hc]
  cases c <;> rfl

/-- The outcomes of a contract's check (R248): external identification changes nothing, a sound contract is under
validation, every other is refused, with a cause by the clock, the chain and the validity. -/
theorem contractCheck_cases (hp : d.veh.pnc = true) (ha : d.ses.auth = none) (hc : d.veh.contract = 0) :
    (c = .externalId ∧ contractCheck c emaid s d = d) ∨
    (c = .chainOk ∧ d.tar.status ≠ 2 ∧ contractCheck c emaid s d =
      { d with veh := { d.veh with contract := 1, contractSince := s.clk.frame, emaid := emaid } }) ∨
    (c ≠ .externalId ∧ (c = .chainOk → d.tar.status = 2) ∧ ∃ cause, contractCheck c emaid s d = pncRefuse s.clk.frame cause d ∧
      (d.tar.status = 2 → cause = 2) ∧ (c = .chainBad → d.tar.status ≠ 2 → cause = 0) ∧
      (c = .validityBad → d.tar.status ≠ 2 → cause = 1)) := by
  rw [contractCheck_begins hp ha hc]
  by_cases ht : d.tar.status = 2
  · cases c
    case externalId => exact .inl ⟨rfl, rfl⟩
    all_goals exact .inr (.inr ⟨by decide, fun _ => ht, 2, if_pos ht, fun _ => rfl, fun _ k => absurd ht k, fun _ k => absurd ht k⟩)
  · cases c
    case externalId => exact .inl ⟨rfl, rfl⟩
    case chainOk => exact .inr (.inl ⟨rfl, ht, if_neg ht⟩)
    case chainBad =>
      exact .inr (.inr ⟨by decide, fun k => absurd k (by decide), 0, if_neg ht, fun k => absurd k ht, fun _ _ => rfl,
        fun k => absurd k (by decide)⟩)
    case validityBad =>
      exact .inr (.inr ⟨by decide, fun k => absurd k (by decide), 1, if_neg ht, fun k => absurd k ht,
        fun k => absurd k (by decide), fun _ _ => rfl⟩)

end

theorem dcKind_iff (d : Dev) : dcKind d = true ↔ d.nat Param.OUTLET_KIND = 1 := decide_eq_true_iff

theorem dcKind_congr {d e : Dev} (h : e.par = d.par) : dcKind e = dcKind d := by rw [dcKind, dcKind, Dev.nat_congr h]

/-- The vehicle's maxima bound the limits of the frame (R257). -/
theorem limitStep_bounds (s : State) {d : Dev} (hk : d.veh.evKnown = true) :
    (dcKind d = true → (limitStep s d).ses.limitDc ≤ d.veh.evMaxI ∧ (limitStep s d).ses.limitP ≤ d.veh.evMaxP) ∧
      (dcKind d = false → d.veh.link = .hlc → (limitStep s d).ses.limitDc ≤ d.veh.evMaxI) := by
  obtain ⟨e, he, hdc, hpw⟩ := limitStep_limits s d
  have hev : e.veh = d.veh := he .veh (by decide)
  have hkind : dcKind e = dcKind d := dcKind_congr (he .par (by decide))
  rw [hdc, hpw, ← hev, ← hkind]
  rw [← hev] at hk
  exact ⟨fun h => limitStack_dc h hk, fun h hl => limitStack_ac h hk hl⟩

/-! PNC_VALIDATED. -/

theorem pncValid_taken {d : Dev} (h : d.nat Param.PNC_AUTH = 0) (n : Nat) :
    AuthTaken 1 d.veh.emaid d (pncValid n d) := by
  rw [pncValid, if_pos h]
  exact takeAuth_taken _ _ _ _ _

theorem pncValid_asked {d : Dev} (h : d.nat Param.PNC_AUTH ≠ 0) (hp : d.win.hostPresent = true) (n : Nat) :
    pncValid n d = ({ d with veh := { d.veh with contract := 4, contractSince := n } } : Dev).raise Src.vehicle
      Event.AUTH_REQUEST (leBytes 1 d.veh.emaid.length ++ d.veh.emaid) := by
  rw [pncValid, if_neg h, if_neg (by simp [hp])]
  rfl

theorem pncValid_refused {d : Dev} (h : d.nat Param.PNC_AUTH ≠ 0) (hp : d.win.hostPresent = false) (n : Nat) :
    ContractRefused 3 d (pncValid n d) := by
  rw [pncValid, if_neg h, if_pos (by simp [hp])]
  exact pncRefuse_refused _ _ _

/-! POWER_DELIVERY_REQ. -/

/-- A start of the transfer is answered OK (R253, R261). -/
def startOk (d : Dev) : Bool :=
  d.ses.auth.isSome && d.ses.stop.isNone && (!dcKind d || (decide (d.dc.phase = 2) && d.dc.preReady))

/-- The transfer as it starts and as it stops, with its answer. -/
def powerAnswered (on : Bool) (loop : Option Nat) (d : Dev) : Dev :=
  reply .ok true [] { d with veh := { d.veh with powerOn := on, lastLoop := loop } }

theorem powerDelivery_start (s : State) (d : Dev) : powerDelivery s true d =
    if startOk d then
      if dcKind d then { powerAnswered true (some s.clk.frame) d with
        dc := { d.dc with phase := 3 }, ses := { d.ses with st := 4 } }
      else powerAnswered true (some s.clk.frame) d
    else reply .failed true [] d := rfl

theorem powerDelivery_stop (s : State) (d : Dev) : powerDelivery s false d =
    if enablesOn d then rampDown s.clk.frame 0 (powerAnswered false none d) else powerAnswered false none d := rfl

/-! CHARGING_LOOP_REQ. -/

/-- The machine when a loop request is answered: the limits of the frame and the answer are there. -/
def loopAnswered (s : State) (soc : Nat) (d : Dev) : Dev :=
  let e := limitStep s { d with veh := { d.veh with lastLoop := some s.clk.frame, soc := soc } }
  reply .ok true (loopLimits e) e

theorem exec_chargingLoopReq {s : State} (hc : Committed s) (hu : hlcUp s.dev = true) (hp : s.dev.veh.powerOn = true)
    (v i : Int) (soc : Nat) (discharge : Bool) : exec (.chargingLoopReq v i soc discharge) s = .next { s with
      dev := if (loopAnswered s soc s.dev).dc.phase = 3 then { loopAnswered s soc s.dev with
          dc := { (loopAnswered s soc s.dev).dc with
            targetV := v, targetI := loopCurrent (loopAnswered s soc s.dev) v i discharge
            discharge := discharge && (loopAnswered s soc s.dev).veh.bpt } }
        else loopAnswered s soc s.dev } := by
  refine (protoStep_committed hc _).trans ?_
  rw [State.onDev, hu, hp]
  rfl

theorem loopAnswered_only (s : State) (soc : Nat) (d : Dev) :
    DevOnly [.lanes, .log, .veh, .ses, .saf] d (loopAnswered s soc d) :=
  (DevOnly.trans (by simp [devOnly_iff]) (limitStep_taken s _).only).trans ((reply_only _ _ _ _).mono (by decide))

theorem loopAnswered_veh (s : State) (soc : Nat) (d : Dev) : (loopAnswered s soc d).veh.lastLoop = some s.clk.frame ∧
    (loopAnswered s soc d).veh.soc = soc ∧ (loopAnswered s soc d).veh.bpt = d.veh.bpt ∧
    (loopAnswered s soc d).veh.answer =
      some ⟨.ok, true, d.ses.stop.isSome, d.dc.stageLost, loopLimits (loopAnswered s soc d)⟩ := by
  obtain ⟨honly, -, ⟨q, l, a, hv⟩, hs⟩ :=
    limitStep_taken s { d with veh := { d.veh with lastLoop := some s.clk.frame, soc := soc } }
  have hd : _ = d.dc := honly .dc (by decide)
  refine ⟨?_, ?_, ?_, ?_⟩
  · show (limitStep s _).veh.lastLoop = _
    rw [hv]
  · show (limitStep s _).veh.soc = _
    rw [hv]
  · show (limitStep s _).veh.bpt = _
    rw [hv]
  · show some _ = some _
    rw [hs, hd]
    rfl

/-- The current that a loop request passes on (R257, R261). -/
theorem loopCurrent_bounds (d : Dev) (v i : Int) :
    loopCurrent d v i false ≤ d.ses.limitDc ∧ loopCurrent d v i false ≤ i.natAbs ∧
      (d.veh.bpt = false → loopCurrent d v i true = 0) ∧
      (d.veh.bpt = true → -(d.ses.limitDis : Int) ≤ loopCurrent d v i true) := by
  refine ⟨?_, min_le_left _ _, fun h => ?_, fun h => ?_⟩
  · exact (min_le_right _ _).trans (min_le_left _ _)
  · simp [loopCurrent, h]
  · simp only [loopCurrent, h, if_true]
    exact neg_le_neg ((min_le_right _ _).trans (min_le_left _ _))

end Sys2Proof.Machine

open Sys2Proof Sys2Proof.Machine

/-- Settles O45, message by message: where the link and the session stand for it, what it fixes and how it is answered. -/
theorem v2gRequests : Obligations.V2gRequests := by
  refine ⟨fun tls s ho hl hc => ?_, fun offered tls s ho hl ht hc => ?_, fun s ho hl hp hc => ?_, fun s hv hc => ?_,
    fun pnc bpt s hv hc => ?_, fun c emaid s hv hp ha h0 hc => ?_, fun c emaid s hv hi hc => ?_, fun s ho h1 ha hc => ?_,
    fun s h4 hn hc => ?_, fun v i p s hv hc => ?_, fun s ho hl hv => ?_, fun v i soc discharge s ho hl hp hc => ?_,
    fun s ho hl hv hc => ?_, fun c s h hc => ⟨s, exec_protocolRow h hc, rfl⟩⟩
  · refine Completes.of_protoWhen hc rfl (hlcUp_of ho hl) ⟨rfl, fun h => ?_, fun h => ?_, ?_, OnlyChanges.onDev ?_⟩
    · subst h; rfl
    · subst h
      by_cases h1 : s.dev.nat Param.SDP_SECURITY = 1 <;> by_cases h2 : s.dev.nat Param.OUTLET_KIND = 1 <;>
        simp [dcKind, h1, h2]
    · exact congrArg (fun c => some (V2gResp.mk c true s.dev.ses.stop.isSome s.dev.dc.stageLost [if tls then 1 else 0]))
        (sdp_code tls _)
    · simp [devOnly_iff, reply]
  · refine ⟨_, exec_supportedAppProtocol hc ht (hlcUp_of ho hl) offered, fun p h => ?_, fun h => ?_, OnlyChanges.onDev ?_⟩
    · rw [State.onDev, appProtocol_chosen s h]
      exact ⟨chooseProto_offered h, rfl, rfl, rfl⟩
    · rw [State.onDev, appProtocol_none s h]
      obtain ⟨-, hlog, hlink, hproto, hans⟩ := slacFail_failed s 2 (reply .noNegotiation true [] s.dev)
      exact ⟨hproto, hlink, hans, hlog⟩
    · cases h : chooseProto s.dev tls offered with
      | none =>
        rw [appProtocol_none s h]
        exact ((reply_only _ _ _ _).mono (by decide)).trans (slacFail_failed s 2 _).only
      | some p =>
        rw [appProtocol_chosen s h]
        simp [devOnly_iff, reply]
  · exact Completes.of_protoWhen (b := fun d => hlcUp d && d.veh.proto.isSome) hc rfl (by simp [hlcUp_of ho hl, hp])
      ⟨rfl, rfl, OnlyChanges.onDev (by simp [devOnly_iff, reply])⟩
  · exact Completes.of_protoWhen (b := fun d => d.veh.v2g) hc rfl hv
      ⟨rfl, rfl, rfl, OnlyChanges.onDev (by simp [devOnly_iff, reply])⟩
  · refine Completes.of_protoWhen (b := fun d => d.veh.v2g) hc rfl hv ⟨rfl, ?_, rfl, ?_, OnlyChanges.onDev ?_⟩
    · simp [reply, and_assoc]
    · rfl
    · simp [devOnly_iff, reply]
  · refine ⟨_, exec_authorizationReq hc hv c emaid, ?_⟩
    rw [State.onDev]
    have he := contractCheck_cases (c := c) (emaid := emaid) (s := s) hp ha h0
    generalize contractCheck c emaid s s.dev = e at he
    have hveh := authReply_veh e
    have hlog : (authReply e).log = e.log := authReply_only e .log (by decide)
    have hses : (authReply e).ses = e.ses := authReply_only e .ses (by decide)
    have honly := (authReply_only e).mono (qs := [.log, .led, .veh, .ses]) (by decide)
    rcases he with ⟨rfl, rfl⟩ | ⟨rfl, hst, rfl⟩ | ⟨hne, hok, cause, rfl, hc2, hc0, hc1⟩
    · obtain ⟨-, -, hans⟩ := authReply_answered (s := s) (d := s.dev) rfl rfl
      have h3 : (authReply s.dev).veh.contract ≠ 3 := by rw [hveh]; simp [h0]
      exact ⟨fun _ => ⟨hveh, hans ha (.inr (by simp [h0])), OnlyChanges.dev (authReply_only _)⟩,
        fun k => absurd k (by decide), fun k => absurd rfl k, fun k => absurd k (by decide), fun k => absurd k (by decide),
        fun _ => ⟨hses, fun k => absurd k h3⟩, fun _ _ k => absurd k h3, OnlyChanges.dev honly⟩
    · obtain ⟨-, -, hans⟩ := authReply_answered (s := s) (d := { s.dev with
        veh := { s.dev.veh with contract := 1, contractSince := s.clk.frame, emaid := emaid } }) rfl rfl
      have h3 : (authReply { s.dev with
        veh := { s.dev.veh with contract := 1, contractSince := s.clk.frame, emaid := emaid } }).veh.contract ≠ 3 := by
        rw [hveh]; simp
      exact ⟨fun k => absurd k (by decide),
        fun _ _ => ⟨hveh, hans ha (.inr (by simp)), OnlyChanges.dev (DevOnly.trans (by simp [devOnly_iff]) (authReply_only _))⟩,
        fun _ k => absurd k hst, fun k => absurd k (by decide), fun k => absurd k (by decide),
        fun _ => ⟨hses, fun k => absurd k h3⟩, fun _ _ k => absurd k h3,
        OnlyChanges.dev (DevOnly.trans (by simp [devOnly_iff]) honly)⟩
    · obtain ⟨h3, hx, hlg, hnone, hcard, honly'⟩ := (pncRefuse_refused s.clk.frame cause s.dev).answered hp ha
      refine ⟨fun h => absurd h hne, fun h hs => absurd (hok h) hs, fun _ hs => ⟨h3, hx, ?_⟩, fun h hs => ⟨h3, ?_⟩,
        fun h hs => ⟨h3, ?_⟩, fun hn => ⟨(hnone hn).1, fun _ => (hnone hn).2⟩, fun id hid _ => hcard id hid, honly'⟩
      · obtain rfl := hc2 hs
        exact hlg
      · obtain rfl := hc0 h hs
        exact hlg
      · obtain rfl := hc1 h hs
        exact hlg
  · obtain ⟨hsome, hfail, hok⟩ := authReply_answered (s := s) (d := s.dev) rfl rfl
    refine ⟨_, exec_authorizationReq hc hv c emaid, ?_⟩
    rw [State.onDev, contractCheck_idle hi]
    exact ⟨authReply_veh s.dev, hsome, hfail, hok, OnlyChanges.dev (authReply_only _)⟩
  · refine Completes.of_protoWhen (b := fun d => d.ses.isOpen && decide (d.veh.contract = 1) && d.ses.auth.isNone) hc rfl
      (by simp [ho, h1, ha]) ?_
    refine ⟨fun h => ?_, fun h hh => ?_, fun h hh => ?_, OnlyChanges.onDev ?_⟩
    · obtain ⟨-, -, htv, -, -, e, hta, he⟩ := pncValid_taken h s.clk.frame
      obtain rfl := he ho
      exact ⟨hta, by rw [State.onDev_dev, htv]; rfl⟩
    · rw [State.onDev, pncValid_asked h hh]
      exact ⟨rfl, rfl, ha, rfl⟩
    · have k := pncValid_refused h hh s.clk.frame
      exact ⟨by rw [State.onDev_dev, k.veh], k.logged⟩
    · by_cases h : s.dev.nat Param.PNC_AUTH = 0
      · exact (pncValid_taken h _).only
      · cases hh : s.dev.win.hostPresent with
        | false => exact (pncValid_refused h hh _).only
        | true =>
          rw [pncValid_asked h hh]
          simp [devOnly_iff]
  · have k := pncRefuse_refused s.clk.frame 3 s.dev
    exact Completes.of_protoWhen (b := fun d => decide (d.veh.contract = 4) &&
      decide (d.veh.contractSince + ms (d.nat Param.PNC_HOST_TIMEOUT) ≤ s.clk.frame)) hc rfl (by simp [h4, hn])
      ⟨by rw [State.onDev_dev, k.veh], by rw [State.onDev_dev, k.veh], k.logged, k.held, OnlyChanges.onDev k.only⟩
  · refine Completes.of_protoWhen (b := fun d => d.veh.v2g) hc rfl hv ?_
    let d : Dev := { s.dev with veh := { s.dev.veh with evMaxV := v, evMaxI := i, evMaxP := p, evKnown := true } }
    obtain ⟨ho, -, ⟨q, l, a, hveh⟩, hstop⟩ := limitStep_taken s d
    obtain ⟨hdc, hac⟩ := limitStep_bounds s (d := d) rfl
    have hd : (limitStep s d).dc = s.dev.dc := ho .dc (by decide)
    refine ⟨(congrArg Veh.evMaxV hveh).trans rfl, (congrArg Veh.evMaxI hveh).trans rfl, (congrArg Veh.evMaxP hveh).trans rfl,
      (congrArg Veh.evKnown hveh).trans rfl, fun hk => hdc ((dcKind_iff _).2 hk),
      fun hk => hac (Bool.eq_false_iff.2 fun h => hk ((dcKind_iff _).1 h)), ?_,
      OnlyChanges.onDev (DevOnly.trans (e := d) (by simp [d, devOnly_iff]) (ho.trans ((reply_only _ _ _ _).mono (by decide))))⟩
    · show some _ = some _
      rw [hstop, hd]
  · have key (start : Bool) {P : State → Prop} (hc : Committed s) (k : P (s.onDev (powerDelivery s start))) :
        Completes (.powerDeliveryReq start) s P :=
      Completes.of_protoWhen (b := fun d => hlcUp d && d.veh.v2g) hc rfl (by simp [hlcUp_of ho hl, hv]) k
    refine ⟨fun ha hs hk hph hpre hc => key true hc ?_, fun ha hs hk hc => key true hc ?_, fun hn hc => key true hc ?_,
      fun hc => key false hc ?_⟩
    · have hok : startOk s.dev = true := by simp [startOk, ha, hs, hph, hpre]
      rw [State.onDev, powerDelivery_start, if_pos hok, if_pos ((dcKind_iff _).2 hk)]
      exact ⟨rfl, rfl, rfl, rfl, OnlyChanges.dev (by simp [devOnly_iff, powerAnswered, reply])⟩
    · have hdc : dcKind s.dev = false := Bool.eq_false_iff.2 fun h => hk ((dcKind_iff _).1 h)
      have hok : startOk s.dev = true := by simp [startOk, ha, hs, hdc]
      rw [State.onDev, powerDelivery_start, if_pos hok, if_neg (by simp [hdc])]
      exact ⟨rfl, rfl, OnlyChanges.dev (by simp [devOnly_iff, powerAnswered, reply])⟩
    · have hok : startOk s.dev = false := by
        rcases hn with h | h | ⟨h, h'⟩
        · simp [startOk, h]
        · simp [startOk, Option.isNone_eq_false_iff.2 h]
        · have hdc := (dcKind_iff s.dev).2 h
          rcases h' with h' | h' <;> simp [startOk, hdc, h']
      rw [State.onDev, powerDelivery_start, if_neg (by simp [hok])]
      exact ⟨rfl, rfl, OnlyChanges.dev (by simp [devOnly_iff, reply])⟩
    · rw [State.onDev, powerDelivery_stop]
      cases he : enablesOn s.dev with
      | true =>
        exact ⟨rfl, rfl, fun _ => ⟨rfl, rfl⟩, fun h => absurd (he.symm.trans h) (by decide),
          OnlyChanges.dev (by simp [devOnly_iff, powerAnswered, reply, rampDown])⟩
      | false =>
        exact ⟨rfl, rfl, fun h => absurd (he.symm.trans h) (by decide), fun _ => rfl,
          OnlyChanges.dev (by simp [devOnly_iff, powerAnswered, reply])⟩
  · refine ⟨_, exec_chargingLoopReq hc (hlcUp_of ho hl) hp v i soc discharge, ?_⟩
    obtain ⟨hloop, hsoc, hbpt, hans⟩ := loopAnswered_veh s soc s.dev
    have honly := loopAnswered_only s soc s.dev
    have hdc : (loopAnswered s soc s.dev).dc = s.dev.dc := honly .dc (by decide)
    generalize loopAnswered s soc s.dev = e at *
    rw [hdc]
    by_cases h3 : s.dev.dc.phase = 3
    · rw [if_pos h3]
      obtain ⟨hb₁, hb₂, hb₃, hb₄⟩ := loopCurrent_bounds e v i
      refine ⟨hloop, hsoc, hans, fun _ => ⟨rfl, fun h => ?_, fun h hb => ?_, fun h hb => ?_⟩, fun k => absurd h3 k,
        OnlyChanges.dev ((honly.mono (by decide)).trans (by simp [devOnly_iff]))⟩
      · subst h; exact ⟨hb₁, hb₂⟩
      · subst h; exact hb₃ (hbpt.trans hb)
      · subst h; exact hb₄ (hbpt.trans hb)
    · rw [if_neg h3]
      exact ⟨hloop, hsoc, hans, fun k => absurd k h3, fun _ => hdc, OnlyChanges.dev (honly.mono (by decide))⟩
  · exact Completes.of_protoWhen (b := fun d => hlcUp d && d.veh.v2g) hc rfl (by simp [hlcUp_of ho hl, hv])
      ⟨rfl, rfl, OnlyChanges.onDev (by simp [devOnly_iff, reply])⟩

end

section
/-!
THE COMMANDS THAT ONLY READ. One rule for a row of the command set whose handler accepts without touching `dev`, and for
each such command the equation of its handler on arguments that it accepts.
-/

namespace Sys2Proof.Machine

theorem recordDurable_reply (code tag result n : Nat) (d : Dev) :
    (recordDurable code tag result n d).acs.reply = d.acs.reply := by
  unfold recordDurable; split <;> rfl

theorem recordDurable_pow (code tag result n : Nat) (d : Dev) : (recordDurable code tag result n d).pow = d.pow := by
  unfold recordDurable; split <;> rfl

/-- Of the command set's state the ring of durable outcomes alone changes. -/
theorem recordDurable_acs (code tag result n : Nat) (d : Dev) :
    (recordDurable code tag result n d).acs =
      { d.acs with durable := (recordDurable code tag result n d).acs.durable } := by
  by_cases hd : (cmdRow code).elim false CmdRow.durable = true
  · simp only [recordDurable, if_pos hd]
  · simp only [recordDurable, if_neg hd]

theorem recordDurable_only (code tag result n : Nat) (d : Dev) : DevOnly [.acs] d (recordDurable code tag result n d) := by
  unfold recordDurable; split <;> simp [devOnly_iff]

theorem touchLogin_acs (own : Owner) (result n : Nat) (d : Dev) : (touchLogin own result n d).acs = d.acs := by
  unfold touchLogin
  cases d.pow.login with
  | none => rfl
  | some l => dsimp only; split <;> rfl

/-- Of the power state the login alone changes. -/
theorem touchLogin_pow (own : Owner) (result n : Nat) (d : Dev) :
    (touchLogin own result n d).pow = { d.pow with login := (touchLogin own result n d).pow.login } := by
  unfold touchLogin
  cases d.pow.login with
  | none => rfl
  | some l => dsimp only; split <;> rfl

theorem touchLogin_only (own : Owner) (result n : Nat) (d : Dev) : DevOnly [.pow] d (touchLogin own result n d) := by
  unfold touchLogin
  cases d.pow.login with
  | none => exact DevOnly.refl _ _
  | some l => dsimp only; split <;> simp [devOnly_iff]

theorem setReply_only (code tag result n job : Nat) (p : List Byte) (d : Dev) :
    DevOnly [.acs] d (setReply code tag result n job p d) := by
  simp [devOnly_iff, setReply]

/-- What a command leaves that answers with a result and changes nothing itself. -/
def replied (code tag : Nat) (own : Owner) (result : Nat) (p : List Byte) (s : State) : Dev :=
  touchLogin own result s.clk.frame
    (recordDurable code tag result s.clk.frame (setReply code tag result s.clk.frame 0 p s.dev))

theorem replied_only (code tag : Nat) (own : Owner) (result : Nat) (p : List Byte) (s : State) :
    DevOnly [.acs, .pow] s.dev (replied code tag own result p s) := by
  have hreply := setReply_only code tag result s.clk.frame 0 p s.dev
  have hdurable := recordDurable_only code tag result s.clk.frame (setReply code tag result s.clk.frame 0 p s.dev)
  have hlogin := touchLogin_only own result s.clk.frame
    (recordDurable code tag result s.clk.frame (setReply code tag result s.clk.frame 0 p s.dev))
  exact ((hreply.trans hdurable).mono (by decide)).trans (hlogin.mono (by decide))

theorem replied_reply (code tag : Nat) (own : Owner) (result : Nat) (p : List Byte) (s : State) :
    (replied code tag own result p s).acs.reply = ⟨code, tag, result, p.take 1000, 0, s.clk.frame⟩ := by
  rw [replied, touchLogin_acs, recordDurable_reply, setReply]

theorem replied_coreKept (code tag : Nat) (own : Owner) (result : Nat) (p : List Byte) (s : State) :
    CoreKept s { s with dev := replied code tag own result p s } := by
  constructor
  · change (replied code tag own result p s).acs = { s.dev.acs with
      reply := (replied code tag own result p s).acs.reply, durable := (replied code tag own result p s).acs.durable }
    rw [replied, touchLogin_acs, recordDurable_acs, setReply]
  · change (replied code tag own result p s).pow = { s.dev.pow with login := (replied code tag own result p s).pow.login }
    rw [replied, touchLogin_pow, recordDurable_pow, setReply]

/-- A row of the command set whose handler accepts and leaves `dev` as it is answers OK and does no more (R80, R83). -/
theorem Completes.of_read {c : Instr} {code tag : Nat} {own : Owner} {args p : List Byte} {h : Handler} {s : State}
    (hc : exec c s = acsRow code own tag args h s) (ho : AcsOpen code own args s) (hh : h s own args = .yes p s.dev) :
    Completes c s (OnlyAnswers code tag p s) := by
  obtain ⟨hserves, hcheck⟩ := ho
  refine ⟨{ s with dev := replied code tag own Res.ok p s }, ?_, replied_reply .., replied_coreKept ..,
    OnlyChanges.dev (replied_only code tag own Res.ok p s)⟩
  rw [hc, acsRow, if_pos hserves, acsRun, hcheck, hh]
  rfl

/-- A handler that leaves `dev` as it is, whether it accepts or refuses. -/
def Handler.Reads (h : Handler) : Prop :=
  ∀ s own args, (∃ r p, h s own args = .no r p) ∨ ∃ p, h s own args = .yes p s.dev

/-- A command with such a handler, accepted or refused, changes no more than its answer does. -/
theorem Handler.Reads.acsRun_only {h : Handler} (hh : h.Reads) (code tag : Nat) (own : Owner) (args : List Byte) (s : State) :
    OnlyChanges [.acs, .pow] s (acsRun code own tag args h s) := by
  have hreplied (r : Nat) (p : List Byte) : OnlyChanges [.acs, .pow] s { s with dev := replied code tag own r p s } :=
    OnlyChanges.dev (replied_only code tag own r p s)
  rw [acsRun]
  cases acsCheck code own args s with
  | some fault => exact hreplied fault.1 fault.2
  | none =>
    obtain ⟨r, p, hno⟩ | ⟨p, hyes⟩ := hh s own args
    · rw [hno]; exact hreplied r p
    · rw [hyes]; exact hreplied Res.ok p

/-! What each handler answers on arguments that it accepts. -/

theorem hIdentify_yes (own : Owner) (args : List Byte) (s : State) :
    hIdentify s own args = .yes (slice (identityBytes s.dev) 0 64 ++ leBytes 4 s.dev.keys.vault.manifest ++
      (if s.dev.upd.bootRecovery = true ∧ s.clk.running = false then slotPublic s.dev 2 else [])) s.dev := by
  simp [hIdentify]

theorem hParamDescribe_yes {r : PRow} {args : List Byte} (own : Owner) (s : State)
    (hr : rowOf (fieldAt args 0 2) = some r) :
    hParamDescribe s own args = .yes (descriptor r (fieldAt args 0 2)) s.dev := by
  simp [hParamDescribe, hr]

theorem hParamReadBlock_yes {r : PRow} {args : List Byte} {s : State} (own : Owner)
    (hr : rowOf (fieldAt args 0 2) = some r) (hm : r.modesR.testBit s.clk.mode.code = true)
    (h0 : 0 < fieldAt args 8 2) (h1 : fieldAt args 8 2 ≤ 992) (h2 : fieldAt args 4 4 + fieldAt args 8 2 ≤ r.len) :
    hParamReadBlock s own args = .yes (leBytes 4 (fieldAt args 4 4) ++
      blockRead s r (fieldAt args 0 2) (fieldAt args 4 4) (fieldAt args 8 2)) s.dev := by
  have hin : ¬(fieldAt args 8 2 = 0 ∨ 992 < fieldAt args 8 2 ∨ r.len < fieldAt args 4 4 + fieldAt args 8 2) := by omega
  simp [hParamReadBlock, hr, hm, hin]

/-- The parameters from an id on that exist, at most as many as asked for. -/
def enumIds (args : List Byte) : List Nat :=
  (allIds.filter fun id => decide (fieldAt args 0 2 ≤ id)).take (fieldAt args 2 2)

theorem hParamEnum_yes {args : List Byte} (own : Owner) (s : State) (h0 : 0 < fieldAt args 2 2)
    (h1 : fieldAt args 2 2 ≤ 480) :
    hParamEnum s own args = .yes (leBytes 2 (enumIds args).length ++ (enumIds args).flatMap (leBytes 2)) s.dev := by
  have hin : ¬(fieldAt args 2 2 = 0 ∨ 480 < fieldAt args 2 2) := by omega
  simp only [hParamEnum, if_neg hin, enumIds]

theorem hCmdOutcome_known {args : List Byte} {s : State} {o : Outcome88} (own : Owner)
    (ho : s.dev.acs.durable.reverse.find? (fun o => o.tag = fieldAt args 0 4 && o.cmd = fieldAt args 4 2) = some o) :
    hCmdOutcome s own args = .yes (leBytes 1 1 ++ leBytes 1 o.result ++ leBytes 8 o.frame) s.dev := by
  rw [hCmdOutcome, ho]

theorem hCmdOutcome_unknown {args : List Byte} {s : State} (own : Owner)
    (hn : ∀ o ∈ s.dev.acs.durable, o.tag ≠ fieldAt args 0 4 ∨ o.cmd ≠ fieldAt args 4 2) :
    hCmdOutcome s own args = .yes (List.replicate 10 0) s.dev := by
  have hnone : s.dev.acs.durable.reverse.find? (fun o => o.tag = fieldAt args 0 4 && o.cmd = fieldAt args 4 2) = none := by
    rw [List.find?_eq_none]
    intro o ho
    have hd := hn o (List.mem_reverse.mp ho)
    simp only [Bool.and_eq_true, decide_eq_true_eq]
    tauto
  rw [hCmdOutcome, hnone]
  rfl

/-- The entries of the general log from a sequence number on, at most as many as asked for. -/
def fetchedEntries (args : List Byte) (s : State) : List LogEntry :=
  (s.dev.log.general.filter fun e => fieldAt args 0 4 ≤ e.seq).take (fieldAt args 4 1)

theorem hEventFetch_yes {args : List Byte} (own : Owner) (s : State) (h0 : 1 ≤ fieldAt args 4 1)
    (h1 : fieldAt args 4 1 ≤ 31) :
    hEventFetch s own args = .yes (leBytes 4 (((fetchedEntries args s).head?.map LogEntry.seq).getD (fieldAt args 0 4)) ++
      leBytes 2 (fetchedEntries args s).length ++ leBytes 2 0 ++ (fetchedEntries args s).flatMap entryBytes) s.dev := by
  have hin : ¬(fieldAt args 4 1 = 0 ∨ 31 < fieldAt args 4 1) := by omega
  simp only [hEventFetch, if_neg hin, fetchedEntries]

theorem hJobStatus_yes {args : List Byte} {s : State} {j : Job} (own : Owner)
    (hj : s.dev.acs.jobs.find? (·.id = fieldAt args 0 2) = some j) : hJobStatus s own args = .yes (jobBytes j) s.dev := by
  rw [hJobStatus, hj]

theorem slice_leBytes (k n : Nat) : slice (leBytes k n) 0 k = leBytes k n := by
  simp [slice, List.take_of_length_le]

theorem hRegistersRead_live {args v : List Byte} {s : State} (own : Owner)
    (hv : registerBytes (fieldAt args 0 1) s.regs = some v) (hp : pubHeld s.dev = false) :
    hRegistersRead s own args =
      .yes (leBytes 1 (fieldAt args 0 1) ++ [0, 0, 0] ++ leBytes 8 s.clk.frame ++ v) s.dev := by
  simp [hRegistersRead, hv, hp, slice_leBytes]

theorem hRegistersRead_held {args v : List Byte} {s : State} (own : Owner)
    (hv : registerBytes (fieldAt args 0 1) s.regs = some v) (hp : pubHeld s.dev = true) :
    hRegistersRead s own args = .yes (leBytes 1 (fieldAt args 0 1) ++ [0, 0, 0] ++
      slice ((assoc s.dev.win.heldVals heldFrame).getD []) 0 8 ++
      (assoc s.dev.win.heldVals (heldRegister (fieldAt args 0 1))).getD v) s.dev := by
  simp [hRegistersRead, hv, hp]

theorem hMetrLogRead_yes {args : List Byte} (own : Owner) (s : State) (h0 : 1 ≤ fieldAt args 2 1)
    (h1 : fieldAt args 2 1 ≤ 31) :
    hMetrLogRead s own args = .yes
      (((s.dev.log.metr.drop (fieldAt args 0 2)).take (fieldAt args 2 1)).flatMap entryBytes) s.dev := by
  have hin : ¬(fieldAt args 2 1 = 0 ∨ 31 < fieldAt args 2 1) := by omega
  simp only [hMetrLogRead, if_neg hin]

end Sys2Proof.Machine

open Sys2Proof Sys2Proof.Machine

/-- Settles O27: the handler of each command accepts with `dev` as it was, so the row leaves its answer alone. -/
theorem readCommands : Obligations.ReadCommands := by
  unfold Obligations.ReadCommands
  intro own tag args s
  refine ⟨?identify, ?paramRead, ?paramDescribe, ?paramReadBlock, ?paramPending, ?paramEnum, ?outcomeKnown, ?outcomeUnknown,
    ?eventFetch, ?jobList, ?jobStatus, ?registersLive, ?registersHeld, ?metrLog, ?safetyCheck, ?staging⟩
  case identify => exact fun ho => .of_read rfl ho (hIdentify_yes ..)
  case paramRead => exact fun ho => .of_read (h := hParamRead) rfl ho rfl
  case paramDescribe => exact fun r ho hr => .of_read rfl ho (hParamDescribe_yes own s hr)
  case paramReadBlock => exact fun r ho hr hm h0 h1 h2 => .of_read rfl ho (hParamReadBlock_yes own hr hm h0 h1 h2)
  case paramPending => exact fun ho => .of_read (h := hParamPending) rfl ho rfl
  case paramEnum =>
    intro ho h0 h1
    obtain ⟨t, hrun, honly⟩ := Completes.of_read (c := .paramEnum own tag args) (tag := tag) rfl ho (hParamEnum_yes own s h0 h1)
    exact ⟨t, hrun, enumIds args, honly, rfl⟩
  case outcomeKnown => exact fun o ho hf => .of_read rfl ho (hCmdOutcome_known own hf)
  case outcomeUnknown => exact fun ho hn => .of_read rfl ho (hCmdOutcome_unknown own hn)
  case eventFetch =>
    intro ho h0 h1
    obtain ⟨t, hrun, honly⟩ := Completes.of_read (c := .eventFetch own tag args) (tag := tag) rfl ho (hEventFetch_yes own s h0 h1)
    exact ⟨t, hrun, fetchedEntries args s, honly, rfl⟩
  case jobList => exact fun ho => .of_read (h := hJobList) rfl ho rfl
  case jobStatus => exact fun j ho hj => .of_read rfl ho (hJobStatus_yes own hj)
  case registersLive => exact fun v ho hv hp => .of_read rfl ho (hRegistersRead_live own hv hp)
  case registersHeld => exact fun v ho hv hp => .of_read rfl ho (hRegistersRead_held own hv hp)
  case metrLog => exact fun ho h0 h1 => .of_read rfl ho (hMetrLogRead_yes own s h0 h1)
  case safetyCheck => exact fun ho => .of_read (h := hSafetyCheckRead) rfl ho rfl
  case staging => exact fun ho => .of_read (h := hCalicoStagingStatus) rfl ho rfl

end

section
/-!
FIRMWARE UPDATE. The token's way to a lane in trial and back, the commit frame, the revert and boot recovery: what each
leaves of the lanes and of the activation, and the parts of `dev` that it touches.
-/

namespace Sys2Proof.Machine

/-! Rows of the activation. -/

theorem exec_activationHandover {a : Activation} {s : State} (ha : s.dev.upd.activation = some a)
    (hr : s.clk.running = true) (hb : a.byRestart = false) :
    exec .activationHandover s = .next (s.onDev (handoverEff s.clk.frame a)) := by
  simp [exec, execActivationHandover, devStep, State.onDev, ha, hr, hb]

theorem exec_updateActivated {a : Activation} {s : State} (ha : s.dev.upd.activation = some a)
    (hc : commitDue s a = true) : exec .updateActivated s = .next (s.onDev (activatedEff s.clk.frame a)) := by
  simp [exec, execUpdateActivated, devStep, State.onDev, ha, hc]

theorem exec_updateReverted {c : RevertCause} {a : Activation} {s : State} (ha : s.dev.upd.activation = some a)
    (hc : revertDue s a c = true) : exec (.updateReverted c) s = .next (s.onDev (revertEff (revertCode c) a)) := by
  simp [exec, execUpdateReverted, devStep, State.onDev, ha, hc]

/-! The hand-over (R428 to R430). -/

theorem restartLane_only (l : Lane) (d : Dev) : DevOnly [.lanes] d (restartLane l d) := by
  simp [devOnly_iff, restartLane, Dev.onLane]

/-- The lane restarted waits in RESET for its first repair step; the other lane and the token stay (R32). -/
theorem restartLane_lanes (l : Lane) (d : Dev) : ((restartLane l d).lanes.get l).st = .reset ∧
    (restartLane l d).lanes.get (laneOther l) = d.lanes.get (laneOther l) ∧
    (restartLane l d).lanes.token = d.lanes.token := by
  cases l <;> exact ⟨rfl, rfl, rfl⟩

theorem abandonGasp_only (n : Nat) (d : Dev) : DevOnly [.gplc, .log, .win] d (abandonGasp n d) := by
  unfold abandonGasp
  split <;> simp [devOnly_iff, hostGasp]

theorem modemReset_only (n : Nat) (d : Dev) : DevOnly [.gplc, .log, .win] d (modemReset n d) := by
  have hdrop : DevOnly [.gplc, .log, .win] d { d with gplc := dropAll 6 d.gplc } := by simp [devOnly_iff]
  refine (hdrop.trans (abandonGasp_only n _)).trans ?_
  rw [modemReset]
  exact DevOnly.ite (fun _ => by simp [devOnly_iff]) fun _ => by simp [devOnly_iff]

theorem metrActivated_only (src : Nat) (old new : Manifest) (d : Dev) : DevOnly [.log] d (metrActivated src old new d) :=
  DevOnly.ite (fun _ => by simp [devOnly_iff]) fun _ => DevOnly.refl _ _

/-- The vehicle modem's link state as its new part loads (R428). -/
def unlinked (d : Dev) : Dev :=
  { d with veh := { d.veh with link := .none, slac := .idle, v2g := false, sdp := none, proto := none } }

/-- The reader's state as its new part loads (R428). -/
def readerCleared (d : Dev) : Dev := { d with nfc := { d.nfc with cards := [], baseline := [], wtxTotal := 0, slotN := 1 } }

theorem loadUnits_eq (n : Nat) (parts : List Nat) (d : Dev) : loadUnits n parts d =
    Dev.when (parts.contains 5) readerCleared (Dev.when (parts.contains 4) unlinked
      (Dev.when (parts.contains 3) (modemReset n) d)) := rfl

theorem loadUnits_only (n : Nat) (parts : List Nat) (d : Dev) :
    DevOnly [.win, .log, .veh, .gplc, .nfc] d (loadUnits n parts d) := by
  rw [loadUnits_eq]
  refine ((DevOnly.when fun _ => (modemReset_only n d).mono (by decide)).trans (DevOnly.when fun _ => ?_)).trans
    (DevOnly.when fun _ => ?_)
  · simp [devOnly_iff, unlinked]
  · simp [devOnly_iff, readerCleared]

theorem trialToken_only (n : Nat) (l : Lane) (d : Dev) : DevOnly [.lanes, .win] d (trialToken n l d) := by
  simp [devOnly_iff, trialToken, restartLane, Dev.onLane]

/-- The lane that gets the token leads, the old lead is restarted, and the take-over counts (R428). -/
theorem trialToken_lanes (n : Nat) (l : Lane) (d : Dev) : (trialToken n l d).lanes.token = some l ∧
    ((trialToken n l d).lanes.get l).st = .lead ∧ ((trialToken n l d).lanes.get (laneOther l)).st = .reset ∧
    (trialToken n l d).lanes.takeovers = d.lanes.takeovers + 1 := by
  cases l <;> exact ⟨rfl, rfl, rfl, rfl⟩

/-- The units that differ between the two sets load, and METR_ACTIVATED is logged where METR does. -/
def unitsLoaded (n src : Nat) (parts : List Nat) (old new : Manifest) (d : Dev) : Dev :=
  metrActivated src old new (loadUnits n parts d)

theorem unitsLoaded_only (n src : Nat) (parts : List Nat) (old new : Manifest) (d : Dev) :
    DevOnly [.win, .log, .veh, .gplc, .nfc] d (unitsLoaded n src parts old new d) :=
  (loadUnits_only n parts d).trans ((metrActivated_only src old new _).mono (by decide))

theorem revertDone_only (cause : Nat) (d : Dev) : DevOnly [.log, .upd] d (revertDone cause d) := by
  simp [devOnly_iff, revertDone]

/-- The token at the trial lane, the hand-over kept with the activation. -/
def handedOver (n : Nat) (a : Activation) (d : Dev) : Dev :=
  { trialToken n a.lane d with upd := { d.upd with activation := some { a with handed := true } } }

theorem handedOver_only (n : Nat) (a : Activation) (d : Dev) : DevOnly [.lanes, .win, .upd] d (handedOver n a d) := by
  simp [devOnly_iff, handedOver, trialToken, restartLane, Dev.onLane]

theorem handoverFree_true {d : Dev} (hf : d.lanes.sergeFault = false) (hd : d.lanes.dispute = none) :
    handoverFree d = true := by
  simp [handoverFree, hf, hd]

theorem handoverEff_out {a : Activation} {d : Dev} (n : Nat) (hr : a.revert = none) (hh : a.handed = false)
    (ht : trialDone a.lane d = true) (hf : handoverFree d = true) :
    handoverEff n a d = unitsLoaded n a.src (changedParts (activeSet d) (imageSet d a.target)) (activeSet d)
      (imageSet d a.target) (handedOver n a d) := by
  simp [handoverEff, hr, hh, ht, hf, unitsLoaded, handedOver]

theorem handoverEff_back {a : Activation} {d : Dev} (n : Nat) {c : Nat} (hr : a.revert = some c)
    (ht : trialDone (laneOther a.lane) d = true) (hf : handoverFree d = true) :
    handoverEff n a d = revertDone c (unitsLoaded n a.src (changedParts (activeSet d) (imageSet d a.target))
      (imageSet d a.target) (activeSet d) (trialToken n (laneOther a.lane) d)) := by
  simp [handoverEff, hr, ht, hf, unitsLoaded]

/-! The commit frame (R428). -/

theorem nameplateWrite_only (d : Dev) : DevOnly [.cal] d (nameplateWrite d) :=
  DevOnly.ite (fun _ => by simp [devOnly_iff]) fun _ => DevOnly.refl _ _

/-- The anti-rollback counters that a set raises (R428). -/
def raisedRollback (m : Manifest) (d : Dev) : List Nat :=
  (List.range 5).map fun k => max (nth 0 d.keys.vault.rollback k) (entryRollback (nth [] m.parts k))

theorem raisedRollback_le (m : Manifest) (d : Dev) {k : Nat} (hk : k < 5) :
    nth 0 d.keys.vault.rollback k ≤ nth 0 (raisedRollback m d) k := by
  simp [raisedRollback, nth, List.getElem?_map, List.getElem?_range hk]

/-- The counters and the active set after the commit, in all copies. -/
def committed (a : Activation) (d : Dev) : Dev :=
  storeCounters { d with
    keys := { d.keys with vault := { d.keys.vault with
      manifest := max d.keys.vault.manifest a.counter, rollback := raisedRollback (imageSet d a.target) d } }
    upd := { d.upd with
      st := 0, result := 0, activeSet := a.target, activation := none, trialSet := none, staged := [], stagedLen := 0
      source := 0, manifest := [], activations := d.upd.activations + 1 } }

theorem committed_only (a : Activation) (d : Dev) : DevOnly [.keys, .upd] d (committed a d) := by
  simp [devOnly_iff, committed, storeCounters]

/-- The commit, apart from the nameplate and the event. -/
theorem activatedEff_eq (n : Nat) (a : Activation) (d : Dev) : ∃ data,
    activatedEff n a d = (nameplateWrite (committed a d)).raise a.src Event.UPDATE_ACTIVATED data := ⟨_, rfl⟩

theorem activatedEff_only (n : Nat) (a : Activation) (d : Dev) :
    DevOnly [.log, .cal, .keys, .upd] d (activatedEff n a d) := by
  obtain ⟨data, heq⟩ := activatedEff_eq n a d
  rw [heq]
  have hlog : DevOnly [.log, .cal, .keys, .upd] (nameplateWrite (committed a d))
      ((nameplateWrite (committed a d)).raise a.src Event.UPDATE_ACTIVATED data) := by simp [devOnly_iff]
  exact (((committed_only a d).mono (by decide)).trans ((nameplateWrite_only _).mono (by decide))).trans hlog

theorem activatedEff_keys (n : Nat) (a : Activation) (d : Dev) : (activatedEff n a d).keys = (committed a d).keys :=
  nameplateWrite_only (committed a d) .keys (by decide)

theorem activatedEff_upd (n : Nat) (a : Activation) (d : Dev) : (activatedEff n a d).upd = (committed a d).upd :=
  nameplateWrite_only (committed a d) .upd (by decide)

/-! The revert (R429, R431). -/

theorem revertEff_restart {a : Activation} (h : a.byRestart = true) {cause : Nat} (hc : cause ≠ 2) (d : Dev) :
    revertEff cause a d =
      { d with upd := { d.upd with activation := some { a with revert := some cause }, restartDue := true } } := by
  rw [revertEff, if_pos h, if_neg hc]

theorem revertEff_stopped {a : Activation} (h : a.byRestart = true) (d : Dev) : revertEff 2 a d = revertDone 2 d := by
  rw [revertEff, if_pos h, if_pos rfl]

theorem revertEff_handed {a : Activation} (h : a.byRestart = false) (hh : a.handed = true) (cause : Nat) (d : Dev) :
    revertEff cause a d = restartLane (laneOther a.lane)
      { d with upd := { d.upd with activation := some { a with revert := some cause } } } := by
  simp [revertEff, h, hh]

/-- The lane on the new set restarted on the active one, where it is in repair. -/
def trialDropped (a : Activation) (d : Dev) : Dev := if (d.lanes.get a.lane).repair.isSome then restartLane a.lane d else d

theorem revertEff_before {a : Activation} (h : a.byRestart = false) (hh : a.handed = false) (cause : Nat) (d : Dev) :
    revertEff cause a d = revertDone cause (trialDropped a d) := by
  simp [revertEff, h, hh, trialDropped]

theorem trialDropped_only (a : Activation) (d : Dev) : DevOnly [.lanes] d (trialDropped a d) :=
  DevOnly.ite (fun _ => restartLane_only a.lane d) fun _ => DevOnly.refl _ _

theorem trialDropped_lanes (a : Activation) (d : Dev) :
    (trialDropped a d).lanes.get (laneOther a.lane) = d.lanes.get (laneOther a.lane) ∧
      (trialDropped a d).lanes.token = d.lanes.token := by
  unfold trialDropped
  split
  · exact (restartLane_lanes a.lane d).2
  · exact ⟨rfl, rfl⟩

theorem revertCode_ne_two {c : RevertCause} (h : c ≠ .stopBefore) : revertCode c ≠ 2 := by
  cases c with
  | deadline => decide
  | stepFailed => decide
  | stopBefore => exact absurd rfl h

end Sys2Proof.Machine

open Sys2Proof Sys2Proof.Machine

/-- Settles O60: each row is its effect on `dev`, whose lanes and activation the lemmas above give. -/
theorem updateRows : Obligations.UpdateRows := by
  unfold Obligations.UpdateRows
  refine ⟨?handover, ?commit, ?revert, ?recovery⟩
  case handover =>
    intro a s hrun ha hby hserge hdisp
    have hfree : handoverFree s.dev = true := handoverFree_true hserge hdisp
    refine ⟨fun hrev hh htrial => ?out, fun c hrev htrial => ?back⟩
    case out =>
      refine ⟨_, exec_activationHandover ha hrun hby, ?_⟩
      rw [State.onDev, handoverEff_out _ hrev hh htrial hfree]
      have honly := handedOver_only s.clk.frame a s.dev
      have hunits := unitsLoaded_only s.clk.frame a.src (changedParts (activeSet s.dev) (imageSet s.dev a.target))
        (activeSet s.dev) (imageSet s.dev a.target) (handedOver s.clk.frame a s.dev)
      obtain ⟨htoken, hlead, hreset, htakes⟩ := trialToken_lanes s.clk.frame a.lane s.dev
      have hl : _ = (trialToken s.clk.frame a.lane s.dev).lanes := hunits .lanes (by decide)
      have hu : _ = (handedOver s.clk.frame a s.dev).upd := hunits .upd (by decide)
      dsimp only
      rw [hl, hu]
      exact ⟨htoken, hlead, hreset, htakes, rfl, rfl,
        OnlyChanges.dev ((honly.mono (by decide)).trans (hunits.mono (by decide)))⟩
    case back =>
      refine ⟨_, exec_activationHandover ha hrun hby, ?_⟩
      rw [State.onDev, handoverEff_back _ hrev htrial hfree]
      have honly := trialToken_only s.clk.frame (laneOther a.lane) s.dev
      have hunits := unitsLoaded_only s.clk.frame a.src (changedParts (activeSet s.dev) (imageSet s.dev a.target))
        (imageSet s.dev a.target) (activeSet s.dev) (trialToken s.clk.frame (laneOther a.lane) s.dev)
      have hunitsAll := (honly.mono (by decide)).trans
        (hunits.mono (qs := [.lanes, .win, .log, .veh, .gplc, .nfc, .upd]) (by decide))
      obtain ⟨htoken, _, _, htakes⟩ := trialToken_lanes s.clk.frame (laneOther a.lane) s.dev
      have hl : _ = (trialToken s.clk.frame (laneOther a.lane) s.dev).lanes := hunits .lanes (by decide)
      have hu : _ = s.dev.upd := hunits .upd (by decide)
      generalize unitsLoaded s.clk.frame a.src (changedParts (activeSet s.dev) (imageSet s.dev a.target))
        (imageSet s.dev a.target) (activeSet s.dev) (trialToken s.clk.frame (laneOther a.lane) s.dev) = e at *
      have hk : e.keys = s.dev.keys := hunitsAll .keys (by decide)
      exact ⟨hl ▸ htoken, hl ▸ htakes, rfl, rfl, congrArg (fun u : Upd => u.reverts + 1) hu,
        (congrArg Upd.activeSet hu : e.upd.activeSet = s.dev.upd.activeSet), hk, List.mem_append_right _ List.mem_cons_self,
        OnlyChanges.dev (hunitsAll.trans ((revertDone_only c e).mono (by decide)))⟩
  case commit =>
    intro a s ha hdue
    refine ⟨_, exec_updateActivated ha hdue, ?_⟩
    rw [State.onDev]
    dsimp only
    rw [activatedEff_keys, activatedEff_upd]
    exact ⟨rfl, rfl, rfl, rfl, rfl, by simp [committed, storeCounters, raisedRollback],
      fun k hk => raisedRollback_le _ s.dev hk, rfl, rfl, OnlyChanges.dev (activatedEff_only s.clk.frame a s.dev)⟩
  case revert =>
    intro c a s ha hdue
    refine ⟨fun hby hh => ?before, fun hby hh => ?handed, fun hby hc => ?restart, fun hby hc => ?stopped⟩
    case before =>
      refine ⟨_, exec_updateReverted ha hdue, ?_⟩
      rw [State.onDev, revertEff_before hby hh]
      have honly := trialDropped_only a s.dev
      obtain ⟨hother, htoken⟩ := trialDropped_lanes a s.dev
      have hu : (trialDropped a s.dev).upd = s.dev.upd := honly .upd (by decide)
      have hlog : (trialDropped a s.dev).log = s.dev.log := honly .log (by decide)
      generalize trialDropped a s.dev = e at *
      refine ⟨?_, ?_, htoken, hother, OnlyChanges.dev ((honly.mono (by decide)).trans ((revertDone_only _ e).mono (by decide)))⟩
      · rw [← hu]; rfl
      · rw [Logs, ← hlog]; rfl
    case handed =>
      refine ⟨_, exec_updateReverted ha hdue, ?_⟩
      rw [State.onDev, revertEff_handed hby hh]
      obtain ⟨hreset, hother, htoken⟩ := restartLane_lanes (laneOther a.lane)
        { s.dev with upd := { s.dev.upd with activation := some { a with revert := some (revertCode c) } } }
      rw [laneOther_laneOther] at hother
      exact ⟨rfl, hreset, hother, htoken, OnlyChanges.dev (by simp [devOnly_iff, restartLane, Dev.onLane])⟩
    case restart =>
      refine ⟨_, exec_updateReverted ha hdue, ?_⟩
      rw [State.onDev, revertEff_restart hby (revertCode_ne_two hc)]
      exact ⟨rfl, OnlyChanges.dev (by simp [devOnly_iff])⟩
    case stopped =>
      subst hc
      refine ⟨_, exec_updateReverted ha hdue, ?_⟩
      rw [State.onDev, revertCode, revertEff_stopped hby]
      exact ⟨rfl, rfl, OnlyChanges.dev ((revertDone_only 2 s.dev).mono (by decide))⟩
  case recovery =>
    intro s hrun hbad
    exact .of_when (b := fun _ => !s.clk.running && s.dev.upd.bootBad) rfl (by simp [hrun, hbad])
      ⟨rfl, OnlyChanges.onDev (by simp [devOnly_iff])⟩

end

section
/-!
THE HEAD-END: associations, pushes, the image transfer and the key transfer (R356, R357, R361, R400). What each leaves of
the DLMS state and the parts of `dev` that it touches.
-/

namespace Sys2Proof.Machine

/-! Associations (R356). -/

theorem associate_full {d : Dev} (h : 4 ≤ d.dlms.assocs.length) (n sap suite : Nat) (authentic : Bool) :
    associate n sap suite authentic d = d := if_pos h

theorem associate_public {d : Dev} (h : d.dlms.assocs.length < 4) (n suite : Nat) (authentic : Bool) :
    associate n 0x10 suite authentic d = openAssoc n false d := by
  rw [associate, if_neg (Nat.not_le.mpr h), if_pos rfl]

/-- No management association is open and the suite is DLMS_SUITE: authentication and the keys decide. -/
theorem associate_management {d : Dev} (h : d.dlms.assocs.length < 4) (hm : ∀ a ∈ d.dlms.assocs, a.mgmt = false)
    {suite : Nat} (hs : suite = d.nat Param.DLMS_SUITE) (n : Nat) (authentic : Bool) :
    associate n 1 suite authentic d =
      if authentic && suiteKeys suite d then openAssoc n true d else securityFailed n 0 d := by
  have hfree : ¬(d.dlms.assocs.any Assoc.mgmt = true ∨ suite ≠ d.nat Param.DLMS_SUITE) := by
    rintro (hany | hne)
    · obtain ⟨a, ha, hmgmt⟩ := List.any_eq_true.mp hany
      exact absurd hmgmt (by simp [hm a ha])
    · exact hne hs
  rw [associate, if_neg (Nat.not_le.mpr h), if_neg (by decide), if_pos rfl, if_neg hfree]

theorem openAssoc_only (n : Nat) (mgmt : Bool) (d : Dev) : DevOnly [.dlms, .log] d (openAssoc n mgmt d) := by
  simp [devOnly_iff, openAssoc]

theorem securityFailed_only (n cause : Nat) (d : Dev) : DevOnly [.dlms, .gplc, .log] d (securityFailed n cause d) := by
  simp [devOnly_iff, securityFailed, raiseAll]

/-- A rejection for security is counted, and logged with its cause (R356). -/
theorem securityFailed_logged (n cause : Nat) (d : Dev) : ∃ e ∈ (securityFailed n cause d).log.now,
    e.src = Src.grid ∧ e.code = Event.DLMS_SECURITY_FAILED ∧ e.data = leBytes 1 cause :=
  ⟨_, List.mem_append_right _ List.mem_cons_self, rfl, rfl, rfl⟩

theorem discardSet_only (o : Owner) (cause : Nat) (d : Dev) : DevOnly [.acs, .log] d (discardSet o cause d) := by
  cases o with
  | host => exact DevOnly.ite (fun _ => DevOnly.refl _ _) fun _ => by simp [devOnly_iff]
  | headEnd k => exact DevOnly.ite (fun _ => DevOnly.refl _ _) fun _ => by simp [devOnly_iff]

theorem assoc_eraseId {α : Type} (l : List (Nat × α)) (k : Nat) : assoc (eraseId l k) k = none := by
  simp [assoc, eraseId, List.find?_eq_none]

theorem exec_dlmsInactivity {k : Nat} {a : Assoc} {s : State} (hc : Committed s) (hr : s.clk.running = true)
    (ha : assocOf k s.dev = some a) (hi : a.lastReq + secs (s.dev.nat Param.DLMS_INACTIVITY) ≤ s.clk.frame) :
    exec (.dlmsInactivity k) s = .next (s.onDev (releaseAssoc a)) := by
  have hidle : idleAssoc s.clk.frame s.dev a = true := decide_eq_true hi
  simp only [exec, execDlmsInactivity, protoStep_committed hc, State.onDev, ha, hr, hidle, Bool.and_self, Dev.when_true]

/-- A released association leaves the list with its pending set, and is logged (R114, R356). -/
theorem releaseAssoc_released (a : Assoc) (d : Dev) :
    (releaseAssoc a d).dlms = { d.dlms with assocs := d.dlms.assocs.filter fun x => x.id ≠ a.id } ∧
      assoc (releaseAssoc a d).acs.assocSets a.id = none ∧
      Ev.of Src.grid Event.DLMS_ASSOCIATED (leBytes 1 (clientSap a.mgmt)) ∈ (releaseAssoc a d).log.now ∧
      DevOnly [.dlms, .log, .acs] d (releaseAssoc a d) := by
  have honly := discardSet_only (.headEnd a.id) 0 d
  have hdlms : (discardSet (.headEnd a.id) 0 d).dlms = d.dlms := honly .dlms (by decide)
  rw [releaseAssoc]
  generalize discardSet (.headEnd a.id) 0 d = e at *
  refine ⟨?_, assoc_eraseId _ _, List.mem_append_right _ List.mem_cons_self,
    (honly.mono (by decide)).trans (by simp [devOnly_iff])⟩
  rw [← hdlms]
  rfl

/-! Pushes (R357). -/

theorem push_only (n : Nat) (d : Dev) : DevOnly [.dlms, .gplc] d (push n d) :=
  DevOnly.ite (fun _ => by simp [devOnly_iff]) fun _ => by simp [devOnly_iff]

theorem push_dlms (n : Nat) (d : Dev) : (push n d).dlms.pushFrame = some n ∧ (push n d).dlms.alarms = d.dlms.alarms := by
  unfold push
  split <;> exact ⟨rfl, rfl⟩

theorem nth_set_same {α : Type} (x : α) {l : List α} {k : Nat} (h : k < l.length) (v : α) : nth x (l.set k v) k = v := by
  simp [nth, h]

theorem nth_set_other {α : Type} (x : α) (l : List α) {j k : Nat} (h : j ≠ k) (v : α) : nth x (l.set k v) j = nth x l j := by
  simp [nth, List.getElem?_set_ne (Ne.symm h)]

/-- A packet joins a queue that has room at its end (R352). -/
theorem enqueue_queue {g : Gplc} {q : Nat} (hq : q < g.queues.length) (hroom : (g.queue q).length < queueCap q) (p : Packet) :
    (enqueue q p g).queue q = g.queue q ++ [p] := by
  rw [enqueue, if_pos hroom]
  exact nth_set_same [] hq _

theorem push_queue {d : Dev} (hq : d.gplc.queues.length = 3) (hh : d.pow.st ≠ .hold) (hm : modemUp d = true)
    (hdest : ∃ b ∈ d.blk Param.PUSH_DESTINATION, b ≠ 0) (hroom : (d.gplc.queue 0).length < 8) (n : Nat) :
    (push n d).gplc.queue 0 = d.gplc.queue 0 ++ [⟨.push, (coordRoute d.gplc).map Route.dest, n, none⟩] := by
  have hgo : ((d.blk Param.PUSH_DESTINATION).any (· ≠ 0) && decide (d.pow.st ≠ .hold) && modemUp d) = true := by
    simpa [hh, hm] using hdest
  rw [push, if_pos hgo]
  exact enqueue_queue (by omega) hroom _

/-! The image transfer (R361, R424). -/

theorem discardImage_only (src cause : Nat) (d : Dev) : DevOnly [.dlms, .upd, .log] d (discardImage src cause d) :=
  DevOnly.ite (fun _ => by simp [devOnly_iff]) fun _ => by simp [devOnly_iff]

/-- The update's state after what was staged is discarded. -/
theorem discardImage_upd (src cause : Nat) (d : Dev) :
    (discardImage src cause d).upd = { d.upd with staged := [], stagedLen := 0, source := 0 } := by
  unfold discardImage
  dsimp only
  split <;> rfl

theorem initiate_repeated {ident : List Byte} {size : Nat} {d : Dev} (ha : d.upd.activation = none)
    (hj : jobOf .staging d = none) (hid : ident = asciiPad 6 "KM7720") (h0 : 0 < size) (h1 : size ≤ 8388608)
    (hi : d.dlms.image = some (ident, size)) : transferInitiate ident size d = dar Dar.success d := by
  have hbusy : ¬(d.upd.activation.isSome || hostStaging d) = true := by simp [ha, hostStaging, hj]
  have hform : ¬(8388608 < size ∨ size = 0 ∨ ident ≠ asciiPad 6 "KM7720") := by
    rintro (h | h | h)
    · omega
    · omega
    · exact h hid
  rw [transferInitiate, if_neg hbusy, if_neg hform, if_pos hi]

/-- The object opened for a transfer from the head-end. -/
def transferOpened (ident : List Byte) (size : Nat) (d : Dev) : Dev :=
  { d with
    dlms := { d.dlms with image := some (ident, size), blocks := [] }
    upd := { d.upd with st := 1, source := 1, part := 0, stagedLen := size } }

theorem initiate_new {ident : List Byte} {size : Nat} {d : Dev} (ha : d.upd.activation = none)
    (hj : jobOf .staging d = none) (hid : ident = asciiPad 6 "KM7720") (h0 : 0 < size) (h1 : size ≤ 8388608)
    (hi : d.dlms.image ≠ some (ident, size)) : transferInitiate ident size d =
      dar Dar.success ((transferOpened ident size (discardImage Src.grid 1 d)).raise Src.grid
        Event.IMAGE_TRANSFER_STARTED (leBytes 1 ident.length ++ ident ++ leBytes 4 size)) := by
  have hbusy : ¬(d.upd.activation.isSome || hostStaging d) = true := by simp [ha, hostStaging, hj]
  have hform : ¬(8388608 < size ∨ size = 0 ∨ ident ≠ asciiPad 6 "KM7720") := by
    rintro (h | h | h)
    · omega
    · omega
    · exact h hid
  rw [transferInitiate, if_neg hbusy, if_neg hform, if_neg hi]
  rfl

theorem insertId_length {α : Type} (k : Nat) (v : α) :
    ∀ {l : List (Nat × α)}, assoc l k = none → (insertId l k v).length = l.length + 1
  | [], _ => rfl
  | (j, w) :: r, h => by
    have hne : j ≠ k := by
      rintro rfl
      simp [assoc] at h
    have hrest : assoc r k = none := by simpa [assoc, List.find?_cons, hne] using h
    rw [insertId]
    split
    · rfl
    · rw [if_neg (Ne.symm hne), List.length_cons, insertId_length k v hrest, List.length_cons]

/-- The object complete, its transfer closed. -/
def objectWhole (block : Nat) (data : List Byte) (d : Dev) : Dev :=
  { d with
    upd := { d.upd with staged := ((insertId d.dlms.blocks block data).map Prod.snd).flatten }
    dlms := { d.dlms with blocks := [], image := none } }

section
variable {block size : Nat} {ident data : List Byte} {d : Dev} (hi : d.dlms.image = some (ident, size))
  (ha : d.upd.activation = none) (hb : block < transferBlocks size d)
  (hl : data.length = min (d.nat Param.IMAGE_BLOCK_SIZE) (size - d.nat Param.IMAGE_BLOCK_SIZE * block))
include hi ha hb hl

/-- A block of the open transfer, in its place and of its length: whether it is held decides, then its read-back. -/
theorem transferBlock_fits (readBack : Bool) : transferBlock block data readBack d =
    if (assoc d.dlms.blocks block).isSome then dar Dar.success d
    else if !readBack then dar Dar.temporaryFailure d
    else if (insertId d.dlms.blocks block data).length < transferBlocks size d then
      dar Dar.success { d with dlms := { d.dlms with blocks := insertId d.dlms.blocks block data } }
    else dar Dar.success ((imageStaged Src.grid (objectWhole block data d)).raise Src.grid
      Event.IMAGE_TRANSFER_COMPLETE (leBytes 4 (transferBlocks size d))) := by
  have hform : ¬(transferBlocks size d ≤ block ∨
      data.length ≠ min (d.nat Param.IMAGE_BLOCK_SIZE) (size - d.nat Param.IMAGE_BLOCK_SIZE * block)) := by
    rintro (h | h)
    · omega
    · exact h hl
  have hfree : ¬d.upd.activation.isSome = true := by simp [ha]
  rw [transferBlock, hi]
  dsimp only
  rw [if_neg hfree, if_neg hform]
  rfl

theorem transferBlock_twice (hheld : (assoc d.dlms.blocks block).isSome = true) (readBack : Bool) :
    transferBlock block data readBack d = dar Dar.success d := by
  rw [transferBlock_fits hi ha hb hl, if_pos hheld]

theorem transferBlock_lost (hnew : assoc d.dlms.blocks block = none) :
    transferBlock block data false d = dar Dar.temporaryFailure d := by
  rw [transferBlock_fits hi ha hb hl, if_neg (by simp [hnew]), if_pos (by decide)]

theorem transferBlock_held (hnew : assoc d.dlms.blocks block = none)
    (hmore : d.dlms.blocks.length + 1 < transferBlocks size d) : transferBlock block data true d =
      dar Dar.success { d with dlms := { d.dlms with blocks := insertId d.dlms.blocks block data } } := by
  rw [← insertId_length block data hnew] at hmore
  rw [transferBlock_fits hi ha hb hl, if_neg (by simp [hnew]), if_neg (by decide), if_pos hmore]

theorem transferBlock_whole (hnew : assoc d.dlms.blocks block = none)
    (hlast : transferBlocks size d ≤ d.dlms.blocks.length + 1) : transferBlock block data true d =
      dar Dar.success ((imageStaged Src.grid (objectWhole block data d)).raise Src.grid
        Event.IMAGE_TRANSFER_COMPLETE (leBytes 4 (transferBlocks size d))) := by
  rw [← insertId_length block data hnew] at hlast
  rw [transferBlock_fits hi ha hb hl, if_neg (by simp [hnew]), if_neg (by decide), if_neg (Nat.not_lt.mpr hlast)]

end

/-- Every outcome of a block that fits leaves the active set and the other parts (R361). -/
theorem transferBlock_only (block : Nat) (data : List Byte) (readBack : Bool) (d : Dev) :
    DevOnly [.dlms, .upd, .log] d (transferBlock block data readBack d) ∧
      (transferBlock block data readBack d).upd.activeSet = d.upd.activeSet := by
  have hdar (r : Nat) : DevOnly [.dlms, .upd, .log] d (dar r d) ∧ (dar r d).upd.activeSet = d.upd.activeSet :=
    ⟨by simp [devOnly_iff, dar], rfl⟩
  unfold transferBlock
  split
  · exact hdar _
  · dsimp only
    split
    · exact hdar _
    split
    · exact hdar _
    split
    · exact hdar _
    split
    · exact hdar _
    split
    · exact ⟨by simp [devOnly_iff, dar], rfl⟩
    · exact ⟨by simp [devOnly_iff, dar, imageStaged], rfl⟩

/-! The key transfer (R400). -/

/-- A slot with an imported key; all zeros empties it (R400). -/
def importedSlot (k : Nat) (key : List Byte) (d : Dev) : KeySlot :=
  if key.all (· = 0) then ⟨0, (keySlot d k).generation, 0, []⟩
  else ⟨3, (keySlot d k).generation, Config.keyCheck key, key⟩

theorem importKey_dlms (src k : Nat) (key : List Byte) (d : Dev) (hk : k ≠ 10) : importKey src k key d =
    Dev.when (k = 5) (fun e => { e with dlms := { e.dlms with lastIc := none } })
      (logDerived src k 0 (setSlot k (importedSlot k key d) d)) := by
  rw [importKey]
  dsimp only
  rw [if_neg hk]
  unfold Dev.when
  simp only [decide_eq_true_eq]
  rfl

theorem keySlot_setSlot_same {k : Nat} {d : Dev} (h : k < d.keys.slots.length) (x : KeySlot) :
    keySlot (setSlot k x d) k = x := by
  rw [keySlot, setSlot]
  exact nth_set_same _ h x

theorem keySlot_setSlot_other {i k : Nat} (h : i ≠ k) (x : KeySlot) (d : Dev) :
    keySlot (setSlot k x d) i = keySlot d i := by
  rw [keySlot, setSlot, keySlot]
  exact nth_set_other _ d.keys.slots h x

theorem importKey_keys (src k : Nat) (key : List Byte) (d : Dev) (hk : k ≠ 10) :
    (importKey src k key d).keys = (setSlot k (importedSlot k key d) d).keys := by
  rw [importKey_dlms src k key d hk, Dev.when]
  split <;> rfl

theorem importKey_only (src k : Nat) (key : List Byte) (d : Dev) (hk : k ≠ 10) :
    DevOnly [.dlms, .keys, .log] d (importKey src k key d) := by
  rw [importKey_dlms src k key d hk]
  have hset : DevOnly [.dlms, .keys, .log] d (logDerived src k 0 (setSlot k (importedSlot k key d) d)) := by
    simp [devOnly_iff, logDerived, setSlot]
  exact hset.trans (DevOnly.when fun _ => by simp [devOnly_iff])

end Sys2Proof.Machine

end

section
/-!
REQUESTS OF THE HEAD-END (R356, R359, R360): what an APDU leaves when it is refused, repeated or executed; the public
association runs commands that only read.
-/

namespace Sys2Proof.Machine

/-! The outcomes of an APDU. -/

theorem exec_dlmsApdu {x : Apdu} {a : Assoc} {s : State} (ha : assocOf x.assoc s.dev = some a) (hj : joined s = true)
    (hs : s.serving = true) (hc : Committed s) : exec (.dlmsApdu x) s = .next (apduEff a x (mailboxScan s)) := by
  have hm : s.dev.win.shadow.marker = true := hc
  simp [exec, execDlmsApdu, ha, hj, hs, hm]

/-- A management request without its tag, without the keys or with a counter that does not rise is rejected for security. -/
theorem apduEff_rejected {a : Assoc} {x : Apdu} {u : State} (hm : a.mgmt = true)
    (h : x.authentic = false ∨ suiteKeys (u.dev.nat Param.DLMS_SUITE) u.dev = false ∨
      u.dev.dlms.lastIc.any (fun c => x.ic ≤ c) = true) :
    ∃ cause, apduEff a x u = u.onDev (securityFailed u.clk.frame cause) := by
  by_cases htag : (!x.authentic || !suiteKeys (u.dev.nat Param.DLMS_SUITE) u.dev) = true
  · exact ⟨0, by simp only [apduEff, hm, htag, Bool.and_self, if_true]⟩
  · have hcount : u.dev.dlms.lastIc.any (fun c => x.ic ≤ c) = true := by
      simp only [Bool.or_eq_true, Bool.not_eq_true'] at htag
      tauto
    exact ⟨1, by simp only [apduEff, hm, htag, hcount, Bool.true_and, Bool.and_true, if_true, if_false, Bool.false_eq_true]⟩

/-- The invocation counter of an accepted management request is kept (R360). -/
def counterTaken (x : Apdu) (d : Dev) : Dev := { d with dlms := { d.dlms with lastIc := some x.ic } }

/-- The answer to an APDU that passed: a repeat from the journal, any other request executed (R360). -/
def answerApdu (a : Assoc) (x : Apdu) (s : State) : State :=
  match keptAnswer s.clk.frame a x with
  | some j => s.onDev (respond s.clk.frame a.id a.mgmt j.response)
  | none => request a x s

theorem apduEff_accepted {a : Assoc} {x : Apdu} {u : State} (hm : a.mgmt = true) (hx : x.authentic = true)
    (hk : suiteKeys (u.dev.nat Param.DLMS_SUITE) u.dev = true) (hc : u.dev.dlms.lastIc.any (fun c => x.ic ≤ c) = false) :
    apduEff a x u = answerApdu a x (u.onDev (counterTaken x)) := by
  have htag : ¬(a.mgmt && (!x.authentic || !suiteKeys (u.dev.nat Param.DLMS_SUITE) u.dev)) = true := by simp [hx, hk]
  have hcount : ¬(a.mgmt && u.dev.dlms.lastIc.any (fun c => decide (x.ic ≤ c))) = true := by simp only [hc]; simp
  rw [apduEff]
  dsimp only
  rw [if_neg htag, if_neg hcount, if_pos hm]
  rfl

theorem apduEff_public {a : Assoc} (hm : a.mgmt = false) (x : Apdu) (u : State) : apduEff a x u = answerApdu a x u := by
  have hpublic (b : Bool) : ¬(a.mgmt && b) = true := by simp [hm]
  rw [apduEff]
  dsimp only
  rw [if_neg (hpublic _), if_neg (hpublic _), if_neg (by simp [hm])]
  rfl

theorem answerApdu_repeat {a : Assoc} {x : Apdu} {s : State} {j : DlmsAns} (h : keptAnswer s.clk.frame a x = some j) :
    answerApdu a x s = s.onDev (respond s.clk.frame a.id a.mgmt j.response) := by
  rw [answerApdu, h]

theorem answerApdu_new {a : Assoc} {x : Apdu} {s : State} (h : keptAnswer s.clk.frame a x = none) :
    answerApdu a x s = request a x s := by
  rw [answerApdu, h]

/-! The response. -/

theorem respond_only (n k : Nat) (mgmt : Bool) (bytes : List Byte) (d : Dev) :
    DevOnly [.dlms, .gplc] d (respond n k mgmt bytes d) := by
  simp [devOnly_iff, respond, onAssoc]

theorem onAssoc_only (k : Nat) (f : Assoc → Assoc) (d : Dev) : DevOnly [.dlms, .gplc] d (onAssoc k f d) := by
  simp [devOnly_iff, onAssoc]

/-- What a management request alone may change of the DLMS state has stayed: the counter, the alarms and their filter. -/
structure ControlKept (d e : Dev) : Prop where
  lastIc : e.dlms.lastIc = d.dlms.lastIc
  alarms : e.dlms.alarms = d.dlms.alarms
  filter : e.dlms.filter = d.dlms.filter

theorem respond_control (n k : Nat) (mgmt : Bool) (bytes : List Byte) (d : Dev) :
    ControlKept d (respond n k mgmt bytes d) := ⟨rfl, rfl, rfl⟩

/-- The items of a request in order: the state after them, and the response (R360). -/
def requestItems (a : Assoc) (x : Apdu) (s : State) : State × List Byte :=
  x.items.foldl (runItem a.id a.mgmt) (if a.mgmt then s.onDev (alarmAction x) else s, leBytes 1 x.invoke)

/-- The response of a request journalled and sent, after its items. -/
def requestAnswered (a : Assoc) (x : Apdu) (n : Nat) (bytes : List Byte) (d : Dev) : Dev :=
  respond n a.id a.mgmt bytes
    (onAssoc a.id (fun y => { y with journal := lastN 8 (y.journal ++ [⟨x.invoke, x.plain, n, bytes⟩]) }) d)

theorem request_eq (a : Assoc) (x : Apdu) (s : State) : request a x s =
    (requestItems a x s).1.onDev (requestAnswered a x s.clk.frame (requestItems a x s).2) := rfl

theorem requestAnswered_only (a : Assoc) (x : Apdu) (n : Nat) (bytes : List Byte) (d : Dev) :
    DevOnly [.dlms, .gplc] d (requestAnswered a x n bytes d) :=
  (onAssoc_only _ _ d).trans (respond_only n a.id a.mgmt bytes _)

theorem requestAnswered_control (a : Assoc) (x : Apdu) (n : Nat) (bytes : List Byte) (d : Dev) :
    ControlKept d (requestAnswered a x n bytes d) := ⟨rfl, rfl, rfl⟩

theorem requestAnswered_response (a : Assoc) (x : Apdu) (n : Nat) (bytes : List Byte) (d : Dev) :
    (requestAnswered a x n bytes d).dlms.response = bytes := rfl

/-! The public association (R356). -/

theorem hParamRead_reads : Handler.Reads hParamRead := fun _ _ _ => .inr ⟨_, rfl⟩

theorem hParamReadBlock_reads : Handler.Reads hParamReadBlock := by
  intro s own args
  unfold hParamReadBlock
  dsimp only
  cases rowOf (fieldAt args 0 2) with
  | none => exact .inl ⟨_, _, rfl⟩
  | some r =>
    dsimp only
    split
    · exact .inl ⟨_, _, rfl⟩
    split
    · exact .inl ⟨_, _, rfl⟩
    · exact .inr ⟨_, rfl⟩

/-- PARAM_READ and PARAM_READ_BLOCK by their codes change nothing but their answers. -/
theorem runAcs_read {code : Nat} (h : code = Cmd.PARAM_READ ∨ code = Cmd.PARAM_READ_BLOCK) (own : Owner) (tag : Nat)
    (args : List Byte) (s : State) : OnlyChanges [.acs, .pow] s (runAcs code own tag args s) := by
  obtain rfl | rfl := h
  · exact hParamRead_reads.acsRun_only _ tag own args s
  · exact hParamReadBlock_reads.acsRun_only _ tag own args s

theorem clockGet_runs {d : Dev} {attr code off len : Nat} {args : List Byte}
    (hd : clockGet d attr = .run code args off len) : code = Cmd.PARAM_READ ∨ code = Cmd.PARAM_READ_BLOCK := by
  unfold clockGet at hd
  split at hd
  case h_1 | h_2 => cases hd; exact .inl rfl
  case h_4 => cases hd; exact .inr rfl
  case h_3 | h_5 => cases hd

/-- A get of the logical device name or of the clock runs at most a read of a parameter (R356, R358): of the classes only
that of the clock runs a command for either name. -/
theorem publicGet_runs {d : Dev} {cls attr code off len : Nat} {obis : List Nat} {data args : List Byte}
    (ho : obis = [0, 0, 42, 0, 0, 255] ∨ obis = [0, 0, 1, 0, 0, 255])
    (hd : cosemGet d cls obis attr data = .run code args off len) : code = Cmd.PARAM_READ ∨ code = Cmd.PARAM_READ_BLOCK := by
  unfold cosemGet at hd
  split at hd
  · cases hd
  split at hd
  · obtain rfl | rfl := ho <;> simp [vendorGet] at hd
  obtain rfl | rfl := ho
  · split at hd <;> simp_all [dataGet, profileGet]
  · split at hd <;> simp_all [dataGet, profileGet]
    exact clockGet_runs hd

/-- What a public association may get runs no other command. -/
theorem publicItem_runs {d : Dev} {i : ApduItem} {code off len : Nat} {args : List Byte}
    (ha : itemAllowed false i = true) (hd : itemDoes d i = .run code args off len) :
    code = Cmd.PARAM_READ ∨ code = Cmd.PARAM_READ_BLOCK := by
  cases i with
  | acs c bytes =>
    obtain ⟨hc, -⟩ : c.toNat = Cmd.PARAM_READ ∧ _ := by simpa [itemAllowed] using ha
    simp only [itemDoes, runWhole, CosemDoes.run.injEq] at hd
    exact .inl (hd.1 ▸ hc)
  | get cls obis attr data =>
    have ho : obis = [0, 0, 42, 0, 0, 255] ∨ obis = [0, 0, 1, 0, 0, 255] := by simpa [itemAllowed] using ha
    exact publicGet_runs ho hd
  | set cls obis attr data => simp [itemAllowed] at ha
  | act cls obis method data => simp [itemAllowed] at ha

theorem runFor_read {code : Nat} (h : code = Cmd.PARAM_READ ∨ code = Cmd.PARAM_READ_BLOCK) (k : Nat) (args : List Byte)
    (off len : Nat) (s : State) : OnlyChanges [.acs, .pow] s (runFor k code args off len s).1 := by
  have hslot : OnlyChanges [.acs, .pow] s (s.onDev fun d => { d with acs := { d.acs with slotNow := 0 } }) :=
    OnlyChanges.onDev (by simp [devOnly_iff])
  exact hslot.trans (runAcs_read h _ _ _ _)

theorem runItem_denied {i : ApduItem} (h : itemAllowed false i = false) (k : Nat) (x : State × List Byte) :
    runItem k false x i = (x.1, x.2 ++ leBytes 1 Dar.readWriteDenied) := by
  simp [runItem, h]

theorem runItem_public (k : Nat) (x : State × List Byte) (i : ApduItem) :
    OnlyChanges [.acs, .pow] x.1 (runItem k false x i).1 := by
  by_cases ha : itemAllowed false i = true
  · rw [runItem, if_pos ha]
    cases hd : itemDoes x.1.dev i with
    | run code args off len => exact runFor_read (publicItem_runs ha hd) k args off len x.1
    | value bytes | denied | unknown | busy => exact OnlyChanges.refl _ _
  · rw [runItem_denied (Bool.eq_false_iff.mpr ha)]
    exact OnlyChanges.refl _ _

theorem runItems_public (k : Nat) : ∀ (l : List ApduItem) (x : State × List Byte),
    OnlyChanges [.acs, .pow] x.1 (l.foldl (runItem k false) x).1
  | [], _ => OnlyChanges.refl _ _
  | i :: l, x => (runItem_public k x i).trans (runItems_public k l (runItem k false x i))

theorem requestItems_public {a : Assoc} (hm : a.mgmt = false) (x : Apdu) (s : State) :
    OnlyChanges [.acs, .pow] s (requestItems a x s).1 := by
  have h := runItems_public a.id x.items (s, leBytes 1 x.invoke)
  simpa only [requestItems, hm, Bool.false_eq_true, if_false] using h

theorem ControlKept.of_dlms {d e f : Dev} (h : e.dlms = d.dlms) (k : ControlKept e f) : ControlKept d f :=
  ⟨by rw [k.lastIc, h], by rw [k.alarms, h], by rw [k.filter, h]⟩

/-- What an APDU of the public association changes: its answers, and what reads of parameters do (R356). -/
theorem answerApdu_public {a : Assoc} (hm : a.mgmt = false) (x : Apdu) (s : State) :
    ControlKept s.dev (answerApdu a x s).dev ∧ OnlyChanges [.dlms, .gplc, .acs, .pow] s (answerApdu a x s) := by
  cases hk : keptAnswer s.clk.frame a x with
  | some j =>
    rw [answerApdu_repeat hk]
    exact ⟨respond_control .., OnlyChanges.onDev ((respond_only s.clk.frame a.id a.mgmt j.response s.dev).mono (by decide))⟩
  | none =>
    rw [answerApdu_new hk, request_eq]
    have hitems := requestItems_public hm x s
    generalize requestItems a x s = r at *
    obtain ⟨-, -, -, hdev⟩ := id hitems
    have hanswer := requestAnswered_only a x s.clk.frame r.2 r.1.dev
    exact ⟨.of_dlms (hdev .dlms (by decide)) (requestAnswered_control ..),
      (hitems.mono (by decide)).trans (OnlyChanges.onDev (hanswer.mono (by decide)))⟩

/-- The public association may not ask this one item: it is denied, and no command runs. -/
theorem answerApdu_denied {a : Assoc} (hm : a.mgmt = false) {x : Apdu} {i : ApduItem} (hx : x.items = [i])
    (hi : itemAllowed false i = false) {s : State} (hk : keptAnswer s.clk.frame a x = none) :
    (answerApdu a x s).dev.dlms.response = leBytes 1 x.invoke ++ leBytes 1 Dar.readWriteDenied ∧
      (answerApdu a x s).dev.acs = s.dev.acs := by
  have hitems : requestItems a x s = (s, leBytes 1 x.invoke ++ leBytes 1 Dar.readWriteDenied) := by
    simp [requestItems, hx, hm, runItem_denied hi]
  rw [answerApdu_new hk, request_eq, hitems]
  exact ⟨rfl, rfl⟩

/-- A management request without items acts on the alarms and their filter alone (R357). -/
theorem answerApdu_empty {a : Assoc} (hm : a.mgmt = true) {x : Apdu} (hx : x.items = []) {s : State}
    (hk : keptAnswer s.clk.frame a x = none) : answerApdu a x s =
      s.onDev fun d => requestAnswered a x s.clk.frame (leBytes 1 x.invoke) (alarmAction x d) := by
  have hitems : requestItems a x s = (s.onDev (alarmAction x), leBytes 1 x.invoke) := by
    simp [requestItems, hx, hm]
  rw [answerApdu_new hk, request_eq, hitems]
  rfl

end Sys2Proof.Machine

open Sys2Proof Sys2Proof.Machine

/-- Settles O56: associations, requests, pushes and transfers by the lemmas above, one case for each group of clauses. -/
theorem headEndRows : Obligations.HeadEndRows := by
  unfold Obligations.HeadEndRows
  refine ⟨?associations, ?requests, ?inactivity, ?pushes, ?initiate, ?blocks, ?keys⟩
  case associations =>
    intro sap suite authentic s hj
    refine ⟨fun hfull hc => ?full, fun hroom hsap hc => ?pub, fun hroom hsap hm hs hx hk hc => ?management,
      fun hroom hsap hm hs hx hc => ?rejected⟩
    case full =>
      refine .of_protoWhen (b := fun _ => joined s) hc rfl hj ?_
      rw [State.onDev, associate_full hfull]
    case pub =>
      subst hsap
      refine .of_protoWhen (b := fun _ => joined s) hc rfl hj ?_
      rw [State.onDev, associate_public hroom]
      exact ⟨rfl, rfl, OnlyChanges.dev (openAssoc_only s.clk.frame false s.dev)⟩
    case management =>
      subst hsap
      refine .of_protoWhen (b := fun _ => joined s) hc rfl hj ?_
      rw [State.onDev, associate_management hroom hm hs, if_pos (by rw [hx, hk]; rfl)]
      exact ⟨rfl, rfl, OnlyChanges.dev (openAssoc_only s.clk.frame true s.dev)⟩
    case rejected =>
      subst hsap
      refine .of_protoWhen (b := fun _ => joined s) hc rfl hj ?_
      rw [State.onDev, associate_management hroom hm hs, if_neg (by simp [hx])]
      exact ⟨rfl, rfl, rfl, securityFailed_logged s.clk.frame 0 s.dev,
        OnlyChanges.dev ((securityFailed_only s.clk.frame 0 s.dev).mono (by decide))⟩
  case requests =>
    intro x a s u ha hj hs hu
    have hrun (hc : Committed s) : exec (.dlmsApdu x) s = .next (apduEff a x u) := hu ▸ exec_dlmsApdu ha hj hs hc
    refine ⟨fun hm hbad hc => ?rejected, fun j hm hx hk hcount hkept hc => ?repeated,
      fun hm hx hk hcount hkept hitems hc => ?empty, fun hm hc => ?pub⟩
    case rejected =>
      refine ⟨_, hrun hc, ?_⟩
      obtain ⟨cause, heq⟩ := apduEff_rejected hm hbad
      obtain ⟨e, he, hsrc, hcode, -⟩ := securityFailed_logged u.clk.frame cause u.dev
      rw [heq]
      exact ⟨rfl, ⟨e, he, hsrc, hcode⟩,
        OnlyChanges.onDev ((securityFailed_only u.clk.frame cause u.dev).mono (by decide))⟩
    case repeated =>
      refine ⟨_, hrun hc, ?_⟩
      rw [apduEff_accepted hm hx hk hcount, answerApdu_repeat (s := u.onDev (counterTaken x)) hkept]
      have htaken : DevOnly [.dlms, .gplc] u.dev (counterTaken x u.dev) := by simp [devOnly_iff, counterTaken]
      exact ⟨rfl, rfl, OnlyChanges.dev (htaken.trans (respond_only u.clk.frame a.id a.mgmt j.response _))⟩
    case empty =>
      refine ⟨_, hrun hc, ?_⟩
      rw [apduEff_accepted hm hx hk hcount, answerApdu_empty hm hitems (s := u.onDev (counterTaken x)) hkept]
      have halarm : DevOnly [.dlms, .gplc] u.dev (alarmAction x (counterTaken x u.dev)) := by
        simp [devOnly_iff, alarmAction, counterTaken]
      exact ⟨rfl, rfl, rfl, rfl,
        OnlyChanges.dev (halarm.trans (requestAnswered_only a x u.clk.frame (leBytes 1 x.invoke) _))⟩
    case pub =>
      refine ⟨_, hrun hc, ?_⟩
      rw [apduEff_public hm]
      obtain ⟨hcontrol, honly⟩ := answerApdu_public hm x u
      exact ⟨hcontrol.lastIc, hcontrol.alarms, hcontrol.filter,
        fun i _ hitems hi hkept => answerApdu_denied hm hitems hi hkept, honly⟩
  case inactivity =>
    intro k a s hr ha hi hc
    refine ⟨_, exec_dlmsInactivity hc hr ha hi, ?_⟩
    obtain ⟨hdlms, hset, hlog, honly⟩ := releaseAssoc_released a s.dev
    refine ⟨hdlms, hset, ?_, OnlyChanges.onDev honly⟩
    have hsap : leBytes 1 (clientSap a.mgmt) = [if a.mgmt then 1 else 0x10] := by cases a.mgmt <;> rfl
    exact hsap ▸ hlog
  case pushes =>
    intro s hr hdue
    refine .of_when (b := fun _ => s.clk.running && pushDue s.clk.frame s.dev) rfl (by rw [hr, hdue]; rfl) ?_
    obtain ⟨hframe, halarms⟩ := push_dlms s.clk.frame s.dev
    exact ⟨hframe, halarms, fun hq hh hm hdest hroom => push_queue hq hh hm hdest hroom s.clk.frame,
      OnlyChanges.onDev (push_only s.clk.frame s.dev)⟩
  case initiate =>
    intro ident size s hmanaged ha hjob hid h0 h1 hc
    refine .of_protoWhen (b := fun _ => managed s) hc rfl hmanaged ?_
    rw [State.onDev]
    by_cases hi : s.dev.dlms.image = some (ident, size)
    · rw [initiate_repeated ha hjob hid h0 h1 hi]
      exact ⟨hi, rfl, fun _ => ⟨rfl, rfl⟩, fun hne => absurd hi hne, rfl, OnlyChanges.dev (by simp [devOnly_iff, dar])⟩
    · rw [initiate_new ha hjob hid h0 h1 hi]
      have hdiscard := discardImage_only Src.grid 1 s.dev
      have hupd := discardImage_upd Src.grid 1 s.dev
      generalize discardImage Src.grid 1 s.dev = e at *
      have hopen : DevOnly [.dlms, .upd, .log] e (dar Dar.success ((transferOpened ident size e).raise Src.grid
          Event.IMAGE_TRANSFER_STARTED (leBytes 1 ident.length ++ ident ++ leBytes 4 size))) := by
        simp [devOnly_iff, dar, transferOpened]
      exact ⟨rfl, rfl, fun heq => absurd heq hi, fun _ => ⟨rfl, rfl, rfl, congrArg Upd.staged hupd⟩,
        (by rw [dar, Dev.raise_upd, transferOpened, hupd]), OnlyChanges.dev (hdiscard.trans hopen)⟩
  case blocks =>
    intro block size ident data readBack s hmanaged ha hi hb hl hc
    refine .of_protoWhen (b := fun _ => managed s) hc rfl hmanaged ?_
    rw [State.onDev]
    obtain ⟨honly, hactive⟩ := transferBlock_only block data readBack s.dev
    refine ⟨fun hheld => ?twice, fun hnew hread => ?lost, fun hnew hread hmore => ?held, fun hnew hread hlast => ?whole,
      hactive, OnlyChanges.dev honly⟩
    case twice => rw [transferBlock_twice hi ha hb hl hheld]; exact ⟨rfl, rfl⟩
    case lost => rw [hread, transferBlock_lost hi ha hb hl hnew]; exact ⟨rfl, rfl⟩
    case held => rw [hread, transferBlock_held hi ha hb hl hnew hmore]; exact ⟨rfl, rfl⟩
    case whole =>
      rw [hread, transferBlock_whole hi ha hb hl hnew hlast]
      exact ⟨rfl, rfl, rfl, List.mem_append_right _ List.mem_cons_self⟩
  case keys =>
    intro k wrapped s hr h5 h7 hkek hm hslots hc
    refine .of_protoWhen (b := fun _ => s.clk.running && decide (5 ≤ k ∧ k ≤ 7) && decide ((keySlot s.dev 7).kind ≠ 0) &&
      s.dev.dlms.assocs.any Assoc.mgmt) hc rfl (by simp [hr, h5, h7, hkek, hm]) ?_
    have hk : k ≠ 10 := by omega
    rw [State.onDev, keyTransferEff]
    dsimp only
    by_cases hlen : (Config.unwrap (keySlot s.dev 7).material wrapped).length = 16
    · rw [if_pos hlen]
      generalize Config.unwrap (keySlot s.dev 7).material wrapped = key at *
      have hkeys := importKey_keys Src.grid k key s.dev hk
      have hslot (i : Nat) : keySlot (importKey Src.grid k key s.dev) i =
          keySlot (setSlot k (importedSlot k key s.dev) s.dev) i := by rw [keySlot, hkeys, keySlot]
      refine ⟨fun hne => absurd hlen hne, fun _ => ⟨fun hzero => ?_, fun hzero => ?_, fun i _ hik => ?_, fun h => ?_⟩,
        OnlyChanges.dev (importKey_only Src.grid k key s.dev hk)⟩
      · rw [hslot, keySlot_setSlot_same hslots, importedSlot, if_pos hzero]
      · rw [hslot, keySlot_setSlot_same hslots, importedSlot, if_neg (by rw [hzero]; decide)]
        exact ⟨rfl, rfl⟩
      · rw [hslot, keySlot_setSlot_other hik]
      · subst h
        rfl
    · rw [if_neg hlen]
      exact ⟨fun _ => rfl, fun h => absurd h hlen, OnlyChanges.refl _ _⟩

end

section
/-!
PROOF. The mode along a step (R41, R44, R46): only a tick and a start-up change it, and neither leads to Factory.
-/

namespace Sys2Proof.Machine

/-- A transition in force at a tick does not lead to Factory (R41). -/
theorem applyMode_mode (s : State) : (applyMode s).clk.mode = s.clk.mode ∨ (applyMode s).clk.mode ≠ .factory := by
  unfold applyMode
  split
  · exact .inl rfl
  · rename_i r _
    split
    · exact .inl rfl
    · rename_i h
      exact .inr fun k => h (.inr k)

theorem frameBegun_mode (f : FrameIn) (s : State) : (frameBegun f s).clk.mode = s.clk.mode := rfl

/-- The mode of the frame that a tick starts is the one that applyMode leaves. -/
theorem startFrame_mode (f : FrameIn) (s : State) :
    (startFrame f s).clk.mode = (applyMode (frameBegun f s)).clk.mode := by
  obtain ⟨g, hg⟩ := startFrame_eq f s
  have h := (Steady.onDev _ _).trans (Steady.onDev (modeEntered s.clk.mode (applyMode (frameBegun f s)))
    (g (applyMode (frameBegun f s))))
  rw [hg]
  exact ((frameFirst_keepsSound f s _).trans (frameSecond_steady f _).keepsSound).mode.trans h.mode

theorem frameTickEff_mode (f : FrameIn) (s : State) :
    (frameTickEff f s).clk.mode = s.clk.mode ∨ (frameTickEff f s).clk.mode ≠ .factory := by
  cases h : finalEnds s with
  | true =>
    rw [frameTickEff_ends f h]
    have k := (stopAfter_keepsSound 0 s).mode
    generalize stopAfter 0 s = t at k ⊢
    exact .inl k
  | false =>
    cases hr : s.dev.upd.restartDue with
    | true =>
      rw [frameTickEff_restarts f h hr]
      have k := (stopAfter_keepsSound 2 s).mode
      generalize stopAfter 2 s = t at k ⊢
      exact .inl k
    | false =>
      rw [frameTickEff_starts f h hr, startFrame_mode]
      have h := applyMode_mode (frameBegun f (conclude s))
      rwa [frameBegun_mode, (conclude_keepsSound s).mode] at h

/-- The mapped mode is Factory only where Factory persisted (R41, R58). -/
theorem mappedMode_ne_factory (d : Dev) {m : Mode} (h : m ≠ .factory) : mappedMode d m ≠ .factory := by
  cases m
  case factory => exact absurd rfl h
  case ready | session =>
    show (if d.pow.causes = 0 then Mode.ready else Mode.safeStop) ≠ .factory
    split <;> simp
  case service =>
    show (if (logoutTarget d).1 = .factory then Mode.quarantine else (logoutTarget d).1) ≠ .factory
    split
    · decide
    · assumption
  all_goals simp [mappedMode]

theorem persistedMode_ne_factory {s : State} (h : s.clk.mode ≠ .factory) (c : Choice) : persistedMode s c ≠ .factory := by
  unfold persistedMode
  dsimp only
  split <;> assumption

theorem frameM_clk (m : Nat) (c : Choice) (u : StartIn) (s : State) :
    (frameM m c u s).clk = (startedClock m c (startedDev m c u s) s).clk := rfl

theorem startUpEff_mode (u : StartIn) {s : State} (h : s.clk.mode ≠ .factory) : (startUpEff u s).clk.mode ≠ .factory := by
  have hb : (beforeStart u s).clk.mode ≠ .factory := by rwa [(beforeStart_keepsSound u s).mode]
  unfold startUpEff
  dsimp only
  split
  · exact hb
  · split
    · rw [frameM_clk]
      exact mappedMode_ne_factory _ (persistedMode_ne_factory hb _)
    · exact hb

end Sys2Proof.Machine

open Sys2Proof Sys2Proof.Machine

/-- Settles O4: every row but FRAME_TICK and START_UP is steady. -/
theorem modeChangesAtTickOnly : Obligations.ModeChangesAtTickOnly := by
  intro c s t hf hu h
  obtain ⟨t', ht, hs⟩ := exec_settles c s hf hu
  obtain rfl : t' = t := by simpa [ht] using h
  exact ⟨hs.mode, hs.modePrev, hs.frame⟩

/-- Settles O7: a tick applies no transition to Factory, a start-up maps no other mode to it, and no other row changes the
mode. -/
theorem factoryNotReentered : Obligations.FactoryNotReentered := by
  intro c s t hs h
  by_cases hf : ∃ f, c = .frameTick f
  · obtain ⟨f, rfl⟩ := hf
    obtain rfl : whenS s.clk.running (frameTickEff f) s = t := Host.Outcome.next.inj h
    cases s.clk.running
    · exact hs
    · exact (frameTickEff_mode f s).elim (fun k => by rwa [whenS_true, k]) id
  by_cases hu : ∃ u, c = .startUp u
  · obtain ⟨u, rfl⟩ := hu
    obtain rfl : whenS (!s.clk.running && !s.dev.pow.inReset) (startUpEff u) s = t := Host.Outcome.next.inj h
    cases !s.clk.running && !s.dev.pow.inReset
    · exact hs
    · exact startUpEff_mode u hs
  obtain ⟨t', ht, k⟩ := exec_settles c s (fun f e => hf ⟨f, e⟩) fun u e => hu ⟨u, e⟩
  obtain rfl : t' = t := by simpa [ht] using h
  rwa [k.mode]

end

section
/-!
PROOF. Hold-up (R51): what a hold-up that is not ready leaves, and the rows that judge it.
-/

namespace Sys2Proof.Machine

/-- Two changes of `dev` in turn, whose parts are among those named. -/
theorem DevOnly.then {ps qs rs : List Part} {d e f : Dev} (h : DevOnly ps d e) (k : DevOnly qs e f)
    (hp : ∀ p ∈ ps, p ∈ rs := by decide) (hq : ∀ p ∈ qs, p ∈ rs := by decide) : DevOnly rs d f :=
  (h.mono hp).trans (k.mono hq)

theorem DevOnly.pow (d : Dev) (p : Power) : DevOnly [.pow] d { d with pow := p } := by simp [devOnly_iff]

theorem DevOnly.raise (src code : Nat) (data : List Byte) (d : Dev) : DevOnly [.log] d (d.raise src code data) := by
  simp [devOnly_iff]

theorem selftest_only (n t : Nat) (pass : Bool) (detail : Nat) (d : Dev) :
    DevOnly [.log, .diag] d (selftest n t pass detail d) := by
  unfold selftest
  dsimp only
  split
  · simp [devOnly_iff]
  · split <;> simp [devOnly_iff]

@[simp] theorem selftest_pow (n t : Nat) (pass : Bool) (detail : Nat) (d : Dev) :
    (selftest n t pass detail d).pow = d.pow := selftest_only n t pass detail d .pow (by decide)

/-- A run of a self-test writes its result and its bit, and adds to the log (R459). -/
theorem selftest_result (n t : Nat) (pass : Bool) (detail : Nat) (d : Dev) : d.log.now ⊆ (selftest n t pass detail d).log.now ∧
    ∃ x y, (selftest n t pass detail d).diag = { d.diag with last := x, summary := y } := by
  unfold selftest
  dsimp only
  split
  · exact ⟨List.Subset.refl _, _, _, rfl⟩
  · split <;> exact ⟨List.subset_append_left _ _, _, _, rfl⟩

theorem Dev.safeStop_only (m : Mode) (k ev : Nat) (d : Dev) : DevOnly [.pow] d (d.safeStop m k ev) := by
  simp [devOnly_iff]

/-- What a cause with its move to Safe-stop changes of modes and power (R43, R47). -/
theorem Dev.safeStop_pow (m : Mode) (k ev : Nat) (d : Dev) : ∃ rs, (d.safeStop m k ev).pow =
    { d.pow with causes := d.pow.causes ||| (1#32 <<< k), causeEv := ev, modeReqs := rs } := by
  unfold Dev.safeStop
  cases m
  case session | degraded => dsimp only; split <;> exact ⟨_, rfl⟩
  all_goals exact ⟨_, rfl⟩

/-- The HOLDUP cause asks for Safe-stop in Ready alone (R43). -/
theorem Dev.safeStop_holdup_modeReqs (m : Mode) (ev : Nat) (d : Dev) : (d.safeStop m Cause.holdup ev).pow.modeReqs =
    d.pow.modeReqs ++ (if m = .ready then [⟨.safeStop, .toSafeStop, causeEvent ev⟩] else []) := by
  cases m <;> simp [Dev.safeStop, Dev.setCause, Dev.reqMode]

/-- What a hold-up that is not ready leaves (R51, R298); `always` sets the cause whatever the mode. -/
structure HoldupIsLow (m : Mode) (always : Bool) (d e : Dev) : Prop where
  only : DevOnly [.pow, .log, .diag] d e
  causes : e.pow.causes = if m = .ready ∨ m = .session ∨ m = .degraded ∨ always = true then
    d.pow.causes ||| (1#32 <<< Cause.holdup) else d.pow.causes
  reqs : e.pow.modeReqs = d.pow.modeReqs ++
    (if m = .ready then [⟨.safeStop, .toSafeStop, causeEvent Event.HOLDUP_LOW⟩] else [])
  logged : Ev.of Src.own Event.HOLDUP_LOW (leBytesInt 4 d.pow.vhold ++ leBytes 2 d.pow.holdupCap) ∈ e.log.now
  now : d.log.now ⊆ e.log.now
  diag : ∃ x y, e.diag = { d.diag with last := x, summary := y }
  rest : ∃ c v r, e.pow = { d.pow with holdupReady := false, causes := c, causeEv := v, modeReqs := r }

theorem holdupLow_isLow (n : Nat) (m : Mode) (always : Bool) (d : Dev) : HoldupIsLow m always d (holdupLow n m always d) := by
  unfold holdupLow
  dsimp only
  generalize he : (selftest n 18 false _ _).raise Src.own Event.HOLDUP_LOW _ = e
  have honly : DevOnly [.pow, .log, .diag] d e := by
    rw [← he]
    exact (((DevOnly.pow d _).then (selftest_only _ _ _ _ _) : DevOnly [.pow, .log, .diag] d _)).then (DevOnly.raise _ _ _ _)
  have hpow : e.pow = { d.pow with holdupReady := false } := by simp [← he]
  have hlog : Ev.of Src.own Event.HOLDUP_LOW (leBytesInt 4 d.pow.vhold ++ leBytes 2 d.pow.holdupCap) ∈ e.log.now := by
    simp [← he]
  obtain ⟨hnow, hdiag⟩ : d.log.now ⊆ e.log.now ∧ ∃ x y, e.diag = { d.diag with last := x, summary := y } := by
    obtain ⟨h₁, h₂⟩ := selftest_result n 18 false d.pow.holdupCap { d with pow := { d.pow with holdupReady := false } }
    rw [← he]
    exact ⟨List.subset_append_of_subset_left _ h₁, h₂⟩
  by_cases hm : m = .ready ∨ m = .session ∨ m = .degraded ∨ always = true
  · rw [if_pos hm]
    obtain ⟨rs, hrs⟩ := e.safeStop_pow m Cause.holdup Event.HOLDUP_LOW
    refine ⟨honly.then (Dev.safeStop_only _ _ _ e), ?_, ?_, by rwa [Dev.safeStop_log], by rwa [Dev.safeStop_log],
      by rwa [Dev.safeStop_diag], ?_⟩
    · rw [if_pos hm, Dev.safeStop_causes, hpow]
    · rw [Dev.safeStop_holdup_modeReqs, hpow]
    · rw [hrs, hpow]
      exact ⟨_, _, _, rfl⟩
  · rw [if_neg hm]
    refine ⟨honly, by rw [if_neg hm, hpow], ?_, hlog, hnow, hdiag, _, _, _, hpow⟩
    rw [hpow, if_neg fun h => hm (.inl h), List.append_nil]

/-- A hold-up found not ready sets the HOLDUP cause as R51 has it, where the cause is set in a start-up too. -/
theorem HoldupIsLow.cause {s t : State} {d : Dev} (h : HoldupIsLow s.clk.mode s.dev.pow.starting d t.dev)
    (hc : d.pow.causes = s.dev.pow.causes) (hr : d.pow.modeReqs = s.dev.pow.modeReqs) (hv : d.pow.vhold = s.dev.pow.vhold) :
    HoldupCause s t := by
  obtain ⟨c, v, r, hrest⟩ := h.rest
  refine ⟨fun hm => ?_, fun h₁ h₂ h₃ h₄ => ?_, by rw [h.reqs, hr], ?_⟩
  · rw [h.causes, if_pos hm, hc]
  · rw [h.causes, if_neg (by simp [h₁, h₂, h₃, h₄]), hc]
  · have hcap : t.dev.pow.holdupCap = d.pow.holdupCap := by rw [hrest]
    rw [← hv, hcap]
    exact h.logged

/-- In Ready the cause does not depend on whether a start-up runs. -/
theorem HoldupIsLow.of_ready {m : Mode} {a b : Bool} {d e : Dev} (h : HoldupIsLow m a d e) (hm : m = .ready) :
    HoldupIsLow m b d e := { h with causes := by simpa [hm] using h.causes }

/-- The daily measurement that keeps hold-up ready (R51). -/
theorem dailyCapEff_good {s : State} {cap : Nat} (hv : 28000 ≤ s.dev.pow.vhold) (hc : 2000 ≤ cap) :
    dailyCapEff s cap s.dev = selftest s.clk.frame 18 true 0 { s.dev with
      pow := { s.dev.pow with holdupCap := cap, lastCapMeasure := s.clk.frame, holdupReady := true } } :=
  if_pos (by simp [holdupGood, hv, hc])

/-- The daily measurement that finds hold-up not ready (R51). -/
theorem dailyCapEff_low {s : State} {cap : Nat} (h : cap < 2000 ∨ s.dev.pow.vhold < 28000) :
    dailyCapEff s cap s.dev = holdupLow s.clk.frame s.clk.mode false { s.dev with
      pow := { s.dev.pow with holdupCap := cap, lastCapMeasure := s.clk.frame } } :=
  if_neg (by simp [holdupGood]; omega)

end Sys2Proof.Machine

open Sys2Proof Sys2Proof.Machine

/-- Settles O15: each row keeps hold-up ready or finds it low. -/
theorem holdupRows : Obligations.HoldupRows := by
  refine ⟨fun cap s hrun hmode hopen hday => ?_, fun s hr hv => ?_, fun f s hf hn hv => ?_⟩
  · refine Completes.of_when (b := fun _ => dailyCapDue s) (f := dailyCapEff s cap) rfl
      (by simp [dailyCapDue, hrun, hmode, hopen, hday]) ?_
    by_cases hgood : 28000 ≤ s.dev.pow.vhold ∧ 2000 ≤ cap
    · obtain ⟨hv, hc⟩ := hgood
      have hlow : ¬(cap < 2000 ∨ s.dev.pow.vhold < 28000) := by omega
      simp only [State.onDev_dev, dailyCapEff_good hv hc, selftest_pow]
      refine ⟨trivial, trivial, by simp [hv, hc], by simp, fun h => absurd h hlow, OnlyChanges.onDev ?_⟩
      rw [dailyCapEff_good hv hc]
      exact (DevOnly.pow _ _).then (selftest_only _ _ _ _ _)
    · have hlow : cap < 2000 ∨ s.dev.pow.vhold < 28000 := by omega
      have h := holdupLow_isLow s.clk.frame s.clk.mode false { s.dev with
        pow := { s.dev.pow with holdupCap := cap, lastCapMeasure := s.clk.frame } }
      rw [← dailyCapEff_low hlow] at h
      obtain ⟨c, v, r, hp⟩ := h.rest
      simp only [State.onDev_dev]
      refine ⟨by rw [hp], by rw [hp], ?_, fun h₁ h₂ => absurd ⟨h₂, h₁⟩ hgood, fun _ => ?_, OnlyChanges.onDev ?_⟩
      · rw [hp]
        simp only [Bool.false_eq, Bool.and_eq_false_iff, decide_eq_false_iff_not]
        omega
      · refine HoldupIsLow.cause (h.of_ready hmode) ?_ ?_ ?_ <;> rfl
      · exact (DevOnly.pow _ _).then h.only
  · refine Completes.of_when (b := fun d => d.pow.recharge.isSome && decide (28000 ≤ d.pow.vhold)) rfl
      (by simp [Option.isSome_iff_ne_none, hr, hv]) ?_
    exact ⟨by simp [holdupGood, hv], OnlyChanges.onDev (by simp [devOnly_iff])⟩
  · refine Completes.of_when (b := rechargeTimeoutDue s.clk.frame) rfl (by simp [rechargeTimeoutDue, hf, hn, hv]) ?_
    have h := holdupLow_isLow s.clk.frame s.clk.mode s.dev.pow.starting { s.dev with pow := { s.dev.pow with recharge := none } }
    obtain ⟨c, v, r, hp⟩ := h.rest
    refine ⟨congrArg Power.recharge hp, congrArg Power.holdupReady hp, ?_, OnlyChanges.onDev ((DevOnly.pow _ _).then h.only)⟩
    refine HoldupIsLow.cause h ?_ ?_ ?_ <;> rfl

end

section
/-!
PROOF. SERVICE_N, the login window and the end of a login (R48, R61, R114, R462).
-/

namespace Sys2Proof.Machine

theorem Grows.raised {d e : Dev} (h : Grows d e) (src code : Nat) (data : List Byte) : Grows d (e.raise src code data) :=
  h.trans (Grows.raise src code data e)

/-- From d to e nothing has changed but pending sets and values that wait for a tick, and the log has grown (R114). -/
structure SetsDiscarded (d e : Dev) : Prop where
  only : DevOnly [.acs, .log] d e
  grows : Grows d e
  acs : ∃ h a, e.acs = { d.acs with hostSet := h, assocSets := a }

theorem SetsDiscarded.refl (d : Dev) : SetsDiscarded d d := ⟨DevOnly.refl _ d, Grows.refl d, d.acs.hostSet, d.acs.assocSets, rfl⟩

theorem SetsDiscarded.trans {d e f : Dev} (h : SetsDiscarded d e) (k : SetsDiscarded e f) : SetsDiscarded d f := by
  obtain ⟨ho, hg, x, y, hx⟩ := h
  obtain ⟨ko, kg, z, w, kz⟩ := k
  exact ⟨ho.trans ko, hg.trans kg, z, w, by rw [kz, hx]⟩

theorem discardSet_discards (o : Owner) (cause : Nat) (d : Dev) : SetsDiscarded d (discardSet o cause d) := by
  cases o
  all_goals
    simp only [discardSet]
    split
    · exact SetsDiscarded.refl d
    · refine ⟨by simp [devOnly_iff], Grows.raised ?_ _ _ _, _, _, rfl⟩
      exact Grows.of_eq rfl rfl

/-- A discard of the host's set empties it, one of another set leaves it (R114). -/
theorem discardSet_hostSet (o : Owner) (cause : Nat) (d : Dev) (h : o = .host ∨ d.acs.hostSet.entries = []) :
    (discardSet o cause d).acs.hostSet.entries = [] := by
  cases o with
  | host =>
    simp only [discardSet]
    split
    · rename_i he
      exact List.isEmpty_iff.1 he
    · rfl
  | headEnd k =>
    have he := h.resolve_left (by simp)
    simp only [discardSet]
    split <;> exact he

/-- Every pending set is discarded, the host's for one (R114). -/
theorem discardAll_discards (cause : Nat) (d : Dev) :
    SetsDiscarded d (discardAll cause d) ∧ (discardAll cause d).acs.hostSet.entries = [] := by
  unfold discardAll
  generalize d.acs.assocSets = l
  induction l using List.reverseRecOn with
  | nil => exact ⟨discardSet_discards _ _ d, discardSet_hostSet _ _ d (.inl rfl)⟩
  | append_singleton l p ih =>
    simp only [List.foldl_append, List.foldl_cons, List.foldl_nil]
    exact ⟨ih.1.trans (discardSet_discards _ _ _), discardSet_hostSet _ _ _ (.inr ih.2)⟩

/-- Every test parameter is at its default and no authorisation runs (R462). -/
def Diag.TestsDefault (x : Diag) : Prop :=
  x.testFrom = none ∧ x.stretch = 0 ∧ x.mboxDelay = 0 ∧ x.portBusy = 0 ∧ x.throttle = 0 ∧ x.gplcHold = 0 ∧
    x.commitDelay = 0 ∧ x.mismatch = 0 ∧ x.wdtWindow = 0 ∧ x.pert = none

/-- What the end of a test authorisation leaves (R462). -/
structure TestsReverted (d e : Dev) : Prop where
  only : DevOnly [.acs, .log, .diag] d e
  grows : Grows d e
  acs : ∃ q, e.acs = { d.acs with nextTick := q }
  default : e.diag.TestsDefault

theorem clearTests_reverted (d : Dev) : TestsReverted d (clearTests d) :=
  ⟨by simp [devOnly_iff, clearTests], Grows.of_eq rfl rfl, ⟨_, rfl⟩, ⟨rfl, rfl, rfl, rfl, rfl, rfl, rfl, rfl, rfl, rfl⟩⟩

theorem revertTests_reverted (n cause : Nat) (d : Dev) : TestsReverted d (revertTests n cause d) := by
  obtain ⟨ho, hg, ha, hd⟩ := clearTests_reverted d
  unfold revertTests
  split
  · exact ⟨ho.then (DevOnly.raise _ _ _ _), hg.raised _ _ _, ha, hd⟩
  · exact ⟨ho, hg, ha, hd⟩

/-- The end of an open login (R46, R48). -/
theorem loginEnds_some {d : Dev} {l : Login} (h : d.pow.login = some l) : loginEnds d =
    ({ d with pow := { d.pow with login := none } }).raise Src.own Event.SERVICE_LOGIN (slice l.identity 0 16) := by
  simp only [loginEnds, h]

/-- The mode that a logout from Service leads to (R43, R48, R51): hold-up that is not ready counts as a cause. -/
def logoutMode (d : Dev) : Mode :=
  if d.keys.identity ≠ 1 then .quarantine
  else if d.pow.commissioned = false ∨ d.pow.reopened = true ∨ d.saf.confirmSt ≠ 2 ∨ d.acs.sealPending = true then .commissioning
  else if d.pow.causes ≠ 0 ∨ d.pow.holdupReady = false then .safeStop else .ready

theorem logoutTarget_mode {d : Dev} (h : d.pow.holdupReady = false → d.pow.causes ≠ 0) :
    (logoutTarget d).1 = logoutMode d := by
  have hc : (d.pow.causes ≠ 0 ∨ d.pow.holdupReady = false) ↔ d.pow.causes ≠ 0 := ⟨fun k => k.elim id h, .inl⟩
  unfold logoutTarget logoutMode
  split
  · rfl
  · simp only [Bool.not_eq_true']
    split
    · rfl
    · simp only [hc]
      split <;> rfl

/-- What the end of login l leaves before the mode that follows is decided (R48, R114, R462). -/
structure LoginOver (l : Login) (d e : Dev) : Prop where
  only : DevOnly [.pow, .acs, .log, .diag] d e
  pow : e.pow = { d.pow with login := none }
  logged : Ev.of Src.own Event.SERVICE_LOGIN (slice l.identity 0 16) ∈ e.log.now
  hostSet : e.acs.hostSet.entries = []
  sealPending : e.acs.sealPending = d.acs.sealPending
  tests : e.diag.TestsDefault

theorem loginOver (n : Nat) {d : Dev} {l : Login} (h : d.pow.login = some l) :
    LoginOver l d (revertTests n 2 (discardAll 1 (loginEnds d))) := by
  rw [loginEnds_some h]
  generalize he : Dev.raise _ _ _ _ = e
  have honly : DevOnly [.pow, .log] d e := he ▸ (DevOnly.pow d _).then (DevOnly.raise _ _ _ _)
  have hlog : Ev.of Src.own Event.SERVICE_LOGIN (slice l.identity 0 16) ∈ e.log.now := by simp [← he]
  have hpow : e.pow = { d.pow with login := none } := by simp [← he]
  have hacs : e.acs = d.acs := by simp [← he]
  obtain ⟨k, hk⟩ := discardAll_discards 1 e
  obtain ⟨x, y, ha⟩ := k.acs
  have r := revertTests_reverted n 2 (discardAll 1 e)
  obtain ⟨q, hq⟩ := r.acs
  have hp : (revertTests n 2 (discardAll 1 e)).pow = e.pow := (r.only .pow (by decide)).trans (k.only .pow (by decide))
  exact ⟨(honly.then k.only : DevOnly [.pow, .acs, .log] d _).then r.only, by rw [hp, hpow], r.grows.now (k.grows.now hlog),
    by rw [hq]; exact hk, by rw [hq, ha, hacs], r.default⟩

/-- What a logout leaves (R43, R48, R51, R114, R462). -/
structure LoggedOut (m : Mode) (l : Login) (d e : Dev) : Prop where
  only : DevOnly [.pow, .acs, .log, .diag] d e
  login : e.pow.login = none
  logged : Ev.of Src.own Event.SERVICE_LOGIN (slice l.identity 0 16) ∈ e.log.now
  hostSet : e.acs.hostSet.entries = []
  tests : e.diag.TestsDefault
  stays : m ≠ .service → e.pow.modeReqs = d.pow.modeReqs
  asks : m = .service → ∃ k, e.pow.modeReqs = d.pow.modeReqs ++ [⟨logoutMode d, k, causeEvent Event.SERVICE_LOGIN⟩]

/-- Hold-up is checked before the mode that follows a logout is decided (R51). -/
def logoutHoldup (n : Nat) (m : Mode) (d : Dev) : Dev := if d.pow.holdupReady then d else holdupLow n m true d

/-- The check of hold-up leaves what decides the mode, but that a hold-up that is not ready has its cause (R51). -/
theorem logoutHoldup_checked (n : Nat) (d : Dev) : ∃ e, logoutHoldup n .service d = e ∧ DevOnly [.pow, .log, .diag] d e ∧
    e.pow.login = d.pow.login ∧ e.pow.modeReqs = d.pow.modeReqs ∧ d.log.now ⊆ e.log.now ∧
    (d.diag.TestsDefault → e.diag.TestsDefault) ∧ (logoutTarget e).1 = logoutMode d := by
  unfold logoutHoldup
  by_cases hr : d.pow.holdupReady = true
  · rw [if_pos hr]
    exact ⟨d, rfl, DevOnly.refl _ d, rfl, rfl, List.Subset.refl _, id, logoutTarget_mode (by simp [hr])⟩
  · rw [if_neg hr]
    have h := holdupLow_isLow n .service true d
    generalize holdupLow n .service true d = e at h ⊢
    obtain ⟨c, v, r, hp⟩ := h.rest
    obtain ⟨x, y, hx⟩ := h.diag
    have hc : e.pow.causes ≠ 0 := fun k => by
      have hbit := cause_or_self d.pow.causes (k := Cause.holdup) (by decide)
      rw [← h.causes.trans (if_pos (by simp)), k] at hbit
      simp at hbit
    refine ⟨e, rfl, h.only, by rw [hp], by simpa using h.reqs, h.now, fun k => by rw [hx]; exact k, ?_⟩
    have hk : e.keys = d.keys := h.only .keys (by decide)
    have hs : e.saf = d.saf := h.only .saf (by decide)
    have ha : e.acs = d.acs := h.only .acs (by decide)
    rw [logoutTarget_mode fun _ => hc]
    simp [logoutMode, hk, hs, ha, hp, hr]

theorem logout_loggedOut {c : Clk} {d : Dev} {l : Login} (h : d.pow.login = some l) :
    LoggedOut c.mode l d (logout c d) := by
  have o := loginOver c.frame h
  unfold logout
  rw [if_neg (by simp [h])]
  dsimp only
  generalize revertTests c.frame 2 (discardAll 1 (loginEnds d)) = e at o ⊢
  by_cases hm : c.mode = .service
  · rw [if_pos hm, hm]
    obtain ⟨f, hf, fonly, flogin, freqs, flog, ftests, ftarget⟩ := logoutHoldup_checked c.frame e
    have hmode : logoutMode e = logoutMode d := by
      have hk : e.keys = d.keys := o.only .keys (by decide)
      have hs : e.saf = d.saf := o.only .saf (by decide)
      simp only [logoutMode, o.pow, o.sealPending, hk, hs]
    rw [show (if e.pow.holdupReady = true then e else holdupLow c.frame .service true e) = f from hf, ftarget, hmode]
    refine ⟨((o.only.then fonly : DevOnly [.pow, .acs, .log, .diag] d f)).then (qs := [.pow]) (DevOnly.pow f _),
      flogin.trans (by rw [o.pow]), flog o.logged, ?_, ftests o.tests, fun k => absurd rfl k, fun _ => ⟨(logoutTarget f).2, ?_⟩⟩
    · exact (congrArg (fun x => x.hostSet.entries) (fonly .acs (by decide))).trans o.hostSet
    · rw [Dev.reqMode_modeReqs, freqs, o.pow]
  · rw [if_neg hm]
    exact ⟨o.only, by rw [o.pow], o.logged, o.hostSet, o.tests, fun _ => by rw [o.pow], fun k => absurd k hm⟩

/-- After a logout from Service the mode that R43 gives is asked for. -/
theorem LoggedOut.logoutAsks {l : Login} {d : Dev} {s t : State} (h : LoggedOut s.clk.mode l d t.dev)
    (hd : logoutMode d = logoutMode s.dev) (hm : s.clk.mode = .service) : LogoutAsks s t := by
  obtain ⟨k, hk⟩ := h.asks hm
  rw [hd] at hk
  exact ⟨_, by rw [hk]; exact List.mem_append_right _ (List.mem_singleton_self _), rfl, rfl⟩

theorem serviceReleaseEff_short (n : Nat) {frames : Nat} (h₁ : 160 ≤ frames) (h₂ : frames < 16000) (d : Dev) :
    serviceReleaseEff n frames d = displayStep n d := (if_neg (by simp only [ms]; omega)).trans (if_pos h₂)

theorem serviceReleaseEff_long (n : Nat) {frames : Nat} (h₁ : 40000 ≤ frames) (h₂ : frames ≤ 80000) (d : Dev) :
    serviceReleaseEff n frames d = ({ d with pow := { d.pow with loginWindow := some (n + 480000) } }).raise Src.own
      Event.SERVICE_LOGIN (List.replicate 16 0) :=
  ((if_neg (by simp only [ms]; omega)).trans (if_neg (by simp only [secs]; omega))).trans (if_pos ⟨h₁, h₂⟩)

theorem serviceReleaseEff_none (n : Nat) {frames : Nat}
    (h : frames < 160 ∨ (16000 ≤ frames ∧ frames < 40000) ∨ 80000 < frames) (d : Dev) : serviceReleaseEff n frames d = d := by
  unfold serviceReleaseEff
  split
  · rfl
  · rename_i hs
    simp only [ms] at hs
    rw [if_neg (by simp only [secs]; omega), if_neg (by simp only [secs]; omega)]

/-- A press that is neither stuck nor ignored has the effect of its length (R61). -/
theorem serviceNRelease_acts {frames : Nat} {s : State} {P : State → Prop} (hst : s.dev.pow.serviceStuck = false)
    (hig : s.dev.pow.serviceIgnoreUntil ≤ s.clk.frame) (k : P (s.onDev (serviceReleaseEff s.clk.frame frames))) :
    Completes (.serviceNRelease frames) s P := by
  refine ⟨_, rfl, ?_⟩
  rwa [State.onDev, if_neg (by simp [hst]), if_neg (Nat.not_lt.2 hig)]

end Sys2Proof.Machine

open Sys2Proof Sys2Proof.Machine

/-- Settles O20: each row by the guard under which it acts; a timeout by what a logout leaves. -/
theorem serviceButtonRows : Obligations.ServiceButtonRows := by
  refine ⟨fun frames s hst hig => ⟨fun h₁ h₂ => ?_, fun h₁ h₂ => ?_, fun h => ?_⟩, fun frames s => ⟨fun hst => ?_, fun hst hig => ?_⟩,
    fun frames s hst hf => ?_, fun edges s he => ?_, fun w s hw hn => ?_, fun l s hl hn => ?_⟩
  · refine serviceNRelease_acts hst hig ?_
    rw [State.onDev, serviceReleaseEff_short _ h₁ h₂]
  · refine serviceNRelease_acts hst hig ?_
    rw [State.onDev, serviceReleaseEff_long _ h₁ h₂]
    exact ⟨rfl, rfl, OnlyChanges.dev ((DevOnly.pow _ _).then (DevOnly.raise _ _ _ _))⟩
  · refine serviceNRelease_acts hst hig ?_
    rw [State.onDev, serviceReleaseEff_none _ h]
  · refine ⟨_, rfl, ?_⟩
    rw [State.onDev, if_pos hst]
    exact ⟨rfl, OnlyChanges.dev (DevOnly.pow _ _)⟩
  · refine ⟨_, rfl, ?_⟩
    rw [State.onDev, if_neg (by simp [hst]), if_pos hig]
    exact ⟨rfl, OnlyChanges.dev (DevOnly.pow _ _)⟩
  · refine Completes.of_when (b := fun d => !d.pow.serviceStuck && decide (secs 30 < frames)) rfl (by simp [hst, secs, hf]) ?_
    exact ⟨rfl, rfl, OnlyChanges.onDev ((DevOnly.pow _ _).then (DevOnly.raise _ _ _ _))⟩
  · refine Completes.of_when (b := fun _ => decide (20 < edges)) rfl (by simp [he]) ?_
    exact ⟨rfl, OnlyChanges.onDev (DevOnly.pow _ _)⟩
  · refine Completes.of_when (b := windowDue s.clk.frame) rfl (by simp [windowDue, hw, hn]) ?_
    exact ⟨rfl, OnlyChanges.onDev (DevOnly.pow _ _)⟩
  · refine Completes.of_when (b := serviceTimeoutDue s.clk.frame) rfl (by simp [serviceTimeoutDue, hl, secs, hn]) ?_
    have o := logout_loggedOut (c := s.clk) hl
    exact ⟨o.login, o.logged, o.hostSet, o.tests, o.stays, LoggedOut.logoutAsks (t := s.onDev _) o rfl,
      OnlyChanges.onDev (o.only.mono (by decide))⟩

end

section
/-!
PROOF. HOLD, its final sequence and its exit (R53 to R56, R475).
-/

namespace Sys2Proof.Machine

theorem setCauses_pow (ks : List Nat) : ∀ d : Dev, ∃ c,
    (ks.foldl (fun d b => d.setCause b) d).pow = { d.pow with causes := c } := by
  induction ks with
  | nil => exact fun d => ⟨d.pow.causes, rfl⟩
  | cons k ks ih =>
    intro d
    obtain ⟨c, hc⟩ := ih (d.setCause k)
    exact ⟨c, hc⟩

/-- What the mode that follows a session's end changes of modes and power (R43, R299). -/
theorem endMode_pow (m : Mode) (d : Dev) : ∃ c r b, (endMode m d).pow =
    { d.pow with causes := c, modeReqs := r, degradedClassS := b } := by
  cases m
  case degraded =>
    obtain ⟨c, hc⟩ := setCauses_pow d.saf.degBits (d.setCause Cause.degradedEnd)
    generalize he : d.saf.degBits.foldl (fun d b => d.setCause b) (d.setCause Cause.degradedEnd) = e at hc
    refine ⟨c, e.pow.modeReqs ++ [⟨.safeStop, .toSafeStop, causeEvent Event.DEGRADED_ENDED⟩], true, ?_⟩
    rw [show (endMode .degraded d).pow = { e.pow with
      modeReqs := e.pow.modeReqs ++ [⟨.safeStop, .toSafeStop, causeEvent Event.DEGRADED_ENDED⟩], degradedClassS := true } from
        by rw [← he]; rfl, hc]
    rfl
  all_goals exact ⟨_, _, _, rfl⟩

/-- What the end of a session changes of modes and power. -/
theorem endSession_pow (s : State) (cause : Nat) (d : Dev) : ∃ c r b, (endSession s cause d).pow =
    { d.pow with causes := c, modeReqs := r, degradedClassS := b } := by
  unfold endSession
  split
  · obtain ⟨c, r, b, h⟩ := endMode_pow s.clk.mode (closeSession s cause (sessionEndedEv s cause) (requestOpen s.clk.frame d))
    rw [h, closeSession_only s cause _ .pow (by decide), requestOpen_only _ d .pow (by decide)]
    exact ⟨_, _, _, rfl⟩
  · exact ⟨_, _, _, rfl⟩

theorem closeSession_endedAt (s : State) (cause : Nat) (ev : Dev → Dev) (d : Dev) :
    (closeSession s cause ev d).ses.endedAt = some s.clk.frame := rfl

theorem endSession_endedAt (s : State) (cause : Nat) {d : Dev} (h : d.ses.isOpen = true) :
    (endSession s cause d).ses.endedAt = some s.clk.frame := by
  unfold endSession
  rw [if_pos h, endMode_ses]
  exact closeSession_endedAt _ _ _ _

/-- The units that HOLD sheds (R53). -/
theorem shedUnits_only (n : Nat) (d : Dev) : DevOnly [.pow, .veh, .nfc, .metr, .disp, .sw] d (shedUnits n d) := by
  simp [devOnly_iff, shedUnits, stageShed]

theorem shedUnits_pow (n : Nat) (d : Dev) : (shedUnits n d).pow = { d.pow with shed := true } := rfl

theorem hostGasp_only (n : Nat) (d : Dev) : DevOnly [.log, .win] d (hostGasp n d) := by
  simp [devOnly_iff, hostGasp]

/-- LAST_GASP goes to the grid link or to the host, and is logged there (R54, R355). -/
theorem lastGasp_only (s : State) (d : Dev) : DevOnly [.log, .win, .gplc, .dlms] d (lastGasp s d) ∧ Grows d (lastGasp s d) := by
  have host (e : Dev) (he : DevOnly [.log, .gplc] d e) (g : Grows d e) :
      DevOnly [.log, .win, .gplc, .dlms] d (hostGasp s.clk.frame e) ∧ Grows d (hostGasp s.clk.frame e) :=
    ⟨he.then (hostGasp_only _ e), (g.raised _ _ _).trans (Grows.of_eq rfl rfl)⟩
  simp only [lastGasp]
  split
  · exact host _ (by simp [devOnly_iff]) (Grows.of_eq rfl rfl)
  · simp only [queueGasp]
    split
    · exact ⟨by simp [devOnly_iff], Grows.of_eq rfl rfl⟩
    · refine host _ (by simp [devOnly_iff]) (Grows.raised ?_ _ _ _)
      exact Grows.of_eq rfl rfl

theorem calicoImageWrite_only (n : Nat) (final : Bool) (s : State) (d : Dev) :
    DevOnly [.cal] d (calicoImageWrite n final s d) := by
  unfold calicoImageWrite
  dsimp only
  split
  · exact DevOnly.refl _ d
  · split
    · simp [devOnly_iff]
    · exact DevOnly.trans (by simp [devOnly_iff]) (nameplateWrite_only _)

/-- The first frame of the final sequence writes a checkpoint and the image (R55). -/
theorem finalWrite_only (n : Nat) (s : State) (d : Dev) :
    DevOnly [.led, .cal] d (calicoImageWrite n true s (d.ckptDue 3)) :=
  DevOnly.then (ps := [.led]) (by simp [devOnly_iff]) (calicoImageWrite_only n true s _)

/-- Frame h before its events: the session ended, the units shed, the outputs safe (R53). -/
def holdShed (s : State) (d : Dev) : Dev := safeOutputs s.clk.frame (shedUnits s.clk.frame (endSession s EndCause.supply d))

theorem holdShed_only (s : State) (d : Dev) :
    DevOnly [.lanes, .pow, .ses, .led, .log, .acs, .keys, .dc, .veh, .saf, .nfc, .metr, .disp, .sw] d (holdShed s d) :=
  ((endSession_only s EndCause.supply d).then (shedUnits_only s.clk.frame _) :
    DevOnly [.lanes, .pow, .ses, .led, .log, .acs, .keys, .dc, .veh, .saf, .nfc, .metr, .disp, .sw] d _).then
      (safeOutputs_only _ _)

/-- HOLD in force, with its event (R50, R475). -/
def holdBegun (s : State) (host : Bool) (d : Dev) : Dev :=
  let d := { d with pow := { d.pow with
    st := .hold, holdFrame := s.clk.frame, recharge := none, vsysGood := 0
    finalSeq := if holdAvailable d then none else some s.clk.frame } }
  d.raise Src.own Event.HOLD_ENTERED (leBytesInt 4 d.pow.vhold ++ leBytes 1 (if host then 1 else 0))

theorem holdEff_eq (s : State) (d : Dev) : ∃ h, holdEff s d = lastGasp s
    (if holdAvailable (holdBegun s h (holdShed s d)) then holdBegun s h (holdShed s d)
      else calicoImageWrite s.clk.frame true s ((holdBegun s h (holdShed s d)).ckptDue 3)) :=
  ⟨gaspToHost (holdShed s d), rfl⟩

/-- What the final sequence's first writes and the last gasp leave of frame h. -/
theorem holdEff_after (s : State) (d : Dev) : ∃ h,
    DevOnly [.log, .win, .gplc, .dlms, .led, .cal] (holdBegun s h (holdShed s d)) (holdEff s d) ∧
      Grows (holdBegun s h (holdShed s d)) (holdEff s d) := by
  obtain ⟨h, heff⟩ := holdEff_eq s d
  refine ⟨h, ?_⟩
  rw [heff]
  generalize holdBegun s h (holdShed s d) = e
  split
  · obtain ⟨ho, hg⟩ := lastGasp_only s e
    exact ⟨ho.mono (by decide), hg⟩
  · have k := finalWrite_only s.clk.frame s e
    obtain ⟨ho, hg⟩ := lastGasp_only s (calicoImageWrite s.clk.frame true s (e.ckptDue 3))
    exact ⟨k.then ho, (Grows.of_only k (by decide) (by decide)).trans hg⟩

end Sys2Proof.Machine

open Sys2Proof Sys2Proof.Machine

/-- Settles O16: what frame h leaves before its last gasp, the first frame of the final sequence, and the return of VSYS. -/
theorem holdRows : Obligations.HoldRows := by
  refine ⟨fun s hrun hst hlow => ?_, fun s hrun hst hfin hdue => ?_, fun s hrun hst hfin hgood => ?_⟩
  · refine Completes.of_when (b := fun _ => holdDue s) rfl (by simp [holdDue, hrun, hst, hlow]) ?_
    obtain ⟨host, ho, hg⟩ := holdEff_after s s.dev
    obtain ⟨c, r, b, hp⟩ := endSession_pow s EndCause.supply s.dev
    have hpow : (holdShed s s.dev).pow = { (endSession s EndCause.supply s.dev).pow with shed := true } := by
      rw [holdShed, safeOutputs_only _ _ .pow (by decide), shedUnits_pow]
    have hses : (holdShed s s.dev).ses = (endSession s EndCause.supply s.dev).ses := by
      rw [holdShed, safeOutputs_only _ _ .ses (by decide), shedUnits_only _ _ .ses (by decide)]
    have hv : (holdShed s s.dev).pow.vhold = s.dev.pow.vhold := by rw [hpow, hp]
    have hP : (holdEff s s.dev).pow = (holdBegun s host (holdShed s s.dev)).pow := ho .pow (by decide)
    have hS : (holdEff s s.dev).ses = _ := (ho .ses (by decide)).trans hses
    have hL : (holdEff s s.dev).lanes = (holdShed s s.dev).lanes := ho .lanes (by decide)
    have hV : (holdEff s s.dev).veh = (holdShed s s.dev).veh := ho .veh (by decide)
    simp only [State.onDev_dev, hP, hS, hV]
    refine ⟨rfl, rfl, by simp [holdBegun, hpow], endSession_closed _ _ _, by rw [hL]; rfl, rfl, fun h => endSession_endedAt _ _ h, ?_,
      ⟨if host then 1 else 0, ?_⟩, ?_⟩
    · simp [holdBegun, holdAvailable, hv]
    · refine hg.now ?_
      simp [holdBegun, hv]
    · refine OnlyChanges.onDev ?_
      exact ((holdShed_only s s.dev).then (qs := [.pow, .log]) (by simp [devOnly_iff, holdBegun]) :
        DevOnly [.lanes, .pow, .ses, .led, .log, .acs, .keys, .dc, .veh, .saf, .nfc, .metr, .disp, .sw] s.dev _).then ho
  · refine Completes.of_when (b := fun _ => finalDue s) rfl (by simp [finalDue, hrun, hst, hfin]; exact hdue) ?_
    have ho := finalWrite_only s.clk.frame s { s.dev with pow := { s.dev.pow with finalSeq := some s.clk.frame } }
    have hc := calicoImageWrite_only s.clk.frame true s (Dev.ckptDue 3
      { s.dev with pow := { s.dev.pow with finalSeq := some s.clk.frame } })
    exact ⟨ho .pow (by decide), hc .led (by decide), OnlyChanges.onDev ((DevOnly.pow _ _).then ho)⟩
  · refine Completes.of_when (b := fun d => s.clk.running && holdExitDue d) rfl
      (by simp [holdExitDue, hrun, hst, hfin, ms, hgood]) ?_
    exact ⟨rfl, rfl, rfl, rfl, rfl, OnlyChanges.onDev (by simp [devOnly_iff, holdExitEff, stageRestore])⟩

end

section
/-!
PROOF. RESET_N and a collapse of the supply (R50, R56, R59, R60).
-/

namespace Sys2Proof.Machine

/-- What a stop of frames leaves (R55, R56, R59): no lane works, and modes and power, outputs, session and what is due stay. -/
structure FramesStopped (s t : State) : Prop where
  clk : t.clk = { s.clk with running := false }
  regs : t.regs = s.regs
  token : t.dev.lanes.token = none
  outputs : t.dev.lanes.outputs = s.dev.lanes.outputs
  pow : ∃ k, t.dev.pow = { s.dev.pow with stopped := some k }
  ses : t.dev.ses = s.dev.ses
  due : t.dev.led.due = s.dev.led.due

theorem holdFlags_due (d : Dev) : (holdFlags d).led.due = d.led.due := by
  unfold holdFlags
  split <;> rfl

theorem stopFrames_stopped (k : Nat) (s : State) : FramesStopped s (stopFrames k s) := by
  have h := logFrame_only s.clk.frame
  refine ⟨rfl, rfl, stopFrames_token k s, ?_, ⟨k, ?_⟩, ?_, ?_⟩
  · exact (congrArg Lanes.outputs (h _ .lanes (by decide))).trans rfl
  · exact h _ .pow (by decide)
  · exact (h _ .ses (by decide)).trans (by unfold holdFlags; split <;> rfl)
  · exact (congrArg Led.due (h _ .led (by decide))).trans (holdFlags_due _)

/-- Frame r before frames stop (R59): the session ended, the outputs safe, the checkpoint of an ordered stop asked for. -/
def resetFrame (s : State) (d : Dev) : Dev :=
  let d := ((safeOutputs s.clk.frame (endSession s EndCause.reset d)).ckptDue 3).raise Src.serge Event.RESET_REQUEST []
  { d with pow := { d.pow with resetCount := d.pow.resetCount + 1 } }

theorem resetEff_eq (s : State) : resetEff s = (stopFrames 1 (s.onDev (resetFrame s))).onDev holdInReset := rfl

theorem clk_stopped {s : State} (h : s.clk.running = false) : s.clk = { s.clk with running := false } := by rw [← h]

end Sys2Proof.Machine

open Sys2Proof Sys2Proof.Machine

/-- Settles O17: what frame r and a collapse leave, and what a stop of frames keeps of it. -/
theorem resetRows : Obligations.ResetRows := by
  refine ⟨fun s => ⟨_, rfl, ?_⟩, fun s => ⟨_, rfl, rfl, OnlyChanges.onDev (DevOnly.pow _ _)⟩, fun held s hs => ?_⟩
  · by_cases hrun : s.clk.running = true
    · rw [if_pos hrun, resetEff_eq]
      have k := stopFrames_stopped 1 (s.onDev (resetFrame s))
      generalize stopFrames 1 (s.onDev (resetFrame s)) = t at k ⊢
      obtain ⟨c, r, b, hp⟩ := endSession_pow s EndCause.reset s.dev
      obtain ⟨j, hj⟩ := k.pow
      have hc : (resetFrame s s.dev).pow.resetCount = (endSession s EndCause.reset s.dev).pow.resetCount + 1 := rfl
      have hses : (resetFrame s s.dev).ses = (endSession s EndCause.reset s.dev).ses := rfl
      refine ⟨k.clk, k.regs, rfl, fun _ => ⟨?_, ?_, k.token, ?_, ?_⟩, fun h => absurd hrun (by simp [h])⟩
      · show t.dev.pow.resetCount = _
        rw [hj, State.onDev_dev, hc, hp]
      · exact k.outputs
      · show t.dev.ses.isOpen = false
        rw [k.ses, State.onDev_dev, hses]
        exact endSession_closed _ _ _
      · show t.dev.led.due.getLsbD 3 = true
        rw [k.due]
        simp [resetFrame, Dev.ckptDue]
    · have hoff : s.clk.running = false := by simpa using hrun
      rw [if_neg hrun]
      exact ⟨clk_stopped hoff, rfl, rfl, fun h => absurd h hrun,
        fun _ => ⟨rfl, OnlyChanges.onDev (by simp [devOnly_iff, resetStill, holdInReset])⟩⟩
  · refine ⟨supplyCollapse held s, ?_, ?_⟩
    · show Host.Outcome.next (whenS (s.clk.running || decide (s.dev.pow.st = .mains)) (supplyCollapse held) s) = _
      rw [show (s.clk.running || decide (s.dev.pow.st = .mains)) = true by simpa using hs, whenS_true]
    · unfold supplyCollapse
      dsimp only
      split
      · have k := stopFrames_stopped 4 s
        generalize stopFrames 4 s = t at k ⊢
        exact ⟨k.clk, k.regs, rfl, fun _ => k.token, rfl⟩
      · rename_i hrun
        exact ⟨clk_stopped (by simpa using hrun), rfl, rfl, fun h => absurd h hrun, rfl⟩

end

section
/-!
PROOF. STOP_REQUEST in Degraded (R47, R255, R299): with the outlet open the ordered stop ends the session at once, and the
end of Degraded sets DEGRADED_END beside HOST_STOP. The statement of O30 has the causes changed by the one bit of the
request in every mode.
-/

namespace Sys2Proof.Machine

/-- The end of a session in Degraded sets DEGRADED_END (R299). -/
theorem endSession_degradedEnd {s : State} (hm : s.clk.mode = .degraded) (cause : Nat) {d : Dev} (ho : d.ses.isOpen = true) :
    (endSession s cause d).pow.causes.getLsbD Cause.degradedEnd = true := by
  unfold endSession
  rw [if_pos ho, hm]
  generalize closeSession s cause (sessionEndedEv s cause) (requestOpen s.clk.frame d) = e
  exact (Grows.setCauses e.saf.degBits (e.setCause Cause.degradedEnd)).causes _ (cause_or_self _ (by decide))

/-- With the outlet open and no opening check an ordered stop ends the session at once (R255, log entry 28). -/
theorem orderedStop_ends (s : State) (cause : Nat) {d : Dev} (ho : d.ses.isOpen = true) (hs : d.ses.stop = none)
    (he : enablesOn d = false) (hq : outletShut d = false) (hc : d.saf.openSt ≠ 1) : orderedStop s cause d =
      endSession s cause { d with ses := { d.ses with stop := some (cause, s.clk.frame) } } := by
  have hn : ¬(outletShut { d with ses := { d.ses with stop := some (cause, s.clk.frame) } } = true ∨ d.saf.openSt = 1) :=
    fun k => k.elim (fun k => Bool.false_ne_true (hq.symm.trans k)) hc
  exact ((if_pos ⟨ho, by simp [hs]⟩).trans (if_neg (Bool.eq_false_iff.1 he))).trans (if_neg hn)

/-- An accepted command whose handler executes it leaves the causes that the handler leaves. -/
theorem acsRun_causes {code tag : Nat} {own : Owner} {args p : List Byte} {h : Handler} {s : State} {d : Dev}
    (hc : acsCheck code own args s = none) (hh : h s own args = .yes p d) :
    (acsRun code own tag args h s).dev.pow.causes = d.pow.causes := by
  simp only [acsRun, hc, hh]
  rw [touchLogin_pow, recordDurable_pow]
  rfl

/-- A session in Degraded whose outlet is open, as after a pause (R258): frames run and Lane A leads. -/
def pausedInDegraded : State :=
  { clk := { frame := 100000, running := true, mode := .degraded }
    dev := { lanes := { a := { st := .lead }, token := some .a }, ses := { isOpen := true, st := 5 } } }

end Sys2Proof.Machine

open Sys2Proof Sys2Proof.Machine

/-- Refutes O30: a STOP_REQUEST of the host in Degraded, with the session paused and the outlet open, leaves DEGRADED_END
(bit 5) set beside HOST_STOP (bit 7), where the statement has bit 7 alone. -/
theorem not_modeCommands : ¬ Obligations.ModeCommands := by
  intro h
  obtain ⟨-, -, hstop, -⟩ := h .host 0 [] pausedInDegraded
  have hcheck : acsCheck Cmd.STOP_REQUEST .host [] pausedInDegraded = none := by decide
  obtain ⟨t, ht, -, hcauses, -⟩ := hstop ⟨by decide, hcheck⟩
  obtain rfl : acsRun Cmd.STOP_REQUEST .host 0 [] hStopRequest pausedInDegraded = t := Host.Outcome.next.inj ht
  rw [acsRun_causes hcheck rfl] at hcauses
  have hbit : (orderedStop pausedInDegraded 3 (pausedInDegraded.dev.safeStop .degraded Cause.hostStop
      (causeCmd Cmd.STOP_REQUEST))).pow.causes.getLsbD Cause.degradedEnd = true := by
    rw [orderedStop_ends _ _ rfl rfl rfl rfl (by decide)]
    exact endSession_degradedEnd rfl _ rfl
  have hnone : (pausedInDegraded.dev.pow.causes ||| (1#32 <<< Cause.hostStop)).getLsbD Cause.degradedEnd = false := by decide
  have heq := congrArg (fun c : Word => c.getLsbD Cause.degradedEnd) hcauses
  exact Bool.false_ne_true ((hnone.symm.trans heq.symm).trans hbit)

end

section
/-!
PROOF. Calm steps: from one device to the next the frame's events only grow, the test parameters that are at their defaults
stay there, and the login and the counts of start-ups stay. What runs in a frame after a mode change is calm (R19, R46).
-/

namespace Sys2Proof.Machine

/-- What a calm step keeps of modes and power: the login and the counters of start-ups. -/
def Power.lasting (p : Power) : Option Login × Nat × Nat := (p.login, p.startCount, p.lateStarts)

/-- From d to e events are added at most, tests at their defaults stay so, and the login and the counts of start-ups stay. -/
structure Calm (d e : Dev) : Prop where
  now : d.log.now ⊆ e.log.now
  tests : d.diag.TestsDefault → e.diag.TestsDefault
  pow : e.pow.lasting = d.pow.lasting

namespace Calm

theorem refl (d : Dev) : Calm d d := ⟨List.Subset.refl _, id, rfl⟩

theorem trans {d e f : Dev} (h : Calm d e) (k : Calm e f) : Calm d f :=
  ⟨List.Subset.trans h.now k.now, k.tests ∘ h.tests, k.pow.trans h.pow⟩

/-- What changes neither the log nor tests, nor what lasts of modes and power. -/
theorem of_eq {d e : Dev} (hl : e.log.now = d.log.now) (hp : e.pow.lasting = d.pow.lasting) (hd : e.diag = d.diag) : Calm d e :=
  ⟨by rw [hl]; exact List.Subset.refl _, by rw [hd]; exact id, hp⟩

theorem of_only {ps : List Part} {d e : Dev} (h : DevOnly ps d e) (hl : .log ∉ ps := by decide) (hp : .pow ∉ ps := by decide)
    (hd : .diag ∉ ps := by decide) : Calm d e :=
  of_eq (by rw [h .log hl]) (by rw [h .pow hp]) (h .diag hd)

theorem of_grows {d e : Dev} (h : Grows d e) (hp : e.pow.lasting = d.pow.lasting) (hd : e.diag = d.diag) : Calm d e :=
  ⟨h.now, by rw [hd]; exact id, hp⟩

/-- Events are added to what else is calm. -/
theorem of_now {d e : Dev} {es : List Ev} (hl : e.log.now = d.log.now ++ es) (hp : e.pow.lasting = d.pow.lasting)
    (hd : e.diag = d.diag) : Calm d e :=
  ⟨by rw [hl]; exact List.subset_append_left _ _, by rw [hd]; exact id, hp⟩

theorem raise (src code : Nat) (data : List Byte) (d : Dev) : Calm d (d.raise src code data) := of_now rfl rfl rfl

theorem raiseAll (es : List Ev) (d : Dev) : Calm d (raiseAll es d) := of_now rfl rfl rfl

theorem reqMode (m : Mode) (k : ReqKind) (c : Nat) (d : Dev) : Calm d (d.reqMode m k c) := of_eq rfl rfl rfl

theorem setCause (k : Nat) (d : Dev) : Calm d (d.setCause k) := of_eq rfl rfl rfl

theorem ckptDue (k : Nat) (d : Dev) : Calm d (d.ckptDue k) := of_eq rfl rfl rfl

theorem safeStop (m : Mode) (k ev : Nat) (d : Dev) : Calm d (d.safeStop m k ev) := by
  obtain ⟨rs, h⟩ := d.safeStop_pow m k ev
  exact of_eq (by rw [Dev.safeStop_log]) (by rw [h]; rfl) (Dev.safeStop_diag ..)

/-- The composition of two calm steps, the later one first. -/
theorem comp {d e f : Dev} (k : Calm e f) (h : Calm d e) : Calm d f := h.trans k

/-- A calm step after a change of other parts. -/
theorem after {d e f : Dev} (k : Calm e f) (hl : e.log.now = d.log.now) (hp : e.pow.lasting = d.pow.lasting)
    (hd : e.diag = d.diag) : Calm d f :=
  (of_eq hl hp hd).trans k

theorem ite {d e f : Dev} {c : Prop} [Decidable c] (h : Calm d e) (k : Calm d f) : Calm d (if c then e else f) := by
  split <;> assumption

theorem when {d : Dev} {f : Dev → Dev} (h : Calm d (f d)) (c : Bool) : Calm d (d.when c f) := by
  cases c
  · exact refl d
  · exact h

theorem foldl {α : Type} {f : Dev → α → Dev} (h : ∀ d a, Calm d (f d a)) (l : List α) (d : Dev) : Calm d (l.foldl f d) := by
  induction l generalizing d with
  | nil => exact refl d
  | cons a l ih => exact (h d a).trans (ih _)

end Calm

theorem selftest_calm (n t : Nat) (pass : Bool) (detail : Nat) (d : Dev) : Calm d (selftest n t pass detail d) := by
  obtain ⟨hn, x, y, hd⟩ := selftest_result n t pass detail d
  exact ⟨hn, by rw [hd]; exact id, by rw [selftest_pow]⟩

theorem holdupLow_calm (n : Nat) (m : Mode) (always : Bool) (d : Dev) : Calm d (holdupLow n m always d) := by
  have h := holdupLow_isLow n m always d
  obtain ⟨x, y, hd⟩ := h.diag
  obtain ⟨c, v, r, hp⟩ := h.rest
  exact ⟨h.now, by rw [hd]; exact id, by rw [hp]; rfl⟩

/-! The end of a session, and trips (R255, R269). -/

theorem safeOutputs_calm (n : Nat) (d : Dev) : Calm d (safeOutputs n d) := .of_only (safeOutputs_only n d)

theorem requestOpen_calm (n : Nat) (d : Dev) : Calm d (requestOpen n d) := .of_only (requestOpen_only n d)

theorem endMode_calm (m : Mode) (d : Dev) : Calm d (endMode m d) := by
  obtain ⟨c, r, b, hp⟩ := endMode_pow m d
  exact .of_grows (Grows.endMode m d) (by rw [hp]; rfl) (endMode_only m d .diag (by decide))

theorem endSession_calm (s : State) (cause : Nat) (d : Dev) : Calm d (endSession s cause d) := by
  obtain ⟨c, r, b, hp⟩ := endSession_pow s cause d
  exact .of_grows (Grows.endSession s cause d) (by rw [hp]; rfl) (endSession_only s cause d .diag (by decide))

theorem markS_calm (k : Nat) (d : Dev) : Calm d (markS k d) := .of_eq rfl rfl rfl

theorem orderedStop_calm (s : State) (cause : Nat) (d : Dev) : Calm d (orderedStop s cause d) := by
  unfold orderedStop
  refine .ite (.ite (.of_eq rfl rfl rfl) (.ite (.of_eq rfl rfl rfl) ?_)) (.refl d)
  exact (endSession_calm s cause _).after rfl rfl rfl

theorem trip_calm (s : State) (f tier : Nat) (value : Int) (sBit : Option Nat) (d : Dev) : Calm d (trip s f tier value sBit d) := by
  unfold trip
  extract_lets n fresh _ x _ y z w
  have hx : Calm d x := (safeOutputs_calm n _).after rfl rfl rfl
  have hz : Calm x z := (Calm.raise _ _ _ y).after rfl rfl rfl
  have hw : Calm z w := by
    unfold w
    cases sBit
    · exact .ite (.safeStop ..) (.refl z)
    · exact (Calm.safeStop _ _ _ _).after rfl rfl rfl
  exact .ite (hx.trans (hz.trans (hw.trans (endSession_calm ..)))) hx

theorem dualTrip_calm (s : State) (door : Bool) (tier : Nat) (d : Dev) : Calm d (dualTrip s door tier d) := trip_calm ..

theorem dualFirmware_calm (s : State) (door : Bool) (d : Dev) : Calm d (dualFirmware s door d) := .when (dualTrip_calm ..) _

theorem discEff_calm (s : State) (door : Bool) (d : Dev) : Calm d (discEff s door d) :=
  (Calm.raise _ _ _ _).trans (dualTrip_calm ..) |>.after rfl rfl rfl

theorem pathMLost_calm (s : State) (value : Int) (d : Dev) : Calm d (pathMLost s value d) :=
  (trip_calm ..).after rfl rfl rfl

theorem pathsLost_calm (s : State) (d : Dev) :
    Calm d (pathMLost s 0 { d with saf := { d.saf with pathSLost := true } }) := (pathMLost_calm s 0 _).after rfl rfl rfl

theorem pilotTrip_calm (s : State) (d : Dev) : Calm d (pilotTrip s d) :=
  (Calm.when (trip_calm ..) _).trans <| (Calm.when (trip_calm ..) _).trans <| (Calm.when (trip_calm ..) _).trans <|
    (Calm.when (trip_calm ..) _).trans <| .when (trip_calm ..) _

theorem peTrip_calm (s : State) (d : Dev) : Calm d (peTrip s d) :=
  (Calm.when (trip_calm ..) _).trans (.when (trip_calm ..) _)

theorem otTrip_calm (s : State) (d : Dev) : Calm d (otTrip s d) := .when (trip_calm ..) _

theorem tierTrip_calm (s : State) (k : Nat) (d : Dev) : Calm d (tierTrip s k d) := .when (trip_calm ..) _

theorem rcStep_calm (d : Dev) : Calm d (rcStep d) := .ite (.ite (.of_eq rfl rfl rfl) (.of_eq rfl rfl rfl)) (.refl d)

/-- A contactor that is not closed is a trip (R272). -/
theorem notClosed_calm (s : State) (tier : Nat) (b : Option Nat) (data : List Byte) (d : Dev) : Calm d (trip s 3 tier 0 b
    ((requestOpen s.clk.frame d).raise Src.serge Event.CONTACTOR_NOT_CLOSED data)) :=
  (requestOpen_calm _ d).trans ((Calm.raise ..).trans (trip_calm ..))

theorem droppedStep_calm (s : State) (d : Dev) : Calm d (droppedStep s d) := by
  unfold droppedStep
  split
  · exact .when (notClosed_calm ..) _
  · exact .refl d

theorem closeCheck_calm (s : State) (d : Dev) : Calm d (closeCheck s d) :=
  .ite (.of_eq rfl rfl rfl) ((notClosed_calm ..).after rfl rfl rfl)

theorem degradedExpiry_calm (s : State) (d : Dev) : Calm d (degradedExpiry s d) := (orderedStop_calm ..).after rfl rfl rfl

/-! The lock and the load-switch channels (R312, R321, R329, R337). -/

theorem driveNow_calm (n : Nat) (toLock second : Bool) (d : Dev) : Calm d (driveNow n toLock second d) :=
  .ite ((Calm.when (.of_eq rfl rfl rfl) _).after rfl rfl rfl) (.refl d)

theorem releaseLock_calm (n : Nat) (d : Dev) : Calm d (releaseLock n d) :=
  .ite (.ite (.of_eq rfl rfl rfl) ((Calm.ite (.refl _) (driveNow_calm ..)).after rfl rfl rfl)) (.refl d)

theorem lockTick_calm (n : Nat) (fb : Bool) (i : Nat) (d : Dev) : Calm d (lockTick n fb i d) := by
  unfold lockTick
  dsimp only
  split
  · exact (driveNow_calm ..).after rfl rfl rfl
  · exact .of_eq rfl rfl rfl

theorem bridgeClear_calm (d : Dev) : Calm d (bridgeClear d) := .ite ((Calm.raise ..).after rfl rfl rfl) (.refl d)

theorem followCommand_calm (n k : Nat) (d : Dev) : Calm d (followCommand n k d) :=
  .ite (.of_eq rfl rfl rfl) <| .ite (.of_eq rfl rfl rfl) <| .ite (.of_eq rfl rfl rfl) <|
    .ite (.ite (.of_eq rfl rfl rfl) (.refl d)) (.ite (.of_eq rfl rfl rfl) (.refl d))

theorem setCommand_calm (n k cmd duty : Nat) (d : Dev) : Calm d (setCommand n k cmd duty d) :=
  .ite (.ite (.of_eq rfl rfl rfl) (.of_eq rfl rfl rfl)) (.of_eq rfl rfl rfl)

theorem ruleStep_calm (s : State) (k : Nat) (d : Dev) : Calm d (ruleStep s k d) := by
  unfold ruleStep
  split
  · exact .ite (.refl d) (setCommand_calm ..)
  · exact .refl d

theorem channelApply_calm (s : State) (k : Nat) (d : Dev) : Calm d (channelApply s k d) := by
  unfold channelApply
  extract_lets n x y z
  have hy : Calm x y := by
    unfold y
    split
    · exact setCommand_calm ..
    · exact .refl x
  have hz : Calm y z := .ite ((Calm.raise ..).after rfl rfl rfl) (.refl y)
  have hp (e : Dev) : Calm e (pwmRetune n k e) := .when (.of_eq rfl rfl rfl) _
  exact (ruleStep_calm s k d).trans <| hy.trans <| hz.trans <| (hp z).trans (followCommand_calm ..)

theorem stageApply_calm (s : State) (d : Dev) : Calm d (stageApply s d) :=
  .ite ((bridgeClear_calm d).trans (.foldl (fun _ _ => channelApply_calm ..) _ _)) (.refl d)

theorem offReport_calm (k : Nat) (d : Dev) : Calm d (offReport k d) :=
  .ite (.ite ((Calm.raise ..).comp <| (Calm.ckptDue ..).comp ((Calm.raise ..).after rfl rfl rfl))
    ((Calm.raise ..).after rfl rfl rfl)) (.refl d)

theorem statusRead_calm (n k : Nat) (x : HswIn) (d : Dev) : Calm d (statusRead n k x d) :=
  Calm.comp (e := offReport k _) (.of_eq rfl rfl rfl) ((offReport_calm ..).after rfl rfl rfl)

theorem returnOne_calm (n : Nat) (d : Dev) : Calm d (returnOne n d) := by
  unfold returnOne
  split
  · exact .ite (.of_eq rfl rfl rfl) (.of_eq rfl rfl rfl)
  · exact .of_eq rfl rfl rfl

theorem stageRead_calm (n : Nat) (f : FrameIn) (d : Dev) : Calm d (stageRead n f d) := by
  unfold stageRead
  extract_lets x inRange w dropped _ y
  have hx : Calm d x := .foldl (fun _ _ => statusRead_calm ..) _ _
  clear_value x
  have hy : Calm x y := .of_eq rfl rfl rfl
  exact (Calm.ite (returnOne_calm n y) (.refl y)).comp (hy.comp hx)

/-! The safety step (R269 to R299). -/

theorem openConcluded_calm (s : State) (d : Dev) : Calm d (openConcluded s d) := by
  unfold openConcluded
  extract_lets n _ x
  have hx : Calm d x := by
    unfold x
    split
    · exact endSession_calm ..
    · exact .ite (.of_eq rfl rfl rfl) (.refl d)
  exact hx.trans (releaseLock_calm ..)

theorem openConclude_calm (s : State) (bad : Option Nat) (d : Dev) : Calm d (openConclude s bad d) := by
  cases bad with
  | none => exact (openConcluded_calm ..).after rfl rfl rfl
  | some what =>
    refine (openConcluded_calm ..).comp <| Calm.comp (.ite (.refl _) (endSession_calm ..)) ?_
    exact (Calm.safeStop ..).comp <| (markS_calm ..).comp <| (Calm.raise ..).after rfl rfl rfl

theorem openingStep_calm (s : State) (d : Dev) : Calm d (openingStep s d) := by
  unfold openingStep
  extract_lets n x _ y
  have hx : Calm d x := .ite (.of_eq rfl rfl rfl) (.refl d)
  have hy : Calm d y := hx.trans (.ite (.of_eq rfl rfl rfl) (.refl x))
  split
  · exact hy
  · exact hy.trans (openConclude_calm ..)

theorem rearm_calm (n : Nat) (d : Dev) : Calm d (rearm n d) := by
  unfold rearm
  have hr : Calm d (releaseWeld d) := .when (.of_eq rfl rfl rfl) _
  refine .ite (.refl d) (.ite hr (hr.trans (.foldl (fun e f => ?_) _ _)))
  exact .ite ((Calm.raise ..).after rfl rfl rfl) (.refl e)

theorem safetyStep_calm (s : State) (levels : BitVec 7) (fluxOk : Bool) (d : Dev) : Calm d (safetyStep s levels fluxOk d) := by
  have hs : Calm d (snapshotStep levels fluxOk d) := .of_eq rfl rfl rfl
  unfold safetyStep
  refine (rearm_calm ..).comp <| (Calm.when (degradedExpiry_calm ..) _).comp <| (openingStep_calm ..).comp <|
    (Calm.when (closeCheck_calm ..) _).comp <| (droppedStep_calm ..).comp <| (otTrip_calm ..).comp <| (peTrip_calm ..).comp <|
    (Calm.when (pathMLost_calm ..) _).comp <| (Calm.foldl (fun _ _ => tierTrip_calm ..) _ _).comp <| (rcStep_calm _).comp <|
    (pilotTrip_calm ..).comp <| (Calm.when (pathsLost_calm ..) _).comp <|
    (Calm.when (discEff_calm ..) _).comp <| (Calm.when (discEff_calm ..) _).comp <| (dualFirmware_calm ..).comp <|
    (dualFirmware_calm ..).comp hs

end Sys2Proof.Machine
end

section
/-!
PROOF. What runs in a frame from the grant of the token to the publication, and its display, is calm (R19, R46).
-/

namespace Sys2Proof.Machine

/-! Packages and tokens where a mode is entered (R384, R412). -/

theorem writeAll_calm {o : Owner} {es : List Staged} {d e : Dev} (h : writeAll o es d = some e) : Calm d e := by
  have hs (p : Pending) : Calm d (setPending o p d) := by cases o <;> exact .of_eq rfl rfl rfl
  have hq (d : Dev) (x : Staged) : Calm d (queueWrite o d x) := by
    have hr : Calm d ({ d with acs := { d.acs with
        nextTick := d.acs.nextTick.filter (fun y => !Staged.same y x) ++ [x] } }.raise (srcOf o) Event.PARAM_WRITTEN
      (leBytes 1 (ownerCode o) ++ leBytes 2 x.id)) := .of_now rfl rfl rfl
    cases x with
    | num id v => exact (Calm.ite (.raise ..) (.refl _)).comp hr
    | blk => exact hr
  unfold writeAll at h
  dsimp only at h
  split at h
  · cases h
  · exact Option.some.inj h ▸ (Calm.foldl hq _ _).comp (hs _)

theorem calicoResult_calm (r : Nat) (d : Dev) : Calm d (calicoResult r d) := .of_eq rfl rfl rfl

theorem calicoRejected_calm (r : Nat) (d : Dev) : Calm d (calicoRejected r d) := (Calm.raise ..).comp (calicoResult_calm r d)

theorem calicoValidate_calm (s : State) (d : Dev) : Calm d (calicoValidate s d) := by
  unfold calicoValidate
  refine .ite (calicoResult_calm ..) (.ite (calicoRejected_calm ..) ?_)
  split
  · exact calicoRejected_calm ..
  · split
    · exact calicoRejected_calm ..
    · rename_i h
      exact (Calm.raise ..).comp <| (calicoResult_calm ..).comp (writeAll_calm h)

theorem tokenStart_calm (m : Mode) (d : Dev) : Calm d (tokenStart m d) := .ite (.of_eq rfl rfl rfl) (.refl d)

/-! From the tick to the compare (R19). -/

theorem holdupStep_calm (c : Clk) (d : Dev) : Calm d (holdupStep c d) :=
  .ite (.refl d) (.ite (holdupLow_calm ..) (.of_eq rfl rfl rfl))

theorem grantAtTick_calm (n : Nat) (d : Dev) : Calm d (grantAtTick n d) := by
  unfold grantAtTick
  split
  · exact .ite (.of_eq rfl rfl rfl) (.ite (.of_eq rfl rfl rfl) (.of_eq rfl rfl rfl))
  · exact .refl d

theorem aliveStep_calm (n : Nat) (d : Dev) : Calm d (aliveStep n d) := .ite (.of_eq rfl rfl rfl) (.refl d)

theorem heartRead_calm (c : Clk) (d : Dev) : Calm d (heartRead c d) :=
  .ite (.of_eq rfl rfl rfl) (.ite (.of_eq rfl rfl rfl) (.of_now rfl rfl rfl))

theorem heartStep_calm (c : Clk) (d : Dev) : Calm d (heartStep c d) := .when (heartRead_calm ..) _

theorem digestStep_calm (n : Nat) (d : Dev) : Calm d (digestStep n d) := .when (.of_eq rfl rfl rfl) _

theorem periodicDue_calm (n : Nat) (d : Dev) : Calm d (periodicDue n d) := .when (Calm.ckptDue ..) _

theorem drainQueue_calm (d : Dev) : Calm d (drainQueue d) := (Calm.foldl (fun _ _ => .raise ..) _ _).after rfl rfl rfl

theorem drainRing_calm (d : Dev) : Calm d (drainRing d) := (Calm.foldl (fun _ _ => .raise ..) _ _).after rfl rfl rfl

theorem deferSyncs_calm (c : Clk) (d : Dev) : Calm d (deferSyncs c d) := by
  unfold deferSyncs
  split
  · exact .refl d
  · exact .ite (.of_eq rfl rfl rfl) (.of_now rfl rfl rfl)

theorem uisoStep_calm (n : Nat) (d : Dev) : Calm d (uisoStep n d) := .ite (.of_eq rfl rfl rfl) (.refl d)

theorem isoTick_calm (n : Nat) (d : Dev) : Calm d (isoTick n d) := .ite (.of_eq rfl rfl rfl) (.refl d)

theorem sampleStep_calm (f : FrameIn) (d : Dev) : Calm d (sampleStep f d) := .of_eq rfl rfl rfl

theorem stageCopy_calm (n : Nat) (b : Bool) (d : Dev) : Calm d (stageCopy n b d) := .ite (.of_eq rfl rfl rfl) (.of_eq rfl rfl rfl)

/-! Metering and the tariff step (R150 to R223). -/

theorem gapEnds_calm (n side : Nat) (old new : List (Nat × Estim)) (d : Dev) : Calm d (gapEnds n side old new d) := by
  refine .foldl (fun e _ => ?_) _ d
  exact .ite (.of_now rfl rfl rfl) (.refl e)

theorem reverseStep_calm (n : Nat) (r : Regs) (grew : Nat → Bool) (d : Dev) : Calm d (reverseStep n r grew d) := by
  refine .foldl (fun e _ => ?_) _ d
  exact .ite (.of_now rfl rfl rfl) (.of_eq rfl rfl rfl)

theorem stopGridEpisodes_calm (n : Nat) (d : Dev) : Calm d (stopGridEpisodes n d) := .of_now rfl rfl rfl

theorem metrFrame_calm (s : State) : Calm s.dev (metrFrame s).dev := by
  unfold metrFrame
  extract_lets n x g _ y o _ z dc _ u booked regs _ v grew w old a b c _ e
  have hx : Calm s.dev x := .of_eq rfl rfl rfl
  have hy : Calm x y := (stopGridEpisodes_calm n _).comp (.of_now rfl rfl rfl)
  have hz : Calm y z := .of_now rfl rfl rfl
  have hu : Calm z u := .of_now rfl rfl rfl
  have hv : Calm u v := .of_eq rfl rfl rfl
  have he : Calm c e := .of_eq rfl rfl rfl
  exact he.comp <| (gapEnds_calm ..).comp <| (gapEnds_calm ..).comp <| (gapEnds_calm ..).comp <| (reverseStep_calm ..).comp <|
    hv.comp <| hu.comp <| hz.comp <| hy.comp hx

theorem billMark_calm (d : Dev) : Calm d (billMark d) := .of_eq rfl rfl rfl

theorem billingClose_calm (n endTime cause : Nat) (d : Dev) : Calm d (billingClose n endTime cause d) := .of_now rfl rfl rfl

theorem billingStep_calm (n : Nat) (d : Dev) : Calm d (billingStep n d) := by
  unfold billingStep
  split
  · exact billingClose_calm ..
  · split
    · exact billingClose_calm ..
    · exact .refl d

theorem calendarStep_calm (d : Dev) : Calm d (calendarStep d) := by
  unfold calendarStep
  split
  · exact .refl d
  · exact .ite (.of_now rfl rfl rfl) (.refl d)

theorem demandClose_calm (j endTime : Nat) (short : Bool) (r : Regs) (d : Dev) : Calm d (demandClose j endTime short r d) := by
  unfold demandClose
  split
  · exact .refl d
  · exact .ite (.of_now rfl rfl rfl) (.of_eq rfl rfl rfl)

theorem demandStep_calm (r : Regs) (d : Dev) (j : Nat) : Calm d (demandStep r d j) :=
  .ite (demandClose_calm ..) (.ite (demandClose_calm ..) (.refl d))

theorem dstStep_calm (d : Dev) : Calm d (dstStep d) := .ite (.refl d) (.of_now rfl rfl rfl)

theorem lpCapture_calm (r : Regs) (p : Nat) (d : Dev) : Calm d (lpCapture r p d) := by
  unfold lpCapture
  split
  · exact .refl d
  · exact .of_eq rfl rfl rfl

theorem lpStep_calm (r : Regs) (d : Dev) : Calm d (lpStep r d) :=
  .foldl (fun e _ => .ite (lpCapture_calm ..) (.refl e)) _ d

theorem lpFlags_calm (d : Dev) : Calm d (lpFlags d) := .ite (.refl d) (.of_eq rfl rfl rfl)

theorem stepProfiles_calm (d : Dev) : Calm d (stepProfiles d) := by
  unfold stepProfiles
  split
  · exact .refl d
  · exact .ite (.of_eq rfl rfl rfl) (.of_eq rfl rfl rfl)

theorem tariffSwitch_calm (n : Nat) (d : Dev) : Calm d (tariffSwitch n d) := .ite (.refl d) (.of_now rfl rfl rfl)

theorem tariffStep_calm (n : Nat) (r : Regs) (d : Dev) : Calm d (tariffStep n r d) := by
  unfold tariffStep
  extract_lets a b c e f
  have hf : Calm f { f with tar := { f.tar with step := none } } := .of_eq rfl rfl rfl
  exact hf.comp <| (lpStep_calm ..).comp <| (lpFlags_calm _).comp <| (tariffSwitch_calm ..).comp <| (billingStep_calm ..).comp <|
    (Calm.foldl (demandStep_calm r) _ _).comp <| (calendarStep_calm _).comp <| (billMark_calm _).comp <|
    (stepProfiles_calm _).comp (dstStep_calm d)

/-! The session of a frame (R194, R198, R240, R249). -/

theorem sessionFlags_calm (d : Dev) : Calm d (sessionFlags d) := .ite (.of_eq rfl rfl rfl) (.refl d)

theorem dcStep_calm (d : Dev) : Calm d (dcStep d) := .ite (.of_eq rfl rfl rfl) (.refl d)

theorem pauseStep_calm (s : State) (d : Dev) : Calm d (pauseStep s d) := by
  rcases pauseStep_cases s d with h | ⟨o, h⟩ | ⟨o, st, x, h⟩ <;> rw [h]
  · exact .refl d
  · exact .of_eq rfl rfl rfl
  · exact (Calm.of_only (waveNow_only s.clk _)).comp ((Calm.raise ..).after rfl rfl rfl)

theorem limitStep_calm (s : State) (d : Dev) : Calm d (limitStep s d) := (pauseStep_calm ..).after rfl rfl rfl

theorem takeAuth_calm (src means : Nat) (id : List Byte) (n : Nat) (d : Dev) : Calm d (takeAuth src means id n d) := by
  unfold takeAuth
  extract_lets x _ _ y _ z
  have hx : Calm d x := .ite (.raise ..) (.refl d)
  have hy : Calm x y := .of_eq rfl rfl rfl
  have hz : Calm y z := .of_eq rfl rfl rfl
  exact (Calm.of_only (recordAuth_only _)).comp <| (Calm.raise ..).comp <| hz.comp <| hy.comp hx

theorem driveLockNext_calm (toLock : Bool) (d : Dev) : Calm d (driveLockNext toLock d) := .ite (.refl d) (.of_eq rfl rfl rfl)

theorem startSession_calm (s : State) (d : Dev) : Calm d (startSession s d) := by
  unfold startSession
  extract_lets n number free net _ ses _ _ _ _ x y z w v
  have hy : Calm d y := .of_eq rfl rfl rfl
  have hz : Calm y z := .of_now rfl rfl rfl
  have hv : Calm w v := .ite (takeAuth_calm ..) (.refl w)
  exact (driveLockNext_calm ..).comp <| hv.comp <| (Calm.reqMode ..).comp <| hz.comp hy

theorem decideSession_calm (s : State) (d : Dev) : Calm d (decideSession s d) :=
  .ite (.ite (startSession_calm ..) (.ite (.refl d) (.of_now rfl rfl rfl))) (.refl d)

/-! The compare and the publication (R24, R25, R97). -/

theorem compareStep_calm (n : Nat) (f : FrameIn) (before : State) (d : Dev) : Calm d (compareStep n f before d) :=
  .ite (.of_eq rfl rfl rfl) (.of_eq rfl rfl rfl)

theorem publish_calm (s : State) (d : Dev) : Calm d (publish s d) := by
  unfold publish
  exact .of_eq rfl rfl rfl

theorem publishStep_calm (s : State) (d : Dev) : Calm d (publishStep s d) := by
  unfold publishStep
  exact .ite (.of_eq rfl rfl rfl) ((publish_calm ..).after rfl rfl rfl)

theorem frameFirst_calm (f : FrameIn) (before s : State) : Calm s.dev (frameFirst f before s).dev := by
  unfold frameFirst
  extract_lets n t x y z w
  exact (publishStep_calm ..).comp <| (compareStep_calm ..).comp <| (decideSession_calm ..).comp <| (limitStep_calm ..).comp <|
    (dcStep_calm _).comp <| (sessionFlags_calm _).comp <| (tariffStep_calm ..).comp <| (metrFrame_calm _).comp <|
    (stageCopy_calm ..).comp <| (stageRead_calm ..).comp <| (sampleStep_calm ..).comp <| (isoTick_calm ..).comp <|
    (uisoStep_calm ..).comp <| (deferSyncs_calm ..).comp <| (drainRing_calm _).comp (drainQueue_calm _)

/-! From the latch to the display (R19, R44). -/

theorem disputeExpires_calm (n : Nat) (d : Dev) : Calm d (disputeExpires n d) := by
  unfold disputeExpires
  split
  · exact .refl d
  · exact .ite (.ite (.of_eq rfl rfl rfl) (.of_eq rfl rfl rfl)) (.refl d)

theorem latchStep_calm (f : FrameIn) (s : State) : Calm s.dev (latchStep f s).dev := by
  have ha (n : Nat) (d : Dev) : Calm d (waveApply n d) := .ite (.of_eq rfl rfl rfl) (.refl d)
  have hw (d : Dev) : Calm d (waveStep s.clk d) := .of_eq rfl rfl rfl
  have hl (n : Nat) (d : Dev) : Calm d (latchOutputs n d) := .of_only (applyOutputs_only n _ d)
  exact (stageApply_calm ..).comp <| (lockTick_calm ..).comp <| (hl ..).comp <| (disputeExpires_calm ..).comp <| (hw _).comp (ha ..)

theorem phaseMapStep_calm (d : Dev) : Calm d (phaseMapStep d) := .ite (.refl d) (.of_now rfl rfl rfl)

theorem heldTriggers_calm (s : State) (d : Dev) : Calm d (heldTriggers s d) := by
  unfold heldTriggers
  extract_lets x y
  have hx : Calm d x := .ite (.reqMode ..) (.refl d)
  have hy : Calm x y := .ite (.reqMode ..) (.refl x)
  exact (Calm.ite (endMode_calm ..) (.refl y)).comp (hy.comp hx)

theorem lcdRender_calm (s : State) (k : Nat) (d : Dev) : Calm d (lcdRender s k d) := .of_eq rfl rfl rfl

theorem lcdRefresh_calm (s : State) (d : Dev) : Calm d (lcdRefresh s d) := by
  unfold lcdRefresh
  split
  · exact lcdRender_calm ..
  · exact .of_eq rfl rfl rfl

theorem lcdStep_calm (s : State) (d : Dev) : Calm d (lcdStep s d) := .ite (.of_eq rfl rfl rfl) (.when (lcdRefresh_calm ..) _)

end Sys2Proof.Machine
end

section
/-!
PROOF. A frame that a tick starts (R19, R22, R46): what follows the mode change is calm, or ends with both lanes out, where
the frame's log is closed.
-/

namespace Sys2Proof.Machine

/-! The faults of a read-back (R32, R190, R298). -/

theorem degradedFault_calm (s : State) (ev bit : Nat) (d : Dev) : Calm d (degradedFault s ev bit none d) := by
  by_cases h : s.clk.mode = .degraded
  · rw [degradedFault_degraded h]
    exact (safeOutputs_calm ..).comp <| (endSession_calm ..).comp (.of_eq rfl rfl rfl)
  by_cases ho : s.clk.mode = .session ∧ d.ses.isOpen = true
  · rw [degradedFault_session ho.1 ho.2]
    exact (Calm.reqMode ..).comp ((Calm.raise ..).after rfl rfl rfl)
  · rw [degradedFault_other h ho]
    exact .safeStop ..

theorem laneLost_calm (s : State) (l : Lane) (d : Dev) : Calm d (laneLost s l d) :=
  laneLost_eq s l d ▸ (degradedFault_calm ..).comp (.of_now rfl rfl rfl)

theorem faultAside_calm (l : Lane) (d : Dev) : Calm d (faultAside l d) := by
  refine ⟨List.Subset.refl _, fun h => ?_, rfl⟩
  show (if d.diag.pert.any fun p => decide (p.lane = l) then
    { d.diag with pert := none, stretch := 0, commitDelay := 0, mismatch := 0, wdtWindow := 0 } else d.diag).TestsDefault
  split
  · obtain ⟨hf, -, hm, hp, ht, hg, -⟩ := h
    exact ⟨hf, rfl, hm, hp, ht, hg, rfl, rfl, rfl, rfl⟩
  · exact h

theorem disputeAtFault_calm (n : Nat) (l : Lane) (cause : Nat) (d : Dev) : Calm d (disputeAtFault n l cause d) := by
  unfold disputeAtFault
  split
  · exact .refl d
  · exact .ite (.of_eq rfl rfl rfl) (.of_eq rfl rfl rfl)

theorem faultedDev_calm (l : Lane) (cause slot verdict : Nat) (atOnce : Bool) (n : Nat) (d : Dev) :
    Calm d (faultedDev l cause slot verdict atOnce n d) := by
  have hs (w : Word) : Calm d (faultSerge l w cause n d) := .of_eq rfl rfl rfl
  have hl (g : LaneRec → LaneRec) (e : Dev) : Calm e (e.onLane l g) := .of_eq rfl rfl rfl
  have hw (b : Bool) (e : Dev) : Calm e (faultShadow b e) := .ite (.of_eq rfl rfl rfl) (.refl e)
  exact (hw ..).comp <| (disputeAtFault_calm ..).comp <| (hl ..).comp <| (faultAside_calm ..).comp (hs _)

/-! The log of a frame that is closed (R23, R120, R121). -/

theorem mem_insertEv {e x : Ev} {l : List Ev} : x ∈ insertEv e l ↔ x = e ∨ x ∈ l := by
  induction l with
  | nil => simp [insertEv]
  | cons y l ih =>
    unfold insertEv
    split
    · simp
    · simp only [List.mem_cons, ih]
      exact or_left_comm

theorem mem_orderEvents {x : Ev} {l : List Ev} : x ∈ orderEvents l ↔ x ∈ l := by
  unfold orderEvents
  induction l using List.reverseRecOn with
  | nil => exact Iff.rfl
  | append_singleton l y ih =>
    rw [List.foldl_append, List.foldl_cons, List.foldl_nil, mem_insertEv, ih]
    simp [or_comm]

/-- An entry is the first one that an event of frame n takes (R120). -/
def LogEntry.Enters (n : Nat) (e : Ev) (x : LogEntry) : Prop :=
  x.src = e.src ∧ x.code = e.code ∧ x.frame = n ∧ x.data = e.data.take 12

theorem logEvent_stream (n : Nat) (d : Dev) (e : Ev) :
    d.win.stream ⊆ (logEvent n d e).win.stream ∧ ∃ x ∈ (logEvent n d e).win.stream, x.Enters n e := by
  have h : ∃ x r, (logEvent n d e).win.stream = d.win.stream ++ x :: r ∧ x.Enters n e := by
    unfold logEvent
    dsimp only
    split <;> exact ⟨_, _, rfl, rfl, rfl, rfl, rfl⟩
  obtain ⟨x, r, hx, hE⟩ := h
  rw [hx]
  exact ⟨List.subset_append_left _ _, x, by simp, hE⟩

theorem logEvents_stream (n : Nat) (es : List Ev) (d : Dev) : d.win.stream ⊆ (es.foldl (logEvent n) d).win.stream ∧
    ∀ e ∈ es, ∃ x ∈ (es.foldl (logEvent n) d).win.stream, x.Enters n e := by
  induction es generalizing d with
  | nil => exact ⟨List.Subset.refl _, by simp⟩
  | cons e es ih =>
    obtain ⟨hs, x, hx, hE⟩ := logEvent_stream n d e
    obtain ⟨ks, k⟩ := ih (logEvent n d e)
    refine ⟨List.Subset.trans hs ks, fun y hy => ?_⟩
    rcases List.mem_cons.1 hy with rfl | hy
    · exact ⟨x, ks hx, hE⟩
    · exact k y hy

/-- Every event of the frame enters the stream when the frame's log is closed (R120). -/
theorem logFrame_enters (n : Nat) {d : Dev} {e : Ev} (h : e ∈ d.log.now) : ∃ x ∈ (logFrame n d).win.stream, x.Enters n e := by
  obtain ⟨x, hx, hE⟩ := (logEvents_stream n (orderEvents d.log.now) { d with log := { d.log with now := [] } }).2 e
    (mem_orderEvents.2 h)
  unfold logFrame
  dsimp only
  split
  · exact ⟨x, (logEvent_stream n _ _).1 hx, hE⟩
  · exact ⟨x, hx, hE⟩

/-! A frame that runs on, and one that ends with both lanes out. -/

/-- The frame runs on, calmly. -/
structure RunsOn (s t : State) : Prop where
  clk : t.clk = s.clk
  dev : Calm s.dev t.dev

/-- The frame was the last (R22): its log is closed. -/
structure Ended (s t : State) : Prop where
  clk : t.clk = { s.clk with running := false }
  tests : s.dev.diag.TestsDefault → t.dev.diag.TestsDefault
  pow : t.dev.pow.lasting = s.dev.pow.lasting
  entered : ∀ e ∈ s.dev.log.now, ∃ x ∈ t.dev.win.stream, x.Enters s.clk.frame e

theorem RunsOn.refl (s : State) : RunsOn s s := ⟨rfl, .refl _⟩

theorem RunsOn.of_dev {s : State} {d : Dev} (h : Calm s.dev d) : RunsOn s { s with dev := d } := ⟨rfl, h⟩

theorem RunsOn.onDev {f : Dev → Dev} (h : ∀ d, Calm d (f d)) (s : State) : RunsOn s (s.onDev f) := ⟨rfl, h _⟩

theorem RunsOn.trans {s t u : State} (h : RunsOn s t) (k : RunsOn t u) : RunsOn s u := ⟨k.clk.trans h.clk, h.dev.trans k.dev⟩

theorem RunsOn.ended {s t u : State} (h : RunsOn s t) (k : Ended t u) : Ended s u :=
  ⟨by rw [k.clk, h.clk], k.tests ∘ h.dev.tests, k.pow.trans h.dev.pow, fun e he => h.clk ▸ k.entered e (h.dev.now he)⟩

theorem RunsOn.goes {s t u : State} (h : RunsOn s t) (k : RunsOn t u ∨ Ended t u) : RunsOn s u ∨ Ended s u :=
  k.imp h.trans h.ended

theorem dualFault_ended (s : State) : Ended s (dualFault s) := by
  unfold dualFault
  extract_lets n d halt _ _ x y z
  have hd : Calm s.dev d := (safeOutputs_calm ..).comp (.ite (.of_eq rfl rfl rfl) (.refl _))
  have hz : Calm s.dev z := (Calm.safeStop ..).comp <| Calm.trans hd (.of_eq rfl rfl rfl)
  generalize hw : ({ z with win := { z.win with shadow := {} } } : Dev) = w
  have hc : Calm s.dev w := hw ▸ hz.trans (.of_eq rfl rfl rfl)
  have hl := logFrame_only n w
  have hp : (logFrame n w).pow = w.pow := hl .pow (by decide)
  have hg : (logFrame n w).diag = w.diag := hl .diag (by decide)
  exact ⟨rfl, fun h => by rw [hg]; exact hc.tests h, by rw [hp, hc.pow], fun e he => logFrame_enters n (hc.now he)⟩

theorem faultLane_goes (l : Lane) (cause slot verdict : Nat) (atOnce : Bool) (s : State) :
    RunsOn s (faultLane l cause slot verdict atOnce s) ∨ Ended s (faultLane l cause slot verdict atOnce s) := by
  have hf := faultedDev_calm l cause slot verdict atOnce s.clk.frame s.dev
  cases hd : faultIsDual s.clk.frame l s.dev with
  | true =>
    unfold faultLane
    rw [if_pos hd]
    have hu (c : Prop) [Decidable c] (e : Dev) : Calm e (if c then ungrant s.clk.frame e else e) := .ite (.of_eq rfl rfl rfl) (.refl e)
    exact (RunsOn.of_dev ((hu _ _).comp hf)).goes (.inr (dualFault_ended _))
  | false =>
    rw [faultLane_one hd cause slot verdict atOnce rfl]
    have hp (e : Dev) : Calm e (passToken l atOnce s.clk.frame e) := .ite (.of_eq rfl rfl rfl) (.of_eq rfl rfl rfl)
    have he := (Calm.ite (c := (decide (s.dev.lanes.token = some l) && !s.dev.lanes.sergeFault) = true) (hp _) (.refl _)).comp hf
    exact .inl (.of_dev (.ite (he.trans (laneLost_calm ..)) he))

/-! The frame that a tick starts. -/

theorem readbackStep_goes (f : FrameIn) (s : State) : RunsOn s (readbackStep f s) ∨ Ended s (readbackStep f s) := by
  have bad (l : Lane) (ok : Bool) (t : State) :
      RunsOn t (whenS (!ok && laneWorks l t && laneWrites t.dev l) (faultLane l 0x09 2 0 true) t) ∨
        Ended t (whenS (!ok && laneWorks l t && laneWrites t.dev l) (faultLane l 0x09 2 0 true) t) := by
    cases !ok && laneWorks l t && laneWrites t.dev l
    · exact .inl (.refl t)
    · exact faultLane_goes ..
  unfold readbackStep
  dsimp only
  rcases bad .a f.readbackA s with h | h
  · exact h.goes (bad .b f.readbackB _)
  · generalize whenS _ _ s = t at h ⊢
    have hr : laneWorks .b t = false := by simp [laneWorks, h.clk]
    rw [hr, Bool.and_false, Bool.false_and, whenS_false]
    exact .inr h

theorem frameSecond_goes (f : FrameIn) (s : State) : RunsOn s (frameSecond f s) ∨ Ended s (frameSecond f s) := by
  have hs (t : State) : RunsOn t (t.onDev fun d => safetyStep t f.levels f.fluxgateOk d) := .onDev (fun _ => safetyStep_calm ..) t
  have hl (t : State) : RunsOn t (latchStep f t) := ⟨rfl, latchStep_calm f t⟩
  have hd (t : State) : RunsOn t (t.onDev fun d => lcdStep { t with dev := d } (heldTriggers t (phaseMapStep d))) :=
    .onDev (fun _ => (lcdStep_calm ..).comp <| (heldTriggers_calm ..).comp (phaseMapStep_calm _)) t
  unfold frameSecond
  rcases readbackStep_goes f s with h | h
  · refine h.goes (.inl ?_)
    generalize readbackStep f s = t
    dsimp only
    split
    · exact ((hs t).trans (hl _)).trans (hd _)
    · exact .refl t
  · have hr : (readbackStep f s).clk.running = false := by rw [h.clk]
    rw [if_neg (by simp [hr])]
    exact .inr h

theorem modeEntered_runsOn (was : Mode) (s : State) : RunsOn s (modeEntered was s) :=
  .onDev (fun d => (tokenStart_calm ..).comp (.ite (calicoValidate_calm s d) (.refl d))) s

theorem frameFirst_clk (f : FrameIn) (before s : State) : (frameFirst f before s).clk = s.clk := by
  unfold frameFirst
  extract_lets n t
  show t.clk = s.clk
  unfold t
  rw [metrFrame_clk]
  rfl

theorem frameFirst_runsOn (f : FrameIn) (before s : State) : RunsOn s (frameFirst f before s) :=
  ⟨frameFirst_clk f before s, frameFirst_calm f before s⟩

/-- After the mode change at a tick the frame runs on calmly, or ends with both lanes out. -/
theorem startFrame_goes (f : FrameIn) (s : State) :
    RunsOn (applyMode (frameBegun f s)) (startFrame f s) ∨ Ended (applyMode (frameBegun f s)) (startFrame f s) := by
  have hg (n : Nat) (k : Clk) (d : Dev) : Calm d
      (periodicDue n (digestStep n (heartStep k (aliveStep n (grantAtTick n (holdupStep k d)))))) :=
    (periodicDue_calm ..).comp <| (digestStep_calm ..).comp <| (heartStep_calm ..).comp <| (aliveStep_calm ..).comp <|
      (grantAtTick_calm ..).comp (holdupStep_calm ..)
  unfold startFrame
  extract_lets n _ r _ a b c
  have hb : RunsOn (applyMode a) b := modeEntered_runsOn s.clk.mode (applyMode a)
  have hc : RunsOn b c := RunsOn.onDev (hg n b.clk) b
  exact (hb.trans (hc.trans (frameFirst_runsOn f s c))).goes (frameSecond_goes f _)

end Sys2Proof.Machine
end

section
/-!
PROOF. The mode change at a tick (R46), and what the rest of its frame leaves of it.
-/

namespace Sys2Proof.Machine

/-- What a mode change leaves (R46): the old mode is given, the new one and the cause stand in the state. -/
structure ModeChanged (old : Mode) (t : State) : Prop where
  tests : t.dev.diag.TestsDefault
  login : old = .service → t.dev.pow.login = none
  logged : Logged Src.own Event.MODE_CHANGED
    (leBytes 1 old.code ++ leBytes 1 t.clk.mode.code ++ leBytes 4 t.clk.modeCause ++ leBytes 8 t.clk.frame) t

theorem loginEnds_only (d : Dev) : DevOnly [.pow, .log] d (loginEnds d) := by
  unfold loginEnds
  split <;> simp [devOnly_iff]

theorem loginEnds_login (d : Dev) : (loginEnds d).pow.login = none := by
  cases h : d.pow.login with
  | none => simp [loginEnds, h]
  | some l => rw [loginEnds_some h]; rfl

/-- The mode change at a tick: tests and the login first, the event last (R46). -/
theorem modeChangeEff_leaves (n : Nat) (old new : Mode) (cause : Nat) (d : Dev) :
    (modeChangeEff n old new cause d).diag.TestsDefault ∧
      (old = .service → (modeChangeEff n old new cause d).pow.login = none) ∧
        Ev.of Src.own Event.MODE_CHANGED (leBytes 1 old.code ++ leBytes 1 new.code ++ leBytes 4 cause ++ leBytes 8 n) ∈
          (modeChangeEff n old new cause d).log.now := by
  unfold modeChangeEff
  extract_lets x y _ z
  have hx : x.diag.TestsDefault := (revertTests_reverted n 1 d).default
  have hy : y.diag = x.diag ∧ (old = .service → y.pow.login = none) := by
    unfold y
    split
    · exact ⟨loginEnds_only x .diag (by decide), fun _ => loginEnds_login x⟩
    · rename_i h
      exact ⟨rfl, fun k => absurd k h⟩
  have hz := (discardAll_discards 0 { y with pow := { y.pow with modeReqs := [] } }).1.only
  have hd : z.diag = x.diag := (hz .diag (by decide)).trans hy.1
  have hp : z.pow = { y.pow with modeReqs := [] } := hz .pow (by decide)
  refine ⟨by rwa [Dev.irq_diag, Dev.raise_diag, hd], fun h => ?_, by simp⟩
  rw [Dev.irq_pow, Dev.raise_pow, hp]
  exact hy.2 h

theorem applyMode_changed {s : State} (h : (applyMode s).clk.mode ≠ s.clk.mode) : ModeChanged s.clk.mode (applyMode s) := by
  revert h
  unfold applyMode
  split
  · exact fun h => absurd rfl h
  · rename_i r _
    split
    · exact fun h => absurd rfl h
    · obtain ⟨hd, hl, he⟩ := modeChangeEff_leaves s.clk.frame s.clk.mode r.target r.cause s.dev
      exact fun _ => ⟨hd, hl, he⟩

theorem lasting_login {p q : Power} (h : q.lasting = p.lasting) : q.login = p.login := congrArg Prod.fst h

theorem ModeChanged.runsOn {old : Mode} {s t : State} (h : ModeChanged old s) (k : RunsOn s t) :
    TestsDefault t ∧ (old = .service → t.dev.pow.login = none) ∧ ModeLogged old t := by
  refine ⟨k.dev.tests h.tests, fun ho => by rw [lasting_login k.dev.pow, h.login ho], .inl ?_⟩
  rw [k.clk]
  exact k.dev.now h.logged

theorem ModeChanged.ended {old : Mode} {s t : State} (h : ModeChanged old s) (k : Ended s t) :
    TestsDefault t ∧ (old = .service → t.dev.pow.login = none) ∧ ModeLogged old t := by
  refine ⟨k.tests h.tests, fun ho => by rw [lasting_login k.pow, h.login ho], .inr ?_⟩
  rw [k.clk]
  exact ⟨rfl, k.entered _ h.logged⟩

/-- A tick that changes the mode starts a frame. -/
theorem frameTickEff_changed {f : FrameIn} {s : State} (h : (frameTickEff f s).clk.mode ≠ s.clk.mode) :
    TestsDefault (frameTickEff f s) ∧ (s.clk.mode = .service → (frameTickEff f s).dev.pow.login = none) ∧
      ModeLogged s.clk.mode (frameTickEff f s) := by
  cases he : finalEnds s with
  | true =>
    rw [frameTickEff_ends f he] at h
    have k := (stopAfter_keepsSound 0 s).mode
    generalize stopAfter 0 s = t at h k
    exact absurd k h
  | false =>
    cases hr : s.dev.upd.restartDue with
    | true =>
      rw [frameTickEff_restarts f he hr] at h
      have k := (stopAfter_keepsSound 2 s).mode
      generalize stopAfter 2 s = t at h k
      exact absurd k h
    | false =>
      have hm : (frameBegun f (conclude s)).clk.mode = s.clk.mode :=
        (frameBegun_mode f (conclude s)).trans (conclude_keepsSound s).mode
      rw [frameTickEff_starts f he hr] at h ⊢
      rw [startFrame_mode, ← hm] at h
      exact hm ▸ (startFrame_goes f (conclude s)).elim (applyMode_changed h).runsOn (applyMode_changed h).ended

end Sys2Proof.Machine
end

section
/-!
PROOF. What runs in frame m of a start-up once the login ended and the tests were cleared is calm (R40, R46, R57, R58).
-/

namespace Sys2Proof.Machine

theorem Calm.raiseMetr (src code : Nat) (data : List Byte) (d : Dev) : Calm d (d.raiseMetr src code data) := .of_now rfl rfl rfl

theorem Calm.foldl_mem {α : Type} {f : Dev → α → Dev} {l : List α} (h : ∀ a ∈ l, ∀ d, Calm d (f d a)) (d : Dev) :
    Calm d (l.foldl f d) := by
  induction l generalizing d with
  | nil => exact .refl d
  | cons a l ih =>
    exact (ih (fun b hb => h b (List.mem_cons_of_mem a hb)) _).comp (h a List.mem_cons_self d)

/-! Before the login ends (R57, R58, R191). -/

theorem batteryUp_calm (n : Nat) (d : Dev) : Calm d (batteryUp n d) := by
  unfold batteryUp
  extract_lets _ x y
  have hx : Calm d x := .of_eq rfl rfl rfl
  have hy : Calm x y := .ite (.refl x) (.raise ..)
  clear_value y
  exact (hx.trans hy).trans (.of_eq rfl rfl rfl)

theorem recoveryEvents_calm (c : Choice) (breaks : List (Nat × Nat)) (d : Dev) : Calm d (recoveryEvents c breaks d) := by
  unfold recoveryEvents
  extract_lets _ x y z
  have hx : Calm d x := .of_now rfl rfl rfl
  have hy : Calm x y := .ite (.raise ..) (.refl x)
  have hz : Calm y z := .ite (.raise ..) (.refl y)
  exact (Calm.foldl (fun _ _ => .raise ..) _ _).comp (hz.comp (hy.comp hx))

theorem startCrystals_calm (m : Nat) (u : StartIn) (was : Lanes) (d : Dev) : Calm d (startCrystals m u was d) := by
  unfold startCrystals
  extract_lets x
  have hx : Calm d x := .ite (.refl d) (.of_eq rfl rfl rfl)
  exact hx.trans (.ite (.refl x) (.of_eq rfl rfl rfl))

theorem startLost_calm (d : Dev) : Calm d (startLost d) := by
  unfold startLost
  extract_lets lost
  have h (l : Lane) (e : Dev) : Calm e (lost l e) := by
    refine .when ?_ _
    exact (Calm.raise ..).comp <| (Calm.setCause ..).comp (.of_eq rfl rfl rfl)
  clear_value lost
  exact (h .b _).comp (h .a d)

/-! After the login ended (R46, R58, R193, R219). -/

theorem discardAll_calm (cause : Nat) (d : Dev) : Calm d (discardAll cause d) := by
  obtain ⟨ho, hg, -⟩ := (discardAll_discards cause d).1
  exact .of_grows hg (by rw [ho .pow (by decide)]) (ho .diag (by decide))

theorem reconcileCounters_calm (v a b : Bool) (d : Dev) : Calm d (reconcileCounters v a b d) := by
  unfold reconcileCounters
  extract_lets pick m mask
  refine Calm.comp (.foldl (fun e k => .ite (.refl e) (.raise ..)) _ _) ?_
  exact .of_eq rfl rfl rfl

theorem startTariff_calm (c : Choice) (r : Regs) (d : Dev) : Calm d (startTariff c r d) := by
  unfold startTariff
  extract_lets k _ x live
  have hx : Calm d x := .of_eq rfl rfl rfl
  split
  · exact hx
  · extract_lets t status y z
    have hy : Calm x y := .of_eq rfl rfl rfl
    have hz : Calm y z := (tariffSwitch_calm ..).comp <| (billingStep_calm ..).comp <|
      (Calm.foldl (demandStep_calm r) _ _).comp (calendarStep_calm y)
    clear_value z
    exact ((hx.trans hy).trans hz).trans (.of_eq rfl rfl rfl)

theorem rtcLoadEff_calm (d : Dev) : Calm d (rtcLoadEff d) := by
  unfold rtcLoadEff
  split
  · exact .refl d
  · exact .of_eq rfl rfl rfl

theorem rtcTick_calm (advance : Nat) (d : Dev) : Calm d (rtcTick advance d) := by
  unfold rtcTick
  extract_lets x
  have hx : Calm d x := rtcLoadEff_calm d
  clear_value x
  exact hx.trans (.ite (.of_eq rfl rfl rfl) (.of_eq rfl rfl rfl))

theorem startClock_calm (advance : Nat) (d : Dev) : Calm d (startClock advance d) := by
  have hc (e : Dev) : Calm e (clockTick e) := by
    unfold clockTick
    split
    · exact .of_eq rfl rfl rfl
    · exact .refl e
  unfold startClock
  extract_lets x _ y
  have hx : Calm d x := .ite (rtcLoadEff_calm d) (.refl d)
  have hy : Calm x y := (rtcTick_calm ..).after rfl rfl rfl
  exact (hc _).comp (hy.comp hx)

theorem phaseGap_calm (n t side ph : Nat) (e : Estim) (d : Dev) : Calm d (phaseGap n t side ph e d) := .of_now rfl rfl rfl

theorem endEstims_calm (c : Choice) (d : Dev) : Calm d (endEstims c d) :=
  .foldl (fun e _ => .ite (.raiseAll ..) (.ite (phaseGap_calm ..) (.refl e))) _ d

theorem startJob_calm (k : JobKind) (own arg : Nat) (d : Dev) : Calm d (startJob k own arg d) := .of_eq rfl rfl rfl

theorem startJobs_calm (d : Dev) : Calm d (startJobs d) := by
  unfold startJobs
  extract_lets _ _ _ x _ y
  have hx : Calm d x := .of_eq rfl rfl rfl
  have hy : Calm x y := .ite (.of_eq rfl rfl rfl) (.refl x)
  exact (Calm.foldl (fun _ _ => startJob_calm ..) _ _).comp (hy.comp hx)

/-! The values that waited for a tick (R113): those that the store holds reach no test. -/

theorem storeStaged_calm (d : Dev) (e : Staged) : Calm d (storeStaged d e) := by
  unfold storeStaged
  refine .ite (.refl d) ?_
  cases e <;> exact .of_eq rfl rfl rfl

theorem deliver_calm (n : Nat) (d : Dev) {e : Staged} (h : storedId e.id = true) : Calm d (deliver n d e) := by
  cases e with
  | num id v =>
    have ht : id / 256 ≠ 0x70 := by
      simp only [storedId, Bool.and_eq_true, decide_eq_true_eq] at h
      exact h.1.2
    refine .ite (.of_eq rfl rfl rfl) (.ite (.ite (.of_eq rfl rfl rfl) (.refl d)) ?_)
    rw [if_neg ht]
    exact storeStaged_calm ..
  | blk => exact storeStaged_calm ..

theorem tamperDetect_calm (n src cls : Nat) (d : Dev) : Calm d (tamperDetect n src cls d) :=
  .ite (.refl d) (.ite (.of_eq rfl rfl rfl) (.of_eq rfl rfl rfl))

theorem tempUpdate_calm (j : Nat) (d : Dev) : Calm d (tempUpdate j d) := by
  unfold tempUpdate
  split
  · exact .of_eq rfl rfl rfl
  · exact .ite (.of_now rfl rfl rfl) (.of_eq rfl rfl rfl)

theorem extStep_calm (a : Nat) (d : Dev) : Calm d (extStep a d) := by
  unfold extStep
  split
  · exact .ite (.refl d) (.of_now rfl rfl rfl)
  · exact .refl d

theorem nameplateWrite_calm (d : Dev) : Calm d (nameplateWrite d) := .of_only (nameplateWrite_only d)

theorem afterDelivery_calm (n : Nat) (r : Regs) (old : Dev) (ids : List Nat) (d : Dev) : Calm d (afterDelivery n r old ids d) := by
  have opt (c : Prop) [Decidable c] {e f : Dev} (h : Calm e f) : Calm e (if c then f else e) := .ite h (.refl e)
  have tamper (o : Nat) (e : Dev) : Calm e (tamperRaised n o e) :=
    .foldl (fun e k => opt _ (tamperDetect_calm n (k + 1) _ e)) _ e
  have demand (e : Dev) (j : Nat) : Calm e (demandRestart r e j) := .of_eq rfl rfl rfl
  have profile (e : Dev) (p : Nat) : Calm e (profileRestart e p) := .of_eq rfl rfl rfl
  have disp (e : Dev) : Calm e (dispRestart n e) := .of_eq rfl rfl rfl
  have harv (e : Dev) : Calm e { e with cal := { e.cal with harvOut := false } } := .of_eq rfl rfl rfl
  have ext (e : Dev) : Calm e (extStepAll e) := .foldl (fun _ _ => extStep_calm ..) _ e
  have pan (e : Dev) : Calm e (leavePan e) := .of_eq rfl rfl rfl
  unfold afterDelivery
  extract_lets has x y z w v a _ b c
  have hx : Calm d x := opt _ (tamper _ d)
  have hz : Calm y z := .foldl (fun e j => opt _ (tempUpdate_calm j e)) _ y
  have hw : Calm z w := .foldl (fun e j => opt _ (demand e j)) _ z
  have hv : Calm w v := .foldl (fun e p => opt _ (profile e p)) _ w
  exact (opt _ (pan c)).comp <| (opt _ (ext b)).comp <| (opt _ (harv a)).comp <| (opt _ (nameplateWrite_calm v)).comp <|
    hv.comp <| hw.comp <| hz.comp <| (opt _ (disp x)).comp hx

theorem startQueue_calm (m : Nat) (r : Regs) (d : Dev) : Calm d (startQueue m r d) := by
  unfold startQueue queueStep
  extract_lets _ x q y
  have hy : Calm d y := .of_eq rfl rfl rfl
  refine (afterDelivery_calm ..).comp (Calm.comp (.foldl_mem (fun e he d => deliver_calm m d ?_) y) hy)
  have h := List.of_mem_filter he
  simp only [Bool.and_eq_true] at h
  exact h.1

end Sys2Proof.Machine
end

section
/-!
PROOF. Frame m of a start-up (R40, R46, R57, R58): the login it ends, the tests it clears, the count of start-ups it takes
from the checkpoint, and its mode change.
-/

namespace Sys2Proof.Machine

theorem readerStart_calm (n : Nat) (d : Dev) : Calm d (readerStart n d) := by
  unfold readerStart
  extract_lets x
  have hx : Calm d x := .ite (.of_now rfl rfl rfl) (.refl d)
  clear_value x
  exact hx.trans (.of_eq rfl rfl rfl)

/-- START_COUNT as the checkpoint holds it (R191). -/
def Choice.startCount (c : Choice) : Nat := (assoc c.ckpt.counters Param.START_COUNT).getD 0

theorem startPower_lasting (m : Nat) (u : StartIn) (d : Dev) :
    (startPower m u d).pow.lasting = (d.pow.login, d.pow.startCount + 1 + d.pow.lateStarts, 0) := rfl

theorem loginEnds_lasting (d : Dev) : (loginEnds d).pow.lasting = (none, d.pow.lasting.2) := by
  cases h : d.pow.login with
  | none => simp [loginEnds, h, Power.lasting]
  | some l => rw [loginEnds_some h]; rfl

/-- The power part of a start-up after the checkpoint's counters were restored (R48, R57, R191). -/
theorem startPower_leaves (m : Nat) (u : StartIn) {d e : Dev} {l : Option Login} {k w : Nat} (h : Calm d e)
    (hc : d.pow.lasting = (l, k, w)) :
    (discardAll 2 (loginEnds (startPower m u (startLost e)))).pow.lasting = (none, k + 1 + w, 0) := by
  have hp : (startLost e).pow.lasting = (l, k, w) := (h.trans (startLost_calm e)).pow.trans hc
  generalize startLost e = x at hp
  obtain ⟨-, rfl, rfl⟩ : x.pow.login = l ∧ x.pow.startCount = k ∧ x.pow.lateStarts = w := by simpa [Power.lasting] using hp
  rw [(discardAll_calm ..).pow, loginEnds_lasting, startPower_lasting]

/-- A start-up begins its frame with no login, every test at its default, and the checkpoint's count of start-ups raised by
itself and by those without frames. -/
theorem startDev_leaves (m : Nat) (c : Choice) (r : Regs) (u : StartIn) (d : Dev) :
    (startDev m c r u d).diag.TestsDefault ∧
      (startDev m c r u d).pow.lasting = (none, c.startCount + 1 + d.pow.lateStarts, 0) := by
  unfold startDev
  extract_lets cold was d₁ d₂ _ d₃ d₄ d₅ d₆ d₇ _ d₈ d₉ _ _ d₁₀ d₁₁
  have h₁ : Calm d d₁ := .ite (.refl d) (batteryUp_calm ..)
  have hl : d₁.pow.lateStarts = d.pow.lateStarts := congrArg (·.2.2) h₁.pow
  have h₂ : d₂.pow.lasting = (d₁.pow.login, c.startCount, d.pow.lateStarts) := by
    rw [← hl]
    exact (recoveryEvents_calm c _ (restoreCounters c.ckpt.counters d₁)).pow
  have h₃ : Calm d₂ d₃ := .of_eq rfl rfl rfl
  have h₄ : Calm d₃ d₄ := (startCrystals_calm ..).after rfl rfl rfl
  have h₅ : d₅.pow.lasting = (none, c.startCount + 1 + d.pow.lateStarts, 0) := startPower_leaves m u (h₃.trans h₄) h₂
  clear_value d₅
  have h₆ : d₆.diag.TestsDefault ∧ d₆.pow.lasting = d₅.pow.lasting := by
    have k := reconcileCounters_calm u.vaultCountersOk u.arrayAOk u.arrayBOk (clearTests (dropVolatile d₅))
    exact ⟨k.tests (clearTests_reverted _).default, k.pow⟩
  have h₇ : Calm d₆ d₇ := (startTariff_calm ..).comp (startClock_calm ..)
  clear_value d₆ d₇
  have h₈ : Calm d₇ d₈ := (startJobs_calm _).comp ((endEstims_calm ..).after rfl rfl rfl)
  clear_value d₈
  have h₉ : Calm d₈ d₉ := .of_eq rfl rfl rfl
  clear_value d₉
  have h₁₀ : Calm d₉ d₁₀ := ⟨List.Subset.refl _, id, rfl⟩
  have h₁₁ : Calm d₁₀ d₁₁ := startQueue_calm ..
  clear_value d₁₁
  have he : Calm d₁₁ (drawNonce m (gridStart (readerStart m (startPeriods (demandsShort d₁₁))))) := by
    have hg (e : Dev) : Calm e (drawNonce m (gridStart e)) := .of_eq rfl rfl rfl
    exact (hg _).comp ((readerStart_calm ..).after rfl rfl rfl)
  have h := h₇.trans <| h₈.trans <| h₉.trans <| h₁₀.trans <| h₁₁.trans he
  exact ⟨h.tests h₆.1, by rw [h.pow, h₆.2, h₅]⟩

/-! The causes, the trial and the safety set of a start-up (R299, R304, R431). -/

theorem startCauses_calm (ok : Bool) (m : Mode) (d : Dev) : Calm d (startCauses ok m d) := by
  unfold startCauses
  extract_lets _ x y z
  have hx : Calm d x := .of_eq rfl rfl rfl
  have hy : Calm x y := .ite (.refl x) (.setCause ..)
  have hz : Calm y z := (Calm.foldl (fun _ _ => .setCause ..) _ _).comp (.setCause ..)
  clear_value z
  exact hx.trans (.ite ((hy.trans hz).trans ((Calm.raise ..).after rfl rfl rfl)) hy)

theorem startBootRecovery_calm (d : Dev) : Calm d (startBootRecovery d) :=
  .ite (.of_now rfl rfl rfl) (.of_eq rfl rfl rfl)

theorem metrActivated_calm (src : Nat) (old new : Manifest) (d : Dev) : Calm d (metrActivated src old new d) :=
  .ite (.raiseMetr ..) (.refl d)

theorem bootReverted_calm (a : Activation) (d : Dev) : Calm d (bootReverted a d) := by
  unfold bootReverted
  extract_lets x
  have hx : Calm d x := .ite (metrActivated_calm ..) (.refl d)
  clear_value x
  refine hx.trans ?_
  split
  · exact .ite (.of_now rfl rfl rfl) (.of_eq rfl rfl rfl)
  · exact .of_eq rfl rfl rfl

theorem bootTrial_calm (m target : Nat) (d : Dev) : Calm d (bootTrial m target d) := (metrActivated_calm ..).after rfl rfl rfl

theorem startActivationState_calm (m : Nat) (factory : Bool) (d : Dev) : Calm d (startActivationState m factory d) := by
  unfold startActivationState
  extract_lets _ x
  have hx : Calm d x := .of_eq rfl rfl rfl
  refine hx.trans ?_
  split
  · exact bootTrial_calm ..
  · split
    · exact bootReverted_calm ..
    · exact .ite (bootTrial_calm ..) (.refl x)

theorem startSafetySet_calm (d : Dev) : Calm d (startSafetySet d) := by
  refine .ite ?_ (.refl d)
  exact (markS_calm ..).comp <| (Calm.raise ..).comp <| (Calm.setCause ..).comp (.of_eq rfl rfl rfl)

theorem startedDev_leaves (m : Nat) (c : Choice) (u : StartIn) (s : State) :
    (startedDev m c u s).diag.TestsDefault ∧
      (startedDev m c u s).pow.lasting = (none, c.startCount + 1 + s.dev.pow.lateStarts, 0) := by
  obtain ⟨ht, hp⟩ := startDev_leaves m c c.regs u s.dev
  have h : Calm (startDev m c c.regs u s.dev) (startedDev m c u s) := (startSafetySet_calm _).comp <|
    (startActivationState_calm ..).comp <| (startBootRecovery_calm _).comp (startCauses_calm ..)
  exact ⟨h.tests ht, h.pow.trans hp⟩

/-! The work of frame m (R46, R58, R191, R194, R459). -/

theorem closeSession_calm (s : State) (cause : Nat) {ev : Dev → Dev} (hev : ∀ d, Calm d (ev d)) (d : Dev) :
    Calm d (closeSession s cause ev d) := by
  obtain ⟨bal, h⟩ := closeSession_eq s cause ev d
  have hb (k : Nat) (e : Dev) : Calm e (balanceLog k bal e) := .ite (.raise ..) (.refl e)
  rw [h]
  exact (Calm.of_only (clearSession_only _ _ _)).comp <| (hb ..).comp <| (hev _).comp (.of_only (closingRecord_only s cause d))

theorem startSession10_calm (c : Choice) (s : State) (d : Dev) : Calm d (startSession10 c s d) :=
  .ite ((closeSession_calm s _ (fun _ => .raise ..) _).after rfl rfl rfl) (.refl d)

theorem rebuildArray_calm (n : Nat) (l : Lane) (d : Dev) : Calm d (rebuildArray n l d) :=
  .ite (.refl d) (.ite (.of_eq rfl rfl rfl) (.of_now rfl rfl rfl))

theorem startArrays_calm (m : Nat) (u : StartIn) (d : Dev) : Calm d (startArrays m u d) :=
  .ite (rebuildArray_calm ..) (.ite (rebuildArray_calm ..) (.refl d))

theorem startGap_calm (m ms : Nat) (c : Choice) (d : Dev) : Calm d (startGap m ms c d) := by
  unfold startGap
  split
  · exact .refl d
  · exact .of_now rfl rfl rfl

theorem channelConsequence_calm (s : State) (c : Nat) (d : Dev) : Calm d (channelConsequence s c d) :=
  .ite (pathMLost_calm ..) (.ite (peTrip_calm ..) (.ite (endSession_calm ..) (.refl d)))

theorem channelFaultEff_calm (c : Nat) (b : Bool) (d : Dev) : Calm d (channelFaultEff c b d) := .of_now rfl rfl rfl

theorem startTests_calm (s : State) (u : StartIn) (d : Dev) : Calm d (startTests s u d) :=
  (selftest_calm ..).comp <| (selftest_calm ..).comp <|
    Calm.foldl (fun _ c => (channelConsequence_calm ..).comp (channelFaultEff_calm c true _)) _ _

theorem dropSlots_calm (bad : BitVec 16) (d : Dev) : Calm d (dropSlots bad d) := by
  refine Calm.comp (.foldl (fun e k => .ite ?_ (.refl e)) _ _) ?_
  · exact (Calm.raise ..).comp (.of_eq rfl rfl rfl)
  · exact .of_eq rfl rfl rfl

theorem identityCheck_calm (m : Mode) (ok : Bool) (d : Dev) : Calm d (identityCheck m ok d) := by
  unfold identityCheck
  split
  · exact .ite (.of_eq rfl rfl rfl) (.refl d)
  · extract_lets _ x y
    have hy : Calm d y := .of_now rfl rfl rfl
    exact hy.trans (.ite (.refl y) (.reqMode ..))

theorem stageStart_calm (s : State) (latches : List (Bool × Nat)) (fb : Bool) (d : Dev) : Calm d (stageStart s latches fb d) := by
  have hl (was : Nat) (e : Dev) : Calm e (lockStart was e) := (Calm.when (.raise ..) _).after rfl rfl rfl
  exact (stageApply_calm ..).comp ((hl ..).after rfl rfl rfl)

/-- The work of frame m is calm, and logs the mode change that it makes (R46, R58). -/
theorem startedWork_leaves (m : Nat) (c : Choice) (u : StartIn) (old : Mode) (s : State) (d : Dev) :
    Calm d (startedWork m c u old s d) ∧ (s.clk.mode ≠ old → Ev.of Src.own Event.MODE_CHANGED
      (leBytes 1 old.code ++ leBytes 1 s.clk.mode.code ++ leBytes 4 (causeEvent Event.STARTED) ++ leBytes 8 m) ∈
        (startedWork m c u old s d).log.now) := by
  have ho (e : Dev) : Calm e (startOutlet e) := .of_eq rfl rfl rfl
  unfold startedWork
  extract_lets mode x y z w v a
  have hx : Calm d x := (ho _).comp (startSession10_calm c s d)
  have hy : Calm x y := (startGap_calm ..).comp <| (startArrays_calm ..).comp (.ckptDue ..)
  have hz : Calm y z ∧ (s.clk.mode ≠ old → Ev.of Src.own Event.MODE_CHANGED (leBytes 1 old.code ++ leBytes 1 s.clk.mode.code ++
      leBytes 4 (causeEvent Event.STARTED) ++ leBytes 8 m) ∈ z.log.now) := by
    unfold z
    split
    · rename_i h
      exact ⟨.refl y, absurd h⟩
    · exact ⟨.of_now rfl rfl rfl, fun _ => List.mem_append_right _ (List.mem_singleton.2 rfl)⟩
  clear_value z
  have hw : Calm z w := (dropSlots_calm ..).comp <| (drainRing_calm _).comp <| (drainQueue_calm _).comp (startTests_calm s u z)
  have ha : Calm w a := (stageStart_calm ..).comp (identityCheck_calm ..)
  have h := (hw.trans ha).trans (Calm.ite (c := calicoWaits a = true) (calicoValidate_calm s a) (.refl a))
  exact ⟨hx.trans (hy.trans (hz.1.trans h)), fun k => h.now (hz.2 k)⟩

theorem startedEnd_calm (m : Nat) (s : State) : Calm s.dev (startedEnd m s).dev := by
  have hs (e : Dev) : Calm e (demandsShort e) := .of_eq rfl rfl rfl
  have hl (t : Nat) (e : Dev) : Calm e (limitStack t e) := .ite (.of_eq rfl rfl rfl) (.of_eq rfl rfl rfl)
  unfold startedEnd
  extract_lets x y z _ _ w
  have hx : Calm s.dev x := (hs _).comp (tariffStep_calm ..)
  have hy : Calm x y := .ite (.of_eq rfl rfl rfl) (.refl x)
  have hz : Calm y z := (Calm.of_only (calicoImageWrite_only m false s _)).comp (hl ..)
  have hw : Calm z w := (publish_calm ..).after rfl rfl rfl
  exact (lcdStep_calm ..).comp <| hw.comp <| hz.comp <| hy.comp hx

/-- What a start-up leaves (R46, R57): tests at their defaults, no login, MODE_CHANGED where it maps the mode to another, and
the checkpoint's count of start-ups raised. -/
theorem frameM_leaves (m : Nat) (c : Choice) (u : StartIn) (s : State) :
    TestsDefault (frameM m c u s) ∧ (frameM m c u s).dev.pow.lasting = (none, c.startCount + 1 + s.dev.pow.lateStarts, 0) ∧
      ((frameM m c u s).clk.mode ≠ persistedMode s c → ModeLogged (persistedMode s c) (frameM m c u s)) := by
  obtain ⟨ht, hp⟩ := startedDev_leaves m c u s
  unfold frameM
  extract_lets d s'
  obtain ⟨hw, hl⟩ := startedWork_leaves m c u (persistedMode s c) s' d
  generalize startedWork m c u (persistedMode s c) s' d = e at hw hl ⊢
  have he : Calm e (startedEnd m (metrFrame { s' with dev := e })).dev :=
    (startedEnd_calm ..).comp (metrFrame_calm { s' with dev := e })
  have hclk : (startedEnd m (metrFrame { s' with dev := e })).clk = s'.clk := rfl
  generalize startedEnd m (metrFrame { s' with dev := e }) = t at hclk he ⊢
  refine ⟨he.tests (hw.tests ht), by rw [he.pow, hw.pow, hp], fun h => .inl ?_⟩
  have hc : s'.clk.modeCause = causeEvent Event.STARTED := if_neg (by rwa [hclk] at h)
  rw [hclk] at h ⊢
  show _ ∈ t.dev.log.now
  rw [hc]
  exact he.now (hl h)

end Sys2Proof.Machine
end

section
/-!
PROOF. What a start-up leaves of tests, of the login and of its own count (R40, R46, R57, R191).
-/

namespace Sys2Proof.Machine

theorem startUpEff_starts {u : StartIn} {c : Choice} {s : State} (h : StartsFrom u c s) :
    startUpEff u s = frameM (c.frame + 1) c u (beforeStart u s) := by
  obtain ⟨-, -, hi, hf, hc⟩ := h
  unfold startUpEff
  dsimp only
  rw [if_neg (by simp [hi]), if_pos hf, hc]

theorem exec_startUp {u : StartIn} {c : Choice} {s : State} (h : StartsFrom u c s) :
    exec (.startUp u) s = .next (frameM (c.frame + 1) c u (beforeStart u s)) := by
  have ⟨hr, hi, _⟩ := h
  show Host.Outcome.next (whenS (!s.clk.running && !s.dev.pow.inReset) (startUpEff u) s) = _
  rw [hr, hi, ← startUpEff_starts h]
  rfl

/-- No frame ran yet, and the machine has counted a start-up that the checkpoint does not hold. -/
def countedNotKept : State := { State.reset with dev := { State.reset.dev with pow := { startCount := 1 } } }

/-- A start-up that finds everything good. -/
def goodStart : StartIn :=
  { laneAOk := true, laneBOk := true, frameImageOk := true, laneProtoOk := true, nbplOk := true, bbplOk := true, nfcrOk := true
    xaOk := true, xbOk := true, arrayAOk := true, arrayBOk := true, badRecords := [], capUf := 3000, vhold := 28000
    rtcAdvance := 0, startMs := 100, badRefs := 0, identityOk := true, badSlots := 0, vaultCountersOk := true, lkFb := false }

end Sys2Proof.Machine

open Sys2Proof Sys2Proof.Machine

/-- Settles O8: at a tick the change is made before the frame's calm work, at a start-up within it. -/
theorem modeChangeEffects : Obligations.ModeChangeEffects := by
  refine ⟨fun c s t hu h hm => ?_, fun u c s h => ⟨_, exec_startUp h, fun hm => ?_⟩⟩
  · by_cases hf : ∃ f, c = .frameTick f
    · obtain ⟨f, rfl⟩ := hf
      obtain rfl : whenS s.clk.running (frameTickEff f) s = t := Host.Outcome.next.inj h
      cases hr : s.clk.running
      · rw [hr] at hm
        exact absurd rfl hm
      · rw [hr] at hm
        exact frameTickEff_changed hm
    · obtain ⟨hmode, -⟩ := modeChangesAtTickOnly c s t (fun f e => hf ⟨f, e⟩) hu h
      exact absurd hmode hm
  · obtain ⟨ht, hp, hl⟩ := frameM_leaves (c.frame + 1) c u (beforeStart u s)
    exact ⟨ht, congrArg Prod.fst hp, hl hm⟩

/-- Refutes O18: the count of start-ups is that of the checkpoint raised by one. Where the machine had counted a start-up that
the recovered checkpoint does not hold, the count is 1 before the start-up and 1 after it, and does not rise. -/
theorem not_startRows : ¬ Obligations.StartRows := by
  intro h
  have hmap : (recoverChoice true true (beforeStart goodStart countedNotKept).dev).map Choice.startCount = some 0 := by decide
  obtain ⟨c, hc, h0⟩ := Option.map_eq_some_iff.1 hmap
  have hstarts : StartsFrom goodStart c countedNotKept := ⟨rfl, rfl, rfl, by decide, hc⟩
  obtain ⟨t, ht, -, -, -, -, hcount, -⟩ := h.1 goodStart c countedNotKept hstarts
  rw [exec_startUp hstarts] at ht
  obtain rfl := Host.Outcome.next.inj ht
  obtain ⟨-, hp, -⟩ := frameM_leaves (c.frame + 1) c goodStart (beforeStart goodStart countedNotKept)
  rw [h0] at hp
  have hone : (frameM (c.frame + 1) c goodStart (beforeStart goodStart countedNotKept)).dev.pow.startCount = 1 :=
    congrArg (·.2.1) hp
  rw [hone] at hcount
  exact absurd hcount (by decide)

end

section
/-!
SUPPORT. Accesses of the host through a port (R67 to R73, R76, R77): what each outcome of a transaction and of a word leaves
of the window.
-/

namespace Sys2Proof.Machine

/-- A change of the window alone. -/
theorem DevOnly.win (d : Dev) (w : Win) : DevOnly [.win] d { d with win := w } := by simp [devOnly_iff]

theorem OnlyChanges.win (s : State) (w : Win) : OnlyChanges [.win] s { s with dev := { s.dev with win := w } } :=
  OnlyChanges.dev (DevOnly.win s.dev w)

/-- A row of a port that serves takes its effect. -/
theorem Completes.of_port {c : Instr} {p : Port} {f : Dev → Dev} {s : State} {P : State → Prop}
    (h : exec c s = devStep s (Dev.when (portServes p s) f)) (hp : portServes p s = true) (k : P (s.onDev f)) :
    Completes c s P :=
  .of_when (b := fun _ => portServes p s) h hp k

/-! Words and bytes. -/

theorem leNat_lt (bs : List Byte) : leNat bs < 256 ^ bs.length := by
  induction bs with
  | nil => decide
  | cons b r ih =>
    have hb := b.isLt
    simp only [leNat, List.length_cons, Nat.pow_succ]
    omega

theorem leBytes_leNat (bs : List Byte) : leBytes bs.length (leNat bs) = bs := by
  induction bs with
  | nil => rfl
  | cons b r ih =>
    have hb := b.isLt
    have hdiv : leNat (b :: r) / 256 = leNat r := by rw [leNat]; omega
    have hmod : BitVec.ofNat 8 (leNat (b :: r)) = b := BitVec.eq_of_toNat_eq (by rw [BitVec.toNat_ofNat, leNat]; omega)
    rw [List.length_cons, leBytes, hdiv, hmod, ih]

/-- A word that four bytes spell has these bytes. -/
theorem leBytes_ofNat_leNat (bs : List Byte) (h : bs.length = 4) : leBytes 4 (BitVec.ofNat 32 (leNat bs)).toNat = bs := by
  have hlt := leNat_lt bs
  rw [h] at hlt
  rw [BitVec.toNat_ofNat, Nat.mod_eq_of_lt (show leNat bs < 2 ^ 32 from hlt), ← h, leBytes_leNat]

theorem ofNat_leNat_leBytes (v : Word) : BitVec.ofNat 32 (leNat (leBytes 4 v.toNat)) = v := by
  rw [leNat_leBytes, Nat.mod_eq_of_lt (show v.toNat < 256 ^ 4 from v.isLt), BitVec.ofNat_toNat, BitVec.setWidth_eq]

theorem readWords_length (d : Dev) (a n : Nat) : (readWords d a n).length = 4 * n := by
  simp [readWords, List.length_flatMap, Nat.mul_comm]

theorem readWord_ram (d : Dev) {a : Nat} (h : 0x1000 ≤ a) :
    readWord d a = BitVec.ofNat 32 (leNat (Mem.readBytes d.win.mem a 4)) := by
  unfold readWord
  repeat rw [if_neg (by omega)]

/-- The word that an access of a kind writes (R76). -/
def writtenWord (kind : Nat) (old v : Word) : Word :=
  if kind = 1 then old ||| v else if kind = 2 then old &&& ~~~ v else v

/-- A word of the RAM is written as it stands. -/
theorem portWord_ram (p : Port) (kind : Nat) (v : Word) (d : Dev) {a : Nat} (h : 0x1000 ≤ a) :
    portWord p kind a v d = { d with win := { d.win with mem := Mem.writeBytes d.win.mem a (leBytes 4
      (writtenWord kind (readWord d a) v).toNat) } } := by
  unfold portWord
  dsimp only
  repeat rw [if_neg (by omega)]
  rfl

/-- A run of words into RAM that loses none writes its bytes (R69). -/
theorem portWords_ram (p : Port) {a : Nat} (h : 0x1000 ≤ a) (n k : Nat) (data : List Byte) (hn : data.length = 4 * n)
    (d : Dev) : portWords p 0 a [] k data d =
      { d with win := { d.win with mem := Mem.writeBytes d.win.mem (a + 4 * k) data } } := by
  induction n generalizing k data d with
  | zero =>
    obtain rfl : data = [] := List.length_eq_zero_iff.1 hn
    rfl
  | succ n ih =>
    match data, hn with
    | b0 :: b1 :: b2 :: b3 :: rest, hn =>
      have hrest : rest.length = 4 * n := by simp only [List.length_cons] at hn; omega
      have hw := portWord_ram p 0 (BitVec.ofNat 32 (leNat [b0, b1, b2, b3])) d (a := a + 4 * k) (by omega)
      rw [writtenWord, if_neg (by decide), if_neg (by decide), leBytes_ofNat_leNat _ rfl] at hw
      rw [portWords, ih _ _ hrest]
      simp only [List.contains_nil, Bool.false_eq_true, if_false, hw]
      rfl

/-- Bytes that stand in the RAM where nothing but the window changed. -/
theorem ramWritten_of_mem {a : Nat} {data : List Byte} {s t : State} (hs : s.dev.win.RamSound)
    (hm : t.dev.win.mem = Mem.writeBytes s.dev.win.mem a data) (hslots : t.dev.win.slots = s.dev.win.slots)
    (hirq : t.dev.win.irqStatus = s.dev.win.irqStatus) (ho : OnlyChanges [.win] s t) : RamWritten a data s t := by
  refine ⟨?_, fun b hb => ?_, ?_, hslots, hirq, ho⟩
  · rw [hm, Mem.readBytes_writeBytes data _ a hs]
  · rw [hm, Mem.read_writeBytes_out data _ a b hs hb]
  · unfold Win.RamSound
    rw [hm]
    exact Mem.writeBytes_wf data _ a hs

/-! The two ports. -/

/-- A port's record in a window. -/
def Win.setPort (w : Win) (p : Port) (r : PortRec) : Win :=
  match p with
  | .hspi => { w with hspi := r }
  | .huart => { w with huart := r }

theorem Dev.onPort_eq (p : Port) (f : PortRec → PortRec) (d : Dev) :
    d.onPort p f = { d with win := d.win.setPort p (f (d.win.port p)) } := by cases p <;> rfl

/-- What a transaction of HSPI leaves of the port before its outcome (R71). -/
def hspiBegun (s : State) (r : PortRec) : PortRec :=
  { r with out := [statusByte s], range := false, collision := false, crcErr := false, busy := false, count := r.count + 1 }

/-! Transactions on HSPI (R68 to R71). -/

theorem hspiWriteEff_badCrc {op : Nat} {addr : BitVec 24} {data : List Byte} {crc : Word} (lost : List Nat) {s : State}
    (hb : portRefuses .hspi s.dev = false) (hc : crc ≠ crc32 (hspiCovered op addr data)) :
    hspiWriteEff op addr data crc lost s s.dev = { s.dev with win := { s.dev.win with
      crcErrors := s.dev.win.crcErrors + 1
      hspi := portCount false { hspiBegun s s.dev.win.hspi with crcErr := true } } } := by
  unfold hspiWriteEff
  dsimp only
  rw [if_neg (by simp [hb]), if_pos hc]
  rfl

theorem hspiWriteEff_range {op : Nat} {addr : BitVec 24} {data : List Byte} (lost : List Nat) {s : State}
    (hb : portRefuses .hspi s.dev = false) (hw : writeOk s.dev addr.toNat (data.length / 4) = false) :
    hspiWriteEff op addr data (crc32 (hspiCovered op addr data)) lost s s.dev = { s.dev with win := { s.dev.win with
      hspi := portCount true { hspiBegun s s.dev.win.hspi with range := true } } } := by
  have hw' : writeOk (hspiBegin s s.dev) addr.toNat (data.length / 4) = false := hw
  unfold hspiWriteEff
  dsimp only
  rw [if_neg (by simp [hb]), if_neg (by simp), if_pos (by simp [hw'])]
  rfl

theorem hspiWriteEff_ram {op : Nat} {addr : BitVec 24} {data : List Byte} {s : State}
    (hb : portRefuses .hspi s.dev = false) (h4 : data.length % 4 = 0) (hmax : data.length ≤ 4096)
    (hlo : 0x1000 ≤ addr.toNat) (hhi : addr.toNat < 0x10000) (hw : writeOk s.dev addr.toNat (data.length / 4) = true) :
    hspiWriteEff op addr data (crc32 (hspiCovered op addr data)) [] s s.dev = { s.dev with win := { s.dev.win with
      mem := Mem.writeBytes s.dev.win.mem addr.toNat data
      hspi := portCount true { hspiBegun s s.dev.win.hspi with collision := false } } } := by
  have hw' : writeOk (hspiBegin s s.dev) addr.toNat (data.length / 4) = true := hw
  unfold hspiWriteEff
  dsimp only
  rw [if_neg (by simp [hb]), if_neg (by simp), if_neg (by simp [hw']; omega), Nat.div_eq_of_lt hhi, Nat.mod_eq_of_lt hhi,
    portWords_ram .hspi hlo (data.length / 4) 0 data (by omega)]
  rfl

theorem hspiReadEff_range (op : Nat) {addr : BitVec 24} {words : Nat} {s : State} (hb : portRefuses .hspi s.dev = false)
    (ha : accessOk addr.toNat words = false) : hspiReadEff op addr words s s.dev = { s.dev with win := { s.dev.win with
      hspi := portCount true { hspiBegun s s.dev.win.hspi with range := true } } } := by
  unfold hspiReadEff
  dsimp only
  rw [if_neg (by simp [hb]), if_pos (by simp [ha])]
  rfl

/-- The bytes that a read shifts out after the status byte (R70). -/
def hspiReadOut (op : Nat) (addr : BitVec 24) (words : Nat) (d : Dev) : List Byte :=
  0x5A :: (readWords d (addr.toNat % 0x10000) words ++
    leBytes 4 (crc32 (hspiCovered op addr (readWords d (addr.toNat % 0x10000) words))).toNat)

theorem hspiReadEff_answers (op : Nat) {addr : BitVec 24} {words : Nat} {s : State} (hb : portRefuses .hspi s.dev = false)
    (ha : accessOk addr.toNat words = true) : hspiReadEff op addr words s s.dev = { s.dev with win := { s.dev.win with
      hspi := portCount true { hspiBegun s s.dev.win.hspi with
        out := statusByte s :: hspiReadOut op addr words s.dev } } } := by
  unfold hspiReadEff
  dsimp only
  rw [if_neg (by simp [hb]), if_neg (by simp [ha])]
  rfl

end Sys2Proof.Machine

open Sys2Proof Sys2Proof.Machine

/-- Settles O21: each transaction by its outcome, whatever its opcode. -/
theorem hspiTransfers : Obligations.HspiTransfers := by
  unfold Obligations.HspiTransfers
  refine ⟨?writes, ?badCrc, ?range, ?reads, ?outside, ?status, ?unknown⟩
  case writes =>
    rintro addr data s ⟨hp, hb⟩ hs h4 hmax hlo hhi hw
    have key (op : Nat) : RamWritten addr.toNat data s
        (s.onDev (hspiWriteEff op addr data (crc32 (hspiCovered op addr data)) [] s)) := by
      rw [State.onDev, hspiWriteEff_ram hb h4 hmax hlo hhi hw]
      exact ramWritten_of_mem hs rfl rfl rfl (OnlyChanges.win s _)
    exact ⟨.of_port rfl hp (key _), .of_port rfl hp (key _)⟩
  case badCrc =>
    rintro addr data crc lost s ⟨hp, hb⟩
    refine ⟨fun hc => .of_port rfl hp ?_, fun hc => .of_port rfl hp ?_⟩
    all_goals
      rw [State.onDev, hspiWriteEff_badCrc lost hb hc]
      exact ⟨rfl, rfl, OnlyChanges.win s _⟩
  case range =>
    rintro addr data lost s ⟨hp, hb⟩ hw
    refine ⟨.of_port rfl hp ?_, .of_port rfl hp ?_⟩
    all_goals
      rw [State.onDev, hspiWriteEff_range lost hb hw]
      exact ⟨⟨rfl, OnlyChanges.win s _⟩, rfl⟩
  case reads =>
    rintro addr words s ⟨hp, hb⟩ ha
    refine ⟨.of_port rfl hp ?_, .of_port rfl hp ?_⟩
    all_goals
      rw [State.onDev, hspiReadEff_answers _ hb ha]
      exact ⟨rfl, rfl, rfl, rfl, OnlyChanges.win s _⟩
  case outside =>
    rintro addr words s ⟨hp, hb⟩ ha
    refine ⟨.of_port rfl hp ?_, .of_port rfl hp ?_⟩
    all_goals
      rw [State.onDev, hspiReadEff_range _ hb ha]
      exact ⟨rfl, rfl, rfl, rfl, OnlyChanges.win s _⟩
  case status =>
    rintro s ⟨hp, hb⟩
    refine .of_port (p := .hspi) rfl hp ?_
    rw [State.onDev, if_neg (by simp [hb])]
    exact ⟨rfl, rfl, rfl, rfl, OnlyChanges.win s _⟩
  case unknown =>
    rintro op s ⟨hp, hb⟩ h1 h2 h3 h4 h5
    refine .of_when (b := fun _ => portServes .hspi s && !([0x02, 0x03, 0x32, 0x6B, 0x05] : List Byte).contains op) rfl ?_ ?_
    · simpa [hp] using show op ≠ 2#8 ∧ op ≠ 3#8 ∧ op ≠ 50#8 ∧ op ≠ 107#8 ∧ op ≠ 5#8 from ⟨h1, h2, h3, h4, h5⟩
    · exact ⟨rfl, rfl, rfl, rfl, OnlyChanges.win s _⟩

end

section
/-!
PROOF. One word of the window written through a port (R67, R76, R77, R81, R82, R95, R99, R101).
-/

namespace Sys2Proof.Machine

/-! The outcomes of a write of one word. -/

@[simp] theorem readWord_onPort (p : Port) (f : PortRec → PortRec) (d : Dev) (a : Nat) :
    readWord (d.onPort p f) a = readWord d a := by cases p <;> rfl

@[simp] theorem Dev.onPort_mem (p : Port) (f : PortRec → PortRec) (d : Dev) : (d.onPort p f).win.mem = d.win.mem := by
  cases p <;> rfl

theorem Dev.onPort_only (p : Port) (f : PortRec → PortRec) (d : Dev) : DevOnly [.win] d (d.onPort p f) := by
  rw [Dev.onPort_eq]
  exact DevOnly.win d _

/-- The port's record once a write of one word has begun (R71). -/
def wordBegun (s : State) (p : Port) (r : PortRec) : PortRec :=
  match p with
  | .hspi => hspiBegun s r
  | .huart => { r with count := r.count + 1 }

theorem wordBegin_eq (s : State) (p : Port) (d : Dev) : wordBegin s p d = d.onPort p (wordBegun s p) := by cases p <;> rfl

/-- What the port's record shows of a write of one word. -/
def toldRec (p : Port) (res : Nat) (r : PortRec) : PortRec :=
  match p with
  | .hspi => portCount true { r with range := decide (res = Res.badParam), collision := decide (res = Res.collision) }
  | .huart => portCount true { r with result := res }

theorem wordTold_eq (p : Port) (res : Nat) (d : Dev) : wordTold p res d = d.onPort p (toldRec p res) := by cases p <;> rfl

/-- The range check of one word (R67, R473). -/
theorem writeOk_word (d : Dev) {kind a : Nat} (hk : kind ≤ 2) (ha : a < 0x10000) (h4 : a % 4 = 0) :
    writeOk d (kind * 0x10000 + a) 1 = hostWritable d kind a := by
  have hacc : accessOk (kind * 0x10000 + a) 1 = true := by
    simp only [accessOk, Bool.and_eq_true, decide_eq_true_eq]
    omega
  have hdiv : (kind * 0x10000 + a) / 0x10000 = kind := by omega
  have hmod : (kind * 0x10000 + a) % 0x10000 = a := by omega
  simp [writeOk, hacc, hdiv, hmod]

theorem wordRow_performed {s : State} {p : Port} {kind a : Nat} (v : Word) (hb : portRefuses p s.dev = false) (hk : kind ≤ 2)
    (ha : a < 0x10000) (h4 : a % 4 = 0) (hw : hostWritable s.dev kind a = true) :
    wordRow s p kind a v false s.dev = wordTold p 0 (portWord p kind a v (wordBegin s p s.dev)) := by
  have hw' : writeOk (wordBegin s p s.dev) (kind * 0x10000 + a) 1 = true := by
    rw [writeOk_word _ hk ha h4]
    cases p <;> exact hw
  unfold wordRow
  dsimp only
  rw [if_neg (by simp [hb]), if_neg (by simp [hw']; omega), if_neg (by decide)]

theorem wordRow_lost {s : State} {p : Port} {kind a : Nat} (v : Word) (hb : portRefuses p s.dev = false) (hk : kind ≤ 2)
    (ha : a < 0x10000) (h4 : a % 4 = 0) (hw : hostWritable s.dev kind a = true) :
    wordRow s p kind a v true s.dev = countCollision p (wordTold p Res.collision (wordBegin s p s.dev)) := by
  have hw' : writeOk (wordBegin s p s.dev) (kind * 0x10000 + a) 1 = true := by
    rw [writeOk_word _ hk ha h4]
    cases p <;> exact hw
  unfold wordRow
  dsimp only
  rw [if_neg (by simp [hb]), if_neg (by simp [hw']; omega), if_pos rfl]

theorem wordRow_range {s : State} {p : Port} {kind a : Nat} (v : Word) (lost : Bool) (hb : portRefuses p s.dev = false)
    (hw : writeOk s.dev (kind * 0x10000 + a) 1 = false) :
    wordRow s p kind a v lost s.dev = wordTold p Res.badParam (wordBegin s p s.dev) := by
  have hw' : writeOk (wordBegin s p s.dev) (kind * 0x10000 + a) 1 = false := by cases p <;> exact hw
  unfold wordRow
  dsimp only
  rw [if_neg (by simp [hb]), if_pos (by simp [hw'])]

/-! Words that are written as masks (R76, R99). -/

theorem hostWritable_alias {d : Dev} {kind a : Nat} (hk : kind ≠ 0) (h : hostWritable d kind a = true) :
    a = 0x100 ∨ a = 0x108 ∨ a = 0x10C ∨ a = 0x204 ∨ 0x1000 ≤ a := by
  unfold hostWritable at h
  split at h
  · omega
  · split at h
    · simp [hk] at h
    · split at h
      · omega
      · split at h
        · omega
        · split at h
          · omega
          · cases h

theorem hostWritable_noAlias (d : Dev) {kind a : Nat} (hk : kind ≠ 0) (h : a = 0x200 ∨ (0x140 ≤ a ∧ a < 0x180)) :
    hostWritable d kind a = false := by
  unfold hostWritable
  rw [if_neg (by omega), if_pos (by omega)]
  exact decide_eq_false hk

theorem setWidth_eq_mask (x : Word) {w : Nat} (hw : w ≤ 32) :
    (x.setWidth w).setWidth 32 = x &&& BitVec.ofNat 32 (2 ^ w - 1) := by
  have hp : 2 ^ w ≤ 2 ^ 32 := Nat.pow_le_pow_right (by decide) hw
  have hpos : 0 < 2 ^ w := Nat.two_pow_pos w
  apply BitVec.eq_of_toNat_eq
  rw [BitVec.toNat_setWidth, BitVec.toNat_setWidth, BitVec.toNat_and, BitVec.toNat_ofNat,
    Nat.mod_eq_of_lt (show 2 ^ w - 1 < 2 ^ 32 by omega), Nat.and_two_pow_sub_one_eq_mod,
    Nat.mod_eq_of_lt ((Nat.mod_lt _ hpos).trans_le hp)]

theorem wordBits_ram {a : Nat} (h : 0x1000 ≤ a) : wordBits a = BitVec.allOnes 32 := by
  unfold wordBits
  rw [if_neg (by omega), if_neg (by omega)]
  rfl

theorem wordFixed_ram {a : Nat} (h : 0x1000 ≤ a) : wordFixed a = 0#32 := if_neg (by omega)

/-- A word of the window that stands outside the slots and the interrupt status reads as written, in the bits that it has,
and no other byte of the RAM changes. -/
theorem portWord_reads (p : Port) (kind : Nat) (v : Word) {d : Dev} {a : Nat} (hs : d.win.RamSound)
    (ha : a = 0x100 ∨ a = 0x108 ∨ a = 0x10C ∨ a = 0x204 ∨ 0x1000 ≤ a) :
    readWord (portWord p kind a v d) a = (writtenWord kind (readWord d a) v &&& wordBits a) ||| wordFixed a ∧
      (∀ b, b < a ∨ a + 4 ≤ b → Mem.read (portWord p kind a v d).win.mem b = Mem.read d.win.mem b) ∧
      DevOnly [.win] d (portWord p kind a v d) := by
  obtain rfl | rfl | rfl | rfl | hram := ha
  · refine ⟨?_, fun _ _ => rfl, DevOnly.win d _⟩
    show ((writtenWord kind (readWord d 0x100) v).setWidth 16).setWidth 32 = _
    rw [setWidth_eq_mask _ (by decide)]
    exact (BitVec.or_zero ..).symm
  · refine ⟨?_, fun _ _ => rfl, DevOnly.win d _⟩
    show writtenWord kind (readWord d 0x108) v = (_ &&& 0xFFFFFFFF#32) ||| 0#32
    rw [BitVec.or_zero, show (0xFFFFFFFF#32 : Word) = BitVec.allOnes 32 from rfl, BitVec.and_allOnes]
  · refine ⟨?_, fun _ _ => rfl, DevOnly.win d _⟩
    show BitVec.ofNat 32 ((writtenWord kind (readWord d 0x10C) v).toNat % 2 ^ 16 % 2 ^ 16) = _
    rw [Nat.mod_mod, ← BitVec.toNat_setWidth, BitVec.ofNat_toNat, setWidth_eq_mask _ (by decide)]
    exact (BitVec.or_zero ..).symm
  · refine ⟨?_, fun _ _ => rfl, DevOnly.win d _⟩
    show ((writtenWord kind (readWord d 0x204) v).setWidth 9 ||| 0x88#9).setWidth 32 = _
    rw [BitVec.setWidth_or, setWidth_eq_mask _ (by decide)]
    rfl
  · rw [portWord_ram p kind v d hram, wordBits_ram hram, wordFixed_ram hram, BitVec.and_allOnes, BitVec.or_zero]
    refine ⟨?_, fun b hb => Mem.read_writeBytes_out _ _ _ _ hs (by rwa [leBytes_length]), DevOnly.win d _⟩
    rw [readWord_ram _ hram]
    have hread := Mem.readBytes_writeBytes (leBytes 4 (writtenWord kind (readWord d a) v).toNat) d.win.mem a hs
    rw [leBytes_length] at hread
    exact (congrArg (fun bs => BitVec.ofNat 32 (leNat bs)) hread).trans (ofNat_leNat_leBytes _)

/-- What a write of one such word leaves. -/
theorem wordRow_reads {s : State} {p : Port} {kind a : Nat} (v : Word) (hb : portRefuses p s.dev = false) (hk : kind ≤ 2)
    (ha : a < 0x10000) (h4 : a % 4 = 0) (hw : hostWritable s.dev kind a = true) (hs : s.dev.win.RamSound)
    (hplace : a = 0x100 ∨ a = 0x108 ∨ a = 0x10C ∨ a = 0x204 ∨ 0x1000 ≤ a) :
    readWord (wordRow s p kind a v false s.dev) a =
        (writtenWord kind (readWord s.dev a) v &&& wordBits a) ||| wordFixed a ∧
      (∀ b, b < a ∨ a + 4 ≤ b → Mem.read (wordRow s p kind a v false s.dev).win.mem b = Mem.read s.dev.win.mem b) ∧
      DevOnly [.win] s.dev (wordRow s p kind a v false s.dev) := by
  have hs' : (wordBegin s p s.dev).win.RamSound := by
    rw [wordBegin_eq, Win.RamSound, Dev.onPort_mem]
    exact hs
  obtain ⟨hread, hmem, honly⟩ := portWord_reads p kind v hs' hplace
  rw [wordRow_performed v hb hk ha h4 hw, wordTold_eq, readWord_onPort, Dev.onPort_mem]
  rw [wordBegin_eq] at hread hmem honly ⊢
  rw [readWord_onPort] at hread
  rw [Dev.onPort_mem] at hmem
  exact ⟨hread, hmem, ((Dev.onPort_only p _ _).trans honly).trans (Dev.onPort_only p _ _)⟩

/-- A write that loses the memory cycle changes the port's record and the count of collisions alone (R77). -/
theorem wordRow_collides {s : State} {p : Port} {kind a : Nat} (v : Word) (hb : portRefuses p s.dev = false) (hk : kind ≤ 2)
    (ha : a < 0x10000) (h4 : a % 4 = 0) (hw : hostWritable s.dev kind a = true) :
    readWord (wordRow s p kind a v true s.dev) a = readWord s.dev a ∧
      (wordRow s p kind a v true s.dev).win.mem = s.dev.win.mem ∧
      TellsCollision p s (s.onDev (wordRow s p kind a v true)) ∧ OnlyChanges [.win] s (s.onDev (wordRow s p kind a v true)) := by
  have hcount (d : Dev) : readWord (countCollision p d) a = readWord d a ∧ (countCollision p d).win.mem = d.win.mem := by
    cases p <;> exact ⟨rfl, rfl⟩
  refine ⟨?_, ?_, ?_⟩
  · rw [wordRow_lost v hb hk ha h4 hw, (hcount _).1, wordTold_eq, wordBegin_eq, readWord_onPort, readWord_onPort]
  · rw [wordRow_lost v hb hk ha h4 hw, (hcount _).2, wordTold_eq, wordBegin_eq, Dev.onPort_mem, Dev.onPort_mem]
  · rw [State.onDev, wordRow_lost v hb hk ha h4 hw]
    cases p
    · exact ⟨⟨rfl, rfl⟩, OnlyChanges.win s _⟩
    · exact ⟨⟨rfl, rfl⟩, OnlyChanges.win s _⟩

/-- The interrupt status and the slot states are not written as masks (R76). -/
theorem wordRow_noAlias {s : State} {p : Port} {kind a : Nat} (v : Word) (lost : Bool) (hb : portRefuses p s.dev = false)
    (hk : kind ≠ 0) (ha : a = 0x200 ∨ (0x140 ≤ a ∧ a < 0x180)) :
    PortsOnly s (s.onDev (wordRow s p kind a v lost)) ∧ TellsRange p (s.onDev (wordRow s p kind a v lost)) := by
  have hw : writeOk s.dev (kind * 0x10000 + a) 1 = false := by
    have hdiv : (kind * 0x10000 + a) / 0x10000 = kind := by omega
    have hmod : (kind * 0x10000 + a) % 0x10000 = a := by omega
    simp [writeOk, hdiv, hmod, hostWritable_noAlias s.dev hk ha]
  rw [State.onDev, wordRow_range v lost hb hw]
  cases p
  · exact ⟨⟨rfl, OnlyChanges.win s _⟩, rfl⟩
  · exact ⟨⟨rfl, OnlyChanges.win s _⟩, rfl⟩

/-! Words with a behaviour of their own (R81, R82, R95, R99, R101). -/

/-- A port rings bits of the doorbell: of a slot nothing changes but the port that rang it (R81). -/
theorem ringPorts_keeps (p : Port) (old new : BitVec 16) (slots : List Slot) :
    (ringPorts p old new slots).map (fun x => (x.st, x.huart, x.seq, x.foundAt)) =
      slots.map fun x => (x.st, x.huart, x.seq, x.foundAt) := by
  have hone (x : Slot × Nat) : ((fun x : Slot => (x.st, x.huart, x.seq, x.foundAt)) ∘ fun x : Slot × Nat =>
      if new.getLsbD x.2 && !old.getLsbD x.2 then { x.1 with rungBy := decide (p = .huart) } else x.1) x =
      ((fun x : Slot => (x.st, x.huart, x.seq, x.foundAt)) ∘ Prod.fst) x := by
    dsimp only [Function.comp]
    split <;> rfl
  rw [ringPorts, List.map_map, funext hone, ← List.map_map, List.zipIdx_map_fst]

/-- The doorbell gains the bits of the mask (R82). -/
theorem portWord_doorbell (p : Port) (v : Word) (d : Dev) : portWord p 1 0x100 v d = { d with win := { d.win with
    slots := ringPorts p d.win.doorbell (d.win.doorbell ||| v.setWidth 16) d.win.slots
    doorbell := d.win.doorbell ||| v.setWidth 16 } } := by
  have hbits : (readWord d 0x100 ||| v).setWidth 16 = d.win.doorbell ||| v.setWidth 16 := by
    show (d.win.doorbell.setWidth 32 ||| v).setWidth 16 = _
    rw [BitVec.setWidth_or, BitVec.setWidth_setWidth_of_le _ (by decide), BitVec.setWidth_eq]
  unfold portWord
  dsimp only
  rw [if_pos rfl, if_pos rfl, hbits]

/-- A write of one word that is not refused and not out of range takes its effect on the word. -/
theorem wordWritten_of_portWord {s : State} {p : Port} {kind a : Nat} {v : Word} {w : Win} (hb : portRefuses p s.dev = false)
    (hk : kind ≤ 2) (ha : a < 0x10000) (h4 : a % 4 = 0) (hw : hostWritable s.dev kind a = true)
    (h : portWord p kind a v (wordBegin s p s.dev) =
      { s.dev with win := { w with hspi := (wordBegin s p s.dev).win.hspi, huart := (wordBegin s p s.dev).win.huart } }) :
    WordWritten w s (s.onDev (wordRow s p kind a v false)) := by
  rw [State.onDev, wordRow_performed v hb hk ha h4 hw, h]
  cases p
  · exact ⟨rfl, OnlyChanges.win s _⟩
  · exact ⟨rfl, OnlyChanges.win s _⟩

theorem slotWrite_fills {k : Nat} {v : Word} {d : Dev} {x : Slot} (hx : d.win.slots[k]? = some x) (hf : x.st = .free)
    (hv : v.toNat % 4 = 1) (hq : v.toNat / 65536 ≠ x.seq) : slotWrite k v d = { d with win := { d.win with
      slots := d.win.slots.set k { x with st := .filled, seq := v.toNat / 65536 } } } := by
  have hn : nth {} d.win.slots k = x := by rw [nth, hx]; rfl
  unfold slotWrite
  dsimp only
  rw [hn, if_pos ⟨hf, hv, hq⟩]

theorem slotWrite_frees {k : Nat} {v : Word} {d : Dev} {x : Slot} (hx : d.win.slots[k]? = some x) (hf : x.st = .done)
    (hv : v.toNat % 4 = 0) : slotWrite k v d = { d with win := { d.win with
      slots := d.win.slots.set k { x with st := .free }, doneWord := d.win.doneWord &&& ~~~ (1#16 <<< k) } } := by
  have hn : nth {} d.win.slots k = x := by rw [nth, hx]; rfl
  unfold slotWrite
  dsimp only
  rw [hn, if_neg (by simp [hf]), if_pos ⟨hf, hv⟩]

theorem slotWrite_refuses {k : Nat} {v : Word} {d : Dev} {x : Slot} (hx : d.win.slots[k]? = some x)
    (h : x.st = .filled ∨ x.st = .taken ∨ (x.st = .free ∧ (v.toNat % 4 ≠ 1 ∨ v.toNat / 65536 = x.seq)) ∨
      (x.st = .done ∧ v.toNat % 4 ≠ 0)) : slotWrite k v d = slotError k d := by
  have hn : nth {} d.win.slots k = x := by rw [nth, hx]; rfl
  unfold slotWrite
  dsimp only
  rw [hn, if_neg ?fill, if_neg ?free]
  case fill =>
    rintro ⟨hf, hv, hq⟩
    rcases h with h | h | ⟨-, h⟩ | ⟨h, -⟩
    · exact absurd (hf.symm.trans h) (by decide)
    · exact absurd (hf.symm.trans h) (by decide)
    · exact h.elim (· hv) hq
    · exact absurd (hf.symm.trans h) (by decide)
  case free =>
    rintro ⟨hf, hv⟩
    rcases h with h | h | ⟨h, -⟩ | ⟨-, h⟩
    · exact absurd (hf.symm.trans h) (by decide)
    · exact absurd (hf.symm.trans h) (by decide)
    · exact absurd (hf.symm.trans h) (by decide)
    · exact h hv

/-- A write of a slot's state is a write of the slot (R82). -/
theorem portWord_slot (p : Port) {k : Nat} (hk : k < 16) (v : Word) (d : Dev) :
    portWord p 0 (0x140 + 4 * k) v d = slotWrite k v d := by
  have hplace : (0x140 + 4 * k - 0x140) / 4 = k := by omega
  unfold portWord
  dsimp only
  rw [if_neg (by omega), if_neg (by omega), if_neg (by omega), if_pos (by omega), hplace]
  rfl

theorem slotState_writable {k : Nat} (hk : k < 16) (d : Dev) : hostWritable d 0 (0x140 + 4 * k) = true := by
  unfold hostWritable
  rw [if_neg (by omega), if_pos (by omega)]
  rfl

end Sys2Proof.Machine

open Sys2Proof Sys2Proof.Machine

/-- Settles O22: a mask write by its outcome, performed, lost or out of range; reads as in O21. -/
theorem aliasWrites : Obligations.AliasWrites := by
  unfold Obligations.AliasWrites
  refine ⟨?set, ?clear, ?refused, ?read⟩
  case set =>
    rintro p a mask s ⟨hp, hb⟩ hs ha h4 hw
    obtain ⟨hread, hmem, honly⟩ := wordRow_reads mask hb (kind := 1) (by decide) ha h4 hw hs (hostWritable_alias (by decide) hw)
    exact ⟨.of_port rfl hp ⟨hread, hmem, .onDev honly⟩, .of_port rfl hp (wordRow_collides mask hb (by decide) ha h4 hw)⟩
  case clear =>
    rintro p a mask s ⟨hp, hb⟩ hs ha h4 hw
    obtain ⟨hread, hmem, honly⟩ := wordRow_reads mask hb (kind := 2) (by decide) ha h4 hw hs (hostWritable_alias (by decide) hw)
    exact ⟨.of_port rfl hp ⟨hread, hmem, .onDev honly⟩, .of_port rfl hp (wordRow_collides mask hb (by decide) ha h4 hw)⟩
  case refused =>
    rintro p a mask lost s ⟨hp, hb⟩ ha
    exact ⟨.of_port rfl hp (wordRow_noAlias mask lost hb (by decide) ha),
      .of_port rfl hp (wordRow_noAlias mask lost hb (by decide) ha)⟩
  case read =>
    rintro addr words s ⟨hp, hb⟩
    refine ⟨fun ha => .of_port rfl hp ?_, fun ha => .of_port rfl hp ?_⟩
    · rw [State.onDev, hspiReadEff_answers _ hb ha]
      show (readWords s.dev (addr.toNat % 0x10000) words ++ _).take (4 * words) = _
      rw [List.take_left' (readWords_length ..)]
    · have hout : accessOk addr.toNat words = false := by simp [accessOk]; omega
      rw [State.onDev, hspiReadEff_range _ hb hout]
      exact ⟨rfl, rfl⟩

/-- Settles O24: each word by its place in the window, a slot's state by the state that it had. -/
theorem windowWordRows : Obligations.WindowWordRows := by
  unfold Obligations.WindowWordRows
  rintro p v s ⟨hp, hb⟩
  refine ⟨?doorbell, fun k x hk hx => ⟨fun hf hv hq => ?fill, fun hf hv => ?free, fun h => ?error⟩, ?status, ?enable, ?heart,
    ?index, fun a hlo hhi h4 hw hs => ?ram⟩
  case doorbell =>
    have hrow := wordRow_performed v hb (kind := 1) (a := 0x100) (by decide) (by decide) (by decide) rfl
    rw [portWord_doorbell] at hrow
    refine .of_port rfl hp ?_
    rw [State.onDev, hrow]
    cases p
    · exact ⟨⟨rfl, OnlyChanges.win s _⟩, ringPorts_keeps ..⟩
    · exact ⟨⟨rfl, OnlyChanges.win s _⟩, ringPorts_keeps ..⟩
  case fill =>
    refine .of_when (b := fun _ => portServes p s && decide (k < 16)) rfl (by simp [hp, hk]) ?_
    refine wordWritten_of_portWord hb (by decide) (by omega) (by omega) (slotState_writable hk _) ?_
    rw [portWord_slot p hk, slotWrite_fills (x := x) (by cases p <;> exact hx) hf hv hq]
    cases p <;> rfl
  case free =>
    refine .of_when (b := fun _ => portServes p s && decide (k < 16)) rfl (by simp [hp, hk]) ?_
    refine wordWritten_of_portWord hb (by decide) (by omega) (by omega) (slotState_writable hk _) ?_
    rw [portWord_slot p hk, slotWrite_frees (x := x) (by cases p <;> exact hx) hf hv]
    cases p <;> rfl
  case error =>
    refine .of_when (b := fun _ => portServes p s && decide (k < 16)) rfl (by simp [hp, hk]) ?_
    rw [State.onDev, wordRow_performed v hb (by decide) (by omega) (by omega) (slotState_writable hk _), portWord_slot p hk,
      slotWrite_refuses (x := x) (by cases p <;> exact hx) h]
    cases p
    · exact ⟨rfl, rfl, .dev (by simp [devOnly_iff, slotError, wordTold, wordBegin, hspiBegin])⟩
    · exact ⟨rfl, rfl, .dev (by simp [devOnly_iff, slotError, wordTold, wordBegin])⟩
  case status =>
    exact .of_port rfl hp (wordWritten_of_portWord hb (by decide) (by decide) (by decide) rfl (by cases p <;> rfl))
  case enable =>
    exact .of_port rfl hp (wordWritten_of_portWord hb (by decide) (by decide) (by decide) rfl (by cases p <;> rfl))
  case heart =>
    exact .of_port rfl hp (wordWritten_of_portWord hb (by decide) (by decide) (by decide) rfl (by cases p <;> rfl))
  case index =>
    exact .of_port rfl hp (wordWritten_of_portWord hb (by decide) (by decide) (by decide) rfl (by cases p <;> rfl))
  case ram =>
    have hread := (wordRow_reads v hb (kind := 0) (by decide) hhi h4 hw hs (by omega)).1
    have hbits : (v &&& wordBits a) ||| wordFixed a = v := by
      rw [wordBits_ram hlo, wordFixed_ram hlo, BitVec.and_allOnes, BitVec.or_zero]
    refine .of_port rfl hp ⟨?_, hread.trans hbits⟩
    rw [State.onDev, wordRow_performed v hb (by decide) hhi h4 hw, portWord_ram p 0 v _ hlo]
    cases p
    · exact ramWritten_of_mem hs rfl rfl rfl (OnlyChanges.win s _)
    · exact ramWritten_of_mem hs rfl rfl rfl (OnlyChanges.win s _)

end

section
/-!
PROOF. Frames on HUART (R72, R73, R451): what each outcome leaves of the window.
-/

namespace Sys2Proof.Machine

/-- A write frame brings as many bytes as its LEN says, whole words (R72). -/
theorem uartFrame_write {raw : List Byte} {f : UFrame} (h : uartFrame raw = some f) (ht : f.type = 2) :
    f.data.length = f.len ∧ f.len % 4 = 0 := by
  unfold uartFrame at h
  split at h
  · cases h
  · dsimp only at h
    split at h
    · cases h
    · split at h
      · cases h
      · rename_i hlen
        split at h
        · rename_i hform
          obtain rfl := Option.some.inj h
          exact ⟨(hform.resolve_left fun k => absurd (k.1.symm.trans ht) (by decide)).2,
            Decidable.not_not.1 fun k => hlen (.inl k)⟩
        · cases h

/-- A frame on HUART is counted as a transaction (R464). -/
def uartCounted (d : Dev) : Dev := d.onPort .huart fun r => { r with count := r.count + 1 }

theorem uartEff_read {raw : List Byte} {f : UFrame} (lost : List Nat) {d : Dev} (hf : uartFrame raw = some f)
    (hb : portRefuses .huart d = false) (ht : f.type = 1) : uartEff raw lost d = uartRead f (uartCounted d) := by
  simp only [uartEff, hf, hb, ht, if_true, Bool.false_eq_true, if_false]
  rfl

theorem uartEff_write {raw : List Byte} {f : UFrame} (lost : List Nat) {d : Dev} (hf : uartFrame raw = some f)
    (hb : portRefuses .huart d = false) (ht : f.type = 2) : uartEff raw lost d = uartWrite f lost (uartCounted d) := by
  have hn : f.type ≠ 1 := by omega
  simp only [uartEff, hf, hb, hn, Bool.false_eq_true, if_false]
  rfl

theorem uartEff_none {raw : List Byte} (lost : List Nat) {d : Dev} (hf : uartFrame raw = none) :
    uartEff raw lost d = uartBad d := by
  simp only [uartEff, hf]

/-- A write that repeats the SEQ of the last one is acknowledged again (R73). -/
theorem uartWrite_repeats {f : UFrame} (lost : List Nat) {res : Nat} {d : Dev} (h : d.win.huart.lastSeq = some (f.seq, res)) :
    uartWrite f lost d = uartAnswer f res [] d := by
  simp [uartWrite, h]

theorem uartWrite_new {f : UFrame} (lost : List Nat) {d : Dev} (h : ∀ res, d.win.huart.lastSeq ≠ some (f.seq, res)) :
    uartWrite f lost d = uartWrite.uartWriteNew f lost d := by
  unfold uartWrite
  split
  · rename_i q res hq
    rw [if_neg fun e => h res (by rw [hq, e])]
  · rfl

/-- A new write into the RAM that loses no word (R73). -/
theorem uartWriteNew_ram {f : UFrame} {d : Dev} (hlen : f.data.length = f.len) (h4 : f.len % 4 = 0) (hlo : 0x1000 ≤ f.addr)
    (hhi : f.addr < 0x10000) (hw : writeOk d f.addr (f.len / 4) = true) :
    uartWrite.uartWriteNew f [] d =
      (uartAnswer f 0 [] { d with win := { d.win with mem := Mem.writeBytes d.win.mem f.addr f.data } }).onPort .huart
        fun r => { r with lastSeq := some (f.seq, 0) } := by
  unfold uartWrite.uartWriteNew
  dsimp only
  rw [if_neg (by simp [hw]), Nat.div_eq_of_lt hhi, Nat.mod_eq_of_lt hhi,
    portWords_ram .huart hlo (f.len / 4) 0 f.data (by omega)]
  rfl

theorem uartWriteNew_range {f : UFrame} (lost : List Nat) {d : Dev} (hw : writeOk d f.addr (f.len / 4) = false) :
    uartWrite.uartWriteNew f lost d = uartAnswer f Res.badParam [] d := by
  unfold uartWrite.uartWriteNew
  rw [if_pos (by simp [hw])]

theorem uartBad_discards (s : State) : FrameDiscarded s (s.onDev uartBad) := ⟨rfl, rfl, rfl, OnlyChanges.win s _⟩

end Sys2Proof.Machine

open Sys2Proof Sys2Proof.Machine

/-- Settles O23: a frame by its form, its type, its SEQ and its range. -/
theorem huartTransfers : Obligations.HuartTransfers := by
  unfold Obligations.HuartTransfers
  refine ⟨?read, ?write, fun raw f s hopen hf => ⟨fun ht ha => ?readRange, fun lost ht hw hseq => ?writeRange⟩,
    ?again, ?bad, ?gap⟩
  case read =>
    rintro raw f s ⟨hp, hb⟩ hf ht ha
    refine .of_port (p := .huart) rfl hp ?_
    rw [State.onDev, uartEff_read [] hf hb ht, uartRead, if_pos ha]
    exact ⟨rfl, rfl, rfl, OnlyChanges.win s _⟩
  case write =>
    rintro raw f s ⟨hp, hb⟩ hf ht hs hlo hhi hw hseq
    obtain ⟨hlen, h4⟩ := uartFrame_write hf ht
    refine .of_port (p := .huart) rfl hp ?_
    rw [State.onDev, uartEff_write [] hf hb ht, uartWrite_new (d := uartCounted s.dev) [] hseq,
      uartWriteNew_ram (d := uartCounted s.dev) hlen h4 hlo hhi hw]
    exact ⟨ramWritten_of_mem hs rfl rfl rfl (OnlyChanges.win s _), rfl, rfl⟩
  case readRange =>
    obtain ⟨hp, hb⟩ := hopen
    refine .of_port (p := .huart) rfl hp ?_
    rw [State.onDev, uartEff_read [] hf hb ht, uartRead, if_neg (by simp [ha])]
    exact ⟨⟨rfl, OnlyChanges.win s _⟩, rfl⟩
  case writeRange =>
    obtain ⟨hp, hb⟩ := hopen
    refine .of_port (p := .huart) rfl hp ?_
    rw [State.onDev, uartEff_write lost hf hb ht, uartWrite_new (d := uartCounted s.dev) lost hseq,
      uartWriteNew_range (d := uartCounted s.dev) lost hw]
    exact ⟨⟨rfl, OnlyChanges.win s _⟩, rfl, rfl⟩
  case again =>
    rintro raw f res lost s ⟨hp, hb⟩ hf ht hseq
    refine .of_port (p := .huart) rfl hp ?_
    rw [State.onDev, uartEff_write lost hf hb ht, uartWrite_repeats (d := uartCounted s.dev) lost hseq]
    exact ⟨rfl, rfl, OnlyChanges.win s _⟩
  case bad =>
    intro raw s hp hf
    refine .of_port (p := .huart) rfl hp ?_
    rw [State.onDev, uartEff_none [] hf]
    exact uartBad_discards s
  case gap => exact fun s hp => .of_port (p := .huart) rfl hp (uartBad_discards s)

end

section
/-!
SUPPORT. What a row of the command set leaves once its handler has answered (R80, R83, R88, R108).
-/

namespace Sys2Proof.Machine

/-- What a command leaves: the handler's effect, and the reply, the durable ring and the time of the login over it. -/
def answered (code tag : Nat) (own : Owner) (result job : Nat) (p : List Byte) (s : State) (d : Dev) : Dev :=
  touchLogin own result s.clk.frame
    (recordDurable code tag result s.clk.frame (setReply code tag result s.clk.frame job p d))

theorem answered_reply (code tag : Nat) (own : Owner) (result job : Nat) (p : List Byte) (s : State) (d : Dev) :
    (answered code tag own result job p s d).acs.reply = ⟨code, tag, result, p.take 1000, job, s.clk.frame⟩ := by
  rw [answered, touchLogin_acs, recordDurable_reply, setReply]

/-- Over the handler's effect only the reply and the durable ring change in the command set's state. -/
theorem answered_acs (code tag : Nat) (own : Owner) (result job : Nat) (p : List Byte) (s : State) (d : Dev) :
    (answered code tag own result job p s d).acs = { d.acs with
      reply := (answered code tag own result job p s d).acs.reply
      durable := (answered code tag own result job p s d).acs.durable } := by
  rw [answered, touchLogin_acs, recordDurable_acs, setReply]

theorem answered_pow (code tag : Nat) (own : Owner) (result job : Nat) (p : List Byte) (s : State) (d : Dev) :
    (answered code tag own result job p s d).pow =
      { d.pow with login := (answered code tag own result job p s d).pow.login } := by
  rw [answered, touchLogin_pow, recordDurable_pow, setReply]

theorem answered_only (code tag : Nat) (own : Owner) (result job : Nat) (p : List Byte) (s : State) (d : Dev) :
    DevOnly [.acs, .pow] d (answered code tag own result job p s d) := by
  have hreply := setReply_only code tag result s.clk.frame job p d
  have hdurable := recordDurable_only code tag result s.clk.frame (setReply code tag result s.clk.frame job p d)
  have hlogin := touchLogin_only own result s.clk.frame
    (recordDurable code tag result s.clk.frame (setReply code tag result s.clk.frame job p d))
  exact ((hreply.trans hdurable).mono (by decide)).trans (hlogin.mono (by decide))

/-- An open request whose handler accepts leaves the handler's effect, answered OK. -/
theorem exec_yes {c : Instr} {code tag : Nat} {own : Owner} {args p : List Byte} {h : Handler} {s : State} {d : Dev}
    (hc : exec c s = acsRow code own tag args h s) (ho : AcsOpen code own args s) (hh : h s own args = .yes p d) :
    exec c s = .next { s with dev := answered code tag own Res.ok 0 p s d } := by
  obtain ⟨hserves, hcheck⟩ := ho
  rw [hc, acsRow, if_pos hserves, acsRun, hcheck, hh]
  rfl

end Sys2Proof.Machine

end

section
/-!
PROOF. The bulk window against an object shorter than its transfer (R98, R424).
-/

namespace Sys2Proof.Machine

/-- A staging whose object is four bytes long, while its transfer through the bulk window is eight. -/
def stagedShort : State :=
  { State.reset with
    clk := { State.reset.clk with running := true }
    dev := { State.reset.dev with
      lanes := { State.reset.dev.lanes with token := some .a }
      acs := { State.reset.dev.acs with
        jobs := [{ id := 1, st := 1, owner := 1, progress := 0, result := 0, kind := .staging, arg := 0 }]
        bulk := some ⟨.image, 1, 0, false, 8, []⟩ }
      upd := { State.reset.dev.upd with st := 1, source := 2, stagedLen := 4 } } }

/-- The first chunk of four bytes, all zero. -/
def zeroChunk : List Byte := leBytes 2 0 ++ leBytes 2 4 ++ leBytes 4 (crc32 (List.replicate 4 0)).toNat

/-- The command is accepted and leaves the bulk window free. -/
def Act.freesBulk : Act → Bool
  | .yes _ d => d.acs.bulk.isNone
  | _ => false

theorem Act.freesBulk_iff (a : Act) : a.freesBulk = true ↔ ∃ p d, a = .yes p d ∧ d.acs.bulk = none := by
  cases a <;> simp [Act.freesBulk]

/-- The chunk completes the object and with it frees the window. -/
theorem zeroChunk_frees : (hBulkChunk stagedShort .host zeroChunk).freesBulk = true := by decide +kernel

theorem zeroChunk_open : AcsOpen Cmd.BULK_CHUNK .host zeroChunk stagedShort := by
  unfold AcsOpen
  decide +kernel

end Sys2Proof.Machine

open Sys2Proof Sys2Proof.Machine

/-- Refutes O28: the staged object is complete after four bytes of a transfer of eight. The chunk that completes it ends the
staging job, which frees the bulk window, where the statement has the window wait for the chunk after. -/
theorem not_windowCommands : ¬ Obligations.WindowCommands := by
  intro h
  obtain ⟨-, -, -, -, -, -, -, hchunk⟩ := h .host 0 zeroChunk stagedShort
  obtain ⟨t, ht, -, -, himage, -⟩ := hchunk ⟨.image, 1, 0, false, 8, []⟩ (List.replicate 4 0) false zeroChunk_open rfl rfl
    (.inr rfl) rfl (by decide) (by decide) (by decide) rfl rfl (by decide +kernel)
  obtain ⟨p, d, hyes, hnone⟩ := (Act.freesBulk_iff _).1 zeroChunk_frees
  rw [exec_yes rfl zeroChunk_open hyes] at ht
  obtain rfl := Host.Outcome.next.inj ht
  obtain ⟨-, -, hbulk, -⟩ := himage rfl
  rw [answered_acs, hnone] at hbulk
  cases hbulk

end

section
/-!
PROOF. What refuses a request, and what a refusal leaves (R83, R84, R88, R106, R108): the handlers that refuse without an
effect, and the four whose refusal has one (R48, R305, R404, R461).
-/

namespace Sys2Proof.Machine

/-! A handler's answer, and what the row leaves of it. -/

theorem acsRun_refused {code : Nat} {own : Owner} {args : List Byte} {s : State} {r : Nat} {p : List Byte} (tag : Nat)
    (h : Handler) (hc : acsCheck code own args s = some (r, p)) :
    acsRun code own tag args h s = { s with dev := answered code tag own r 0 p s s.dev } := by
  rw [acsRun, hc]
  rfl

theorem acsRun_no {code : Nat} {own : Owner} {args p : List Byte} {h : Handler} {s : State} {r : Nat} (tag : Nat)
    (hc : acsCheck code own args s = none) (hh : h s own args = .no r p) :
    acsRun code own tag args h s = { s with dev := answered code tag own r 0 p s s.dev } := by
  rw [acsRun, hc, hh]
  rfl

theorem acsRun_noWith {code : Nat} {own : Owner} {args : List Byte} {h : Handler} {s : State} {r : Nat} {d : Dev} (tag : Nat)
    (hc : acsCheck code own args s = none) (hh : h s own args = .noWith r d) :
    acsRun code own tag args h s = { s with dev := answered code tag own r 0 [] s d } := by
  rw [acsRun, hc, hh]
  rfl

theorem acsRun_yes {code : Nat} {own : Owner} {args p : List Byte} {h : Handler} {s : State} {d : Dev} (tag : Nat)
    (hc : acsCheck code own args s = none) (hh : h s own args = .yes p d) :
    acsRun code own tag args h s = { s with dev := answered code tag own Res.ok 0 p s d } := by
  rw [acsRun, hc, hh]
  rfl

theorem acsRun_job {code : Nat} {own : Owner} {args p : List Byte} {h : Handler} {s : State} {d : Dev} {id : Nat} (tag : Nat)
    (hc : acsCheck code own args s = none) (hh : h s own args = .job id p d) :
    acsRun code own tag args h s = { s with dev := answered code tag own Res.job id p s d } := by
  rw [acsRun, hc, hh]
  rfl

/-- A refusal does not touch the login (R48). -/
theorem touchLogin_refused {own : Owner} {r : Nat} (n : Nat) (d : Dev) (hr : 1 < r) : touchLogin own r n d = d := by
  unfold touchLogin
  cases d.pow.login with
  | none => rfl
  | some l => exact if_neg fun h => absurd h.2 (by omega)

theorem answered_refused {r : Nat} (code tag : Nat) (own : Owner) (job : Nat) (p : List Byte) (s : State) (d : Dev) (hr : 1 < r) :
    answered code tag own r job p s d = recordDurable code tag r s.clk.frame (setReply code tag r s.clk.frame job p d) :=
  touchLogin_refused _ _ hr

theorem answered_refused_only {r : Nat} (code tag : Nat) (own : Owner) (job : Nat) (p : List Byte) (s : State) (d : Dev)
    (hr : 1 < r) : DevOnly [.acs] d (answered code tag own r job p s d) := by
  rw [answered_refused code tag own job p s d hr]
  exact (setReply_only code tag r s.clk.frame job p d).trans (recordDurable_only code tag r s.clk.frame _)

theorem recordDurable_durable (code tag result n : Nat) (d : Dev) : (recordDurable code tag result n d).acs.durable =
    if (cmdRow code).elim false CmdRow.durable then lastN 256 (d.acs.durable ++ [⟨tag, code, result, n⟩])
    else d.acs.durable := by
  by_cases hd : (cmdRow code).elim false CmdRow.durable = true
  · simp only [recordDurable, if_pos hd]
  · simp only [recordDurable, if_neg hd]

/-- What refuses a request before its handler is a code of a refusal (R107, R108). -/
theorem acsCheck_code {code : Nat} {own : Owner} {args : List Byte} {s : State} {r : Nat} {p : List Byte}
    (h : acsCheck code own args s = some (r, p)) : 0x10 ≤ r := by
  have hcodes : r = Res.refusedMode ∨ r = Res.badParam ∨ r = Res.notPermitted := by
    unfold acsCheck at h
    repeat' split at h
    all_goals cases h <;> simp
  obtain rfl | rfl | rfl := hcodes <;> decide

/-! Handlers that refuse without an effect. -/

/-- The answer is no refusal with an effect of its own. -/
structure Act.Clean (a : Act) : Prop where
  ne : ∀ r d, a ≠ .noWith r d

namespace Act.Clean

theorem no (r : Nat) (p : List Byte) : (Act.no r p).Clean := ⟨fun _ _ h => by cases h⟩

theorem yes (p : List Byte) (d : Dev) : (Act.yes p d).Clean := ⟨fun _ _ h => by cases h⟩

theorem job (id : Nat) (p : List Byte) (d : Dev) : (Act.job id p d).Clean := ⟨fun _ _ h => by cases h⟩

theorem ite {c : Prop} [Decidable c] {a b : Act} (ha : a.Clean) (hb : b.Clean) : (if c then a else b).Clean := by
  split <;> assumption

theorem startFor (kind : JobKind) (own : Owner) (arg : Nat) (p : List Byte) (d : Dev) :
    (Machine.startFor kind own arg p d).Clean := .ite (.job ..) (.no ..)

theorem bulkRead (use : BulkUse) (own : Owner) (data : List Byte) (s : State) : (Machine.bulkRead use own data s).Clean :=
  .ite (.yes ..) (.ite (.no ..) (.yes ..))

end Act.Clean

/-- A handler that refuses without an effect. -/
def Handler.Clean (h : Handler) : Prop := ∀ s own args, (h s own args).Clean

theorem hIdentify_clean : hIdentify.Clean := fun _ _ _ => .yes ..

theorem hModeRequest_clean : hModeRequest.Clean := by
  intro s own args
  unfold hModeRequest
  split
  · exact .no ..
  · exact .ite (.no ..) (.ite (.no ..) (.yes ..))

theorem hSafestopClear_clean : hSafestopClear.Clean := fun _ _ _ => .yes ..

theorem hServiceLogout_clean : hServiceLogout.Clean := fun _ _ _ => .yes ..

theorem hStopRequest_clean : hStopRequest.Clean := fun _ _ _ => .yes ..

theorem hParamRead_clean : hParamRead.Clean := fun _ _ _ => .yes ..

theorem hParamWrite_clean : hParamWrite.Clean := by
  intro s own args
  unfold hParamWrite
  dsimp only
  split
  · exact .no ..
  · split
    · exact .no ..
    · exact .yes ..

theorem hParamCommit_clean : hParamCommit.Clean := by
  intro s own args
  unfold hParamCommit
  dsimp only
  split
  · exact .no ..
  · exact .yes ..

theorem hParamDiscard_clean : hParamDiscard.Clean := fun _ _ _ => .yes ..

theorem hParamDescribe_clean : hParamDescribe.Clean := by
  intro s own args
  unfold hParamDescribe
  split
  · exact .no ..
  · exact .yes ..

theorem hParamReadBlock_clean : hParamReadBlock.Clean := by
  intro s own args
  unfold hParamReadBlock
  dsimp only
  split
  · exact .no ..
  · exact .ite (.no ..) (.ite (.no ..) (.yes ..))

theorem hParamWriteBlock_clean : hParamWriteBlock.Clean := by
  intro s own args
  unfold hParamWriteBlock
  dsimp only
  split
  · exact .no ..
  · exact .ite (.no ..) (.ite (.no ..) (.yes ..))
  · exact .no ..

theorem hParamPending_clean : hParamPending.Clean := fun _ _ _ => .yes ..

theorem hParamEnum_clean : hParamEnum.Clean := fun _ _ _ => .ite (.no ..) (.yes ..)

theorem hSnapshotTake_clean (tag : Nat) : (hSnapshotTake tag).Clean := by
  intro s own args
  unfold hSnapshotTake
  dsimp only
  refine .ite (.no ..) ?_
  split
  · exact .no ..
  · exact .yes ..

theorem hSnapshotRelease_clean : hSnapshotRelease.Clean := fun _ _ _ => .ite (.no ..) (.yes ..)

theorem hCmdOutcome_clean : hCmdOutcome.Clean := by
  intro s own args
  unfold hCmdOutcome
  split <;> exact .yes ..

theorem hEventFetch_clean : hEventFetch.Clean := fun _ _ _ => .ite (.no ..) (.yes ..)

theorem hBulkChunk_clean : hBulkChunk.Clean := by
  intro s own args
  unfold hBulkChunk
  dsimp only
  split
  · exact .no ..
  · exact .ite (.no ..) (.ite (.no ..) (.ite (.no ..) (.yes ..)))

theorem hJobList_clean : hJobList.Clean := fun _ _ _ => .yes ..

theorem hJobStatus_clean : hJobStatus.Clean := by
  intro s own args
  unfold hJobStatus
  split
  · exact .yes ..
  · exact .no ..

theorem hJobCancel_clean : hJobCancel.Clean := by
  intro s own args
  unfold hJobCancel
  dsimp only
  split
  · exact .no ..
  · exact .ite (.no ..) (.yes ..)

theorem hClockSet_clean : hClockSet.Clean := fun _ _ _ => .ite (.no ..) (.yes ..)

theorem hSync_clean : hSync.Clean := fun _ _ _ => .ite (.no ..) (.yes ..)

theorem hMetrSealClose_clean : hMetrSealClose.Clean := fun _ _ _ => .yes ..

theorem hRecordRead_clean : hRecordRead.Clean := by
  intro s own args
  unfold hRecordRead
  split
  · exact .no ..
  · exact .bulkRead ..

theorem hSignatureRead_clean : hSignatureRead.Clean := by
  intro s own args
  unfold hSignatureRead
  split
  · exact .no ..
  · exact .ite (.no ..) (.bulkRead ..)

theorem hRegistersRead_clean : hRegistersRead.Clean := by
  intro s own args
  unfold hRegistersRead
  dsimp only
  split
  · exact .no ..
  · exact .yes ..

theorem hMetrLogRead_clean : hMetrLogRead.Clean := fun _ _ _ => .ite (.no ..) (.yes ..)

theorem hCalendarActivate_clean : hCalendarActivate.Clean := fun _ _ _ => .ite (.no ..) (.startFor ..)

theorem hBillingClose_clean : hBillingClose.Clean := fun _ _ _ => .yes ..

theorem hDisplayStep_clean : hDisplayStep.Clean := fun _ _ _ => .yes ..

theorem hRemoteStart_clean : hRemoteStart.Clean := fun _ _ _ => .ite (.no ..) (.ite (.no ..) (.yes ..))

theorem hRemoteStop_clean : hRemoteStop.Clean := fun _ _ _ => .ite (.no ..) (.ite (.yes ..) (.yes ..))

theorem hSafetyCheckRead_clean : hSafetyCheckRead.Clean := fun _ _ _ => .yes ..

theorem hSafetyProofTest_clean : hSafetyProofTest.Clean := fun _ _ _ =>
  .ite (.no ..) (.ite (.yes ..) (.ite (.yes ..) (.yes ..)))

theorem hSwitchSet_clean : hSwitchSet.Clean := fun _ _ _ => .ite (.no ..) (.yes ..)

theorem hLatchClear_clean : hLatchClear.Clean := fun _ _ _ => .ite (.yes ..) (.ite (.yes ..) (.no ..))

theorem hLockDrive_clean : hLockDrive.Clean := fun _ _ _ =>
  .ite (.no ..) (.ite (.no ..) (.ite (.no ..) (.ite (.no ..) (.yes ..))))

theorem hCalicoStagingStatus_clean : hCalicoStagingStatus.Clean := fun _ _ _ => .yes ..

theorem hAuthLoad_clean : hAuthLoad.Clean := fun _ _ _ =>
  .ite (.no ..) (.ite (.no ..) (.ite (.yes ..) (.ite (.yes ..) (.yes ..))))

theorem hAuthSwap_clean : hAuthSwap.Clean := fun _ _ _ => .ite (.no ..) (.ite (.no ..) (.ite (.no ..) (.startFor ..)))

theorem hAuthLookup_clean : hAuthLookup.Clean := fun _ _ _ => .yes ..

theorem hKeyDerive_clean : hKeyDerive.Clean := fun _ _ _ => .ite (.no ..) (.ite (.no ..) (.ite (.no ..) (.startFor ..)))

theorem hAttest_clean : hAttest.Clean := fun _ _ _ => .ite (.no ..) (.startFor ..)

theorem hEnrol_clean : hEnrol.Clean := fun _ _ _ => .ite (.no ..) (.ite (.yes ..) (.yes ..))

theorem hTamperAck_clean : hTamperAck.Clean := fun _ _ _ => .ite (.no ..) (.ite (.no ..) (.yes ..))

theorem hImageStage_clean : hImageStage.Clean := fun _ _ _ => .ite (.no ..) (.ite (.no ..) (.job ..))

theorem hImageVerify_clean : hImageVerify.Clean := fun _ _ _ => .ite (.no ..) (.ite (.no ..) (.startFor ..))

theorem hImageActivate_clean : hImageActivate.Clean := by
  intro s own args
  unfold hImageActivate
  split
  · exact .no ..
  · exact .yes ..

theorem hScrubStart_clean : hScrubStart.Clean := fun _ _ _ => .ite (.no ..) (.ite (.no ..) (.job ..))

/-! Refusals with an effect (R48, R305, R404, R461). -/

/-- The effect that a refusal of a command may have. -/
structure LightRefusal (code : Nat) (d e : Dev) : Prop where
  only : DevOnly [.log, .keys, .saf] d e
  log : code ≠ Cmd.SERVICE_LOGIN → e.log = d.log
  keys : code ∉ [Cmd.SERVICE_LOGIN, Cmd.TEST_AUTH, Cmd.METR_SEAL_OPEN] → e.keys = d.keys
  saf : code ≠ Cmd.SAFETY_CONFIRM → e.saf = d.saf

/-- A handler whose refusals have no other effect. -/
def Handler.Light (code : Nat) (h : Handler) : Prop := ∀ s own args r d, h s own args = .noWith r d → LightRefusal code s.dev d

theorem Handler.Clean.light {h : Handler} (hc : h.Clean) (code : Nat) : h.Light code :=
  fun s own args r d hh => absurd hh ((hc s own args).ne r d)

theorem hServiceLogin_light : hServiceLogin.Light Cmd.SERVICE_LOGIN := by
  intro s own args r d h
  unfold hServiceLogin at h
  dsimp only at h
  split at h
  · cases h
    exact ⟨by simp [devOnly_iff, drawNonce], fun k => absurd rfl k, fun k => absurd (by simp) k, fun _ => rfl⟩
  · cases h

theorem hMetrSealOpen_light : hMetrSealOpen.Light Cmd.METR_SEAL_OPEN := by
  intro s own args r d h
  unfold hMetrSealOpen at h
  dsimp only at h
  split at h
  · cases h
    exact ⟨by simp [devOnly_iff, drawNonce], fun _ => rfl, fun k => absurd (by simp) k, fun _ => rfl⟩
  · cases h

theorem hTestAuth_light : hTestAuth.Light Cmd.TEST_AUTH := by
  intro s own args r d h
  unfold hTestAuth at h
  dsimp only at h
  split at h
  · cases h
    exact ⟨by simp [devOnly_iff, drawNonce], fun _ => rfl, fun k => absurd (by simp) k, fun _ => rfl⟩
  · cases h

theorem hSafetyConfirm_light : hSafetyConfirm.Light Cmd.SAFETY_CONFIRM := by
  intro s own args r d h
  unfold hSafetyConfirm at h
  dsimp only at h
  split at h
  · cases h
  · split at h
    · cases h
      exact ⟨by simp [devOnly_iff], fun _ => rfl, fun _ => rfl, fun k => absurd rfl k⟩
    · split at h
      · cases h
      · split at h <;> cases h

/-- Each row of the command set is that of a handler whose refusals have no effect but the one that the spec gives them. -/
theorem acsReq_row {c : Instr} {q : AcsReq} (h : acsReq c = some q) :
    ∃ f : Handler, (∀ s, exec c s = acsRow q.code q.own q.tag q.args f s) ∧ f.Light q.code := by
  cases c
  case identify => cases h; exact ⟨hIdentify, fun _ => rfl, hIdentify_clean.light _⟩
  case modeRequest => cases h; exact ⟨hModeRequest, fun _ => rfl, hModeRequest_clean.light _⟩
  case safestopClear => cases h; exact ⟨hSafestopClear, fun _ => rfl, hSafestopClear_clean.light _⟩
  case serviceLogin => cases h; exact ⟨hServiceLogin, fun _ => rfl, hServiceLogin_light⟩
  case serviceLogout => cases h; exact ⟨hServiceLogout, fun _ => rfl, hServiceLogout_clean.light _⟩
  case stopRequest => cases h; exact ⟨hStopRequest, fun _ => rfl, hStopRequest_clean.light _⟩
  case paramRead => cases h; exact ⟨hParamRead, fun _ => rfl, hParamRead_clean.light _⟩
  case paramWrite => cases h; exact ⟨hParamWrite, fun _ => rfl, hParamWrite_clean.light _⟩
  case paramCommit => cases h; exact ⟨hParamCommit, fun _ => rfl, hParamCommit_clean.light _⟩
  case paramDiscard => cases h; exact ⟨hParamDiscard, fun _ => rfl, hParamDiscard_clean.light _⟩
  case paramDescribe => cases h; exact ⟨hParamDescribe, fun _ => rfl, hParamDescribe_clean.light _⟩
  case paramReadBlock => cases h; exact ⟨hParamReadBlock, fun _ => rfl, hParamReadBlock_clean.light _⟩
  case paramWriteBlock => cases h; exact ⟨hParamWriteBlock, fun _ => rfl, hParamWriteBlock_clean.light _⟩
  case paramPending => cases h; exact ⟨hParamPending, fun _ => rfl, hParamPending_clean.light _⟩
  case paramEnum => cases h; exact ⟨hParamEnum, fun _ => rfl, hParamEnum_clean.light _⟩
  case snapshotTake own tag args => cases h; exact ⟨hSnapshotTake tag, fun _ => rfl, (hSnapshotTake_clean tag).light _⟩
  case snapshotRelease => cases h; exact ⟨hSnapshotRelease, fun _ => rfl, hSnapshotRelease_clean.light _⟩
  case cmdOutcome => cases h; exact ⟨hCmdOutcome, fun _ => rfl, hCmdOutcome_clean.light _⟩
  case eventFetch => cases h; exact ⟨hEventFetch, fun _ => rfl, hEventFetch_clean.light _⟩
  case bulkChunk => cases h; exact ⟨hBulkChunk, fun _ => rfl, hBulkChunk_clean.light _⟩
  case jobList => cases h; exact ⟨hJobList, fun _ => rfl, hJobList_clean.light _⟩
  case jobStatus => cases h; exact ⟨hJobStatus, fun _ => rfl, hJobStatus_clean.light _⟩
  case jobCancel => cases h; exact ⟨hJobCancel, fun _ => rfl, hJobCancel_clean.light _⟩
  case clockSet => cases h; exact ⟨hClockSet, fun _ => rfl, hClockSet_clean.light _⟩
  case sync => cases h; exact ⟨hSync, fun _ => rfl, hSync_clean.light _⟩
  case metrSealOpen => cases h; exact ⟨hMetrSealOpen, fun _ => rfl, hMetrSealOpen_light⟩
  case metrSealClose => cases h; exact ⟨hMetrSealClose, fun _ => rfl, hMetrSealClose_clean.light _⟩
  case recordRead => cases h; exact ⟨hRecordRead, fun _ => rfl, hRecordRead_clean.light _⟩
  case signatureRead => cases h; exact ⟨hSignatureRead, fun _ => rfl, hSignatureRead_clean.light _⟩
  case registersRead => cases h; exact ⟨hRegistersRead, fun _ => rfl, hRegistersRead_clean.light _⟩
  case metrLogRead => cases h; exact ⟨hMetrLogRead, fun _ => rfl, hMetrLogRead_clean.light _⟩
  case calendarActivate => cases h; exact ⟨hCalendarActivate, fun _ => rfl, hCalendarActivate_clean.light _⟩
  case billingClose => cases h; exact ⟨hBillingClose, fun _ => rfl, hBillingClose_clean.light _⟩
  case displayStep => cases h; exact ⟨hDisplayStep, fun _ => rfl, hDisplayStep_clean.light _⟩
  case remoteStart => cases h; exact ⟨hRemoteStart, fun _ => rfl, hRemoteStart_clean.light _⟩
  case remoteStop => cases h; exact ⟨hRemoteStop, fun _ => rfl, hRemoteStop_clean.light _⟩
  case safetyCheckRead => cases h; exact ⟨hSafetyCheckRead, fun _ => rfl, hSafetyCheckRead_clean.light _⟩
  case safetyConfirm => cases h; exact ⟨hSafetyConfirm, fun _ => rfl, hSafetyConfirm_light⟩
  case safetyProofTest => cases h; exact ⟨hSafetyProofTest, fun _ => rfl, hSafetyProofTest_clean.light _⟩
  case switchSet => cases h; exact ⟨hSwitchSet, fun _ => rfl, hSwitchSet_clean.light _⟩
  case latchClear => cases h; exact ⟨hLatchClear, fun _ => rfl, hLatchClear_clean.light _⟩
  case lockDrive => cases h; exact ⟨hLockDrive, fun _ => rfl, hLockDrive_clean.light _⟩
  case calicoStagingStatus => cases h; exact ⟨hCalicoStagingStatus, fun _ => rfl, hCalicoStagingStatus_clean.light _⟩
  case authLoad => cases h; exact ⟨hAuthLoad, fun _ => rfl, hAuthLoad_clean.light _⟩
  case authSwap => cases h; exact ⟨hAuthSwap, fun _ => rfl, hAuthSwap_clean.light _⟩
  case authLookup => cases h; exact ⟨hAuthLookup, fun _ => rfl, hAuthLookup_clean.light _⟩
  case keyDerive => cases h; exact ⟨hKeyDerive, fun _ => rfl, hKeyDerive_clean.light _⟩
  case attest => cases h; exact ⟨hAttest, fun _ => rfl, hAttest_clean.light _⟩
  case enrol => cases h; exact ⟨hEnrol, fun _ => rfl, hEnrol_clean.light _⟩
  case tamperAck => cases h; exact ⟨hTamperAck, fun _ => rfl, hTamperAck_clean.light _⟩
  case imageStage => cases h; exact ⟨hImageStage, fun _ => rfl, hImageStage_clean.light _⟩
  case imageVerify => cases h; exact ⟨hImageVerify, fun _ => rfl, hImageVerify_clean.light _⟩
  case imageActivate => cases h; exact ⟨hImageActivate, fun _ => rfl, hImageActivate_clean.light _⟩
  case testAuth => cases h; exact ⟨hTestAuth, fun _ => rfl, hTestAuth_light⟩
  case scrubStart => cases h; exact ⟨hScrubStart, fun _ => rfl, hScrubStart_clean.light _⟩
  all_goals cases h

/-- A request that passes the checks is answered once; a refusal of its handler keeps what it may not touch. -/
theorem acsRun_open {code : Nat} {own : Owner} {args : List Byte} {h : Handler} {s : State} (tag : Nat)
    (hc : acsCheck code own args s = none) (hl : h.Light code) :
    ∃ r job p d, acsRun code own tag args h s = { s with dev := answered code tag own r job p s d } ∧
      (r ≠ Res.ok → r ≠ Res.job → d.acs = s.dev.acs ∧ d.pow = s.dev.pow ∧ LightRefusal code s.dev d) := by
  have hnone : LightRefusal code s.dev s.dev := ⟨DevOnly.refl _ _, fun _ => rfl, fun _ => rfl, fun _ => rfl⟩
  cases hh : h s own args with
  | no r p => exact ⟨r, 0, p, s.dev, acsRun_no tag hc hh, fun _ _ => ⟨rfl, rfl, hnone⟩⟩
  | noWith r d =>
    have hd := hl s own args r d hh
    exact ⟨r, 0, [], d, acsRun_noWith tag hc hh, fun _ _ => ⟨hd.only .acs (by decide), hd.only .pow (by decide), hd⟩⟩
  | yes p d => exact ⟨Res.ok, 0, p, d, acsRun_yes tag hc hh, fun k _ => absurd rfl k⟩
  | job id p d => exact ⟨Res.job, id, p, d, acsRun_job tag hc hh, fun _ k => absurd rfl k⟩

end Sys2Proof.Machine

open Sys2Proof Sys2Proof.Machine

/-- Settles O26: a request waits, is refused by the checks, or is answered by a handler whose refusals are light. -/
theorem acsRefusals : Obligations.AcsRefusals := by
  unfold Obligations.AcsRefusals
  intro c q s hq
  obtain ⟨f, hrow, hlight⟩ := acsReq_row hq
  refine ⟨fun hs => ?waits, fun r p hs hc => ?checks, fun ho => ?handler⟩
  case waits =>
    refine ⟨s, ?_, rfl⟩
    rw [hrow, acsRow, if_neg (by simp [hs])]
  case checks =>
    have hr := acsCheck_code hc
    have hr' : 1 < r := by omega
    refine ⟨{ s with dev := answered q.code q.tag q.own r 0 p s s.dev }, ?_, answered_reply .., hr, ⟨answered_acs ..,
      answered_pow ..⟩, ?_, .dev (answered_refused_only q.code q.tag q.own 0 p s s.dev hr')⟩
    · rw [hrow, acsRow, if_pos hs, acsRun_refused q.tag f hc]
    · show (answered q.code q.tag q.own r 0 p s s.dev).acs.durable = _
      rw [answered_refused q.code q.tag q.own 0 p s s.dev hr', recordDurable_durable]
      rfl
  case handler =>
    obtain ⟨hs, hc⟩ := ho
    obtain ⟨r, job, p, d, hrun, hkept⟩ := acsRun_open q.tag hc hlight
    refine ⟨{ s with dev := answered q.code q.tag q.own r job p s d }, ?_, ?_⟩
    · rw [hrow, acsRow, if_pos hs, hrun]
    · have hreply := answered_reply q.code q.tag q.own r job p s d
      dsimp only
      rw [hreply]
      refine ⟨rfl, rfl, rfl, fun hok hjob => ?_⟩
      obtain ⟨hacs, hpow, hd⟩ := hkept hok hjob
      have hr : 1 < r := by
        have h0 : r ≠ 0 := hok
        have h1 : r ≠ 1 := hjob
        omega
      have hsame := answered_refused_only q.code q.tag q.own job p s d hr
      have hpow' : (answered q.code q.tag q.own r job p s d).pow = s.dev.pow := (hsame .pow (by decide)).trans hpow
      refine ⟨⟨?_, by dsimp only; rw [hpow']⟩, hpow', .dev ((hd.only.mono (by decide)).trans (hsame.mono (by decide))),
        fun k => (hsame .log (by decide)).trans (hd.log k), fun k => (hsame .keys (by decide)).trans (hd.keys k),
        fun k => (hsame .saf (by decide)).trans (hd.saf k)⟩
      dsimp only
      rw [answered_acs, hacs]

end

section
/-!
PROOF. Commands that start or end jobs (R89 to R92, R183, R215, R377, R399, R403, R424, R426).
-/

namespace Sys2Proof.Machine

/-- An open request whose handler starts a job leaves the handler's effect, answered JOB. -/
theorem exec_job {c : Instr} {code tag : Nat} {own : Owner} {args p : List Byte} {h : Handler} {s : State} {d : Dev} {id : Nat}
    (hc : exec c s = acsRow code own tag args h s) (ho : AcsOpen code own args s) (hh : h s own args = .job id p d) :
    exec c s = .next { s with dev := answered code tag own Res.job id p s d } := by
  obtain ⟨hserves, hcheck⟩ := ho
  rw [hc, acsRow, if_pos hserves, acsRun_job tag hcheck hh]

/-- Where an owner has room, not all places are taken (R89). -/
theorem jobsFull_of_room {own : Nat} {d : Dev} (h : jobRoom own d = true) : jobsFull d = false := by
  simp only [jobRoom, Bool.and_eq_true, decide_eq_true_eq] at h
  exact decide_eq_false (by omega)

/-- A job that finds room enters the table (R89, R91). -/
theorem startJob_room {kind : JobKind} {own arg : Nat} {d : Dev} (h : jobsFull d = false) :
    startJob kind own arg d = { d with acs := { d.acs with
      jobs := makeRoom d.acs.jobs ++
        [{ id := d.acs.nextJob, st := 1, owner := own, progress := 0, result := 0, kind := kind, arg := arg }]
      nextJob := if d.acs.nextJob = 0xFFFF then 1 else d.acs.nextJob + 1 } } := by
  unfold startJob
  dsimp only
  rw [h, if_neg (by decide), if_neg (by decide)]

/-- A command that starts a job, after an effect that touches neither the command set nor power: it answers JOB, and
nothing more than that effect changes. -/
theorem Completes.of_startJob {c : Instr} {code tag : Nat} {own : Owner} {args p : List Byte} {h : Handler} {s : State}
    {kind : JobKind} {arg : Nat} {d : Dev} {ps : List Part} (hc : exec c s = acsRow code own tag args h s)
    (ho : AcsOpen code own args s) (hh : h s own args = .job s.dev.acs.nextJob p (startJob kind (ownerCode own) arg d))
    (hroom : jobRoom (ownerCode own) s.dev = true) (hacs : d.acs = s.dev.acs) (hpow : d.pow = s.dev.pow)
    (honly : DevOnly ps s.dev d) (ha : .acs ∈ ps := by decide) (hp : .pow ∈ ps := by decide) :
    Completes c s fun t => JobStarted code tag kind own arg p s t ∧
      (∀ q : Part, q ∉ [Part.acs, .pow] → SamePart d t.dev q) ∧ OnlyChanges ps s t := by
  have hfull : jobsFull d = false := by
    have := jobsFull_of_room hroom
    unfold jobsFull at this ⊢
    rwa [hacs]
  have hstart : DevOnly [.acs, .pow] d (startJob kind (ownerCode own) arg d) := by
    rw [startJob_room hfull]
    simp [devOnly_iff]
  have hall := hstart.trans (answered_only code tag own Res.job s.dev.acs.nextJob p s (startJob kind (ownerCode own) arg d))
  refine ⟨_, exec_job hc ho hh, ⟨answered_reply .., ?_, ?_, ?_⟩, hall,
    .dev (honly.trans (hall.mono (by simp [ha, hp])))⟩
  · dsimp only
    rw [answered_acs, startJob_room hfull, hacs]
  · dsimp only
    rw [answered_acs, startJob_room hfull, hacs]
  · dsimp only
    rw [answered_pow, startJob_room hfull, hpow]

/-- With room and no earlier refusal, starting a job for an owner answers JOB. -/
theorem startFor_room {kind : JobKind} {own : Owner} {arg : Nat} {p : List Byte} {d : Dev}
    (h : jobRoom (ownerCode own) d = true) :
    startFor kind own arg p d = .job d.acs.nextJob p (startJob kind (ownerCode own) arg d) := if_pos h

/-- The keys have no part in whether a job finds room (R89). -/
theorem jobRoom_keys (own : Nat) (k : Keys) (d : Dev) : jobRoom own { d with keys := k } = jobRoom own d := rfl

/-! IMAGE_STAGE (R424). -/

/-- The staging that IMAGE_STAGE opens, or resumes, before its job starts (R424). -/
def stagingOpened (part length : Nat) (d : Dev) : Dev :=
  if resumes part length d then d
  else
    let d := discardImage Src.host 0 d
    { d with upd := { d.upd with st := 1, source := 2, part := part, stagedLen := length, staged := [], chunks := 0 } }

theorem stagingOpened_only (part length : Nat) (d : Dev) : DevOnly [.dlms, .upd, .log] d (stagingOpened part length d) := by
  unfold stagingOpened
  split
  · exact .refl _ _
  · exact (discardImage_only Src.host 0 d).trans (by simp [devOnly_iff])

theorem stagingOpened_names (part length : Nat) (d : Dev) :
    (stagingOpened part length d).upd.part = part ∧ (stagingOpened part length d).upd.stagedLen = length := by
  unfold stagingOpened
  split
  · rename_i h
    simp only [resumes, Bool.and_eq_true, decide_eq_true_eq] at h
    exact ⟨h.1.2, h.2⟩
  · exact ⟨rfl, rfl⟩

/-- The job of a staging owns the bulk window from the first chunk not yet written (R424). -/
def stagingJob (own part length : Nat) (e : Dev) : Dev :=
  let d := openBulk .image e.acs.nextJob length [] false (startJob .staging own part e)
  { d with acs := { d.acs with bulk := d.acs.bulk.map fun b => { b with next := e.upd.chunks } } }

theorem stageImage_eq (own part length : Nat) (d : Dev) :
    stageImage own part length d = stagingJob own part length (stagingOpened part length d) := rfl

theorem stagingJob_room {own part length : Nat} {e : Dev} (h : jobsFull e = false) :
    stagingJob own part length e = { e with acs := { e.acs with
      jobs := makeRoom e.acs.jobs ++
        [{ id := e.acs.nextJob, st := 1, owner := own, progress := 0, result := 0, kind := .staging, arg := part }]
      nextJob := if e.acs.nextJob = 0xFFFF then 1 else e.acs.nextJob + 1
      bulk := some ⟨.image, e.acs.nextJob, e.upd.chunks, false, length, []⟩ } } := by
  rw [stagingJob, startJob_room h]
  rfl

/-- IMAGE_STAGE with room starts its job over the staging that it opens. -/
theorem hImageStage_room {own : Owner} {args : List Byte} {s : State} (hnamed : partNamed (fieldAt args 0 1) s.dev = true)
    (hpart : fieldAt args 0 1 ≤ 5) (hpos : fieldAt args 1 4 ≠ 0) (hmax : fieldAt args 1 4 ≤ 8388608)
    (hact : s.dev.upd.activation = none) (hbulk : s.dev.acs.bulk = none) (hver : verifyJob s.dev = none)
    (hroom : jobRoom (ownerCode own) s.dev = true) :
    hImageStage s own args = .job s.dev.acs.nextJob
      (leBytes 2 (stageImage (ownerCode own) (fieldAt args 0 1) (fieldAt args 1 4) s.dev).upd.chunks)
      (stageImage (ownerCode own) (fieldAt args 0 1) (fieldAt args 1 4) s.dev) := by
  unfold hImageStage
  dsimp only
  rw [if_neg (by simp [hnamed]; omega), if_neg (by simp [hact, hbulk, hver, hroom])]

theorem imageStage_starts {own : Owner} {args : List Byte} {s : State} (tag : Nat)
    (ho : AcsOpen Cmd.IMAGE_STAGE own args s) (hnamed : partNamed (fieldAt args 0 1) s.dev = true)
    (hpart : fieldAt args 0 1 ≤ 5) (hpos : fieldAt args 1 4 ≠ 0) (hmax : fieldAt args 1 4 ≤ 8388608)
    (hact : s.dev.upd.activation = none) (hbulk : s.dev.acs.bulk = none) (hver : verifyJob s.dev = none)
    (hroom : jobRoom (ownerCode own) s.dev = true) : Completes (.imageStage own tag args) s fun t =>
      JobStarted Cmd.IMAGE_STAGE tag .staging own (fieldAt args 0 1) (leBytes 2 t.dev.upd.chunks) s t ∧
        t.dev.acs.bulk = some ⟨.image, s.dev.acs.nextJob, t.dev.upd.chunks, false, fieldAt args 1 4, []⟩ ∧
        t.dev.upd.part = fieldAt args 0 1 ∧ t.dev.upd.stagedLen = fieldAt args 1 4 ∧
        OnlyChanges [.acs, .pow, .log, .upd, .dlms] s t := by
  have hh := hImageStage_room hnamed hpart hpos hmax hact hbulk hver hroom
  have honly := stagingOpened_only (fieldAt args 0 1) (fieldAt args 1 4) s.dev
  obtain ⟨hpartName, hlenName⟩ := stagingOpened_names (fieldAt args 0 1) (fieldAt args 1 4) s.dev
  rw [stageImage_eq] at hh
  generalize stagingOpened (fieldAt args 0 1) (fieldAt args 1 4) s.dev = e at hh honly hpartName hlenName
  have hacs : e.acs = s.dev.acs := honly .acs (by decide)
  have hpow : e.pow = s.dev.pow := honly .pow (by decide)
  have hfull : jobsFull e = false := by
    have := jobsFull_of_room hroom
    unfold jobsFull at this ⊢
    rwa [hacs]
  have hstart : DevOnly [.acs, .pow] e (stagingJob (ownerCode own) (fieldAt args 0 1) (fieldAt args 1 4) e) := by
    rw [stagingJob_room hfull]
    simp [devOnly_iff]
  rw [hstart .upd (by decide)] at hh
  have hall := hstart.trans (answered_only Cmd.IMAGE_STAGE tag own Res.job s.dev.acs.nextJob (leBytes 2 e.upd.chunks) s
    (stagingJob (ownerCode own) (fieldAt args 0 1) (fieldAt args 1 4) e))
  have hacs' := answered_acs Cmd.IMAGE_STAGE tag own Res.job s.dev.acs.nextJob (leBytes 2 e.upd.chunks) s
    (stagingJob (ownerCode own) (fieldAt args 0 1) (fieldAt args 1 4) e)
  have hupd : _ = e.upd := hall .upd (by decide)
  refine ⟨_, exec_job rfl ho hh, ⟨?_, ?_, ?_, ?_⟩, ?_, ?_, ?_, .dev ((honly.mono (by decide)).trans (hall.mono (by decide)))⟩
  · dsimp only
    rw [hupd]
    exact answered_reply ..
  · dsimp only
    rw [hacs', stagingJob_room hfull, hacs]
  · dsimp only
    rw [hacs', stagingJob_room hfull, hacs]
  · dsimp only
    rw [answered_pow, stagingJob_room hfull, hpow]
  · dsimp only
    rw [hupd, hacs', stagingJob_room hfull, hacs]
  · dsimp only
    rw [hupd, hpartName]
  · dsimp only
    rw [hupd, hlenName]

end Sys2Proof.Machine

open Sys2Proof Sys2Proof.Machine

/-- Settles O31: each command that finds room starts its job over its own effect, and JOB_CANCEL marks one. -/
theorem jobCommands : Obligations.JobCommands := by
  unfold Obligations.JobCommands
  intro own tag args s
  refine ⟨fun j ho hj hown hsign hfinal => ?cancel, fun ho hnone hroom => ?calendar,
    fun ho hst hown hver hlen hroom hcrc => ?swap, fun ho hk hkind hgen hmode hrec hroom => ?derive,
    fun ho hnone hroom => ?attest, fun ho hpart hpos hmax hnamed hact hbulk hver hroom => ?stage,
    fun ho hst hstaged hact hver hroom => ?verify, fun ho hlo hhi hroom => ?scrub⟩
  case cancel =>
    have hh : hJobCancel s own args = .yes [] { s.dev with acs := { s.dev.acs with
        jobs := s.dev.acs.jobs.map fun k => if k.id = fieldAt args 0 2 then { k with cancelling := true } else k } } := by
      simp [hJobCancel, hj, hown, hsign, hfinal]
    refine ⟨_, exec_yes rfl ho hh, answered_reply .., ?_, .dev ?_⟩
    · dsimp only
      rw [answered_acs]
    · refine DevOnly.trans (e := { s.dev with acs := _ }) (by simp [devOnly_iff]) (answered_only _ _ _ _ _ _ _ _)
  case calendar =>
    have hh : hCalendarActivate s own args =
        .job s.dev.acs.nextJob [] (startJob .calendar (ownerCode own) (fieldAt args 0 4) s.dev) := by
      rw [hCalendarActivate, hnone, startFor_room hroom]
      rfl
    obtain ⟨t, ht, hjob, -, honly⟩ := Completes.of_startJob (c := .calendarActivate own tag args) (tag := tag)
      (ps := [.acs, .pow]) rfl ho hh hroom rfl rfl (.refl _ _)
    exact ⟨t, ht, hjob, honly⟩
  case swap =>
    have hh : hAuthSwap s own args = .job s.dev.acs.nextJob [] (startJob .authSwap (ownerCode own) (fieldAt args 0 4)
        { s.dev with nfc := { s.dev.nfc with loadSt := 3 } }) := by
      simp [hAuthSwap, hst, hown, hver, hlen, hroom, hcrc]
      exact startFor_room hroom
    obtain ⟨t, ht, hjob, hrest, honly⟩ := Completes.of_startJob (c := .authSwap own tag args) (tag := tag)
      (ps := [.acs, .pow, .nfc]) rfl ho hh hroom rfl rfl (by simp [devOnly_iff])
    exact ⟨t, ht, hjob, hrest .nfc (by decide), honly⟩
  case derive =>
    have hh : hKeyDerive s own args = .job s.dev.acs.nextJob []
        (startJob .derive (ownerCode own) (fieldAt args 0 1 + 256 * fieldAt args 1 4) s.dev) := by
      unfold hKeyDerive
      dsimp only
      rw [if_neg hmode, if_neg (by omega), if_neg hrec, startFor_room hroom]
    obtain ⟨t, ht, hjob, -, honly⟩ := Completes.of_startJob (c := .keyDerive own tag args) (tag := tag)
      (ps := [.acs, .pow]) rfl ho hh hroom rfl rfl (.refl _ _)
    exact ⟨t, ht, hjob, honly⟩
  case attest =>
    have hh : hAttest s own args = .job s.dev.acs.nextJob [] (startJob .signing (ownerCode own) 0
        { s.dev with keys := { s.dev.keys with statement := attestStatement args s } }) := by
      unfold hAttest
      dsimp only
      rw [hnone, if_neg (by decide), startFor_room (by rw [jobRoom_keys, hroom])]
    obtain ⟨t, ht, hjob, hrest, honly⟩ := Completes.of_startJob (c := .attest own tag args) (tag := tag)
      (ps := [.acs, .pow, .keys]) rfl ho hh hroom rfl rfl (by simp [devOnly_iff])
    exact ⟨t, ht, hjob, hrest .keys (by decide), honly⟩
  case stage =>
    exact imageStage_starts tag ho hnamed (by omega) (by omega) hmax hact hbulk hver hroom
  case verify =>
    have hh : hImageVerify s own args = .job s.dev.acs.nextJob [] (startJob .verify (ownerCode own) 0
        { s.dev with upd := { s.dev.upd with st := 3 } }) := by
      unfold hImageVerify
      dsimp only
      rw [if_neg (by simp [hstaged]; omega), if_neg (by simp [hact, hver])]
      exact startFor_room hroom
    obtain ⟨t, ht, hjob, hrest, honly⟩ := Completes.of_startJob (c := .imageVerify own tag args) (tag := tag)
      (ps := [.acs, .pow, .upd]) rfl ho hh hroom rfl rfl (by simp [devOnly_iff])
    exact ⟨t, ht, hjob, hrest .upd (by decide), honly⟩
  case scrub =>
    have hh : hScrubStart s own args = .job s.dev.acs.nextJob [] (startJob .scrub (ownerCode own) (fieldAt args 0 1)
        { s.dev with led := { s.dev.led with scrubFrame := s.clk.frame } }) := by
      unfold hScrubStart
      dsimp only
      rw [if_neg (by omega), if_neg (by simp [hroom])]
      rfl
    obtain ⟨t, ht, hjob, hrest, honly⟩ := Completes.of_startJob (c := .scrubStart own tag args) (tag := tag)
      (ps := [.acs, .pow, .led]) rfl ho hh hroom rfl rfl (by simp [devOnly_iff])
    exact ⟨t, ht, hjob, hrest .led (by decide), honly⟩

end

section
/-!
SUPPORT. The end of a job (R89, R91): what it changes, and that it leaves the table, the interrupt and the event that the
statement of an ended job names.
-/

namespace Sys2Proof.Machine

theorem takePlace_only (d : Dev) : DevOnly [.acs] d (takePlace d) := by
  unfold takePlace
  split
  · exact .ite (fun _ => .refl _ _) fun _ => by simp [devOnly_iff]
  · exact .refl _ _

/-- Who takes a place rests on the table and on the jobs that wait. -/
theorem takePlace_jobs {d e : Dev} (hjobs : d.acs.jobs = e.acs.jobs) (hwait : d.acs.jobsWait = e.acs.jobsWait) :
    (takePlace d).acs.jobs = (takePlace e).acs.jobs := by
  unfold takePlace jobsFull
  rw [hjobs, hwait]
  split
  · split
    · exact hjobs
    · rfl
  · exact hjobs

/-- The end of the live job j, before a job that waits takes its place (R91). -/
def jobEntered (j : Job) (st result : Nat) (d : Dev) : Dev :=
  Dev.irq 0b10#9 (Dev.raise Src.own Event.JOB_ENDED
    (leBytes 2 j.id ++ leBytes 1 j.kind.code ++ leBytes 1 j.owner ++ leBytes 1 result)
    { d with acs := { d.acs with
      jobs := d.acs.jobs.map fun (k : Job) => if k.id = j.id then
        { j with st := st, result := result, progress := if st = 3 then 1000 else j.progress } else k
      bulk := d.acs.bulk.filter fun b => !(decide (b.use = BulkUse.image) && decide (b.owner = j.id)) } })

theorem endJob_live {j : Job} {d : Dev} (st result : Nat)
    (hj : d.acs.jobs.find? (fun k => k.id = j.id && k.live) = some j) :
    endJob j.id st result d = takePlace (jobEntered j st result d) := by
  rw [endJob, hj]
  rfl

theorem jobEntered_only (j : Job) (st result : Nat) (d : Dev) : DevOnly [.acs, .log, .win] d (jobEntered j st result d) := by
  simp [devOnly_iff, jobEntered]

/-- What the end of the live job j leaves, over a device with the same jobs. -/
theorem jobOver_endJob {j : Job} {s : State} {d : Dev} (st result : Nat) (hj : LiveJob j s)
    (hacs : d.acs = s.dev.acs) : JobOver j st result s { s with dev := endJob j.id st result d } ∧
      DevOnly [.acs, .log, .win] d (endJob j.id st result d) ∧
      ∀ e ∈ d.log.now, e ∈ (endJob j.id st result d).log.now := by
  have hd : d.acs.jobs.find? (fun k => k.id = j.id && k.live) = some j := by rw [hacs]; exact hj
  rw [endJob_live st result hd]
  have hplace := takePlace_only (jobEntered j st result d)
  have hlog : (takePlace (jobEntered j st result d)).log.now = d.log.now ++ [Ev.of Src.own Event.JOB_ENDED
      (leBytes 2 j.id ++ leBytes 1 j.kind.code ++ leBytes 1 j.owner ++ leBytes 1 result)] := by
    rw [hplace .log (by decide)]
    rfl
  have hwin : (takePlace (jobEntered j st result d)).win.shadow.irqSet = d.win.shadow.irqSet ||| 0b10#9 := by
    rw [hplace .win (by decide)]
    rfl
  refine ⟨⟨?_, ?_, ?_⟩, (jobEntered_only j st result d).then hplace, fun e he => ?_⟩
  · refine takePlace_jobs ?_ ?_
    · show _ = jobsAfter j st result s
      rw [jobsAfter, ← hacs]
      rfl
    · show d.acs.jobsWait = s.dev.acs.jobsWait
      rw [hacs]
  · dsimp only
    rw [hwin]
    simp
  · dsimp only
    rw [hlog]
    simp
  · rw [hlog]
    simp [he]

/-- What a row leaves that takes its effect where a condition of `dev` holds. -/
theorem exec_when {c : Instr} {s : State} {b : Dev → Bool} {f : Dev → Dev}
    (h : exec c s = devStep s fun d => d.when (b d) f) (hb : b s.dev = true) : exec c s = .next (s.onDev f) := by
  obtain ⟨_, ht, rfl⟩ := Completes.of_when h hb (P := (· = s.onDev f)) rfl
  exact ht

/-- A row whose effect ends the live job j after a change that leaves the jobs as they are. -/
theorem Completes.of_endJob {c : Instr} {s : State} {f : Dev → Dev} {j : Job} {st result : Nat} {d : Dev} {ps : List Part}
    (hc : exec c s = .next (s.onDev f)) (hf : f s.dev = endJob j.id st result d) (hj : LiveJob j s)
    (hd : DevOnly ps s.dev d) (hps : .acs ∉ ps := by decide) : Completes c s fun t =>
      JobOver j st result s t ∧ (∀ q : Part, q ∉ [Part.acs, .log, .win] → SamePart d t.dev q) ∧
        (∀ e ∈ d.log.now, e ∈ t.dev.log.now) ∧ OnlyChanges (ps ++ [.acs, .log, .win]) s t := by
  obtain ⟨hover, honly, hlog⟩ := jobOver_endJob st result hj (hd .acs hps)
  have heq : s.onDev f = { s with dev := endJob j.id st result d } := by rw [State.onDev, hf]
  rw [heq] at hc
  refine ⟨_, hc, hover, honly, hlog, .dev ?_⟩
  exact (hd.mono fun p hp => List.mem_append_left _ hp).trans (honly.mono fun p hp => List.mem_append_right _ hp)

end Sys2Proof.Machine

end

section
/-!
PROOF. Jobs end with their results (R91, R92, R215, R377, R399, R403, R409, R413, R426).
-/

namespace Sys2Proof.Machine

/-! Key slots (R395, R398, R399, R402). -/

/-- Of the keys only the slots, with what follows from one, have changed. -/
def KeysRewritten (a b : Keys) : Prop :=
  b = { a with
    slots := b.slots, recordKeyId := b.recordKeyId, csrs := b.csrs, recordCert := b.recordCert, recordCerts := b.recordCerts }

theorem KeysRewritten.refl (a : Keys) : KeysRewritten a a := rfl

theorem KeysRewritten.trans {a b c : Keys} (h : KeysRewritten a b) (k : KeysRewritten b c) : KeysRewritten a c := by
  unfold KeysRewritten at *
  rw [k, h]

theorem setKeys_only (x : Keys) (d : Dev) : DevOnly [.keys] d { d with keys := x } := by simp [devOnly_iff]

/-- What a derived slot holds (R395, R398). -/
def derivedSlot (k gen : Nat) (pub : List Byte) : KeySlot :=
  ⟨1, gen, Config.shake256x8 pub, if k = 0 then slice pub 32 32 else if k = 1 then slice pub 16 16 else []⟩

/-- What a derived slot's new key brings with it: RECORD_KEY_ID of slot 1, the request of slots 13 to 15, which lose their
certificates (R395, R399). -/
def slotFollows (k gen : Nat) (pub : List Byte) (d : Dev) : Dev :=
  if k = 1 then { d with keys := { d.keys with recordKeyId := leNat ((digest8 pub).take 4) } }
  else if 13 ≤ k then
    let csr := slice (Config.csr (slotAlg k) (derivedKey d k gen) (asciiPad 7 "KM7720-" ++ Config.serialNumber)) 0 1024
    let d := { d with keys := { d.keys with csrs := d.keys.csrs.set (k - 13) csr } }
    d.setBlk Param.SECC_CERTS (splice (d.blk Param.SECC_CERTS) (4096 * (k - 13)) (List.replicate 4096 0))
  else d

/-- The key that a slot written at a generation derives. -/
def derivedPublic (k gen : Nat) (d : Dev) : List Byte := slotPublic (setSlot k ⟨1, gen, 0, []⟩ d) k

theorem writeDerived_eq (k gen : Nat) (d : Dev) : writeDerived k gen d = slotFollows k gen (derivedPublic k gen d)
    (setSlot k (derivedSlot k gen (derivedPublic k gen d)) (setSlot k ⟨1, gen, 0, []⟩ d)) := rfl

theorem setSlot_twice (k : Nat) (x y : KeySlot) (d : Dev) : setSlot k y (setSlot k x d) = setSlot k y d := by
  simp [setSlot]

theorem slotFollows_only (k gen : Nat) (pub : List Byte) (d : Dev) :
    DevOnly [.keys, .par] d (slotFollows k gen pub d) := by
  have hblk (id : Nat) (v : List Byte) (e : Dev) : DevOnly [.par] e (e.setBlk id v) := by simp [devOnly_iff]
  exact .ite (fun _ => (setKeys_only _ d).mono (by decide))
    fun _ => .ite (fun _ => (setKeys_only _ d).then (hblk _ _ _)) fun _ => .refl _ _

theorem slotFollows_keys (k gen : Nat) (pub : List Byte) (d : Dev) :
    KeysRewritten d.keys (slotFollows k gen pub d).keys ∧ (slotFollows k gen pub d).keys.slots = d.keys.slots := by
  unfold slotFollows
  split
  · exact ⟨rfl, rfl⟩
  · split <;> exact ⟨rfl, rfl⟩

theorem writeDerived_only (k gen : Nat) (d : Dev) : DevOnly [.keys, .par] d (writeDerived k gen d) := by
  rw [writeDerived_eq, setSlot_twice]
  exact (setKeys_only _ d).then (slotFollows_only k gen _ (setSlot k _ d))

/-- Only slots 13 to 15 have a certificate among the parameters. -/
theorem writeDerived_par {k : Nat} (gen : Nat) (d : Dev) (hk : k < 13) : (writeDerived k gen d).par = d.par := by
  rw [writeDerived_eq, slotFollows]
  split
  · rfl
  · rw [if_neg (by omega)]
    rfl

theorem writeDerived_keys (k gen : Nat) (d : Dev) : KeysRewritten d.keys (writeDerived k gen d).keys := by
  rw [writeDerived_eq, setSlot_twice]
  exact KeysRewritten.trans (b := (setSlot k _ d).keys) rfl (slotFollows_keys ..).1

theorem writeDerived_slots (k gen : Nat) (d : Dev) :
    (writeDerived k gen d).keys.slots = d.keys.slots.set k (derivedSlot k gen (derivedPublic k gen d)) := by
  rw [writeDerived_eq, setSlot_twice, (slotFollows_keys ..).2]
  rfl

theorem certifyRecords_only (n : Nat) (d : Dev) : DevOnly [.keys] d (certifyRecords n d) :=
  .ite (fun _ => by simp [devOnly_iff]) fun _ => by simp [devOnly_iff]

theorem certifyRecords_keys (n : Nat) (d : Dev) : KeysRewritten d.keys (certifyRecords n d).keys := by
  unfold certifyRecords
  split <;> rfl

theorem certifyRecords_slots (n : Nat) (d : Dev) : (certifyRecords n d).keys.slots = d.keys.slots := by
  unfold certifyRecords
  split <;> rfl

theorem deriveEmpty_only (d : Dev) : DevOnly [.keys, .par, .log] d (deriveEmpty d) :=
  DevOnly.foldl (fun e k => .ite (fun _ => DevOnly.then (writeDerived_only k 1 e) (.raise _ _ _ _)) fun _ => .refl _ _) _ _

theorem deriveEmpty_keys (d : Dev) : KeysRewritten d.keys (deriveEmpty d).keys := by
  unfold deriveEmpty
  induction List.range 16 generalizing d with
  | nil => exact .refl _
  | cons k l ih =>
    refine .trans ?_ (ih _)
    dsimp only
    split
    · exact writeDerived_keys k 1 d
    · exact .refl _

/-! The verification of a staged image (R425, R426). -/

theorem imageFault_result {d : Dev} {readOk : Bool} {x : StagedImage} {r : Reject} (h : imageFault d readOk x = some r) :
    r.result ≠ 0 := by
  unfold imageFault at h
  dsimp only at h
  repeat' split at h
  all_goals cases h
  all_goals simp

/-- What a verification leaves with its result: the update's state, and its events. -/
structure Verified (d : Dev) (r : Dev × Nat) : Prop where
  only : DevOnly [.upd, .log] d r.1
  active : r.1.upd.activeSet = d.upd.activeSet
  result : r.1.upd.result = r.2
  st : r.1.upd.st = if r.2 = 0 then 4 else 7

theorem imageRejected_verified (src : Nat) {r : Reject} {d e : Dev} (hr : r.result ≠ 0) (honly : DevOnly [.upd, .log] d e)
    (hset : e.upd.activeSet = d.upd.activeSet) : Verified d (imageRejected src r e, r.result) :=
  ⟨honly.trans (by simp [devOnly_iff, imageRejected]), hset, rfl, (if_neg hr).symm⟩

/-- A change of the update's state that keeps the active set. -/
structure SetKept (d e : Dev) : Prop where
  only : DevOnly [.upd, .log] d e
  active : e.upd.activeSet = d.upd.activeSet

theorem SetKept.trans {d e f : Dev} (h : SetKept d e) (k : SetKept e f) : SetKept d f :=
  ⟨h.only.trans k.only, k.active.trans h.active⟩

theorem SetKept.ite {c : Prop} [Decidable c] {d e : Dev} (h : SetKept d e) : SetKept d (if c then e else d) := by
  split
  · exact h
  · exact ⟨.refl _ _, rfl⟩

theorem setImageSet_kept (k : Nat) (m : Manifest) (d : Dev) : SetKept d (setImageSet k m d) :=
  ⟨by simp [devOnly_iff, setImageSet], by unfold setImageSet; split <;> rfl⟩

theorem verifyImage_verified (src : Nat) (readOk : Bool) (x : StagedImage) (d : Dev) :
    Verified d (verifyImage src readOk x d) := by
  have hmanifest : SetKept d (if x.form then { d with upd := { d.upd with manifest := x.manifest } } else d) :=
    .ite ⟨by simp [devOnly_iff], rfl⟩
  unfold verifyImage
  dsimp only
  generalize (if x.form then { d with upd := { d.upd with manifest := x.manifest } } else d) = e at *
  have hset := hmanifest.trans (SetKept.ite (c := ((imageFault e readOk x).map Reject.check).getD 10 = 10)
    (setImageSet_kept (inactiveSet e) ⟨x.manifest, partsOver x.manifest (activeSet e).parts⟩ e))
  obtain ⟨honly, hactive⟩ := hset
  cases hf : imageFault e readOk x with
  | some r =>
    rw [hf] at honly hactive
    exact imageRejected_verified src (imageFault_result hf) honly hactive
  | none =>
    rw [hf] at honly hactive
    exact ⟨honly.trans (by simp [devOnly_iff]), hactive, rfl, rfl⟩

theorem verifyStaged_verified (src : Nat) (readOk : Bool) (d : Dev) : Verified d (verifyStaged src readOk d) := by
  unfold verifyStaged
  dsimp only
  split
  · split
    · exact imageRejected_verified src (by decide) (.refl _ _) rfl
    · split
      · exact imageRejected_verified src (by decide) (.refl _ _) rfl
      · exact verifyImage_verified ..
  · exact verifyImage_verified ..

/-! The rows. -/

theorem jobEndedEff_done {j : Job} {s : State} (n : Nat) (hj : LiveJob j s) : jobEndedEff n j.id .done s.dev =
    if j.kind = .scrub then endJob j.id 3 0 s.dev else if j.kind = .authSwap then swapJobEnd n j.id s.dev else s.dev := by
  unfold LiveJob at hj
  simp only [jobEndedEff, hj]

theorem jobEndedEff_failed {j : Job} {s : State} (n r : Nat) (hj : LiveJob j s) : jobEndedEff n j.id (.failed r) s.dev =
    if j.kind = .scrub ∨ j.kind = .staging then endJob j.id 4 r s.dev else s.dev := by
  unfold LiveJob at hj
  simp only [jobEndedEff, hj]

theorem jobEndedEff_cancelled {j : Job} {s : State} (n : Nat) (hj : LiveJob j s) : jobEndedEff n j.id .cancelled s.dev =
    if j.cancelling then endJob j.id 5 0 s.dev else s.dev := by
  unfold LiveJob at hj
  simp only [jobEndedEff, hj]

theorem exec_jobEnded {j : Job} {s : State} (e : JobEnd) (hrun : s.clk.running = true) :
    exec (.jobEnded j.id e) s = .next (s.onDev (jobEndedEff s.clk.frame j.id e)) :=
  exec_when (b := fun _ => s.clk.running || s.dev.upd.bootRecovery) rfl (by simp [hrun])

theorem calendarArmed_completes {j : Job} {s : State} (hrun : s.clk.running = true) (hlive : LiveJob j s)
    (hj : jobOf .calendar s.dev = some j) : Completes .calendarArmed s fun t =>
      (∀ off, calendarFault (s.dev.blk Param.PASSIVE_CALENDAR) = some off →
        JobOver j 4 Res.badParam s t ∧
          t.dev.tar = { s.dev.tar with passiveCheck := calendarCheck (s.dev.blk Param.PASSIVE_CALENDAR) } ∧
          Logged Src.metr Event.CALENDAR_REJECTED (leBytes 4 off) t) ∧
      (calendarFault (s.dev.blk Param.PASSIVE_CALENDAR) = none → JobOver j 3 0 s t ∧
        t.dev.tar = { s.dev.tar with armed := some (if j.arg = 0 then s.dev.tar.rtc else j.arg)
                                     passiveCheck := calendarCheck (s.dev.blk Param.PASSIVE_CALENDAR) } ∧
        Logged Src.metr Event.CALENDAR_ARMED (leBytes 4 (if j.arg = 0 then s.dev.tar.rtc else j.arg) ++
          leBytes 8 (calendarCheck (s.dev.blk Param.PASSIVE_CALENDAR))) t) ∧
      OnlyChanges [.acs, .log, .win, .tar] s t := by
  have hrow : exec .calendarArmed s = .next (s.onDev calendarArmed) := exec_when (b := fun _ => s.clk.running) rfl hrun
  cases hf : calendarFault (s.dev.blk Param.PASSIVE_CALENDAR) with
  | some off =>
    have heff : calendarArmed s.dev = endJob j.id 4 Res.badParam (Dev.raise Src.metr Event.CALENDAR_REJECTED (leBytes 4 off)
        { s.dev with tar := { s.dev.tar with passiveCheck := calendarCheck (s.dev.blk Param.PASSIVE_CALENDAR) } }) := by
      rw [calendarArmed, hj]
      dsimp only
      rw [hf]
    obtain ⟨t, ht, hover, hsame, hlog, honly⟩ := Completes.of_endJob (ps := [.tar, .log]) hrow heff hlive
      (by simp [devOnly_iff])
    refine ⟨t, ht, ?_, ?_, honly.mono (by decide)⟩
    · rintro _ ⟨⟩
      exact ⟨hover, hsame .tar (by decide), hlog _ (by simp)⟩
    · intro hnone
      cases hnone
  | none =>
    have heff : calendarArmed s.dev = endJob j.id 3 0 (Dev.raise Src.metr Event.CALENDAR_ARMED
        (leBytes 4 (if j.arg = 0 then s.dev.tar.rtc else j.arg) ++
          leBytes 8 (calendarCheck (s.dev.blk Param.PASSIVE_CALENDAR)))
        { s.dev with tar := { s.dev.tar with armed := some (if j.arg = 0 then s.dev.tar.rtc else j.arg)
                                             passiveCheck := calendarCheck (s.dev.blk Param.PASSIVE_CALENDAR) } }) := by
      rw [calendarArmed, hj]
      dsimp only
      rw [hf]
    obtain ⟨t, ht, hover, hsame, hlog, honly⟩ := Completes.of_endJob (ps := [.tar, .log]) hrow heff hlive
      (by simp [devOnly_iff])
    refine ⟨t, ht, ?_, fun _ => ⟨hover, hsame .tar (by decide), hlog _ (by simp)⟩, honly.mono (by decide)⟩
    intro _ hsome
    cases hsome

/-- The effect of KEY_DERIVED for a job of KEY_DERIVE before its end (R399). -/
def keySlotDerived (n k : Nat) (j : Job) (d : Dev) : Dev :=
  let d := writeDerived k (j.arg / 256) d
  logDerived (ownerSrc j.owner) k 0 (if k = 0 ∨ k = 2 then
      { identityErased d with keys := { (identityErased d).keys with request := enrolRequest (identityErased d) } }
    else if k = 1 then certifyRecords n d else d)

theorem keyDerived_completes {j : Job} {s : State} {k : Nat} (hrun : s.clk.running = true) (hlive : LiveJob j s)
    (hj : deriveJob k s.dev = some j) (hlen : k < s.dev.keys.slots.length) : Completes (.keyDerived k) s fun t =>
      JobOver j 3 0 s t ∧ (keySlot t.dev k).kind = 1 ∧ (keySlot t.dev k).generation = j.arg / 256 ∧
        (∀ i < 16, i ≠ k → keySlot t.dev i = keySlot s.dev i) ∧
        (k = 0 ∨ k = 2 → t.dev.keys.identity = (if s.dev.keys.cert.isSome then 3 else 0)) ∧
        OnlyChanges [.acs, .log, .win, .keys, .par] s t := by
  have hrow : exec (.keyDerived k) s = .next (s.onDev (keyDerivedEff s.clk.frame k)) :=
    exec_when (b := fun _ => s.clk.running) rfl hrun
  have heff : keyDerivedEff s.clk.frame k s.dev = endJob j.id 3 0 (keySlotDerived s.clk.frame k j s.dev) := by
    rw [keyDerivedEff, hj]
    rfl
  have honly₀ : DevOnly [.keys, .par, .log] s.dev (keySlotDerived s.clk.frame k j s.dev) := by
    refine DevOnly.then (writeDerived_only k (j.arg / 256) s.dev) (.then (ps := [.keys]) ?_ (.raise _ _ _ _) (rs := [.keys, .log]))
    exact .ite (fun _ => setKeys_only _ _) fun _ => .ite (fun _ => certifyRecords_only _ _) fun _ => .refl _ _
  have hslots : (keySlotDerived s.clk.frame k j s.dev).keys.slots =
      s.dev.keys.slots.set k (derivedSlot k (j.arg / 256) (derivedPublic k (j.arg / 256) s.dev)) := by
    rw [← writeDerived_slots]
    unfold keySlotDerived
    dsimp only
    split
    · rfl
    · split
      · exact certifyRecords_slots ..
      · rfl
  have hident : k = 0 ∨ k = 2 →
      (keySlotDerived s.clk.frame k j s.dev).keys.identity = if s.dev.keys.cert.isSome then 3 else 0 := by
    intro hk
    unfold keySlotDerived
    dsimp only
    rw [if_pos hk]
    show (if (writeDerived k (j.arg / 256) s.dev).keys.cert.isSome then _ else _) = _
    rw [writeDerived_keys]
  obtain ⟨t, ht, hover, hsame, -, honly⟩ := Completes.of_endJob hrow heff hlive honly₀
  have hkeys : t.dev.keys = _ := hsame .keys (by decide)
  refine ⟨t, ht, hover, ?_, ?_, fun i _ hik => ?_, fun hk => by rw [hkeys]; exact hident hk, honly.mono (by decide)⟩
  · rw [keySlot, hkeys, hslots, nth_set_same _ hlen]
    rfl
  · rw [keySlot, hkeys, hslots, nth_set_same _ hlen]
    rfl
  · rw [keySlot, hkeys, hslots, nth_set_other _ _ hik]
    rfl

/-! The job of R409. -/

/-- Slot k of the root job is written (R409). -/
def rootSlotDerived (k : Nat) (d : Dev) : Dev := logDerived Src.serge k 0 (identityErased (writeDerived k 1 d))

theorem rootSlotDerived_only {k : Nat} (d : Dev) (hk : k < 13) : DevOnly [.keys, .log] d (rootSlotDerived k d) := by
  have hwrite : DevOnly [.keys] d (writeDerived k 1 d) := by
    intro p hp
    by_cases hpar : p = .par
    · subst hpar
      exact writeDerived_par 1 d hk
    · exact writeDerived_only k 1 d p (by simp_all)
  exact hwrite.then (DevOnly.then (qs := [.log]) (setKeys_only _ _) (.raise _ _ _ _) (rs := [.keys, .log]))

theorem rootSlotDerived_slots (k : Nat) (d : Dev) :
    (rootSlotDerived k d).keys.slots = d.keys.slots.set k (derivedSlot k 1 (derivedPublic k 1 d)) := by
  rw [← writeDerived_slots]
  rfl

theorem rootSlotDerived_rootJob (k : Nat) (d : Dev) : (rootSlotDerived k d).keys.rootJob = d.keys.rootJob := by
  show (writeDerived k 1 d).keys.rootJob = _
  rw [writeDerived_keys]

/-- The request rests on nothing that the end of the job changes. -/
theorem enrolRequest_congr {d e : Dev} (hkeys : e.keys = { d.keys with rootJob := none, request := enrolRequest d })
    (htar : e.tar = d.tar) : enrolRequest d = enrolRequest e := by
  simp only [enrolRequest, slotPublic, derivedKey, keySlot, hkeys, htar]

theorem rootDerived_completes {j : Job} {s : State} {k : Nat} (hrun : s.clk.running = true) (hlive : LiveJob j s)
    (hnone : deriveJob k s.dev = none) (hroot : s.dev.keys.rootJob = some j.id) (hk : k = 0 ∨ k = 2)
    (hlen : s.dev.keys.slots.length = 16) (hempty : (keySlot s.dev k).kind = 0) : Completes (.keyDerived k) s fun t =>
      (keySlot t.dev k).kind = 1 ∧ (keySlot t.dev k).generation = 1 ∧
        (∀ i < 16, i ≠ k → keySlot t.dev i = keySlot s.dev i) ∧
        ((keySlot s.dev (2 - k)).kind = 0 → t.dev.acs = s.dev.acs ∧ t.dev.keys.rootJob = some j.id) ∧
        ((keySlot s.dev (2 - k)).kind ≠ 0 → JobOver j 3 0 s t ∧ t.dev.keys.rootJob = none ∧
          t.dev.keys.request = enrolRequest t.dev) ∧
        OnlyChanges [.acs, .log, .win, .keys] s t := by
  have hrow : exec (.keyDerived k) s = .next (s.onDev (keyDerivedEff s.clk.frame k)) :=
    exec_when (b := fun _ => s.clk.running) rfl hrun
  have heff : keyDerivedEff s.clk.frame k s.dev = rootJobStep (rootSlotDerived k s.dev) := by
    rw [keyDerivedEff, hnone]
    exact if_pos ⟨by rw [hroot]; rfl, hk, hempty⟩
  have honly₀ := rootSlotDerived_only (k := k) s.dev (by omega)
  have hslots := rootSlotDerived_slots k s.dev
  have hjob := (rootSlotDerived_rootJob k s.dev).trans hroot
  generalize rootSlotDerived k s.dev = e at heff honly₀ hslots hjob
  have hsame : keySlot e k = derivedSlot k 1 (derivedPublic k 1 s.dev) := by
    rw [keySlot, hslots]
    exact nth_set_same _ (by omega) _
  have hother (i : Nat) (hik : i ≠ k) : keySlot e i = keySlot s.dev i := by
    rw [keySlot, hslots]
    exact nth_set_other _ _ hik _
  have hboth : ((keySlot e 0).kind ≠ 0 ∧ (keySlot e 2).kind ≠ 0) ↔ (keySlot s.dev (2 - k)).kind ≠ 0 := by
    have hone : (keySlot e k).kind ≠ 0 := by rw [hsame]; exact Nat.one_ne_zero
    obtain rfl | rfl := hk
    · rw [← hother 2 (by decide)]
      exact and_iff_right hone
    · rw [← hother 0 (by decide)]
      exact and_iff_left hone
  by_cases hdone : (keySlot s.dev (2 - k)).kind ≠ 0
  · have hend : keyDerivedEff s.clk.frame k s.dev =
        endJob j.id 3 0 { e with keys := { e.keys with rootJob := none, request := enrolRequest e } } := by
      rw [heff, rootJobStep, hjob]
      exact if_pos (hboth.2 hdone)
    obtain ⟨t, ht, hover, hrest, -, honly⟩ := Completes.of_endJob hrow hend hlive
      (honly₀.trans ((setKeys_only _ e).mono (by decide)))
    have hkeys : t.dev.keys = { e.keys with rootJob := none, request := enrolRequest e } := hrest .keys (by decide)
    have hslot (i : Nat) : keySlot t.dev i = keySlot e i := by rw [keySlot, hkeys]; rfl
    refine ⟨t, ht, by rw [hslot, hsame]; rfl, by rw [hslot, hsame]; rfl, fun i _ hik => by rw [hslot, hother i hik],
      fun k => absurd k hdone, fun _ => ⟨hover, by rw [hkeys], ?_⟩, honly.mono (by decide)⟩
    rw [← enrolRequest_congr hkeys (hrest .tar (by decide)), hkeys]
  · have hstay : keyDerivedEff s.clk.frame k s.dev = e := by
      rw [heff, rootJobStep, hjob]
      exact if_neg fun h => hdone (hboth.1 h)
    have hdev : (s.onDev (keyDerivedEff s.clk.frame k)).dev = e := hstay
    refine ⟨_, hrow, ?_, ?_, fun i _ hik => ?_, fun _ => ⟨?_, ?_⟩, fun k => absurd k hdone, .onDev ?_⟩
    · rw [hdev, hsame]; rfl
    · rw [hdev, hsame]; rfl
    · rw [hdev, hother i hik]
    · rw [hdev]
      exact honly₀ .acs (by decide)
    · rw [hdev, hjob]
    · rw [hstay]
      exact honly₀.mono (by decide)

/-! The token (R413). -/

theorem tokenFault_result {d : Dev} {b : List Byte} {f : Nat × Nat} (h : tokenFault d b = some f) : f.2 ≠ 0 := by
  unfold tokenFault at h
  dsimp only at h
  repeat' split at h
  all_goals cases h
  all_goals simp

/-- Over a device with the same jobs the job that checks the token is the same. -/
theorem endTokenJob_eq {j : Job} {d e : Dev} (hj : tokenJob d = some j) (hacs : e.acs = d.acs)
    (hroot : e.keys.rootJob = d.keys.rootJob) (result : Nat) :
    endTokenJob result e = endJob j.id (if result = 0 then 3 else 4) result e := by
  have hsame : tokenJob e = some j := by
    rw [← hj, tokenJob, tokenJob, hacs, hroot]
  rw [endTokenJob, hsame]

/-- An accepted token's own changes (R413): enrolled, every empty derived slot derived, the record key certified. -/
def tokenAccepted (n : Nat) (b : List Byte) (d : Dev) : Dev :=
  certifyRecords n (deriveEmpty (storeCounters { d with
    keys := { d.keys with
      cert := some b, identity := 1, erased := false, enrolSt := 3, enrolResult := 0, checking := false
      vault := { d.keys.vault with
        enrolSeq := tokenSeq b
        rootMin := if (tokenFlags b).testBit 1 ∧ tokenRoot b = 1 then 1 else d.keys.vault.rootMin } }
    pow := { d.pow with reopened := d.pow.reopened || (tokenFlags b).testBit 0 } }))

/-- The event of an accepted token and the mode that follows it (R43, R413). -/
def tokenLogged (m : Mode) (b : List Byte) (d : Dev) : Dev :=
  let next := tokenMode m b d
  let d := d.raise Src.serge Event.ENROLLED
    (leBytes 4 (tokenSeq b) ++ leBytes 1 (tokenRoot b) ++ leBytes 1 (next.getD m).code)
  match next with
  | some m => d.reqMode m .other (causeEvent Event.ENROLLED)
  | none => d

theorem acceptToken_eq (s : State) (b : List Byte) (d : Dev) :
    acceptToken s b d = tokenLogged s.clk.mode b (tokenAccepted s.clk.frame b d) := rfl

theorem tokenLogged_only (m : Mode) (b : List Byte) (d : Dev) : DevOnly [.log, .pow] d (tokenLogged m b d) := by
  unfold tokenLogged
  cases tokenMode m b d <;> simp [devOnly_iff, Dev.raise, Dev.reqMode]

theorem tokenLogged_pow (m : Mode) (b : List Byte) (d : Dev) : (tokenLogged m b d).pow =
    { d.pow with modeReqs := d.pow.modeReqs ++ ((tokenMode m b d).map fun m =>
      (⟨m, .other, causeEvent Event.ENROLLED⟩ : ModeReq)).toList } := by
  unfold tokenLogged
  cases tokenMode m b d <;> simp [Dev.raise, Dev.reqMode]

/-- What an accepted token changes, and what it sets (R413). -/
theorem tokenAccepted_only (n : Nat) (b : List Byte) (d : Dev) :
    DevOnly [.keys, .par, .log, .pow] d (tokenAccepted n b d) := by
  unfold tokenAccepted
  refine .trans ?_ (((deriveEmpty_only _).trans ((certifyRecords_only n _).mono (by decide))).mono (by decide))
  simp [devOnly_iff, storeCounters]

theorem tokenAccepted_pow (n : Nat) (b : List Byte) (d : Dev) : (tokenAccepted n b d).pow =
    { d.pow with reopened := d.pow.reopened || (tokenFlags b).testBit 0 } :=
  ((deriveEmpty_only _).trans ((certifyRecords_only n _).mono (by decide))) .pow (by decide)

theorem tokenAccepted_keys (n : Nat) (b : List Byte) (d : Dev) :
    (tokenAccepted n b d).keys.identity = 1 ∧ (tokenAccepted n b d).keys.cert = some b ∧
      (tokenAccepted n b d).keys.enrolSt = 3 ∧ (tokenAccepted n b d).keys.erased = false ∧
      (tokenAccepted n b d).keys.vault.enrolSeq = tokenSeq b ∧ (tokenAccepted n b d).keys.checking = false ∧
      (tokenAccepted n b d).keys.rootJob = d.keys.rootJob := by
  have h (e : Dev) : KeysRewritten e.keys (certifyRecords n (deriveEmpty e)).keys :=
    (deriveEmpty_keys e).trans (certifyRecords_keys n (deriveEmpty e))
  rw [tokenAccepted, h]
  exact ⟨rfl, rfl, rfl, rfl, rfl, rfl, rfl⟩

/-- The mode that follows rests on what the mode request leaves as it is. -/
theorem tokenMode_congr {d e : Dev} (m : Mode) (b : List Byte) (l : List ModeReq)
    (hpow : e.pow = { d.pow with modeReqs := l }) : tokenMode m b e = tokenMode m b d := by
  simp only [tokenMode, hpow]

theorem enrolled_completes {j : Job} {s : State} (hrun : s.clk.running = true) (hlive : LiveJob j s)
    (hchecking : s.dev.keys.checking = true) (hj : tokenJob s.dev = some j) : Completes .enrolled s fun t =>
      t.dev.keys.checking = false ∧
        (∀ f, tokenFault s.dev s.dev.keys.token = some f → JobOver j 4 f.2 s t ∧
          t.dev.keys = { s.dev.keys with enrolSt := 4, enrolResult := f.2, checking := false } ∧
          t.dev.pow = s.dev.pow) ∧
        (tokenFault s.dev s.dev.keys.token = none → t.dev.keys.identity = 1 ∧
          t.dev.keys.cert = some s.dev.keys.token ∧ t.dev.keys.enrolSt = 3 ∧ t.dev.keys.erased = false ∧
          t.dev.keys.vault.enrolSeq = tokenSeq s.dev.keys.token ∧ JobOver j 3 0 s t ∧
          t.dev.pow.modeReqs = s.dev.pow.modeReqs ++
            ((tokenMode s.clk.mode s.dev.keys.token t.dev).map fun m =>
              (⟨m, .other, causeEvent Event.ENROLLED⟩ : ModeReq)).toList) ∧
        OnlyChanges [.acs, .log, .win, .keys, .par, .pow] s t := by
  have hrow : exec .enrolled s = .next (s.onDev (enrolledEff s)) :=
    exec_when (b := fun _ => s.clk.running && s.dev.keys.checking) rfl (by simp [hrun, hchecking])
  cases hf : tokenFault s.dev s.dev.keys.token with
  | some f =>
    have heff : enrolledEff s s.dev = endJob j.id 4 f.2 (refuseToken f.1 f.2 s.dev) := by
      rw [enrolledEff, hf]
      dsimp only
      rw [endTokenJob_eq (e := refuseToken f.1 f.2 s.dev) hj rfl rfl, if_neg (tokenFault_result hf)]
    obtain ⟨t, ht, hover, hsame, -, honly⟩ := Completes.of_endJob (ps := [.keys, .log]) hrow heff hlive
      (by simp [devOnly_iff, refuseToken])
    have hkeys : t.dev.keys = { s.dev.keys with enrolSt := 4, enrolResult := f.2, checking := false } :=
      hsame .keys (by decide)
    refine ⟨t, ht, by rw [hkeys], ?_, ?_, honly.mono (by decide)⟩
    · rintro _ ⟨⟩
      exact ⟨hover, hkeys, hsame .pow (by decide)⟩
    · intro hnone
      cases hnone
  | none =>
    obtain ⟨e, he⟩ : ∃ e, e = tokenAccepted s.clk.frame s.dev.keys.token s.dev := ⟨_, rfl⟩
    have honly₀ : DevOnly [.keys, .par, .log, .pow] s.dev e := he ▸ tokenAccepted_only _ _ _
    have hpow₀ : e.pow = _ := he ▸ tokenAccepted_pow ..
    obtain ⟨hident, hcert, hst, herased, hseq, hdone, hroot⟩ := tokenAccepted_keys s.clk.frame s.dev.keys.token s.dev
    rw [← he] at hident hcert hst herased hseq hdone hroot
    have hlogged := tokenLogged_only s.clk.mode s.dev.keys.token e
    have hpow := tokenLogged_pow s.clk.mode s.dev.keys.token e
    have heff : enrolledEff s s.dev = endJob j.id 3 0 (tokenLogged s.clk.mode s.dev.keys.token e) := by
      rw [enrolledEff, hf]
      dsimp only
      rw [acceptToken_eq, ← he, endTokenJob_eq hj ((honly₀.trans (hlogged.mono (by decide))) .acs (by decide))
        (by rw [hlogged .keys (by decide), hroot]), if_pos rfl]
    generalize tokenLogged s.clk.mode s.dev.keys.token e = e' at *
    obtain ⟨t, ht, hover, hsame, -, honly⟩ := Completes.of_endJob hrow heff hlive (honly₀.trans (hlogged.mono (by decide)))
    have hkeys : t.dev.keys = e.keys := (hsame .keys (by decide)).trans (hlogged .keys (by decide))
    have hpow' := (show t.dev.pow = e'.pow from hsame .pow (by decide)).trans hpow
    refine ⟨t, ht, by rw [hkeys, hdone], ?_, fun _ => ?_, honly.mono (by decide)⟩
    · intro _ hsome
      cases hsome
    · rw [hkeys]
      refine ⟨hident, hcert, hst, herased, hseq, hover, ?_⟩
      rw [tokenMode_congr _ _ _ hpow', hpow', hpow₀]

/-! The rest, and the statement. -/

theorem attested_completes {j : Job} {s : State} (hlive : LiveJob j s) (hj : attestJob s.dev = some j)
    (hup : cryptoUp s.dev = true) : Completes .attested s fun t => JobOver j 3 0 s t ∧
      t.dev.keys = { s.dev.keys with
        attest := s.dev.keys.statement ++ slice (slotSign s.dev 0 s.dev.keys.statement) 0 29792 } ∧
      OnlyChanges [.acs, .log, .win, .keys] s t := by
  have hrow : exec .attested s = .next (s.onDev attestedEff) := exec_when (b := fun _ => cryptoUp s.dev) rfl hup
  have heff : attestedEff s.dev = endJob j.id 3 0 (Dev.raise (ownerSrc j.owner) Event.ATTESTED
      (leBytes 2 j.id ++ leBytes 1 j.owner) { s.dev with keys := { s.dev.keys with
        attest := s.dev.keys.statement ++ slice (slotSign s.dev 0 s.dev.keys.statement) 0 29792 } }) := by
    rw [attestedEff, hj]
  obtain ⟨t, ht, hover, hsame, -, honly⟩ := Completes.of_endJob hrow heff hlive
    ((setKeys_only _ _).then (.raise _ _ _ _) (rs := [.keys, .log]))
  exact ⟨t, ht, hover, hsame .keys (by decide), honly.mono (by decide)⟩

theorem imageVerified_completes {j : Job} {s : State} (hrun : s.clk.running = true) (hlive : LiveJob j s)
    (hj : verifyJob s.dev = some j) : Completes (.imageVerified true) s fun t =>
      JobOver j (if (verifyStaged (ownerSrc j.owner) true s.dev).2 = 0 then 3 else 4)
        (verifyStaged (ownerSrc j.owner) true s.dev).2 s t ∧
      t.dev.upd.st = (if (verifyStaged (ownerSrc j.owner) true s.dev).2 = 0 then 4 else 7) ∧
      t.dev.upd.result = (verifyStaged (ownerSrc j.owner) true s.dev).2 ∧
      t.dev.upd.activeSet = s.dev.upd.activeSet ∧ OnlyChanges [.acs, .log, .win, .upd] s t := by
  have hrow : exec (.imageVerified true) s = .next (s.onDev (imageVerifiedEff true)) :=
    exec_when (b := fun _ => s.clk.running || s.dev.upd.bootRecovery) rfl (by simp [hrun])
  have heff : imageVerifiedEff true s.dev = let r := verifyStaged (ownerSrc j.owner) true s.dev
      endJob j.id (if r.2 = 0 then 3 else 4) r.2 r.1 := by
    rw [imageVerifiedEff, hj]
    dsimp only
    split
    · rename_i h
      rw [h]
    · rfl
  obtain ⟨honly₀, hactive, hresult, hst⟩ := verifyStaged_verified (ownerSrc j.owner) true s.dev
  obtain ⟨t, ht, hover, hsame, -, honly⟩ := Completes.of_endJob hrow heff hlive honly₀
  have hupd : t.dev.upd = _ := hsame .upd (by decide)
  exact ⟨t, ht, hover, by rw [hupd, hst], by rw [hupd, hresult], by rw [hupd, hactive], honly.mono (by decide)⟩

end Sys2Proof.Machine

open Sys2Proof Sys2Proof.Machine

/-- Settles O34: each row ends its job over its own change, which leaves the jobs as they are. -/
theorem jobEnds : Obligations.JobEnds := by
  unfold Obligations.JobEnds
  intro j s hrun hlive
  refine ⟨fun hkind => ?scrub, fun r hkind => ?failed, fun hcancel => ?cancelled, fun hkind hgood => ?swap,
    fun hj => calendarArmed_completes hrun hlive hj,
    fun k hj hlen _ => keyDerived_completes hrun hlive hj hlen,
    fun k hnone hroot hk hlen hempty => rootDerived_completes hrun hlive hnone hroot hk hlen hempty,
    fun hj hup => attested_completes hlive hj hup,
    fun hchecking hj => enrolled_completes hrun hlive hchecking hj, fun hj r hr => ?verified⟩
  case scrub =>
    have heff : jobEndedEff s.clk.frame j.id .done s.dev = endJob j.id 3 0 s.dev :=
      (jobEndedEff_done _ hlive).trans (if_pos hkind)
    obtain ⟨t, ht, hover, -, -, honly⟩ := Completes.of_endJob (exec_jobEnded _ hrun) heff hlive (.refl [] _)
    exact ⟨t, ht, hover, honly⟩
  case failed =>
    have heff : jobEndedEff s.clk.frame j.id (.failed r) s.dev = endJob j.id 4 r s.dev :=
      (jobEndedEff_failed _ _ hlive).trans (if_pos hkind)
    obtain ⟨t, ht, hover, -, -, honly⟩ := Completes.of_endJob (exec_jobEnded _ hrun) heff hlive (.refl [] _)
    exact ⟨t, ht, hover, honly⟩
  case cancelled =>
    have heff : jobEndedEff s.clk.frame j.id .cancelled s.dev = endJob j.id 5 0 s.dev :=
      (jobEndedEff_cancelled _ hlive).trans (if_pos hcancel)
    obtain ⟨t, ht, hover, -, -, honly⟩ := Completes.of_endJob (exec_jobEnded _ hrun) heff hlive (.refl [] _)
    exact ⟨t, ht, hover, honly⟩
  case swap =>
    have heff : jobEndedEff s.clk.frame j.id .done s.dev =
        endJob j.id 3 0 { s.dev with nfc := { s.dev.nfc with swapAt := some (s.clk.frame + 1) } } := by
      rw [jobEndedEff_done _ hlive, hkind, if_neg (by decide), if_pos rfl, swapJobEnd, hgood]
    obtain ⟨t, ht, hover, hsame, -, honly⟩ := Completes.of_endJob (ps := [.nfc]) (exec_jobEnded _ hrun) heff hlive
      (by simp [devOnly_iff])
    exact ⟨t, ht, hover, hsame .nfc (by decide), honly.mono (by decide)⟩
  case verified =>
    subst hr
    exact imageVerified_completes hrun hlive hj

end

section
/-!
PROOF. The host's presence, its ports and the stream's overrun (R95, R96, R101, R262), but for the reading of the heartbeat.
-/

namespace Sys2Proof.Machine

/-! The session of a lost host (R252, R262). -/

theorem takeAuth_open (src means : Nat) (id : List Byte) (n : Nat) (d : Dev) :
    (takeAuth src means id n d).ses.isOpen = d.ses.isOpen := by
  unfold takeAuth
  dsimp only
  rw [recordAuth_only _ .ses (by decide)]
  split <;> rfl

/-- A refused contract leaves the session open as it was, and an authorised session's grace. -/
theorem pncRefuse_session (n cause : Nat) (d : Dev) : Grows d (pncRefuse n cause d) ∧
    (pncRefuse n cause d).ses.isOpen = d.ses.isOpen ∧
    (d.ses.auth.isSome = true → (pncRefuse n cause d).ses.grace = d.ses.grace) := by
  have hrefused : Grows d (refusedDev cause d) := ⟨List.subset_append_left _ _, List.Subset.refl _, fun _ h => h⟩
  cases hc : d.ses.heldCard with
  | none =>
    have h : pncRefuse n cause d = refusedDev cause d := by simp only [pncRefuse, hc]; rfl
    rw [h]
    exact ⟨hrefused, rfl, fun _ => rfl⟩
  | some id =>
    cases ha : d.ses.auth with
    | some a =>
      have h : pncRefuse n cause d = refusedDev cause d := by simp [pncRefuse, hc, ha, refusedDev]
      rw [h]
      exact ⟨hrefused, rfl, fun _ => rfl⟩
    | none =>
      have h : pncRefuse n cause d = takeAuth Src.card 2 id n (refusedDev cause d) := by
        simp [pncRefuse, hc, ha, refusedDev]
      rw [h]
      exact ⟨hrefused.trans (takeAuth_taken ..).grows, takeAuth_open .., fun k => by cases k⟩

/-- The events stay, as does what the loss of the host does to the session (R262). -/
structure HostGone (n : Nat) (d t : Dev) : Prop where
  only : DevOnly [.log, .led, .veh, .ses, .sw] d t
  grows : Grows d t
  isOpen : t.ses.isOpen = d.ses.isOpen
  grace : d.ses.isOpen = true → d.ses.auth.isSome = true → t.ses.grace = some n

theorem refuseRequest_session (d : Dev) : DevOnly [.log, .ses] d (refuseRequest d) ∧ Grows d (refuseRequest d) ∧
    (refuseRequest d).ses = { d.ses with request := none } := by
  unfold refuseRequest
  split
  · exact ⟨by simp [devOnly_iff], ⟨List.subset_append_left _ _, List.Subset.refl _, fun _ h => h⟩, rfl⟩
  · rename_i h
    exact ⟨.refl _ _, Grows.refl _, by rw [← h]⟩

/-- The session's record that the host is lost, and the start of the grace (R262). -/
def graceStarted (n : Nat) (d : Dev) : Dev :=
  if d.ses.isOpen then
    { d with ses := { d.ses with
        flags := d.ses.flags ||| 0x400#32, grace := if d.ses.auth.isSome then some n else none } }
  else d

theorem sessionHostLost_eq (n : Nat) (d : Dev) : sessionHostLost n d =
    if (refuseRequest (graceStarted n d)).veh.contract = 4 then pncRefuse n 3 (refuseRequest (graceStarted n d))
    else refuseRequest (graceStarted n d) := rfl

theorem graceStarted_gone (n : Nat) (d : Dev) : HostGone n d (graceStarted n d) := by
  unfold graceStarted
  split
  · exact ⟨by simp [devOnly_iff], ⟨List.Subset.refl _, List.Subset.refl _, fun _ h => h⟩, rfl, fun _ k => if_pos k⟩
  · rename_i h
    exact ⟨.refl _ _, Grows.refl _, rfl, fun k => absurd k h⟩

theorem graceStarted_auth (n : Nat) (d : Dev) : (graceStarted n d).ses.auth = d.ses.auth := by
  unfold graceStarted
  split <;> rfl

theorem sessionHostLost_gone (n : Nat) (d : Dev) : HostGone n d (sessionHostLost n d) := by
  rw [sessionHostLost_eq]
  have hauth := graceStarted_auth n d
  obtain ⟨honly₁, hgrows₁, hopen₁, hgrace₁⟩ := graceStarted_gone n d
  generalize graceStarted n d = e at *
  obtain ⟨honly₂, hgrows₂, hses₂⟩ := refuseRequest_session e
  generalize refuseRequest e = f at *
  have hopen₂ : f.ses.isOpen = d.ses.isOpen := by rw [hses₂, hopen₁]
  have hauth₂ : f.ses.auth = d.ses.auth := by rw [hses₂, hauth]
  have honly : DevOnly [.log, .led, .veh, .ses, .sw] d f := honly₁.trans (honly₂.mono (by decide))
  split
  · obtain ⟨hgrows₃, hopen₃, hgrace₃⟩ := pncRefuse_session n 3 f
    refine ⟨honly.trans ((pncRefuse_refused n 3 f).only.mono (by decide)), (hgrows₁.trans hgrows₂).trans hgrows₃,
      hopen₃.trans hopen₂, fun ho ha => ?_⟩
    rw [hgrace₃ (by rw [hauth₂, ha]), hses₂]
    exact hgrace₁ ho ha
  · refine ⟨honly, hgrows₁.trans hgrows₂, hopen₂, fun ho ha => ?_⟩
    rw [hses₂]
    exact hgrace₁ ho ha

theorem stageHostLost_only (d : Dev) : DevOnly [.sw] d (stageHostLost d) := by
  refine DevOnly.foldl (fun e j => .ite (fun _ => .refl _ _) fun _ => ?_) _ d
  have honHsw (k : Nat) (f : Hsw → Hsw) : DevOnly [.sw] e (onHsw k f e) := by simp [devOnly_iff, onHsw]
  split
  · exact honHsw _ _
  · exact honHsw _ _
  · exact .refl _ _

theorem hostLostRules_gone (n : Nat) (d : Dev) : HostGone n d (hostLostRules n d) := by
  obtain ⟨honly, hgrows, hopen, hgrace⟩ := sessionHostLost_gone n d
  have hstage := stageHostLost_only (sessionHostLost n d)
  have hses : (stageHostLost (sessionHostLost n d)).ses = _ := hstage .ses (by decide)
  refine ⟨honly.trans (hstage.mono (by decide)), hgrows.trans (Grows.of_only hstage (by decide) (by decide)), ?_, ?_⟩
  · rw [hostLostRules, hses, hopen]
  · rw [hostLostRules, hses]
    exact hgrace

theorem hostLost_completes {s : State} (hrun : s.clk.running = true) (hpresent : s.dev.win.hostPresent = true)
    (hmissed : s.dev.nat Param.HOST_BEAT_MISS ≤ s.dev.win.beatMissed) : Completes .hostLost s fun t =>
      t.dev.win = { s.dev.win with hostPresent := false, lostFrame := s.clk.frame } ∧
        Logged Src.host Event.HOST_LOST (leBytes 8 s.clk.frame) t ∧
        (s.dev.ses.isOpen = true → s.dev.ses.auth.isSome = true → t.dev.ses.grace = some s.clk.frame) ∧
        t.dev.ses.isOpen = s.dev.ses.isOpen ∧ OnlyChanges [.win, .log, .led, .veh, .ses, .sw] s t := by
  refine Completes.of_when (b := fun d => s.clk.running && hostLostDue d) (f := hostLostEff s.clk.frame) rfl
    (by simp [hrun, hostLostDue, hpresent, hmissed]) ?_
  obtain ⟨e, he⟩ : ∃ e : Dev, e = Dev.raise Src.host Event.HOST_LOST (leBytes 8 s.clk.frame)
      { s.dev with win := { s.dev.win with hostPresent := false, lostFrame := s.clk.frame } } := ⟨_, rfl⟩
  have hdev : (s.onDev (hostLostEff s.clk.frame)).dev = hostLostRules s.clk.frame e := by rw [he]; rfl
  have honly₀ : DevOnly [.win, .log] s.dev e := by simp [he, devOnly_iff]
  have hses : e.ses = s.dev.ses := honly₀ .ses (by decide)
  obtain ⟨honly, ⟨hnow, -, -⟩, hopen, hgrace⟩ := hostLostRules_gone s.clk.frame e
  rw [hses] at hopen hgrace
  refine ⟨?_, ?_, ?_, ?_, .onDev ?_⟩
  · rw [hdev, honly .win (by decide), he]
    rfl
  · rw [Logged, hdev]
    exact hnow (by rw [he]; simp)
  · rw [hdev]
    exact hgrace
  · rw [hdev, hopen]
  · show DevOnly _ _ (s.onDev (hostLostEff s.clk.frame)).dev
    rw [hdev]
    exact (honly₀.mono (by decide)).trans (honly.mono (by decide))

/-! Ports and the stream (R95, R96, R101). -/

theorem portFailed_completes {p : Port} {s : State} (hok : (s.dev.win.port p).failed = false)
    (hbad : 16 ≤ (s.dev.win.port p).bad) : Completes (.portFailed p) s fun t =>
      t.dev.win.port p = { s.dev.win.port p with failed := true } ∧ t.dev.win.shadow.irqSet.getLsbD 8 = true ∧
        Logs Src.host Event.PORT_FAILED (leBytes 1 (portCode p)) s t ∧ OnlyChanges [.win, .log] s t := by
  refine Completes.of_when (b := fun d => !(d.win.port p).failed && decide (16 ≤ (d.win.port p).bad)) rfl (by simp [hok, hbad]) ?_
  refine ⟨by cases p <;> rfl, ?_, by cases p <;> rfl, .onDev ?_⟩
  · simp [State.onDev, Dev.irq]
  · cases p <;> simp [devOnly_iff]

theorem portRestored_completes {p : Port} {s : State} (hfailed : (s.dev.win.port p).failed = true)
    (hgood : 16 ≤ (s.dev.win.port p).good) : Completes (.portRestored p) s fun t =>
      t.dev.win.port p = { s.dev.win.port p with failed := false } ∧ t.dev.win.shadow.irqSet.getLsbD 8 = true ∧
        Logs Src.host Event.PORT_RESTORED (leBytes 1 (portCode p)) s t ∧ OnlyChanges [.win, .log] s t := by
  refine Completes.of_when (b := fun d => (d.win.port p).failed && decide (16 ≤ (d.win.port p).good)) rfl
    (by simp [hfailed, hgood]) ?_
  refine ⟨by cases p <;> rfl, ?_, by cases p <;> rfl, .onDev ?_⟩
  · simp [State.onDev, Dev.irq]
  · cases p <;> simp [devOnly_iff]

theorem lastN_append_last {α : Type} {n : Nat} (hn : 0 < n) (l : List α) (x : α) :
    (lastN n (l ++ [x])).getLast? = some x := by
  rw [lastN, List.getLast?_drop, if_neg (by simp; omega), List.getLast?_concat]

theorem overrunEff_last (n : Nat) (d : Dev) : (overrunEff n d).log.general.getLast? = some (overrunEntry n d) := by
  unfold overrunEff
  dsimp only
  rw [lastN_append_last (by decide)]

theorem streamOverrun_completes {s : State} (homitted : 0 < s.dev.win.omitted) (hspace : ringFull s.dev.win = false) :
    Completes .streamOverrun s fun t =>
      t.dev.win = { s.dev.win with omitted := 0, stream := t.dev.win.stream } ∧
        t.dev.log.nextSeq = s.dev.log.nextSeq + 1 ∧
        (∃ e, t.dev.win.stream = e :: s.dev.win.stream ∧ e.seq = s.dev.log.nextSeq ∧ e.frame = s.clk.frame ∧
          e.code = Event.STREAM_OVERRUN ∧ e.data = leBytes 4 s.dev.win.omitted ++ leBytes 4 s.dev.win.omittedFirst ∧
          t.dev.log.general.getLast? = some e) ∧
        OnlyChanges [.win, .log] s t := by
  refine Completes.of_when (b := overrunDue) (f := overrunEff s.clk.frame) rfl (by simp [overrunDue, homitted, hspace]) ?_
  exact ⟨rfl, rfl, ⟨overrunEntry s.clk.frame s.dev, rfl, rfl, rfl, rfl, rfl,  overrunEff_last ..⟩,
    .onDev (by simp [devOnly_iff, overrunEff])⟩

end Sys2Proof.Machine

end

section
/-!
SUPPORT. What the lead's reading of the heartbeat left (R101) stays to the end of the frame: no step of a frame after the
reading, nor the end of a frame with both lanes out, touches it.
-/

namespace Sys2Proof.Machine

/-- The host's heartbeat and what the lead has read of it (R101). -/
def Win.beats (w : Win) : Word × Word × Nat × Nat × Bool :=
  (w.heartbeat, w.beatSeen, w.beatFrame, w.beatMissed, w.hostPresent)

/-- From d to e the heartbeat and what has been read of it stay. -/
structure Beats (d e : Dev) : Prop where
  beats : e.win.beats = d.win.beats

namespace Beats

theorem refl (d : Dev) : Beats d d := ⟨rfl⟩

theorem of_eq {d e : Dev} (h : e.win.beats = d.win.beats) : Beats d e := ⟨h⟩

theorem trans {d e f : Dev} (h : Beats d e) (k : Beats e f) : Beats d f := ⟨k.beats.trans h.beats⟩

theorem of_only {ps : List Part} {d e : Dev} (h : DevOnly ps d e) (hw : .win ∉ ps := by decide) : Beats d e :=
  ⟨by rw [h .win hw]⟩

theorem raise (src code : Nat) (data : List Byte) (d : Dev) : Beats d (d.raise src code data) := ⟨rfl⟩

theorem reqMode (m : Mode) (k : ReqKind) (c : Nat) (d : Dev) : Beats d (d.reqMode m k c) := ⟨rfl⟩

theorem ckptDue (k : Nat) (d : Dev) : Beats d (d.ckptDue k) := ⟨rfl⟩

theorem safeStop (m : Mode) (k ev : Nat) (d : Dev) : Beats d (d.safeStop m k ev) := of_only (Dev.safeStop_only m k ev d)

/-- The composition of two steps, the later one first. -/
theorem comp {d e f : Dev} (k : Beats e f) (h : Beats d e) : Beats d f := h.trans k

/-- A step after a change of other parts. -/
theorem after {d e f : Dev} (k : Beats e f) (h : e.win.beats = d.win.beats) : Beats d f := (of_eq h).trans k

theorem ite {d e f : Dev} {c : Prop} [Decidable c] (h : Beats d e) (k : Beats d f) : Beats d (if c then e else f) := by
  split <;> assumption

theorem when {d : Dev} {f : Dev → Dev} (h : Beats d (f d)) (c : Bool) : Beats d (d.when c f) := by
  cases c
  · exact refl d
  · exact h

theorem foldl {α : Type} {f : Dev → α → Dev} (h : ∀ d a, Beats d (f d a)) (l : List α) (d : Dev) : Beats d (l.foldl f d) := by
  induction l generalizing d with
  | nil => exact refl d
  | cons a l ih => exact (h d a).trans (ih _)

end Beats

theorem safeOutputs_beats (n : Nat) (d : Dev) : Beats d (safeOutputs n d) := .of_only (safeOutputs_only n d)

theorem requestOpen_beats (n : Nat) (d : Dev) : Beats d (requestOpen n d) := .of_only (requestOpen_only n d)

theorem endMode_beats (m : Mode) (d : Dev) : Beats d (endMode m d) := .of_only (endMode_only m d)

theorem endSession_beats (s : State) (cause : Nat) (d : Dev) : Beats d (endSession s cause d) :=
  .of_only (endSession_only s cause d)

theorem markS_beats (k : Nat) (d : Dev) : Beats d (markS k d) := .of_eq rfl

theorem orderedStop_beats (s : State) (cause : Nat) (d : Dev) : Beats d (orderedStop s cause d) := by
  unfold orderedStop
  refine .ite (.ite (.of_eq rfl) (.ite (.of_eq rfl) ?_)) (.refl d)
  exact (endSession_beats s cause _).after rfl

theorem trip_beats (s : State) (f tier : Nat) (value : Int) (sBit : Option Nat) (d : Dev) :
    Beats d (trip s f tier value sBit d) := by
  unfold trip
  extract_lets n fresh _ x _ y z w
  have hx : Beats d x := (safeOutputs_beats n _).after rfl
  have hz : Beats x z := (Beats.raise _ _ _ y).after rfl
  have hw : Beats z w := by
    unfold w
    cases sBit
    · exact .ite (.safeStop ..) (.refl z)
    · exact (Beats.safeStop _ _ _ _).after rfl
  exact .ite (hx.trans (hz.trans (hw.trans (endSession_beats ..)))) hx

theorem dualTrip_beats (s : State) (door : Bool) (tier : Nat) (d : Dev) : Beats d (dualTrip s door tier d) := trip_beats ..

theorem dualFirmware_beats (s : State) (door : Bool) (d : Dev) : Beats d (dualFirmware s door d) := .when (dualTrip_beats ..) _

theorem discEff_beats (s : State) (door : Bool) (d : Dev) : Beats d (discEff s door d) :=
  (Beats.raise _ _ _ _).trans (dualTrip_beats ..) |>.after rfl

theorem pathMLost_beats (s : State) (value : Int) (d : Dev) : Beats d (pathMLost s value d) :=
  (trip_beats ..).after rfl

theorem pathsLost_beats (s : State) (d : Dev) :
    Beats d (pathMLost s 0 { d with saf := { d.saf with pathSLost := true } }) := (pathMLost_beats s 0 _).after rfl

theorem pilotTrip_beats (s : State) (d : Dev) : Beats d (pilotTrip s d) :=
  (Beats.when (trip_beats ..) _).trans <| (Beats.when (trip_beats ..) _).trans <| (Beats.when (trip_beats ..) _).trans <|
    (Beats.when (trip_beats ..) _).trans <| .when (trip_beats ..) _

theorem peTrip_beats (s : State) (d : Dev) : Beats d (peTrip s d) :=
  (Beats.when (trip_beats ..) _).trans (.when (trip_beats ..) _)

theorem otTrip_beats (s : State) (d : Dev) : Beats d (otTrip s d) := .when (trip_beats ..) _

theorem tierTrip_beats (s : State) (k : Nat) (d : Dev) : Beats d (tierTrip s k d) := .when (trip_beats ..) _

theorem rcStep_beats (d : Dev) : Beats d (rcStep d) := .ite (.ite (.of_eq rfl) (.of_eq rfl)) (.refl d)

/-- A contactor that is not closed is a trip (R272). -/
theorem notClosed_beats (s : State) (tier : Nat) (b : Option Nat) (data : List Byte) (d : Dev) : Beats d (trip s 3 tier 0 b
    ((requestOpen s.clk.frame d).raise Src.serge Event.CONTACTOR_NOT_CLOSED data)) :=
  (requestOpen_beats _ d).trans ((Beats.raise ..).trans (trip_beats ..))

theorem droppedStep_beats (s : State) (d : Dev) : Beats d (droppedStep s d) := by
  unfold droppedStep
  split
  · exact .when (notClosed_beats ..) _
  · exact .refl d

theorem closeCheck_beats (s : State) (d : Dev) : Beats d (closeCheck s d) :=
  .ite (.of_eq rfl) ((notClosed_beats ..).after rfl)

theorem degradedExpiry_beats (s : State) (d : Dev) : Beats d (degradedExpiry s d) := (orderedStop_beats ..).after rfl

/-! The lock and the load-switch channels (R312, R321, R329, R337). -/

theorem driveNow_beats (n : Nat) (toLock second : Bool) (d : Dev) : Beats d (driveNow n toLock second d) :=
  .ite ((Beats.when (.of_eq rfl) _).after rfl) (.refl d)

theorem releaseLock_beats (n : Nat) (d : Dev) : Beats d (releaseLock n d) :=
  .ite (.ite (.of_eq rfl) ((Beats.ite (.refl _) (driveNow_beats ..)).after rfl)) (.refl d)

theorem lockTick_beats (n : Nat) (fb : Bool) (i : Nat) (d : Dev) : Beats d (lockTick n fb i d) := by
  unfold lockTick
  dsimp only
  split
  · exact (driveNow_beats ..).after rfl
  · exact .of_eq rfl

theorem bridgeClear_beats (d : Dev) : Beats d (bridgeClear d) := .ite ((Beats.raise ..).after rfl) (.refl d)

theorem followCommand_beats (n k : Nat) (d : Dev) : Beats d (followCommand n k d) :=
  .ite (.of_eq rfl) <| .ite (.of_eq rfl) <| .ite (.of_eq rfl) <|
    .ite (.ite (.of_eq rfl) (.refl d)) (.ite (.of_eq rfl) (.refl d))

theorem setCommand_beats (n k cmd duty : Nat) (d : Dev) : Beats d (setCommand n k cmd duty d) :=
  .ite (.ite (.of_eq rfl) (.of_eq rfl)) (.of_eq rfl)

theorem ruleStep_beats (s : State) (k : Nat) (d : Dev) : Beats d (ruleStep s k d) := by
  unfold ruleStep
  split
  · exact .ite (.refl d) (setCommand_beats ..)
  · exact .refl d

theorem channelApply_beats (s : State) (k : Nat) (d : Dev) : Beats d (channelApply s k d) := by
  unfold channelApply
  extract_lets n x y z
  have hy : Beats x y := by
    unfold y
    split
    · exact setCommand_beats ..
    · exact .refl x
  have hz : Beats y z := .ite ((Beats.raise ..).after rfl) (.refl y)
  have hp (e : Dev) : Beats e (pwmRetune n k e) := .when (.of_eq rfl) _
  exact (ruleStep_beats s k d).trans <| hy.trans <| hz.trans <| (hp z).trans (followCommand_beats ..)

theorem stageApply_beats (s : State) (d : Dev) : Beats d (stageApply s d) :=
  .ite ((bridgeClear_beats d).trans (.foldl (fun _ _ => channelApply_beats ..) _ _)) (.refl d)

theorem offReport_beats (k : Nat) (d : Dev) : Beats d (offReport k d) :=
  .ite (.ite ((Beats.raise ..).comp <| (Beats.ckptDue ..).comp ((Beats.raise ..).after rfl))
    ((Beats.raise ..).after rfl)) (.refl d)

theorem statusRead_beats (n k : Nat) (x : HswIn) (d : Dev) : Beats d (statusRead n k x d) :=
  Beats.comp (e := offReport k _) (.of_eq rfl) ((offReport_beats ..).after rfl)

theorem returnOne_beats (n : Nat) (d : Dev) : Beats d (returnOne n d) := by
  unfold returnOne
  split
  · exact .ite (.of_eq rfl) (.of_eq rfl)
  · exact .of_eq rfl

theorem stageRead_beats (n : Nat) (f : FrameIn) (d : Dev) : Beats d (stageRead n f d) := by
  unfold stageRead
  extract_lets x inRange w dropped _ y
  have hx : Beats d x := .foldl (fun _ _ => statusRead_beats ..) _ _
  clear_value x
  have hy : Beats x y := .of_eq rfl
  exact (Beats.ite (returnOne_beats n y) (.refl y)).comp (hy.comp hx)

/-! The safety step (R269 to R299). -/

theorem openConcluded_beats (s : State) (d : Dev) : Beats d (openConcluded s d) := by
  unfold openConcluded
  extract_lets n _ x
  have hx : Beats d x := by
    unfold x
    split
    · exact endSession_beats ..
    · exact .ite (.of_eq rfl) (.refl d)
  exact hx.trans (releaseLock_beats ..)

theorem openConclude_beats (s : State) (bad : Option Nat) (d : Dev) : Beats d (openConclude s bad d) := by
  cases bad with
  | none => exact (openConcluded_beats ..).after rfl
  | some what =>
    refine (openConcluded_beats ..).comp <| Beats.comp (.ite (.refl _) (endSession_beats ..)) ?_
    exact (Beats.safeStop ..).comp <| (markS_beats ..).comp <| (Beats.raise ..).after rfl

theorem openingStep_beats (s : State) (d : Dev) : Beats d (openingStep s d) := by
  unfold openingStep
  extract_lets n x _ y
  have hx : Beats d x := .ite (.of_eq rfl) (.refl d)
  have hy : Beats d y := hx.trans (.ite (.of_eq rfl) (.refl x))
  split
  · exact hy
  · exact hy.trans (openConclude_beats ..)

theorem rearm_beats (n : Nat) (d : Dev) : Beats d (rearm n d) := by
  unfold rearm
  have hr : Beats d (releaseWeld d) := .when (.of_eq rfl) _
  refine .ite (.refl d) (.ite hr (hr.trans (.foldl (fun e f => ?_) _ _)))
  exact .ite ((Beats.raise ..).after rfl) (.refl e)

theorem safetyStep_beats (s : State) (levels : BitVec 7) (fluxOk : Bool) (d : Dev) : Beats d (safetyStep s levels fluxOk d) := by
  have hs : Beats d (snapshotStep levels fluxOk d) := .of_eq rfl
  unfold safetyStep
  refine (rearm_beats ..).comp <| (Beats.when (degradedExpiry_beats ..) _).comp <| (openingStep_beats ..).comp <|
    (Beats.when (closeCheck_beats ..) _).comp <| (droppedStep_beats ..).comp <| (otTrip_beats ..).comp <| (peTrip_beats ..).comp <|
    (Beats.when (pathMLost_beats ..) _).comp <| (Beats.foldl (fun _ _ => tierTrip_beats ..) _ _).comp <| (rcStep_beats _).comp <|
    (pilotTrip_beats ..).comp <| (Beats.when (pathsLost_beats ..) _).comp <|
    (Beats.when (discEff_beats ..) _).comp <| (Beats.when (discEff_beats ..) _).comp <| (dualFirmware_beats ..).comp <|
    (dualFirmware_beats ..).comp hs

theorem digestStep_beats (n : Nat) (d : Dev) : Beats d (digestStep n d) := .when (.of_eq rfl) _

theorem periodicDue_beats (n : Nat) (d : Dev) : Beats d (periodicDue n d) := .when (Beats.ckptDue ..) _

theorem drainQueue_beats (d : Dev) : Beats d (drainQueue d) := (Beats.foldl (fun _ _ => .raise ..) _ _).after rfl

theorem drainRing_beats (d : Dev) : Beats d (drainRing d) := (Beats.foldl (fun _ _ => .raise ..) _ _).after rfl

theorem deferSyncs_beats (c : Clk) (d : Dev) : Beats d (deferSyncs c d) := by
  unfold deferSyncs
  split
  · exact .refl d
  · exact .ite (.of_eq rfl) (.of_eq rfl)

theorem uisoStep_beats (n : Nat) (d : Dev) : Beats d (uisoStep n d) := .ite (.of_eq rfl) (.refl d)

theorem isoTick_beats (n : Nat) (d : Dev) : Beats d (isoTick n d) := .ite (.of_eq rfl) (.refl d)

theorem sampleStep_beats (f : FrameIn) (d : Dev) : Beats d (sampleStep f d) := .of_eq rfl

theorem stageCopy_beats (n : Nat) (b : Bool) (d : Dev) : Beats d (stageCopy n b d) := .ite (.of_eq rfl) (.of_eq rfl)

/-! Metering and the tariff step (R150 to R223). -/

theorem gapEnds_beats (n side : Nat) (old new : List (Nat × Estim)) (d : Dev) : Beats d (gapEnds n side old new d) := by
  refine .foldl (fun e _ => ?_) _ d
  exact .ite (.of_eq rfl) (.refl e)

theorem reverseStep_beats (n : Nat) (r : Regs) (grew : Nat → Bool) (d : Dev) : Beats d (reverseStep n r grew d) := by
  refine .foldl (fun e _ => ?_) _ d
  exact .ite (.of_eq rfl) (.of_eq rfl)

theorem stopGridEpisodes_beats (n : Nat) (d : Dev) : Beats d (stopGridEpisodes n d) := .of_eq rfl

theorem metrFrame_beats (s : State) : Beats s.dev (metrFrame s).dev := by
  unfold metrFrame
  extract_lets n x g _ y o _ z dc _ u booked regs _ v grew w old a b c _ e
  have hx : Beats s.dev x := .of_eq rfl
  have hy : Beats x y := (stopGridEpisodes_beats n _).comp (.of_eq rfl)
  have hz : Beats y z := .of_eq rfl
  have hu : Beats z u := .of_eq rfl
  have hv : Beats u v := .of_eq rfl
  have he : Beats c e := .of_eq rfl
  exact he.comp <| (gapEnds_beats ..).comp <| (gapEnds_beats ..).comp <| (gapEnds_beats ..).comp <| (reverseStep_beats ..).comp <|
    hv.comp <| hu.comp <| hz.comp <| hy.comp hx

theorem billMark_beats (d : Dev) : Beats d (billMark d) := .of_eq rfl

theorem billingClose_beats (n endTime cause : Nat) (d : Dev) : Beats d (billingClose n endTime cause d) := .of_eq rfl

theorem billingStep_beats (n : Nat) (d : Dev) : Beats d (billingStep n d) := by
  unfold billingStep
  split
  · exact billingClose_beats ..
  · split
    · exact billingClose_beats ..
    · exact .refl d

theorem calendarStep_beats (d : Dev) : Beats d (calendarStep d) := by
  unfold calendarStep
  split
  · exact .refl d
  · exact .ite (.of_eq rfl) (.refl d)

theorem demandClose_beats (j endTime : Nat) (short : Bool) (r : Regs) (d : Dev) : Beats d (demandClose j endTime short r d) := by
  unfold demandClose
  split
  · exact .refl d
  · exact .ite (.of_eq rfl) (.of_eq rfl)

theorem demandStep_beats (r : Regs) (d : Dev) (j : Nat) : Beats d (demandStep r d j) :=
  .ite (demandClose_beats ..) (.ite (demandClose_beats ..) (.refl d))

theorem dstStep_beats (d : Dev) : Beats d (dstStep d) := .ite (.refl d) (.of_eq rfl)

theorem lpCapture_beats (r : Regs) (p : Nat) (d : Dev) : Beats d (lpCapture r p d) := by
  unfold lpCapture
  split
  · exact .refl d
  · exact .of_eq rfl

theorem lpStep_beats (r : Regs) (d : Dev) : Beats d (lpStep r d) :=
  .foldl (fun e _ => .ite (lpCapture_beats ..) (.refl e)) _ d

theorem lpFlags_beats (d : Dev) : Beats d (lpFlags d) := .ite (.refl d) (.of_eq rfl)

theorem stepProfiles_beats (d : Dev) : Beats d (stepProfiles d) := by
  unfold stepProfiles
  split
  · exact .refl d
  · exact .ite (.of_eq rfl) (.of_eq rfl)

theorem tariffSwitch_beats (n : Nat) (d : Dev) : Beats d (tariffSwitch n d) := .ite (.refl d) (.of_eq rfl)

theorem tariffStep_beats (n : Nat) (r : Regs) (d : Dev) : Beats d (tariffStep n r d) := by
  unfold tariffStep
  extract_lets a b c e f
  have hf : Beats f { f with tar := { f.tar with step := none } } := .of_eq rfl
  exact hf.comp <| (lpStep_beats ..).comp <| (lpFlags_beats _).comp <| (tariffSwitch_beats ..).comp <| (billingStep_beats ..).comp <|
    (Beats.foldl (demandStep_beats r) _ _).comp <| (calendarStep_beats _).comp <| (billMark_beats _).comp <|
    (stepProfiles_beats _).comp (dstStep_beats d)

/-! The session of a frame (R194, R198, R240, R249). -/

theorem sessionFlags_beats (d : Dev) : Beats d (sessionFlags d) := .ite (.of_eq rfl) (.refl d)

theorem dcStep_beats (d : Dev) : Beats d (dcStep d) := .ite (.of_eq rfl) (.refl d)

theorem pauseStep_beats (s : State) (d : Dev) : Beats d (pauseStep s d) := by
  rcases pauseStep_cases s d with h | ⟨o, h⟩ | ⟨o, st, x, h⟩ <;> rw [h]
  · exact .refl d
  · exact .of_eq rfl
  · exact (Beats.of_only (waveNow_only s.clk _)).comp ((Beats.raise ..).after rfl)

theorem limitStep_beats (s : State) (d : Dev) : Beats d (limitStep s d) := (pauseStep_beats ..).after rfl

theorem takeAuth_beats (src means : Nat) (id : List Byte) (n : Nat) (d : Dev) : Beats d (takeAuth src means id n d) := by
  unfold takeAuth
  extract_lets x _ _ y _ z
  have hx : Beats d x := .ite (.raise ..) (.refl d)
  have hy : Beats x y := .of_eq rfl
  have hz : Beats y z := .of_eq rfl
  exact (Beats.of_only (recordAuth_only _)).comp <| (Beats.raise ..).comp <| hz.comp <| hy.comp hx

theorem driveLockNext_beats (toLock : Bool) (d : Dev) : Beats d (driveLockNext toLock d) := .ite (.refl d) (.of_eq rfl)

theorem startSession_beats (s : State) (d : Dev) : Beats d (startSession s d) := by
  unfold startSession
  extract_lets n number free net _ ses _ _ _ _ x y z w v
  have hy : Beats d y := .of_eq rfl
  have hz : Beats y z := .of_eq rfl
  have hv : Beats w v := .ite (takeAuth_beats ..) (.refl w)
  exact (driveLockNext_beats ..).comp <| hv.comp <| (Beats.reqMode ..).comp <| hz.comp hy

theorem decideSession_beats (s : State) (d : Dev) : Beats d (decideSession s d) :=
  .ite (.ite (startSession_beats ..) (.ite (.refl d) (.of_eq rfl))) (.refl d)

/-! The compare and the publication (R24, R25, R97). -/

theorem compareStep_beats (n : Nat) (f : FrameIn) (before : State) (d : Dev) : Beats d (compareStep n f before d) :=
  .ite (.of_eq rfl) (.of_eq rfl)

theorem publish_beats (s : State) (d : Dev) : Beats d (publish s d) := by
  refine .of_eq ?_
  simp only [publish, Win.beats]

theorem publishStep_beats (s : State) (d : Dev) : Beats d (publishStep s d) := by
  unfold publishStep
  exact .ite (.of_eq rfl) ((publish_beats ..).after rfl)

theorem frameFirst_beats (f : FrameIn) (before s : State) : Beats s.dev (frameFirst f before s).dev := by
  unfold frameFirst
  extract_lets n t x y z w
  exact (publishStep_beats ..).comp <| (compareStep_beats ..).comp <| (decideSession_beats ..).comp <| (limitStep_beats ..).comp <|
    (dcStep_beats _).comp <| (sessionFlags_beats _).comp <| (tariffStep_beats ..).comp <| (metrFrame_beats _).comp <|
    (stageCopy_beats ..).comp <| (stageRead_beats ..).comp <| (sampleStep_beats ..).comp <| (isoTick_beats ..).comp <|
    (uisoStep_beats ..).comp <| (deferSyncs_beats ..).comp <| (drainRing_beats _).comp (drainQueue_beats _)

/-! From the latch to the display (R19, R44). -/

theorem disputeExpires_beats (n : Nat) (d : Dev) : Beats d (disputeExpires n d) := by
  unfold disputeExpires
  split
  · exact .refl d
  · exact .ite (.ite (.of_eq rfl) (.of_eq rfl)) (.refl d)

theorem latchStep_beats (f : FrameIn) (s : State) : Beats s.dev (latchStep f s).dev := by
  have ha (n : Nat) (d : Dev) : Beats d (waveApply n d) := .ite (.of_eq rfl) (.refl d)
  have hw (d : Dev) : Beats d (waveStep s.clk d) := .of_eq rfl
  have hl (n : Nat) (d : Dev) : Beats d (latchOutputs n d) := .of_only (applyOutputs_only n _ d)
  exact (stageApply_beats ..).comp <| (lockTick_beats ..).comp <| (hl ..).comp <| (disputeExpires_beats ..).comp <| (hw _).comp (ha ..)

theorem phaseMapStep_beats (d : Dev) : Beats d (phaseMapStep d) := .ite (.refl d) (.of_eq rfl)

theorem heldTriggers_beats (s : State) (d : Dev) : Beats d (heldTriggers s d) := by
  unfold heldTriggers
  extract_lets x y
  have hx : Beats d x := .ite (.reqMode ..) (.refl d)
  have hy : Beats x y := .ite (.reqMode ..) (.refl x)
  exact (Beats.ite (endMode_beats ..) (.refl y)).comp (hy.comp hx)

theorem lcdRender_beats (s : State) (k : Nat) (d : Dev) : Beats d (lcdRender s k d) := .of_eq rfl

theorem lcdRefresh_beats (s : State) (d : Dev) : Beats d (lcdRefresh s d) := by
  unfold lcdRefresh
  split
  · exact lcdRender_beats ..
  · exact .of_eq rfl

theorem lcdStep_beats (s : State) (d : Dev) : Beats d (lcdStep s d) := .ite (.of_eq rfl) (.when (lcdRefresh_beats ..) _)

/-! The faults of a read-back (R32, R190, R298). -/

theorem degradedFault_beats (s : State) (ev bit : Nat) (d : Dev) : Beats d (degradedFault s ev bit none d) := by
  by_cases h : s.clk.mode = .degraded
  · rw [degradedFault_degraded h]
    exact (safeOutputs_beats ..).comp <| (endSession_beats ..).comp (.of_eq rfl)
  by_cases ho : s.clk.mode = .session ∧ d.ses.isOpen = true
  · rw [degradedFault_session ho.1 ho.2]
    exact (Beats.reqMode ..).comp ((Beats.raise ..).after rfl)
  · rw [degradedFault_other h ho]
    exact .safeStop ..

theorem laneLost_beats (s : State) (l : Lane) (d : Dev) : Beats d (laneLost s l d) :=
  laneLost_eq s l d ▸ (degradedFault_beats ..).comp (.of_eq rfl)

theorem faultAside_beats (l : Lane) (d : Dev) : Beats d (faultAside l d) := .of_eq rfl

theorem disputeAtFault_beats (n : Nat) (l : Lane) (cause : Nat) (d : Dev) : Beats d (disputeAtFault n l cause d) := by
  unfold disputeAtFault
  split
  · exact .refl d
  · exact .ite (.of_eq rfl) (.of_eq rfl)

theorem faultedDev_beats (l : Lane) (cause slot verdict : Nat) (atOnce : Bool) (n : Nat) (d : Dev) :
    Beats d (faultedDev l cause slot verdict atOnce n d) := by
  have hs (w : Word) : Beats d (faultSerge l w cause n d) := .of_eq rfl
  have hl (g : LaneRec → LaneRec) (e : Dev) : Beats e (e.onLane l g) := .of_eq rfl
  have hw (b : Bool) (e : Dev) : Beats e (faultShadow b e) := .ite (.of_eq rfl) (.refl e)
  exact (hw ..).comp <| (disputeAtFault_beats ..).comp <| (hl ..).comp <| (faultAside_beats ..).comp (hs _)

/-! The log of a frame that is closed, and a frame that ends with both lanes out (R22, R120). -/

theorem logEvent_beats (n : Nat) (d : Dev) (e : Ev) : Beats d (logEvent n d e) := by
  unfold logEvent
  dsimp only
  exact .ite (.of_eq rfl) (.of_eq rfl)

theorem logFrame_beats (n : Nat) (d : Dev) : Beats d (logFrame n d) := by
  unfold logFrame
  extract_lets es used _ x _ y
  have hx : Beats d x := (Beats.foldl (logEvent_beats n) es _).after rfl
  have hy : Beats x y := .of_eq rfl
  exact (Beats.ite (logEvent_beats ..) (.refl y)).comp (hy.comp hx)

theorem dualFault_beats (s : State) : Beats s.dev (dualFault s).dev := by
  unfold dualFault
  extract_lets n d halt _ _ x y z
  have hd : Beats s.dev d := (safeOutputs_beats ..).comp (.ite (.of_eq rfl) (.refl _))
  have hz : Beats s.dev z := (Beats.safeStop ..).comp <| Beats.trans hd (.of_eq rfl)
  exact (logFrame_beats n _).comp (hz.trans (.of_eq rfl))

theorem faultLane_beats (l : Lane) (cause slot verdict : Nat) (atOnce : Bool) (s : State) :
    Beats s.dev (faultLane l cause slot verdict atOnce s).dev := by
  have hf := faultedDev_beats l cause slot verdict atOnce s.clk.frame s.dev
  cases hd : faultIsDual s.clk.frame l s.dev with
  | true =>
    unfold faultLane
    rw [if_pos hd]
    have hu (c : Prop) [Decidable c] (e : Dev) : Beats e (if c then ungrant s.clk.frame e else e) := .ite (.of_eq rfl) (.refl e)
    exact (dualFault_beats _).comp ((hu _ _).comp hf)
  | false =>
    rw [faultLane_one hd cause slot verdict atOnce rfl]
    have hp (e : Dev) : Beats e (passToken l atOnce s.clk.frame e) := .ite (.of_eq rfl) (.of_eq rfl)
    have he := (Beats.ite (c := (decide (s.dev.lanes.token = some l) && !s.dev.lanes.sergeFault) = true) (hp _) (.refl _)).comp hf
    exact .ite (he.trans (laneLost_beats ..)) he

/-! The frame after the reading. -/

theorem readbackStep_beats (f : FrameIn) (s : State) : Beats s.dev (readbackStep f s).dev := by
  have bad (b : Bool) (l : Lane) (t : State) : Beats t.dev (whenS b (faultLane l 0x09 2 0 true) t).dev := by
    cases b
    · exact .refl _
    · exact faultLane_beats ..
  exact (bad ..).comp (bad _ _ _)

theorem frameSecond_beats (f : FrameIn) (s : State) : Beats s.dev (frameSecond f s).dev := by
  have hread := readbackStep_beats f s
  unfold frameSecond
  generalize readbackStep f s = t at hread ⊢
  dsimp only
  split
  · exact hread.trans <| (lcdStep_beats ..).comp <| (heldTriggers_beats ..).comp <| (phaseMapStep_beats _).comp <|
      (latchStep_beats f _).comp (safetyStep_beats ..)
  · exact hread

/-- From the reading of the heartbeat to the end of its frame what was read stays. -/
theorem frameRest_beats (n : Nat) (f : FrameIn) (before s : State) :
    Beats s.dev (frameSecond f (frameFirst f before (s.onDev fun d => periodicDue n (digestStep n d)))).dev :=
  (frameSecond_beats ..).comp <| (frameFirst_beats ..).comp <| (periodicDue_beats ..).comp (digestStep_beats ..)

end Sys2Proof.Machine

end

section
/-!
SUPPORT. What stands before the lead's reading of the heartbeat in a tick (R101): from the end of the frame that ran on,
nothing touches the heartbeat, the token or the period, where no slot was rung and no value waits for the tick.
-/

namespace Sys2Proof.Machine

/-- No value that waits for the tick is the period of the heartbeat. -/
def PeriodUnqueued (d : Dev) : Prop := ∀ x ∈ d.acs.nextTick, x.id ≠ Param.HOST_BEAT

/-- What the reading of the heartbeat rests on, and the values that wait. -/
def Dev.unread (d : Dev) : (Word × Word × Nat × Nat × Bool) × Option Lane × Option Lane × Params × List Staged :=
  (d.win.beats, d.lanes.token, d.lanes.grant, d.par, d.acs.nextTick)

/-- From d to e what the reading of the heartbeat rests on stays. -/
structure Unread (d e : Dev) : Prop where
  beats : Beats d e
  token : e.lanes.token = d.lanes.token
  grant : e.lanes.grant = d.lanes.grant
  period : e.nat Param.HOST_BEAT = d.nat Param.HOST_BEAT
  queue : PeriodUnqueued d → PeriodUnqueued e

namespace Unread

theorem of_eq {d e : Dev} (h : e.unread = d.unread) : Unread d e := by
  simp only [Dev.unread, Prod.mk.injEq] at h
  obtain ⟨hbeats, htoken, hgrant, hpar, hqueue⟩ := h
  exact ⟨⟨hbeats⟩, htoken, hgrant, Dev.nat_congr hpar _, fun k x hx => k x (hqueue ▸ hx)⟩

theorem refl (d : Dev) : Unread d d := of_eq rfl

theorem trans {d e f : Dev} (h : Unread d e) (k : Unread e f) : Unread d f :=
  ⟨h.beats.trans k.beats, k.token.trans h.token, k.grant.trans h.grant, k.period.trans h.period, k.queue ∘ h.queue⟩

/-- The composition of two steps, the later one first. -/
theorem comp {d e f : Dev} (k : Unread e f) (h : Unread d e) : Unread d f := h.trans k

/-- A change of parts that the reading does not rest on, and of the window but for the heartbeat. -/
theorem of_beats {ps : List Part} {d e : Dev} (h : DevOnly ps d e) (hb : Beats d e) (hl : .lanes ∉ ps := by decide)
    (hp : .par ∉ ps := by decide) (ha : .acs ∉ ps := by decide) : Unread d e :=
  of_eq (by rw [Dev.unread, hb.beats, h .lanes hl, h .par hp, h .acs ha, Dev.unread])

theorem of_only {ps : List Part} {d e : Dev} (h : DevOnly ps d e) (hw : .win ∉ ps := by decide) (hl : .lanes ∉ ps := by decide)
    (hp : .par ∉ ps := by decide) (ha : .acs ∉ ps := by decide) : Unread d e :=
  of_beats h (.of_only h hw) hl hp ha

theorem raise (src code : Nat) (data : List Byte) (d : Dev) : Unread d (d.raise src code data) := of_eq rfl

theorem ite {d e f : Dev} {c : Prop} [Decidable c] (h : Unread d e) (k : Unread d f) : Unread d (if c then e else f) := by
  split <;> assumption

/-- A step that is taken or not. -/
theorem opt (c : Prop) [Decidable c] {d e : Dev} (h : Unread d e) : Unread d (if c then e else d) := ite h (refl d)

theorem when {d : Dev} {f : Dev → Dev} (h : Unread d (f d)) (c : Bool) : Unread d (d.when c f) := by
  cases c
  · exact refl d
  · exact h

theorem foldl {α : Type} {f : Dev → α → Dev} (h : ∀ d a, Unread d (f d a)) (l : List α) (d : Dev) :
    Unread d (l.foldl f d) := by
  induction l generalizing d with
  | nil => exact refl d
  | cons a l ih => exact (h d a).trans (ih _)

end Unread

/-! The protocol slot (R84, R87, R90). -/

theorem endJob_unread (id st result : Nat) (d : Dev) : Unread d (endJob id st result d) := by
  have hplace (e : Dev) : Unread e (takePlace e) := by
    unfold takePlace
    split
    · exact .ite (.refl e) (.of_eq rfl)
    · exact .refl e
  unfold endJob
  split
  · exact .refl d
  · exact (hplace _).comp (.of_eq rfl)

theorem jobStep_unread (n : Nat) (d : Dev) : Unread d (jobStep n d) := by
  unfold jobStep
  extract_lets x jobs
  have hx : Unread d x := .foldl (fun _ _ => endJob_unread ..) _ d
  split <;> exact hx.trans (.of_eq rfl)

theorem settleSlot_unread (n : Nat) (d : Dev) (k : Nat) : Unread d (settleSlot n d k) := by
  unfold settleSlot
  dsimp only
  split
  · exact .ite (.of_eq rfl) (.refl d)
  · exact .refl d

theorem settleSlot_doorbell (n : Nat) (d : Dev) (k : Nat) : (settleSlot n d k).win.doorbell = d.win.doorbell := by
  unfold settleSlot
  dsimp only
  split
  · split <;> rfl
  · rfl

theorem settleSlots_doorbell (n : Nat) (l : List Nat) (d : Dev) : (l.foldl (settleSlot n) d).win.doorbell = d.win.doorbell := by
  induction l generalizing d with
  | nil => rfl
  | cons k l ih => exact (ih _).trans (settleSlot_doorbell n d k)

/-- Where no slot was rung the scan serves none. -/
theorem scanSlots_idle (l : List Nat) {s : State} (h : s.dev.win.doorbell = 0) : l.foldl scanSlot s = s := by
  induction l with
  | nil => rfl
  | cons k l ih =>
    have hk : scanSlot s k = s := by simp [scanSlot, h]
    rw [List.foldl_cons, hk, ih]

theorem mailboxScan_unread {s : State} (h : s.dev.win.doorbell = 0) : Unread s.dev (mailboxScan s).dev := by
  unfold mailboxScan
  extract_lets d e
  have he : Unread s.dev e := .opt _ (.foldl (fun _ _ => settleSlot_unread ..) _ _)
  have hbell : e.win.doorbell = 0 := by
    unfold e
    split
    · rw [settleSlots_doorbell, h]
    · exact h
  split
  · rw [scanSlots_idle _ (by exact hbell)]
    exact he.trans (.of_eq rfl)
  · exact .refl _

theorem protocolSlot_unread {s : State} (h : s.dev.win.doorbell = 0) : Unread s.dev (protocolSlot s).dev := by
  have hscan := mailboxScan_unread h
  unfold protocolSlot
  generalize mailboxScan s = t at hscan ⊢
  dsimp only
  split
  · exact hscan
  · exact hscan.trans (jobStep_unread ..)

/-! The end of the frame that ran (R184 to R190, R357, R380, R385). -/

/-- A package at a checkpoint queues no value that needs a commit, as the period of the heartbeat does (R113, R384). -/
theorem writeAll_unread {o : Owner} {es : List Staged} {d e : Dev} (h : writeAll o es d = some e) : Unread d e := by
  have hset (p : Pending) : Unread d (setPending o p d) := by cases o <;> exact .of_eq rfl
  have hwrite (d : Dev) (x : Staged) (hx : x.id ≠ Param.HOST_BEAT) : Unread d (queueWrite o d x) := by
    have hput : Unread d { d with acs := { d.acs with
        nextTick := d.acs.nextTick.filter (fun y => !Staged.same y x) ++ [x] } } := by
      refine ⟨.of_eq rfl, rfl, rfl, rfl, fun k y hy => ?_⟩
      rcases List.mem_append.1 hy with hy | hy
      · exact k y (List.mem_of_mem_filter hy)
      · rwa [List.mem_singleton.1 hy]
    have hlog : Unread d (({ d with acs := { d.acs with
        nextTick := d.acs.nextTick.filter (fun y => !Staged.same y x) ++ [x] } } : Dev).raise (srcOf o) Event.PARAM_WRITTEN
        (leBytes 1 (ownerCode o) ++ leBytes 2 x.id)) := hput.trans (.raise ..)
    cases x with
    | num id v => exact (Unread.opt _ (.raise ..)).comp hlog
    | blk => exact hlog
  have hall (l : List Staged) (hl : ∀ x ∈ l, x.id ≠ Param.HOST_BEAT) (d : Dev) : Unread d (l.foldl (queueWrite o) d) := by
    induction l generalizing d with
    | nil => exact .refl d
    | cons x l ih =>
      exact (hwrite d x (hl x List.mem_cons_self)).trans (ih (fun y hy => hl y (List.mem_cons_of_mem x hy)) _)
  unfold writeAll at h
  dsimp only at h
  split at h
  · cases h
  · refine Option.some.inj h ▸ (hall _ (fun x hx hid => ?_) _).comp (hset _)
    have hfree := List.of_mem_filter hx
    rw [hid] at hfree
    exact absurd hfree (by decide +kernel)

theorem calicoValidate_unread (s : State) (d : Dev) : Unread d (calicoValidate s d) := by
  have hrejected (r : Nat) : Unread d (calicoRejected r d) := .of_eq rfl
  unfold calicoValidate
  refine .ite (.of_eq rfl) (.ite (hrejected _) ?_)
  split
  · exact hrejected _
  · split
    · exact hrejected _
    · rename_i h
      exact (writeAll_unread h).trans (.of_eq rfl)

theorem logFrame_unread (n : Nat) (d : Dev) : Unread d (logFrame n d) := .of_beats (logFrame_only n d) (logFrame_beats n d)

theorem calicoAtCheckpoint_unread (s : State) : Unread s.dev (calicoAtCheckpoint s).dev := by
  unfold calicoAtCheckpoint
  extract_lets d e t
  have he : Unread s.dev e := .ite (.refl _) (calicoValidate_unread ..)
  have ht : Unread s.dev t.dev := he.trans (logFrame_unread ..)
  split
  · exact .refl _
  · split
    · exact ht
    · exact ht.trans (.of_only (calicoImageWrite_only _ _ _ _))

theorem dueAtEnd_unread (n : Nat) (r : Regs) (d : Dev) : Unread d (dueAtEnd n r d) := by
  unfold dueAtEnd
  extract_lets x
  have hx : Unread d x := .opt _ (.of_eq rfl)
  exact hx.trans (.opt _ (.of_eq rfl))

theorem alarmStep_unread (n : Nat) (codes : List Nat) (d : Dev) : Unread d (alarmStep n codes d) := by
  unfold alarmStep
  extract_lets bits _ x
  have hx : Unread d x := .of_eq rfl
  exact hx.trans (.foldl (fun e c => .opt _ (.of_only (push_only n e))) codes x)

theorem alarmPush_unread (n : Nat) (d : Dev) : Unread d (alarmPush n d) := by
  have hcleared : Unread d { d with log := { d.log with alarms := [] } } := .of_eq rfl
  exact hcleared.trans (alarmStep_unread ..)

theorem commitFrame_unread (cs : List (Nat × Nat)) (s : State) : Unread s.dev (commitFrame cs s).dev := by
  unfold commitFrame
  split
  · extract_lets c put led
    cases c with
    | none => exact .of_eq rfl
    | some c =>
      dsimp only
      split <;> split <;> exact .of_eq rfl
  · exact .refl _

theorem reports_unread (n : Nat) (d : Dev) : Unread d (reports n d) := .of_eq rfl

theorem conclude_unread {s : State} (h : s.dev.win.doorbell = 0) : Unread s.dev (conclude s).dev := by
  have hclose : Unread s.dev (closePending s.clk.frame s.dev) := .of_only (closePending_only _ _)
  have hbell : (closePending s.clk.frame s.dev).win.doorbell = 0 := by rw [closePending_only _ _ .win (by decide), h]
  have hslot := protocolSlot_unread (s := s.onDev (closePending s.clk.frame)) hbell
  unfold conclude
  extract_lets n t u v
  have hu : Unread t.dev u.dev :=
    (dueAtEnd_unread n t.regs t.dev).trans (calicoAtCheckpoint_unread (t.onDev (dueAtEnd n t.regs)))
  have hcheckpoint : Unread s.dev u.dev := hclose.trans (hslot.trans hu)
  clear_value u
  have hv : Unread u.dev v.dev := (logFrame_unread n u.dev).trans (alarmPush_unread n (logFrame n u.dev))
  have hall : Unread s.dev v.dev := hcheckpoint.trans hv
  clear_value v
  rw [State.onDev_dev]
  have hcommit := commitFrame_unread (liveCounters v.dev) v
  generalize commitFrame (liveCounters v.dev) v = w at hcommit ⊢
  exact hall.trans (hcommit.trans (reports_unread n w.dev))

end Sys2Proof.Machine

end

section
/-!
SUPPORT. The tick up to the lead's reading of the heartbeat (R101): inputs, values that waited, the release, the mode change.
-/

namespace Sys2Proof.Machine

/-! The values that waited for the tick (R113). -/

theorem assoc_insertId_other {α : Type} {i j : Nat} (h : j ≠ i) (v : α) (l : List (Nat × α)) :
    assoc (insertId l j v) i = assoc l i := by
  induction l with
  | nil => simp [insertId, assoc, h]
  | cons p l ih =>
    obtain ⟨k, w⟩ := p
    unfold insertId
    split
    · simp [assoc, h]
    · split
      · rename_i hk
        subst hk
        simp [assoc, h]
      · by_cases hi : k = i
        · simp [assoc, hi]
        · simp only [assoc, List.find?_cons, decide_eq_false hi] at ih ⊢
          exact ih

theorem assoc_eraseId_other {α : Type} {i j : Nat} (h : j ≠ i) (l : List (Nat × α)) : assoc (eraseId l j) i = assoc l i := by
  have hp (x : Nat × α) : decide (decide (x.1 ≠ j) = true ∧ decide (x.1 = i) = true) = decide (x.1 = i) := by
    by_cases hx : x.1 = i
    · simp [hx, Ne.symm h]
    · simp [hx]
  simp only [assoc, eraseId, List.find?_filter, hp]

/-- A value stored for one parameter leaves the others. -/
theorem setNum_nat_other {i j : Nat} (h : j ≠ i) (v : Int) (d : Dev) : (d.setNum j v).nat i = d.nat i := by
  have hnum : assoc (d.setNum j v).par.nums i = assoc d.par.nums i := by
    unfold Dev.setNum
    dsimp only
    split
    · exact assoc_eraseId_other h _
    · exact assoc_insertId_other h v _
  rw [Dev.nat, Dev.nat, Dev.num, Dev.num, hnum]

theorem storeStaged_unread (d : Dev) {e : Staged} (h : e.id ≠ Param.HOST_BEAT) : Unread d (storeStaged d e) := by
  unfold storeStaged
  refine .ite (.refl d) ?_
  cases e with
  | num id v => exact ⟨.of_eq rfl, rfl, rfl, setNum_nat_other h v d, fun k => k⟩
  | blk id off bs => exact ⟨.of_eq rfl, rfl, rfl, rfl, fun k => k⟩

theorem deliver_unread (n : Nat) (d : Dev) {e : Staged} (h : e.id ≠ Param.HOST_BEAT) : Unread d (deliver n d e) := by
  cases e with
  | num id v => exact .ite (.of_eq rfl) (.ite (.ite (.of_eq rfl) (.refl d)) (.ite (.of_eq rfl) (storeStaged_unread d h)))
  | blk id off bs => exact storeStaged_unread d h

theorem tamperDetect_unread (n src cls : Nat) (d : Dev) : Unread d (tamperDetect n src cls d) :=
  .ite (.refl d) (.ite (.of_eq rfl) (.of_eq rfl))

theorem tempUpdate_unread (j : Nat) (d : Dev) : Unread d (tempUpdate j d) := by
  unfold tempUpdate
  split
  · exact .of_eq rfl
  · exact .ite (.of_eq rfl) (.of_eq rfl)

theorem extStep_unread (a : Nat) (d : Dev) : Unread d (extStep a d) := by
  unfold extStep
  split
  · exact .ite (.refl d) (.of_eq rfl)
  · exact .refl d

theorem afterDelivery_unread (n : Nat) (r : Regs) (old : Dev) (ids : List Nat) (d : Dev) :
    Unread d (afterDelivery n r old ids d) := by
  have tamper (o : Nat) (e : Dev) : Unread e (tamperRaised n o e) :=
    .foldl (fun e k => .opt _ (tamperDetect_unread n (k + 1) _ e)) _ e
  have demand (e : Dev) (j : Nat) : Unread e (demandRestart r e j) := .of_eq rfl
  have profile (e : Dev) (p : Nat) : Unread e (profileRestart e p) := .of_eq rfl
  have disp (e : Dev) : Unread e (dispRestart n e) := .of_eq rfl
  have plate (e : Dev) : Unread e (nameplateWrite e) := .of_only (nameplateWrite_only e)
  have harv (e : Dev) : Unread e { e with cal := { e.cal with harvOut := false } } := .of_eq rfl
  have ext (e : Dev) : Unread e (extStepAll e) := .foldl (fun _ _ => extStep_unread ..) _ e
  have pan (e : Dev) : Unread e (leavePan e) := .of_eq rfl
  unfold afterDelivery
  extract_lets has x y z w v a _ b c
  have hx : Unread d x := .opt _ (tamper _ d)
  have hz : Unread y z := .foldl (fun e j => .opt _ (tempUpdate_unread j e)) _ y
  have hw : Unread z w := .foldl (fun e j => .opt _ (demand e j)) _ z
  have hv : Unread w v := .foldl (fun e p => .opt _ (profile e p)) _ w
  exact (Unread.opt _ (pan c)).comp <| (Unread.opt _ (ext b)).comp <| (Unread.opt _ (harv a)).comp <|
    (Unread.opt _ (plate v)).comp <| hv.comp <| hw.comp <| hz.comp <| (Unread.opt _ (disp x)).comp hx

theorem queueStep_unread (n : Nat) (r : Regs) {d : Dev} (h : PeriodUnqueued d) : Unread d (queueStep n r d) := by
  have hall (l : List Staged) (hl : ∀ x ∈ l, x.id ≠ Param.HOST_BEAT) (e : Dev) : Unread e (l.foldl (deliver n) e) := by
    induction l generalizing e with
    | nil => exact .refl e
    | cons x l ih =>
      exact (deliver_unread n e (hl x List.mem_cons_self)).trans (ih (fun y hy => hl y (List.mem_cons_of_mem x hy)) _)
  have hempty : Unread d { d with acs := { d.acs with nextTick := [], commitDone := false, modeDone := false } } :=
    ⟨.of_eq rfl, rfl, rfl, rfl, fun _ x hx => by cases hx⟩
  unfold queueStep
  exact (afterDelivery_unread ..).comp ((hall _ h _).comp hempty)

/-! The inputs and the release (R50, R85, R206, R209, R462). -/

theorem clearTests_unread (d : Dev) : Unread d (clearTests d) :=
  ⟨.of_eq rfl, rfl, rfl, rfl, fun k x hx => k x (List.mem_of_mem_filter hx)⟩

theorem revertTests_unread (n cause : Nat) (d : Dev) : Unread d (revertTests n cause d) :=
  .ite ((Unread.raise ..).comp (clearTests_unread d)) (clearTests_unread d)

theorem rtcTick_unread (advance : Nat) (d : Dev) : Unread d (rtcTick advance d) := by
  have hload : Unread d (rtcLoadEff d) := by
    unfold rtcLoadEff
    split
    · exact .refl d
    · exact .of_eq rfl
  unfold rtcTick
  generalize rtcLoadEff d = e at hload ⊢
  exact hload.trans (.ite (.of_eq rfl) (.of_eq rfl))

theorem clockTick_unread (d : Dev) : Unread d (clockTick d) := by
  unfold clockTick
  split
  · exact .of_eq rfl
  · exact .refl d

theorem pertStep_unread (n : Nat) (d : Dev) : Unread d (pertStep n d) := by
  unfold pertStep
  split
  · exact .opt _ (.of_eq rfl)
  · exact .refl d

theorem streamEntry_unread (n : Nat) (d : Dev) (e : LogEntry) : Unread d (streamEntry n d e) := by
  have hnow : Unread d (overrunNow n d) := .of_eq rfl
  unfold streamEntry
  extract_lets x
  have hx : Unread d x := .when hnow _
  exact hx.trans (.ite (.of_eq rfl) (.of_eq rfl))

theorem releaseSlot_beats (w : Win) (x : Nat × Journal × Nat) (n : Nat) : (releaseSlot w x n).beats = w.beats := rfl

theorem takenSlot_beats (w : Win) (x : Nat × Journal × Nat) : (takenSlot w x).beats = w.beats := rfl

theorem foldl_beats {α : Type} {g : Win → α → Win} (h : ∀ w x, (g w x).beats = w.beats) (l : List α) (w : Win) :
    (l.foldl g w).beats = w.beats := by
  induction l generalizing w with
  | nil => rfl
  | cons x l ih => exact (ih _).trans (h w x)

theorem release_unread (n : Nat) (d : Dev) : Unread d (release n d) := by
  unfold release
  extract_lets sh
  split
  · refine (Unread.foldl (streamEntry_unread n) _ _).comp (.of_eq (Prod.ext ?_ rfl))
    exact (foldl_beats takenSlot_beats _ _).trans (foldl_beats (fun w x => releaseSlot_beats w x n) _ d.win)
  · exact .of_eq rfl

theorem tickInputs_unread (n : Nat) (f : FrameIn) (r : Regs) {d : Dev} (h : PeriodUnqueued d) :
    Unread d (tickInputs n f r d) := by
  have hsupply : Unread d (supplyStep f d) := .of_eq rfl
  have hreverts (e : Dev) : Unread e (holdReverts n e) := .when (revertTests_unread ..) _
  unfold tickInputs
  extract_lets x y
  have hx : Unread d x := hsupply.trans ((rtcTick_unread f.rtcAdvance (supplyStep f d)).trans (clockTick_unread _))
  clear_value x
  have hbefore : Unread x (pertStep n (holdReverts n x)) := (hreverts x).trans (pertStep_unread n (holdReverts n x))
  have hqueue := queueStep_unread n r ((hx.trans hbefore).queue h)
  have hy : Unread d y := hx.trans (hbefore.trans (hqueue.trans (release_unread n _)))
  clear_value y
  exact hy.trans (.of_eq rfl)

/-! The mode change and the rest before the reading (R46, R114). -/

theorem discardSet_unread (o : Owner) (cause : Nat) (d : Dev) : Unread d (discardSet o cause d) := by
  cases o <;> exact .ite (.refl d) (.of_eq rfl)

theorem modeChangeEff_unread (n : Nat) (old new : Mode) (cause : Nat) (d : Dev) :
    Unread d (modeChangeEff n old new cause d) := by
  unfold modeChangeEff
  extract_lets x y _ z
  have hx : Unread d x := revertTests_unread ..
  have hy : Unread x y := .opt _ (.of_only (loginEnds_only x))
  have hdiscard (e : Dev) : Unread e (discardAll 0 e) :=
    (Unread.foldl (fun _ _ => discardSet_unread ..) _ _).comp (discardSet_unread ..)
  have hz : Unread y z := (hdiscard _).comp (.of_eq rfl)
  exact hx.trans <| hy.trans <| hz.trans (.of_eq rfl)

theorem applyMode_unread (s : State) : Unread s.dev (applyMode s).dev ∧ (applyMode s).clk.frame = s.clk.frame := by
  unfold applyMode
  split
  · exact ⟨.refl _, rfl⟩
  · split
    · exact ⟨.of_eq rfl, rfl⟩
    · exact ⟨modeChangeEff_unread .., rfl⟩

theorem modeEntered_unread (was : Mode) (s : State) : Unread s.dev (modeEntered was s).dev := by
  have htoken (d : Dev) : Unread d (tokenStart s.clk.mode d) := .opt _ (.of_eq rfl)
  exact (htoken _).comp (.opt _ (calicoValidate_unread ..))

theorem holdupLow_unread (n : Nat) (m : Mode) (always : Bool) (d : Dev) : Unread d (holdupLow n m always d) := by
  unfold holdupLow
  extract_lets _ x y z
  have hx : Unread d x := .of_eq rfl
  have hy : Unread x y := .of_only (selftest_only n 18 false x.pow.holdupCap x)
  have hz : Unread y z := .raise ..
  exact hx.trans <| hy.trans <| hz.trans (.opt _ (.of_only (Dev.safeStop_only m _ _ z)))

/-- What the tick does between the mode change and the reading. -/
def beforeReading (n : Nat) (c : Clk) (d : Dev) : Dev := aliveStep n (grantAtTick n (holdupStep c d))

theorem beforeReading_unread (n : Nat) (c : Clk) {d : Dev} (h : d.lanes.grant = none) : Unread d (beforeReading n c d) := by
  have hhold : Unread d (holdupStep c d) := .ite (.refl d) (.ite (holdupLow_unread ..) (.of_eq rfl))
  have hgrant : grantAtTick n (holdupStep c d) = holdupStep c d := by
    rw [grantAtTick, hhold.grant, h]
  rw [beforeReading, hgrant]
  exact hhold.trans (.opt _ (.of_eq rfl))

end Sys2Proof.Machine

end

section
/-!
PROOF. The lead's reading of the heartbeat in a tick (R101), and with it the host's presence (R95, R96, R101, R262).
-/

namespace Sys2Proof.Machine

theorem heartStep_reads {c : Clk} {d : Dev} {l : Lane} (htoken : d.lanes.token = some l)
    (hdue : d.win.beatFrame + ms (d.nat Param.HOST_BEAT) ≤ c.frame) : heartStep c d = heartRead c d := by
  have hacting : d.lanes.acting = some l := by rw [Lanes.acting, htoken]
  rw [heartStep, hacting, decide_eq_true hdue]
  rfl

/-- What the reading leaves (R101). -/
structure HeartWasRead (n : Nat) (w v : Win) : Prop where
  heartbeat : v.heartbeat = w.heartbeat
  frame : v.beatFrame = n
  changed : w.heartbeat ≠ w.beatSeen → v.hostPresent = true ∧ v.beatSeen = w.heartbeat ∧ v.beatMissed = 0
  missed : w.heartbeat = w.beatSeen → v.hostPresent = w.hostPresent ∧ v.beatMissed = w.beatMissed + 1

/-- Only the heartbeat and what was read of it matter to a reading, before and after. -/
theorem HeartWasRead.congr {n : Nat} {w w' v v' : Win} (h : HeartWasRead n w v) (hw : w.beats = w'.beats)
    (hv : v'.beats = v.beats) : HeartWasRead n w' v' := by
  simp only [Win.beats, Prod.mk.injEq] at hw hv
  obtain ⟨w₁, w₂, -, w₄, w₅⟩ := hw
  obtain ⟨v₁, v₂, v₃, v₄, v₅⟩ := hv
  obtain ⟨hbeat, hframe, hchanged, hmissed⟩ := h
  rw [← v₁] at hbeat
  rw [← v₃] at hframe
  rw [← v₂, ← v₄, ← v₅] at hchanged
  rw [← v₄, ← v₅] at hmissed
  exact ⟨by rw [hbeat, w₁], hframe, by rwa [w₁, w₂] at hchanged, by rwa [w₁, w₂, w₄, w₅] at hmissed⟩

theorem heartRead_read (c : Clk) (d : Dev) : HeartWasRead c.frame d.win (heartRead c d).win := by
  by_cases h : d.win.heartbeat = d.win.beatSeen
  · have hr : heartRead c d = { d with win := { d.win with beatFrame := c.frame, beatMissed := d.win.beatMissed + 1 } } :=
      if_pos h
    rw [hr]
    exact ⟨rfl, rfl, fun k => absurd h k, fun _ => ⟨rfl, rfl⟩⟩
  · have hr : (heartRead c d).win = { d.win with
        beatSeen := d.win.heartbeat, hostPresent := true, everPresent := true, beatFrame := c.frame, beatMissed := 0 } := by
      unfold heartRead
      dsimp only
      rw [if_neg h]
      split <;> rfl
    rw [hr]
    exact ⟨rfl, rfl, fun _ => ⟨rfl, rfl, rfl⟩, fun k => absurd k h⟩

/-- The return of the host is logged (R101). -/
theorem heartRead_regained {c : Clk} {d : Dev} (h : d.win.heartbeat ≠ d.win.beatSeen) (hp : d.win.hostPresent = false) :
    ∃ frames, Ev.of Src.host Event.HOST_REGAINED (leBytes 4 frames) ∈ (heartRead c d).log.now := by
  refine ⟨if d.win.everPresent then c.frame - d.win.lostFrame else c.frame - c.startFrame, ?_⟩
  unfold heartRead
  dsimp only
  rw [if_neg h, hp, if_neg (by decide)]
  exact List.mem_append_right _ (List.mem_singleton_self _)

/-- An event of a frame that runs on, or ends with both lanes out, is logged. -/
theorem logged_goes {s t : State} {src code : Nat} {data : List Byte} (h : RunsOn s t ∨ Ended s t)
    (he : Ev.of src code data ∈ s.dev.log.now) : LoggedOrEntered src code data t := by
  rcases h with h | h
  · exact .inl (h.dev.now he)
  · refine .inr ⟨by rw [h.clk], ?_⟩
    rw [h.clk]
    exact h.entered _ he

/-- A tick's frame from the reading on: what was read stays, and what was logged by then is logged. -/
theorem frameAfterReading (n : Nat) (f : FrameIn) (before s : State) :
    Beats s.dev (frameSecond f (frameFirst f before (s.onDev fun d => periodicDue n (digestStep n d)))).dev ∧
      ∀ src code data, Ev.of src code data ∈ s.dev.log.now →
        LoggedOrEntered src code data (frameSecond f (frameFirst f before (s.onDev fun d => periodicDue n (digestStep n d)))) := by
  refine ⟨frameRest_beats .., fun src code data he => ?_⟩
  have hrun : RunsOn s (frameFirst f before (s.onDev fun d => periodicDue n (digestStep n d))) :=
    (RunsOn.onDev (fun d => (periodicDue_calm ..).comp (digestStep_calm n d)) s).trans (frameFirst_runsOn ..)
  exact logged_goes (hrun.goes (frameSecond_goes f _)) he

/-- The machine at a tick once the mode change is done. -/
def modeTaken (f : FrameIn) (s : State) : State := modeEntered s.clk.mode (applyMode (frameBegun f s))

/-- The machine at the reading of a tick. -/
def atReading (f : FrameIn) (s : State) : State :=
  (modeTaken f s).onDev (beforeReading (s.clk.frame + 1) (modeTaken f s).clk)

theorem onDev_onDev (g h : Dev → Dev) (s : State) : (s.onDev fun d => g (h d)) = (s.onDev h).onDev g := rfl

theorem startFrame_modeTaken (f : FrameIn) (s : State) : startFrame f s = frameSecond f (frameFirst f s
    ((modeTaken f s).onDev fun d => periodicDue (s.clk.frame + 1) (digestStep (s.clk.frame + 1)
      (heartStep (modeTaken f s).clk (beforeReading (s.clk.frame + 1) (modeTaken f s).clk d))))) := rfl

theorem startFrame_reading (f : FrameIn) (s : State) : startFrame f s = frameSecond f (frameFirst f s
    (((atReading f s).onDev (heartStep (atReading f s).clk)).onDev fun d =>
      periodicDue (s.clk.frame + 1) (digestStep (s.clk.frame + 1) d))) := by
  rw [startFrame_modeTaken, atReading]
  generalize modeTaken f s = t
  rw [← onDev_onDev, ← onDev_onDev]
  rfl

theorem modeTaken_unread (f : FrameIn) {s : State} (hqueue : PeriodUnqueued s.dev) :
    Unread s.dev (modeTaken f s).dev ∧ (modeTaken f s).clk.frame = s.clk.frame + 1 := by
  have hbegun : Unread s.dev (frameBegun f s).dev := tickInputs_unread _ f _ hqueue
  obtain ⟨hmode, hframe⟩ := applyMode_unread (frameBegun f s)
  exact ⟨hbegun.trans (hmode.trans (modeEntered_unread s.clk.mode (applyMode (frameBegun f s)))), hframe⟩

theorem atReading_unread (f : FrameIn) {s : State} (hgrant : s.dev.lanes.grant = none) (hqueue : PeriodUnqueued s.dev) :
    Unread s.dev (atReading f s).dev ∧ (atReading f s).clk.frame = s.clk.frame + 1 := by
  obtain ⟨hunread, hframe⟩ := modeTaken_unread f hqueue
  rw [atReading, State.onDev_dev, State.onDev_clk]
  generalize modeTaken f s = t at hunread hframe
  exact ⟨hunread.trans (beforeReading_unread _ _ (hunread.grant.trans hgrant)), hframe⟩

theorem frameTick_reads (f : FrameIn) {l : Lane} {s : State} (hrun : s.clk.running = true) (hfinal : finalEnds s = false)
    (hrestart : s.dev.upd.restartDue = false) (htoken : s.dev.lanes.token = some l) (hgrant : s.dev.lanes.grant = none)
    (hbell : s.dev.win.doorbell = 0) (hqueue : s.dev.acs.nextTick = [])
    (hdue : s.dev.win.beatFrame + ms (s.dev.nat Param.HOST_BEAT) ≤ s.clk.frame + 1) : Completes (.frameTick f) s fun t =>
      HeartWasRead (s.clk.frame + 1) s.dev.win t.dev.win ∧
        (s.dev.win.heartbeat ≠ s.dev.win.beatSeen → s.dev.win.hostPresent = false →
          ∃ frames, LoggedOrEntered Src.host Event.HOST_REGAINED (leBytes 4 frames) t) := by
  refine ⟨_, exec_frameTick_running f hrun, ?_⟩
  rw [frameTickEff_starts f hfinal hrestart, startFrame_reading]
  have hconclude := conclude_unread hbell
  have hempty : PeriodUnqueued s.dev := fun x hx => by rw [hqueue] at hx; cases hx
  obtain ⟨htick, hframe⟩ := atReading_unread f (hconclude.grant.trans hgrant) (hconclude.queue hempty)
  have hunread := hconclude.trans htick
  rw [(conclude_keepsSound s).frame] at hframe ⊢
  generalize hr : atReading f (conclude s) = r at hunread hframe
  have hread : heartStep r.clk r.dev = heartRead r.clk r.dev := by
    refine heartStep_reads (hunread.token.trans htoken) ?_
    have hbeatFrame : r.dev.win.beatFrame = s.dev.win.beatFrame := congrArg (·.2.2.1) hunread.beats.beats
    rw [hbeatFrame, hunread.period, hframe]
    exact hdue
  have hwas := heartRead_read r.clk r.dev
  rw [hframe] at hwas
  obtain ⟨hbeats, hlogged⟩ := frameAfterReading (s.clk.frame + 1) f (conclude s) (r.onDev (heartStep r.clk))
  have hdev : (r.onDev (heartStep r.clk)).dev = heartRead r.clk r.dev := hread
  rw [hdev] at hbeats hlogged
  refine ⟨hwas.congr hunread.beats.beats hbeats.beats, fun hne hp => ?_⟩
  have hbeat : r.dev.win.heartbeat = s.dev.win.heartbeat := congrArg (·.1) hunread.beats.beats
  have hseen : r.dev.win.beatSeen = s.dev.win.beatSeen := congrArg (·.2.1) hunread.beats.beats
  have hpresent : r.dev.win.hostPresent = s.dev.win.hostPresent := congrArg (·.2.2.2.2) hunread.beats.beats
  obtain ⟨frames, hev⟩ := heartRead_regained (c := r.clk) (d := r.dev) (by rwa [hbeat, hseen]) (by rw [hpresent, hp])
  exact ⟨frames, hlogged _ _ _ hev⟩

end Sys2Proof.Machine

open Sys2Proof Sys2Proof.Machine

/-- Settles O25: the reading of the heartbeat stands in the middle of the tick, before and after which nothing touches it; the
loss, the ports and the overrun are rows of their own. -/
theorem hostPresenceRows : Obligations.HostPresenceRows := by
  unfold Obligations.HostPresenceRows
  refine ⟨fun f l s hrun hfinal hrestart htoken hgrant hbell hqueue hdue => ?reading,
    fun s hrun hpresent hmissed => hostLost_completes hrun hpresent hmissed,
    fun p s hok hbad => portFailed_completes hok hbad, fun p s hfailed hgood => portRestored_completes hfailed hgood,
    fun s homitted hspace => streamOverrun_completes homitted hspace⟩
  obtain ⟨t, ht, ⟨hbeat, hframe, hchanged, hmissed⟩, hlogged⟩ :=
    frameTick_reads f hrun hfinal hrestart htoken hgrant hbell hqueue hdue
  refine ⟨t, ht, hbeat, hframe, fun hne => ?_, hmissed⟩
  obtain ⟨hpresent, hseen, hzero⟩ := hchanged hne
  exact ⟨hpresent, hseen, hzero, hlogged hne⟩

end

section
/-!
PROOF. Rows that write one parameter (R113, R168, R322, R351, R463): the one entry of such a write, how it is staged, and
what a queued write leaves.
-/

namespace Sys2Proof.Machine

/-! A value is queued for the next tick (R113). -/

/-- An entry takes its place in the queue of the next tick, instead of an earlier one for the same value. -/
def enqueued (e : Staged) (d : Dev) : Dev :=
  { d with acs := { d.acs with nextTick := d.acs.nextTick.filter (fun x => !x.same e) ++ [e] } }

/-- Queueing a number: its place in the queue, PARAM_WRITTEN, and for a test parameter TEST_PARAM_SET. -/
theorem queueWrite_num (own : Owner) (d : Dev) (id : Nat) (v : Int) : queueWrite own d (.num id v) =
    Dev.when (id / 256 = 0x70) (testLogged id v.toNat) ((enqueued (.num id v) d).raise (srcOf own) Event.PARAM_WRITTEN
      (leBytes 1 (ownerCode own) ++ leBytes 2 id)) := by
  unfold Dev.when
  simp only [decide_eq_true_eq]
  rfl

theorem queueWrite_num_acs (own : Owner) (d : Dev) (id : Nat) (v : Int) :
    (queueWrite own d (.num id v)).acs = (enqueued (.num id v) d).acs := by
  rw [queueWrite_num, Dev.when]
  split <;> rfl

theorem queueWrite_num_only (own : Owner) (d : Dev) (id : Nat) (v : Int) :
    DevOnly [.acs, .log] d (queueWrite own d (.num id v)) := by
  rw [queueWrite_num]
  have hraised : DevOnly [.acs, .log] d ((enqueued (.num id v) d).raise (srcOf own) Event.PARAM_WRITTEN
      (leBytes 1 (ownerCode own) ++ leBytes 2 id)) := by
    simp [devOnly_iff, enqueued]
  exact hraised.trans (DevOnly.when fun _ => by simp [devOnly_iff, testLogged])

theorem queueWrite_num_logged (own : Owner) (d : Dev) (id : Nat) (v : Int) :
    Ev.of (srcOf own) Event.PARAM_WRITTEN (leBytes 1 (ownerCode own) ++ leBytes 2 id) ∈
      (queueWrite own d (.num id v)).log.now := by
  rw [queueWrite_num, Dev.when]
  split
  · simp [testLogged, Dev.raise]
  · simp [Dev.raise]

theorem queueWrite_test_logged (own : Owner) (d : Dev) {id : Nat} (v : Nat) (ht : id / 256 = 0x70) :
    Ev.of Src.host Event.TEST_PARAM_SET (leBytes 2 id ++ leBytes (testLen id) v) ∈
      (queueWrite own d (.num id v)).log.now := by
  rw [queueWrite_num, decide_eq_true ht, Dev.when_true, testLogged, Dev.raise]
  simp

/-! The pending sets (R114). -/

theorem assoc_insertId_same {α : Type} (l : List (Nat × α)) (k : Nat) (v : α) : assoc (insertId l k v) k = some v := by
  induction l with
  | nil => simp [insertId, assoc]
  | cons x l ih =>
    rw [insertId]
    split
    · simp [assoc]
    · split
      · simp [assoc]
      · rename_i hne
        rw [assoc, List.find?_cons_of_neg (by simpa using Ne.symm hne)]
        exact ih

theorem pendingOf_setPending (own : Owner) (p : Pending) (d : Dev) : pendingOf own (setPending own p d) = p := by
  cases own with
  | host => rfl
  | headEnd k => rw [setPending, pendingOf, assoc_insertId_same, Option.getD_some]

theorem setPending_nextTick (own : Owner) (p : Pending) (d : Dev) : (setPending own p d).acs.nextTick = d.acs.nextTick := by
  cases own <;> rfl

theorem setPending_only (own : Owner) (p : Pending) (d : Dev) : DevOnly [.acs] d (setPending own p d) := by
  cases own <;> simp [devOnly_iff, setPending]

/-- An owner's set lies in the command set's state, in the host's set and those of the associations. -/
theorem pendingOf_congr (own : Owner) {d e : Dev} (hh : e.acs.hostSet = d.acs.hostSet)
    (ha : e.acs.assocSets = d.acs.assocSets) : pendingOf own e = pendingOf own d := by
  cases own with
  | host => exact hh
  | headEnd k => rw [pendingOf, pendingOf, ha]

/-- An answer leaves every pending set as it is. -/
theorem pendingOf_answered (o : Owner) (code tag : Nat) (own : Owner) (result job : Nat) (p : List Byte) (s : State) (d : Dev) :
    pendingOf o (answered code tag own result job p s d) = pendingOf o d :=
  pendingOf_congr o (by rw [answered_acs]) (by rw [answered_acs])

/-! The one entry of such a write (R109, R111). -/

/-- The parameter is an unsigned number that is not committed: PARAM_WRITE queues it for the next tick (R111, R113). -/
def queuedScalar (id : Nat) : Bool :=
  decide (id < 65536) &&
    (rowOf id).any fun r => decide (r.len < 256) && decide (r.ty < 0x11) && decide (r.acc ≠ 4)

theorem queuedScalar_row {id : Nat} (h : queuedScalar id = true) :
    id < 65536 ∧ ∃ r, rowOf id = some r ∧ r.len < 256 ∧ r.ty < 0x11 ∧ r.acc ≠ 4 := by
  simpa [queuedScalar, Option.any_eq_true, and_assoc] using h

/-- The bytes of one entry (R109). -/
def entryBytesOf (id len v : Nat) : List Byte :=
  leBytes 2 id ++ (leBytes 1 len ++ (leBytes 1 0 ++ (leBytes len v ++ List.replicate ((len + 3) / 4 * 4 - len) 0)))

theorem oneEntry_eq {id : Nat} {r : PRow} (hr : rowOf id = some r) (v : Nat) :
    oneEntry id v = leBytes 2 1 ++ (leBytes 2 0 ++ entryBytesOf id r.len v) := by
  simp [oneEntry, entryBytesOf, hr]

theorem entryBytesOf_id {id : Nat} (hid : id < 65536) (len v : Nat) : fieldAt (entryBytesOf id len v) 0 2 = id := by
  rw [entryBytesOf, ← List.nil_append (leBytes 2 id ++ _), fieldAt_middle [] _ 0 2 id rfl]
  exact Nat.mod_eq_of_lt hid

theorem entryBytesOf_len {len : Nat} (hlen : len < 256) (id v : Nat) : fieldAt (entryBytesOf id len v) 2 1 = len := by
  rw [entryBytesOf, fieldAt_middle (leBytes 2 id) _ 2 1 len (leBytes_length 2 id)]
  exact Nat.mod_eq_of_lt hlen

theorem entryBytesOf_length (id len v : Nat) : (entryBytesOf id len v).length = 4 + (len + 3) / 4 * 4 := by
  simp only [entryBytesOf, List.length_append, leBytes_length, List.length_replicate]
  omega

theorem entryBytesOf_value (id len v : Nat) : ((entryBytesOf id len v).drop 4).take len = leBytes len v := by
  have hhead : (leBytes 2 id ++ (leBytes 1 len ++ leBytes 1 0)).length = 4 := rfl
  rw [entryBytesOf, ← List.append_assoc (leBytes 1 len), ← List.append_assoc (leBytes 2 id), List.drop_left' hhead,
    List.take_left' (leBytes_length len v)]

/-- One entry of the right length is all that the arguments hold. -/
theorem writeEntries_one {id len : Nat} (hid : id < 65536) (hlen : len < 256) (v : Nat) :
    writeEntries 1 (entryBytesOf id len v) = some [(id, fieldAt (entryBytesOf id len v) 2 2, leBytes len v)] := by
  rw [writeEntries, entryBytesOf_len hlen, entryBytesOf_id hid, entryBytesOf_value, entryBytesOf_length, if_neg (Nat.lt_irrefl _),
    List.drop_of_length_le (entryBytesOf_length id len v).le]
  rfl

/-- The entry of an unsigned parameter is staged as the number that was written. -/
theorem entryStaged_unsigned {id v : Nat} {r : PRow} (hr : rowOf id = some r) (hty : r.ty < 0x11) (hv : v < 256 ^ r.len) :
    entryStaged id (leBytes r.len v) = .num id v := by
  have htext : ¬(rowOf id).any (fun r => decide (r.ty = 0x30)) = true := by
    rw [hr, Option.any_some, decide_eq_true_eq]
    omega
  have hsigned : ¬(0x11 ≤ r.ty ∧ r.ty ≤ 0x14) := by omega
  rw [entryStaged, if_neg htext, entryNum, hr]
  dsimp only
  rw [if_neg hsigned, leNat_leBytes, Nat.mod_eq_of_lt hv]

/-! The row. -/

/-- What a single-parameter write leaves before it is answered. -/
def written (id v : Nat) (own : Owner) (d : Dev) : Dev :=
  queueWrite own (setPending own (pendingOf own d) d) (.num id v)

/-- An entry that is not committed, written alone, finds the pending set as it was. -/
theorem writeAll_queued {own : Owner} {id : Nat} {v : Int} {d : Dev} (hc : isCommitted id = false)
    (hb : lanePertBusy [id] d = false) (hf : (pendingOf own d).fits = true) :
    writeAll own [.num id v] d = some (queueWrite own (setPending own (pendingOf own d) d) (.num id v)) := by
  have hnot : ([Staged.num id v].filter fun e => isCommitted e.id) = [] := by simp [Staged.id, hc]
  have hall : ([Staged.num id v].filter fun e => !isCommitted e.id) = [.num id v] := by simp [Staged.id, hc]
  rw [writeAll, hnot, hall]
  simp only [List.map_cons, List.map_nil, Staged.id, Pending.stage, List.isEmpty_nil, if_true, hb, hf]
  rfl

/-- An entry whose mode, authorisation, seal and range are in order fails nothing. -/
theorem entryFault_none {id : Nat} {v : Int} {s : State} (hg : writeGate id s = none) (hv : valueOk id v = true) :
    entryFault s (.num id v) = none := by
  rw [entryFault, Staged.id, hg]
  dsimp only
  rw [stagedOk, hv, if_pos rfl]

theorem hParamWrite_one {id v : Nat} {own : Owner} {s : State} (hq : queuedScalar id = true) (ho : WriteOpen id v own s) :
    hParamWrite s own (oneEntry id v) =
      .yes (leBytes 4 (pendingOf own (written id v own s.dev)).serial) (written id v own s.dev) := by
  obtain ⟨hid, r, hr, hlen, hty, hacc⟩ := queuedScalar_row hq
  obtain ⟨hv, -, hgate, hvalue, hbusy, hfits⟩ := ho
  rw [hr, Option.all_some, decide_eq_true_eq] at hv
  have hcommitted : isCommitted id = false := by simp [isCommitted, hr, hacc]
  have hcount : fieldAt (oneEntry id v) 0 2 = 1 := by
    rw [oneEntry_eq hr]
    exact fieldAt_middle [] _ 0 2 1 rfl
  have hdrop : (oneEntry id v).drop 4 = entryBytesOf id r.len v := by
    rw [oneEntry_eq hr]
    rfl
  have hstaged : ((writeEntries (fieldAt (oneEntry id v) 0 2) ((oneEntry id v).drop 4)).getD []).map
      (fun e => entryStaged e.1 e.2.2) = [.num id v] := by
    rw [hcount, hdrop, writeEntries_one hid hlen, Option.getD_some, List.map_cons, List.map_nil,
      entryStaged_unsigned hr hty hv]
  have hlowest : lowest 0 ([Staged.num id v].map (entryFault s)) = none := by
    rw [List.map_cons, List.map_nil, entryFault_none hgate hvalue]
    rfl
  rw [hParamWrite, hstaged, hlowest, writeAll_queued hcommitted hbusy hfits]
  rfl

/-- What the row leaves: the write, answered OK. -/
def writeAnswered (id v : Nat) (own : Owner) (s : State) : Dev :=
  answered Cmd.PARAM_WRITE 0 own Res.ok 0 (leBytes 4 (pendingOf own (written id v own s.dev)).serial) s (written id v own s.dev)

/-- A write of one parameter that every check passes is queued and answered OK. -/
theorem exec_writeOne {c : Instr} {id v : Nat} {own : Owner} {s : State} (hc : exec c s = writeOne id v own s)
    (hq : queuedScalar id = true) (ho : WriteOpen id v own s) :
    exec c s = .next { s with dev := writeAnswered id v own s } := by
  have hrow := hParamWrite_one hq ho
  obtain ⟨hv, hopen, -⟩ := ho
  rw [writeOne, if_pos hv] at hc
  exact exec_yes hc hopen hrow

theorem written_only (id v : Nat) (own : Owner) (d : Dev) : DevOnly [.acs, .log] d (written id v own d) :=
  ((setPending_only own _ d).mono (by decide)).trans (queueWrite_num_only own _ id v)

theorem written_nextTick (id v : Nat) (own : Owner) (d : Dev) : (written id v own d).acs.nextTick =
    d.acs.nextTick.filter (fun x => !x.same (.num id v)) ++ [.num id v] := by
  rw [written, queueWrite_num_acs, enqueued, setPending_nextTick]

theorem pendingOf_written (id v : Nat) (own : Owner) (d : Dev) : pendingOf own (written id v own d) = pendingOf own d := by
  have hacs := queueWrite_num_acs own (setPending own (pendingOf own d) d) id v
  rw [written, pendingOf_congr own (congrArg Acs.hostSet hacs) (congrArg Acs.assocSets hacs)]
  exact pendingOf_setPending own (pendingOf own d) d

theorem writeAnswered_only (id v : Nat) (own : Owner) (s : State) :
    DevOnly [.acs, .pow] (written id v own s.dev) (writeAnswered id v own s) :=
  answered_only Cmd.PARAM_WRITE 0 own Res.ok 0 _ s _

theorem writeAnswered_log (id v : Nat) (own : Owner) (s : State) :
    (writeAnswered id v own s).log = (written id v own s.dev).log := writeAnswered_only id v own s .log (by decide)

theorem writeQueued_writeAnswered (id v : Nat) (own : Owner) (s : State) :
    WriteQueued id v own s { s with dev := writeAnswered id v own s } := by
  have hacs := answered_acs Cmd.PARAM_WRITE 0 own Res.ok 0 (leBytes 4 (pendingOf own (written id v own s.dev)).serial) s
    (written id v own s.dev)
  refine ⟨congrArg Reply.result (answered_reply ..), ?queue, ?pending, ?logged, .dev ?only⟩
  case queue => exact (congrArg Acs.nextTick hacs).trans (written_nextTick id v own s.dev)
  case pending => exact (pendingOf_answered own ..).trans (pendingOf_written id v own s.dev)
  case logged =>
    dsimp only
    rw [writeAnswered_log]
    exact queueWrite_num_logged ..
  case only =>
    exact ((written_only id v own s.dev).mono (by decide)).trans ((writeAnswered_only id v own s).mono (by decide))

theorem Completes.of_writeOne {c : Instr} {id v : Nat} {own : Owner} {s : State} (hc : exec c s = writeOne id v own s)
    (hq : queuedScalar id = true) (ho : WriteOpen id v own s) : Completes c s (WriteQueued id v own s) :=
  ⟨_, exec_writeOne hc hq ho, writeQueued_writeAnswered id v own s⟩

theorem Completes.of_testWrite {c : Instr} {id v : Nat} {own : Owner} {s : State} (hc : exec c s = writeOne id v own s)
    (hq : queuedScalar id = true) (ht : id / 256 = 0x70) (ho : WriteOpen id v own s) :
    Completes c s (TestQueued id v own s) := by
  refine ⟨_, exec_writeOne hc hq ho, writeQueued_writeAnswered id v own s, ?_⟩
  rw [Logged, writeAnswered_log]
  exact queueWrite_test_logged own _ v ht

end Sys2Proof.Machine

open Sys2Proof Sys2Proof.Machine

/-- Settles O36: each of the rows is a PARAM_WRITE with one entry, of an unsigned parameter that no commit puts in force. -/
theorem registerWrites : Obligations.RegisterWrites := by
  unfold Obligations.RegisterWrites
  intro own v s
  refine ⟨?calAcc, ?sense, ?gplcReset, ?stretch, ?mboxDelay, ?portBusy, ?throttle, ?gplcHold, ?commitDelay, ?mismatch, ?wdt⟩
  case calAcc => exact .of_writeOne rfl (by decide +kernel)
  case sense => exact .of_writeOne rfl (by decide +kernel)
  case gplcReset => exact .of_writeOne rfl (by decide +kernel)
  case stretch => exact .of_testWrite rfl (by decide +kernel) rfl
  case mboxDelay => exact .of_testWrite rfl (by decide +kernel) rfl
  case portBusy => exact .of_testWrite rfl (by decide +kernel) rfl
  case throttle => exact .of_testWrite rfl (by decide +kernel) rfl
  case gplcHold => exact .of_testWrite rfl (by decide +kernel) rfl
  case commitDelay => exact .of_testWrite rfl (by decide +kernel) rfl
  case mismatch => exact .of_testWrite rfl (by decide +kernel) rfl
  case wdt => exact .of_testWrite rfl (by decide +kernel) rfl

end

section
/-!
PROOF. A commit that writes the key of slot 5 (R115, R400): the invocation counter accepted last goes with it (log entry 93),
a part of the DLMS state, which the statement of O29 has unchanged by a commit.
-/

namespace Sys2Proof.Machine

/-- A commit that nothing refuses is carried out, and answers with the count of commits. -/
theorem hParamCommit_yes {own : Owner} {args : List Byte} {s : State} (h : commitFault s (fieldAt args 0 4) (pendingOf own s.dev)
      (inForce s.dev) ((pendingOf own s.dev).entries.foldl storeStaged (inForce s.dev)) = none) :
    ∃ p, hParamCommit s own args = .yes p (commitEff s own (pendingOf own s.dev) (inForce s.dev)
      ((pendingOf own s.dev).entries.foldl storeStaged (inForce s.dev)) s.dev) := by
  rw [hParamCommit]
  dsimp only
  rw [h]
  exact ⟨_, rfl⟩

/-- Frames run, Lane A leads, a management association has used counter 5, and the host has staged the key of slot 5. -/
def keyStaged : State :=
  { clk := { frame := 100000, running := true, mode := .ready }
    dev := { lanes := { a := { st := .lead }, token := some .a }, dlms := { lastIc := some 5 }
             acs := { hostSet := ⟨1, [.blk Param.DLMS_KEY 0 (List.replicate 16 1)]⟩ } } }

theorem keyStaged_open : AcsOpen Cmd.PARAM_COMMIT .host (leBytes 4 1) keyStaged := by
  unfold AcsOpen
  decide +kernel

theorem keyStaged_commits : commitFault keyStaged (fieldAt (leBytes 4 1) 0 4) (pendingOf .host keyStaged.dev)
    (inForce keyStaged.dev) ((pendingOf .host keyStaged.dev).entries.foldl storeStaged (inForce keyStaged.dev)) = none := by
  decide +kernel

/-- The machine once the commit has been carried out, before it is answered. -/
def keyCommitted : Dev := commitEff keyStaged .host (pendingOf .host keyStaged.dev) (inForce keyStaged.dev)
  ((pendingOf .host keyStaged.dev).entries.foldl storeStaged (inForce keyStaged.dev)) keyStaged.dev

theorem keyCommitted_lastIc : keyCommitted.dlms.lastIc = none := by decide +kernel

end Sys2Proof.Machine

open Sys2Proof Sys2Proof.Machine

/-- Refutes O29: the host commits the key of slot 5, with which the model clears the invocation counter accepted last (R400,
log entry 93), while the statement of a commit has the DLMS state as it was. -/
theorem not_paramWriting : ¬ Obligations.ParamWriting := by
  unfold Obligations.ParamWriting
  intro h
  obtain ⟨-, -, hcommit, -⟩ := h .host 0 (leBytes 4 1) keyStaged
  obtain ⟨t, ht, -, -, -, -, -, -, -, honly⟩ := hcommit keyStaged_open keyStaged_commits
  obtain ⟨p, hyes⟩ := hParamCommit_yes keyStaged_commits
  rw [exec_yes rfl keyStaged_open hyes] at ht
  obtain rfl := Host.Outcome.next.inj ht
  have hanswered : _ = keyCommitted.dlms :=
    answered_only Cmd.PARAM_COMMIT 0 .host Res.ok 0 p keyStaged keyCommitted .dlms (by decide)
  have hkept : _ = keyStaged.dev.dlms := honly .dlms (by decide)
  have hsame : keyStaged.dev.dlms.lastIc = none :=
    (congrArg Dlms.lastIc (hkept.symm.trans hanswered)).trans keyCommitted_lastIc
  cases hsame

end

section
/-!
PROOF. The commands of operation (R135, R210, R223, R230, R252, R255, R305, R306, R320, R328, R331): what each handler leaves,
under the answer that the command set lays over it.
-/

namespace Sys2Proof.Machine

/-! A command that its handler accepts. -/

/-- An accepted command answers OK; over the handler's effect no more than the answer changes. -/
theorem exec_accepts {c : Instr} {code tag : Nat} {own : Owner} {args p : List Byte} {h : Handler} {s : State} {d : Dev}
    (hc : exec c s = acsRow code own tag args h s) (ho : AcsOpen code own args s) (hh : h s own args = .yes p d) :
    ∃ t, exec c s = .next t ∧ Answered code tag Res.ok 0 p s t ∧ DevOnly [.acs, .pow] d t.dev :=
  ⟨_, exec_yes hc ho hh, answered_reply .., answered_only code tag own Res.ok 0 p s d⟩

/-- An accepted command whose handler touches neither the command set nor power keeps them but for its own answer, and
changes no part that its handler leaves. -/
theorem exec_accepts_core {c : Instr} {code tag : Nat} {own : Owner} {args p : List Byte} {h : Handler} {s : State} {d : Dev}
    {ps : List Part} (hc : exec c s = acsRow code own tag args h s) (ho : AcsOpen code own args s)
    (hh : h s own args = .yes p d) (hd : DevOnly ps s.dev d) (ha : .acs ∉ ps := by decide) (hp : .pow ∉ ps := by decide) :
    ∃ t, exec c s = .next t ∧ Answered code tag Res.ok 0 p s t ∧ CoreKept s t ∧ DevOnly [.acs, .pow] d t.dev ∧
      OnlyChanges (.acs :: .pow :: ps) s t := by
  have hacs : d.acs = s.dev.acs := hd .acs ha
  have hpow : d.pow = s.dev.pow := hd .pow hp
  have hover := answered_only code tag own Res.ok 0 p s d
  refine ⟨_, exec_yes hc ho hh, answered_reply .., ⟨?_, ?_⟩, hover,
    .dev (hd.then hover (fun _ k => List.mem_cons_of_mem _ (List.mem_cons_of_mem _ k)) (by simp))⟩
  · dsimp only
    rw [answered_acs, hacs]
  · dsimp only
    rw [answered_pow, hpow]

/-- An open request that its handler refuses is answered with the code, over `dev` as it was. -/
theorem exec_refuses {c : Instr} {code tag : Nat} {own : Owner} {args p : List Byte} {h : Handler} {s : State} {r : Nat}
    (hc : exec c s = acsRow code own tag args h s) (ho : AcsOpen code own args s) (hh : h s own args = .no r p) :
    exec c s = .next { s with dev := answered code tag own r 0 p s s.dev } := by
  obtain ⟨hserves, hcheck⟩ := ho
  rw [hc, acsRow, if_pos hserves, acsRun_no tag hcheck hh]

/-- An open request whose handler refuses with an effect is answered with the code, over that effect. -/
theorem exec_refuses_with {c : Instr} {code tag : Nat} {own : Owner} {args : List Byte} {h : Handler} {s : State} {r : Nat}
    {d : Dev} (hc : exec c s = acsRow code own tag args h s) (ho : AcsOpen code own args s)
    (hh : h s own args = .noWith r d) : exec c s = .next { s with dev := answered code tag own r 0 [] s d } := by
  obtain ⟨hserves, hcheck⟩ := ho
  rw [hc, acsRow, if_pos hserves, acsRun_noWith tag hcheck hh]

/-! The clock (R209, R210). -/

/-- A change of clock status writes the status of the next tick and adds to the log. -/
theorem clockChange_keeps (st cause : Nat) (d : Dev) : DevOnly [.tar, .log] d (clockChange st cause d) ∧
    d.log.now ⊆ (clockChange st cause d).log.now ∧
    ∃ x, (clockChange st cause d).tar = { d.tar with nextStatus := x } := by
  unfold clockChange
  split
  · exact ⟨.refl _ _, List.Subset.refl _, d.tar.nextStatus, rfl⟩
  · exact ⟨by simp [devOnly_iff], List.subset_append_left _ _, _, rfl⟩

/-- What a set of the clock leaves (R210). -/
structure ClockSet (src time : Nat) (d e : Dev) : Prop where
  only : DevOnly [.tar, .log] d e
  load : e.tar.load = some (time, src)
  count : e.tar.setCount = d.tar.setCount + 1
  rtc : e.tar.rtc = d.tar.rtc
  step : e.tar.lastStep = (time : Int) - rtcNext d
  logged : Ev.of Src.metr Event.CLOCK_STEPPED (leBytes 4 (rtcNext d) ++ leBytes 4 time ++
    leBytesInt 4 ((time : Int) - rtcNext d) ++ leBytes 1 src) ∈ e.log.now

theorem clockSetEff_set (src time : Nat) (d : Dev) : ClockSet src time d (clockSetEff src time d) := by
  unfold clockSetEff
  extract_lets old step st _ d₁ d₂
  have h₂ : DevOnly [.tar, .log] d d₂ := by simp [devOnly_iff, d₂, d₁]
  obtain ⟨honly, hnow, x, htar⟩ := clockChange_keeps st.1 st.2 d₂
  refine ⟨h₂.trans honly, ?_, ?_, ?_, ?_, hnow (List.mem_append_right _ (List.mem_singleton_self _))⟩ <;> rw [htar] <;> rfl

/-! Syncs and the display (R135, R137, R230). -/

theorem decideSync_none {d : Dev} (h : d.samp.syncPend = none) (n : Nat) (pin host force : Bool) :
    decideSync n pin host force d =
      { d with samp := { d.samp with syncs := addSync ⟨n, pin, host, force⟩ d.samp.syncs } } := by
  unfold decideSync
  rw [h]

theorem decideSync_some {d : Dev} {p : SyncReq} (h : d.samp.syncPend = some p) (n : Nat) (pin host force : Bool) :
    decideSync n pin host force d =
      { d with samp := { d.samp with syncPend := some (p.merge ⟨n, pin, host, force⟩) } } := by
  unfold decideSync
  rw [h]

theorem decideSync_only (n : Nat) (pin host force : Bool) (d : Dev) : DevOnly [.samp] d (decideSync n pin host force d) := by
  unfold decideSync
  split <;> simp [devOnly_iff]

theorem displayStep_only (n : Nat) (d : Dev) : DevOnly [.disp] d (displayStep n d) := by
  unfold displayStep
  split
  · exact .refl _ _
  · dsimp only
    split <;> simp [devOnly_iff, dispAdvance]

/-- An advance of the page or item leaves the manual step as it is. -/
theorem dispAdvance_manual (n : Nat) (d : Dev) : (dispAdvance n d).disp.manual = d.disp.manual ∧
    (dispAdvance n d).disp.lastStep = d.disp.lastStep := by
  unfold dispAdvance
  dsimp only
  split <;> exact ⟨rfl, rfl⟩

/-- A step stops the scrolling from its frame on (R230). -/
theorem displayStep_manual (n : Nat) (d : Dev) : (displayStep n d).disp.manual = some n ∧
    (displayStep n d).disp.lastStep = n := by
  unfold displayStep
  split
  · next h => exact h.symm
  · dsimp only
    split
    · exact ⟨rfl, rfl⟩
    · exact dispAdvance_manual n _

/-! Remote start and stop (R252, R255). -/

theorem hRemoteStart_yes {own : Owner} {args : List Byte} {s : State} (hb : remoteStartBlocked s.dev = false)
    (h1 : fieldAt args 0 1 = 1) : hRemoteStart s own args = .yes [] (takeAuth Src.host
      (if s.dev.veh.contract = 4 ∧ s.dev.veh.emaid = args.drop 1 then 1
        else if s.dev.ses.request.any (fun r => decide (r.1 = args.drop 1)) then 3 else 4) (args.drop 1) s.clk.frame s.dev) :=
  (if_neg (by simp [hb])).trans (if_neg (by simp [h1]))

/-- An authorisation is for the open session, or is held for REMOTE_START_WINDOW (R251, R252). -/
theorem takeAuth_auth (src means : Nat) (id : List Byte) (n : Nat) (d : Dev) : (takeAuth src means id n d).ses.auth =
    some ⟨means, id, if d.ses.isOpen then none else some (n + secs (d.nat Param.REMOTE_START_WINDOW))⟩ := by
  unfold takeAuth
  dsimp only
  rw [recordAuth_only _ .ses (by decide)]
  split <;> rfl

/-- With the outlet closed an ordered stop waits for it to open, with its cause and frame (R255). -/
theorem orderedStop_waits (s : State) (cause : Nat) {d : Dev} (ho : d.ses.isOpen = true) (hs : d.ses.stop = none)
    (hq : outletShut d = true) : (orderedStop s cause d).ses.stop = some (cause, s.clk.frame) := by
  unfold orderedStop
  rw [if_pos ⟨ho, by simp [hs]⟩]
  dsimp only
  split
  · rfl
  · rw [if_pos (.inl hq)]

theorem hRemoteStop_open {own : Owner} {args : List Byte} {s : State} (h1 : fieldAt args 0 1 = 1)
    (ho : s.dev.ses.isOpen = true) : hRemoteStop s own args =
      .yes [1] (orderedStop s (if own = .host then EndCause.host else EndCause.headEnd) s.dev) :=
  (if_neg (by simp [h1])).trans (if_pos ho)

theorem hRemoteStop_closed {own : Owner} {args : List Byte} {s : State} (h1 : fieldAt args 0 1 = 1)
    (ho : s.dev.ses.isOpen = false) : hRemoteStop s own args = .yes [0] s.dev :=
  (if_neg (by simp [h1])).trans (if_neg (by simp [ho]))

/-! The safety group (R305, R306). -/

theorem hSafetyConfirm_first {own : Owner} {args : List Byte} {s : State} (hv : fieldAt args 0 8 = safetyCheckOf s.dev)
    (h1 : fieldAt args 8 1 = 1) : hSafetyConfirm s own args =
      .yes [] { s.dev with saf := { s.dev.saf with confirmSt := 1, confirmFrame := s.clk.frame } } :=
  (if_neg (by simp [h1])).trans ((if_neg (by simp [hv])).trans (if_pos h1))

theorem hSafetyConfirm_second {own : Owner} {args : List Byte} {s : State} (hv : fieldAt args 0 8 = safetyCheckOf s.dev)
    (h2 : fieldAt args 8 1 = 2) (hw : confirmWindow s.clk.frame s.dev = true) : hSafetyConfirm s own args =
      .yes [] (({ s.dev with saf := { s.dev.saf with confirmSt := 2, confirmed := fieldAt args 0 8 } }).raise Src.host
        Event.SAFETY_CONFIRMED (leBytes 8 (fieldAt args 0 8))) :=
  (if_neg (by simp [h2])).trans ((if_neg (by simp [hv])).trans ((if_neg (by simp [h2])).trans (if_pos hw)))

theorem hSafetyConfirm_late {own : Owner} {args : List Byte} {s : State} (hv : fieldAt args 0 8 = safetyCheckOf s.dev)
    (h2 : fieldAt args 8 1 = 2) (hw : confirmWindow s.clk.frame s.dev = false) :
    hSafetyConfirm s own args = .no Res.checkMismatch [] :=
  (if_neg (by simp [h2])).trans ((if_neg (by simp [hv])).trans ((if_neg (by simp [h2])).trans (if_neg (by simp [hw]))))

theorem hSafetyConfirm_mismatch {own : Owner} {args : List Byte} {s : State} (hv : fieldAt args 0 8 ≠ safetyCheckOf s.dev)
    (hstep : fieldAt args 8 1 = 1 ∨ fieldAt args 8 1 = 2) : hSafetyConfirm s own args =
      .noWith Res.checkMismatch { s.dev with saf := { s.dev.saf with confirmSt := 0 } } :=
  (if_neg (by omega)).trans (if_pos hv)

/-- The safety set with the proof tests of a function beside those that are under way (R306). -/
def proofsAsked (k : Nat) (d : Dev) : Dev :=
  { d with saf := { d.saf with proofs := d.saf.proofs ++ (proofTests k d).filter fun t => !d.saf.proofs.contains t } }

/-- The test that a function argument names is under way. -/
theorem mem_proofsAsked (k : Nat) (d : Dev) : k ∈ (proofsAsked k d).saf.proofs := by
  have hk : k ∈ proofTests k d := by
    unfold proofTests
    split
    · next h => simp [h]
    · simp
  simp only [proofsAsked, List.mem_append, List.mem_filter]
  by_cases hm : k ∈ d.saf.proofs
  · exact .inl hm
  · exact .inr ⟨hk, by simp [hm]⟩

/-- A test that the model knows is answered 1 for a closed outlet, 2 for a disabled function, 0 once it is started. -/
theorem hSafetyProofTest_known {own : Owner} {args : List Byte} {s : State} (hlo : 1 ≤ fieldAt args 0 1)
    (hhi : fieldAt args 0 1 ≤ 6) : hSafetyProofTest s own args =
      if outletShut s.dev then .yes [1] s.dev
      else if !proofEnabled (fieldAt args 0 1) s.dev then .yes [2] s.dev
      else .yes [0] (proofsAsked (fieldAt args 0 1) s.dev) := if_neg (by omega)

/-! Load switches and the lock (R320, R328, R331). -/

theorem onHsw_only (k : Nat) (f : Hsw → Hsw) (d : Dev) : DevOnly [.sw] d (onHsw k f d) := by simp [devOnly_iff, onHsw]

theorem hSwitchSet_yes {own : Owner} {args : List Byte} {s : State} (hk : hswNumber (fieldAt args 0 1) = true)
    (hcmd : fieldAt args 1 1 ≤ 2) (hduty : fieldAt args 2 2 ≤ 4095) : hSwitchSet s own args =
      .yes [] (onHsw (fieldAt args 0 1) (fun h => { h with nextCmd := some (fieldAt args 1 1, fieldAt args 2 2) }) s.dev) :=
  if_neg (by simp [hk]; omega)

/-- The lock bridge, 9, is no number of a channel (R328). -/
theorem ne_nine_of_hswNumber {k : Nat} (h : hswNumber k = true) : k ≠ 9 := by
  rintro rfl
  cases h

/-- What a clearing asks of the latch of the bridge or of a channel (R320). -/
def latchCleared (k : Nat) (d : Dev) : Dev :=
  if k = 9 then d.when d.sw.lockLatched fun d => { d with sw := { d.sw with lockClear := true } }
  else d.when (d.sw.get k).latched (onHsw k fun h => { h with nextClear := true })

theorem latchCleared_only (k : Nat) (d : Dev) : DevOnly [.sw] d (latchCleared k d) :=
  .ite (fun _ => .when fun _ => by simp [devOnly_iff]) fun _ => .when fun _ => onHsw_only _ _ _

theorem hLatchClear_yes {own : Owner} {args : List Byte} {s : State}
    (hk : fieldAt args 0 1 = 9 ∨ hswNumber (fieldAt args 0 1) = true) :
    hLatchClear s own args = .yes [] (latchCleared (fieldAt args 0 1) s.dev) := by
  unfold hLatchClear latchCleared
  dsimp only
  split
  · rfl
  · next h => rw [if_pos (hk.resolve_left h)]

theorem driveLockNext_only (toLock : Bool) (d : Dev) : DevOnly [.sw] d (driveLockNext toLock d) := by
  unfold driveLockNext
  exact .ite (fun _ => .refl _ _) fun _ => by simp [devOnly_iff]

theorem hLockDrive_yes {own : Owner} {args : List Byte} {s : State} (hst : s.dev.pow.starting = false)
    (hl : s.dev.sw.lockLatched = false) (hv : fieldAt args 0 1 ≤ 1) (hb : lockBusy s.dev = false) :
    hLockDrive s own args = .yes [] (driveLockNext (decide (fieldAt args 0 1 = 1)) s.dev) :=
  (if_neg (by simp [hst])).trans ((if_neg (by simp [hl])).trans ((if_neg (by omega)).trans (if_neg (by simp [hb]))))

end Sys2Proof.Machine

open Sys2Proof Sys2Proof.Machine

/-- Settles O33: each command by what its handler leaves, which the answer does not touch. -/
theorem operationCommands : Obligations.OperationCommands := by
  unfold Obligations.OperationCommands
  intro own tag args s
  refine ⟨fun ho ht => ?clock, fun ho hv => ?sync, fun ho => ?billing, fun ho => ?display, fun ho hb h1 => ?start,
    fun ho h1 => ?stop, fun step ho hv hstep h => ?confirm, fun step ho hstep h => ⟨fun hv => ?mismatch, fun hv h2 hw => ?late⟩,
    fun ho hlo hhi hout hen => ?proof, fun ho hlo hhi => ⟨fun hout => ?closed, fun hout hen => ?disabled⟩,
    fun ho hk hcmd hduty => ?switch, fun ho hk => ?latch, fun ho hst hl hv hb => ?lock⟩
  case clock =>
    have h := clockSetEff_set (fieldAt args 4 1) (fieldAt args 0 4) s.dev
    obtain ⟨t, ht, hans, hcore, hover, honly⟩ := exec_accepts_core (c := .clockSet own tag args) rfl ho
      (if_neg (Nat.not_lt.2 ht)) h.only
    have htar : t.dev.tar = _ := hover .tar (by decide)
    have hlog : t.dev.log = _ := hover .log (by decide)
    refine ⟨t, ht, ?_, ?_, ?_, ?_, ?_, hcore, ?_, honly.mono (by decide)⟩
    · rw [htar]; exact hans
    · rw [htar]; exact h.load
    · rw [htar]; exact h.count
    · rw [htar]; exact h.rtc
    · rw [htar]; exact h.step
    · rw [Logged, hlog]; exact h.logged
  case sync =>
    obtain ⟨t, ht, hans, hcore, hover, honly⟩ := exec_accepts_core (c := .sync own tag args) rfl ho
      (if_neg (Nat.not_lt.2 hv)) (decideSync_only _ _ _ _ _)
    have hsamp : t.dev.samp = _ := hover .samp (by decide)
    refine ⟨t, ht, hans, hcore, fun hp => ?_, fun p hp => ?_, honly⟩
    · rw [hsamp, decideSync_none hp]
    · rw [hsamp, decideSync_some hp]
  case billing =>
    obtain ⟨t, ht, hans, hcore, hover, honly⟩ := exec_accepts_core (c := .billingClose own tag args) (ps := [.tar]) rfl ho
      rfl (by simp [devOnly_iff])
    exact ⟨t, ht, hans, hcore, hover .tar (by decide), honly⟩
  case display =>
    obtain ⟨t, ht, hans, hcore, hover, honly⟩ := exec_accepts_core (c := .displayStep own tag args) rfl ho rfl
      (displayStep_only _ _)
    obtain ⟨hmanual, hlast⟩ := displayStep_manual s.clk.frame s.dev
    have hdisp : t.dev.disp = _ := hover .disp (by decide)
    exact ⟨t, ht, hans, hcore, by rw [hdisp, hmanual], by rw [hdisp, hlast], honly⟩
  case start =>
    obtain ⟨t, ht, hans, hcore, hover, honly⟩ := exec_accepts_core (c := .remoteStart own tag args) rfl ho
      (hRemoteStart_yes hb h1) (takeAuth_taken ..).only
    have hses : t.dev.ses = _ := hover .ses (by decide)
    exact ⟨t, ht, hans, hcore, by rw [hses, takeAuth_auth], by rw [hses, takeAuth_open], honly⟩
  case stop =>
    cases hopen : s.dev.ses.isOpen with
    | false =>
      obtain ⟨t, ht, hans, -, honly⟩ := Completes.of_read (c := .remoteStop own tag args) rfl ho (hRemoteStop_closed h1 hopen)
      exact ⟨t, ht, hans, fun _ => honly, nofun, nofun⟩
    | true =>
      obtain ⟨t, ht, hans, hover⟩ := exec_accepts (c := .remoteStop own tag args) rfl ho (hRemoteStop_open h1 hopen)
      have hses : t.dev.ses = _ := hover .ses (by decide)
      refine ⟨t, ht, hans, nofun, fun _ hs hq => ?_, fun _ hs hq he hc => ?_⟩
      · rw [hses, orderedStop_waits s _ hopen hs hq]
      · rw [hses, orderedStop_ends s _ hopen hs he hq hc, endSession_closed]
  case confirm =>
    subst hstep
    obtain h1 | ⟨h2, hw⟩ := h
    · obtain ⟨t, ht, hans, hcore, hover, honly⟩ := exec_accepts_core (c := .safetyConfirm own tag args) (ps := [.saf]) rfl ho
        (hSafetyConfirm_first hv h1) (by simp [devOnly_iff])
      have hsaf : t.dev.saf = _ := hover .saf (by decide)
      exact ⟨t, ht, hans, hcore, by rw [hsaf, h1], fun _ => hsaf, fun k => by omega, honly.mono (by decide)⟩
    · obtain ⟨t, ht, hans, hcore, hover, honly⟩ := exec_accepts_core (c := .safetyConfirm own tag args) (ps := [.log, .saf])
        rfl ho (hSafetyConfirm_second hv h2 hw) (by simp [devOnly_iff])
      have hsaf : t.dev.saf = _ := hover .saf (by decide)
      exact ⟨t, ht, hans, hcore, by rw [hsaf, h2]; rfl, fun k => by omega,
        fun _ => ⟨by rw [hsaf]; exact hv, hover .log (by decide)⟩, honly⟩
  case mismatch =>
    subst hstep
    have hover := answered_refused_only Cmd.SAFETY_CONFIRM tag own 0 [] s
      { s.dev with saf := { s.dev.saf with confirmSt := 0 } } (r := Res.checkMismatch) (by decide)
    exact ⟨_, exec_refuses_with rfl ho (hSafetyConfirm_mismatch hv h), answered_reply .., hover .saf (by decide),
      .dev (DevOnly.then (ps := [.saf]) (by simp [devOnly_iff]) hover)⟩
  case late =>
    subst hstep
    exact ⟨_, exec_refuses rfl ho (hSafetyConfirm_late hv h2 hw), answered_reply ..,
      .dev (answered_refused_only Cmd.SAFETY_CONFIRM tag own 0 [] s s.dev (by decide))⟩
  case proof =>
    have hh := hSafetyProofTest_known (own := own) (s := s) hlo hhi
    rw [if_neg (by simp [hout]), if_neg (by simp [hen])] at hh
    obtain ⟨t, ht, hans, hcore, hover, honly⟩ := exec_accepts_core (c := .safetyProofTest own tag args) (ps := [.saf]) rfl ho
      hh (by simp [devOnly_iff, proofsAsked])
    have hsaf : t.dev.saf = _ := hover .saf (by decide)
    exact ⟨t, ht, hans, hcore, by rw [hsaf]; exact mem_proofsAsked .., honly⟩
  case closed =>
    exact .of_read rfl ho ((hSafetyProofTest_known hlo hhi).trans (if_pos hout))
  case disabled =>
    exact .of_read rfl ho ((hSafetyProofTest_known hlo hhi).trans
      ((if_neg (by simp [hout])).trans (if_pos (by simp [hen]))))
  case switch =>
    obtain ⟨t, ht, hans, hcore, hover, honly⟩ := exec_accepts_core (c := .switchSet own tag args) rfl ho
      (hSwitchSet_yes hk hcmd hduty) (onHsw_only _ _ _)
    exact ⟨t, ht, hans, hcore, hover .sw (by decide), honly⟩
  case latch =>
    obtain ⟨t, ht, hans, hcore, hover, honly⟩ := exec_accepts_core (c := .latchClear own tag args) rfl ho
      (hLatchClear_yes hk) (latchCleared_only _ _)
    have hsw : t.dev.sw = _ := hover .sw (by decide)
    refine ⟨t, ht, hans, hcore, fun h9 hl => ?_, fun hn hl => ?_, fun h9 hl => ?_, fun hn hl => ?_, honly⟩
    · rw [hsw, latchCleared, if_pos h9, hl, Dev.when_true]
    · rw [hsw, latchCleared, if_neg (ne_nine_of_hswNumber hn), hl, Dev.when_true]
    · rw [hsw, latchCleared, if_pos h9, hl, Dev.when_false]
    · rw [hsw, latchCleared, if_neg (ne_nine_of_hswNumber hn), hl, Dev.when_false]
  case lock =>
    obtain ⟨t, ht, hans, hcore, hover, honly⟩ := exec_accepts_core (c := .lockDrive own tag args) rfl ho
      (hLockDrive_yes hst hl hv hb) (driveLockNext_only _ _)
    have hsw : t.dev.sw = _ := hover .sw (by decide)
    refine ⟨t, ht, hans, hcore, fun hpos => ?_, fun hpos hu => ?_, honly⟩
    · have hbridge : s.dev.sw.bridge = 0 := by
        by_contra hne
        simp [lockBusy, hne] at hb
      rw [hsw, driveLockNext, if_pos (by simp [hbridge, hpos])]
    · rw [hsw, driveLockNext, if_neg (by simp [hu, hpos])]

end

section
/-!
SUPPORT. A trip (R268 to R274): the safe state that no end of a session takes back, the latch of its function, and what it
leaves of the rest.
-/

namespace Sys2Proof.Machine

/-- SERGE's trip latches, and the loss of path M (R270, R280). -/
def Saf.latches (x : Saf) : BitVec 16 × Bool := (x.trips, x.pathMLost)

theorem applyOutputs_latches (n : Nat) (o : BitVec 3) (d : Dev) : (applyOutputs n o d).saf.latches = d.saf.latches := by
  unfold applyOutputs
  dsimp only
  split <;> split <;> split <;> rfl

theorem safeOutputs_latches (n : Nat) (d : Dev) : (safeOutputs n d).saf.latches = d.saf.latches :=
  applyOutputs_latches n outSafe _

theorem requestOpen_latches (n : Nat) (d : Dev) : (requestOpen n d).saf.latches = d.saf.latches :=
  applyOutputs_latches n _ _

/-- Behind a trip latch SERGE latches nothing but the safe state (R270). -/
theorem requestOpen_tripped {d : Dev} (h : d.saf.trips ≠ 0) (n : Nat) : (requestOpen n d).lanes.outputs = outSafe :=
  if_pos (by simpa [sergeHolds] using Or.inr h)

theorem closeSession_saf (s : State) (cause : Nat) (d : Dev) :
    (closeSession s cause (sessionEndedEv s cause) d).saf.latches = d.saf.latches := by
  obtain ⟨bal, h⟩ := closeSession_eq s cause (sessionEndedEv s cause) d
  have hsaf : (balanceLog d.ses.number bal (sessionEndedEv s cause (closingRecord s cause d))).saf = d.saf :=
    ((balanceLog_only d.ses.number bal _ .saf (by decide)).trans (sessionEndedEv_only s cause _ .saf (by decide))).trans
      (closingRecord_only s cause d .saf (by decide))
  rw [h, ← hsaf]
  rfl

theorem endMode_latches (m : Mode) (d : Dev) : (endMode m d).saf.latches = d.saf.latches := by
  cases m
  case degraded =>
    have hsaf : (d.saf.degBits.foldl (fun d b => d.setCause b) (d.setCause Cause.degradedEnd)).saf = d.saf :=
      setCauses_only _ _ .saf (by decide)
    rw [← hsaf]
    rfl
  all_goals rfl

theorem endSession_latches (s : State) (cause : Nat) (d : Dev) : (endSession s cause d).saf.latches = d.saf.latches := by
  unfold endSession
  split
  · rw [endMode_latches, closeSession_saf, requestOpen_latches]
  · rfl

/-- The end of a session brings no output back from the safe state that a trip latch holds. -/
theorem endSession_tripped {s : State} {d : Dev} (ht : d.saf.trips ≠ 0) (ho : d.lanes.outputs = outSafe) (cause : Nat) :
    (endSession s cause d).lanes.outputs = outSafe := by
  unfold endSession
  split
  · rw [endMode_only _ _ .lanes (by decide), closeSession_only s cause _ .lanes (by decide), requestOpen_tripped ht]
  · exact ho

theorem tripLast_latches (n f tier : Nat) (x : Saf) : (tripLast n f tier x).latches = x.latches := by
  unfold tripLast
  dsimp only
  split <;> rfl

theorem or_bitAt_ne_zero (x : BitVec 16) {f : Nat} (hf : f < 16) : x ||| bitAt f ≠ 0 := by
  intro h
  have hbit : (x ||| bitAt f).getLsbD f = true := by simp [bitAt, hf]
  rw [h] at hbit
  simp at hbit

/-- What a trip of function f leaves. -/
structure TripLeaves (f : Nat) (d e : Dev) : Prop where
  only : DevOnly [.lanes, .pow, .ses, .led, .log, .acs, .keys, .dc, .veh, .saf] d e
  grows : Grows d e
  outputs : e.lanes.OutputsSafe
  latches : e.saf.latches = (d.saf.trips ||| bitAt f, d.saf.pathMLost)

/-- SERGE's answer to a trip: the safe state and the latch of its function (R269, R270). -/
def tripHeld (n f : Nat) (d : Dev) : Dev :=
  safeOutputs n { d with saf := { d.saf with trips := d.saf.trips ||| bitAt f, since := d.saf.since ||| bitAt f } }

theorem tripHeld_leaves (n f : Nat) (d : Dev) : TripLeaves f d (tripHeld n f d) := by
  have honly : DevOnly [.lanes, .saf, .veh] d (tripHeld n f d) :=
    DevOnly.then (ps := [.saf]) (by simp [devOnly_iff]) (safeOutputs_only n _)
  exact ⟨honly.mono (by decide), .of_only honly (by decide) (by decide), rfl, safeOutputs_latches n _⟩

/-- The log and the causes of a trip that is not yet logged (R269, R298). -/
def tripLogged (s : State) (f tier : Nat) (value : Int) (sBit : Option Nat) (d : Dev) : Dev :=
  let d := ({ d with saf := { tripLast s.clk.frame f tier d.saf with
    tiers := if d.saf.tiers.contains (f, tier) then d.saf.tiers else (f, tier) :: d.saf.tiers } }).raise Src.serge
    Event.SAFETY_TRIPPED (leBytes 1 f ++ leBytes 1 tier ++ leBytesInt 4 value ++ leBytes 1 (if sBit.isSome then 1 else 0))
  match sBit with
  | some k => (markS k d).safeStop s.clk.mode Cause.safetyLatch Event.SAFETY_TRIPPED
  | none =>
    if s.clk.mode = .ready ∨ s.clk.mode = .session ∨ s.clk.mode = .degraded then
      d.safeStop s.clk.mode Cause.safetyTrip Event.SAFETY_TRIPPED
    else d

theorem tripLogged_keeps (s : State) (f tier : Nat) (value : Int) (sBit : Option Nat) (d : Dev) :
    DevOnly [.pow, .log, .saf] d (tripLogged s f tier value sBit d) ∧ Grows d (tripLogged s f tier value sBit d) ∧
      (tripLogged s f tier value sBit d).saf.latches = d.saf.latches := by
  unfold tripLogged
  extract_lets y z
  have hz : DevOnly [.pow, .log, .saf] d z := by simp [devOnly_iff, z, y]
  have hg : Grows d z := ⟨List.subset_append_left _ _, List.Subset.refl _, fun _ => id⟩
  have hl : z.saf.latches = d.saf.latches := tripLast_latches s.clk.frame f tier d.saf
  have hsafe (k ev : Nat) (e : Dev) : DevOnly [.pow, .log, .saf] e (e.safeStop s.clk.mode k ev) :=
    (Dev.safeStop_only _ _ _ e).mono (by decide)
  cases sBit with
  | some k =>
    have hm : DevOnly [.pow, .log, .saf] z (markS k z) := by simp [devOnly_iff, markS]
    refine ⟨(hz.trans hm).trans (hsafe _ _ _), (hg.trans (.markS k z)).trans (.safeStop _ _ _ _), ?_⟩
    rw [Dev.safeStop_saf]
    exact hl
  | none =>
    dsimp only
    split
    · exact ⟨hz.trans (hsafe _ _ _), hg.trans (.safeStop _ _ _ _), by rw [Dev.safeStop_saf]; exact hl⟩
    · exact ⟨hz, hg, hl⟩

/-- A trip that was logged since its latch is held again; any other is logged and ends the session. -/
theorem trip_cases (s : State) (f tier : Nat) (value : Int) (sBit : Option Nat) (d : Dev) :
    trip s f tier value sBit d = tripHeld s.clk.frame f d ∨
      trip s f tier value sBit d =
        endSession s EndCause.trip (tripLogged s f tier value sBit (tripHeld s.clk.frame f d)) := by
  unfold trip
  extract_lets n fresh
  split
  · right
    cases sBit <;> rfl
  · exact .inl rfl

theorem trip_leaves (s : State) {f : Nat} (hf : f < 16) (tier : Nat) (value : Int) (sBit : Option Nat) (d : Dev) :
    TripLeaves f d (trip s f tier value sBit d) := by
  have hheld := tripHeld_leaves s.clk.frame f d
  obtain h | h := trip_cases s f tier value sBit d
  · rw [h]
    exact hheld
  · obtain ⟨honly, hgrows, houtputs, hlatches⟩ := hheld
    obtain ⟨lonly, lgrows, llatches⟩ := tripLogged_keeps s f tier value sBit (tripHeld s.clk.frame f d)
    rw [h]
    have hl := llatches.trans hlatches
    have htrips : (tripLogged s f tier value sBit (tripHeld s.clk.frame f d)).saf.trips ≠ 0 := by
      rw [show (tripLogged s f tier value sBit (tripHeld s.clk.frame f d)).saf.trips = _ from congrArg Prod.fst hl]
      exact or_bitAt_ne_zero _ hf
    refine ⟨(honly.trans (lonly.mono (by decide))).trans ((endSession_only _ _ _).mono (by decide)),
      (hgrows.trans lgrows).trans (.endSession ..), endSession_tripped htrips ?_ _, (endSession_latches ..).trans hl⟩
    rw [lonly .lanes (by decide)]
    exact houtputs

/-- The loss of path M is a trip of function 2 (R280). -/
theorem pathMLost_leaves (s : State) (value : Int) (d : Dev) :
    DevOnly [.lanes, .pow, .ses, .led, .log, .acs, .keys, .dc, .veh, .saf] d (pathMLost s value d) ∧
      Grows d (pathMLost s value d) ∧ (pathMLost s value d).lanes.OutputsSafe ∧
      (pathMLost s value d).saf.pathMLost = true := by
  have h := trip_leaves s (f := 2) (by decide) 6 value (some SBit.pathM) { d with saf := { d.saf with pathMLost := true } }
  have hmark : DevOnly [.saf] d { d with saf := { d.saf with pathMLost := true } } := by simp [devOnly_iff]
  exact ⟨hmark.then h.only, (Grows.of_only hmark (by decide) (by decide)).trans h.grows, h.outputs, congrArg Prod.snd h.latches⟩

/-- Protective-earth continuity with UGN faulty is a trip (R294). -/
theorem peTrip_leaves (s : State) {d : Dev} (h : (d.chan 3).faulty = true) : TripLeaves 8 d (peTrip s d) := by
  have key (e : Dev) (he : e.samp = d.samp) :
      e.when ((e.chan 3).faulty) (trip s 8 2 0 (some SBit.ugn)) = trip s 8 2 0 (some SBit.ugn) e := by
    rw [Dev.chan, he, show (nth {} d.samp.chans 3).faulty = true from h, Dev.when_true]
  unfold peTrip
  extract_lets e
  by_cases hc : 10 ≤ d.saf.peCycles
  · have he := trip_leaves s (f := 8) (by decide) 1 (d.metr.grid.unRms / 1000) none d
    rw [show trip s 8 1 (d.metr.grid.unRms / 1000) none d = e by simp [e, hc]] at he
    rw [key e (he.only .samp (by decide))]
    have k := trip_leaves s (f := 8) (by decide) 2 0 (some SBit.ugn) e
    refine ⟨he.only.trans k.only, he.grows.trans k.grows, k.outputs, ?_⟩
    rw [k.latches, show e.saf.trips = _ from congrArg Prod.fst he.latches,
      show e.saf.pathMLost = _ from congrArg Prod.snd he.latches, BitVec.or_assoc, BitVec.or_self]
  · rw [show e = d by simp [e, hc], key d rfl]
    exact trip_leaves s (by decide) 2 0 (some SBit.ugn) d

end Sys2Proof.Machine

end

section
/-!
PROOF. Supervision of the main channels (R127, R139, R147, R162): each row changes its channel, and a fault has the
consequence of its channel.
-/

namespace Sys2Proof.Machine

/-! One channel. -/

theorem Dev.chan_of_get {d : Dev} {c : Nat} {x : Chan} (h : d.samp.chans[c]? = some x) : d.chan c = x := by
  rw [Dev.chan, nth, h, Option.getD_some]

theorem Dev.onChan_of_get {d : Dev} {c : Nat} {x : Chan} (h : d.samp.chans[c]? = some x) (f : Chan → Chan) :
    d.onChan c f = { d with samp := { d.samp with chans := d.samp.chans.set c (f x) } } := by
  rw [Dev.onChan, updAt, List.modify_eq_set_getElem?, h]
  rfl

theorem Dev.onChan_only (c : Nat) (f : Chan → Chan) (d : Dev) : DevOnly [.samp] d (d.onChan c f) := by
  simp [devOnly_iff, Dev.onChan]

/-- A row that changes one channel where the channel meets a condition. -/
theorem Completes.of_channel {i : Instr} {c : Nat} {x : Chan} {s : State} {b : Dev → Bool} {e f : Dev → Dev} {g : Chan → Chan}
    {P : State → Prop} (hi : exec i s = devStep s fun d => d.when (b d) e) (hb : b s.dev = true)
    (he : e s.dev = f (s.dev.onChan c g)) (hx : s.dev.samp.chans[c]? = some x)
    (k : P { s with dev := f { s.dev with samp := { s.dev.samp with chans := s.dev.samp.chans.set c (g x) } } }) :
    Completes i s P := by
  refine .of_when hi hb ?_
  rwa [State.onDev, he, Dev.onChan_of_get hx]

theorem isoCapture_only (n : Nat) (d : Dev) : DevOnly [.saf] d (isoCapture n d) :=
  .ite (fun _ => by simp [devOnly_iff]) fun _ => .refl _ _

/-! A faulty channel. -/

theorem channelFaultEff_only (c : Nat) (startup : Bool) (d : Dev) : DevOnly [.samp, .log] d (channelFaultEff c startup d) :=
  DevOnly.then (Dev.onChan_only c _ d) (DevOnly.raise _ _ _ _)

theorem channelFaultEff_samp {c : Nat} {x : Chan} {d : Dev} (h : d.samp.chans[c]? = some x) (startup : Bool) :
    (channelFaultEff c startup d).samp = { d.samp with
      chans := d.samp.chans.set c { x with
        faulty := true, inactive := !startup, goodFrames := 0, faultCount := x.faultCount + 1 } } := by
  rw [channelFaultEff, Dev.onChan_of_get h]
  rfl

/-- The channels of the outlet are those of its kind, a parameter. -/
theorem outletChans_congr {d e : Dev} (h : e.par = d.par) : outletChans e = outletChans d := by
  rw [outletChans, outletChans, dcKind_congr h]

theorem channelConsequence_other (s : State) {c : Nat} (h14 : c ≠ 14) (h3 : c ≠ 3) (d : Dev) : channelConsequence s c d =
    if (outletChans d).contains c && d.ses.isOpen then endSession s EndCause.metering d else d :=
  (if_neg h14).trans (if_neg h3)

/-- The consequence of a fault changes no channel and takes nothing from the log. -/
theorem channelConsequence_keeps (s : State) (c : Nat) {d : Dev} (h : c = 3 → (d.chan 3).faulty = true) :
    (channelConsequence s c d).samp = d.samp ∧ Grows d (channelConsequence s c d) := by
  by_cases h14 : c = 14
  · subst h14
    obtain ⟨honly, hgrows, -⟩ := pathMLost_leaves s 0 d
    exact ⟨honly .samp (by decide), hgrows⟩
  · by_cases h3 : c = 3
    · subst h3
      have k := peTrip_leaves s (h rfl)
      exact ⟨k.only .samp (by decide), k.grows⟩
    · rw [channelConsequence_other s h14 h3]
      split
      · exact ⟨endSession_only _ _ _ .samp (by decide), .endSession ..⟩
      · exact ⟨rfl, .refl d⟩

end Sys2Proof.Machine

open Sys2Proof Sys2Proof.Machine

/-- Settles O38: each row by the change of its channel, a fault also by the consequence of its channel. -/
theorem channelRows : Obligations.ChannelRows := by
  unfold Obligations.ChannelRows
  intro c x s hc hx
  have hchan := Dev.chan_of_get hx
  refine ⟨fun startup hf hdue => ?fault, fun hf hg => ?restored, fun ho hn => ?overrange, fun ho hq => ?overEnd,
    fun hm hoff h3 hlate => ?scs⟩
  case fault =>
    have hb : channelFaultDue s.clk c startup s.dev = true := by
      rw [channelFaultDue, hchan]
      cases startup <;> simpa [hc, hf] using hdue
    refine .of_when (b := channelFaultDue s.clk c startup) (f := fun d => channelConsequence s c (channelFaultEff c startup d))
      rfl hb ?_
    have hsamp := channelFaultEff_samp hx startup
    have honly := channelFaultEff_only c startup s.dev
    have hlogged : Ev.of Src.metr Event.CHANNEL_FAULT (leBytes 1 c ++ leBytes 1 (if startup then 0 else 1)) ∈
        (channelFaultEff c startup s.dev).log.now := List.mem_append_right _ (List.mem_singleton_self _)
    rw [State.onDev]
    generalize channelFaultEff c startup s.dev = d at hsamp honly hlogged
    have hfaulty (h : c = 3) : (d.chan 3).faulty = true := by
      have hlt : c < s.dev.samp.chans.length := (List.getElem?_eq_some_iff.1 hx).1
      rw [Dev.chan_of_get (x := { x with faulty := true, inactive := !startup, goodFrames := 0, faultCount := x.faultCount + 1 })
        (by rw [hsamp, ← h]; exact List.getElem?_set_self hlt)]
    obtain ⟨hkept, hgrows⟩ := channelConsequence_keeps s c hfaulty
    have hses : d.ses = s.dev.ses := honly .ses (by decide)
    have hchans : outletChans d = outletChans s.dev := outletChans_congr (honly .par (by decide))
    refine ⟨hkept.trans hsamp, hgrows.now hlogged, fun h14 => ?_, fun h => ?_, fun h3 h14 hin => ?_, fun h3 h14 hout => ?_,
      rfl, rfl⟩
    · subst h14
      exact (pathMLost_leaves s 0 d).2.2.2
    · obtain rfl | rfl := h
      · exact (pathMLost_leaves s 0 d).2.2.1
      · exact (peTrip_leaves s (hfaulty rfl)).outputs
    · dsimp only
      rw [channelConsequence_other s h14 h3, hchans, hin, Bool.true_and]
      split
      · exact endSession_closed _ _ _
      · next h => simpa using h
    · rw [channelConsequence_other s h14 h3, hchans, hses,
        if_neg (by simpa using fun hin => hout.resolve_left (by simp [hin]))]
      exact .dev honly
  case restored =>
    refine .of_channel (b := channelRestoredDue c) (e := channelRestoredEff c) rfl (by simp [channelRestoredDue, hchan, hc, hf, hg])
      rfl hx ⟨rfl, rfl, .dev ?_⟩
    simp [devOnly_iff]
  case overrange =>
    refine .of_channel (b := overrangeDue c) (e := overrangeEff c) rfl (by simp [overrangeDue, hchan, hc, ho, hn])
      rfl hx ⟨rfl, ?_, .dev ?_⟩
    · rw [Logs, hchan]
      rfl
    · simp [devOnly_iff]
  case overEnd =>
    refine .of_channel (f := id) (b := overrangeEndDue c) (e := overrangeEndEff c) rfl (by simp [overrangeEndDue, hchan, ho, hq])
      rfl hx ⟨rfl, .dev ?_⟩
    simp [devOnly_iff]
  case scs =>
    have hb : scsDue s.clk.frame c s.dev = true := by simp [scsDue, hchan, hc, hm, hoff, h3, hlate]
    refine .of_channel (b := scsDue s.clk.frame c)
      (e := fun d => if c = 17 then isoCapture s.clk.frame (scsEff c d) else scsEff c d)
      (f := fun d => if c = 17 then isoCapture s.clk.frame d else d) rfl hb rfl hx ?_
    dsimp only
    split
    · next h17 =>
      refine ⟨isoCapture_only _ _ .samp (by decide), fun h => absurd h17 h, .dev ?_⟩
      exact DevOnly.then (ps := [.samp]) (by simp [devOnly_iff]) (isoCapture_only _ _)
    · exact ⟨rfl, fun _ => .dev (by simp [devOnly_iff]), .dev (by simp [devOnly_iff])⟩

end

section
/-!
PROOF. Syncs, channel modes, the auxiliary converter and the pilot sampler (R135, R136, R137, R140, R142, R143, R144).
-/

namespace Sys2Proof.Machine

/-! Syncs (R135 to R137). -/

/-- A pending sync that an edge of the pin joins has the pin among its sources (R137). -/
theorem SyncReq.merge_pin (p : SyncReq) (n : Nat) : p.merge ⟨n, true, false, false⟩ = { p with fromPin := true } := by
  simp [SyncReq.merge]

theorem syncEdgeActs_of {n : Nat} {rising : Bool} {d : Dev} (hn : d.samp.syncIgnoreUntil ≤ n)
    (hm : d.num Param.SYNC_IN_MODE = (if rising then 1 else 2)) : syncEdgeActs n rising d = true := by
  simp [syncEdgeActs, hn, hm]

theorem exec_syncReset {s : State} {r : SyncReq} (h : syncDue s.clk.frame s.dev = some r) :
    exec .syncReset s = .next (s.onDev (syncResetEff s.clk.frame r)) := by
  show execSyncReset s = _
  rw [execSyncReset, devStep, State.onDev, h]
  rfl

theorem exec_syncPendingRedecide {s : State} {p : SyncReq} (hp : s.dev.samp.syncPend = some p)
    (hd : defers s.clk s.dev p.force = false) : exec .syncPendingRedecide s = .next (s.onDev fun d => { d with
      samp := { d.samp with syncPend := none, syncs := addSync { p with frame := s.clk.frame } d.samp.syncs } }) := by
  show execSyncPendingRedecide s = _
  rw [execSyncPendingRedecide, devStep, State.onDev, hp]
  exact congrArg (fun d => Host.Outcome.next { s with dev := d }) (if_neg (Bool.eq_false_iff.1 hd))

/-- A reset leaves no channel with a decimator in use or a sample past FILL (R134, R136). -/
theorem Chan.reset_of_mem {ch : Chan} {l : List Chan} (h : ch ∈ l.map Chan.reset) : ch.dec = {} ∧ ch.fill = 40 := by
  obtain ⟨x, -, rfl⟩ := List.mem_map.1 h
  exact ⟨rfl, rfl⟩

/-! Channel modes (R140). -/

theorem getElem?_map_zipIdx {α β : Type} {l : List α} {c : Nat} {x : α} (h : l[c]? = some x) (f : α × Nat → β) :
    (l.zipIdx.map f)[c]? = some (f (x, c)) := by
  simp [h]

/-- A mode that waits falls at the ticks after its commit that are multiples of 3. -/
theorem chanModeDue_of {n k : Nat} {ch : Chan} (h : ch.changeAt = some k) (hk : k < n) (h3 : n % 3 = 0) :
    chanModeDue n ch = true := by
  rw [chanModeDue, h]
  simp [hk, h3]

/-! The auxiliary converter (R141, R142). -/

theorem tempUpdate_only (j : Nat) (d : Dev) : DevOnly [.log, .metr] d (tempUpdate j d) := by
  unfold tempUpdate
  split
  · simp [devOnly_iff]
  · exact .ite (fun _ => by simp [devOnly_iff]) fun _ => by simp [devOnly_iff]

theorem otResult_only (code : Nat) (d : Dev) : DevOnly [.saf] d (otResult code d) := by simp [devOnly_iff, otResult]

theorem ppResult_only (d : Dev) : DevOnly [.veh] d (ppResult d) :=
  .ite (fun _ => .refl _ _) fun _ => by simp [devOnly_iff]

/-- What follows from a result lies outside the sampling state. -/
theorem auxConsequence_only (d : Dev) (j : Nat) : DevOnly [.log, .metr, .veh, .saf] d (auxConsequence d j) := by
  unfold auxConsequence
  extract_lets e
  have he : DevOnly [.log, .metr, .veh, .saf] d e :=
    .ite (fun _ => (tempUpdate_only j d).then (otResult_only _ _)) fun _ => .refl _ _
  exact he.trans (.ite (fun _ => (ppResult_only e).mono (by decide)) fun _ => .refl _ _)

theorem auxRefFault_only (d : Dev) : DevOnly [.samp, .log] d (auxRefFault d) := by
  unfold auxRefFault
  exact .ite (fun _ => by simp [devOnly_iff]) fun _ => by simp [devOnly_iff]

/-- A reference outside its window makes the converter faulty and every result invalid (R142). -/
theorem auxRefFault_samp (d : Dev) : (auxRefFault d).samp = { d.samp with
    auxFaulty := true, auxRefLogged := true, aux := d.samp.aux.map fun r => { r with valid := false } } := by
  unfold auxRefFault
  dsimp only
  split <;> rfl

theorem AuxRes.invalid_of_mem {r : AuxRes} {l : List AuxRes} (h : r ∈ l.map fun r => { r with valid := false }) :
    r.valid = false := by
  obtain ⟨x, -, rfl⟩ := List.mem_map.1 h
  rfl

theorem refGood_iff {r1 r2 : Int} : refGood r1 r2 = true ↔ r1.natAbs ≤ 2500 ∧ (r2 - 2000000).natAbs ≤ 4000 := by
  simp [refGood]

/-- A pass with its first reference read: the committed list is in use (R142). -/
def firstReference (n : Nat) (v : Int) (scanParam : List Byte) (d : Dev) : Dev :=
  { d with samp := { d.samp with
    auxAt := n, ref1 := v, auxPos := 1
    scan := ((scanParam.drop 1).take (scanParam.getD 0 0).toNat).map BitVec.toNat } }

/-- A pass with its second reference read. -/
def secondReference (n : Nat) (v : Int) (d : Dev) : Dev :=
  { d with samp := { d.samp with auxAt := n, ref2 := v, auxPos := 2 } }

/-- A pass with the result of place k + 2, of the input whose place among the results is j. -/
def resultRead (n : Nat) (v : Int) (k j : Nat) (d : Dev) : Dev :=
  { d with samp := { d.samp with
    auxAt := n, auxPos := if k + 1 < d.samp.scan.length then k + 3 else 0
    aux := d.samp.aux.set j ⟨v, n % 2 ^ 32, !d.samp.auxFaulty⟩ } }

theorem auxConvert_first {d : Dev} (h : d.samp.auxPos = 0) (n : Nat) (bits : BitVec 1536) (scanParam : List Byte) :
    auxConvert n bits scanParam d =
      if (scsResultOf (sinc3Of bits)).natAbs ≤ 2500 then firstReference n (scsResultOf (sinc3Of bits)) scanParam d
      else auxRefFault (firstReference n (scsResultOf (sinc3Of bits)) scanParam d) := if_pos h

theorem auxConvert_second {d : Dev} (h : d.samp.auxPos = 1) (n : Nat) (bits : BitVec 1536) (scanParam : List Byte) :
    auxConvert n bits scanParam d =
      let e := secondReference n (scsResultOf (sinc3Of bits)) d
      if refGood d.samp.ref1 (scsResultOf (sinc3Of bits)) then
        { e with samp := { e.samp with auxFaulty := false, auxRefLogged := false } }
      else if (scsResultOf (sinc3Of bits) - 2000000).natAbs ≤ 4000 then e else auxRefFault e :=
  (if_neg (by simp [h])).trans (if_pos h)

theorem auxConvert_result {d : Dev} {k j : Nat} (h : d.samp.auxPos = k + 2) (hj : auxIndex (nth 0 d.samp.scan k) = some j)
    (n : Nat) (bits : BitVec 1536) (scanParam : List Byte) :
    auxConvert n bits scanParam d = resultRead n (scsResultOf (sinc3Of bits)) k j d := by
  unfold auxConvert
  dsimp only
  rw [h, if_neg (by omega), if_neg (by omega), Nat.add_sub_cancel, hj]
  rfl

theorem auxConvert_only (n : Nat) (bits : BitVec 1536) (scanParam : List Byte) (d : Dev) :
    DevOnly [.samp, .log] d (auxConvert n bits scanParam d) := by
  have hsamp (x : Samp) : DevOnly [.samp, .log] d { d with samp := x } := by simp [devOnly_iff]
  have hfault (x : Samp) : DevOnly [.samp, .log] d (auxRefFault { d with samp := x }) := (hsamp x).trans (auxRefFault_only _)
  unfold auxConvert
  dsimp only
  refine .ite (fun _ => .ite (fun _ => hsamp _) fun _ => hfault _) fun _ => .ite (fun _ => ?second) fun _ => ?result
  case second => exact .ite (fun _ => hsamp _) fun _ => .ite (fun _ => hsamp _) fun _ => hfault _
  case result => split <;> exact hsamp _

/-- The sampling state that a conversion leaves stands after its consequences, which reach metrology, the vehicle link and
the safety functions alone (R152, R243, R292). -/
theorem auxResult_completes {bits : BitVec 1536} {s : State} {P : State → Prop} (h : auxDue s.clk s.dev = true)
    (k : ∀ t : State, t.dev.samp = (auxConvert s.clk.frame bits (s.dev.blk Param.AUX_SCAN) s.dev).samp →
      OnlyChanges [.samp, .log, .metr, .veh, .saf] s t → P t) : Completes (.auxResult bits) s P := by
  have hrest := DevOnly.foldl auxConsequence_only
    (auxRenewed s.dev (auxConvert s.clk.frame bits (s.dev.blk Param.AUX_SCAN) s.dev))
    (auxConvert s.clk.frame bits (s.dev.blk Param.AUX_SCAN) s.dev)
  exact .of_when (b := fun _ => auxDue s.clk s.dev) (f := auxResultEff s.clk.frame bits) rfl h
    (k _ (hrest .samp (by decide)) (.dev ((auxConvert_only _ _ _ _).then hrest)))

/-! The pilot sampler (R143, R144). -/

theorem plateauOf_short {wave : PilotWave} {p : Plateau} {positive : Bool} (hs : p.side = some positive)
    (hw : positive = true ∨ wave.pwm = true) (h : wave.plateau positive < 200) : plateauOf wave p = some (positive, none) := by
  have hn : ¬((!positive && !wave.pwm) = true) := by obtain h | h := hw <;> simp [h]
  simp only [plateauOf, hs, if_neg hn, if_pos h]

theorem plateauOf_read {wave : PilotWave} {p : Plateau} {positive : Bool} {a b c : Int} (hs : p.side = some positive)
    (hw : positive = true ∨ wave.pwm = true) (hc : p.conv = some (a, b, c)) (h : 200 ≤ wave.plateau positive) :
    plateauOf wave p = some (positive, some (median3 a b c)) := by
  have hn : ¬((!positive && !wave.pwm) = true) := by obtain h | h := hw <;> simp [h]
  simp only [plateauOf, hs, if_neg hn, if_neg (Nat.not_lt.2 h), hc, Option.map_some]

/-- A plateau too short to convert sets SHORT and leaves both levels. -/
theorem pilotWordOf_short {wave : PilotWave} {p : Plateau} {positive : Bool} (h : plateauOf wave p = some (positive, none))
    (n : Nat) (w : PilotWord) : (pilotWordOf n wave p w).short = true ∧ (pilotWordOf n wave p w).noPwm = !wave.pwm ∧
      (pilotWordOf n wave p w).posMv = w.posMv ∧ (pilotWordOf n wave p w).negMv = w.negMv := by
  unfold pilotWordOf
  rw [h]
  exact ⟨rfl, rfl, rfl, rfl⟩

/-- A converted plateau clears SHORT and stands as the level of its side. -/
theorem pilotWordOf_read {wave : PilotWave} {p : Plateau} {positive : Bool} {mv : Int}
    (h : plateauOf wave p = some (positive, some mv)) (n : Nat) (w : PilotWord) :
    (pilotWordOf n wave p w).short = false ∧ (pilotWordOf n wave p w).noPwm = !wave.pwm ∧
      (positive = true → (pilotWordOf n wave p w).posMv = mv ∧ (pilotWordOf n wave p w).newPos = true ∧
        (pilotWordOf n wave p w).negMv = w.negMv) ∧
      (positive = false → (pilotWordOf n wave p w).negMv = mv ∧ (pilotWordOf n wave p w).newNeg = true ∧
        (pilotWordOf n wave p w).posMv = w.posMv) := by
  unfold pilotWordOf
  rw [h]
  cases positive
  · exact ⟨rfl, rfl, nofun, fun _ => ⟨rfl, rfl, rfl⟩⟩
  · exact ⟨rfl, rfl, fun _ => ⟨rfl, rfl, rfl⟩, nofun⟩

theorem positivePlateau_only (mv : Int) (d : Dev) : DevOnly [.veh, .saf] d (positivePlateau mv d) := by
  simp [devOnly_iff, positivePlateau]

theorem negativePlateau_only (mv : Int) (d : Dev) : DevOnly [.veh, .saf] d (negativePlateau mv d) :=
  .ite (fun _ => by simp [devOnly_iff]) fun _ => .refl _ _

/-- The pilot word of a report. -/
def pilotReported (n : Nat) (p : Plateau) (d : Dev) : Dev :=
  { d with samp := { d.samp with pilot := pilotWordOf n d.veh.applied p d.samp.pilot } }

/-- Beyond the word a report reaches the decoding and the counters of pilot integrity alone (R241, R293). -/
theorem plateauEff_over (n : Nat) (p : Plateau) (d : Dev) : DevOnly [.veh, .saf] (pilotReported n p d) (plateauEff n p d) := by
  unfold plateauEff
  extract_lets wave _ e above f
  have hsaf (d : Dev) (x : Saf) : DevOnly [.veh, .saf] d { d with saf := x } := by simp [devOnly_iff]
  refine DevOnly.trans ?_ (hsaf _ _)
  unfold f
  split
  · next positive v _ =>
    refine DevOnly.trans ?_ (hsaf _ _)
    cases v with
    | none => exact .refl _ _
    | some mv => exact .ite (fun _ => positivePlateau_only mv e) fun _ => negativePlateau_only mv e
  · exact .refl _ _

theorem plateauEff_samp (n : Nat) (p : Plateau) (d : Dev) : (plateauEff n p d).samp =
    { d.samp with pilot := pilotWordOf n d.veh.applied p d.samp.pilot } := plateauEff_over n p d .samp (by decide)

theorem plateauEff_only (n : Nat) (p : Plateau) (d : Dev) : DevOnly [.samp, .veh, .saf] d (plateauEff n p d) :=
  DevOnly.then (ps := [.samp]) (e := pilotReported n p d) (by simp [devOnly_iff, pilotReported]) (plateauEff_over n p d)

end Sys2Proof.Machine

open Sys2Proof Sys2Proof.Machine

/-- Settles O39: each row by what it leaves of the sampling state, where its condition holds. -/
theorem syncAndConverterRows : Obligations.SyncAndConverterRows := by
  unfold Obligations.SyncAndConverterRows
  refine ⟨fun rising s hn hm => ?edge, fun rising s hn => ?ignored, fun edges s he => ?chatter, fun r s hr => ?reset,
    fun p s hp hd => ?redecide, fun c k x s hx hk hlt h3 => ?mode, fun bits v s hdue hv => ⟨fun h0 => ?first, fun h1 => ?second,
    fun k j hpos hj => ?result⟩, fun positive p s hs hw => ⟨fun a b c hc hlen => ?read, fun hlen => ?short⟩⟩
  case edge =>
    refine ⟨_, rfl, ?_⟩
    rw [State.onDev, if_pos hn, syncEdgeActs_of hn hm, Dev.when_true]
    refine ⟨fun hp => ?_, fun p hp => ?_, .dev (decideSync_only _ _ _ _ _)⟩
    · rw [decideSync_none hp]
    · rw [decideSync_some hp, SyncReq.merge_pin]
  case ignored =>
    refine ⟨_, rfl, ?_⟩
    rw [State.onDev, if_neg (Nat.not_le.2 hn)]
    exact ⟨rfl, .dev (by simp [devOnly_iff])⟩
  case chatter =>
    refine ⟨_, rfl, ?_⟩
    rw [State.onDev, decide_eq_true he, Dev.when_true]
    dsimp only
    split
    · next hn => exact ⟨rfl, fun _ => rfl, fun h => absurd hn (Nat.not_le.2 h), .dev (by simp [devOnly_iff])⟩
    · next hn => exact ⟨rfl, fun h => absurd h hn, fun _ => rfl, .dev (by simp [devOnly_iff])⟩
  case reset =>
    refine ⟨_, exec_syncReset hr, rfl, fun ch => Chan.reset_of_mem, rfl, .dev ?_⟩
    simp [devOnly_iff, syncResetEff]
  case redecide =>
    exact ⟨_, exec_syncPendingRedecide hp hd, rfl, .dev (by simp [devOnly_iff])⟩
  case mode =>
    refine ⟨_, rfl, ⟨?_, _, getElem?_map_zipIdx hx _, ?_⟩, .dev (by simp [devOnly_iff])⟩
    · simp [State.onDev]
    · rw [chanModeDue_of hk hlt h3, if_pos rfl]
      exact ⟨rfl, rfl, rfl, rfl, rfl, rfl⟩
  case first =>
    replace hv : v = scsResultOf (sinc3Of bits) := hv
    refine auxResult_completes hdue fun t ht honly => ?_
    rw [auxConvert_first h0, ← hv] at ht
    by_cases hin : v.natAbs ≤ 2500
    · rw [if_pos hin] at ht
      rw [ht]
      exact ⟨rfl, rfl, rfl, fun _ => ⟨rfl, rfl⟩, fun k => absurd hin (Nat.not_le.2 k), honly⟩
    · rw [if_neg hin, auxRefFault_samp] at ht
      rw [ht]
      exact ⟨rfl, rfl, rfl, fun k => absurd k hin, fun _ => ⟨rfl, fun r => AuxRes.invalid_of_mem⟩, honly⟩
  case second =>
    replace hv : v = scsResultOf (sinc3Of bits) := hv
    refine auxResult_completes hdue fun t ht honly => ?_
    rw [auxConvert_second h1, ← hv] at ht
    dsimp only at ht
    split at ht
    · next hgood =>
      rw [ht]
      have hin := (refGood_iff.1 hgood).2
      exact ⟨rfl, rfl, rfl, fun _ _ => rfl, fun k => absurd hin (Nat.not_le.2 k), honly⟩
    · next hbad =>
      have hout (k₁ : s.dev.samp.ref1.natAbs ≤ 2500) (k₂ : (v - 2000000).natAbs ≤ 4000) : False :=
        hbad (refGood_iff.2 ⟨k₁, k₂⟩)
      split at ht
      · next hin =>
        rw [ht]
        exact ⟨rfl, rfl, rfl, fun k₁ k₂ => (hout k₁ k₂).elim, fun k => absurd hin (Nat.not_le.2 k), honly⟩
      · rw [auxRefFault_samp] at ht
        rw [ht]
        exact ⟨rfl, rfl, rfl, fun k₁ k₂ => (hout k₁ k₂).elim, fun _ => ⟨rfl, fun r => AuxRes.invalid_of_mem⟩, honly⟩
  case result =>
    refine auxResult_completes hdue fun t ht honly => ⟨?_, honly⟩
    rw [auxConvert_result hpos hj] at ht
    rw [ht, hv]
    rfl
  case read =>
    obtain ⟨hshort, hpwm, hpos, hneg⟩ := pilotWordOf_read (plateauOf_read hs hw hc hlen) s.clk.frame s.dev.samp.pilot
    refine ⟨_, rfl, ?_⟩
    rw [State.onDev]
    dsimp only
    rw [plateauEff_samp]
    exact ⟨hshort, hpwm, hpos, hneg, rfl, .dev (plateauEff_only _ p _)⟩
  case short =>
    obtain ⟨hshort, hpwm, hpos, hneg⟩ := pilotWordOf_short (plateauOf_short hs hw hlen) s.clk.frame s.dev.samp.pilot
    refine ⟨_, rfl, ?_⟩
    rw [State.onDev]
    dsimp only
    rw [plateauEff_samp]
    exact ⟨hshort, hpwm, hpos, hneg, rfl, .dev (plateauEff_only _ p _)⟩

end

section
/-!
PROOF. Metrology (R159, R160, R162, R163, R165, R168, R175, R478): the rows that log one metrology event, the episodes among
them, and the results that a counted crossing leaves.
-/

namespace Sys2Proof.Machine

/-! Rows that change metrology and log events of it. -/

/-- The answer of a row that leaves metrology as m and logs es. -/
def metrNext (s : State) (m : Metr) (es : List Ev) : Out := devStep s fun d => raiseAll es { d with metr := m }

theorem Completes.of_metrNext {c : Instr} {s : State} {m : Metr} {code : Nat} {data : List Byte}
    (h : exec c s = metrNext s m [.of Src.metr code data]) :
    Completes c s fun t => t.dev.metr = m ∧ Logs Src.metr code data s t ∧ OnlyChanges [.metr, .log] s t :=
  .of_devStep h ⟨rfl, rfl, .onDev (by simp [devOnly_iff, raiseAll])⟩

/-! Episodes (R163). -/

theorem episodeRow_opens {e : Episode} {startAfter : Nat} (ho : e.isOpen = false) (hc : startAfter ≤ e.count)
    (code side ph n endAfter : Nat) : episodeRow code side ph n startAfter endAfter e =
      (e.opened n, [metrEv code (episodeBegin side ph e)]) := by
  rw [episodeRow, if_pos (by simp [ho, hc])]
  rfl

theorem episodeRow_closes {e : Episode} {endAfter : Nat} (ho : e.isOpen = true) (hc : endAfter ≤ e.count)
    (code side ph n startAfter : Nat) : episodeRow code side ph n startAfter endAfter e =
      ({}, [metrEv code (episodeClose side ph n e)]) := by
  rw [episodeRow, if_neg (by simp [ho]), if_pos (by simp [ho, hc])]
  rfl

theorem exec_wrongSequence (s : State) : exec .wrongSequence s =
    let r := episodeRow Event.WRONG_SEQUENCE 0 0 s.clk.frame 50 50 s.dev.metr.wrongSeq
    metrNext s { s.dev.metr with wrongSeq := r.1 } r.2 := rfl

theorem exec_missingNeutral (s : State) : exec .missingNeutral s =
    let r := episodeRow Event.MISSING_NEUTRAL 0 0 s.clk.frame 25 50 s.dev.metr.missNeutral
    metrNext s { s.dev.metr with missNeutral := r.1 } r.2 := rfl

theorem exec_freqOutOfRange (s : State) : exec .freqOutOfRange s =
    let r := episodeRow Event.FREQ_OUT_OF_RANGE 0 0 s.clk.frame 10 50 s.dev.metr.freqOut
    metrNext s { s.dev.metr with freqOut := r.1 } r.2 := rfl

/-! Rows of one phase. -/

/-- Metrology with phase ph, 1 to 3, of a side as given. -/
def Metr.setPhase (m : Metr) (side ph : Nat) (y : Phase) : Metr :=
  m.setSide side { m.side side with phases := (m.side side).phases.set (ph - 1) y }

theorem devStep_phaseRow {s : State} {side ph : Nat} {y : Phase} (h : (s.dev.metr.side side).phases[ph - 1]? = some y)
    (f : Phase → Phase × List Ev) :
    devStep s (phaseRow side ph f) = metrNext s (s.dev.metr.setPhase side ph (f y).1) (f y).2 := by
  rw [devStep, State.onDev, phaseRow, h]
  rfl

theorem exec_sag {s : State} {side : Side} {ph : Nat} {y : Phase}
    (h : (s.dev.metr.side (sideCode side)).phases[ph - 1]? = some y) : exec (.sag side ph) s =
      let r := episodeRow Event.SAG (sideCode side) ph s.clk.frame 1 1 y.sag
      metrNext s (s.dev.metr.setPhase (sideCode side) ph { y with sag := r.1 }) r.2 := devStep_phaseRow h _

theorem exec_swell {s : State} {side : Side} {ph : Nat} {y : Phase}
    (h : (s.dev.metr.side (sideCode side)).phases[ph - 1]? = some y) : exec (.swell side ph) s =
      let r := episodeRow Event.SWELL (sideCode side) ph s.clk.frame 1 1 y.swell
      metrNext s (s.dev.metr.setPhase (sideCode side) ph { y with swell := r.1 }) r.2 := devStep_phaseRow h _

theorem exec_currentWithoutVoltage {s : State} {side : Side} {ph : Nat} {y : Phase}
    (h : (s.dev.metr.side (sideCode side)).phases[ph - 1]? = some y) : exec (.currentWithoutVoltage side ph) s =
      let r := episodeRow Event.CURRENT_WITHOUT_VOLTAGE (sideCode side) ph s.clk.frame 50 50 y.cwv
      metrNext s (s.dev.metr.setPhase (sideCode side) ph { y with cwv := r.1 })
        (r.2.map fun e => { e with data := e.data ++ leBytesInt 4 (y.urms / 1000 : Nat) }) := devStep_phaseRow h _

/-! Measurement gaps (R162). -/

theorem gapDue_of {e : Estim} (hs : e.spent = true) (hg : e.gapped = false) : gapDue e = true := by
  simp [gapDue, hs, hg]

theorem exec_meterGap_phase {s : State} {m : MeterSide} {side : Side} {ph : Nat} {y : Phase} (hm : meterCode m = sideCode side)
    (h : (s.dev.metr.side (sideCode side)).phases[ph - 1]? = some y) (hd : gapDue y.est = true) :
    exec (.meterGap m ph) s =
      metrNext s (s.dev.metr.setPhase (sideCode side) ph { y with est := { y.est with gapped := true } })
        [gapEv (sideCode side) ph] := by
  have hac : sideCode side ≠ 2 := by cases side <;> decide
  show devStep s (meterGapEff (meterCode m) ph) = _
  rw [devStep, State.onDev, meterGapEff, hm, if_neg hac]
  refine (devStep_phaseRow h _).trans ?_
  rw [if_pos hd]

theorem exec_meterGap_dc {s : State} (ph : Nat) (hd : gapDue s.dev.metr.dcs.est = true) : exec (.meterGap .dc ph) s =
    metrNext s { s.dev.metr with dcs := { s.dev.metr.dcs with est := { s.dev.metr.dcs.est with gapped := true } } }
      [gapEv 2 0] := by
  show devStep s (meterGapEff 2 ph) = _
  rw [devStep, State.onDev, meterGapEff, if_pos rfl, if_pos hd]
  rfl

/-! Reverse energy (R163, R478). -/

/-- Export of a side since its reference. -/
def exportGrown (s : State) (m : Nat) : Nat := s.regs.total (exportFamily m) - nth 0 s.dev.metr.revRef m

theorem exec_reverseEnergy_opens {s : State} {m : MeterSide} {e : Episode} (he : s.dev.metr.reverse[meterCode m]? = some e)
    (ho : e.isOpen = false) (hev : reverseEvaluated s.dev (meterCode m) = true) (ha : dischargeAuthorised s.dev = false)
    (hg : s.dev.nat Param.REVERSE_EVENT_E * 2 ^ 32 ≤ exportGrown s (meterCode m)) : exec (.reverseEnergy m) s =
      metrNext s { s.dev.metr with
        reverse := s.dev.metr.reverse.set (meterCode m)
          { isOpen := true, since := s.clk.frame, extreme := (exportGrown s (meterCode m) / 2 ^ 32 : Nat) } }
        [.of Src.metr Event.REVERSE_ENERGY ([0] ++ leBytes 1 (meterCode m) ++ [0] ++
          leBytesInt 8 (exportGrown s (meterCode m) / 2 ^ 32 : Nat))] := by
  show devStep s (reverseEff s.clk.frame (meterCode m) s.regs) = _
  rw [devStep, State.onDev, reverseEff, nth, he]
  refine congrArg (fun d => Host.Outcome.next { s with dev := d }) ((if_neg (Bool.eq_false_iff.1 ho)).trans (if_pos ?_))
  simpa [hev, ha, exportGrown] using hg

theorem exec_reverseEnergy_closes {s : State} {m : MeterSide} {e : Episode} (he : s.dev.metr.reverse[meterCode m]? = some e)
    (ho : e.isOpen = true) (hq : nth 0 s.dev.metr.revLast (meterCode m) + reverseQuiet ≤ s.clk.frame) :
    exec (.reverseEnergy m) s =
      metrNext s { s.dev.metr with
        reverse := s.dev.metr.reverse.set (meterCode m) {}
        revRef := s.dev.metr.revRef.set (meterCode m) (s.regs.total (exportFamily (meterCode m))) }
        [.of Src.metr Event.REVERSE_ENERGY ([1] ++ leBytes 1 (meterCode m) ++ [0] ++ leBytesInt 8 e.extreme ++
          leBytes 4 (s.clk.frame - e.since))] := by
  show devStep s (reverseEff s.clk.frame (meterCode m) s.regs) = _
  rw [devStep, State.onDev, reverseEff, nth, he]
  exact congrArg (fun d => Host.Outcome.next { s with dev := d }) ((if_pos ho).trans (if_pos hq))

end Sys2Proof.Machine

open Sys2Proof Sys2Proof.Machine

/-- Settles O40: each row logs one event, beside the change that it makes where its condition holds. -/
theorem meterEventRows : Obligations.MeterEventRows := by
  unfold Obligations.MeterEventRows
  refine ⟨fun s => ⟨fun ho hc => ?wrongOpens, fun ho hc => ?wrongCloses, fun ho hc => ?neutralOpens,
      fun ho hc => ?neutralCloses, fun ho hc => ?freqOpens, fun ho hc => ?freqCloses⟩,
    fun side ph y s _ _ hy => ⟨fun ho hc => ?sagOpens, fun ho hc => ?sagCloses, fun ho hc => ?swellOpens,
      fun ho hc => ?swellCloses, fun ho hc => ?cwvOpens, fun ho hc => ?cwvCloses, fun m hm hs hg => ?gap⟩,
    fun ph s hs hg => ?dcGap, fun m e grown s he hgrown => ⟨fun ho hev ha hg => ?reverseOpens, fun ho hq => ?reverseCloses⟩⟩
  case wrongOpens => exact .of_metrNext (by rw [exec_wrongSequence, episodeRow_opens ho hc]; rfl)
  case wrongCloses => exact .of_metrNext (by rw [exec_wrongSequence, episodeRow_closes ho hc]; rfl)
  case neutralOpens => exact .of_metrNext (by rw [exec_missingNeutral, episodeRow_opens ho hc]; rfl)
  case neutralCloses => exact .of_metrNext (by rw [exec_missingNeutral, episodeRow_closes ho hc]; rfl)
  case freqOpens => exact .of_metrNext (by rw [exec_freqOutOfRange, episodeRow_opens ho hc]; rfl)
  case freqCloses => exact .of_metrNext (by rw [exec_freqOutOfRange, episodeRow_closes ho hc]; rfl)
  case sagOpens => exact .of_metrNext (by rw [exec_sag hy, episodeRow_opens ho hc]; rfl)
  case sagCloses => exact .of_metrNext (by rw [exec_sag hy, episodeRow_closes ho hc]; rfl)
  case swellOpens => exact .of_metrNext (by rw [exec_swell hy, episodeRow_opens ho hc]; rfl)
  case swellCloses => exact .of_metrNext (by rw [exec_swell hy, episodeRow_closes ho hc]; rfl)
  case cwvOpens => exact .of_metrNext (by rw [exec_currentWithoutVoltage hy, episodeRow_opens ho hc]; rfl)
  case cwvCloses => exact .of_metrNext (by rw [exec_currentWithoutVoltage hy, episodeRow_closes ho hc]; rfl)
  case gap => exact .of_metrNext (exec_meterGap_phase hm hy (gapDue_of hs hg))
  case dcGap => exact .of_metrNext (exec_meterGap_dc ph (gapDue_of hs hg))
  case reverseOpens =>
    subst hgrown
    obtain ⟨t, ht, hmetr, hlog, honly⟩ := Completes.of_metrNext (exec_reverseEnergy_opens he ho hev ha hg)
    exact ⟨t, ht, congrArg Metr.reverse hmetr, by rw [hmetr], hlog, honly⟩
  case reverseCloses => exact .of_metrNext (exec_reverseEnergy_closes he ho hq)

end

section
/-!
PROOF. Cycles, pulses and calibration accumulations (R159, R160, R165, R168).
-/

namespace Sys2Proof.Machine

/-! The end of a cycle (R159). -/

@[simp] theorem Metr.side_setSide (m : Metr) (side : Nat) (x : AcSide) : (m.setSide side x).side side = x := by
  unfold Metr.setSide Metr.side
  split <;> rfl

/-- P and RMS of the last complete valid cycle, and whether there is one. -/
def Phase.cycle (y : Phase) : Int × Nat × Nat × Bool := (y.cp, y.urms, y.irms, y.valid)

/-- P and RMS of the open window. -/
def Phase.window (y : Phase) : Int × Nat × Nat × Bool :=
  (cdiv y.sumP y.sumW, isqrtRound (cdiv y.sumU2 y.sumW).toNat, isqrtRound (cdiv y.sumI2 y.sumW).toNat, true)

/-- A window that closes with a result gives it to its phase, whatever the next window begins with. -/
theorem closePhase_cycle {windowOpen : Bool} {y : Phase} (h : closedGood windowOpen y = true) (n f nomI : Nat) :
    (closePhase n f nomI windowOpen y).cycle = y.window := by
  simp only [closedGood, Bool.and_eq_true, Bool.not_eq_true'] at h
  obtain ⟨⟨⟨hmetered, hopen⟩, htaint⟩, hsum⟩ := h
  have hgood : (windowOpen && !y.tainted && decide (0 < y.sumW)) = true := by rw [hopen, htaint, hsum]; rfl
  rw [closePhase, if_neg (by simp [hmetered])]
  dsimp only
  rw [if_pos hgood]
  rfl

/-- A phase at a counted crossing: its window closed, its events advanced where they are evaluated. -/
def crossedPhase (n side f : Nat) (d : Dev) (y : Phase) : Phase :=
  let windowOpen := (d.metr.side side).windowOpen
  let z := closePhase n f (sideNomI d side) windowOpen y
  if closedGood windowOpen y && (side == 0 || outletClosed d) then phaseEvents d side y z else z

/-- The events of a phase leave its results. -/
theorem crossedPhase_cycle {side : Nat} {d : Dev} {y : Phase} (h : closedGood (d.metr.side side).windowOpen y = true)
    (n f : Nat) : (crossedPhase n side f d y).cycle = y.window := by
  rw [← closePhase_cycle h n f (sideNomI d side)]
  unfold crossedPhase
  dsimp only
  split <;> rfl

/-- What a counted crossing leaves of its side: no crossing waits, a window is open, the crossing is the latest, and each
phase has passed it. -/
structure Crossed (n side f : Nat) (d : Dev) (x : AcSide) : Prop where
  pending : x.pending = none
  windowOpen : x.windowOpen = true
  crossings : x.crossings = (((n - 1) * 65536 + f) :: (d.metr.side side).crossings).take 11
  phases : x.phases = (d.metr.side side).phases.map (crossedPhase n side f d)

theorem peCycle_metr (complete : Bool) (un : Nat) (d : Dev) : (peCycle complete un d).metr = d.metr := by
  unfold peCycle
  split <;> rfl

/-- The events of the grid and the calibration accumulation leave the side. -/
theorem zeroCrossingEff_side {side f : Nat} {d : Dev} (h : (d.metr.side side).pending = some f) (n : Nat) :
    Crossed n side f d ((zeroCrossingEff n side d).metr.side side) := by
  unfold zeroCrossingEff
  extract_lets x
  split
  · next hn => exact nomatch hn.symm.trans h
  · next g hg =>
    obtain rfl : g = f := Option.some.inj (hg.symm.trans h)
    extract_lets _ _ _ _ _ _ _ y e k _
    have hy : Crossed n side g d y := ⟨rfl, rfl, rfl, rfl⟩
    split
    · next h0 =>
      subst h0
      have hgrid : k.metr.grid = y := congrArg Metr.grid (peCycle_metr _ _ _)
      show Crossed n 0 g d k.metr.grid
      rwa [hgrid]
    · rwa [show e.metr.side side = y from Metr.side_setSide _ _ _]

/-! Pulses (R164, R165). -/

theorem pulseStart_place {s : State} {j : Nat} {d : Dev} (h : pulseStartDue s j d = true) : j < 3 := by
  simp only [pulseStartDue, Bool.and_eq_true, decide_eq_true_eq] at h
  omega

/-- Pulse output j with a pulse started in frame n. -/
def Pulse.started (n : Nat) (owedLogged : Bool) (x : Pulse) : Pulse :=
  { x with emitted := x.emitted + 1, level := true, startAt := n, owedLogged := owedLogged }

/-- Beside its event a pulse that starts changes its own output. -/
theorem pulseStartEff_metr (n j : Nat) (d : Dev) : ∃ b, (pulseStartEff n j d).metr = { d.metr with
    pulses := d.metr.pulses.set j ((nth {} d.metr.pulses j).started n b) } := by
  unfold pulseStartEff
  extract_lets owed x first last e k y
  have hk : k.metr = d.metr := by
    unfold k e
    split <;> split <;> rfl
  exact ⟨y.owedLogged, congrArg (fun m : Metr => { m with pulses := m.pulses.set j y }) hk⟩

theorem pulseStartEff_only (n j : Nat) (d : Dev) : DevOnly [.metr, .log] d (pulseStartEff n j d) := by
  unfold pulseStartEff
  extract_lets owed x first last e k y
  have he : DevOnly [.metr, .log] d e := .ite (fun _ => by simp [devOnly_iff]) fun _ => .refl _ _
  have hk : DevOnly [.metr, .log] d k := he.trans (.ite (fun _ => by simp [devOnly_iff]) fun _ => .refl _ _)
  exact hk.trans (by simp [devOnly_iff])

theorem pulseEndDue_of {n j : Nat} {x : Pulse} {d : Dev} (hx : d.metr.pulses[j]? = some x) (hl : x.level = true)
    (hw : x.startAt + pulseFrames d j ≤ n) : pulseEndDue n j d = true := by
  simp [pulseEndDue, nth, hx, hl, hw]

/-! Calibration accumulation (R168). -/

theorem accDue_iff (a : CalAcc) : accDue a = true ↔ a.state = 1 ∧ (a.bad = true ∨ (a.armed = true ∧ a.n ≤ a.cycles)) := by
  simp [accDue]

theorem exec_calAccDone {s : State} (h : accDue s.dev.metr.acc = true) : exec .calAccDone s =
    let st := if s.dev.metr.acc.bad then 3 else 2
    metrNext s { s.dev.metr with acc := { s.dev.metr.acc with state := st } }
      [.of Src.metr Event.CAL_ACC_DONE (leBytes 1 st ++ leBytes 4 s.dev.metr.acc.cycles)] := by
  show execCalAccDone s = _
  rw [execCalAccDone, devStep, State.onDev, h, Dev.when_true]
  rfl

end Sys2Proof.Machine

open Sys2Proof Sys2Proof.Machine

/-- Settles O41: a crossing by what it leaves of its side and of each phase; pulses and the accumulation where they are due. -/
theorem cycleAndPulseRows : Obligations.CycleAndPulseRows := by
  unfold Obligations.CycleAndPulseRows
  refine ⟨fun side f s hf => ?crossing, fun j s hdue hlen => ?start, fun j x s hx hl hw => ?finish, fun s hst hend => ?acc⟩
  case crossing =>
    have h := zeroCrossingEff_side hf s.clk.frame
    refine ⟨_, rfl, h.pending, h.windowOpen, h.crossings, fun k _ y hy hgood => ?_,
      .dev (zeroCrossingEff_only _ _ _)⟩
    show ((zeroCrossingEff s.clk.frame (sideCode side) s.dev).metr.side (sideCode side)).phases[k]?.map Phase.cycle = _
    rw [h.phases, List.getElem?_map, hy]
    exact congrArg some (crossedPhase_cycle hgood _ _)
  case start =>
    have hj : j < s.dev.metr.pulses.length := hlen ▸ pulseStart_place hdue
    refine .of_when (b := pulseStartDue s j) rfl hdue ?_
    obtain ⟨b, hb⟩ := pulseStartEff_metr s.clk.frame j s.dev
    rw [State.onDev]
    dsimp only
    rw [hb]
    dsimp only
    rw [nth_set_same _ hj]
    exact ⟨rfl, rfl, rfl, rfl, fun k _ hk => nth_set_other _ _ hk _, .dev (pulseStartEff_only _ _ _)⟩
  case finish =>
    refine .of_when (b := pulseEndDue s.clk.frame j) rfl (pulseEndDue_of hx hl hw) ⟨?_, .dev (by simp [devOnly_iff])⟩
    rw [State.onDev]
    dsimp only
    rw [updAt, List.modify_eq_set_getElem?, hx]
    rfl
  case acc =>
    exact .of_metrNext (exec_calAccDone ((accDue_iff _).2 ⟨hst, hend⟩))

end

section
/-!
PROOF. A large step of the clock against a sliding demand register that keeps no sub-interval (R218, R220, R221, R233).
-/

namespace Sys2Proof.Machine

/-- A close with SHORT in sliding mode: the sub-interval that closes is SHORT, so the value is where the register keeps it. -/
theorem demandClose_short_sliding {j : Nat} {d : Dev} {x : Demand} (hx : d.tar.demands[j]? = some x)
    (hs : d.num (Param.DEM_MODE + 8 * j) = 1) (endTime : Nat) (r : Regs) :
    (demandClose j endTime true r d).tar.demands[j]?.map Demand.lastShort =
      some (decide (0 < d.nat (Param.DEM_SUBPERIODS + 8 * j))) := by
  have hj : j < d.tar.demands.length := (List.getElem?_eq_some_iff.1 hx).1
  unfold demandClose
  rw [hx]
  cases hk : d.nat (Param.DEM_SUBPERIODS + 8 * j) <;> simp [hs, hj]

/-- After a large step of the clock a row that closes register j, 0 to 2, closes it with SHORT (R218). -/
theorem exec_demandIntervalClose_bigStep {j : Nat} {s : State} (hj : j < 3) (hb : bigStep s.dev = true) :
    exec (.demandIntervalClose j) s = .next (s.onDev (demandClose j s.dev.tar.rtc true s.regs)) := by
  show execDemandIntervalClose j s = _
  simp [execDemandIntervalClose, devStep, State.onDev, demandStep, hj, hb]

/-- The clock has stepped by 61 s, where CLOCK_STEP_MAX is 60; register 1 is in sliding mode with a DEM_SUBPERIODS of 0. -/
def noSubperiods : State :=
  { dev := { tar := { step := some 61 }, par := { nums := [(Param.DEM_MODE, 1), (Param.DEM_SUBPERIODS, 0)] } } }

theorem noSubperiods_bigStep : bigStep noSubperiods.dev = true := by decide +kernel

end Sys2Proof.Machine

open Sys2Proof Sys2Proof.Machine

/-- Refutes O42: the statement has every close after a large step of the clock leave a SHORT value. A register in sliding mode
whose DEM_SUBPERIODS is 0, a count below the parameter's range of 1 to 15 that the statement does not exclude, keeps no
sub-interval that could be SHORT, and its value is not. -/
theorem not_recordAndTariffRows : ¬ Obligations.RecordAndTariffRows := by
  unfold Obligations.RecordAndTariffRows
  intro h
  obtain ⟨-, -, -, -, hdemand, -⟩ := h
  obtain ⟨-, hbig⟩ := hdemand 0 {} _ noSubperiods (by decide) rfl rfl
  obtain ⟨t, ht, -, y, hy, -, -, hshort, -⟩ := hbig noSubperiods_bigStep
  rw [exec_demandIntervalClose_bigStep (by decide) noSubperiods_bigStep] at ht
  obtain rfl := Host.Outcome.next.inj ht
  have hkept := demandClose_short_sliding (j := 0) (d := noSubperiods.dev) rfl rfl noSubperiods.dev.tar.rtc noSubperiods.regs
  rw [State.onDev_dev] at hy
  rw [hy, Option.map_some, hshort] at hkept
  exact absurd hkept (by decide)

end

section
/-!
SUPPORT. What the end of a session and a trip leave of the safety state beside the latches: the faults of class S and the
results of the tests (R255, R298, R306).
-/

namespace Sys2Proof.Machine

/-- The safety state without what a change of the outputs and the end of a session write of it: the quads and their timing, the
checks of an opening and a closing, the tests and the insulation measurement of a session, and Degraded. -/
def Saf.lasting (x : Saf) : Saf :=
  { x with
    quads := [], quadAt := none, pullAt := none, economiser := false, closeAt := none, closeOk := false
    openAt := 0, openSt := 0, openSerge := false, decayFrom := none
    rcTestDue := false, ftTestDue := false, isoAt := none, isoLast := none, isoPairs := 0, isoRes := none
    degSince := none, degExpired := false }

theorem applyOutputs_lasting (n : Nat) (o : BitVec 3) (d : Dev) : (applyOutputs n o d).saf.lasting = d.saf.lasting := by
  unfold applyOutputs
  dsimp only
  split <;> split <;> split <;> rfl

theorem safeOutputs_lasting (n : Nat) (d : Dev) : (safeOutputs n d).saf.lasting = d.saf.lasting :=
  applyOutputs_lasting n outSafe _

theorem requestOpen_lasting (n : Nat) (d : Dev) : (requestOpen n d).saf.lasting = d.saf.lasting :=
  applyOutputs_lasting n _ _

theorem clearSession_lasting (n arg : Nat) (d : Dev) :
    (clearSession n (clearNmk (startJob .signing 0 arg d))).saf.lasting = d.saf.lasting := rfl

theorem closeSession_lasting (s : State) (cause : Nat) (d : Dev) :
    (closeSession s cause (sessionEndedEv s cause) d).saf.lasting = d.saf.lasting := by
  obtain ⟨bal, h⟩ := closeSession_eq s cause (sessionEndedEv s cause) d
  rw [h, clearSession_lasting, balanceLog_only _ _ _ .saf (by decide), sessionEndedEv_only _ _ _ .saf (by decide),
    closingRecord_only s cause d .saf (by decide)]

theorem endMode_lasting (m : Mode) (d : Dev) : (endMode m d).saf.lasting = d.saf.lasting := by
  cases m
  case degraded =>
    have hsaf : (d.saf.degBits.foldl (fun d b => d.setCause b) (d.setCause Cause.degradedEnd)).saf = d.saf :=
      setCauses_only _ _ .saf (by decide)
    rw [← hsaf]
    rfl
  all_goals rfl

theorem endSession_lasting (s : State) (cause : Nat) (d : Dev) : (endSession s cause d).saf.lasting = d.saf.lasting := by
  unfold endSession
  split
  · rw [endMode_lasting, closeSession_lasting, requestOpen_lasting]
  · rfl

/-- The faults of class S and the failed tests of a safety state are lasting. -/
theorem Saf.lasting_findings {x y : Saf} (h : x.lasting = y.lasting) :
    x.sFaults = y.sFaults ∧ x.testFail = y.testFail := by
  have hfaults : x.lasting.sFaults = y.lasting.sFaults := by rw [h]
  have htests : x.lasting.testFail = y.lasting.testFail := by rw [h]
  exact ⟨hfaults, htests⟩

theorem tripHeld_findings (n f : Nat) (d : Dev) :
    (tripHeld n f d).saf.sFaults = d.saf.sFaults ∧ (tripHeld n f d).saf.testFail = d.saf.testFail := by
  unfold tripHeld
  exact Saf.lasting_findings (y := { d.saf with trips := d.saf.trips ||| bitAt f, since := d.saf.since ||| bitAt f })
    (safeOutputs_lasting n _)

theorem tripLogged_findings (s : State) (f tier : Nat) (value : Int) (k : Nat) (d : Dev) :
    (tripLogged s f tier value (some k) d).saf.sFaults = d.saf.sFaults ||| (1#16 <<< k) ∧
      (tripLogged s f tier value (some k) d).saf.testFail = d.saf.testFail := by
  have hlast : (tripLast s.clk.frame f tier d.saf).sFaults = d.saf.sFaults ∧
      (tripLast s.clk.frame f tier d.saf).testFail = d.saf.testFail := by
    unfold tripLast
    dsimp only
    split <;> exact ⟨rfl, rfl⟩
  unfold tripLogged
  dsimp only
  rw [Dev.safeStop_saf]
  exact ⟨congrArg (· ||| (1#16 <<< k)) hlast.1, hlast.2⟩

theorem tripLogged_causes (s : State) (f tier : Nat) (value : Int) (k : Nat) (d : Dev) :
    (tripLogged s f tier value (some k) d).pow.causes.getLsbD Cause.safetyLatch = true := by
  unfold tripLogged
  dsimp only
  rw [Dev.safeStop_causes]
  exact cause_or_self _ (by decide)

/-- A trip of class S is held again only where its fault is one already (R298). -/
theorem trip_classS_cases (s : State) (f tier : Nat) (value : Int) (k : Nat) (d : Dev) :
    (d.saf.sFaults.getLsbD k = true ∧ trip s f tier value (some k) d = tripHeld s.clk.frame f d) ∨
      trip s f tier value (some k) d =
        endSession s EndCause.trip (tripLogged s f tier value (some k) (tripHeld s.clk.frame f d)) := by
  unfold trip
  extract_lets n fresh
  split
  · exact .inr rfl
  · next hold =>
    have hk : d.saf.sFaults.getLsbD k = true := by
      simp only [fresh, Option.any_some, Bool.or_eq_true, not_or, Bool.not_eq_true, Bool.not_eq_false'] at hold
      exact hold.2
    exact .inl ⟨hk, rfl⟩

/-- What a trip of class S leaves beside `trip_leaves`: its fault, the results of the tests, and SAFETY_LATCH where the fault is
a new one (R47, R298). -/
theorem trip_classS_leaves (s : State) (f tier : Nat) (value : Int) {k : Nat} (hk : k < 16) (d : Dev) :
    (trip s f tier value (some k) d).saf.sFaults.getLsbD k = true ∧
      (trip s f tier value (some k) d).saf.testFail = d.saf.testFail ∧
      (d.saf.sFaults.getLsbD k = false →
        (trip s f tier value (some k) d).pow.causes.getLsbD Cause.safetyLatch = true) := by
  obtain ⟨hfaults, htests⟩ := tripHeld_findings s.clk.frame f d
  obtain ⟨hset, heq⟩ | heq := trip_classS_cases s f tier value k d <;> rw [heq]
  · exact ⟨by rw [hfaults, hset], htests, fun hclear => by simp [hset] at hclear⟩
  · obtain ⟨lfaults, ltests⟩ := tripLogged_findings s f tier value k (tripHeld s.clk.frame f d)
    obtain ⟨efaults, etests⟩ := Saf.lasting_findings
      (endSession_lasting s EndCause.trip (tripLogged s f tier value (some k) (tripHeld s.clk.frame f d)))
    refine ⟨?_, etests.trans (ltests.trans htests), fun _ => (Grows.endSession ..).causes _ (tripLogged_causes ..)⟩
    rw [efaults, lfaults]
    simp [hk]

end Sys2Proof.Machine

end

section
/-!
PROOF. What comes into force at its instant (R210, R306, R307, R376, R377): the clock's load, the swap of the banks, and the
result of a proof test.
-/

namespace Sys2Proof.Machine

theorem rtcLoadEff_some {d : Dev} {x src : Nat} (h : d.tar.load = some (x, src)) : rtcLoadEff d =
    { d with tar := { d.tar with rtc := x, sub := 0, load := none, loaded := true, step := some d.tar.lastStep } } := by
  rw [rtcLoadEff, h]

theorem settleSwap_due {d : Dev} {n f : Nat} (h : d.nfc.swapAt = some f) (hf : f ≤ n) : settleSwap n d = swapBanks n d :=
  if_pos (by simp [swapDue, h, hf])

theorem swapBanks_only (n : Nat) (d : Dev) : DevOnly [.nfc, .log] d (swapBanks n d) := by simp [devOnly_iff, swapBanks]

/-- A result is held in its own bit, passed or failed (R307). -/
theorem testResult_bit {k : Nat} (h₁ : 1 ≤ k) (h₆ : k ≤ 6) (pass : Bool) (d : Dev) :
    (testResult k pass d).saf.testPass.getLsbD (k - 1) = pass ∧
      (testResult k pass d).saf.testFail.getLsbD (k - 1) = !pass := by
  have hk : k - 1 < 8 := by omega
  cases pass <;> simp [testResult, hk]

theorem proofDoneDue_of {k : Nat} {d : Dev} (h : k ∈ d.saf.proofs) (h₆ : k = 6 → ∀ x ∈ d.saf.proofs, x = 6) :
    proofDoneDue k d = true := by
  simpa [proofDoneDue, h, ← imp_iff_not_or] using h₆

/-- A proof test that has ended, with its result held and logged (R306, R307). -/
def proofNoted (k : Nat) (pass : Bool) (d : Dev) : Dev :=
  (testResult k pass { d with saf := { d.saf with proofs := d.saf.proofs.filter fun t => decide (t ≠ k) } }).raise Src.serge
    Event.PROOF_TEST_DONE (leBytes 1 k ++ leBytes 1 (if pass then 1 else 0))

theorem proofNoted_only (k : Nat) (pass : Bool) (d : Dev) : DevOnly [.saf, .log] d (proofNoted k pass d) := by
  simp [devOnly_iff, proofNoted, testResult]

theorem proofNoted_ended (k : Nat) (pass : Bool) (d : Dev) : k ∉ (proofNoted k pass d).saf.proofs := by
  simp [proofNoted, testResult]

theorem proofNoted_logged (k : Nat) (pass : Bool) (d : Dev) :
    Ev.of Src.serge Event.PROOF_TEST_DONE (leBytes 1 k ++ leBytes 1 (if pass then 1 else 0)) ∈
      (proofNoted k pass d).log.now := List.mem_append_right _ (List.mem_singleton_self _)

theorem proofDone_noted {k : Nat} {pass : Bool} (h : k = 5 → pass = true) (s : State) (d : Dev) :
    proofDone s k pass d = proofNoted k pass d := if_neg fun ⟨h₅, hfail⟩ => hfail (h h₅)

/-- A failed test 5 is the insulation monitor's own failure (R306). -/
theorem proofDone_insulation (s : State) (d : Dev) :
    proofDone s 5 false d = trip s 9 2 0 (some SBit.insulation) (proofNoted 5 false d) := rfl

theorem Completes.of_proofTestDone {k : Nat} {pass : Bool} {s : State} {P : State → Prop} (hr : s.clk.running = true)
    (hd : proofDoneDue k s.dev = true) (h : P (s.onDev (proofDone s k pass))) : Completes (.proofTestDone k pass) s P :=
  .of_when (b := fun _ => s.clk.running && proofDoneDue k s.dev) rfl (by rw [hr, hd]; rfl) h

end Sys2Proof.Machine

open Sys2Proof Sys2Proof.Machine

/-- Settles O35: the load and the swap by what is pending, a proof test by what its noted result is, and a failed test 5 by what
a trip of class S leaves after that result. -/
theorem instantRows : Obligations.InstantRows := by
  unfold Obligations.InstantRows
  refine ⟨fun x src s hload => ?load, fun f s hswap hdue => ?swap,
    fun k pass s hr hk h₁ h₆ hlast hpass => ?proof, fun s hr h₅ => ?failed⟩
  case load =>
    refine .of_devStep rfl ?_
    rw [State.onDev, rtcLoadEff_some hload]
    exact ⟨rfl, .dev (by simp [devOnly_iff])⟩
  case swap =>
    refine .of_devStep rfl ?_
    rw [State.onDev, settleSwap_due hswap hdue]
    exact ⟨rfl, rfl, .dev (swapBanks_only _ _)⟩
  case proof =>
    refine .of_proofTestDone hr (proofDoneDue_of hk hlast) ?_
    rw [State.onDev, proofDone_noted hpass]
    obtain ⟨hp, hf⟩ := testResult_bit h₁ h₆ pass
      { s.dev with saf := { s.dev.saf with proofs := s.dev.saf.proofs.filter fun t => decide (t ≠ k) } }
    exact ⟨proofNoted_ended _ _ _, hp, hf, rfl, .dev (proofNoted_only _ _ _)⟩
  case failed =>
    refine .of_proofTestDone hr (proofDoneDue_of h₅ (by simp)) ?_
    rw [State.onDev, proofDone_insulation]
    have hleft := trip_leaves s (f := 9) (by decide) 2 0 (some SBit.insulation) (proofNoted 5 false s.dev)
    obtain ⟨hfault, htests, hlatch⟩ :=
      trip_classS_leaves s 9 2 0 (k := SBit.insulation) (by decide) (proofNoted 5 false s.dev)
    refine ⟨hleft.outputs, ?_, ?_, hlatch, hfault, hleft.grows.now (proofNoted_logged 5 false s.dev)⟩
    · rw [htests]
      exact (testResult_bit (by decide) (by decide) false _).2
    · rw [show (trip s 9 2 0 (some SBit.insulation) (proofNoted 5 false s.dev)).saf.trips = _ from
        congrArg Prod.fst hleft.latches]
      simp [bitAt]

end

section
/-!
PROOF. The clock's status, daylight saving and the display (R209, R211, R228, R230).
-/

namespace Sys2Proof.Machine

/-! The clock. -/

/-- A status that the next tick will not have anyway is decided and logged (R209). -/
theorem clockChange_of_ne {st : Nat} {d : Dev} (h : statusNext d ≠ st) (cause : Nat) : clockChange st cause d =
    ({ d with tar := { d.tar with nextStatus := some (st, cause) } }).raise Src.metr Event.CLOCK_STATUS_CHANGED
      (leBytes 1 (statusNext d) ++ leBytes 1 st ++ leBytes 1 cause) := if_neg h

theorem clockChange_changes {st : Nat} {s : State} (h : statusNext s.dev ≠ st) (cause : Nat) :
    (clockChange st cause s.dev).tar = { s.dev.tar with nextStatus := some (st, cause) } ∧
      Logs Src.metr Event.CLOCK_STATUS_CHANGED (leBytes 1 (statusNext s.dev) ++ (leBytes 1 st ++ leBytes 1 cause)) s
        (s.onDev (clockChange st cause)) ∧
      OnlyChanges [.tar, .log] s (s.onDev (clockChange st cause)) := by
  refine ⟨by rw [clockChange_of_ne h, Dev.raise_tar], ?_, .onDev (clockChange_keeps st cause s.dev).1⟩
  rw [← List.append_assoc]
  exact congrArg Dev.log (clockChange_of_ne h cause)

theorem clockAgeDue_of {d : Dev} (hst : d.tar.status = 0) (hmax : d.nat Param.CLOCK_AGE_MAX ≠ 0)
    (hage : d.tar.headEndSet + d.nat Param.CLOCK_AGE_MAX * 86400 ≤ d.tar.rtc) : clockAgeDue d = true := by
  simp [clockAgeDue, hst, hmax, hage]

theorem dstStep_same {d : Dev} (h : d.tar.dst = dstAt d d.tar.rtc) : dstStep d = d := if_pos h.symm

theorem dstStep_transition {d : Dev} (h : d.tar.dst ≠ dstAt d d.tar.rtc) : dstStep d =
    ({ d with tar := { d.tar with dst := dstAt d d.tar.rtc } }).raise Src.metr Event.DST_CHANGED (leBytes 4 d.tar.rtc) :=
  if_neg h.symm

/-- The drift is logged once while it lasts (R235). -/
def driftNoted (d : Dev) : Dev := if d.tar.driftLogged then d
  else ({ d with tar := { d.tar with driftLogged := true } }).raise Src.metr Event.RTC_DRIFT (leBytesInt 4 d.tar.rtcDev)

theorem rtcDriftEff_eq (d : Dev) :
    rtcDriftEff d = if statusNext (driftNoted d) = 0 then clockChange 1 4 (driftNoted d) else driftNoted d := rfl

theorem driftNoted_tar (d : Dev) : (driftNoted d).tar = { d.tar with driftLogged := true } := by
  unfold driftNoted
  split
  · next h => rw [← h]
  · rfl

theorem driftNoted_only (d : Dev) : DevOnly [.tar, .log] d (driftNoted d) :=
  .ite (fun _ => .refl _ _) fun _ => by simp [devOnly_iff]

theorem driftNoted_logged {d : Dev} (h : d.tar.driftLogged = false) :
    Ev.of Src.metr Event.RTC_DRIFT (leBytesInt 4 d.tar.rtcDev) ∈ (driftNoted d).log.now := by
  rw [driftNoted, if_neg (by simp [h])]
  exact List.mem_append_right _ (List.mem_singleton_self _)

theorem driftNoted_statusNext (d : Dev) : statusNext (driftNoted d) = statusNext d := by
  rw [statusNext, driftNoted_tar]
  rfl

/-- A drifting RTC makes a VALID clock DOUBTFUL, and leaves any other status (R209). -/
theorem rtcDriftEff_tar (d : Dev) : (rtcDriftEff d).tar = { d.tar with
    driftLogged := true, nextStatus := if statusNext d = 0 then some (1, 4) else d.tar.nextStatus } := by
  rw [rtcDriftEff_eq, driftNoted_statusNext]
  split
  · next h => rw [clockChange_of_ne (by rw [driftNoted_statusNext, h]; decide), Dev.raise_tar, driftNoted_tar]
  · exact driftNoted_tar d

theorem rtcDriftEff_only (d : Dev) : DevOnly [.tar, .log] d (rtcDriftEff d) :=
  (driftNoted_only d).trans (.ite (fun _ => (clockChange_keeps _ _ _).1) fun _ => .refl _ _)

theorem driftNoted_now (d : Dev) : (driftNoted d).log.now ⊆ (rtcDriftEff d).log.now := by
  rw [rtcDriftEff_eq]
  split
  · exact (clockChange_keeps _ _ _).2.1
  · exact List.Subset.refl _

theorem rtcDriftEff_doubtful {d : Dev} (h : statusNext d = 0) :
    Ev.of Src.metr Event.CLOCK_STATUS_CHANGED [0, 1, 4] ∈ (rtcDriftEff d).log.now := by
  have hnext := (driftNoted_statusNext d).trans h
  rw [rtcDriftEff_eq, if_pos hnext, clockChange_of_ne (by rw [hnext]; decide), hnext]
  exact List.mem_append_right _ (List.mem_singleton_self _)

/-! The display (R228, R230). -/

/-- The next page, or the next item after the last page, field by field. -/
theorem dispAdvance_disp (n : Nat) (d : Dev) : (dispAdvance n d).disp = { d.disp with
    item := if d.disp.page + 1 < dispPages d d.disp.item then d.disp.item else (d.disp.item + 1) % dispItems d
    page := if d.disp.page + 1 < dispPages d d.disp.item then d.disp.page + 1 else 0
    since := n, alt := 0 } := by
  unfold dispAdvance
  dsimp only
  split <;> rfl

theorem dispAdvance_only (n : Nat) (d : Dev) : DevOnly [.disp] d (dispAdvance n d) := by simp [devOnly_iff, dispAdvance]

/-- A step leaves the segment test, and what it shows is shown from its frame on. -/
theorem displayStep_shown (n : Nat) (d : Dev) : (displayStep n d).disp.segTest = d.disp.segTest ∧
    (d.disp.lastStep ≠ n → (displayStep n d).disp.since = n) := by
  unfold displayStep
  split
  · next h => exact ⟨rfl, fun hne => absurd h.1 hne⟩
  · extract_lets e
    split
    · exact ⟨rfl, fun _ => rfl⟩
    · rw [dispAdvance_disp]
      exact ⟨rfl, fun _ => rfl⟩

theorem dwellDue_of {d : Dev} {n : Nat} (hm : d.disp.manual = none)
    (hn : d.disp.since + secs (d.nat Param.DISP_DWELL) ≤ n) : dwellDue n d = true := by
  simp [dwellDue, hm, hn]

theorem manualDue_of {d : Dev} {k n : Nat} (hm : d.disp.manual = some k)
    (hn : k + secs (d.nat Param.DISP_MANUAL_TIMEOUT) ≤ n) : manualDue n d = true := by
  simp [manualDue, hm, hn]

theorem DevOnly.disp (d : Dev) (x : Disp) : DevOnly [.disp] d { d with disp := x } := by simp [devOnly_iff]

/-! The button (R230). -/

theorem btnReleaseEff_stuck {d : Dev} (h : d.disp.btnStuck = true) (n frames : Nat) :
    btnReleaseEff n frames d = { d with disp := { d.disp with btnStuck := false } } := if_pos h

theorem btnReleaseEff_ignored {d : Dev} {n : Nat} (hst : d.disp.btnStuck = false) (hig : n < d.disp.btnIgnoreUntil)
    (frames : Nat) : btnReleaseEff n frames d = { d with disp := { d.disp with btnIgnoreUntil := n + ms 100 } } :=
  (if_neg (by simp [hst])).trans (if_pos hig)

section
variable {d : Dev} {n frames : Nat} (hst : d.disp.btnStuck = false) (hig : d.disp.btnIgnoreUntil ≤ n)
include hst hig

/-- A press that is neither stuck nor ignored has the effect of its length. -/
theorem btnReleaseEff_acts : btnReleaseEff n frames d =
    if frames < ms 20 then d else if frames < secs 2 then displayStep n d
    else if frames ≤ secs 5 then segTestStart n d else d :=
  (if_neg (by simp [hst])).trans (if_neg (Nat.not_lt.2 hig))

theorem btnReleaseEff_none (h : frames < 160 ∨ 40000 < frames) : btnReleaseEff n frames d = d := by
  rw [btnReleaseEff_acts hst hig]
  obtain h | h := h
  · exact if_pos h
  · rw [if_neg (by simp only [ms]; omega), if_neg (by simp only [secs]; omega), if_neg (by simp only [secs]; omega)]

theorem btnReleaseEff_short (h₁ : 160 ≤ frames) (h₂ : frames < 16000) : btnReleaseEff n frames d = displayStep n d := by
  rw [btnReleaseEff_acts hst hig, if_neg (by simp only [ms]; omega)]
  exact if_pos h₂

theorem btnReleaseEff_long (h₁ : 16000 ≤ frames) (h₂ : frames ≤ 40000) : btnReleaseEff n frames d = segTestStart n d := by
  rw [btnReleaseEff_acts hst hig, if_neg (by simp only [ms]; omega), if_neg (by simp only [secs]; omega)]
  exact if_pos h₂

theorem btnReleaseEff_only : DevOnly [.disp] d (btnReleaseEff n frames d) := by
  rw [btnReleaseEff_acts hst hig]
  exact .ite (fun _ => .refl _ _) fun _ => .ite (fun _ => displayStep_only _ _) fun _ =>
    .ite (fun _ => DevOnly.disp d _) fun _ => .refl _ _

end

/-- Chatter is logged where the input was not ignored before. -/
theorem btnChatterEff_log {d : Dev} {n : Nat} : (d.disp.btnIgnoreUntil ≤ n →
      (btnChatterEff n d).log = { d.log with now := d.log.now ++ [.of Src.own Event.DISP_BTN_CHATTER []] }) ∧
    (n < d.disp.btnIgnoreUntil → (btnChatterEff n d).log = d.log) := by
  unfold btnChatterEff
  refine ⟨fun h => ?_, fun h => ?_⟩
  · rw [if_neg (by simpa using h)]
    rfl
  · rw [if_pos (by simpa using h)]

theorem btnChatterEff_disp (n : Nat) (d : Dev) :
    (btnChatterEff n d).disp = { d.disp with btnIgnoreUntil := n + ms 100 } := by
  unfold btnChatterEff
  dsimp only
  split <;> rfl

theorem btnChatterEff_only (n : Nat) (d : Dev) : DevOnly [.disp, .log] d (btnChatterEff n d) := by
  unfold btnChatterEff
  exact .ite (fun _ => by simp [devOnly_iff]) fun _ => by simp [devOnly_iff]

end Sys2Proof.Machine

open Sys2Proof Sys2Proof.Machine

/-- Settles O43: the clock by what a change of status and the noted drift leave, the display by its advance and its step, and a
press by whether it was stuck, was ignored, or acts by its length. -/
theorem clockAndDisplayRows : Obligations.ClockAndDisplayRows := by
  unfold Obligations.ClockAndDisplayRows
  refine ⟨fun s => ?dst, fun s hst => ?invalid, fun s hcount => ?drift, fun s hst hmax hne hage => ?age,
    fun s hm hn => ?dwell, fun k s hm hn => ?timeout, fun k s hst hig => ?acts, fun k s hst => ?unstuck,
    fun k s hst hig => ?ignored, fun frames s hst hf => ?stuck, fun edges s he => ?chatter⟩
  case dst =>
    refine .of_devStep rfl ?_
    rw [State.onDev]
    by_cases h : s.dev.tar.dst = dstAt s.dev s.dev.tar.rtc
    · rw [dstStep_same h, ← h]
      exact ⟨rfl, fun hne => absurd rfl hne, fun _ => rfl, .refl _ _⟩
    · rw [dstStep_transition h]
      exact ⟨rfl, fun _ => rfl, fun heq => absurd heq h, .dev (by simp [devOnly_iff])⟩
  case invalid =>
    obtain ⟨htar, hlogs, honly⟩ := clockChange_changes hst 0
    exact .of_devStep rfl ⟨htar, hlogs, honly⟩
  case drift =>
    refine .of_when (b := fun d => decide (60 ≤ d.tar.driftCount)) rfl (by simp [hcount]) ?_
    exact ⟨rtcDriftEff_tar _, fun h => driftNoted_now _ (driftNoted_logged h), rtcDriftEff_doubtful,
      .onDev (rtcDriftEff_only _)⟩
  case age =>
    refine .of_when (b := clockAgeDue) rfl (clockAgeDue_of hst hmax hage) ?_
    obtain ⟨htar, hlogs, honly⟩ := clockChange_changes hne 5
    exact ⟨htar, hlogs, honly⟩
  case dwell =>
    exact .of_when (b := dwellDue s.clk.frame) rfl (dwellDue_of hm hn) ⟨dispAdvance_disp _ _, .onDev (dispAdvance_only _ _)⟩
  case timeout =>
    exact .of_when (b := manualDue s.clk.frame) rfl (manualDue_of hm hn) ⟨rfl, .onDev (DevOnly.disp _ _)⟩
  case acts =>
    refine .of_devStep rfl ⟨fun h => ?_, fun h₁ h₂ => ?_, fun h₁ h₂ => ?_, .onDev (btnReleaseEff_only hst hig)⟩
    · rw [State.onDev, btnReleaseEff_none hst hig h]
    · rw [State.onDev, btnReleaseEff_short hst hig h₁ h₂]
      exact ⟨(displayStep_manual _ _).1, displayStep_shown _ _⟩
    · rw [State.onDev, btnReleaseEff_long hst hig h₁ h₂]
      rfl
  case unstuck =>
    refine .of_devStep rfl ?_
    rw [State.onDev, btnReleaseEff_stuck hst]
    exact ⟨rfl, .dev (DevOnly.disp _ _)⟩
  case ignored =>
    refine .of_devStep rfl ?_
    rw [State.onDev, btnReleaseEff_ignored hst hig]
    exact ⟨rfl, .dev (DevOnly.disp _ _)⟩
  case stuck =>
    refine .of_when (b := fun d => !d.disp.btnStuck && decide (secs 30 < frames)) rfl (by simp [hst, secs, hf]) ?_
    exact ⟨rfl, rfl, .onDev ((DevOnly.disp _ _).then (DevOnly.raise _ _ _ _))⟩
  case chatter =>
    refine .of_when (b := fun _ => decide (20 < edges)) rfl (by simp [he]) ?_
    exact ⟨btnChatterEff_disp _ _, btnChatterEff_log.1, btnChatterEff_log.2, .onDev (btnChatterEff_only _ _)⟩

end

section
/-!
PROOF. The duty of the pilot in basic charging (R237, R238, R258).
-/

namespace Sys2Proof.Machine

/-! The duty of a limit (R238). -/

section
variable {i : Nat}

theorem dutyOf_below (h : i < 6000) : dutyOf i = none := if_pos h

theorem dutyOf_fine (hlo : 6000 ≤ i) (hhi : i ≤ 51000) : dutyOf i = some (5 * (i / 30)) :=
  (if_neg (Nat.not_lt.2 hlo)).trans (if_pos hhi)

theorem dutyOf_coarse (hlo : 51000 < i) (hhi : i < 80000) : dutyOf i = some (6400 + 5 * (i / 125)) :=
  (if_neg (by omega)).trans ((if_neg (Nat.not_le.2 hlo)).trans (if_pos hhi))

theorem dutyOf_full (h : 80000 ≤ i) : dutyOf i = some 9600 :=
  (if_neg (by omega)).trans ((if_neg (by omega)).trans (if_neg (Nat.not_lt.2 h)))

/-- A duty below full is one of the steps of 0.05 %, and what it encodes lies within the limit. -/
theorem dutyOf_encodes {k : Nat} (h : dutyOf i = some k) (hi : i < 80000) :
    k % 5 = 0 ∧ (if k ≤ 8500 then 6 * k else 25 * (k - 6400)) ≤ i := by
  by_cases hlo : i < 6000
  · rw [dutyOf_below hlo] at h
    cases h
  · by_cases hfine : i ≤ 51000
    · obtain rfl := Option.some.inj ((dutyOf_fine (Nat.not_lt.1 hlo) hfine).symm.trans h)
      have hk : 5 * (i / 30) ≤ 8500 := by omega
      exact ⟨by omega, by rw [if_pos hk]; omega⟩
    · obtain rfl := Option.some.inj ((dutyOf_coarse (Nat.not_le.1 hfine) hi).symm.trans h)
      exact ⟨by omega, by split <;> omega⟩

end

/-! The wave of basic charging (R237, R238) and the pause (R258). -/

/-- A basic session that is offered energy has the duty of its applied limit on the pilot. -/
theorem waveOf_basic {c : Clk} {d : Dev} (hm : pilotMode c.mode = true) (hr : c.mode ≠ .ready)
    (hst : d.pow.starting = false) (hp : d.pow.st = .mains) (ho : d.ses.isOpen = true) (hl : d.veh.link = .basic)
    (hses : d.ses.st = 3 ∨ d.ses.st = 4 ∨ d.ses.st = 6) (hs : d.ses.stop = none) (hpa : d.ses.paused = false)
    (hc : cableValid d = true) : waveOf c d = match dutyOf (appliedLimit d) with
      | some k => .duty k
      | none => .steady := by
  unfold waveOf
  rw [if_neg (by simp [hm, hst, hp]), if_neg (by simp [ho, hr]), hl]
  exact if_pos ⟨hses, by simp [hs], by simp [hpa], hc⟩

section
variable {s : State} {d : Dev} (ho : d.ses.isOpen = true) (hk : dcKind d = false) (hlo : 3 ≤ d.ses.st)
  (hhi : d.ses.st ≤ 6) (hpa : d.ses.paused = false)
include ho hk hlo hhi hpa

/-- Neither guard under which the pause leaves the session alone (R258) holds. -/
theorem pauseStep_guards : ¬(!d.ses.isOpen || dcKind d || decide (d.ses.st < 3 ∨ 6 < d.ses.st)) = true ∧
    ¬d.ses.paused = true := by
  constructor
  · simp [ho, hk]
    omega
  · simp [hpa]

theorem pauseStep_pauses (hlim : appliedLimit d < 6000) : (pauseStep s d).ses.paused = true := by
  obtain ⟨hstands, hrun⟩ := pauseStep_guards ho hk hlo hhi hpa
  have h : ∃ o st x, pauseStep s d = waveNow s.clk ((pausedDev o st d).raise Src.vehicle Event.SESSION_PAUSED x) :=
    ⟨_, _, _, (if_neg hstands).trans ((if_neg hrun).trans (if_pos (decide_eq_true hlim)))⟩
  obtain ⟨o, st, x, h⟩ := h
  rw [h, waveNow_only _ _ .ses (by decide)]
  rfl

theorem pauseStep_keeps (hlim : 6000 ≤ appliedLimit d) : pauseStep s d = d := by
  obtain ⟨hstands, hrun⟩ := pauseStep_guards ho hk hlo hhi hpa
  exact (if_neg hstands).trans ((if_neg hrun).trans (if_neg (by simpa using hlim)))

end

end Sys2Proof.Machine

open Sys2Proof Sys2Proof.Machine

/-- Settles O48: the duty by the range of the limit, what it encodes by the step it is rounded to, and the pause by the limit
alone. -/
theorem dutyEncodesLimit : Obligations.DutyEncodesLimit :=
  ⟨fun _ => ⟨dutyOf_below, dutyOf_fine, dutyOf_coarse, dutyOf_full, fun _ => dutyOf_encodes, id⟩,
    fun _ hm hr hst hp ho hl hses hs hpa hc => waveOf_basic hm hr hst hp ho hl hses hs hpa hc,
    fun _ ho hk hlo hhi hpa => ⟨pauseStep_pauses ho hk hlo hhi hpa, pauseStep_keeps ho hk hlo hhi hpa⟩⟩

end

section
/-!
SUPPORT. The outlet (R19, R25, R242, R253, R270): what SERGE latches of a request that no dispute holds back, and what opening
and closing leave.
-/

namespace Sys2Proof.Machine

theorem outletShut_eq_false_iff (d : Dev) :
    outletShut d = false ↔ d.lanes.outputs.getLsbD 0 = false ∧ d.lanes.outputs.getLsbD 1 = false := Bool.or_eq_false_iff

theorem outletOpened_iff (t : State) : OutletOpened t ↔ outletShut t.dev = false := (outletShut_eq_false_iff t.dev).symm

/-! Requests. -/

theorem requestOutputs_only (n : Nat) (req : BitVec 3) (d : Dev) : DevOnly [.lanes, .saf, .veh] d (requestOutputs n req d) :=
  DevOnly.then (ps := [.lanes]) (by simp [devOnly_iff]) (applyOutputs_only n _ _)

/-- Without a dispute SERGE latches the safe state where it holds it, and what its gates let pass elsewhere. -/
theorem latchedNext_undisputed {d : Dev} (h : d.lanes.dispute = none) :
    latchedNext d = if sergeHolds d then outSafe else gatedRequest d := by
  rw [latchedNext, disputeHold, h]

/-- SERGE's gates let every request pass (R270, R285). -/
structure GatesOpen (d : Dev) : Prop where
  trips : d.saf.trips = 0
  serge : d.lanes.sergeFault = false
  weld : d.saf.weldLatch = false

theorem requestOutputs_passes {d : Dev} (hd : d.lanes.dispute = none) (hg : GatesOpen d) (n : Nat) (req : BitVec 3) :
    (requestOutputs n req d).lanes.outputs = req := by
  refine (latchedNext_undisputed (d := { d with lanes := { d.lanes with request := req } }) hd).trans ?_
  simp [sergeHolds, gatedRequest, hg.trips, hg.serge, hg.weld]

/-! Opening. -/

theorem outletShut_requestOpen {d : Dev} (hd : d.lanes.dispute = none) (n : Nat) : outletShut (requestOpen n d) = false := by
  have ho : (requestOpen n d).lanes.outputs = _ :=
    latchedNext_undisputed (d := { d with lanes := { d.lanes with request := d.lanes.request &&& 0b100#3 } }) hd
  simp only [outletShut, quadsOn, enablesOn, ho, gatedRequest]
  split
  · decide
  · split <;> simp

/-- An outlet that opens starts its opening check (R284, R285). -/
theorem applyOutputs_opens {n : Nat} {o : BitVec 3} {d : Dev} (hs : outletShut d = true) (h0 : o.getLsbD 0 = false)
    (h1 : o.getLsbD 1 = false) : (applyOutputs n o d).saf.openSt = 1 ∧ (applyOutputs n o d).saf.openAt = n := by
  have hopens : (d.lanes.outputs.getLsbD 0 && !o.getLsbD 0 || d.lanes.outputs.getLsbD 1 && !o.getLsbD 1) = true := by
    rw [h0, h1, Bool.not_false, Bool.and_true, Bool.and_true]
    exact hs
  unfold applyOutputs
  dsimp only
  rw [if_pos hopens]
  exact ⟨rfl, rfl⟩

theorem openOutlet_open {d : Dev} (h : outletShut d = false) (n : Nat) : openOutlet n d = d := if_neg (by simp [h])

theorem openOutlet_only (n : Nat) (d : Dev) : DevOnly [.lanes, .veh, .ses, .dc, .saf] d (openOutlet n d) := by
  unfold openOutlet
  exact .ite (fun _ => (requestOpen_only n d).then (qs := [.ses, .dc]) (by simp [devOnly_iff])) fun _ => .refl _ d

/-- What opening a closed outlet leaves (R242, R255, R258). -/
structure OutletOpens (n : Nat) (d t : Dev) : Prop where
  only : DevOnly [.lanes, .veh, .ses, .dc, .saf] d t
  shut : outletShut t = false
  ses : t.ses = { d.ses with st := if d.ses.isOpen then 6 else d.ses.st, pauseOpen := none }
  dc : t.dc = { d.dc with phase := 0, rampStart := none, targetI := 0 }
  openSt : t.saf.openSt = 1
  openAt : t.saf.openAt = n

theorem openOutlet_opens {d : Dev} (hs : outletShut d = true) (hd : d.lanes.dispute = none) (n : Nat) :
    OutletOpens n d (openOutlet n d) := by
  have hshut := outletShut_requestOpen hd n
  obtain ⟨h0, h1⟩ := (outletShut_eq_false_iff _).1 hshut
  obtain ⟨hst, hat⟩ := applyOutputs_opens (n := n)
    (d := { d with lanes := { d.lanes with request := d.lanes.request &&& 0b100#3 } }) hs h0 h1
  have honly := openOutlet_only n d
  rw [openOutlet, if_pos hs] at honly ⊢
  exact ⟨honly, hshut, rfl, rfl, hst, hat⟩

theorem outletShut_openOutlet {d : Dev} (hd : d.lanes.dispute = none) (n : Nat) : outletShut (openOutlet n d) = false := by
  cases hs : outletShut d with
  | true => exact (openOutlet_opens hs hd n).shut
  | false => rwa [openOutlet_open hs]

/-! Closing. -/

/-- With no condition of closing missing no safety function holds the outlet (R253). -/
theorem closeFault_safe {s : State} {d : Dev} (h : closeFault s d = 0) : GatesOpen d := by
  have hsafe : safetyHolds s.clk.frame d = false := by
    by_contra hne
    rw [Bool.not_eq_false] at hne
    unfold closeFault at h
    split_ifs at h
  simp only [safetyHolds, Bool.or_eq_false_iff, decide_eq_false_iff_not, not_not] at hsafe
  obtain ⟨⟨⟨⟨⟨⟨htrips, -⟩, -⟩, -⟩, -⟩, hweld⟩, hserge⟩ := hsafe
  exact ⟨htrips, hserge, hweld⟩

/-- An outlet that closes starts its closing check (R284). -/
theorem applyOutputs_closes {n : Nat} {o : BitVec 3} {d : Dev} (hs : outletShut d = false) (h0 : o.getLsbD 0 = true) :
    (applyOutputs n o d).saf.closeAt = some n := by
  obtain ⟨hq, he⟩ := (outletShut_eq_false_iff d).1 hs
  unfold applyOutputs
  dsimp only
  rw [hq, he, h0]
  rfl

theorem closeOutlet_only (n : Nat) (d : Dev) : DevOnly [.lanes, .veh, .ses, .saf] d (closeOutlet n d) :=
  (requestOutputs_only n (d.lanes.request ||| 0b001#3) d).then (qs := [.ses]) (by simp [devOnly_iff, closeOutlet])

theorem closeOutlet_closes {d : Dev} (hs : outletShut d = false) (hd : d.lanes.dispute = none) (hg : GatesOpen d) (n : Nat) :
    quadsOn (closeOutlet n d) = true ∧ (closeOutlet n d).ses = { d.ses with st := 4 } ∧
      (closeOutlet n d).saf.closeAt = some n := by
  have hbit : (d.lanes.request ||| 0b001#3).getLsbD 0 = true := by simp
  have hout := requestOutputs_passes hd hg n (d.lanes.request ||| 0b001#3)
  have hquad : (requestOutputs n (d.lanes.request ||| 0b001#3) d).lanes.outputs.getLsbD 0 = true := by rw [hout, hbit]
  exact ⟨hquad, rfl, applyOutputs_closes hs hquad⟩

end Sys2Proof.Machine

end

section
/-!
PROOF. The DC transfer (R245, R253, R261, R295).
-/

namespace Sys2Proof.Machine

/-! Cable check (R253, R261, R295). -/

theorem cableCheck_only (n : Nat) (d : Dev) : DevOnly [.lanes, .veh, .dc, .saf] d (cableCheck n d) :=
  (requestOutputs_only n (d.lanes.request ||| 0b010#3) d).then (qs := [.dc, .saf]) (by simp [devOnly_iff, cableCheck])

theorem enablesOn_cableCheck {d : Dev} (hd : d.lanes.dispute = none) (hg : GatesOpen d) (n : Nat) :
    enablesOn (cableCheck n d) = true := by
  have hout : (cableCheck n d).lanes.outputs = _ := requestOutputs_passes hd hg n (d.lanes.request ||| 0b010#3)
  rw [enablesOn, hout]
  simp

/-- An output request leaves the insulation monitor's warning as it was. -/
theorem applyOutputs_isoWarned (n : Nat) (o : BitVec 3) (d : Dev) :
    (applyOutputs n o d).saf.isoWarned = d.saf.isoWarned := by
  have h : (applyOutputs n o d).saf.lasting.isoWarned = _ := congrArg Saf.isoWarned (applyOutputs_lasting n o d)
  exact h

/-- The answer to a cable check: its progress and the warning while it runs, FAILED outside one (R261, R295). -/
def cableAnswered (d : Dev) : Dev :=
  if d.dc.phase = 1 then reply .ok (decide (2 ≤ d.saf.isoPairs)) [if d.saf.isoWarned then 1 else 0] d
  else reply .failed true [] d

theorem exec_cableCheckReq {s : State} {d : Dev} (hc : Committed s) (hu : hlcUp s.dev = true) (hv : s.dev.veh.v2g = true)
    (hd : (if cableCheckDue s s.dev then cableCheck s.clk.frame s.dev else s.dev) = d) :
    exec .cableCheckReq s = .next { s with dev := cableAnswered d } := by
  subst hd
  refine (protoStep_committed hc _).trans ?_
  rw [State.onDev, hu, hv]
  rfl

/-- A cable check that is due is one of a V2G session whose outlet no safety function holds. -/
theorem cableCheckDue_premises {s : State} {d : Dev} (h : cableCheckDue s d = true) :
    hlcUp d = true ∧ d.veh.v2g = true ∧ GatesOpen d := by
  simp only [cableCheckDue, Bool.and_eq_true, decide_eq_true_eq] at h
  obtain ⟨⟨⟨⟨⟨⟨hu, hv⟩, -⟩, -⟩, -⟩, -⟩, hfault⟩ := h
  exact ⟨hu, hv, closeFault_safe hfault⟩

/-! Pre-charge (R261). -/

/-- A pre-charge may follow: the enables are on, and the cable check has passed or pre-charge runs. -/
def preChargeMay (d : Dev) : Bool :=
  enablesOn d && (decide (d.dc.phase = 2) || (decide (d.dc.phase = 1) && decide (2 ≤ d.saf.isoPairs)))

theorem exec_preChargeReq {s : State} (hc : Committed s) (hu : hlcUp s.dev = true) (hv : s.dev.veh.v2g = true) (v : Int) :
    exec (.preChargeReq v) s = .next { s with
      dev := if preChargeMay s.dev then
          reply .ok s.dev.dc.preReady [udcMean s.dev]
            { s.dev with dc := { s.dev.dc with phase := 2, targetV := v, targetI := 2000 } }
        else reply .failed true [] s.dev } := by
  refine (protoStep_committed hc _).trans ?_
  rw [State.onDev, hu, hv]
  rfl

end Sys2Proof.Machine

open Sys2Proof Sys2Proof.Machine

/-- Settles O46: a cable check by whether it is due, a pre-charge by whether it may follow, and the enables' opening by what
opening a closed outlet leaves. -/
theorem dcTransferRows : Obligations.DcTransferRows := by
  unfold Obligations.DcTransferRows
  refine ⟨fun s hdue hd hc => ?check, fun s ho hl hv hdue hc => ?again, fun v s ho hl hv => ⟨fun he hph hc => ?pre,
    fun hn hc => ?failed⟩, fun s hph hn => ?ready, fun s hdue => ?timeout, fun f s he hr hw hd => ?opens⟩
  case check =>
    obtain ⟨hu, hv, hg⟩ := cableCheckDue_premises hdue
    refine ⟨_, exec_cableCheckReq hc hu hv (if_pos hdue), ?_⟩
    refine ⟨enablesOn_cableCheck hd hg s.clk.frame, rfl, rfl, rfl, rfl, rfl, rfl, rfl, rfl, rfl, rfl, ?_,
      .dev ((cableCheck_only _ _).then (reply_only _ _ _ _))⟩
    have hw : (cableCheck s.clk.frame s.dev).saf.isoWarned = s.dev.saf.isoWarned := applyOutputs_isoWarned ..
    show some (V2gResp.mk .ok false _ false [if (cableCheck s.clk.frame s.dev).saf.isoWarned then 1 else 0]) = _
    rw [hw]
    rfl
  case again =>
    refine ⟨_, exec_cableCheckReq hc (hlcUp_of ho hl) hv (if_neg (by simp [hdue])), ?_⟩
    unfold cableAnswered
    by_cases hph : s.dev.dc.phase = 1
    · rw [if_pos hph]
      exact ⟨fun _ => rfl, fun hne => absurd hph hne, rfl, .dev (reply_only _ _ _ _)⟩
    · rw [if_neg hph]
      exact ⟨fun h => absurd h hph, fun _ => rfl, rfl, .dev (reply_only _ _ _ _)⟩
  case pre =>
    have hmay : preChargeMay s.dev = true := by
      rw [preChargeMay, show enablesOn s.dev = true from he]
      simpa using hph
    refine ⟨_, exec_preChargeReq hc (hlcUp_of ho hl) hv v, ?_⟩
    rw [if_pos hmay]
    exact ⟨rfl, rfl, .dev (by simp [devOnly_iff, reply])⟩
  case failed =>
    have hmay : preChargeMay s.dev = false := by
      obtain he | ⟨h2, h1⟩ := hn
      · rw [preChargeMay, show enablesOn s.dev = false from he, Bool.false_and]
      · rw [preChargeMay, Bool.and_eq_false_iff]
        right
        simp [h2]
        omega
    refine ⟨_, exec_preChargeReq hc (hlcUp_of ho hl) hv v, ?_⟩
    rw [if_neg (by simp [hmay])]
    exact ⟨rfl, .dev (reply_only _ _ _ _)⟩
  case ready =>
    exact .of_when (b := fun d => decide (d.dc.phase = 2) && decide (80 ≤ d.dc.okCount)) rfl (by simp [hph, hn])
      ⟨rfl, .onDev (by simp [devOnly_iff])⟩
  case timeout =>
    exact .of_when (b := stageTimeoutDue s.clk.frame) rfl hdue ⟨rfl, rfl, rfl, .onDev (by simp [devOnly_iff, rampDown])⟩
  case opens =>
    have hdue : enablesOpenDue s.clk.frame s.dev = true := by
      rw [enablesOpenDue, show enablesOn s.dev = true from he, hr]
      simpa using hw
    have hs : outletShut s.dev = true := by rw [outletShut, show enablesOn s.dev = true from he, Bool.or_true]
    obtain ⟨honly, hshut, hses, hdc, hst, hat⟩ := openOutlet_opens hs hd s.clk.frame
    refine .of_when (b := fun _ => enablesOpenDue s.clk.frame s.dev) rfl hdue ?_
    refine ⟨(outletOpened_iff _).2 hshut, ?_, ?_, ?_, hst, hat, fun ho => ?_, ?_, .onDev honly⟩
    · rw [State.onDev_dev, hdc]
    · rw [State.onDev_dev, hdc]
    · rw [State.onDev_dev, hdc]
    · rw [State.onDev_dev, hses]
      exact if_pos ho
    · rw [State.onDev_dev, hses]

end

section
/-!
PROOF. The session (R251 to R255, R258, R262, R299): an ordered stop, and the rows that close, open, resume and expire.
-/

namespace Sys2Proof.Machine

/-! An ordered stop (R255). -/

/-- An ordered stop has begun: it has its cause and its frame. -/
def stopBegun (n cause : Nat) (d : Dev) : Dev := { d with ses := { d.ses with stop := some (cause, n) } }

/-- Nothing stops without a session, or twice. -/
theorem orderedStop_idle {d : Dev} (h : d.ses.isOpen = false ∨ ∃ x, d.ses.stop = some x) (s : State) (cause : Nat) :
    orderedStop s cause d = d := by
  refine if_neg fun ⟨ho, hn⟩ => ?_
  obtain h | ⟨x, h⟩ := h
  · exact Bool.false_ne_true (h.symm.trans ho)
  · simp [h] at hn

/-- With the outlet closed a stop ramps a DC outlet down and leaves an AC outlet as it is. -/
theorem orderedStop_shut {d : Dev} (ho : d.ses.isOpen = true) (hs : d.ses.stop = none) (hq : outletShut d = true) (s : State)
    (cause : Nat) : orderedStop s cause d =
      if enablesOn d then rampDown s.clk.frame 1 (stopBegun s.clk.frame cause d) else stopBegun s.clk.frame cause d := by
  refine (if_pos ⟨ho, by simp [hs]⟩).trans ?_
  cases he : enablesOn d with
  | true => exact if_pos he
  | false => exact (if_neg (Bool.eq_false_iff.1 he)).trans (if_pos (.inl hq))

theorem orderedStop_only (s : State) (cause : Nat) (d : Dev) :
    DevOnly [.lanes, .pow, .ses, .led, .log, .acs, .keys, .dc, .veh, .saf] d (orderedStop s cause d) := by
  have hbegun : DevOnly [.ses] d (stopBegun s.clk.frame cause d) := by simp [devOnly_iff, stopBegun]
  unfold orderedStop
  refine .ite (fun _ => .ite (fun _ => ?_) fun _ => .ite (fun _ => ?_) fun _ => ?_) fun _ => .refl _ d
  · exact hbegun.then (qs := [.dc]) (by simp [devOnly_iff, rampDown, stopBegun])
  · exact hbegun.mono (by decide)
  · exact hbegun.then (endSession_only s cause _)

/-- What a stop asked for leaves (R255): the first keeps its cause, a closed outlet waits for its opening, and one that is open
and not under check ends the session at once (log entry 28). -/
structure StopOrdered (cause : Nat) (s t : State) : Prop where
  kept : ∀ x, s.dev.ses.stop = some x → t.dev.ses = s.dev.ses
  waits : s.dev.ses.isOpen = true → s.dev.ses.stop = none → outletShut s.dev = true →
    t.dev.ses = { s.dev.ses with stop := some (cause, s.clk.frame) } ∧ t.dev.lanes = s.dev.lanes ∧
      (s.dev.lanes.outputs.getLsbD 1 = true → t.dev.dc.phase = 4 ∧ t.dev.dc.targetI = 0)
  ends : s.dev.ses.isOpen = true → s.dev.ses.stop = none → outletShut s.dev = false → s.dev.saf.openSt ≠ 1 →
    t.dev.ses.isOpen = false
  none : s.dev.ses.isOpen = false → t.dev.ses = s.dev.ses
  clk : t.clk = s.clk
  only : OnlyChanges [.lanes, .pow, .acs, .log, .led, .veh, .ses, .dc, .saf, .keys] s t

/-- A stop is ordered after a change that leaves the session, the outputs and the opening check as they are. -/
theorem orderedStop_stops {s : State} {d : Dev} (hd : DevOnly [.log, .veh, .saf] s.dev d)
    (hst : d.saf.openSt = s.dev.saf.openSt) (cause : Nat) :
    StopOrdered cause s { s with dev := orderedStop s cause d } := by
  have hses : d.ses = s.dev.ses := hd .ses (by decide)
  have hlanes : d.lanes = s.dev.lanes := hd .lanes (by decide)
  have hshut : outletShut d = outletShut s.dev := by rw [outletShut, quadsOn, enablesOn, hlanes]; rfl
  refine ⟨fun x hx => ?_, fun ho hs hq => ?_, fun ho hs hq hc => ?_, fun ho => ?_, rfl, .dev ?_⟩
  · rw [← hses] at hx
    show (orderedStop s cause d).ses = _
    rw [orderedStop_idle (.inr ⟨x, hx⟩), hses]
  · rw [← hses] at ho hs ⊢
    rw [← hlanes]
    show (orderedStop s cause d).ses = _ ∧ (orderedStop s cause d).lanes = _ ∧
      (enablesOn d = true → (orderedStop s cause d).dc.phase = 4 ∧ (orderedStop s cause d).dc.targetI = 0)
    rw [orderedStop_shut ho hs (hshut.trans hq)]
    split
    · exact ⟨rfl, rfl, fun _ => ⟨rfl, rfl⟩⟩
    · next he => exact ⟨rfl, rfl, fun h => absurd h he⟩
  · rw [← hses] at ho hs
    rw [← hshut] at hq
    have he : enablesOn d = false := (Bool.or_eq_false_iff.1 hq).2
    show (orderedStop s cause d).ses.isOpen = false
    rw [orderedStop_ends s cause ho hs he hq (by rwa [hst]), endSession_closed]
  · rw [← hses] at ho
    show (orderedStop s cause d).ses = _
    rw [orderedStop_idle (.inl ho), hses]
  · exact hd.then (orderedStop_only s cause d)

/-! Stops by the vehicle, by the host's loss and by Degraded. -/

/-- The vehicle's SessionStop as it is answered (R246, R255). -/
def sessionStopped (d : Dev) : Dev :=
  reply .ok true [] { d with veh := { d.veh with v2g := false, powerOn := false, lastLoop := none } }

theorem sessionStopped_only (d : Dev) : DevOnly [.veh] d (sessionStopped d) := by simp [devOnly_iff, sessionStopped, reply]

theorem exec_sessionStopReq {s : State} (hc : Committed s) (hv : s.dev.veh.v2g = true) (terminate : Bool) :
    exec (.sessionStopReq terminate) s = .next { s with
      dev := if terminate then orderedStop s EndCause.vehicle (sessionStopped s.dev) else sessionStopped s.dev } := by
  refine (protoStep_committed hc _).trans ?_
  rw [State.onDev, hv]
  rfl

/-! A resumption (R258). -/

theorem resumeDue_of {n f : Nat} {d : Dev} (ho : d.ses.isOpen = true) (hp : d.ses.paused = true)
    (hl : d.ses.limitOk = some f) (hn : f + 480000 ≤ n) : resumeDue n d = true := by
  have hlong : (some f).any (fun f => decide (f + 480000 ≤ n)) = true := by
    rw [Option.any_some]
    exact decide_eq_true hn
  rw [resumeDue, ho, hp, hl, hlong]
  rfl

/-- The session as it resumes, before the wave is driven again. -/
def resumedDev (d : Dev) : Dev :=
  ({ d with ses := { d.ses with
      paused := false, limitOk := none, pauseOpen := none
      st := if d.ses.st = 5 then (if quadsOn d then 4 else 3) else d.ses.st } } : Dev).raise Src.vehicle
    Event.SESSION_PAUSED (leBytes 1 1 ++ leBytes 1 d.ses.binding)

theorem resumeEff_resumes (s : State) (d : Dev) :
    (resumeEff s d).ses = { d.ses with
      paused := false, limitOk := none, pauseOpen := none
      st := if d.ses.st = 5 then (if quadsOn d then 4 else 3) else d.ses.st } ∧
    Ev.of Src.vehicle Event.SESSION_PAUSED ([1] ++ leBytes 1 d.ses.binding) ∈ (resumeEff s d).log.now ∧
    DevOnly [.lanes, .log, .veh, .ses, .saf] d (resumeEff s d) := by
  have hwave := waveNow_only s.clk (resumedDev d)
  have hses : (resumeEff s d).ses = (resumedDev d).ses := hwave .ses (by decide)
  have hlog : (resumeEff s d).log = (resumedDev d).log := hwave .log (by decide)
  refine ⟨hses, ?_, DevOnly.then (ps := [.log, .ses]) (by simp [devOnly_iff, resumedDev]) hwave⟩
  rw [hlog]
  exact List.mem_append_right _ (List.mem_singleton_self _)

/-! Expiries (R251, R252). -/

/-- With no authorisation the state of no session is not AUTHORISED (R251). -/
theorem idleState_unauthorised {d : Dev} (h : d.ses.auth = none) : idleState d ≠ 1 := by
  unfold idleState
  rw [h]
  split <;> decide

/-- OUTLET_CLOSE closes an AC outlet that is open, with no condition missing (R253). -/
theorem closeDue_premises {s : State} {d : Dev} (h : closeDue s d = true) : outletShut d = false ∧ GatesOpen d := by
  simp only [closeDue, Bool.and_eq_true, Bool.not_eq_true', decide_eq_true_eq] at h
  obtain ⟨⟨-, hshut⟩, hfault⟩ := h
  exact ⟨hshut, closeFault_safe hfault⟩

theorem stopWaitDue_premises {n : Nat} {d : Dev} (h : stopWaitDue n d = true) :
    d.ses.isOpen = true ∧ outletShut d = true := by
  simp only [stopWaitDue, Bool.and_eq_true] at h
  obtain ⟨⟨ho, hq⟩, -⟩ := h
  exact ⟨ho, by rw [outletShut, hq, Bool.true_or]⟩

end Sys2Proof.Machine

open Sys2Proof Sys2Proof.Machine

/-- Settles O47: closing and opening by what they leave of the outlet, and each of the three stops by an ordered stop after its
own mark. -/
theorem sessionRows : Obligations.SessionRows := by
  unfold Obligations.SessionRows
  refine ⟨fun s hdue hd => ?close, fun s hdue hd => ?wait, fun f s ho hp hl hn => ?resume, fun x f s hr hn => ?card,
    fun a f s ho ha he hn => ?preauth, fun s hv hc => ?pause, fun c cause s h => ?stop⟩
  case close =>
    obtain ⟨hs, hg⟩ := closeDue_premises hdue
    obtain ⟨hq, hses, hat⟩ := closeOutlet_closes hs hd hg s.clk.frame
    exact .of_when (b := fun _ => closeDue s s.dev) rfl hdue ⟨hq, hses, hat, .onDev (closeOutlet_only _ _)⟩
  case wait =>
    obtain ⟨ho, hs⟩ := stopWaitDue_premises hdue
    obtain ⟨honly, hshut, hses, -, hst, -⟩ := openOutlet_opens hs hd s.clk.frame
    rw [if_pos ho] at hses
    exact .of_when (b := fun _ => stopWaitDue s.clk.frame s.dev) rfl hdue
      ⟨(outletOpened_iff _).2 hshut, hses, hst, .onDev honly⟩
  case resume =>
    obtain ⟨hses, hlog, honly⟩ := resumeEff_resumes s s.dev
    refine .of_when (b := fun _ => resumeDue s.clk.frame s.dev) rfl (resumeDue_of ho hp hl hn)
      ⟨?_, fun h5 => ?_, fun h5 => ?_, hlog, .onDev honly⟩
    · rw [State.onDev_dev, hses]
    · rw [State.onDev_dev, hses]
      exact if_neg h5
    · rw [State.onDev_dev, hses]
      exact if_pos h5
  case card =>
    obtain ⟨honly, -, hses⟩ := refuseRequest_session s.dev
    refine .of_when (b := fun d => d.ses.request.any fun r =>
      decide (r.2 + ms (d.nat Param.AUTH_HOST_TIMEOUT) ≤ s.clk.frame)) rfl (by simp [hr, hn]) ⟨hses, ?_, .onDev honly⟩
    rw [Logs, State.onDev_dev, refuseRequest, hr]
    rfl
  case preauth =>
    exact .of_when (b := preauthDue s.clk.frame) rfl (by simp [preauthDue, ho, ha, he, hn])
      ⟨rfl, idleState_unauthorised rfl, rfl, .onDev (by simp [devOnly_iff])⟩
  case pause =>
    exact ⟨_, exec_sessionStopReq hc hv false, rfl, rfl, .dev (sessionStopped_only _)⟩
  case stop =>
    obtain ⟨t, ht, hkept, hwaits, hends, hnone, hclk, honly⟩ : Completes c s (StopOrdered cause s) := by
      obtain ⟨rfl, rfl, hv, hc⟩ | ⟨rfl, rfl, hdue⟩ | ⟨rfl, rfl, hdue⟩ := h
      · exact ⟨_, exec_sessionStopReq hc hv true, orderedStop_stops ((sessionStopped_only _).mono (by decide)) rfl _⟩
      · exact .of_when (b := graceDue s.clk.frame) rfl hdue (orderedStop_stops
          (d := s.dev.raise Src.vehicle Event.HOST_GRACE_EXPIRED []) ((DevOnly.raise _ _ _ _).mono (by decide)) rfl _)
      · exact .of_when (b := fun _ => degradedExpired s s.dev) rfl hdue (orderedStop_stops
          (d := { s.dev with saf := { s.dev.saf with degExpired := true } }) (by simp [devOnly_iff]) rfl _)
    exact ⟨t, ht, hkept, hwaits, hends, hnone, hclk, honly⟩

end

section
/-!
SUPPORT. What steps of the session, of the outputs and of the limits keep of the pilot and the cable (R241, R243), and what a
trip leaves of the outputs and the session (R269 to R274).
-/

namespace Sys2Proof.Machine

/-- What was accepted of the pilot and the cable: the state, its frame, the count of acceptances and the rating (R241, R243). -/
structure Accepted where
  st : PilotSt
  stAt : Nat
  count : Nat
  cable : Nat

/-- What the vehicle link holds as accepted. -/
def Veh.accepted (x : Veh) : Accepted := ⟨x.st, x.stAt, x.stateCount, x.cable⟩

/-- From d to e only the named parts change, no event goes, and what was accepted and disputed stays. -/
structure LinkKept (ps : List Part) (d e : Dev) : Prop where
  only : DevOnly ps d e
  now : d.log.now ⊆ e.log.now
  accepted : e.veh.accepted = d.veh.accepted
  dispute : e.lanes.dispute = d.lanes.dispute

theorem LinkKept.refl (ps : List Part) (d : Dev) : LinkKept ps d d := ⟨.refl _ _, List.Subset.refl _, rfl, rfl⟩

theorem LinkKept.then {ps qs rs : List Part} {d e f : Dev} (h : LinkKept ps d e) (k : LinkKept qs e f)
    (hp : ∀ p ∈ ps, p ∈ rs := by decide) (hq : ∀ p ∈ qs, p ∈ rs := by decide) : LinkKept rs d f :=
  ⟨h.only.then k.only hp hq, List.Subset.trans h.now k.now, k.accepted.trans h.accepted, k.dispute.trans h.dispute⟩

theorem LinkKept.mono {ps qs : List Part} {d e : Dev} (h : LinkKept ps d e) (k : ∀ p ∈ ps, p ∈ qs := by decide) : LinkKept qs d e :=
  ⟨h.only.mono k, h.now, h.accepted, h.dispute⟩

theorem LinkKept.ite {ps : List Part} {c : Prop} [Decidable c] {d e f : Dev} (h : c → LinkKept ps d e) (k : ¬c → LinkKept ps d f) :
    LinkKept ps d (if c then e else f) := by
  split
  · exact h ‹_›
  · exact k ‹_›

/-- A change that leaves the log alone. -/
theorem LinkKept.of_only {ps : List Part} {d e : Dev} (h : DevOnly ps d e) (ha : e.veh.accepted = d.veh.accepted)
    (hd : e.lanes.dispute = d.lanes.dispute) (hl : .log ∉ ps := by decide) : LinkKept ps d e :=
  ⟨h, by rw [h .log hl]; exact List.Subset.refl _, ha, hd⟩

/-! Outputs and the wave. -/

theorem outletShut_congr {d e : Dev} (h : e.lanes = d.lanes) : outletShut e = outletShut d := by
  rw [outletShut, quadsOn, enablesOn, h]
  rfl

theorem requestOpen_kept (n : Nat) (d : Dev) : LinkKept [.lanes, .saf, .veh] d (requestOpen n d) :=
  .of_only (requestOpen_only n d) rfl rfl

theorem waveNow_kept (c : Clk) (d : Dev) : LinkKept [.lanes, .saf, .veh] d (waveNow c d) :=
  .of_only (waveNow_only c d) rfl rfl

theorem openOutlet_kept (n : Nat) (d : Dev) : LinkKept [.lanes, .veh, .ses, .dc, .saf] d (openOutlet n d) := by
  refine .of_only (openOutlet_only n d) ?_ ?_ <;> unfold openOutlet <;> split <;> rfl

theorem openOutlet_isOpen (n : Nat) (d : Dev) : (openOutlet n d).ses.isOpen = d.ses.isOpen := by
  unfold openOutlet
  split <;> rfl

theorem closeOutlet_kept (n : Nat) (d : Dev) : LinkKept [.lanes, .veh, .ses, .saf] d (closeOutlet n d) :=
  .of_only (closeOutlet_only n d) rfl rfl

/-! The end and the start of a session. -/

theorem closeSession_veh (s : State) (cause : Nat) (d : Dev) :
    (closeSession s cause (sessionEndedEv s cause) d).veh = (clearSession s.clk.frame d).veh := by
  obtain ⟨bal, h⟩ := closeSession_eq s cause (sessionEndedEv s cause) d
  have hveh : (balanceLog d.ses.number bal (sessionEndedEv s cause (closingRecord s cause d))).veh = d.veh :=
    ((balanceLog_only d.ses.number bal _ .veh (by decide)).trans (sessionEndedEv_only s cause _ .veh (by decide))).trans
      (closingRecord_only s cause d .veh (by decide))
  rw [h, clearSession, clearSession, ← hveh]
  rfl

theorem endSession_kept (s : State) (cause : Nat) (d : Dev) :
    LinkKept [.lanes, .pow, .ses, .led, .log, .acs, .keys, .dc, .veh, .saf] d (endSession s cause d) := by
  refine ⟨endSession_only s cause d, (Grows.endSession s cause d).now, ?_, ?_⟩
  · unfold endSession
    split
    · rw [endMode_only _ _ .veh (by decide), closeSession_veh]
      rfl
    · rfl
  · obtain ⟨o, r, h⟩ := endSession_lanes s cause d
    rw [h]

/-- The end of a session closes no outlet. -/
theorem outletShut_endSession {d : Dev} (hd : d.lanes.dispute = none) (hs : outletShut d = false) (s : State) (cause : Nat) :
    outletShut (endSession s cause d) = false := by
  unfold endSession
  split
  · rw [outletShut_congr (endMode_only _ _ .lanes (by decide)),
      outletShut_congr (closeSession_only s cause _ .lanes (by decide))]
    exact outletShut_requestOpen hd _
  · exact hs

theorem driveLock_only (n : Nat) (toLock : Bool) (d : Dev) : DevOnly [.sw] d (driveLock n toLock d) := by
  unfold driveLock driveNow
  refine .ite (fun _ => .refl _ _) fun _ => .ite (fun _ => ?_) fun _ => .refl _ _
  exact DevOnly.trans (by simp [devOnly_iff]) (DevOnly.when fun _ => by simp [devOnly_iff, driveCut, driveStop])

/-- The lock's release is noted in the session, and drives the lock. -/
theorem releaseLock_eq (n : Nat) (d : Dev) : ∃ u e, DevOnly [.sw] { d with ses := { d.ses with unlockDue := u } } e ∧
    releaseLock n d = e := by
  unfold releaseLock
  split
  · refine ⟨false, _, ?_, rfl⟩
    exact .ite (fun _ => .refl _ _) fun _ => driveLock_only _ _ _
  · exact ⟨d.ses.unlockDue, _, .refl _ _, rfl⟩

theorem releaseLock_ses (n : Nat) (d : Dev) : ∃ u, (releaseLock n d).ses = { d.ses with unlockDue := u } := by
  obtain ⟨u, e, he, h⟩ := releaseLock_eq n d
  exact ⟨u, by rw [h, he .ses (by decide)]⟩

theorem releaseLock_only (n : Nat) (d : Dev) : DevOnly [.ses, .sw] d (releaseLock n d) := by
  obtain ⟨u, e, he, h⟩ := releaseLock_eq n d
  rw [h]
  exact DevOnly.then (ps := [.ses]) (by simp [devOnly_iff]) he

theorem releaseLock_kept (n : Nat) (d : Dev) : LinkKept [.ses, .sw] d (releaseLock n d) :=
  .of_only (releaseLock_only n d) (by rw [releaseLock_only n d .veh (by decide)])
    (by rw [releaseLock_only n d .lanes (by decide)])

theorem takeAuth_kept (src means : Nat) (id : List Byte) (n : Nat) (d : Dev) :
    LinkKept [.log, .led, .veh, .ses] d (takeAuth src means id n d) := by
  obtain ⟨honly, hgrows, hveh, -⟩ := takeAuth_taken src means id n d
  exact ⟨honly, hgrows.now, by rw [hveh]; rfl, by rw [honly .lanes (by decide)]⟩

theorem startSession_kept (s : State) (d : Dev) :
    LinkKept [.pow, .log, .metr, .led, .veh, .ses, .dc, .saf, .sw, .keys] d (startSession s d) := by
  unfold startSession
  extract_lets n number free net _ ses _ _ _ _ x y z w v
  have hx : LinkKept [.metr, .led, .veh, .ses, .dc, .saf] d x := .of_only (by simp [devOnly_iff, x]) rfl rfl
  have hy : LinkKept [.led, .keys] x y := .of_only (by simp [devOnly_iff, y, drawNmk, onRecord]) rfl rfl
  have hz : LinkKept [.log, .led] y z :=
    ⟨by simp [devOnly_iff, z, Dev.ckptDue], List.subset_append_left _ _, rfl, rfl⟩
  have hw : LinkKept [.pow] z w := .of_only (by simp [devOnly_iff, w, Dev.reqMode]) rfl rfl
  have hv : LinkKept [.log, .led, .veh, .ses] w v := .ite (fun _ => takeAuth_kept ..) fun _ => .refl _ _
  have hlock := driveLockNext_only true v
  have hu : LinkKept [.sw] v (driveLockNext true v) :=
    .of_only hlock (by rw [hlock .veh (by decide)]) (by rw [hlock .lanes (by decide)])
  have hxy : LinkKept [.metr, .led, .veh, .ses, .dc, .saf, .keys] d y := hx.then hy
  have hyw : LinkKept [.pow, .log, .led] y w := hz.then hw
  have hwu : LinkKept [.log, .led, .veh, .ses, .sw] w (driveLockNext true v) := hv.then hu
  have hxw : LinkKept [.pow, .log, .metr, .led, .veh, .ses, .dc, .saf, .keys] d w := hxy.then hyw
  exact hxw.then hwu

theorem decideSession_kept (s : State) (d : Dev) :
    LinkKept [.pow, .log, .metr, .led, .veh, .ses, .dc, .saf, .sw, .keys] d (decideSession s d) := by
  unfold decideSession
  refine .ite (fun _ => .ite (fun _ => startSession_kept s d) fun _ => .ite (fun _ => .refl _ _) fun _ => ?_) fun _ => .refl _ _
  exact ⟨by simp [devOnly_iff], List.subset_append_left _ _, rfl, rfl⟩

/-- A session starts in Ready alone (R250). -/
theorem decideSession_unready {s : State} (h : s.clk.mode ≠ .ready) (d : Dev) : decideSession s d = d :=
  if_neg fun ⟨_, _, hready, _⟩ => h hready

/-! The limits. -/

theorem limitStep_kept (s : State) (d : Dev) : LinkKept [.lanes, .log, .veh, .ses, .saf] d (limitStep s d) := by
  obtain ⟨honly, hgrows, ⟨q, l, a, hveh⟩, -⟩ := limitStep_taken s d
  refine ⟨honly, hgrows.now, by rw [hveh]; rfl, ?_⟩
  obtain ⟨e, -, h⟩ := limitStep_eq s d
  rw [h]
  obtain h | ⟨o, h⟩ | ⟨o, st, x, h⟩ := pauseStep_cases s { d with ses := (limitStack s.regs.tariff e).ses }
  · rw [h]
  · rw [h]
  · rw [h]
    rfl

theorem limitStep_isOpen (s : State) (d : Dev) : (limitStep s d).ses.isOpen = d.ses.isOpen := by
  obtain ⟨e, he, h⟩ := limitStep_eq s d
  obtain ⟨ls, i, p, b, x, y, hses⟩ := limitStack_ses s.regs.tariff e
  have hstack : (limitStack s.regs.tariff e).ses.isOpen = d.ses.isOpen := by rw [hses, he .ses (by decide)]
  rw [h, ← hstack]
  obtain h | ⟨o, h⟩ | ⟨o, st, x, h⟩ := pauseStep_cases s { d with ses := (limitStack s.regs.tariff e).ses }
  · rw [h]
  · rw [h]
  · rw [h, waveNow_only _ _ .ses (by decide)]
    rfl

/-! Trips (R269 to R274, R291, R298). -/

/-- Behind a trip latch the pilot stays forced to F (R270). -/
theorem requestOpen_forced {d : Dev} (h : d.saf.trips ≠ 0) (n : Nat) : (requestOpen n d).veh.applied = .forceF := by
  have ho : (latchedNext { d with lanes := { d.lanes with request := d.lanes.request &&& 0b100#3 } }).getLsbD 2 = true := by
    rw [show latchedNext _ = outSafe from requestOpen_tripped h n]
    decide
  exact if_pos ho

theorem endSession_forced {s : State} {d : Dev} (ht : d.saf.trips ≠ 0) (ha : d.veh.applied = .forceF) (cause : Nat) :
    (endSession s cause d).veh.applied = .forceF := by
  unfold endSession
  split
  · rw [endMode_only _ _ .veh (by decide), closeSession_veh]
    exact requestOpen_forced ht s.clk.frame
  · exact ha

/-- A trip of a function that is not latched is logged and ends the session. -/
theorem trip_fresh {f : Nat} {d : Dev} (h : d.saf.trips.getLsbD f = false) (s : State) (tier : Nat) (value : Int)
    (sBit : Option Nat) : trip s f tier value sBit d =
      endSession s EndCause.trip (tripLogged s f tier value sBit (tripHeld s.clk.frame f d)) := by
  unfold trip
  rw [h]
  cases sBit <;> rfl

/-- What a trip logs, and the cause that its class sets (R298). -/
theorem tripLogged_finds (s : State) (f tier : Nat) (value : Int) (sBit : Option Nat) (d : Dev) :
    (∃ x, Ev.of Src.serge Event.SAFETY_TRIPPED (BitVec.ofNat 8 f :: x) ∈ (tripLogged s f tier value sBit d).log.now) ∧
    (sBit.isSome = true → (tripLogged s f tier value sBit d).pow.causes.getLsbD Cause.safetyLatch = true) ∧
    (sBit.isSome = false → s.clk.mode = .ready ∨ s.clk.mode = .session ∨ s.clk.mode = .degraded →
      (tripLogged s f tier value sBit d).pow.causes.getLsbD Cause.safetyTrip = true) := by
  unfold tripLogged
  extract_lets y z
  have hz : ∃ x, Ev.of Src.serge Event.SAFETY_TRIPPED (BitVec.ofNat 8 f :: x) ∈ z.log.now :=
    ⟨_, List.mem_append_right _ (List.mem_singleton_self _)⟩
  cases sBit with
  | some k =>
    refine ⟨by rw [Dev.safeStop_log]; exact hz, fun _ => ?_, nofun⟩
    dsimp only
    rw [Dev.safeStop_causes]
    exact cause_or_self _ (by decide)
  | none =>
    dsimp only
    by_cases hm : s.clk.mode = .ready ∨ s.clk.mode = .session ∨ s.clk.mode = .degraded
    · rw [if_pos hm]
      refine ⟨by rw [Dev.safeStop_log]; exact hz, nofun, fun _ _ => ?_⟩
      rw [Dev.safeStop_causes]
      exact cause_or_self _ (by decide)
    · rw [if_neg hm]
      exact ⟨hz, nofun, fun _ h => absurd h hm⟩

/-- A trip of a function, of class S where it marks a fault of that class and of class H elsewhere (R268 to R274, R298). -/
theorem trip_tripped {s : State} {d : Dev} {f : Nat} (hf : f < 16) (hd : d.saf.trips = s.dev.saf.trips) (tier : Nat)
    (value : Int) (sBit : Option Nat) : Tripped f sBit.isSome s { s with dev := trip s f tier value sBit d } := by
  obtain ⟨-, -, hout, hlatch⟩ := trip_leaves s hf tier value sBit d
  have hlast := tripHeld_leaves s.clk.frame f d
  obtain ⟨lonly, -, llatch⟩ := tripLogged_keeps s f tier value sBit (tripHeld s.clk.frame f d)
  have htrips : (tripLogged s f tier value sBit (tripHeld s.clk.frame f d)).saf.trips ≠ 0 := by
    rw [show (tripLogged s f tier value sBit (tripHeld s.clk.frame f d)).saf.trips = _ from
      congrArg Prod.fst (llatch.trans hlast.latches)]
    exact or_bitAt_ne_zero _ hf
  have hforced : (tripLogged s f tier value sBit (tripHeld s.clk.frame f d)).veh.applied = .forceF := by
    rw [lonly .veh (by decide)]
    rfl
  refine ⟨hout, ?_, ?_, fun hclear => ?_, rfl, rfl⟩
  · show (trip s f tier value sBit d).veh.applied = .forceF
    obtain h | h := trip_cases s f tier value sBit d <;> rw [h]
    · rfl
    · exact endSession_forced htrips hforced _
  · show (trip s f tier value sBit d).saf.trips.getLsbD f = true
    rw [show (trip s f tier value sBit d).saf.trips = _ from congrArg Prod.fst hlatch]
    simp [bitAt, hf]
  · rw [← hd] at hclear
    rw [trip_fresh hclear]
    obtain ⟨⟨x, hx⟩, hsafety, htrip⟩ := tripLogged_finds s f tier value sBit (tripHeld s.clk.frame f d)
    have hgrows := Grows.endSession s EndCause.trip (tripLogged s f tier value sBit (tripHeld s.clk.frame f d))
    exact ⟨endSession_closed _ _ _, ⟨x, hgrows.now hx⟩, fun h => hgrows.causes _ (hsafety h),
      fun h hm => hgrows.causes _ (htrip h hm)⟩

end Sys2Proof.Machine

end

section
/-!
PROOF. The pilot, the cable and the link (R240 to R245, R293).
-/

namespace Sys2Proof.Machine

/-! PILOT_STATE_ACCEPTED (R241, R242, R250, R255). -/

/-- An accepted state as it is noted and logged, before what it does. -/
def pilotNoted (n : Nat) (st : PilotSt) (d : Dev) : Dev :=
  let lost (x : PilotSt) : Bool := decide (x = .e) || decide (x = .invalid)
  ({ d with
    veh := { d.veh with
      st := st, stAt := if lost d.veh.st && lost st then d.veh.stAt else n
      stateCount := d.veh.stateCount + 1, noOfferLogged := false }
    saf := if st = .a then { d.saf with negBad := 0 } else d.saf } : Dev).raise Src.vehicle Event.PILOT_STATE_ACCEPTED
    (leBytes 1 (pilotCode d.veh.st) ++ leBytes 1 (pilotCode st) ++ leBytes 1 (waveCode d.veh.applied))

theorem pilotNoted_only (n : Nat) (st : PilotSt) (d : Dev) : DevOnly [.log, .veh, .saf] d (pilotNoted n st d) := by
  simp [devOnly_iff, pilotNoted]

/-- E and INVALID are one condition, whose time runs on from the one to the other (R242). -/
theorem pilotNoted_stAt (n : Nat) (st : PilotSt) (d : Dev) : (pilotNoted n st d).veh.stAt =
    if (d.veh.st = .e ∨ d.veh.st = .invalid) ∧ (st = .e ∨ st = .invalid) then d.veh.stAt else n := by
  simp [pilotNoted]

/-- The session's state once no vehicle is there: the next one may start (R250, R251, R256). -/
def idleAgain (d : Dev) : Dev :=
  let e := { d with
    ses := { d.ses with waitA := false, startPending := false, refused := 0 }
    veh := { d.veh with extOnly := false } }
  if e.ses.isOpen then e else { e with ses := { e.ses with st := idleState e } }

theorem idleAgain_kept (d : Dev) : LinkKept [.ses, .veh] d (idleAgain d) := by
  refine .of_only ?_ ?_ ?_ <;> unfold idleAgain <;> dsimp only <;> split
  · simp [devOnly_iff]
  · simp [devOnly_iff]
  all_goals rfl

theorem idleAgain_ses (d : Dev) :
    (idleAgain d).ses.isOpen = d.ses.isOpen ∧ (idleAgain d).ses.startPending = false := by
  unfold idleAgain
  dsimp only
  split <;> exact ⟨rfl, rfl⟩

/-- State A: the outlet opens, the session ends, the next may start (R242, R250, R255, R256). -/
def vehicleGone (s : State) (d : Dev) : Dev :=
  releaseLock s.clk.frame (idleAgain (endSession s EndCause.vehicle (requestOpen s.clk.frame d)))

theorem pilotAccept_gone (s : State) (d : Dev) : pilotAccept s .a d = vehicleGone s (pilotNoted s.clk.frame .a d) := rfl

/-- A vehicle that comes in Ready asks for a session (R250). -/
def startAsked (s : State) (old st : PilotSt) (d : Dev) : Dev :=
  if old = .a ∧ vehConnected st ∧ s.clk.mode = .ready then { d with ses := { d.ses with startPending := true } } else d

/-- The link waits for SLAC anew (R244). -/
def slacWaits (n : Nat) (d : Dev) : Dev :=
  { d with veh := { d.veh with link := .slac, slac := .waiting, slacSince := n + 8 - n % 8 } }

/-- B lets a link that is off try SLAC again (R244). -/
def slacAgain (s : State) (st : PilotSt) (d : Dev) : Dev :=
  if st = .b ∧ d.veh.link = .off then waveNow s.clk (slacWaits s.clk.frame d) else d

/-- The outlet follows the accepted state (R242, R253). -/
def outletFollows (s : State) (d : Dev) : Dev :=
  if pilotOpens d then openOutlet s.clk.frame d
  else if closeDue s d then closeOutlet s.clk.frame d
  else if outletShut d ∨ d.veh.noOfferLogged ∨ closeFault s d = 0 then d
  else ({ d with veh := { d.veh with noOfferLogged := true } }).raise Src.vehicle Event.C_WITHOUT_OFFER
    (leBytes 1 (closeFault s d))

/-- What precedes the outlet's following: the request for a session, SLAC, and the decision on a session. -/
def vehicleThere (s : State) (old st : PilotSt) (d : Dev) : Dev :=
  decideSession s (slacAgain s st (startAsked s old st d))

theorem pilotAccept_there {st : PilotSt} (h : st ≠ .a) (s : State) (d : Dev) : pilotAccept s st d =
    outletFollows s (vehicleThere s d.veh.st st (pilotNoted s.clk.frame st d)) := by
  cases st
  case a => exact absurd rfl h
  all_goals rfl

/-- The parts that an accepted state may change. -/
abbrev pilotParts : List Part := [.lanes, .pow, .acs, .log, .metr, .led, .veh, .ses, .dc, .saf, .sw, .keys]

theorem vehicleGone_kept (s : State) (d : Dev) : LinkKept pilotParts d (vehicleGone s d) := by
  have hend : LinkKept [.lanes, .pow, .ses, .led, .log, .acs, .keys, .dc, .veh, .saf] d
      (endSession s EndCause.vehicle (requestOpen s.clk.frame d)) := (requestOpen_kept _ d).then (endSession_kept _ _ _)
  have hidle : LinkKept [.ses, .veh, .sw] _ (vehicleGone s d) := (idleAgain_kept _).then (releaseLock_kept _ _)
  exact hend.then hidle

/-- State A leaves no session and none asked for, and an outlet that is open unless a dispute holds it. -/
theorem vehicleGone_leaves (s : State) (d : Dev) :
    (vehicleGone s d).ses.isOpen = false ∧ (vehicleGone s d).ses.startPending = false ∧
      (vehicleGone s d).saf.negBad = d.saf.negBad ∧ (d.lanes.dispute = none → outletShut (vehicleGone s d) = false) := by
  unfold vehicleGone
  generalize hr : requestOpen s.clk.frame d = r
  generalize he : endSession s EndCause.vehicle r = e
  have hclosed : e.ses.isOpen = false := by rw [← he, endSession_closed]
  obtain ⟨hopen, hpending⟩ := idleAgain_ses e
  have hidle := (idleAgain_kept e).only
  have hlock := releaseLock_only s.clk.frame (idleAgain e)
  obtain ⟨u, hses⟩ := releaseLock_ses s.clk.frame (idleAgain e)
  refine ⟨by rw [hses, hopen, hclosed], by rw [hses, hpending], ?_, fun hd => ?_⟩
  · rw [hlock .saf (by decide), hidle .saf (by decide)]
    have hlast : e.saf.lasting = d.saf.lasting := by rw [← he, ← hr, endSession_lasting, requestOpen_lasting]
    have hneg : e.saf.lasting.negBad = d.saf.lasting.negBad := by rw [hlast]
    exact hneg
  · rw [outletShut_congr (hlock .lanes (by decide)), outletShut_congr (hidle .lanes (by decide)), ← he]
    refine outletShut_endSession ?_ ?_ _ _ <;> rw [← hr]
    · exact hd
    · exact outletShut_requestOpen hd _

theorem startAsked_kept (s : State) (old st : PilotSt) (d : Dev) : LinkKept [.ses] d (startAsked s old st d) :=
  .ite (fun _ => .of_only (by simp [devOnly_iff]) rfl rfl) fun _ => .refl _ _

theorem slacAgain_kept (s : State) (st : PilotSt) (d : Dev) : LinkKept [.lanes, .saf, .veh] d (slacAgain s st d) := by
  have hwaits : LinkKept [.veh] d (slacWaits s.clk.frame d) := .of_only (by simp [devOnly_iff, slacWaits]) rfl rfl
  exact .ite (fun _ => hwaits.then (waveNow_kept _ _)) fun _ => .refl _ _

theorem vehicleThere_kept (s : State) (old st : PilotSt) (d : Dev) :
    LinkKept [.lanes, .pow, .log, .metr, .led, .veh, .ses, .dc, .saf, .sw, .keys] d (vehicleThere s old st d) := by
  have hasked : LinkKept [.lanes, .saf, .veh, .ses] d (slacAgain s st (startAsked s old st d)) :=
    (startAsked_kept s old st d).then (slacAgain_kept s st _)
  exact hasked.then (decideSession_kept s _)

/-- Outside Ready no session starts. -/
theorem vehicleThere_isOpen {s : State} (h : s.clk.mode ≠ .ready) (old st : PilotSt) (d : Dev) :
    (vehicleThere s old st d).ses.isOpen = d.ses.isOpen := by
  rw [vehicleThere, decideSession_unready h, (slacAgain_kept s st _).only .ses (by decide), startAsked,
    if_neg fun k => h k.2.2]

theorem outletFollows_kept (s : State) (d : Dev) : LinkKept [.lanes, .log, .veh, .ses, .dc, .saf] d (outletFollows s d) := by
  refine .ite (fun _ => (openOutlet_kept _ d).mono) fun _ => .ite (fun _ => (closeOutlet_kept _ d).mono) fun _ =>
    .ite (fun _ => .refl _ _) fun _ => ?_
  exact ⟨by simp [devOnly_iff], List.subset_append_left _ _, rfl, rfl⟩

theorem outletFollows_isOpen (s : State) (d : Dev) : (outletFollows s d).ses.isOpen = d.ses.isOpen := by
  unfold outletFollows
  split
  · exact openOutlet_isOpen _ d
  · split
    · rfl
    · split <;> rfl

/-- A state in which the vehicle wants no energy opens the outlet, unless a dispute holds it (R242). -/
theorem outletFollows_opens {d : Dev} (hc : d.veh.st ≠ .c) (hv : d.veh.st ≠ .d) (hd : d.lanes.dispute = none) (s : State) :
    outletShut (outletFollows s d) = false := by
  have hopens : pilotOpens d = true := by simp [pilotOpens, wantsEnergy, hc, hv]
  rw [outletFollows, if_pos hopens]
  exact outletShut_openOutlet hd _

/-- What is kept from the note of an accepted state to the end of its row. -/
theorem pilotAccept_kept (s : State) (st : PilotSt) (d : Dev) :
    LinkKept pilotParts (pilotNoted s.clk.frame st d) (pilotAccept s st d) := by
  by_cases h : st = .a
  · subst h
    rw [pilotAccept_gone]
    exact vehicleGone_kept s _
  · rw [pilotAccept_there h]
    exact (vehicleThere_kept s _ _ _).then (outletFollows_kept s _)

/-- An accepted state that does not want energy leaves the outlet open, unless a dispute holds it (R242). -/
theorem pilotAccept_opens {s : State} {st : PilotSt} {d : Dev} (hd : d.lanes.dispute = none) (hc : st ≠ .c) (hv : st ≠ .d) :
    outletShut (pilotAccept s st d) = false := by
  by_cases h : st = .a
  · subst h
    obtain ⟨-, -, -, hopen⟩ := vehicleGone_leaves s (pilotNoted s.clk.frame .a d)
    rw [pilotAccept_gone]
    exact hopen hd
  · have hthere := vehicleThere_kept s d.veh.st st (pilotNoted s.clk.frame st d)
    have hst : (vehicleThere s d.veh.st st (pilotNoted s.clk.frame st d)).veh.st = st := congrArg Accepted.st hthere.accepted
    rw [pilotAccept_there h]
    exact outletFollows_opens (by rwa [hst]) (by rwa [hst]) (hthere.dispute.trans hd) s

theorem pilotAccept_isOpen {s : State} {st : PilotSt} (hr : s.clk.mode ≠ .ready) (h : st ≠ .a) (d : Dev) :
    (pilotAccept s st d).ses.isOpen = d.ses.isOpen := by
  rw [pilotAccept_there h, outletFollows_isOpen, vehicleThere_isOpen hr]
  rfl

/-! CABLE_CHANGED (R243, R263). -/

/-- The accepted rating as it is noted and logged. -/
def cableNoted (d : Dev) : Dev :=
  ({ d with veh := { d.veh with cable := d.veh.cableCand } } : Dev).raise Src.vehicle Event.CABLE_CHANGED
    (leBytes 4 d.veh.ppRes ++ leBytes 4 d.veh.cableCand)

/-- What follows a rating once it is in the limits: none ends the session, INVALID opens the outlet. -/
def cableFollowed (s : State) (d : Dev) : Dev :=
  if d.veh.cable = 0 then endSession s EndCause.vehicle d
  else if d.veh.cable = cableInvalid ∧ d.ses.isOpen then openOutlet s.clk.frame d else d

theorem cableAccept_eq (s : State) (d : Dev) : cableAccept s d = cableFollowed s (limitStep s (cableNoted d)) := rfl

theorem cableFollowed_kept (s : State) (d : Dev) :
    LinkKept [.lanes, .pow, .ses, .led, .log, .acs, .keys, .dc, .veh, .saf] d (cableFollowed s d) :=
  .ite (fun _ => endSession_kept s _ d) fun _ => .ite (fun _ => (openOutlet_kept _ d).mono) fun _ => .refl _ _

theorem limitStep_cable (s : State) (d : Dev) : (limitStep s (cableNoted d)).veh.cable = d.veh.cableCand :=
  congrArg Accepted.cable (limitStep_kept s (cableNoted d)).accepted

/-! SLAC and the link (R244, R245). -/

/-- The vehicle link after a failed SLAC, but for the wave: basic charging on AC with HLC_FALLBACK, off elsewhere (R244). -/
theorem slacFail_veh (s : State) (cause : Nat) (d : Dev) : ∃ q l a, (slacFail s cause d).veh = { d.veh with
    slac := .failed, link := if (!dcKind d && decide (d.nat Param.HLC_FALLBACK = 1)) = true then .basic else .off
    proto := none, v2g := false, evKnown := false, request := q, latched := l, applied := a } := by
  unfold slacFail
  dsimp only
  generalize he : Dev.raise _ _ _ _ = e
  obtain ⟨-, -, ⟨q, l, a, hv⟩, -⟩ := limitStep_taken s e
  obtain ⟨q', l', a', hw⟩ := waveNow_veh s.clk (limitStep s e)
  exact ⟨q', l', a', by rw [hw, hv, ← he, Dev.raise_veh]⟩

section
variable (s : State) (evccid : BitVec 48) {attenDb : Nat} {seqOk : Bool} (d : Dev)

theorem slacMatch_sequence (h : seqOk = false) :
    slacMatch s evccid attenDb seqOk d = slacFail s 2 { d with veh := { d.veh with atten := attenDb } } :=
  if_pos (by simp [h])

theorem slacMatch_attenuation (h : seqOk = true) (ha : d.nat Param.SLAC_ATTEN_MAX < attenDb) :
    slacMatch s evccid attenDb seqOk d = slacFail s 1 { d with veh := { d.veh with atten := attenDb } } :=
  (if_neg (by simp [h])).trans (if_pos ha)

theorem slacMatch_matched (h : seqOk = true) (ha : attenDb ≤ d.nat Param.SLAC_ATTEN_MAX) :
    slacMatch s evccid attenDb seqOk d = ({ d with veh := { d.veh with
      atten := attenDb, slac := .matched, link := .hlc, evccid := evccid, beaconMisses := 0
      beaconAt := s.clk.frame } } : Dev).raise Src.vehicle Event.SLAC_MATCHED
        (leBytes 8 evccid.toNat ++ leBytes 4 attenDb) :=
  (if_neg (by simp [h])).trans (if_neg (Nat.not_lt.2 ha))

end

/-- What SLAC leaves where it fails after the sounding, by its cause (R244). -/
theorem slacFail_sounded (s : State) (cause attenDb : Nat) :
    let t := s.onDev fun d => slacFail s cause { d with veh := { d.veh with atten := attenDb } }
    t.dev.veh.atten = attenDb ∧ t.dev.veh.slac = .failed ∧ t.dev.veh.link ≠ .hlc ∧
      Logged Src.vehicle Event.SLAC_FAILED (leBytes 1 cause) t ∧ OnlyChanges [.lanes, .log, .veh, .ses, .saf] s t := by
  obtain ⟨q, l, a, hv⟩ := slacFail_veh s cause { s.dev with veh := { s.dev.veh with atten := attenDb } }
  obtain ⟨honly, hlog, hlink, -⟩ := slacFail_failed s cause { s.dev with veh := { s.dev.veh with atten := attenDb } }
  exact ⟨by rw [State.onDev_dev, hv], by rw [State.onDev_dev, hv], hlink, hlog,
    .onDev (DevOnly.trans (by simp [devOnly_iff]) honly)⟩

/-- The vehicle link as its loss leaves it, before the wave (R245). -/
def linkDropped (n : Nat) (d : Dev) : Dev :=
  { d with veh := { d.veh with
      link := if dcKind d then .slac else .basic, slac := if dcKind d then .waiting else .idle, slacSince := n + 8 - n % 8
      v2g := false, proto := none, sdp := none, powerOn := false, lastLoop := none, evKnown := false, beaconMisses := 0
      linkLost := d.veh.linkLost + 1 } }

/-- On DC with the enables on the current is ramped down (R245). -/
def lossRamped (n : Nat) (d : Dev) : Dev :=
  if dcKind d ∧ enablesOn d then rampDown n 0 (linkDropped n d) else linkDropped n d

/-- The loss as it is logged. -/
def lossLogged (n : Nat) (c : LinkLoss) (d : Dev) : Dev :=
  (lossRamped n d).raise Src.vehicle Event.VPLC_LINK_LOST
    (leBytes 1 (lossCode c) ++ leBytes 1 (if dcKind d then 1 else 0))

theorem linkLost_eq (s : State) (c : LinkLoss) (d : Dev) :
    linkLost s c d = waveNow s.clk (limitStep s (lossLogged s.clk.frame c d)) := rfl

theorem lossLogged_only (n : Nat) (c : LinkLoss) (d : Dev) : DevOnly [.log, .veh, .dc] d (lossLogged n c d) := by
  refine DevOnly.then (ps := [.veh, .dc]) (.ite (fun _ => ?_) fun _ => ?_) (.raise _ _ _ _)
  · simp [devOnly_iff, rampDown, linkDropped]
  · simp [devOnly_iff, linkDropped]

theorem lossLogged_veh (n : Nat) (c : LinkLoss) (d : Dev) : (lossLogged n c d).veh = (linkDropped n d).veh := by
  rw [lossLogged, Dev.raise_veh, lossRamped]
  split <;> rfl

/-- What the loss of the link leaves (R245). -/
structure LinkGone (n : Nat) (c : LinkLoss) (d t : Dev) : Prop where
  only : DevOnly [.lanes, .log, .veh, .ses, .dc, .saf] d t
  veh : ∃ q l a, t.veh = { (linkDropped n d).veh with request := q, latched := l, applied := a }
  ramp : dcKind d = true → enablesOn d = true → t.dc.phase = 4 ∧ t.dc.targetI = 0 ∧ t.dc.rampStart = some n
  logged : Ev.of Src.vehicle Event.VPLC_LINK_LOST (leBytes 1 (lossCode c) ++ leBytes 1 (if dcKind d then 1 else 0)) ∈ t.log.now

theorem linkLost_gone (s : State) (c : LinkLoss) (d : Dev) : LinkGone s.clk.frame c d (linkLost s c d) := by
  rw [linkLost_eq]
  obtain ⟨lonly, lgrows, ⟨q, l, a, hv⟩, -⟩ := limitStep_taken s (lossLogged s.clk.frame c d)
  obtain ⟨q', l', a', hw⟩ := waveNow_veh s.clk (limitStep s (lossLogged s.clk.frame c d))
  have hwave := waveNow_only s.clk (limitStep s (lossLogged s.clk.frame c d))
  refine ⟨?_, ⟨q', l', a', by rw [hw, hv, lossLogged_veh]⟩, fun hk he => ?_, ?_⟩
  · have hlimits : DevOnly [.lanes, .log, .veh, .ses, .dc, .saf] d (limitStep s (lossLogged s.clk.frame c d)) :=
      (lossLogged_only _ c d).then lonly
    exact hlimits.then hwave
  · rw [hwave .dc (by decide), lonly .dc (by decide), lossLogged, Dev.raise_dc, lossRamped, if_pos ⟨hk, he⟩]
    exact ⟨rfl, rfl, rfl⟩
  · rw [hwave .log (by decide)]
    exact lgrows.now (List.mem_append_right _ (List.mem_singleton_self _))

end Sys2Proof.Machine

open Sys2Proof Sys2Proof.Machine

/-- Settles O44: an accepted state and an accepted rating by what is kept from their note on, the trip as any trip, and SLAC and
the link by what a match, a failure and a loss leave. -/
theorem pilotAndLinkRows : Obligations.PilotAndLinkRows := by
  unfold Obligations.PilotAndLinkRows
  refine ⟨fun st s hn hst hne => ?pilot, fun s hst hn => ?trip, fun s hn hne => ?cable, fun answered s ho hup hn => ?beacon,
    fun s ho hl hc => ?parm, fun evccid attenDb seqOk s ho hl hsl hc => ?matched, fun s ho hl hsl hn hc => ?init,
    fun c s hdue => ?lost⟩
  case pilot =>
    have hdue : pilotDue st s.dev = true := by simp [pilotDue, hn, hst, hne]
    have hkept := pilotAccept_kept s st s.dev
    refine .of_when (b := fun _ => pilotDue st s.dev) rfl hdue ⟨?_, ?_, ?_, ?_, fun ha => ?_, fun hd hc hv => ?_,
      fun hr ha => pilotAccept_isOpen hr ha _, rfl, rfl, .onDev ((pilotNoted_only _ _ _).then hkept.only)⟩
    · exact congrArg Accepted.st hkept.accepted
    · exact (congrArg Accepted.stAt hkept.accepted).trans (pilotNoted_stAt _ _ _)
    · exact congrArg Accepted.count hkept.accepted
    · exact hkept.now (List.mem_append_right _ (List.mem_singleton_self _))
    · subst ha
      obtain ⟨hopen, hpending, hneg, -⟩ := vehicleGone_leaves s (pilotNoted s.clk.frame .a s.dev)
      exact ⟨hopen, hpending, hneg⟩
    · exact (outletOpened_iff _).2 (pilotAccept_opens hd hc hv)
  case trip =>
    have hdue : pilotELong s.clk.frame s.dev = true := by simp [pilotELong, hst, hn]
    exact .of_when (b := pilotELong s.clk.frame) rfl hdue ⟨trip_tripped (by decide) rfl 2 0 none,
      .onDev ((trip_leaves s (by decide) 2 0 none s.dev).only.mono (by decide))⟩
  case cable =>
    have hdue : cableDue s.dev = true := by simp [cableDue, hn, hne]
    have hlimits := limitStep_kept s (cableNoted s.dev)
    have hfollowed := cableFollowed_kept s (limitStep s (cableNoted s.dev))
    have hcable := limitStep_cable s s.dev
    refine .of_when (b := fun _ => cableDue s.dev) rfl hdue ⟨?_, ?_, fun h0 => ?_, fun hi ho hd => ?_, .onDev ?_⟩
    · exact (congrArg Accepted.cable hfollowed.accepted).trans hcable
    · exact hfollowed.now (hlimits.now (List.mem_append_right _ (List.mem_singleton_self _)))
    · rw [State.onDev_dev, cableAccept_eq, cableFollowed, if_pos (hcable.trans h0), endSession_closed]
    · have hnot : ¬(limitStep s (cableNoted s.dev)).veh.cable = 0 := by rw [hcable, hi]; decide
      have hopen : (limitStep s (cableNoted s.dev)).ses.isOpen = true := (limitStep_isOpen _ _).trans ho
      rw [outletOpened_iff, State.onDev_dev, cableAccept_eq, cableFollowed, if_neg hnot, if_pos ⟨hcable.trans hi, hopen⟩]
      exact outletShut_openOutlet (hlimits.dispute.trans hd) _
    · have hnoted : DevOnly [.log, .veh] s.dev (cableNoted s.dev) := by simp [devOnly_iff, cableNoted]
      have hstep : DevOnly [.lanes, .log, .veh, .ses, .saf] s.dev (limitStep s (cableNoted s.dev)) := hnoted.then hlimits.only
      exact hstep.then hfollowed.only
  case beacon =>
    exact .of_when (b := fun d => d.ses.isOpen && vehModemUp d && decide (d.veh.beaconAt + 320 ≤ s.clk.frame)) rfl
      (by simp [ho, hup, hn]) ⟨rfl, .onDev (by simp [devOnly_iff])⟩
  case parm =>
    exact .of_protoWhen (b := fun d => d.ses.isOpen && decide (d.veh.link = .slac)) hc rfl (by simp [ho, hl])
      ⟨rfl, .onDev (by simp [devOnly_iff])⟩
  case matched =>
    refine .of_protoWhen (b := fun d => d.ses.isOpen && decide (d.veh.link = .slac) && decide (d.veh.slac = .sounding)) hc rfl
      (by simp [ho, hl, hsl]) ?_
    rw [State.onDev]
    by_cases hseq : seqOk = true
    · by_cases hatten : attenDb ≤ s.dev.nat Param.SLAC_ATTEN_MAX
      · rw [slacMatch_matched s evccid s.dev hseq hatten]
        exact ⟨rfl, fun _ _ => ⟨rfl, rfl, rfl, rfl, rfl⟩, fun _ h => absurd hatten (Nat.not_le.2 h),
          fun h => absurd hseq (by simp [h]), .dev (by simp [devOnly_iff])⟩
      · obtain ⟨hat, hslac, hlink, hlog, honly⟩ := slacFail_sounded s 1 attenDb
        rw [slacMatch_attenuation s evccid s.dev hseq (Nat.not_le.1 hatten)]
        exact ⟨hat, fun _ h => absurd h hatten, fun _ _ => ⟨hslac, hlink, hlog⟩, fun h => absurd hseq (by simp [h]), honly⟩
    · obtain ⟨hat, hslac, hlink, hlog, honly⟩ := slacFail_sounded s 2 attenDb
      rw [slacMatch_sequence s evccid s.dev (Bool.eq_false_iff.2 hseq)]
      exact ⟨hat, fun h => absurd h hseq, fun h => absurd h hseq, fun _ => ⟨hslac, hlink, hlog⟩, honly⟩
  case init =>
    have hdue : slacTimeoutDue s.clk.frame s.dev = true := by simp [slacTimeoutDue, ho, hl, hsl, hn]
    obtain ⟨q, l, a, hv⟩ := slacFail_veh s 0 s.dev
    obtain ⟨honly, hlog, -⟩ := slacFail_failed s 0 s.dev
    refine .of_protoWhen (b := fun _ => slacTimeoutDue s.clk.frame s.dev) hc rfl hdue ⟨?_, ?_, hlog, .onDev honly⟩
    · rw [State.onDev_dev, hv]
    · rw [State.onDev_dev, hv]
      simp [dcKind]
  case lost =>
    obtain ⟨honly, ⟨q, l, a, hv⟩, hramp, hlog⟩ := linkLost_gone s c s.dev
    refine .of_when (b := fun _ => linkLossDue s.clk.frame c s.dev) rfl hdue ⟨?_, ?_, ?_, ?_, fun hk he => ?_, ?_, .onDev honly⟩
    · rw [State.onDev_dev, hv]; rfl
    · rw [State.onDev_dev, hv]; rfl
    · rw [State.onDev_dev, hv]; rfl
    · rw [State.onDev_dev, hv]; simp [linkDropped, dcKind]
    · exact hramp ((dcKind_iff _).2 hk) he
    · have hcode : leBytes 1 (if dcKind s.dev then 1 else 0) = [if s.dev.nat Param.OUTLET_KIND = 1 then 1 else 0] := by
        by_cases hk : s.dev.nat Param.OUTLET_KIND = 1
        · rw [if_pos ((dcKind_iff _).2 hk), if_pos hk]
          rfl
        · rw [if_neg fun h => hk ((dcKind_iff _).1 h), if_neg hk]
          rfl
      rw [← hcode]
      exact hlog

end

section
/-!
SUPPORT. A trip as a row leaves it (R268 to R274): beside `trip_tripped` and `trip_leaves`, the safety state that no trip writes,
and a trip of a function that has tripped already.
-/

namespace Sys2Proof.Machine

/-- The safety state without what a trip writes of it: its latches, its log and its faults, and what a change of the outputs and
the end of a session write. -/
def Saf.untripped (x : Saf) : Saf :=
  { x.lasting with trips := 0, since := 0, tiers := [], sFaults := 0, tripLast := 0, tripFrame := none }

theorem Saf.untripped_congr {x y : Saf} (h : x.lasting = y.lasting) : x.untripped = y.untripped := by
  rw [Saf.untripped, h]
  rfl

theorem tripHeld_untripped (n f : Nat) (d : Dev) : (tripHeld n f d).saf.untripped = d.saf.untripped := by
  unfold tripHeld
  exact (Saf.untripped_congr (safeOutputs_lasting n _)).trans rfl

theorem tripLast_saf (n f tier : Nat) (x : Saf) : ∃ l k, tripLast n f tier x = { x with tripLast := l, tripFrame := k } := by
  unfold tripLast
  dsimp only
  split <;> exact ⟨_, _, rfl⟩

/-- Of the safety state the log of a trip changes SAFETY_TRIP_LAST, the tiers and the faults of class S. -/
theorem tripLogged_saf (s : State) (f tier : Nat) (value : Int) (sBit : Option Nat) (d : Dev) : ∃ ts l k sf,
    (tripLogged s f tier value sBit d).saf = { d.saf with tiers := ts, tripLast := l, tripFrame := k, sFaults := sf } := by
  obtain ⟨l, k, hlast⟩ := tripLast_saf s.clk.frame f tier d.saf
  unfold tripLogged
  dsimp only
  rw [hlast]
  split
  · rw [Dev.safeStop_saf]
    exact ⟨_, _, _, _, rfl⟩
  · split
    · rw [Dev.safeStop_saf]
      exact ⟨_, _, _, _, rfl⟩
    · exact ⟨_, _, _, _, rfl⟩

theorem tripLogged_untripped (s : State) (f tier : Nat) (value : Int) (sBit : Option Nat) (d : Dev) :
    (tripLogged s f tier value sBit d).saf.untripped = d.saf.untripped := by
  obtain ⟨ts, l, k, sf, h⟩ := tripLogged_saf s f tier value sBit d
  rw [h]
  rfl

theorem endSession_untripped (s : State) (cause : Nat) (d : Dev) : (endSession s cause d).saf.untripped = d.saf.untripped :=
  Saf.untripped_congr (endSession_lasting s cause d)

theorem trip_untripped (s : State) (f tier : Nat) (value : Int) (sBit : Option Nat) (d : Dev) :
    (trip s f tier value sBit d).saf.untripped = d.saf.untripped := by
  obtain h | h := trip_cases s f tier value sBit d <;> rw [h]
  · exact tripHeld_untripped ..
  · exact (endSession_untripped ..).trans ((tripLogged_untripped ..).trans (tripHeld_untripped ..))

/-- A trip opens no session. -/
theorem trip_closed {d : Dev} (h : d.ses.isOpen = false) (s : State) (f tier : Nat) (value : Int) (sBit : Option Nat) :
    (trip s f tier value sBit d).ses.isOpen = false := by
  obtain he | he := trip_cases s f tier value sBit d <;> rw [he]
  · exact h
  · exact endSession_closed ..

/-- A trip forces the pilot to F (R269). -/
theorem trip_forced (s : State) {f : Nat} (hf : f < 16) (tier : Nat) (value : Int) (sBit : Option Nat) (d : Dev) :
    (trip s f tier value sBit d).veh.applied = .forceF := by
  have h := trip_tripped (s := { s with dev := d }) (d := d) hf rfl tier value sBit
  exact h.2.1

/-- The parts that a row of a trip may change. -/
abbrev tripParts : List Part := [.lanes, .pow, .acs, .log, .led, .veh, .ses, .dc, .saf, .keys]

/-- What a row leaves that trips function f after a step from s to d of its own: the trip, and of that step the safety state
and the events. -/
structure TripRow (f : Nat) (classS : Bool) (s : State) (d e : Dev) : Prop where
  tripped : Tripped f classS s { s with dev := e }
  kept : e.saf.untripped = d.saf.untripped
  now : d.log.now ⊆ e.log.now
  only : DevOnly tripParts s.dev e

section
variable {s : State} {d e : Dev} {f : Nat} (hf : f < 16) (tier : Nat) (value : Int) (sBit : Option Nat)
include hf

theorem trip_row (hd : DevOnly tripParts s.dev d) (ht : d.saf.trips = s.dev.saf.trips) :
    TripRow f sBit.isSome s d (trip s f tier value sBit d) :=
  have h := trip_leaves s hf tier value sBit d
  ⟨trip_tripped hf ht tier value sBit, trip_untripped .., h.grows.now, hd.trans (h.only.mono (by decide))⟩

/-- A further trip of the function leaves a trip as it is. -/
theorem TripRow.again {classS : Bool} (h : TripRow f classS s d e) : TripRow f classS s d (trip s f tier value sBit e) := by
  obtain ⟨⟨-, -, hlatch, hfirst, -, -⟩, hkept, hnow, honly⟩ := h
  have k := trip_leaves s hf tier value sBit e
  refine ⟨⟨k.outputs, trip_forced s hf .., ?_, fun hclear => ?_, rfl, rfl⟩, (trip_untripped ..).trans hkept,
    List.Subset.trans hnow k.grows.now, honly.trans (k.only.mono (by decide))⟩
  · show (trip s f tier value sBit e).saf.trips.getLsbD f = true
    rw [show (trip s f tier value sBit e).saf.trips = _ from congrArg Prod.fst k.latches]
    simp [bitAt, hf]
  · obtain ⟨hopen, ⟨x, hx⟩, hS, hH⟩ := hfirst hclear
    exact ⟨trip_closed hopen .., ⟨x, k.grows.now hx⟩, fun h => k.grows.causes _ (hS h),
      fun h hm => k.grows.causes _ (hH h hm)⟩

theorem TripRow.when {classS : Bool} (h : TripRow f classS s d e) (c : Bool) :
    TripRow f classS s d (e.when c (trip s f tier value sBit)) := by
  cases c
  · exact h
  · exact h.again hf ..

end

end Sys2Proof.Machine

end

section
/-!
PROOF. The rows that trip a safety function (R275 to R279, R288 to R290, R292 to R294).
-/

namespace Sys2Proof.Machine

/-! The emergency stop and the enclosure (R288 to R291). -/

theorem Saf.chan_onChan (x : Saf) (i j : SafeIn) (f : SafeCh → SafeCh) :
    (x.onChan i f).chan j = if j = i then f (x.chan i) else x.chan j := by
  cases i <;> cases j <;> rfl

theorem Saf.chan_onChan_same (x : Saf) (i : SafeIn) (f : SafeCh → SafeCh) : (x.onChan i f).chan i = f (x.chan i) :=
  (x.chan_onChan i i f).trans (if_pos rfl)

theorem Saf.onChan_trips (x : Saf) (i : SafeIn) (f : SafeCh → SafeCh) : (x.onChan i f).trips = x.trips := by
  cases i <;> rfl

/-- A trip leaves the records of the inputs. -/
theorem Saf.chan_of_untripped {x y : Saf} (h : x.untripped = y.untripped) (i : SafeIn) : x.chan i = y.chan i := by
  have hchan : x.untripped.chan i = y.untripped.chan i := by rw [h]
  cases i <;> exact hchan

/-- The trip of a dual-channel input is of class S for a low input of an emergency stop that latches, of class H otherwise. -/
theorem dualTrip_row {s : State} {d : Dev} (hd : DevOnly tripParts s.dev d) (ht : d.saf.trips = s.dev.saf.trips) (door : Bool)
    (tier : Nat) : TripRow (if door then 5 else 4)
      (!door && decide (s.dev.nat Param.ESTOP_LATCH = 1) && decide (tier ≤ 2)) s d (dualTrip s door tier d) := by
  have hf : (if door then 5 else 4) < 16 := by cases door <;> decide
  have hlatch : d.nat Param.ESTOP_LATCH = s.dev.nat Param.ESTOP_LATCH := Dev.nat_congr (hd .par (by decide)) _
  have k := trip_row hf tier 0
    (if !door && decide (d.nat Param.ESTOP_LATCH = 1) && decide (tier ≤ 2) then some SBit.estop else none) hd ht
  rw [hlatch] at k
  unfold dualTrip
  rw [hlatch]
  cases hc : (!door && decide (s.dev.nat Param.ESTOP_LATCH = 1) && decide (tier ≤ 2)) <;> rw [hc] at k <;> exact k

/-- The channel that is low first while the other is high is noted, for the discrepancy (R289). -/
def lowFirstNoted (i : SafeIn) (otherHigh : Bool) (x : Saf) : Saf :=
  let ch := if safeInB i then 1 else 0
  if otherHigh then (if safeInDoor i then { x with lowFirstD := ch } else { x with lowFirstE := ch }) else x

theorem lowFirstNoted_keeps (i : SafeIn) (otherHigh : Bool) (x : Saf) :
    (lowFirstNoted i otherHigh x).trips = x.trips ∧ (lowFirstNoted i otherHigh x).chan i = x.chan i := by
  cases otherHigh <;> cases i <;> exact ⟨rfl, rfl⟩

theorem discRelease_keeps (i : SafeIn) (x : Saf) :
    (discRelease x).trips = x.trips ∧ (discRelease x).chan i = x.chan i := by
  cases i <;> exact ⟨rfl, rfl⟩

/-- A low level as SERGE accepts it, before its trip (R288, R289). -/
theorem inputLow_eq (s : State) (i : SafeIn) (d : Dev) : ∃ otherHigh, inputLow s i d = dualTrip s (safeInDoor i)
    ((if safeInB i then 1 else 0) + 1) { d with saf := discRelease (lowFirstNoted i otherHigh
      (d.saf.onChan i fun c => { c with level := false })) } := ⟨_, rfl⟩

/-- A discrepancy as it is latched and logged, before its trip (R289). -/
def discNoted (door : Bool) (d : Dev) : Dev :=
  ({ d with saf := if door then { d.saf with discLatD := true } else { d.saf with discLatE := true } } : Dev).raise Src.serge
    Event.DISCREPANCY (leBytes 1 (if door then 5 else 4) ++ leBytes 1 (if door then d.saf.lowFirstD else d.saf.lowFirstE))

theorem discNoted_only (door : Bool) (d : Dev) : DevOnly tripParts d (discNoted door d) := by simp [devOnly_iff, discNoted]

theorem discNoted_trips (door : Bool) (d : Dev) : (discNoted door d).saf.trips = d.saf.trips := by cases door <;> rfl

theorem discNoted_latched (door : Bool) (d : Dev) :
    (if door then (discNoted door d).saf.discLatD else (discNoted door d).saf.discLatE) = true := by cases door <;> rfl

/-- An input in chatter as it is marked and logged, before its trip (R290). -/
def chatterNoted (i : SafeIn) (d : Dev) : Dev :=
  ({ d with saf := d.saf.onChan i fun c => { c with chatter := true, stable := 0 } } : Dev).raise Src.serge Event.CHATTER
    (leBytes 1 (safeInCode i))

/-! Over-temperature (R292). -/

/-- The input of OT_SOURCE that an over-temperature trip names (R292). -/
def otInput (d : Dev) : Nat := if 2 ≤ nth 0 d.saf.otHigh 0 ∨ otBad d 0 = true then 0 else 1

/-! The pilot and protective earth, whose checks may trip their function more than once (R293, R294). -/

/-- The checks of the pilot of which each is a fault of class S (R293). -/
def pilotFaults (s : State) (d : Dev) : Dev :=
  let d := d.when (decide (2 ≤ d.saf.refBad)) (trip s 7 3 0 (some SBit.pilot))
  let d := d.when (decide (3 ≤ d.saf.backBad)) (trip s 7 4 d.samp.pilot.posMv (some SBit.pilot))
  d.when (decide (3 ≤ d.saf.shortBad)) (trip s 7 5 0 (some SBit.pilot))

theorem TripRow.pilotFaults {s : State} {d e : Dev} {classS : Bool} (h : TripRow 7 classS s d e) :
    TripRow 7 classS s d (pilotFaults s e) := ((h.when (by decide) ..).when (by decide) ..).when (by decide) ..

/-- The diode's trip, with what the other checks add to it. -/
theorem pilotTrip_diode {s : State} (h : 3 ≤ s.dev.saf.negBad) : TripRow 7 false s s.dev (pilotTrip s s.dev) := by
  have hdiode := trip_row (s := s) (f := 7) (by decide) 1 s.dev.samp.pilot.negMv none (.refl _ s.dev) rfl
  have hlong := hdiode.when (by decide) 2 0 none (pilotELong s.clk.frame (trip s 7 1 s.dev.samp.pilot.negMv none s.dev))
  unfold pilotTrip
  rw [decide_eq_true h, Dev.when_true]
  exact hlong.pilotFaults

/-- A fault of the pilot is found: a trip of class S that marks it (R293, R298). -/
structure PilotFault (s : State) (e : Dev) : Prop where
  row : TripRow 7 true s s.dev e
  marked : e.saf.sFaults.getLsbD SBit.pilot = true

theorem PilotFault.first (s : State) (tier : Nat) (value : Int) :
    PilotFault s (trip s 7 tier value (some SBit.pilot) s.dev) :=
  ⟨trip_row (by decide) tier value (some SBit.pilot) (.refl _ s.dev) rfl,
    (trip_classS_leaves s 7 tier value (by decide) s.dev).1⟩

theorem PilotFault.when {s : State} {e : Dev} (h : PilotFault s e) (c : Bool) (tier : Nat) (value : Int) :
    PilotFault s (e.when c (trip s 7 tier value (some SBit.pilot))) := by
  cases c
  · exact h
  · exact ⟨h.row.again (by decide) .., (trip_classS_leaves s 7 tier value (by decide) e).1⟩

/-- Of reference, read-back and SHORT the first that is bad trips. -/
theorem pilotFaults_found {s : State} (h : 2 ≤ s.dev.saf.refBad ∨ 3 ≤ s.dev.saf.backBad ∨ 3 ≤ s.dev.saf.shortBad) :
    PilotFault s (pilotFaults s s.dev) := by
  unfold pilotFaults
  by_cases href : 2 ≤ s.dev.saf.refBad
  · rw [decide_eq_true href, Dev.when_true]
    exact ((PilotFault.first s 3 0).when ..).when ..
  · rw [decide_eq_false href, Dev.when_false]
    dsimp only
    by_cases hback : 3 ≤ s.dev.saf.backBad
    · rw [decide_eq_true hback, Dev.when_true]
      exact (PilotFault.first s 4 _).when ..
    · rw [decide_eq_false hback, Dev.when_false, decide_eq_true ((h.resolve_left href).resolve_left hback), Dev.when_true]
      exact .first s 5 0

/-- With the diode and the state in order the pilot's faults are what is left of its checks. -/
theorem pilotTrip_faults {s : State} {d : Dev} (hneg : d.saf.negBad < 3) (hlong : pilotELong s.clk.frame d = false) :
    pilotTrip s d = pilotFaults s d := by
  unfold pilotTrip
  rw [decide_eq_false (Nat.not_le.2 hneg), Dev.when_false]
  dsimp only
  rw [hlong, Dev.when_false]
  rfl

/-- Ten cycles trip protective-earth continuity, with what a faulty UGN adds to it. -/
theorem peTrip_cycles {s : State} (h : 10 ≤ s.dev.saf.peCycles) : TripRow 8 false s s.dev (peTrip s s.dev) := by
  unfold peTrip
  rw [decide_eq_true h, Dev.when_true]
  exact (trip_row (by decide) 1 _ none (.refl _ s.dev) rfl).when (by decide) ..

theorem peTrip_faulty {s : State} (hc : s.dev.saf.peCycles < 10) (h : (s.dev.chan 3).faulty = true) :
    TripRow 8 true s s.dev (peTrip s s.dev) := by
  unfold peTrip
  rw [decide_eq_false (Nat.not_le.2 hc), Dev.when_false]
  dsimp only
  rw [h, Dev.when_true]
  exact trip_row (by decide) 2 0 (some SBit.ugn) (.refl _ s.dev) rfl

end Sys2Proof.Machine

open Sys2Proof Sys2Proof.Machine

/-- Settles O49: each row is a trip after its own mark, which no trip takes back; the checks of the pilot and of protective earth
may trip their function again. -/
theorem tripRows : Obligations.TripRows := by
  unfold Obligations.TripRows
  refine ⟨fun k mv s h₁ h₄ hon hbeyond => ?fast, fun s hbad hlost => ?flux, fun r s hdue => ?tier,
    fun ma s hma htest hlost => ?peak, fun i s hon hlevel => ?low, fun i s hlevel => ?high, fun door s hdue => ?disc,
    fun i edges s hedges hon hcalm => ?chatter, fun s hdue => ?hot, fun s hneg => ?diode, fun s hneg hlong hbad => ?pilot,
    fun s hcycles => ?cycles, fun s hcycles hfaulty => ?ugn⟩
  case fast =>
    have h := trip_row (s := s) (f := 1) (by decide) k mv none (d := { s.dev with saf := { s.dev.saf with
      ftLast := s.dev.saf.ftLast.set (k - 1) (some s.clk.frame) } }) (by simp [devOnly_iff]) rfl
    exact .of_when (b := fun d => decide (1 ≤ k ∧ k ≤ 4) && ftEnabled d (k - 1) && ftBeyond s.clk.frame d (k - 1) mv) rfl
      (by simp [h₁, h₄, hon, hbeyond]) ⟨h.tripped, congrArg Saf.ftLast h.kept, .onDev h.only⟩
  case flux =>
    have h := trip_row (s := s) (f := 2) (by decide) 6 0 (some SBit.pathM) (d := { s.dev with saf := { s.dev.saf with
      pathSLost := true, pathMLost := true } }) (by simp [devOnly_iff]) rfl
    exact .of_when (b := fun d => decide (8 ≤ d.saf.fluxBad) && !d.saf.pathMLost) rfl (by simp [hbad, hlost])
      ⟨h.tripped, congrArg Saf.pathMLost h.kept, congrArg Saf.pathSLost h.kept, .onDev h.only⟩
  case tier =>
    have h := trip_row (s := s) (f := 2) (by decide) (tierIndex r + 1)
      (if tierIndex r = 3 then s.dev.saf.rcA else s.dev.saf.m160) none (.refl _ s.dev) rfl
    exact .of_when (b := fun d => rcTierDue d (tierIndex r)) rfl hdue ⟨h.tripped, .onDev h.only⟩
  case peak =>
    have h := trip_row (s := s) (f := 2) (by decide) 5 (1000 * ma) none (.refl _ s.dev) rfl
    exact .of_when (b := fun d => decide (d.nat Param.RC_PEAK_THR < ma) && !d.saf.rcTestDue && !d.saf.pathSLost) rfl
      (by simp [hma, htest, hlost]) ⟨h.tripped, .onDev h.only⟩
  case low =>
    obtain ⟨otherHigh, heq⟩ := inputLow_eq s i s.dev
    generalize hx : lowFirstNoted i otherHigh (s.dev.saf.onChan i fun c => { c with level := false }) = x at heq
    obtain ⟨htrips, hchan⟩ := lowFirstNoted_keeps i otherHigh (s.dev.saf.onChan i fun c => { c with level := false })
    obtain ⟨htrips', hchan'⟩ := discRelease_keeps i x
    rw [hx, Saf.onChan_trips] at htrips
    rw [hx, Saf.chan_onChan_same] at hchan
    have h := dualTrip_row (s := s) (d := { s.dev with saf := discRelease x }) (by simp [devOnly_iff]) (htrips'.trans htrips)
      (safeInDoor i) ((if safeInB i then 1 else 0) + 1)
    have htier : (if safeInB i then 1 else 0) + 1 ≤ 2 := by split <;> decide
    rw [decide_eq_true htier, Bool.and_true, ← heq] at h
    refine .of_when (b := fun d => dualEnabled d (safeInDoor i) && (d.saf.chan i).level) rfl (by simp [hon, hlevel])
      ⟨h.tripped, ?_, .onDev h.only⟩
    rw [State.onDev_dev, Saf.chan_of_untripped h.kept, hchan', hchan]
  case high =>
    refine .of_when (b := fun d => !(d.saf.chan i).level) rfl (by simp [hlevel]) ⟨?_, fun j _ hj => ?_, ?_, .onDev ?_⟩
    · exact congrArg SafeCh.level (Saf.chan_onChan_same ..)
    · exact (Saf.chan_onChan ..).trans (if_neg hj)
    · exact Saf.onChan_trips ..
    · simp [devOnly_iff]
  case disc =>
    have h := dualTrip_row (s := s) (d := discNoted door s.dev) (discNoted_only door s.dev) (discNoted_trips door s.dev) door 3
    rw [show decide (3 ≤ 2) = false from rfl, Bool.and_false] at h
    refine .of_when (b := fun _ => discDue door s.dev) rfl hdue ⟨h.tripped, ?_, ?_, .onDev h.only⟩
    · have hdisc := discNoted_latched door s.dev
      cases door
      · exact (congrArg Saf.discLatE h.kept).trans hdisc
      · exact (congrArg Saf.discLatD h.kept).trans hdisc
    · refine h.now (List.mem_append_right _ ?_)
      cases door <;> exact List.mem_singleton_self _
  case chatter =>
    have h := dualTrip_row (s := s) (d := chatterNoted i s.dev) (by simp [devOnly_iff, chatterNoted]) (Saf.onChan_trips ..)
      (safeInDoor i) (if safeInB i then 5 else 4)
    have htier : ¬(if safeInB i then 5 else 4) ≤ 2 := by split <;> decide
    rw [decide_eq_false htier, Bool.and_false] at h
    have hchan := (Saf.chan_of_untripped h.kept i).trans (Saf.chan_onChan_same ..)
    exact .of_when (b := fun d => decide (20 < edges) && dualEnabled d (safeInDoor i) && !(d.saf.chan i).chatter) rfl
      (by simp [hedges, hon, hcalm]) ⟨h.tripped, congrArg SafeCh.chatter hchan, congrArg SafeCh.stable hchan,
        h.now (List.mem_append_right _ (List.mem_singleton_self _)), .onDev h.only⟩
  case hot =>
    have h := trip_row (s := s) (f := 6) (by decide) (nth 0 (otCodes s.dev) (otInput s.dev))
      ((tempOfCode s.dev (nth 0 (otCodes s.dev) (otInput s.dev))).getD 0) none (.refl _ s.dev) rfl
    exact .of_when (b := otDue) rfl hdue ⟨h.tripped, .onDev h.only⟩
  case diode =>
    have h := pilotTrip_diode hneg
    exact .of_devStep rfl ⟨h.tripped, .onDev h.only⟩
  case pilot =>
    obtain ⟨h, hmarked⟩ := pilotFaults_found hbad
    rw [← pilotTrip_faults hneg hlong] at h hmarked
    exact .of_devStep rfl ⟨h.tripped, hmarked, .onDev h.only⟩
  case cycles =>
    have h := peTrip_cycles hcycles
    exact .of_devStep rfl ⟨h.tripped, .onDev h.only⟩
  case ugn =>
    have h := peTrip_faulty hcycles hfaulty
    exact .of_devStep rfl ⟨h.tripped, .onDev h.only⟩

end

section
/-!
PROOF. A failed proof while the outlet is closed (R269, R282, R283): the trip opens the outlet, which turns every switch of the
quads off. The statement of O50 has the switches as they were, but for the count of misses of the one that was proved.
-/

namespace Sys2Proof.Machine

/-- A trip with the outlet closed turns every switch of the quads off (R269, R281). -/
theorem tripHeld_quads {d : Dev} (h : quadsOn d = true) (n f : Nat) : (tripHeld n f d).saf.quads = quadsSet false d := by
  have hopens : (d.lanes.outputs.getLsbD 0 && !outSafe.getLsbD 0) = true := by
    rw [show d.lanes.outputs.getLsbD 0 = true from h]
    rfl
  unfold tripHeld safeOutputs applyOutputs
  dsimp only
  rw [if_pos hopens]
  split <;> split <;> rfl

theorem quadsSet_off {d : Dev} {q : QuadSw} (h : q ∈ quadsSet false d) : q.on = false := by
  obtain ⟨x, -, rfl⟩ := List.mem_map.1 h
  rfl

/-- Where no session is open, a trip with the outlet closed leaves every switch of the quads off. -/
theorem trip_quads_off {d : Dev} (h : quadsOn d = true) (ho : d.ses.isOpen = false) (s : State) (f tier : Nat) (value : Int)
    (sBit : Option Nat) : ∀ q ∈ (trip s f tier value sBit d).saf.quads, q.on = false := by
  have hidle (e : Dev) (he : e.ses.isOpen = false) : endSession s EndCause.trip e = e := if_neg (by simp [he])
  have hses : (tripLogged s f tier value sBit (tripHeld s.clk.frame f d)).ses = d.ses :=
    ((tripLogged_keeps s f tier value sBit _).1 .ses (by decide)).trans rfl
  intro q hq
  obtain hheld | hended := trip_cases s f tier value sBit d
  · rw [hheld, tripHeld_quads h] at hq
    exact quadsSet_off hq
  · obtain ⟨ts, l, k, sf, hsaf⟩ := tripLogged_saf s f tier value sBit (tripHeld s.clk.frame f d)
    rw [hended, hidle _ (by rw [hses, ho]), hsaf, tripHeld_quads h] at hq
    exact quadsSet_off hq

/-- The failed proof of switch k as it is noted: one miss more, and the self-test failed (R282, R460). -/
def proofMissed (n k : Nat) (q : QuadSw) (d : Dev) : Dev :=
  selftest n 15 false (k + 1) { d with saf := { d.saf with
    quads := d.saf.quads.set k { q with missed := q.missed + 1 }, quadNext := (k + 1) % 8, proofAt := some n } }

/-- A proof that fails while a switch has failed is a trip of function 3 (R283). -/
theorem proofEff_trips {d : Dev} {k : Nat} {q x : QuadSw} {m : ProofMeas} (hk : nextQuad d.saf.quads d.saf.quadNext = k)
    (hq : d.saf.quads[k]? = some q) (hfail : proofPass d k m = false) (hx : x ∈ d.saf.quads) (hf : x.failed ≠ 0) (s : State) :
    proofEff s m d = trip s 3 (k + 1) 0 (some SBit.quad) (proofMissed s.clk.frame k q d) := by
  have hother : (d.saf.quads.any fun x => decide (x.failed ≠ 0)) = true := List.any_eq_true.2 ⟨x, hx, decide_eq_true hf⟩
  have hnth : nth {} d.saf.quads k = q := by rw [nth, hq]; rfl
  subst hk
  unfold proofEff
  dsimp only
  rw [hnth, hfail, if_neg Bool.false_ne_true, if_pos hother]
  rfl

/-- A machine with the outlet closed in frame 1,000, on which a proof is due, whose switch 2 has failed open. -/
def provedClosed : State :=
  { clk := { frame := 1000, running := true }
    dev := {
      lanes := { outputs := 0b001#3 }
      saf := { quads := [{ on := true }, { failed := 1 }] ++ List.replicate 6 { on := true } } } }

/-- An off-pulse in which the switch goes on carrying 100 mA. -/
def conductingPulse : ProofMeas := ⟨100, 0, 100, 50, 50, 100, true, true⟩

end Sys2Proof.Machine

open Sys2Proof Sys2Proof.Machine

/-- Refutes O50: the proof of switch 1 fails with the outlet closed and switch 2 failed. The trip of function 3 opens the outlet
and turns switch 1 off, where the statement has it on. -/
theorem not_safetyTestRows : ¬ Obligations.SafetyTestRows := by
  intro h
  obtain ⟨-, -, hproof, -⟩ := h
  have hdue : proofDue provedClosed provedClosed.dev = true := by decide
  have hfail : proofPass provedClosed.dev 0 conductingPulse = false := by decide
  have hfailed : { failed := 1 } ∈ provedClosed.dev.saf.quads := by decide
  obtain ⟨-, -, -, htrips⟩ := hproof { on := true } 0 conductingPulse provedClosed hdue (by decide) rfl
  obtain ⟨t, ht, -, hquads, -⟩ := htrips hfail _ hfailed (by decide)
  have hexec : exec (.quadProofPulse conductingPulse) provedClosed =
      .next (provedClosed.onDev (proofEff provedClosed conductingPulse)) := by
    show devStep provedClosed (Dev.when (proofDue provedClosed provedClosed.dev) (proofEff provedClosed conductingPulse)) = _
    rw [hdue]
    rfl
  obtain rfl := Host.Outcome.next.inj (hexec.symm.trans ht)
  rw [State.onDev_dev, proofEff_trips (by decide) rfl hfail hfailed (by decide)] at hquads
  have hoff := trip_quads_off (d := proofMissed 1000 0 { on := true } provedClosed.dev) (by decide) (by decide) provedClosed
    3 1 0 (some SBit.quad)
  have hon : { on := true, missed := 1 } ∈ provedClosed.dev.saf.quads.set 0 { on := true, missed := 1 } := by decide
  exact absurd (hoff _ (hquads ▸ hon)) (by decide)

end

section
/-!
SUPPORT. What a change of the outputs, the end of a session and a trip leave of the checks of the contactors (R255, R284, R285).
-/

namespace Sys2Proof.Machine

/-- The closing check has passed, and the state of the opening check (R284, R285). -/
def Saf.checks (x : Saf) : Bool × Nat := (x.closeOk, x.openSt)

/-- A change of the outputs passes no closing check. -/
theorem applyOutputs_closeOk {d : Dev} (h : d.saf.closeOk = false) (n : Nat) (o : BitVec 3) :
    (applyOutputs n o d).saf.closeOk = false := by
  unfold applyOutputs
  dsimp only
  split <;> split <;> split <;> simp [h]

/-- With the outlet open a change of the outputs leaves the opening check where it is. -/
theorem applyOutputs_openSt {d : Dev} (h : outletShut d = false) (n : Nat) (o : BitVec 3) :
    (applyOutputs n o d).saf.openSt = d.saf.openSt := by
  obtain ⟨hq, he⟩ := Bool.or_eq_false_iff.1 h
  have hq' : d.lanes.outputs.getLsbD 0 = false := hq
  have he' : d.lanes.outputs.getLsbD 1 = false := he
  unfold applyOutputs
  dsimp only
  rw [hq', he']
  simp only [Bool.false_and, Bool.or_false, Bool.false_eq_true, if_false]
  split <;> rfl

theorem closeSession_checks (s : State) (cause : Nat) (d : Dev) :
    (closeSession s cause (sessionEndedEv s cause) d).saf.checks = d.saf.checks := by
  obtain ⟨bal, h⟩ := closeSession_eq s cause (sessionEndedEv s cause) d
  have hsaf : (balanceLog d.ses.number bal (sessionEndedEv s cause (closingRecord s cause d))).saf = d.saf :=
    ((balanceLog_only d.ses.number bal _ .saf (by decide)).trans (sessionEndedEv_only s cause _ .saf (by decide))).trans
      (closingRecord_only s cause d .saf (by decide))
  rw [h, ← hsaf]
  rfl

theorem endMode_checks (m : Mode) (d : Dev) : (endMode m d).saf.checks = d.saf.checks := by
  cases m
  case degraded =>
    have hsaf : (d.saf.degBits.foldl (fun d b => d.setCause b) (d.setCause Cause.degradedEnd)).saf = d.saf :=
      setCauses_only _ _ .saf (by decide)
    rw [← hsaf]
    rfl
  all_goals rfl

/-- The end of a session leaves the checks as the request to open the outlet leaves them. -/
theorem endSession_checks (s : State) (cause : Nat) (d : Dev) : (endSession s cause d).saf.checks = d.saf.checks ∨
    (endSession s cause d).saf.checks = (requestOpen s.clk.frame d).saf.checks := by
  unfold endSession
  split
  · exact .inr ((endMode_checks ..).trans (closeSession_checks ..))
  · exact .inl rfl

theorem endSession_closeOk {d : Dev} (h : d.saf.closeOk = false) (s : State) (cause : Nat) :
    (endSession s cause d).saf.closeOk = false := by
  obtain hc | hc := endSession_checks s cause d
  · exact (congrArg Prod.fst hc).trans h
  · exact (congrArg Prod.fst hc).trans (applyOutputs_closeOk (by exact h) _ _)

theorem endSession_openSt {d : Dev} (h : outletShut d = false) (s : State) (cause : Nat) :
    (endSession s cause d).saf.openSt = d.saf.openSt := by
  obtain hc | hc := endSession_checks s cause d
  · exact congrArg Prod.snd hc
  · exact (congrArg Prod.snd hc).trans (applyOutputs_openSt (by exact h) _ _)

theorem trip_closeOk {d : Dev} (h : d.saf.closeOk = false) (s : State) (f tier : Nat) (value : Int) (sBit : Option Nat) :
    (trip s f tier value sBit d).saf.closeOk = false := by
  have hheld : (tripHeld s.clk.frame f d).saf.closeOk = false := applyOutputs_closeOk (by exact h) _ _
  obtain he | he := trip_cases s f tier value sBit d <;> rw [he]
  · exact hheld
  · obtain ⟨ts, l, k, sf, hsaf⟩ := tripLogged_saf s f tier value sBit (tripHeld s.clk.frame f d)
    exact endSession_closeOk (by rw [hsaf]; exact hheld) s _

end Sys2Proof.Machine

end

section
/-!
PROOF. Contactors, opening checks, re-arming and confirmation (R255, R270, R284, R285, R305).
-/

namespace Sys2Proof.Machine

/-! CONTACTOR_CLOSE_CHECK and CONTACTOR_DROPPED (R284). -/

/-- A contactor that is not closed, as it is logged with the outlet requested open, before its trip (R284). -/
def notClosed (n what how : Nat) (d : Dev) : Dev :=
  (requestOpen n d).raise Src.serge Event.CONTACTOR_NOT_CLOSED (leBytes 1 what ++ leBytes 1 how)

theorem notClosed_row {s : State} {d : Dev} (hd : DevOnly tripParts s.dev d) (ht : d.saf.trips = s.dev.saf.trips)
    (tier what how : Nat) : TripRow 3 true s (notClosed s.clk.frame what how d)
      (trip s 3 tier 0 (some SBit.contactor) (notClosed s.clk.frame what how d)) := by
  have honly : DevOnly tripParts d (notClosed s.clk.frame what how d) := (requestOpen_only _ d).then (.raise _ _ _ _)
  have htrips : (requestOpen s.clk.frame d).saf.trips = d.saf.trips := congrArg Prod.fst (requestOpen_latches _ d)
  exact trip_row (by decide) tier 0 (some SBit.contactor) (hd.trans honly) (htrips.trans ht)

theorem notClosed_logged (n what how : Nat) (d : Dev) :
    Ev.of Src.serge Event.CONTACTOR_NOT_CLOSED (leBytes 1 what ++ leBytes 1 how) ∈ (notClosed n what how d).log.now :=
  List.mem_append_right _ (List.mem_singleton_self _)

theorem notClosed_closeOk {d : Dev} (h : d.saf.closeOk = false) (n what how : Nat) :
    (notClosed n what how d).saf.closeOk = false := applyOutputs_closeOk (by exact h) _ _

/-- The closing check as it is judged (R284). -/
def closeJudged (ok : Bool) (d : Dev) : Dev := { d with saf := { d.saf with closeAt := none, closeOk := ok } }

theorem closeJudged_only (ok : Bool) (d : Dev) : DevOnly [.saf] d (closeJudged ok d) := by simp [devOnly_iff, closeJudged]

theorem closeCheck_good {d : Dev} (hm : mirrorOpen d = []) (hv : voltageShows d = true) (s : State) :
    closeCheck s d = closeJudged true d := by
  unfold closeCheck
  rw [hm]
  dsimp only
  rw [show (([] : List Nat).head?.isNone && voltageShows d) = true from hv, if_pos rfl]
  rfl

theorem closeCheck_bad {d : Dev} (h : mirrorOpen d ≠ [] ∨ voltageShows d = false) (s : State) :
    closeCheck s d = trip s 3 (8 + (mirrorOpen d).head?.getD 3) 0 (some SBit.contactor)
      (notClosed s.clk.frame ((mirrorOpen d).head?.getD 3) 0 (closeJudged false d)) := by
  have hbad : ((mirrorOpen d).head?.isNone && voltageShows d) = false := by
    obtain h | h := h
    · simp [h]
    · simp [h]
  unfold closeCheck
  dsimp only
  rw [hbad, if_neg Bool.false_ne_true]
  rfl

/-- A failed closing check trips, and the trip passes no closing check. -/
theorem closeCheck_trips {s : State} (h : mirrorOpen s.dev ≠ [] ∨ voltageShows s.dev = false) :
    TripRow 3 true s (notClosed s.clk.frame ((mirrorOpen s.dev).head?.getD 3) 0 (closeJudged false s.dev))
      (closeCheck s s.dev) ∧
      (closeCheck s s.dev).saf.closeOk = false := by
  rw [closeCheck_bad h]
  exact ⟨notClosed_row ((closeJudged_only false _).mono (by decide)) rfl .., trip_closeOk (notClosed_closeOk rfl ..) ..⟩

/-! OPENING_CHECK (R255, R285). -/

/-- The parts that an opening check may change. -/
abbrev openingParts : List Part := [.lanes, .pow, .acs, .log, .led, .veh, .ses, .dc, .saf, .sw, .keys]

/-- SERGE's part of the opening check, where it is due. -/
def sergePart (n : Nat) (d : Dev) : Dev := if openSergeDue n d then openSerge d else d

/-- The frame from which the decay of the DC voltage counts, once the stage delivers nothing. -/
def decayNoted (n : Nat) (d : Dev) : Dev :=
  if d.saf.openSt = 1 ∧ d.saf.decayFrom.isNone ∧ stageCurrentZero d ∧ ¬d.veh.powerOn then
    { d with saf := { d.saf with decayFrom := some n } } else d

/-- The frame of the decay, set. -/
def decaySet (x : Option Nat) (d : Dev) : Dev := { d with saf := { d.saf with decayFrom := x } }

theorem decaySet_only (x : Option Nat) (d : Dev) : DevOnly openingParts d (decaySet x d) := by simp [devOnly_iff, decaySet]

theorem decayNoted_eq (n : Nat) (d : Dev) : ∃ x, decayNoted n d = decaySet x d := by
  unfold decayNoted
  split <;> exact ⟨_, rfl⟩

theorem openingStep_eq (s : State) (d : Dev) : openingStep s d =
    match openVerdict s.clk.frame (decayNoted s.clk.frame (sergePart s.clk.frame d)) with
    | none => decayNoted s.clk.frame (sergePart s.clk.frame d)
    | some bad => openConclude s bad (decayNoted s.clk.frame (sergePart s.clk.frame d)) := rfl

theorem openSergeDue_iff (n : Nat) (d : Dev) : openSergeDue n d = true ↔ d.saf.openSt = 1 ∧ d.saf.openSerge = false ∧
    d.saf.openAt + ms (d.nat Param.CONTACTOR_OPEN_MAX) ≤ n := by
  simp [openSergeDue, and_assoc]

/-- With a mirror contact that shows closed main contacts the verdict is a weld. -/
theorem openVerdict_weld {n k : Nat} {d : Dev} (hst : d.saf.openSt = 1) (hs : d.saf.openSerge = true)
    (hk : (mirrorClosed d).head? = some k) : openVerdict n d = some (some k) := by
  simp [openVerdict, hst, hs, hk]

/-- On AC the verdict waits for the 160 frames over which the voltage is measured. -/
theorem openVerdict_waits {n : Nat} {d : Dev} (hk : dcKind d = false) (hm : mirrorClosed d = []) (hw : d.saf.weldLatch = false)
    (hn : n < d.saf.openAt + ms (d.nat Param.CONTACTOR_OPEN_MAX) + 160) : openVerdict n d = none := by
  simp [openVerdict, hk, hm, hw, Nat.not_le.2 hn]

/-- A verdict is one of a check that runs, after SERGE's part. -/
theorem openVerdict_some {n : Nat} {d : Dev} {bad : Option Nat} (h : openVerdict n d = some bad) :
    d.saf.openSt = 1 ∧ d.saf.openSerge = true := by
  by_contra hc
  have hnone : openVerdict n d = none := if_pos (by
    by_cases hst : d.saf.openSt = 1
    · exact .inr (Bool.eq_false_iff.2 fun hs => hc ⟨hst, hs⟩)
    · exact .inl hst)
  simp [hnone] at h

/-- On AC the verdict does not look at the decay. -/
theorem openVerdict_decay {n : Nat} {d : Dev} (hk : dcKind d = false) (x : Option Nat) :
    openVerdict n (decaySet x d) = openVerdict n d := by
  have hk' : dcKind (decaySet x d) = false := hk
  unfold openVerdict
  rw [hk, hk']
  rfl

/-- Where no step before the verdict changes it, the check concludes with it. -/
theorem openingStep_concludes {s : State} {d : Dev} {bad : Option Nat}
    (hd : d.nat Param.OUTLET_KIND ≠ 1 ∨ d.saf.decayFrom ≠ none) (h : openVerdict s.clk.frame d = some bad) :
    ∃ x, openingStep s d = openConclude s bad (decaySet x d) := by
  obtain ⟨-, hs⟩ := openVerdict_some h
  have hpart : sergePart s.clk.frame d = d := if_neg fun hdue => by
    rw [openSergeDue_iff, hs] at hdue
    exact absurd hdue.2.1 (by decide)
  obtain ⟨x, hx⟩ := decayNoted_eq s.clk.frame d
  refine ⟨x, ?_⟩
  have hv : openVerdict s.clk.frame (decayNoted s.clk.frame d) = some bad := by
    obtain hk | hf := hd
    · rw [hx, openVerdict_decay (decide_eq_false hk), h]
    · rw [decayNoted, if_neg fun ⟨_, hn, _⟩ => hf (Option.isNone_iff_eq_none.1 hn), h]
  rw [openingStep_eq, hpart, hv, hx]

/-- Once SERGE's part is due the check is that part, then the verdict over it. -/
theorem openingStep_serge {s : State} {d : Dev} (h : openSergeDue s.clk.frame d = true) : ∃ x, openingStep s d =
    match openVerdict s.clk.frame (decaySet x (openSerge d)) with
    | none => decaySet x (openSerge d)
    | some bad => openConclude s bad (decaySet x (openSerge d)) := by
  obtain ⟨x, hx⟩ := decayNoted_eq s.clk.frame (openSerge d)
  refine ⟨x, ?_⟩
  rw [openingStep_eq, sergePart, if_pos h, hx]

/-- On AC with no mirror contact closed SERGE's part is all there is to do at once. -/
theorem openingStep_waits {s : State} {d : Dev} (hkind : d.nat Param.OUTLET_KIND ≠ 1) (hdue : openSergeDue s.clk.frame d = true)
    (hn : s.clk.frame < d.saf.openAt + ms (d.nat Param.CONTACTOR_OPEN_MAX) + 160) (hm : mirrorClosed d = [])
    (hw : d.saf.weldLatch = false) : ∃ x, openingStep s d = decaySet x (openSerge d) := by
  obtain ⟨x, h⟩ := openingStep_serge hdue
  have hlatch : (d.saf.weldLatch || !(mirrorClosed d).isEmpty) = false := by rw [hw, hm]; rfl
  have hnone : openVerdict s.clk.frame (decaySet x (openSerge d)) = none :=
    openVerdict_waits (decide_eq_false hkind) hm hlatch hn
  rw [hnone] at h
  exact ⟨x, h⟩

/-- A mirror contact that shows closed main contacts concludes the check at once. -/
theorem openingStep_welds {s : State} {d : Dev} {k : Nat} (hdue : openSergeDue s.clk.frame d = true)
    (hk : (mirrorClosed d).head? = some k) : ∃ x, openingStep s d = openConclude s (some k) (decaySet x (openSerge d)) := by
  obtain ⟨x, h⟩ := openingStep_serge hdue
  have hsome : openVerdict s.clk.frame (decaySet x (openSerge d)) = some (some k) :=
    openVerdict_weld ((openSergeDue_iff ..).1 hdue).1 rfl hk
  rw [hsome] at h
  exact ⟨x, h⟩

theorem openSerge_only (d : Dev) : DevOnly openingParts d (openSerge d) := by simp [devOnly_iff, openSerge]

/-! The conclusion of an opening check (R255, R285). -/

/-- What the conclusion of an opening check leaves of the session, with the outlet open: an ordered stop ends it, and any other
goes on. -/
structure CheckConcluded (d e : Dev) : Prop where
  only : DevOnly openingParts d e
  grows : Grows d e
  lasting : e.saf.lasting = d.saf.lasting
  openSt : e.saf.openSt = d.saf.openSt
  closed : d.ses.stop ≠ none ∨ d.ses.isOpen = false → e.ses.isOpen = false
  goesOn : d.ses.stop = none → e.ses.isOpen = d.ses.isOpen ∧ e.pow = d.pow

theorem endSession_concluded {d : Dev} (h : outletShut d = false) (hx : d.ses.stop ≠ none) (s : State) (cause : Nat) :
    CheckConcluded d (endSession s cause d) :=
  ⟨(endSession_only s cause d).mono (by decide), Grows.endSession .., endSession_lasting .., endSession_openSt h ..,
    fun _ => endSession_closed .., fun hn => absurd hn hx⟩

/-- The state of a session that goes on after its outlet was proved open (R258). -/
def proceeds (d : Dev) : Dev :=
  if d.ses.isOpen ∧ d.ses.st = 6 then
    { d with ses := { d.ses with st := if d.ses.paused then 5 else if d.ses.auth.isSome then 3 else 2 } }
  else d

theorem proceeds_concluded {d : Dev} (hx : d.ses.stop = none) : CheckConcluded d (proceeds d) := by
  have hclosed : d.ses.stop ≠ none ∨ d.ses.isOpen = false → d.ses.isOpen = false := fun h => h.resolve_left (absurd hx)
  unfold proceeds
  split
  · exact ⟨by simp [devOnly_iff], .of_eq rfl rfl, rfl, rfl, hclosed, fun _ => ⟨rfl, rfl⟩⟩
  · exact ⟨.refl _ d, .refl d, rfl, rfl, hclosed, fun _ => ⟨rfl, rfl⟩⟩

/-- The release of the lock takes nothing of a conclusion back. -/
theorem CheckConcluded.released {d e : Dev} (h : CheckConcluded d e) (n : Nat) : CheckConcluded d (releaseLock n e) := by
  have honly := releaseLock_only n e
  obtain ⟨u, hses⟩ := releaseLock_ses n e
  have hopen : (releaseLock n e).ses.isOpen = e.ses.isOpen := by rw [hses]
  have hsaf : (releaseLock n e).saf = e.saf := honly .saf (by decide)
  have hpow : (releaseLock n e).pow = e.pow := honly .pow (by decide)
  refine ⟨h.only.trans (honly.mono (by decide)), h.grows.trans (.of_only honly (by decide) (by decide)), ?_, ?_,
    fun hc => hopen.trans (h.closed hc), fun hn => ?_⟩
  · rw [hsaf, h.lasting]
  · rw [hsaf, h.openSt]
  · obtain ⟨ho, hp⟩ := h.goesOn hn
    exact ⟨hopen.trans ho, hpow.trans hp⟩

theorem openConcluded_concluded {d : Dev} (h : outletShut d = false) (s : State) : CheckConcluded d (openConcluded s d) := by
  cases hx : d.ses.stop with
  | none =>
    have he : openConcluded s d = releaseLock s.clk.frame (proceeds d) := by unfold openConcluded; rw [hx]; rfl
    rw [he]
    exact (proceeds_concluded hx).released _
  | some x =>
    have he : openConcluded s d = releaseLock s.clk.frame (endSession s x.1 d) := by unfold openConcluded; rw [hx]
    rw [he]
    exact (endSession_concluded h (by simp [hx]) s x.1).released _

/-- A weld as it is found and logged, before the session ends (R285). -/
def weldFound (m : Mode) (what : Nat) (d : Dev) : Dev :=
  (markS SBit.weld (({ d with saf := { d.saf with openSt := 3 } } : Dev).raise Src.serge Event.WELD_DETECTED
    (weldItems what d))).safeStop m Cause.safetyLatch Event.WELD_DETECTED

theorem weldFound_only (m : Mode) (what : Nat) (d : Dev) : DevOnly openingParts d (weldFound m what d) :=
  DevOnly.then (ps := [.saf, .log]) (by simp [devOnly_iff, markS]) (Dev.safeStop_only _ _ _ _)

/-- A weld sets SAFETY_LATCH, is logged, and the session is closed at its conclusion. -/
structure WeldConcluded (what : Nat) (d e : Dev) : Prop where
  only : DevOnly openingParts d e
  openSt : e.saf.openSt = 3
  weldLatch : e.saf.weldLatch = d.saf.weldLatch
  closed : e.ses.isOpen = false
  latch : e.pow.causes.getLsbD Cause.safetyLatch = true
  logged : Ev.of Src.serge Event.WELD_DETECTED (weldItems what d) ∈ e.log.now

/-- With no stop ordered a weld ends the session itself. -/
def weldEnded (s : State) (d : Dev) : Dev := if d.ses.stop.isSome then d else endSession s EndCause.trip d

theorem openConclude_some (s : State) (what : Nat) (d : Dev) :
    openConclude s (some what) d = openConcluded s (weldEnded s (weldFound s.clk.mode what d)) := rfl

theorem weldEnded_concluded {d : Dev} (h : outletShut d = false) (hd : d.lanes.dispute = none) (s : State) :
    DevOnly openingParts d (openConcluded s (weldEnded s d)) ∧ Grows d (openConcluded s (weldEnded s d)) ∧
      (openConcluded s (weldEnded s d)).saf.lasting = d.saf.lasting ∧
      (openConcluded s (weldEnded s d)).saf.openSt = d.saf.openSt ∧ (openConcluded s (weldEnded s d)).ses.isOpen = false := by
  unfold weldEnded
  split
  · next hstop =>
    have k := openConcluded_concluded h s
    exact ⟨k.only, k.grows, k.lasting, k.openSt, k.closed (.inl (Option.isSome_iff_ne_none.1 hstop))⟩
  · have k := openConcluded_concluded (outletShut_endSession hd h s EndCause.trip) s
    exact ⟨((endSession_only s _ d).mono (by decide)).trans k.only, (Grows.endSession s _ d).trans k.grows,
      k.lasting.trans (endSession_lasting ..), k.openSt.trans (endSession_openSt h ..), k.closed (.inr (endSession_closed ..))⟩

theorem openConclude_weld {d : Dev} (h : outletShut d = false) (hd : d.lanes.dispute = none) (s : State) (what : Nat) :
    WeldConcluded what d (openConclude s (some what) d) := by
  have hlanes : (weldFound s.clk.mode what d).lanes = d.lanes := by
    rw [weldFound, Dev.safeStop_lanes]
    rfl
  have hsaf : (weldFound s.clk.mode what d).saf.openSt = 3 ∧ (weldFound s.clk.mode what d).saf.weldLatch = d.saf.weldLatch := by
    rw [weldFound, Dev.safeStop_saf]
    exact ⟨rfl, rfl⟩
  obtain ⟨honly, hgrows, hlasting, hst, hclosed⟩ :=
    weldEnded_concluded ((outletShut_congr hlanes).trans h) (by rw [hlanes, hd]) s
  rw [openConclude_some]
  refine ⟨(weldFound_only _ what d).trans honly, hst.trans hsaf.1, (congrArg Saf.weldLatch hlasting).trans hsaf.2, hclosed,
    hgrows.causes _ ?_, hgrows.now ?_⟩
  · rw [weldFound, Dev.safeStop_causes]
    exact cause_or_self _ (by decide)
  · rw [weldFound, Dev.safeStop_log]
    exact List.mem_append_right _ (List.mem_singleton_self _)

/-- The outlet is proved open: state 2 of the check. -/
def provedOpen (d : Dev) : Dev := { d with saf := { d.saf with openSt := 2 } }

theorem provedOpen_only (d : Dev) : DevOnly openingParts d (provedOpen d) := by simp [devOnly_iff, provedOpen]

/-- The outlet proved open is state 2 of the check, and the session goes on, or ends as it was ordered. -/
theorem openConclude_passed {d : Dev} (h : outletShut d = false) (s : State) :
    CheckConcluded (provedOpen d) (openConclude s none d) :=
  openConcluded_concluded (d := provedOpen d) ((outletShut_congr rfl).trans h) s

theorem openSerge_welds {d : Dev} {k : Nat} (h : (mirrorClosed d).head? = some k) : (openSerge d).saf.weldLatch = true := by
  have hne : mirrorClosed d ≠ [] := fun hc => by simp [hc] at h
  simp [openSerge, hne]

theorem mirrorClosed_ne_three {d : Dev} {k : Nat} (h : (mirrorClosed d).head? = some k) : k ≠ 3 := by
  have hk := List.mem_of_mem_head? h
  rintro rfl
  simp [mirrorClosed] at hk

/-! SAFETY_REARM (R270, R285). -/

theorem getLsbD_clearBit (x : BitVec 16) {f k : Nat} (hk : k < 16) :
    (x &&& ~~~ bitAt f).getLsbD k = (x.getLsbD k && !decide (k = f)) := by
  have hsub : decide (k - f = 0 ∧ f ≤ k) = decide (k = f) := decide_eq_decide.2 (by omega)
  rw [← hsub]
  simp [bitAt, hk]
  grind

/-- Bits cleared in turn where they satisfy a condition. -/
theorem getLsbD_clearBits (p : Nat → Bool) {k : Nat} (hk : k < 16) (fs : List Nat) (x : BitVec 16) :
    (fs.foldl (fun b f => if p f then b &&& ~~~ bitAt f else b) x).getLsbD k = (x.getLsbD k && !(decide (k ∈ fs) && p k)) := by
  induction fs generalizing x with
  | nil => simp
  | cons f fs ih =>
    rw [List.foldl_cons, ih]
    by_cases hp : p f = true
    · rw [if_pos hp, getLsbD_clearBit x hk]
      by_cases hkf : k = f
      · simp [hkf, hp]
      · simp [hkf]
    · rw [if_neg hp]
      by_cases hkf : k = f
      · simp [hkf, hp]
      · simp [hkf]

/-- A trip released and logged where its condition has gone (R270). -/
def releaseTrip (n : Nat) (d : Dev) (f : Nat) : Dev :=
  if d.saf.trips.getLsbD f && fnGone n d f then
    ({ d with saf := { d.saf with
        trips := d.saf.trips &&& ~~~ bitAt f, since := d.saf.since &&& ~~~ bitAt f
        tiers := d.saf.tiers.filter fun x => decide (x.1 ≠ f) } }).raise
      Src.serge Event.SAFETY_REARMED (leBytes 1 f)
  else d

/-- What the release of the functions of a list leaves. -/
structure Released (n : Nat) (fs : List Nat) (d e : Dev) : Prop where
  only : DevOnly [.log, .saf] d e
  now : d.log.now ⊆ e.log.now
  gone : fnGone n e = fnGone n d
  sFaults : e.saf.sFaults = d.saf.sFaults
  weldLatch : e.saf.weldLatch = d.saf.weldLatch
  trips : ∀ k < 16, e.saf.trips.getLsbD k = (d.saf.trips.getLsbD k && !(decide (k ∈ fs) && fnGone n d k))
  logged : ∀ k < 16, d.saf.trips.getLsbD k = true → e.saf.trips.getLsbD k = false →
    Ev.of Src.serge Event.SAFETY_REARMED (leBytes 1 k) ∈ e.log.now

theorem Released.refl (n : Nat) (d : Dev) : Released n [] d d :=
  ⟨.refl _ d, List.Subset.refl _, rfl, rfl, rfl, by simp, fun k _ h₁ h₀ => by simp [h₁] at h₀⟩

theorem Released.cons {n f : Nat} {fs : List Nat} {d e e' : Dev} (h : Released n [f] d e) (h' : Released n fs e e') :
    Released n (f :: fs) d e' := by
  refine ⟨h.only.trans h'.only, List.Subset.trans h.now h'.now, h'.gone.trans h.gone, h'.sFaults.trans h.sFaults,
    h'.weldLatch.trans h.weldLatch, fun k hk => ?_, fun k hk h₁ h₀ => ?_⟩
  · rw [h'.trips k hk, h.trips k hk, h.gone]
    by_cases hkf : k = f
    · cases hg : fnGone n d k <;> simp [hkf]
    · simp [hkf]
  · cases he : e.saf.trips.getLsbD k with
    | false => exact h'.now (h.logged k hk h₁ he)
    | true => exact h'.logged k hk he h₀

theorem releaseTrip_released (n : Nat) (d : Dev) (f : Nat) : Released n [f] d (releaseTrip n d f) := by
  unfold releaseTrip
  split
  · next hc =>
    obtain ⟨-, hg⟩ := Bool.and_eq_true_iff.1 hc
    refine ⟨by simp [devOnly_iff], List.subset_append_left _ _, funext fun k => rfl, rfl, rfl, fun k hk => ?_,
      fun k hk h₁ h₀ => ?_⟩
    · refine (getLsbD_clearBit _ hk).trans ?_
      by_cases hkf : k = f
      · simp [hkf, hg]
      · simp [hkf]
    · have hkf : k = f := by
        by_contra hne
        rw [Dev.raise_saf, getLsbD_clearBit _ hk, h₁, decide_eq_false hne] at h₀
        simp at h₀
      rw [hkf]
      exact List.mem_append_right _ (List.mem_singleton_self _)
  · next hc =>
    refine ⟨.refl _ d, List.Subset.refl _, rfl, rfl, rfl, fun k hk => ?_, fun k hk h₁ h₀ => by simp [h₁] at h₀⟩
    by_cases hkf : k = f
    · rw [hkf]
      simpa using hc
    · simp [hkf]

theorem releaseTrips_released (n : Nat) (fs : List Nat) (d : Dev) : Released n fs d (fs.foldl (releaseTrip n) d) := by
  induction fs generalizing d with
  | nil => exact .refl n d
  | cons f fs ih => exact (releaseTrip_released n d f).cons (ih _)

theorem rearm_disputed {d : Dev} (h : requestsAgree d = false) (n : Nat) : rearm n d = d := by
  unfold rearm
  rw [h]
  rfl

/-- The functions whose trips may be released: all with no cause bit set, none otherwise (R270). -/
def releasable (d : Dev) : List Nat := if d.pow.causes = 0 then safeFunctions else []

theorem mem_releasable (d : Dev) (f : Nat) : f ∈ releasable d ↔ d.pow.causes = 0 ∧ 1 ≤ f ∧ f ≤ 9 := by
  unfold releasable
  by_cases h : d.pow.causes = 0
  · rw [if_pos h, and_iff_right h]
    simp only [safeFunctions, List.mem_cons, List.not_mem_nil, or_false]
    omega
  · rw [if_neg h]
    exact iff_of_false List.not_mem_nil fun hc => h hc.1

theorem rearm_agreed {d : Dev} (h : requestsAgree d = true) (n : Nat) :
    rearm n d = (releasable (releaseWeld d)).foldl (releaseTrip n) (releaseWeld d) := by
  unfold rearm releasable
  rw [h]
  by_cases hc : (releaseWeld d).pow.causes = 0
  · rw [if_pos hc]
    exact if_neg (not_not_intro hc)
  · rw [if_neg hc]
    exact if_pos hc

/-- While an output is disputed, or with SAFETY_LATCH set, nothing is released. -/
theorem rearm_held {d : Dev} (h : requestsAgree d = false ∨ d.pow.causes.getLsbD Cause.safetyLatch = true) (n : Nat) :
    rearm n d = d := by
  cases hr : requestsAgree d with
  | false => exact rearm_disputed hr n
  | true =>
    have hlatch := h.resolve_left (by simp [hr])
    have hweld : releaseWeld d = d := by
      rw [releaseWeld, hlatch]
      rfl
    have hcause : d.pow.causes ≠ 0 := fun hc => by simp [hc] at hlatch
    rw [rearm_agreed hr, hweld, releasable, if_neg hcause]
    rfl

/-- The faults of class S that have gone, and the weld latch, as they leave once SAFETY_LATCH is clear. -/
def weldReleased (d : Dev) : Dev :=
  { d with saf := { d.saf with
    sFaults := (List.range 16).foldl (fun b k => if sGone d k then b &&& ~~~ bitAt k else b) d.saf.sFaults
    weldLatch := d.saf.weldLatch && !(mirrorClosed d).isEmpty
    openSt := if d.saf.openSt = 3 ∧ (mirrorClosed d).isEmpty then 0 else d.saf.openSt } }

theorem releaseWeld_clear {d : Dev} (h : d.pow.causes.getLsbD Cause.safetyLatch = false) : releaseWeld d = weldReleased d := by
  rw [releaseWeld, h]
  rfl

theorem weldReleased_only (d : Dev) : DevOnly [.log, .saf] d (weldReleased d) := by simp [devOnly_iff, weldReleased]

theorem weldReleased_sFaults (d : Dev) {k : Nat} (hk : k < 16) :
    (weldReleased d).saf.sFaults.getLsbD k = (d.saf.sFaults.getLsbD k && !sGone d k) := by
  refine (getLsbD_clearBits (sGone d) hk (List.range 16) d.saf.sFaults).trans ?_
  rw [decide_eq_true (List.mem_range.2 hk), Bool.true_and]

theorem rearm_released {d : Dev} (hr : requestsAgree d = true) (h : d.pow.causes.getLsbD Cause.safetyLatch = false) (n : Nat) :
    Released n (releasable d) (weldReleased d) (rearm n d) := by
  rw [rearm_agreed hr, releaseWeld_clear h]
  exact releaseTrips_released ..

end Sys2Proof.Machine

open Sys2Proof Sys2Proof.Machine

/-- Settles O51: a failed closing check is a trip after its mark, the opening check concludes with a verdict of its own, and the
release goes through the functions one by one. -/
theorem contactorRows : Obligations.ContactorRows := by
  unfold Obligations.ContactorRows
  refine ⟨fun s hdue => ⟨fun hm hv => ?good, fun hbad => ?bad⟩, fun mc s hq hok hmc => ?dropped,
    fun s hkind hdue hframe hm hlatch => ?serge, fun k s hdue hk hshut hdisp => ?weld,
    fun bad s hd hv hshut hdisp => ?concluded, fun s hr => ?rearm, fun s hr hst hframe => ?expired⟩
  case good =>
    have h := closeCheck_good hm hv s
    refine .of_when (b := fun _ => closeCheckDue s.clk.frame s.dev) rfl hdue ⟨congrArg Dev.saf h, .onDev ?_⟩
    rw [h]
    exact closeJudged_only true _
  case bad =>
    obtain ⟨h, hok⟩ := closeCheck_trips hbad
    exact .of_when (b := fun _ => closeCheckDue s.clk.frame s.dev) rfl hdue
      ⟨h.tripped, hok, h.now (notClosed_logged ..), .onDev h.only⟩
  case dropped =>
    have h := notClosed_row (s := s) (.refl _ s.dev) rfl (8 + mc) mc 1
    exact .of_when (b := fun d => quadsOn d && d.saf.closeOk && (mirrorOpen d).contains mc) rfl
      (by simp [quadsOn, hq, hok, hmc]) ⟨h.tripped, h.now (notClosed_logged ..), .onDev h.only⟩
  case serge =>
    obtain ⟨x, h⟩ := openingStep_waits hkind hdue hframe hm hlatch
    refine .of_devStep rfl ⟨?_, .onDev ?_⟩
    · rw [State.onDev_dev, h]
      simp [decaySet, openSerge, hm, hlatch]
    · rw [h]
      simp [devOnly_iff, decaySet, openSerge]
  case weld =>
    obtain ⟨x, h⟩ := openingStep_welds hdue hk
    have hw := openConclude_weld (d := decaySet x (openSerge s.dev)) ((outletShut_congr rfl).trans hshut) hdisp s k
    rw [← h] at hw
    have honly := ((openSerge_only s.dev).trans (decaySet_only x _)).trans hw.only
    refine .of_devStep rfl ⟨hw.weldLatch.trans (openSerge_welds hk), hw.openSt, hw.closed, hw.latch, ?_, .onDev honly⟩
    have hlog := hw.logged
    rwa [weldItems, if_neg (mirrorClosed_ne_three hk)] at hlog
  case concluded =>
    obtain ⟨x, h⟩ := openingStep_concludes hd hv
    have hshut' : outletShut (decaySet x s.dev) = false := (outletShut_congr rfl).trans hshut
    refine .of_devStep rfl ?_
    cases bad with
    | none =>
      have hp := openConclude_passed hshut' s
      rw [← h] at hp
      exact ⟨hp.openSt, fun _ hstop => hp.goesOn hstop, fun hstop => hp.closed (.inl hstop), by simp,
        .onDev (((decaySet_only x _).trans (provedOpen_only _)).trans hp.only)⟩
    | some what =>
      have hw := openConclude_weld hshut' hdisp s what
      rw [← h] at hw
      refine ⟨hw.openSt, by simp, fun _ => hw.closed, fun k hk => ?_, .onDev ((decaySet_only x _).trans hw.only)⟩
      obtain rfl := Option.some.inj hk
      exact ⟨hw.closed, hw.latch, hw.logged⟩
  case rearm =>
    by_cases hheld : requestsAgree s.dev = false ∨ s.dev.pow.causes.getLsbD Cause.safetyLatch = true
    · have h := rearm_held hheld s.clk.frame
      refine .of_when (b := fun _ => s.clk.running) rfl hr ⟨fun _ => ?_, fun hagree hlatch => ?_, .onDev ?_⟩
      · rw [State.onDev, h]
      · simp [hagree, hlatch] at hheld
      · rw [h]
        exact .refl _ _
    · obtain ⟨hagree, hlatch⟩ := not_or.1 hheld
      have h := rearm_released (Bool.not_eq_false _ ▸ hagree) (Bool.eq_false_iff.2 hlatch) s.clk.frame
      refine .of_when (b := fun _ => s.clk.running) rfl hr ⟨fun hc => absurd hc hheld, fun _ _ =>
        ⟨fun k hk => ?_, h.weldLatch, fun f hf => ?_, h.logged⟩, .onDev ((weldReleased_only _).trans h.only)⟩
      · exact (congrArg (·.getLsbD k) h.sFaults).trans (weldReleased_sFaults _ hk)
      · refine (h.trips f hf).trans ?_
        rw [decide_eq_decide.2 (mem_releasable s.dev f)]
        rfl
  case expired =>
    exact .of_when (b := fun _ => s.clk.running && confirmExpired s.clk.frame s.dev) rfl
      (by simp [confirmExpired, hr, hst, hframe])
      ⟨rfl, rfl, .onDev (by simp [devOnly_iff])⟩

end

section
/-!
SUPPORT. What the steps of a start-up change (R57, R113, R191, R218), as frames.
-/

namespace Sys2Proof.Machine

/-! The clock, the tariff step and the values of a tick. -/

theorem rtcLoadEff_only (d : Dev) : DevOnly [.tar] d (rtcLoadEff d) := by
  unfold rtcLoadEff
  split
  · exact .refl _ d
  · simp [devOnly_iff]

theorem rtcTick_only (advance : Nat) (d : Dev) : DevOnly [.tar] d (rtcTick advance d) :=
  (rtcLoadEff_only d).trans (.ite (fun _ => by simp [devOnly_iff]) fun _ => by simp [devOnly_iff])

theorem clockTick_only (d : Dev) : DevOnly [.tar] d (clockTick d) := by
  unfold clockTick
  split
  · simp [devOnly_iff]
  · exact .refl _ d

theorem startClock_only (advance : Nat) (d : Dev) : DevOnly [.tar] d (startClock advance d) := by
  unfold startClock
  extract_lets t _ u
  have ht : DevOnly [.tar] d t := .ite (fun _ => rtcLoadEff_only d) fun _ => .refl _ d
  have hu : DevOnly [.tar] t u := DevOnly.trans (by simp [devOnly_iff]) (rtcTick_only _ _)
  exact (ht.trans hu).trans (clockTick_only u)

/-- The parts that a tariff step may change. -/
abbrev tariffParts : List Part := [.log, .led, .tar]

theorem calendarStep_only (d : Dev) : DevOnly tariffParts d (calendarStep d) := by
  unfold calendarStep
  split
  · exact .refl _ d
  · exact .ite (fun _ => by simp [devOnly_iff]) fun _ => .refl _ d

theorem demandClose_only (j endTime : Nat) (short : Bool) (r : Regs) (d : Dev) :
    DevOnly tariffParts d (demandClose j endTime short r d) := by
  unfold demandClose
  split
  · exact .refl _ d
  · exact .ite (fun _ => by simp [devOnly_iff]) fun _ => by simp [devOnly_iff]

theorem demandStep_only (r : Regs) (d : Dev) (j : Nat) : DevOnly tariffParts d (demandStep r d j) :=
  .ite (fun _ => demandClose_only _ _ _ _ _) fun _ => .ite (fun _ => demandClose_only _ _ _ _ _) fun _ => .refl _ d

theorem billingClose_only (n endTime cause : Nat) (d : Dev) : DevOnly tariffParts d (billingClose n endTime cause d) := by
  simp [devOnly_iff, billingClose]

theorem billingStep_only (n : Nat) (d : Dev) : DevOnly tariffParts d (billingStep n d) := by
  unfold billingStep
  split
  · exact billingClose_only _ _ _ _
  · split
    · exact billingClose_only _ _ _ _
    · exact .refl _ d

theorem tariffSwitch_only (n : Nat) (d : Dev) : DevOnly tariffParts d (tariffSwitch n d) :=
  .ite (fun _ => .refl _ d) fun _ => by simp [devOnly_iff]

theorem startTariff_only (c : Choice) (r : Regs) (d : Dev) : DevOnly tariffParts d (startTariff c r d) := by
  unfold startTariff
  extract_lets k _ x live
  have hx : DevOnly tariffParts d x := by simp [devOnly_iff, x]
  split
  · exact hx
  · extract_lets t status y z
    have hy : DevOnly tariffParts x y := by simp [devOnly_iff, y]
    have hz : DevOnly tariffParts y z := (calendarStep_only y).trans <| (DevOnly.foldl (demandStep_only r) _ _).trans <|
      (billingStep_only _ _).trans (tariffSwitch_only _ _)
    clear_value z
    exact ((hx.trans hy).trans hz).trans (by simp [devOnly_iff])

/-- The parts that the delivery of a tick's values may change beside the values. -/
abbrev deliveryParts : List Part := [.log, .metr, .led, .tar, .disp, .gplc, .cal, .keys]

theorem tamperDetect_only (n src cls : Nat) (d : Dev) : DevOnly deliveryParts d (tamperDetect n src cls d) :=
  .ite (fun _ => .refl _ d) fun _ => .ite (fun _ => by simp [devOnly_iff, countErasure, keyz]) fun _ => by simp [devOnly_iff]

theorem tamperRaised_only (n old : Nat) (d : Dev) : DevOnly deliveryParts d (tamperRaised n old d) :=
  .foldl (fun e _ => .ite (fun _ => tamperDetect_only _ _ _ _) fun _ => .refl _ e) _ d

theorem extStep_only (a : Nat) (d : Dev) : DevOnly deliveryParts d (extStep a d) := by
  unfold extStep
  split
  · exact .ite (fun _ => .refl _ d) fun _ => by simp [devOnly_iff]
  · exact .refl _ d

theorem afterDelivery_only (n : Nat) (r : Regs) (old : Dev) (ids : List Nat) (d : Dev) :
    DevOnly deliveryParts d (afterDelivery n r old ids d) := by
  have opt (c : Prop) [Decidable c] {e f : Dev} (h : DevOnly deliveryParts e f) :
      DevOnly deliveryParts e (if c then f else e) :=
    .ite (fun _ => h) fun _ => .refl _ e
  have demand (e : Dev) (j : Nat) : DevOnly deliveryParts e (demandRestart r e j) := by simp [devOnly_iff, demandRestart]
  have profile (e : Dev) (p : Nat) : DevOnly deliveryParts e (profileRestart e p) := by simp [devOnly_iff, profileRestart]
  have disp (e : Dev) : DevOnly deliveryParts e (dispRestart n e) := by simp [devOnly_iff, dispRestart]
  have harv (e : Dev) : DevOnly deliveryParts e { e with cal := { e.cal with harvOut := false } } := by simp [devOnly_iff]
  have ext (e : Dev) : DevOnly deliveryParts e (extStepAll e) := .foldl (fun _ _ => extStep_only _ _) _ e
  have pan (e : Dev) : DevOnly deliveryParts e (leavePan e) := by simp [devOnly_iff, leavePan]
  unfold afterDelivery
  extract_lets has x y z w v a _ b c
  have hx : DevOnly deliveryParts d x := opt _ (tamperRaised_only n _ d)
  have hz : DevOnly deliveryParts y z := .foldl (fun e j => opt _ ((tempUpdate_only j e).mono (by decide))) _ y
  have hw : DevOnly deliveryParts z w := .foldl (fun e j => opt _ (demand e j)) _ z
  have hv : DevOnly deliveryParts w v := .foldl (fun e p => opt _ (profile e p)) _ w
  have ha : DevOnly deliveryParts v a := opt _ ((nameplateWrite_only v).mono (by decide))
  exact hx.trans <| (opt _ (disp x)).trans <| hz.trans <| hw.trans <| hv.trans <| ha.trans <| (opt _ (harv a)).trans <|
    (opt _ (ext b)).trans (opt _ (pan c))

end Sys2Proof.Machine

end

section
/-!
PROOF. Until the safety check value is recomputed a start-up leaves the confirmation, where nothing waits for a tick (R57,
R304).
-/

namespace Sys2Proof.Machine

/-- The confirmation of the safety set, and what waits for the next tick, which may revoke it (R113, R304). -/
def Dev.setWaits (d : Dev) : Nat × Nat × List Staged := (d.saf.confirmSt, d.saf.confirmed, d.acs.nextTick)

theorem setWaits_of_only {ps : List Part} {d e : Dev} (h : DevOnly ps d e) (hs : .saf ∉ ps := by decide)
    (ha : .acs ∉ ps := by decide) : e.setWaits = d.setWaits := by
  rw [Dev.setWaits, h .saf hs, h .acs ha]
  rfl

theorem setWaits_iff {d : Dev} {k : Nat} :
    d.setWaits = (2, k, []) ↔ d.saf.confirmSt = 2 ∧ d.saf.confirmed = k ∧ d.acs.nextTick = [] := by simp [Dev.setWaits]

/-- The parts beside the safety functions and the command set. -/
abbrev startParts : List Part := [.lanes, .pow, .win, .par, .log, .samp, .metr, .led, .tar, .disp, .veh, .ses, .dc, .sw, .gplc,
  .dlms, .nfc, .cal, .keys, .upd, .diag]

/-! Before the login ends (R57, R58, R191). -/

theorem batteryUp_only (n : Nat) (d : Dev) : DevOnly startParts d (batteryUp n d) := by
  unfold batteryUp
  extract_lets _ x y
  have hx : DevOnly startParts d x := by simp [devOnly_iff, x, keyz]
  have hy : DevOnly startParts x y := .ite (fun _ => .refl _ x) fun _ => by simp [devOnly_iff]
  clear_value y
  exact (hx.trans hy).trans (by simp [devOnly_iff])

theorem recoveryEvents_only (c : Choice) (breaks : List (Nat × Nat)) (d : Dev) :
    DevOnly startParts d (recoveryEvents c breaks d) := by
  unfold recoveryEvents
  extract_lets _ x y z
  have hx : DevOnly startParts d x := by simp [devOnly_iff, x]
  have hy : DevOnly startParts x y := .ite (fun _ => by simp [devOnly_iff]) fun _ => .refl _ x
  have hz : DevOnly startParts y z := .ite (fun _ => by simp [devOnly_iff]) fun _ => .refl _ y
  exact hx.trans <| hy.trans <| hz.trans (.foldl (fun _ _ => by simp [devOnly_iff]) _ _)

theorem startCrystals_only (m : Nat) (u : StartIn) (was : Lanes) (d : Dev) :
    DevOnly startParts d (startCrystals m u was d) := by
  unfold startCrystals
  extract_lets x
  have hx : DevOnly startParts d x := .ite (fun _ => .refl _ d) fun _ => by simp [devOnly_iff, Dev.sergeRaise]
  exact hx.trans (.ite (fun _ => .refl _ x) fun _ => by simp [devOnly_iff, Dev.sergeRaise])

theorem startLost_only (d : Dev) : DevOnly startParts d (startLost d) := by
  unfold startLost
  extract_lets lost
  have h (l : Lane) (e : Dev) : DevOnly startParts e (lost l e) := .when fun _ => by simp [devOnly_iff]
  exact (h .a d).trans (h .b _)

theorem restoreCounters_setWaits (l : List (Nat × Nat)) (d : Dev) : (restoreCounters l d).setWaits = d.setWaits := rfl

/-! After the login ended (R46, R58, R114, R193). -/

theorem discardSet_setWaits (o : Owner) (cause : Nat) (d : Dev) : (discardSet o cause d).setWaits = d.setWaits := by
  unfold discardSet
  cases o <;> (dsimp only; split <;> rfl)

theorem discardAll_setWaits (cause : Nat) (d : Dev) : (discardAll cause d).setWaits = d.setWaits := by
  have h (l : List (Nat × Pending)) (e : Dev) :
      (l.foldl (fun d p => discardSet (.headEnd p.1) cause d) e).setWaits = e.setWaits := by
    induction l generalizing e with
    | nil => rfl
    | cons p l ih => exact (ih _).trans (discardSet_setWaits ..)
  exact (h _ _).trans (discardSet_setWaits ..)

theorem clearTests_setWaits {d : Dev} {k : Nat} (h : d.setWaits = (2, k, [])) : (clearTests d).setWaits = (2, k, []) := by
  obtain ⟨hst, hk, hnext⟩ := setWaits_iff.1 h
  simp [Dev.setWaits, clearTests, hst, hk, hnext]

theorem reconcileCounters_only (v a b : Bool) (d : Dev) : DevOnly startParts d (reconcileCounters v a b d) := by
  unfold reconcileCounters
  extract_lets pick m mask
  exact DevOnly.trans (by simp [devOnly_iff])
    (.foldl (fun e _ => .ite (fun _ => .refl _ e) fun _ => by simp [devOnly_iff]) _ _)

theorem endEstims_only (c : Choice) (d : Dev) : DevOnly startParts d (endEstims c d) := by
  refine .foldl (fun e _ => .ite (fun _ => ?_) fun _ => .ite (fun _ => ?_) fun _ => .refl _ e) _ d
  · simp [devOnly_iff, raiseAll]
  · simp [devOnly_iff, phaseGap, addGap]

theorem startJob_setWaits (k : JobKind) (own arg : Nat) (d : Dev) : (startJob k own arg d).setWaits = d.setWaits := rfl

theorem startJobs_setWaits (d : Dev) : (startJobs d).setWaits = d.setWaits := by
  have h (l : List Record) (e : Dev) : (l.foldl (fun d r => startJob .signing 0 r.number d) e).setWaits = e.setWaits := by
    induction l generalizing e with
    | nil => rfl
    | cons r l ih => exact (ih _).trans (startJob_setWaits ..)
  unfold startJobs
  extract_lets _ _ _ x _ y
  have hy : y.setWaits = d.setWaits := by
    unfold y
    split <;> rfl
  exact (h _ y).trans hy

theorem startSaf_setWaits {d : Dev} {k : Nat} (h : d.setWaits = (2, k, [])) (m : Nat) :
    ({ d with saf := startSaf m d.saf } : Dev).setWaits = (2, k, []) := by
  obtain ⟨hst, hk, hnext⟩ := setWaits_iff.1 h
  simp [Dev.setWaits, startSaf, hst, hk, hnext]

theorem queueStep_setWaits {d : Dev} (h : d.acs.nextTick = []) (n : Nat) (r : Regs) :
    (queueStep n r d).setWaits = d.setWaits := by
  unfold queueStep
  extract_lets q _ e
  have hq : q = [] := h
  have he : e.setWaits = d.setWaits := by rw [Dev.setWaits, Dev.setWaits, h]
  rw [hq]
  exact (setWaits_of_only (afterDelivery_only n r d _ e)).trans he

/-- With nothing queued the tick of frame m delivers nothing. -/
theorem startQueue_setWaits {d : Dev} (h : d.acs.nextTick = []) (m : Nat) (r : Regs) :
    (startQueue m r d).setWaits = d.setWaits := by
  have hnone : d.acs.nextTick.filter (fun e => storedId e.id && !volatileId e.id) = [] := by rw [h, List.filter_nil]
  unfold startQueue
  refine (queueStep_setWaits hnone m r).trans ?_
  rw [Dev.setWaits, Dev.setWaits, hnone, h]

theorem readerStart_only (n : Nat) (d : Dev) : DevOnly startParts d (readerStart n d) := by
  unfold readerStart
  extract_lets x
  have hx : DevOnly startParts d x := .ite (fun _ => (swapBanks_only n d).mono (by decide)) fun _ => .refl _ d
  clear_value x
  exact hx.trans (by simp [devOnly_iff])

/-- What a start-up does between the ledger and the end of the login. -/
theorem startPower_setWaits (m : Nat) (u : StartIn) (d : Dev) :
    (discardAll 2 (loginEnds (startPower m u (startLost d)))).setWaits = d.setWaits := by
  have hp (e : Dev) : (startPower m u e).setWaits = e.setWaits := rfl
  exact (discardAll_setWaits ..).trans <| (setWaits_of_only (loginEnds_only _)).trans <| (hp _).trans <|
    setWaits_of_only (startLost_only d)

theorem startDev_setWaits {d : Dev} {k : Nat} (h : d.setWaits = (2, k, [])) (m : Nat) (c : Choice) (r : Regs) (u : StartIn) :
    (startDev m c r u d).setWaits = (2, k, []) := by
  unfold startDev
  extract_lets cold was d₁ d₂ _ d₃ d₄ d₅ d₆ d₇ _ d₈ d₉ _ _ d₁₀ d₁₁
  have h₁ : d₁.setWaits = (2, k, []) := by
    refine .trans (setWaits_of_only (ps := startParts) ?_) h
    exact .ite (fun _ => .refl _ d) fun _ => batteryUp_only _ d
  have h₂ : d₂.setWaits = (2, k, []) :=
    (setWaits_of_only (recoveryEvents_only c _ _)).trans ((restoreCounters_setWaits ..).trans h₁)
  have h₄ : d₄.setWaits = (2, k, []) := .trans (setWaits_of_only (startCrystals_only m u _ _)) h₂
  have h₅ : d₅.setWaits = (2, k, []) := (startPower_setWaits ..).trans h₄
  have h₆ : d₆.setWaits = (2, k, []) :=
    (setWaits_of_only (reconcileCounters_only _ _ _ _)).trans (clearTests_setWaits (d := dropVolatile d₅) h₅)
  clear_value d₆
  have h₇ : d₇.setWaits = (2, k, []) :=
    (setWaits_of_only (startTariff_only c r _)).trans ((setWaits_of_only (startClock_only u.rtcAdvance d₆)).trans h₆)
  clear_value d₇
  have h₈ : d₈.setWaits = (2, k, []) := (startJobs_setWaits _).trans ((setWaits_of_only (endEstims_only c _)).trans h₇)
  clear_value d₈
  have h₉ : d₉.setWaits = (2, k, []) := startSaf_setWaits h₈ m
  clear_value d₉
  have h₁₀ : d₁₀.setWaits = (2, k, []) := h₉
  have h₁₁ : d₁₁.setWaits = (2, k, []) := (startQueue_setWaits (setWaits_iff.1 h₁₀).2.2 m r).trans h₁₀
  clear_value d₁₁
  have hg (e : Dev) : (drawNonce m (gridStart e)).setWaits = e.setWaits := rfl
  have hp (e : Dev) : (startPeriods (demandsShort e)).setWaits = e.setWaits := rfl
  exact (hg _).trans <| (setWaits_of_only (readerStart_only m _)).trans <| (hp d₁₁).trans h₁₁

/-! The causes and the trial of a start-up (R299, R431). -/

theorem startCauses_only (ok : Bool) (m : Mode) (d : Dev) : DevOnly startParts d (startCauses ok m d) := by
  unfold startCauses
  extract_lets _ x y z
  have hy : DevOnly startParts d y := DevOnly.trans (e := x) (by simp [devOnly_iff, x]) <|
    .ite (fun _ => .refl _ x) fun _ => by simp [devOnly_iff]
  have hz : DevOnly startParts y z := DevOnly.trans (e := y.setCause Cause.degradedEnd) (by simp [devOnly_iff])
    ((setCauses_only _ _).mono (by decide))
  clear_value z
  exact .ite (fun _ => (hy.trans hz).trans (by simp [devOnly_iff])) fun _ => hy

theorem startBootRecovery_only (d : Dev) : DevOnly startParts d (startBootRecovery d) :=
  .ite (fun _ => by simp [devOnly_iff]) fun _ => by simp [devOnly_iff]

theorem bootTrial_only (m target : Nat) (d : Dev) : DevOnly startParts d (bootTrial m target d) := by
  unfold bootTrial
  exact DevOnly.trans (by simp [devOnly_iff]) ((metrActivated_only _ _ _ _).mono (by decide))

theorem bootReverted_only (a : Activation) (d : Dev) : DevOnly startParts d (bootReverted a d) := by
  unfold bootReverted
  extract_lets x
  have hx : DevOnly startParts d x := .ite (fun _ => (metrActivated_only _ _ _ _).mono (by decide)) fun _ => .refl _ d
  clear_value x
  refine hx.trans ?_
  split
  · exact .ite (fun _ => (revertDone_only _ _).mono (by decide)) fun _ => by simp [devOnly_iff]
  · simp [devOnly_iff]

theorem startActivationState_only (m : Nat) (factory : Bool) (d : Dev) :
    DevOnly startParts d (startActivationState m factory d) := by
  unfold startActivationState
  extract_lets _ x
  have hx : DevOnly startParts d x := by simp [devOnly_iff, x]
  refine hx.trans ?_
  split
  · exact bootTrial_only _ _ _
  · split
    · exact bootReverted_only _ _
    · exact .ite (fun _ => bootTrial_only _ _ _) fun _ => .refl _ x

end Sys2Proof.Machine

end

section
/-!
PROOF. What frame m of a start-up leaves of the safety set: its confirmation and its parameters stay, and SAFETY_LATCH stays set
(R46, R58, R304).
-/

namespace Sys2Proof.Machine

/-- The confirmation of the safety set, and the value it was confirmed with. -/
def Saf.confirmation (x : Saf) : Nat × Nat := (x.confirmSt, x.confirmed)

/-- From d to e the confirmation and the parameters stay, and SAFETY_LATCH is not cleared. -/
structure CheckKept (d e : Dev) : Prop where
  set : e.saf.confirmation = d.saf.confirmation
  par : e.par = d.par
  latch : d.pow.causes.getLsbD Cause.safetyLatch = true → e.pow.causes.getLsbD Cause.safetyLatch = true

namespace CheckKept

theorem refl (d : Dev) : CheckKept d d := ⟨rfl, rfl, id⟩

theorem trans {d e f : Dev} (h : CheckKept d e) (k : CheckKept e f) : CheckKept d f :=
  ⟨k.set.trans h.set, k.par.trans h.par, k.latch ∘ h.latch⟩

/-- What changes neither the confirmation nor the parameters, nor the causes. -/
theorem of_eq {d e : Dev} (hs : e.saf.confirmation = d.saf.confirmation) (hp : e.par = d.par)
    (hc : e.pow.causes = d.pow.causes) : CheckKept d e := ⟨hs, hp, by rw [hc]; exact id⟩

theorem of_only {ps : List Part} {d e : Dev} (h : DevOnly ps d e) (hs : .saf ∉ ps := by decide) (hp : .par ∉ ps := by decide)
    (hw : .pow ∉ ps := by decide) : CheckKept d e :=
  of_eq (by rw [h .saf hs]) (h .par hp) (by rw [h .pow hw])

theorem raise (src code : Nat) (data : List Byte) (d : Dev) : CheckKept d (d.raise src code data) := of_eq rfl rfl rfl

/-- The composition of two steps, the later one first. -/
theorem comp {d e f : Dev} (k : CheckKept e f) (h : CheckKept d e) : CheckKept d f := h.trans k

/-- A step after a change of other parts. -/
theorem after {d e f : Dev} (k : CheckKept e f) (hs : e.saf.confirmation = d.saf.confirmation) (hp : e.par = d.par)
    (hc : e.pow.causes = d.pow.causes) : CheckKept d f := (of_eq hs hp hc).trans k

theorem ite {d e f : Dev} {c : Prop} [Decidable c] (h : CheckKept d e) (k : CheckKept d f) :
    CheckKept d (if c then e else f) := by
  split <;> assumption

theorem when {d : Dev} {f : Dev → Dev} (h : CheckKept d (f d)) (c : Bool) : CheckKept d (d.when c f) := by
  cases c
  · exact refl d
  · exact h

theorem foldl {α : Type} {f : Dev → α → Dev} (h : ∀ d a, CheckKept d (f d a)) (l : List α) (d : Dev) :
    CheckKept d (l.foldl f d) := by
  induction l generalizing d with
  | nil => exact refl d
  | cons a l ih => exact (h d a).trans (ih _)

end CheckKept

/-! Trips and the end of a session (R255, R269). -/

theorem trip_checkKept (s : State) {f : Nat} (hf : f < 16) (tier : Nat) (value : Int) (sBit : Option Nat) (d : Dev) :
    CheckKept d (trip s f tier value sBit d) := by
  have h := trip_leaves s hf tier value sBit d
  have hu := trip_untripped s f tier value sBit d
  have hset := congrArg Saf.confirmation hu
  exact ⟨hset, h.only .par (by decide), h.grows.causes _⟩

theorem endSession_checkKept (s : State) (cause : Nat) (d : Dev) : CheckKept d (endSession s cause d) := by
  have hset := congrArg Saf.confirmation (endSession_lasting s cause d)
  exact ⟨hset, endSession_only s cause d .par (by decide), (Grows.endSession s cause d).causes _⟩

theorem closeSession_checkKept (s : State) (cause : Nat) {ev : Dev → Dev} (hev : ∀ d, CheckKept d (ev d)) (d : Dev) :
    CheckKept d (closeSession s cause ev d) := by
  obtain ⟨bal, h⟩ := closeSession_eq s cause ev d
  have hclear (arg : Nat) (e : Dev) : CheckKept e (clearSession s.clk.frame (clearNmk (startJob .signing 0 arg e))) :=
    .of_eq rfl rfl rfl
  rw [h]
  exact (hclear ..).comp <| (CheckKept.of_only (balanceLog_only _ _ _)).comp <|
    (hev _).comp (.of_only (closingRecord_only s cause d))

theorem pathMLost_checkKept (s : State) (value : Int) (d : Dev) : CheckKept d (pathMLost s value d) :=
  (trip_checkKept s (by decide) ..).after rfl rfl rfl

theorem peTrip_checkKept (s : State) (d : Dev) : CheckKept d (peTrip s d) :=
  (CheckKept.when (trip_checkKept s (by decide) ..) _).trans (.when (trip_checkKept s (by decide) ..) _)

theorem channelConsequence_checkKept (s : State) (c : Nat) (d : Dev) : CheckKept d (channelConsequence s c d) :=
  .ite (pathMLost_checkKept ..) (.ite (peTrip_checkKept ..) (.ite (endSession_checkKept ..) (.refl d)))

/-! The work of frame m (R46, R58, R191, R194, R459). -/

theorem startSession10_checkKept (c : Choice) (s : State) (d : Dev) : CheckKept d (startSession10 c s d) :=
  .ite ((closeSession_checkKept s _ (fun _ => .raise ..) _).after rfl rfl rfl) (.refl d)

theorem rebuildArray_checkKept (n : Nat) (l : Lane) (d : Dev) : CheckKept d (rebuildArray n l d) :=
  .ite (.refl d) (.ite (.of_eq rfl rfl rfl) (.of_eq rfl rfl rfl))

theorem startArrays_checkKept (m : Nat) (u : StartIn) (d : Dev) : CheckKept d (startArrays m u d) :=
  .ite (rebuildArray_checkKept ..) (.ite (rebuildArray_checkKept ..) (.refl d))

theorem startGap_checkKept (m ms : Nat) (c : Choice) (d : Dev) : CheckKept d (startGap m ms c d) := by
  unfold startGap
  split
  · exact .refl d
  · exact .of_eq rfl rfl rfl

theorem startTests_checkKept (s : State) (u : StartIn) (d : Dev) : CheckKept d (startTests s u d) := by
  refine (CheckKept.of_only (selftest_only _ _ _ _ _)).comp <| (CheckKept.of_only (selftest_only _ _ _ _ _)).comp <|
    CheckKept.foldl (fun e c => ?_) _ _
  exact (channelConsequence_checkKept ..).comp (.of_only (channelFaultEff_only c true e))

theorem drainQueue_checkKept (d : Dev) : CheckKept d (drainQueue d) :=
  (CheckKept.foldl (fun _ _ => .raise ..) _ _).after rfl rfl rfl

theorem drainRing_checkKept (d : Dev) : CheckKept d (drainRing d) :=
  (CheckKept.foldl (fun _ _ => .raise ..) _ _).after rfl rfl rfl

theorem dropSlots_checkKept (bad : BitVec 16) (d : Dev) : CheckKept d (dropSlots bad d) := by
  refine CheckKept.comp (.foldl (fun e k => .ite ?_ (.refl e)) _ _) ?_
  · exact (CheckKept.raise ..).comp (.of_eq rfl rfl rfl)
  · exact .of_eq rfl rfl rfl

theorem identityCheck_checkKept (m : Mode) (ok : Bool) (d : Dev) : CheckKept d (identityCheck m ok d) := by
  unfold identityCheck
  split
  · exact .ite (.of_eq rfl rfl rfl) (.refl d)
  · exact .ite (.of_eq rfl rfl rfl) (.of_eq rfl rfl rfl)

theorem bridgeClear_checkKept (d : Dev) : CheckKept d (bridgeClear d) := .ite (.of_eq rfl rfl rfl) (.refl d)

theorem followCommand_checkKept (n k : Nat) (d : Dev) : CheckKept d (followCommand n k d) :=
  .ite (.of_eq rfl rfl rfl) <| .ite (.of_eq rfl rfl rfl) <| .ite (.of_eq rfl rfl rfl) <|
    .ite (.ite (.of_eq rfl rfl rfl) (.refl d)) (.ite (.of_eq rfl rfl rfl) (.refl d))

theorem setCommand_checkKept (n k cmd duty : Nat) (d : Dev) : CheckKept d (setCommand n k cmd duty d) :=
  .ite (.ite (.of_eq rfl rfl rfl) (.of_eq rfl rfl rfl)) (.of_eq rfl rfl rfl)

theorem ruleStep_checkKept (s : State) (k : Nat) (d : Dev) : CheckKept d (ruleStep s k d) := by
  unfold ruleStep
  split
  · exact .ite (.refl d) (setCommand_checkKept ..)
  · exact .refl d

theorem channelApply_checkKept (s : State) (k : Nat) (d : Dev) : CheckKept d (channelApply s k d) := by
  unfold channelApply
  extract_lets n x y z
  have hy : CheckKept x y := by
    unfold y
    split
    · exact setCommand_checkKept ..
    · exact .refl x
  have hz : CheckKept y z := .ite (.of_eq rfl rfl rfl) (.refl y)
  have hp (e : Dev) : CheckKept e (pwmRetune n k e) := .when (.of_eq rfl rfl rfl) _
  exact (ruleStep_checkKept s k d).trans <| hy.trans <| hz.trans <| (hp z).trans (followCommand_checkKept ..)

theorem stageApply_checkKept (s : State) (d : Dev) : CheckKept d (stageApply s d) :=
  .ite ((bridgeClear_checkKept d).trans (.foldl (fun _ _ => channelApply_checkKept ..) _ _)) (.refl d)

theorem stageStart_checkKept (s : State) (latches : List (Bool × Nat)) (fb : Bool) (d : Dev) :
    CheckKept d (stageStart s latches fb d) := by
  have hl (was : Nat) (e : Dev) : CheckKept e (lockStart was e) := (CheckKept.when (.raise ..) _).after rfl rfl rfl
  exact (stageApply_checkKept ..).comp ((hl ..).after rfl rfl rfl)

theorem writeAll_checkKept {o : Owner} {es : List Staged} {d e : Dev} (h : writeAll o es d = some e) : CheckKept d e := by
  have hq (d : Dev) (x : Staged) : CheckKept d (queueWrite o d x) := by
    cases x with
    | num id v => exact .of_only (queueWrite_num_only o d id v)
    | blk => exact .of_eq rfl rfl rfl
  unfold writeAll at h
  dsimp only at h
  split at h
  · cases h
  · exact Option.some.inj h ▸ (CheckKept.foldl hq _ _).comp (.of_only (setPending_only o _ d))

theorem calicoValidate_checkKept (s : State) (d : Dev) : CheckKept d (calicoValidate s d) := by
  have hresult (r : Nat) (e : Dev) : CheckKept e (calicoResult r e) := .of_eq rfl rfl rfl
  have hrejected (r : Nat) (e : Dev) : CheckKept e (calicoRejected r e) := .of_eq rfl rfl rfl
  unfold calicoValidate
  refine .ite (hresult ..) (.ite (hrejected ..) ?_)
  split
  · exact hrejected ..
  · split
    · exact hrejected ..
    · next h => exact (CheckKept.raise ..).comp <| (hresult ..).comp (writeAll_checkKept h)

theorem startedWork_checkKept (m : Nat) (c : Choice) (u : StartIn) (old : Mode) (s : State) (d : Dev) :
    CheckKept d (startedWork m c u old s d) := by
  have ho (e : Dev) : CheckKept e (startOutlet e) := .of_eq rfl rfl rfl
  have hckpt (e : Dev) : CheckKept e (e.ckptDue 4) := .of_eq rfl rfl rfl
  unfold startedWork
  extract_lets mode x y z w v a
  have hx : CheckKept d x := (ho _).comp (startSession10_checkKept c s d)
  have hy : CheckKept x y := (startGap_checkKept ..).comp <| (startArrays_checkKept ..).comp (hckpt x)
  have hz : CheckKept y z := .ite (.refl y) (.of_eq rfl rfl rfl)
  clear_value z
  have hw : CheckKept z w :=
    (dropSlots_checkKept ..).comp <| (drainRing_checkKept _).comp <| (drainQueue_checkKept _).comp (startTests_checkKept s u z)
  have ha : CheckKept w a := (stageStart_checkKept ..).comp (identityCheck_checkKept ..)
  have h := (hw.trans ha).trans (CheckKept.ite (c := calicoWaits a = true) (calicoValidate_checkKept s a) (.refl a))
  exact hx.trans (hy.trans (hz.trans h))

/-! The metering of frame m, and what follows it. -/

theorem metrFrame_checkKept (s : State) : CheckKept s.dev (metrFrame s).dev := by
  have hgaps (n side : Nat) (old new : List (Nat × Estim)) (d : Dev) : CheckKept d (gapEnds n side old new d) := by
    refine .foldl (fun e _ => ?_) _ d
    exact .ite (.of_eq rfl rfl rfl) (.refl e)
  have hreverse (n : Nat) (r : Regs) (grew : Nat → Bool) (d : Dev) : CheckKept d (reverseStep n r grew d) := by
    refine .foldl (fun e _ => ?_) _ d
    exact .ite (.of_eq rfl rfl rfl) (.of_eq rfl rfl rfl)
  have hstop (n : Nat) (d : Dev) : CheckKept d (stopGridEpisodes n d) := .of_eq rfl rfl rfl
  unfold metrFrame
  extract_lets n x g _ y o _ z dc _ u booked regs _ v grew w old a b c _ e
  have hx : CheckKept s.dev x := .of_eq rfl rfl rfl
  have hy : CheckKept x y := (hstop n _).comp (.of_eq rfl rfl rfl)
  have hz : CheckKept y z := .of_eq rfl rfl rfl
  have hu : CheckKept z u := .of_eq rfl rfl rfl
  have hv : CheckKept u v := .of_eq rfl rfl rfl
  have he : CheckKept c e := .of_eq rfl rfl rfl
  exact he.comp <| (hgaps ..).comp <| (hgaps ..).comp <| (hgaps ..).comp <| (hreverse ..).comp <| hv.comp <| hu.comp <|
    hz.comp <| hy.comp hx

theorem tariffStep_checkKept (n : Nat) (r : Regs) (d : Dev) : CheckKept d (tariffStep n r d) := by
  have hdst (e : Dev) : CheckKept e (dstStep e) := .ite (.refl e) (.of_eq rfl rfl rfl)
  have hprofiles (e : Dev) : CheckKept e (stepProfiles e) := by
    unfold stepProfiles
    split
    · exact .refl e
    · exact .ite (.of_eq rfl rfl rfl) (.of_eq rfl rfl rfl)
  have hmark (e : Dev) : CheckKept e (billMark e) := .of_eq rfl rfl rfl
  have hflags (e : Dev) : CheckKept e (lpFlags e) := .ite (.refl e) (.of_eq rfl rfl rfl)
  have hcapture (p : Nat) (e : Dev) : CheckKept e (lpCapture r p e) := by
    unfold lpCapture
    split
    · exact .refl e
    · exact .of_eq rfl rfl rfl
  have hlp (e : Dev) : CheckKept e (lpStep r e) := .foldl (fun f _ => .ite (hcapture ..) (.refl f)) _ e
  unfold tariffStep
  extract_lets a b c e f
  have hf : CheckKept f { f with tar := { f.tar with step := none } } := .of_eq rfl rfl rfl
  exact hf.comp <| (hlp _).comp <| (hflags _).comp <| (CheckKept.of_only (tariffSwitch_only n _)).comp <|
    (CheckKept.of_only (billingStep_only n _)).comp <|
    (CheckKept.foldl (fun e j => .of_only (demandStep_only r e j)) _ _).comp <|
    (CheckKept.of_only (calendarStep_only _)).comp <| (hmark _).comp <| (hprofiles _).comp (hdst d)

theorem lcdStep_checkKept (s : State) (d : Dev) : CheckKept d (lcdStep s d) := by
  refine .ite (.of_eq rfl rfl rfl) (.when ?_ _)
  unfold lcdRefresh
  split <;> exact .of_eq rfl rfl rfl

theorem startedEnd_checkKept (m : Nat) (s : State) : CheckKept s.dev (startedEnd m s).dev := by
  have hs (e : Dev) : CheckKept e (demandsShort e) := .of_eq rfl rfl rfl
  have hl (t : Nat) (e : Dev) : CheckKept e (limitStack t e) := .ite (.of_eq rfl rfl rfl) (.of_eq rfl rfl rfl)
  have hpub (t : State) (e : Dev) : CheckKept e (publish t e) := by
    unfold publish
    exact .of_eq rfl rfl rfl
  unfold startedEnd
  extract_lets x y z _ _ w
  have hx : CheckKept s.dev x := (hs _).comp (tariffStep_checkKept ..)
  have hy : CheckKept x y := .ite (.of_eq rfl rfl rfl) (.refl x)
  have hz : CheckKept y z := (CheckKept.of_only (calicoImageWrite_only m false s _)).comp (hl ..)
  have hw : CheckKept z w := (hpub ..).after rfl rfl rfl
  exact (lcdStep_checkKept ..).comp <| hw.comp <| hz.comp <| hy.comp hx

/-! The safety check value recomputed (R304). -/

theorem safetyCheckOf_congr {d e : Dev} (h : e.par = d.par) : safetyCheckOf e = safetyCheckOf d := by
  have hnum (id : Nat) : e.num id = d.num id := by rw [Dev.num, Dev.num, h]
  have hblk (id : Nat) : e.blk id = d.blk id := by rw [Dev.blk, Dev.blk, h]
  have hvalue (id : Nat) : valueBytes e id = valueBytes d id := by simp only [valueBytes, hnum, hblk]
  simp only [safetyCheckOf, setBytes, hvalue]

/-- A mismatch: the confirmation is void, SAFETY_LATCH is set, and it is logged. -/
def setMismatched (d : Dev) : Dev :=
  markS SBit.set ((({ d with saf := { d.saf with confirmSt := 0 } }).setCause Cause.safetyLatch).raise Src.serge
    Event.SAFETY_SET_MISMATCH (leBytes 8 (safetyCheckOf d) ++ leBytes 8 d.saf.confirmed))

/-- The set in force has been compared with the value k that it was confirmed with. -/
structure SetJudged (k : Nat) (d : Dev) : Prop where
  confirmed : d.saf.confirmed = k
  equal : safetyCheckOf d = k → d.saf.confirmSt = 2
  differs : safetyCheckOf d ≠ k → d.saf.confirmSt = 0 ∧ d.pow.causes.getLsbD Cause.safetyLatch = true ∧
    Ev.of Src.serge Event.SAFETY_SET_MISMATCH (leBytes 8 (safetyCheckOf d) ++ leBytes 8 k) ∈ d.log.now

theorem SetJudged.kept {k : Nat} {d e : Dev} (h : SetJudged k d) (hk : CheckKept d e) (hc : Calm d e) : SetJudged k e := by
  have hst : e.saf.confirmSt = d.saf.confirmSt := congrArg Prod.fst hk.set
  have hcheck := safetyCheckOf_congr hk.par
  refine ⟨(congrArg Prod.snd hk.set).trans h.confirmed, fun he => hst.trans (h.equal (hcheck ▸ he)), fun hne => ?_⟩
  rw [hcheck] at hne ⊢
  obtain ⟨hzero, hlatch, hlog⟩ := h.differs hne
  exact ⟨hst.trans hzero, hk.latch hlatch, hc.now hlog⟩

theorem startSafetySet_judged {d : Dev} {k : Nat} (hst : d.saf.confirmSt = 2) (hk : d.saf.confirmed = k) :
    SetJudged k (startSafetySet d) := by
  unfold startSafetySet
  by_cases hne : safetyCheckOf d ≠ d.saf.confirmed
  · rw [if_pos ⟨hst, hne⟩]
    show SetJudged k (setMismatched d)
    have hpar : safetyCheckOf (setMismatched d) = safetyCheckOf d := safetyCheckOf_congr rfl
    refine ⟨hk, fun he => absurd (he.trans hk.symm) (hpar ▸ hne), fun _ => ⟨rfl, ?_, ?_⟩⟩
    · exact cause_or_self d.pow.causes (by decide)
    · rw [hpar, ← hk]
      exact List.mem_append_right _ (List.mem_singleton_self _)
  · rw [if_neg fun h => hne h.2]
    exact ⟨hk, fun _ => hst, fun h => absurd (hk ▸ h) hne⟩

theorem commitFrame_setWaits (l : List (Nat × Nat)) (s : State) : (commitFrame l s).dev.setWaits = s.dev.setWaits := by
  unfold commitFrame
  split
  · extract_lets c put led
    cases c with
    | none => rfl
    | some c =>
      dsimp only
      split <;> split <;> rfl
  · rfl

theorem beforeStart_setWaits (u : StartIn) (s : State) : (beforeStart u s).dev.setWaits = s.dev.setWaits :=
  Eq.trans rfl (commitFrame_setWaits (liveCounters s.dev) s)

theorem startedDev_judged {s : State} {k : Nat} (h : s.dev.setWaits = (2, k, [])) (m : Nat) (c : Choice) (u : StartIn) :
    SetJudged k (startedDev m c u s) := by
  have hdev := startDev_setWaits h m c c.regs u
  have hset := (setWaits_of_only (startActivationState_only m (decide (persistedMode s c = .factory)) _)).trans <|
    (setWaits_of_only (startBootRecovery_only _)).trans <|
    (setWaits_of_only (startCauses_only u.laneProtoOk (persistedMode s c) _)).trans hdev
  obtain ⟨hst, hk, -⟩ := setWaits_iff.1 hset
  exact startSafetySet_judged hst hk

theorem frameM_judged {s : State} {k : Nat} (h : s.dev.setWaits = (2, k, [])) (m : Nat) (c : Choice) (u : StartIn) :
    SetJudged k (frameM m c u s).dev := by
  have hstart := startedDev_judged h m c u
  unfold frameM
  extract_lets d s'
  have hwork : SetJudged k (startedWork m c u (persistedMode s c) s' d) :=
    hstart.kept (startedWork_checkKept ..) (startedWork_leaves m c u _ s' d).1
  generalize startedWork m c u (persistedMode s c) s' d = e at hwork
  have hmetr : SetJudged k (metrFrame { s' with dev := e }).dev :=
    hwork.kept (metrFrame_checkKept { s' with dev := e }) (metrFrame_calm { s' with dev := e })
  exact hmetr.kept (startedEnd_checkKept m _) (startedEnd_calm m _)

end Sys2Proof.Machine

open Sys2Proof Sys2Proof.Machine

/-- Settles O19: until the check nothing of a start-up touches the confirmation, and the work of frame m keeps the verdict. -/
theorem safetySetAtStart : Obligations.SafetySetAtStart := by
  unfold Obligations.SafetySetAtStart
  intro u c s hs hst hnext
  have hwaits : (beforeStart u s).dev.setWaits = (2, s.dev.saf.confirmed, []) :=
    (beforeStart_setWaits u s).trans (setWaits_iff.2 ⟨hst, rfl, hnext⟩)
  have h := frameM_judged hwaits (c.frame + 1) c u
  exact ⟨_, exec_startUp hs, h.confirmed, h.differs, h.equal⟩

end

section
/-!
PROOF. The channels of the load-switch stage (R314, R317 to R321).
-/

namespace Sys2Proof.Machine

/-! One channel. -/

theorem Sw.get_of {x : Sw} {k : Nat} {h : Hsw} (hh : x.ch[k - 1]? = some h) : x.get k = h := by
  rw [Sw.get, nth, hh, Option.getD_some]

theorem onHsw_of {k : Nat} {h : Hsw} {d : Dev} (hh : d.sw.ch[k - 1]? = some h) (f : Hsw → Hsw) :
    onHsw k f d = { d with sw := { d.sw with ch := d.sw.ch.set (k - 1) (f h) } } := by
  rw [onHsw, updAt, List.modify_eq_set_getElem?, hh]
  rfl

theorem hswNumber_of {k : Nat} (h₁ : 1 ≤ k) (h₈ : k ≤ 8) : hswNumber k = true := decide_eq_true ⟨h₁, h₈⟩

/-- A row that changes one channel where a condition holds. -/
theorem Completes.of_switch {c : Instr} {k : Nat} {h : Hsw} {s : State} {b : Bool} {g : Hsw → Hsw} {P : State → Prop}
    (hc : exec c s = devStep s (Dev.when b (onHsw k g))) (hb : b = true) (hh : s.dev.sw.ch[k - 1]? = some h)
    (hP : ∀ t, OnlySwitch k (g h) s t → OnlyChanges [.sw] s t → P t) : Completes c s P := by
  refine .of_when hc hb (hP _ ?_ (.onDev (onHsw_only k g _)))
  rw [OnlySwitch, State.onDev, onHsw_of hh]

/-! The inrush (R314). -/

theorem takeStep_done (n : Nat) (h : Hsw) :
    takeStep n 0 h = { h with st := 2, step := 0, stepAt := n, goodSince := n } := if_pos rfl

theorem takeStep_next {j : Nat} (hj : j ≠ 0) {h : Hsw} (hst : h.st = 1) (n : Nat) :
    takeStep n j h = { h with step := j, stepAt := n } := by
  rw [takeStep, if_neg hj, hst]

theorem takeStep_st (n j : Nat) (h : Hsw) : (takeStep n j h).st = if j = 0 then 2 else 1 := by
  unfold takeStep
  split <;> rfl

theorem takeStep_step (n j : Nat) (h : Hsw) : (takeStep n j h).step = j := by
  unfold takeStep
  split
  · exact Eq.symm ‹_›
  · rfl

theorem inrushDue_of {n k : Nat} {h : Hsw} {d : Dev} (hk : hswNumber k = true) (hh : d.sw.ch[k - 1]? = some h) (hst : h.st = 1)
    (hat : h.stepAt + ms (nth (0, 0) (hswProfile d k).1 (h.step - 1)).1 ≤ n) : inrushDue n k d = true := by
  simp [inrushDue, hk, Sw.get_of hh, hst, hat]

/-- The step that ends and the profile are those of the channel before the row (R314). -/
theorem exec_inrushStep (k : Nat) (s : State) : exec (.inrushStep k) s =
    devStep s (Dev.when (inrushDue s.clk.frame k s.dev) (onHsw k fun h =>
      takeStep (h.stepAt + ms (nth (0, 0) (hswProfile s.dev k).1 (h.step - 1)).1) (nextStep (hswProfile s.dev k).1 h.step)
        h)) := by
  show devStep s _ = _
  rw [devStep, State.onDev]
  rfl

/-- A channel turned on with VAUX in range begins its inrush (R314, R324). -/
theorem turnOn_of {n k : Nat} {h : Hsw} {d : Dev} (huv : d.sw.uv = 0) (hh : d.sw.ch[k - 1]? = some h) :
    turnOn n k d = { d with sw := { d.sw with
      ch := d.sw.ch.set (k - 1) { takeStep n (nextStep (hswProfile d k).1 0) h with onAt := n, noDelay := false } } } := by
  rw [turnOn, onHsw_of hh, if_neg (by simp [huv])]

/-! Protection (R317, R319). -/

theorem driving_of {h : Hsw} (hst : h.st = 1 ∨ h.st = 2) : driving h = true := decide_eq_true hst

/-- A short or a hot junction of a driving channel is a protection off (R317). -/
theorem exec_protectionOff {c : Instr} {k us cause : Nat} {tj : Int} {h : Hsw} {s : State} (hk : hswNumber k = true)
    (hh : s.dev.sw.ch[k - 1]? = some h) (hst : h.st = 1 ∨ h.st = 2)
    (hc : (c = .fastShort k us ∧ 100 ≤ us ∧ cause = 1 ∧ pastBlanking s.clk.frame k s.dev = true ∧
        pulseAtLeast s.dev 1100 k = true) ∨ (c = .thermalShutdown k tj ∧ 17000 ≤ tj ∧ cause = 2)) :
    exec c s = devStep s (protectionOff s.clk.frame k cause) := by
  have hdrive : driving (s.dev.sw.get k) = true := by rw [Sw.get_of hh, driving_of hst]
  obtain ⟨rfl, hus, rfl, hblank, hpulse⟩ | ⟨rfl, htj, rfl⟩ := hc
  · have hdue : fastShortDue s.clk.frame k us s.dev = true := by simp [fastShortDue, hus, hk, hdrive, hblank, hpulse]
    show devStep s _ = _
    rw [devStep, State.onDev, if_neg (ne_nine_of_hswNumber hk), hdue, Dev.when_true]
    rfl
  · show devStep s _ = _
    rw [devStep, State.onDev, decide_eq_true htj, Dev.when_true, if_neg (ne_nine_of_hswNumber hk), hk, hdrive, Bool.and_self,
      Dev.when_true]
    rfl

theorem protectionOff_retries {n k cause : Nat} {h : Hsw} {d : Dev} (hh : d.sw.ch[k - 1]? = some h)
    (hleft : h.retries < hswRetries d k) :
    protectionOff n k cause d = { d with sw := { d.sw with ch := d.sw.ch.set (k - 1) { h with
      offAt := n, cause := cause, step := 0, offNews := true, noDelay := false
      retries := h.retries + 1, latched := false, st := if cause = 2 then 4 else 3 } } } := by
  simp [protectionOff, onHsw_of hh, hleft]

theorem protectionOff_latches {n k cause : Nat} {h : Hsw} {d : Dev} (hh : d.sw.ch[k - 1]? = some h)
    (hspent : hswRetries d k ≤ h.retries) :
    protectionOff n k cause d = { d with sw := { d.sw with ch := d.sw.ch.set (k - 1) { h with
      offAt := n, cause := cause, step := 0, offNews := true, noDelay := false, latched := true, st := 5 } } } := by
  simp [protectionOff, onHsw_of hh, Nat.not_lt.2 hspent]

theorem protectionOff_only (n k cause : Nat) (d : Dev) : DevOnly [.sw] d (protectionOff n k cause d) := onHsw_only k _ d

/-! Diagnosis (R321). -/

theorem leBytes_bit (b : Bool) : leBytes 1 (if b then 1 else 0) = [if b then 1 else 0] := by cases b <;> rfl

/-- A row that flips a channel's flag and logs its start or end, after the head of the event, where a condition holds. -/
theorem Completes.of_flag {c : Instr} {k b code : Nat} {head : List Byte} {h : Hsw} {s : State} {due : Bool}
    {P : State → Prop} (hc : exec c s = devStep s (Dev.when due fun d => (onHsw k (flipFlag b) d).raise Src.host code
      (head ++ leBytes 1 (if (d.sw.get k).flags.getLsbD b then 1 else 0))))
    (hdue : due = true) (hh : s.dev.sw.ch[k - 1]? = some h)
    (hP : ∀ t, OnlySwitch k (flipFlag b h) s t → Logs Src.host code (head ++ [if h.flags.getLsbD b then 1 else 0]) s t →
      OnlyChanges [.sw, .log] s t → P t) : Completes c s P := by
  refine .of_when hc hdue (hP _ ?_ ?_ (.onDev ((onHsw_only k _ _).then (.raise _ _ _ _))))
  · rw [OnlySwitch, State.onDev, onHsw_of hh]
    rfl
  · rw [← leBytes_bit, ← Sw.get_of hh]
    rfl

end Sys2Proof.Machine

open Sys2Proof Sys2Proof.Machine

/-- Settles O52: each row changes its one channel, by what the row's condition says of it. -/
theorem switchChannelRows : Obligations.SwitchChannelRows := by
  unfold Obligations.SwitchChannelRows
  intro k h s h₁ h₈ hh
  have hk := hswNumber_of h₁ h₈
  refine ⟨fun hst hat => ?inrush, fun c us cause tj hc hst => ?off, fun hdue huv => ?retry, fun hst hgood => ?reset,
    fun hol => ?olOn, fun hol => ?olOff, fun hstv => ?stv⟩
  case inrush =>
    have hdue := inrushDue_of hk hh hst hat
    refine .of_switch (exec_inrushStep k s) hdue hh fun t ht ho => ⟨fun hnext => ?_, fun hnone => ?_, ho⟩
    · rwa [takeStep_next hnext hst] at ht
    · rwa [hnone, takeStep_done] at ht
  case off =>
    have honly := protectionOff_only s.clk.frame k cause s.dev
    refine .of_devStep (exec_protectionOff hk hh hst hc) ⟨fun hleft => ?_, fun hspent => ?_, .onDev honly⟩
    · rw [OnlySwitch, State.onDev, protectionOff_retries hh hleft]
    · rw [OnlySwitch, State.onDev, protectionOff_latches hh hspent]
  case retry =>
    have hlen := (List.getElem?_eq_some_iff.1 hh).1
    refine .of_when (b := fun _ => retryDue s.clk.frame k s.dev) rfl hdue ?_
    rw [State.onDev, turnOn_of huv hh]
    refine ⟨?_, fun j hj => List.getElem?_set_ne hj.symm, rfl, .dev (by simp [devOnly_iff])⟩
    rw [List.getElem?_set_self hlen, Option.map_some, takeStep_st, takeStep_step]
  case reset =>
    refine .of_switch rfl ?_ hh fun t ht ho => ⟨ht, ho⟩
    simp [hk, Sw.get_of hh, hst, hgood]
  case olOn => exact .of_flag rfl (by simp [hk, Sw.get_of hh, hol]) hh fun t ht hl ho => ⟨ht, hl, ho⟩
  case olOff => exact .of_flag rfl (by simp [hk, Sw.get_of hh, hol]) hh fun t ht hl ho => ⟨ht, hl, ho⟩
  case stv => exact .of_flag rfl (by simp [hk, Sw.get_of hh, hstv]) hh fun t ht hl ho => ⟨ht, hl, ho⟩

end

section
/-!
PROOF. The return of VAUX (R325).
-/

namespace Sys2Proof.Machine

/-- VAUX is back in range and the list of channels has a ninth entry, in UV_OFF; channels 1 to 8 are OFF. -/
def ninthOff : State :=
  { dev := { pow := { st := .mains }
             sw := { uv := 1, uvGood := 80, ch := List.replicate 8 {} ++ [{ st := 6 }] } } }

/-- Where none of the channels 1 to 8 is in UV_OFF, it is the lock bridge that returns, and no channel changes (R325). -/
theorem returnOne_channels {d : Dev} (h : ∀ j < 8, (nth {} d.sw.ch j).st ≠ 6) (n : Nat) :
    (returnOne n d).sw.ch = d.sw.ch := by
  have hnone : ((List.range 8).find? fun j => decide ((nth {} d.sw.ch j).st = 6)) = none := by
    simpa using h
  rw [returnOne, hnone]

end Sys2Proof.Machine

open Sys2Proof Sys2Proof.Machine

/-- Refutes O53: the statement has one channel fewer in UV_OFF once VAUX is restored, in every state. It does not ask that the list
hold channels 1 to 8 alone, as every list does that the machine comes to: with a ninth entry in UV_OFF and none of the eight, no
channel returns, and the count stays at one. -/
theorem not_vauxAndLockRows : ¬ Obligations.VauxAndLockRows := by
  unfold Obligations.VauxAndLockRows
  intro h
  obtain ⟨-, hrestored, -⟩ := h
  obtain ⟨t, ht, -, -, -, hcount, -⟩ := hrestored ninthOff (by decide) (by decide)
  obtain rfl : ninthOff.onDev (vauxRestore 0) = t := Host.Outcome.next.inj ht
  have hkept : (vauxRestore 0 ninthOff.dev).sw.ch = ninthOff.dev.sw.ch := returnOne_channels (by decide) 0
  rw [State.onDev_dev, hkept] at hcount
  exact absurd hcount (by decide)

end

section
/-!
PROOF. The age of a tone map (R340).
-/

namespace Sys2Proof.Machine

/-- An entry of neighbour 1, heard in frame k with a tone map of that frame. -/
def heardIn (k : Nat) : Neighbour := { addr := 1, carriers := 0, mapAt := k, heardAt := k, heardRtc := 0 }

/-- Neighbour 1 stands twice in the table: with a tone map of the present frame, and with one of frame 0. -/
def heardTwice : State :=
  { clk := { frame := 1000000000 }
    dev := { win := { shadow := { marker := true } }, gplc := { neighbours := [heardIn 1000000000, heardIn 0] } } }

/-- GPLC_TMR_TTL is at its default. -/
theorem heardTwice_ttl : heardTwice.dev.nat Param.GPLC_TMR_TTL = 10 := by decide +kernel

/-- The row asks for every map of neighbour 1 that is old, and so for that of the second entry (R340). -/
theorem mapAgeEff_heardTwice :
    (heardTwice.onDev (mapAgeEff 1000000000 1)).dev.gplc.neighbours.map Neighbour.asked = [false, true] := by
  simp only [State.onDev_dev, mapAgeEff, heardTwice_ttl]
  decide

end Sys2Proof.Machine

open Sys2Proof Sys2Proof.Machine

/-- Refutes O54: the statement has TONE_MAP_AGE change nothing where the neighbour's first entry is fresh. It does not ask that an
address stand once in the table, as it does in every table that the machine comes to: a second, old entry of it is asked for. -/
theorem not_gplcMeshRows : ¬ Obligations.GplcMeshRows := by
  unfold Obligations.GplcMeshRows
  intro h
  obtain ⟨-, -, hage, -⟩ := h
  obtain ⟨t, ht, hfresh, -⟩ := hage 1 (heardIn 1000000000) heardTwice rfl rfl
  have hrow : exec (.toneMapAge 1) heardTwice = .next (heardTwice.onDev (mapAgeEff 1000000000 1)) :=
    protoStep_committed rfl _
  obtain rfl := Host.Outcome.next.inj (hrow.symm.trans ht)
  have hsame := hfresh (by rw [heardTwice_ttl]; decide)
  have hasked := mapAgeEff_heardTwice
  rw [hsame] at hasked
  exact absurd hasked (by decide)

end

section
/-!
PROOF. The Calico island (R381 to R386): what a write replaces of a run of bytes, and what each row leaves of the island.
-/

namespace Sys2Proof.Machine

/-! A write inside a run of bytes. -/

theorem slice_zero_of_le {b : List Byte} {k : Nat} (h : k ≤ b.length) : slice b 0 k = b.take k := by
  simp [slice, h]

theorem splice_of_le {b : List Byte} {off : Nat} (h : off ≤ b.length) (new : List Byte) :
    splice b off new = b.take off ++ (new ++ b.drop (off + new.length)) := by
  rw [splice, slice_zero_of_le h, List.append_assoc]

theorem splice_take_before {b : List Byte} {off : Nat} (h : off ≤ b.length) (new : List Byte) :
    (splice b off new).take off = b.take off := by
  rw [splice_of_le h, List.take_left' (by simp [h])]

theorem splice_drop_off {b : List Byte} {off : Nat} (h : off ≤ b.length) (new : List Byte) :
    (splice b off new).drop off = new ++ b.drop (off + new.length) := by
  rw [splice_of_le h, List.drop_left' (by simp [h])]

/-! The rows. -/

/-- A row that leaves the island so, and changes no more. -/
theorem Completes.of_cal {c : Instr} {s : State} {f : Dev → Dev} {P : State → Prop} (h : exec c s = devStep s f) (x : Cal)
    (hf : f s.dev = { s.dev with cal := x })
    (k : OnlyChanges [.cal] s { s with dev := { s.dev with cal := x } } → P { s with dev := { s.dev with cal := x } }) :
    Completes c s P :=
  ⟨_, h.trans (by rw [devStep, State.onDev, hf]), k (.dev (by simp [devOnly_iff]))⟩

theorem selectEff_known {f : Nat} {d : Dev} (h : fileKnown d f = true) : selectEff f d = { d with cal := { d.cal with
    selected := f, ended := false, response := [], sw := 0x9000
    held := if f = 0xE1C2 then some (newestSlot d.cal) else none
    heldImage := if f = 0xE1C2 then newestBytes d else [] } } := by
  rw [selectEff, if_pos h]
  simp only [decide_eq_true_eq]
  rfl

theorem selectEff_unknown {f : Nat} {d : Dev} (h : fileKnown d f = false) :
    selectEff f d = { d with cal := { d.cal with response := [], sw := freeSw d 0 } } := by
  rw [selectEff, h]
  rfl

theorem readEff_ended {d : Dev} (h : d.cal.ended = true) (off len : Nat) : readEff off len d = { d with cal := { d.cal with
    ended := false, selected := 0, heldImage := [], response := [], sw := 0x6985 } } := by
  rw [readEff, if_pos h]
  rfl

theorem readEff_content {d : Dev} {c : List Byte} (h : d.cal.ended = false) (hc : fileContent d = some c) (off len : Nat) :
    readEff off len d = { d with cal := { d.cal with response := (c.drop off).take (min len 246), sw := 0x9000 } } := by
  rw [readEff, h, hc]
  rfl

theorem readEff_none {d : Dev} (h : d.cal.ended = false) (hc : fileContent d = none) (off len : Nat) :
    readEff off len d = { d with cal := { d.cal with response := [], sw := freeSw d 1 } } := by
  rw [readEff, h, hc]
  rfl

/-- The receive buffer, as long as a write of so many bytes at an offset needs it. -/
def padded (b : List Byte) (off k : Nat) : List Byte := b ++ List.replicate (off + k - b.length) 0

theorem padded_length (b : List Byte) (off k : Nat) : off ≤ (padded b off k).length := by
  simp only [padded, List.length_append, List.length_replicate]
  omega

/-- Beyond the write the buffer is as it was: the zeros end where the write does. -/
theorem padded_drop (b : List Byte) (off k : Nat) : (padded b off k).drop (off + k) = b.drop (off + k) := by
  rw [padded, List.drop_append, List.drop_replicate, Nat.sub_self, List.replicate_zero, List.append_nil]

theorem updateEff_fits {off : Nat} {data : List Byte} {d : Dev}
    (h : d.cal.selected = 0xE1C3 ∧ data.length ≤ 240 ∧ off + data.length ≤ 4096) :
    updateEff off data d = { d with cal := { d.cal with
      buffer := splice (padded d.cal.buffer off data.length) off data, response := [], sw := 0x9000 } } := by
  rw [updateEff, if_pos h]
  rfl

theorem updateEff_refused {off : Nat} {data : List Byte} {d : Dev}
    (h : ¬(d.cal.selected = 0xE1C3 ∧ data.length ≤ 240 ∧ off + data.length ≤ 4096)) :
    updateEff off data d = { d with cal := { d.cal with response := [], sw := freeSw d 2 } } := by
  rw [updateEff, if_neg h]
  rfl

theorem triggerEff_bad {len : Nat} {crc : Word} {d : Dev} (hs : d.cal.selected = 0xE1C4)
    (h : packageOk len crc.toNat d.cal.buffer = false) :
    triggerEff len crc d = { d with cal := { d.cal with response := [], sw := 0x6984 } } := by
  rw [triggerEff, if_neg (by simp [hs]), h]
  rfl

theorem triggerEff_good {len : Nat} {crc : Word} {d : Dev} (hs : d.cal.selected = 0xE1C4)
    (h : packageOk len crc.toNat d.cal.buffer = true) :
    triggerEff len crc d = { d with cal := { commitPackage len d.cal with response := [], sw := 0x9000 } } := by
  rw [triggerEff, if_neg (by simp [hs]), h]
  rfl

/-- A commit selects the other bank, which holds the package; the bank that was in force is as it was (R383). -/
theorem commitPackage_bank (len : Nat) (x : Cal) :
    (commitPackage len x).bank = (if x.bank = 1 then 0 else 1) ∧
    (if (commitPackage len x).bank = 1 then (commitPackage len x).bank1 else (commitPackage len x).bank0) = x.buffer.take len ∧
    (if (commitPackage len x).bank = 1 then (commitPackage len x).bank0 = x.bank0
      else (commitPackage len x).bank1 = x.bank1) := by
  by_cases hb : x.bank = 1 <;> simp [commitPackage, attempt, hb]

/-- A collapse before the commit keeps the commit and both banks (R383). -/
theorem collapseStaging_old {p : CollapsePoint} (hp : p = .receive ∨ p = .check ∨ p = .stagingWrite ∨ p = .commitOld) (x : Cal) :
    (collapseStaging p x).commitSeq = x.commitSeq ∧ (collapseStaging p x).bank = x.bank ∧
      (collapseStaging p x).bank0 = x.bank0 ∧ (collapseStaging p x).bank1 = x.bank1 := by
  unfold collapseStaging
  dsimp only
  split
  · obtain rfl | rfl | rfl | rfl := hp <;> exact ⟨rfl, rfl, rfl, rfl⟩
  · exact ⟨rfl, rfl, rfl, rfl⟩

theorem commitPackage_bank_ne (len : Nat) (x : Cal) : (commitPackage len x).bank ≠ x.bank := by
  rw [(commitPackage_bank len x).1]
  split <;> omega

/-- A good package stands in the receive buffer (R383). -/
def packageHeld (x : Cal) : Prop := packageOk (fieldAt x.buffer 6 2) (fieldAt x.buffer (fieldAt x.buffer 6 2 - 4) 4) x.buffer = true

/-- Of a good package a collapse leaves the attempt, or the commit whole (R383). -/
theorem collapseStaging_good {x : Cal} (h : packageHeld x) (p : CollapsePoint) :
    (p = .stagingWrite ∨ p = .commitOld → (collapseStaging p x).attemptSeq = x.commitSeq + 1) ∧
    (p = .commitNew ∨ p = .acknowledge →
      (collapseStaging p x).commitSeq = x.commitSeq + 1 ∧ (collapseStaging p x).bank ≠ x.bank) := by
  unfold packageHeld at h
  unfold collapseStaging
  dsimp only
  rw [if_pos h]
  refine ⟨?_, ?_⟩
  · rintro (rfl | rfl) <;> rfl
  · rintro (rfl | rfl) <;> exact ⟨rfl, commitPackage_bank_ne _ x⟩

end Sys2Proof.Machine

open Sys2Proof Sys2Proof.Machine

/-- Settles O58: each row changes the island alone, by the one equation of its effect. -/
theorem calicoRows : Obligations.CalicoRows := by
  unfold Obligations.CalicoRows
  refine ⟨fun f s => ⟨fun hk => ?select, fun hk => ?unknown⟩, fun off len s => ⟨fun he => ?ended, fun c he hc => ?read,
    fun he hc => ?unread⟩, fun off data s => ⟨fun hs hl hw => ?update, fun h => ?noUpdate⟩, fun len crc s hs =>
    ⟨fun hp => ?bad, fun hp => ?good⟩, fun p s => ?collapse, fun field goodMs supplyOk s => ?harvest⟩
  case select =>
    refine .of_cal rfl _ (selectEff_known hk) fun honly => ⟨?_, honly⟩
    simp only [BitVec.toNat_eq]
    rfl
  case unknown => exact .of_cal rfl _ (selectEff_unknown hk) fun honly => ⟨rfl, honly⟩
  case ended => exact .of_cal rfl _ (readEff_ended he off len) fun honly => ⟨rfl, honly⟩
  case read => exact .of_cal rfl _ (readEff_content he hc off len) fun honly => ⟨rfl, honly⟩
  case unread => exact .of_cal rfl _ (readEff_none he hc off len) fun honly => ⟨rfl, honly⟩
  case update =>
    have hoff := padded_length s.dev.cal.buffer off data.length
    refine .of_cal rfl _ (updateEff_fits ⟨hs, hl, hw⟩) fun honly => ⟨?_, splice_take_before hoff data, ?_, rfl, honly⟩
    · dsimp only
      rw [splice_drop_off hoff, List.take_left]
    · dsimp only
      rw [← List.drop_drop, splice_drop_off hoff, List.drop_left, padded_drop]
  case noUpdate => exact .of_cal rfl _ (updateEff_refused (by omega)) fun honly => ⟨rfl, honly⟩
  case bad => exact .of_cal rfl _ (triggerEff_bad hs hp) fun honly => ⟨rfl, honly⟩
  case good =>
    obtain ⟨hbank, hnew, hold⟩ := commitPackage_bank len s.dev.cal
    exact .of_cal rfl _ (triggerEff_good hs hp) fun honly => ⟨rfl, rfl, rfl, hbank, hnew, hold, rfl, honly⟩
  case collapse =>
    exact .of_cal rfl _ rfl fun honly => ⟨rfl, rfl, rfl, rfl, rfl, fun hp => collapseStaging_old hp s.dev.cal,
      fun hg => collapseStaging_good hg p, honly⟩
  case harvest =>
    refine .of_cal rfl _ rfl fun honly => ⟨rfl, ?_, ?_, honly⟩
    · simp
    · simp only [Bool.and_eq_true, decide_eq_true_eq, Bool.not_eq_true', and_assoc]

end

section
/-!
SUPPORT. The end of any job, and a run of a self-test with what follows from it (R91, R458, R459).
-/

namespace Sys2Proof.Machine

/-! The end of a job that is live or not. -/

/-- No live job has the identifier, or the first that has it ends. -/
theorem endJob_cases (id st result : Nat) (d : Dev) :
    (∀ k ∈ d.acs.jobs, k.live = true → k.id ≠ id) ∧ endJob id st result d = d ∨
    ∃ j, d.acs.jobs.find? (fun k => k.id = id && k.live) = some j ∧ j.id = id ∧
      endJob id st result d = takePlace (jobEntered j st result d) := by
  cases hj : d.acs.jobs.find? (fun k => k.id = id && k.live) with
  | none =>
    refine .inl ⟨fun k hk hlive hid => ?_, by rw [endJob, hj]⟩
    have := List.find?_eq_none.1 hj k hk
    simp [hid, hlive] at this
  | some j =>
    have hfound := List.find?_some hj
    simp only [Bool.and_eq_true, decide_eq_true_eq] at hfound
    obtain ⟨rfl, -⟩ := hfound
    exact .inr ⟨j, rfl, rfl, endJob_live st result hj⟩

theorem endJob_only (id st result : Nat) (d : Dev) : DevOnly [.acs, .log, .win] d (endJob id st result d) := by
  obtain ⟨-, h⟩ | ⟨j, -, -, h⟩ := endJob_cases id st result d
  · rw [h]
    exact .refl _ d
  · rw [h]
    exact (jobEntered_only j st result d).then (takePlace_only _)

theorem endJob_grows (id st result : Nat) (d : Dev) : Grows d (endJob id st result d) := by
  obtain ⟨-, h⟩ | ⟨j, -, -, h⟩ := endJob_cases id st result d
  · rw [h]
    exact .refl d
  · rw [h]
    have hentered : Grows d (jobEntered j st result d) := ⟨List.subset_append_left _ _, List.Subset.refl _, fun _ k => k⟩
    exact hentered.trans (.of_only (takePlace_only (jobEntered j st result d)) (by decide) (by decide))

/-- An event after a change that touches neither the log nor modes and power. -/
theorem Grows.raise_of_eq {d e : Dev} (src code : Nat) (data : List Byte) (hl : e.log = d.log := by rfl)
    (hp : e.pow = d.pow := by rfl) : Grows d (e.raise src code data) := (Grows.of_eq hl hp).raised src code data

/-! The modem of the grid link is reset (R351). -/

theorem abandonGasp_grows (n : Nat) (d : Dev) : Grows d (abandonGasp n d) := by
  unfold abandonGasp
  split
  · exact ⟨fun e he => by simp [hostGasp, he], fun _ hr => hr, fun _ hk => hk⟩
  · exact .refl d

/-- The packets of a modem that is reset are dropped, a last gasp among them handed to the host (R351). -/
def modemDropped (n : Nat) (d : Dev) : Dev := abandonGasp n { d with gplc := dropAll 6 d.gplc }

/-- A reset is counted; the fourth within an hour leaves the modem in fault (R351). -/
def resetCounted (n : Nat) (d : Dev) : Dev :=
  let resets := n :: d.gplc.resets.filter fun f => decide (n < f + secs 3600)
  if 3 < resets.length then
    ({ d with gplc := { d.gplc with resets := resets, st := 3, faultSince := n } }).raise Src.grid Event.GPLC_MODEM_FAULT []
  else { d with gplc := { d.gplc with resets := resets } }

theorem modemReset_eq (n : Nat) (d : Dev) : modemReset n d = resetCounted n (modemDropped n d) := rfl

theorem modemDropped_grows (n : Nat) (d : Dev) : Grows d (modemDropped n d) :=
  Grows.trans (e := { d with gplc := dropAll 6 d.gplc }) (.of_eq rfl rfl) (abandonGasp_grows n _)

theorem resetCounted_grows (n : Nat) (d : Dev) : Grows d (resetCounted n d) := by
  unfold resetCounted
  dsimp only
  split
  · exact .raise_of_eq _ _ _
  · exact .of_eq rfl rfl

theorem modemReset_grows (n : Nat) (d : Dev) : Grows d (modemReset n d) :=
  (modemDropped_grows n d).trans (resetCounted_grows n (modemDropped n d))

/-! A run of a self-test. -/

/-- The bits of SELFTEST_SUMMARY after a run (R460). -/
theorem selftest_summary (n : Nat) {t : Nat} (pass : Bool) (detail : Nat) (d : Dev) {i : Nat} (hi : i < 19) :
    (selftest n t pass detail d).diag.summary.getLsbD i = if i = t then !pass else d.diag.summary.getLsbD i := by
  have hbit : (1#32 <<< t).getLsbD i = decide (i = t) := by
    simp only [BitVec.getLsbD_shiftLeft, BitVec.getLsbD_one]
    grind
  have hset : (selftest n t pass detail d).diag.summary =
      if pass then d.diag.summary &&& ~~~ (1#32 <<< t) else d.diag.summary ||| (1#32 <<< t) := by
    unfold selftest
    dsimp only
    split
    · rfl
    · split <;> rfl
  have h32 : i < 32 := by omega
  rw [hset]
  cases pass
  · simp only [Bool.false_eq_true, if_false, BitVec.getLsbD_or, hbit]
    by_cases h : i = t <;> simp [h]
  · simp only [if_true, BitVec.getLsbD_and, BitVec.getLsbD_not, hbit]
    by_cases h : i = t <;> simp [h, h32]

theorem selftest_last (n t : Nat) (pass : Bool) (detail : Nat) (d : Dev) :
    (selftest n t pass detail d).diag.last = d.diag.last.set t (n, if pass then 0 else 1) := by
  unfold selftest
  dsimp only
  split
  · rfl
  · split <;> rfl

/-- A run that changes no bit logs nothing (R459). -/
theorem selftest_unchanged {t : Nat} {pass : Bool} {d : Dev} (h : d.diag.summary.getLsbD t = !pass) (n detail : Nat) :
    (selftest n t pass detail d).log = d.log := by
  unfold selftest
  dsimp only
  rw [if_pos h]

/-- A first failed run is logged (R459). -/
theorem selftest_failed {t : Nat} {d : Dev} (h : d.diag.summary.getLsbD t = false) (n detail : Nat) :
    Ev.of (testSource t) Event.SELFTEST_FAILED (leBytes 1 t ++ leBytes 4 detail) ∈ (selftest n t false detail d).log.now := by
  unfold selftest
  dsimp only
  rw [if_neg (by simp [h]), if_neg (by decide)]
  exact List.mem_append_right _ (List.mem_singleton_self _)

/-- The first run that passes again is logged (R459). -/
theorem selftest_passed {t : Nat} {d : Dev} (h : d.diag.summary.getLsbD t = true) (n detail : Nat) :
    Ev.of (testSource t) Event.SELFTEST_PASSED (leBytes 1 t) ∈ (selftest n t true detail d).log.now := by
  unfold selftest
  dsimp only
  rw [if_neg (by simp [h]), if_pos rfl]
  exact List.mem_append_right _ (List.mem_singleton_self _)

/-! A reader in fault (R367). -/

theorem readerFail_only (amplitude : Nat) (d : Dev) : DevOnly [.nfc, .log] d (readerFail amplitude d) := by
  simp [devOnly_iff, readerFail]

theorem readerFail_grows (amplitude : Nat) (d : Dev) : Grows d (readerFail amplitude d) :=
  .raise_of_eq _ _ _

/-! What follows from a run (R12, R227, R351, R367, R390). -/

theorem digestDone_leaves (pass : Bool) (d : Dev) : DevOnly [.acs, .log, .win] d (digestDone pass d) ∧ Grows d (digestDone pass d) := by
  unfold digestDone
  split
  · exact ⟨endJob_only _ _ _ d, endJob_grows _ _ _ d⟩
  · exact ⟨.refl _ d, .refl d⟩

theorem selftestConsequence_leaves (n t : Nat) (pass : Bool) (detail : Nat) (d : Dev) :
    DevOnly [.log, .acs, .gplc, .nfc, .win] d (selftestConsequence n t pass detail d) ∧
      Grows d (selftestConsequence n t pass detail d) := by
  have hraise (src code : Nat) (data : List Byte) :
      DevOnly [.log, .acs, .gplc, .nfc, .win] d (d.raise src code data) ∧ Grows d (d.raise src code data) :=
    ⟨(DevOnly.raise src code data d).mono (by decide), .raise src code data d⟩
  have hsame : DevOnly [.log, .acs, .gplc, .nfc, .win] d d ∧ Grows d d := ⟨.refl _ d, .refl d⟩
  unfold selftestConsequence
  split_ifs
  case pos => exact ⟨by simp [devOnly_iff], .of_eq rfl rfl⟩
  case pos => exact ⟨(digestDone_leaves pass d).1.mono (by decide), (digestDone_leaves pass d).2⟩
  case pos => exact ⟨by simp [devOnly_iff], .of_eq rfl rfl⟩
  case neg => exact ⟨(readerFail_only detail d).mono (by decide), readerFail_grows detail d⟩
  case pos => exact hsame
  case pos => exact ⟨(modemReset_only n d).mono (by decide), modemReset_grows n d⟩
  case neg => exact hsame
  case pos => exact hraise _ _ _
  case pos => exact hraise _ _ _
  case neg => exact hsame

/-- The digests apart, a run logs no consequence but where a unit's test fails: the modem's, the reader's, the display's or the
Calico island's. -/
theorem selftestConsequence_silent {t : Nat} {pass : Bool} (h6 : t ≠ 6) (h : pass = true ∨ t ∉ [8, 10, 11, 12])
    (n detail : Nat) (d : Dev) : (selftestConsequence n t pass detail d).log = d.log := by
  have hfail (k : Nat) (hk : k ∈ [8, 10, 11, 12]) (hp : ¬pass = true) : t ≠ k := by
    rintro rfl
    exact h.elim hp fun hn => hn hk
  unfold selftestConsequence
  by_cases hp : pass = true
  · simp only [if_neg h6, if_pos hp]
    split_ifs <;> rfl
  · simp only [if_neg h6, if_neg hp, if_neg (hfail 8 (by decide) hp), if_neg (hfail 10 (by decide) hp),
      if_neg (hfail 11 (by decide) hp), if_neg (hfail 12 (by decide) hp)]
    split_ifs <;> rfl

end Sys2Proof.Machine

end

section
/-!
PROOF. The test group and the self-tests (R458, R459, R462, R464 to R466).
-/

namespace Sys2Proof.Machine

/-! The token of a test enrolment (R466). -/

theorem tokenStart_starts {d : Dev} (ht : d.acs.testToken ≠ []) (hc : d.keys.checking = false) (hj : d.keys.rootJob = none)
    (hr : jobRoom 0 d = true) :
    tokenStart .factory d = startTokenCheck d.acs.testToken { d with acs := { d.acs with testToken := [] } } :=
  if_pos (by simp [ht, hc, hj, hr])

theorem startJob_only (kind : JobKind) (own arg : Nat) (d : Dev) : DevOnly [.acs] d (startJob kind own arg d) := by
  simp [devOnly_iff, startJob]

/-! A lane perturbation (R464, R465). -/

theorem exec_testInjected {p : Pert} {s : State} (hr : s.clk.running = true) (hp : s.dev.diag.pert = some p)
    (h0 : p.first ≤ s.clk.frame) (h1 : s.clk.frame < p.first + p.frames) (margin : Nat) :
    exec (.testInjected margin) s = .next (injectEff p margin s) := by
  have hacts : (s.clk.running && pertActs s.clk.frame p) = true := by simp [hr, pertActs, h0, h1]
  show execTestInjected margin s = _
  rw [execTestInjected, hp]
  dsimp only
  rw [hacts, whenS_true]

theorem injectEff_none {p : Pert} {margin : Nat} {s : State} (h : pertFault p margin s.dev = none) :
    injectEff p margin s = injectLogged p s := by
  rw [injectEff, h]
  rfl

theorem injectEff_fault {p : Pert} {margin cause slot : Nat} {own : Bool} {s : State}
    (h : pertFault p margin s.dev = some (cause, slot, own)) (hw : laneWorks p.lane s = true) :
    injectEff p margin s = faultLane p.lane cause slot 0 own (injectLogged p s) := by
  have hw' : laneWorks p.lane (injectLogged p s) = true := hw
  rw [injectEff, h]
  dsimp only
  rw [← injectLogged, hw', whenS_true]

/-- The event of the perturbation touches nothing that decides the fault of a follow. -/
theorem FaultableFollow.injected {l : Lane} {s : State} (h : FaultableFollow l s) (p : Pert) :
    FaultableFollow l (injectLogged p s) := h

/-- Nor of a lead. -/
theorem FaultableLead.injected {l : Lane} {s : State} (h : FaultableLead l s) (p : Pert) :
    FaultableLead l (injectLogged p s) := h

/-! The end of a test authorisation (R462). -/

theorem revertTests_some {d : Dev} {f : Nat} (h : d.diag.testFrom = some f) (n cause : Nat) :
    revertTests n cause d = (clearTests d).raise Src.host Event.TEST_REVERTED (leBytes 1 cause) := by
  rw [revertTests, h]
  rfl

/-- No test parameter waits for a tick. -/
theorem clearTests_nextTick (d : Dev) : ∀ e ∈ (clearTests d).acs.nextTick, e.id / 256 ≠ 0x70 :=
  fun _ he => of_decide_eq_true (List.mem_filter.1 he).2

/-! A run of a self-test. -/

/-- The effect of SELFTEST_RUN with its result. -/
def testRun (n k : Nat) (pass : Bool) (detail : Nat) (d : Dev) : Dev :=
  selftestConsequence n k pass detail (selftest n k pass detail d)

theorem exec_selftestRun {k : Nat} {op pass : Bool} {s : State} (hr : s.clk.running = true) (hk : k < 19)
    (hu : testUnit k s.dev = true) (he : testElsewhere k = false) (hp : testPasses k op s.dev = pass) (detail : Nat) :
    exec (.selftestRun k op detail) s = .next (s.onDev (testRun s.clk.frame k pass detail)) := by
  subst hp
  exact exec_when (b := fun _ => s.clk.running && decide (k < 19) && !testElsewhere k && testUnit k s.dev) rfl
    (by simp [hr, hk, hu, he])

theorem testRun_diag (n k : Nat) (pass : Bool) (detail : Nat) (d : Dev) :
    (testRun n k pass detail d).diag = (selftest n k pass detail d).diag :=
  (selftestConsequence_leaves n k pass detail _).1 .diag (by decide)

theorem testRun_grows (n k : Nat) (pass : Bool) (detail : Nat) (d : Dev) :
    (selftest n k pass detail d).log.now ⊆ (testRun n k pass detail d).log.now :=
  (selftestConsequence_leaves n k pass detail _).2.now

end Sys2Proof.Machine

open Sys2Proof Sys2Proof.Machine

/-- Settles O37: the token's check is a job, a perturbation logs before the fault of its lane, and a run of a self-test writes its
bit, logs a change of it, and has its consequence. -/
theorem testRows : Obligations.TestRows := by
  unfold Obligations.TestRows
  refine ⟨fun s hr hm ht hc hj hroom => ?token, fun p margin s hr hp h0 h1 => ⟨fun hf => ?harmless, fun cause slot own hf =>
    ⟨fun hfollow => ?follow, fun hlead => ?lead⟩⟩, fun f s hf hend => ?reverted,
    fun k op pass detail s hr hk hu he hpass => ?selftest⟩
  case token =>
    refine ⟨_, exec_when (b := fun _ => s.clk.running) rfl hr, ?_⟩
    rw [hm, State.onDev, tokenStart_starts ht hc hj hroom]
    refine ⟨rfl, rfl, .dev ?_⟩
    exact DevOnly.then (ps := [.acs, .keys]) (by simp [devOnly_iff]) (startJob_only .derive 0 1 _)
  case harmless => exact ⟨_, exec_testInjected hr hp h0 h1 margin, injectEff_none hf⟩
  case follow =>
    obtain ⟨-, -, -, hw⟩ := hfollow.single
    refine ⟨_, exec_testInjected hr hp h0 h1 margin, ?_⟩
    rw [injectEff_fault hf hw]
    exact faultLane_follow (hfollow.injected p) cause slot 0 own
  case lead =>
    obtain ⟨-, -, hw⟩ := hlead.single
    refine ⟨_, exec_testInjected hr hp h0 h1 margin, ?_⟩
    rw [injectEff_fault hf hw]
    refine ⟨?_, ?_⟩
    · rintro rfl
      exact faultLane_atOnce (hlead.injected p) cause slot 0
    · rintro rfl
      exact faultLane_nextTick (hlead.injected p) cause slot 0
  case reverted =>
    have hdue : (testActive s.dev && decide (testRemaining s.clk.frame s.dev = 0)) = true := by
      simp [testActive, testRemaining, hf]
      omega
    have hrev := revertTests_some hf s.clk.frame 0
    obtain ⟨honly, -, -, hdefault⟩ := revertTests_reverted s.clk.frame 0 s.dev
    refine ⟨_, exec_when (b := fun _ => testActive s.dev && decide (testRemaining s.clk.frame s.dev = 0)) rfl hdue, ?_⟩
    rw [State.onDev, hrev] at *
    exact ⟨hdefault, clearTests_nextTick s.dev, rfl, .dev (honly.mono (by decide))⟩
  case selftest =>
    have hdiag := testRun_diag s.clk.frame k pass detail s.dev
    have hlog := testRun_grows s.clk.frame k pass detail s.dev
    refine ⟨_, exec_selftestRun hr hk hu he hpass detail, fun i hi => ?_, fun hp h0 => hlog ?_, fun hp h1 => hlog ?_,
      fun hsame h6 hquiet => ?_, ?_, .onDev ?_⟩
    · rw [State.onDev_dev, hdiag]
      exact selftest_summary s.clk.frame pass detail s.dev hi
    · subst hp
      exact selftest_failed h0 ..
    · subst hp
      exact selftest_passed h1 ..
    · exact (selftestConsequence_silent h6 hquiet ..).trans (selftest_unchanged hsame ..)
    · rw [State.onDev_dev, hdiag]
      exact selftest_last ..
    · exact (selftest_only s.clk.frame k pass detail s.dev).then (selftestConsequence_leaves s.clk.frame k pass detail _).1

end

section
/-!
PROOF. The authorisation list, enrolment, tamper and activation (R376, R377, R406, R413, R427): what each handler answers, and
what its row leaves.
-/

namespace Sys2Proof.Machine

/-- An open request that its handler answers OK: the answer, and over the handler's effect nothing but the answer. -/
theorem Completes.of_yes {c : Instr} {code tag : Nat} {own : Owner} {args p : List Byte} {h : Handler} {s : State} {d : Dev}
    {ps : List Part} (hc : exec c s = acsRow code own tag args h s) (ho : AcsOpen code own args s)
    (hh : h s own args = .yes p d) (hd : DevOnly ps s.dev d) {P : State → Prop} (k : ∀ t, Answered code tag Res.ok 0 p s t →
      (∀ q : Part, q ∉ [Part.acs, .pow] → SamePart d t.dev q) →
      t.dev.acs = { d.acs with reply := t.dev.acs.reply, durable := t.dev.acs.durable } →
      t.dev.pow = { d.pow with login := t.dev.pow.login } → OnlyChanges ps s t → P t)
    (ha : .acs ∈ ps := by decide) (hp : .pow ∈ ps := by decide) : Completes c s P := by
  have hall := answered_only code tag own Res.ok 0 p s d
  exact ⟨_, exec_yes hc ho hh, k _ (answered_reply ..) hall (answered_acs ..) (answered_pow ..)
    (.dev (hd.trans (hall.mono (by simp [ha, hp]))))⟩

/-! The authorisation list (R376, R377). -/

/-- A load may be opened by its owner: a newer version, no load of another, none under verification. -/
theorem hAuthLoad_open {own : Owner} {args : List Byte} {s : State} (hv : s.dev.nfc.listVersion < fieldAt args 0 4)
    (hn : fieldAt args 4 2 ≤ 8192)
    (hl : s.dev.nfc.loadSt = 0 ∨ (s.dev.nfc.loadOwner = ownerCode own ∧ s.dev.nfc.loadSt ≠ 3))
    (hb : own = .host → bulkTaken .auth s.dev = false) :
    hAuthLoad s own args =
      if own ≠ .host then .yes [] (loadEntries (args.drop 6)
        (openLoad (fieldAt args 0 4) (fieldAt args 4 2) (ownerCode own) s.dev))
      else if fieldAt args 4 2 = 0 then .yes [] (loadEntries []
        (openLoad (fieldAt args 0 4) (fieldAt args 4 2) (ownerCode own) s.dev))
      else .yes [] (openBulk .auth s.dev.acs.slotNow (24 * fieldAt args 4 2) [] false
        (openLoad (fieldAt args 0 4) (fieldAt args 4 2) (ownerCode own) s.dev)) := by
  have hfree : ((decide (s.dev.nfc.loadSt ≠ 0) && decide (s.dev.nfc.loadOwner ≠ ownerCode own)) ||
      decide (s.dev.nfc.loadSt = 3) || (decide (own = .host) && bulkTaken .auth s.dev)) = false := by
    by_cases ho : own = .host
    · obtain h | ⟨h, h3⟩ := hl <;> simp [hb ho, *]
    · obtain h | ⟨h, h3⟩ := hl <;> simp [*]
  unfold hAuthLoad
  dsimp only
  rw [if_neg (by omega), hfree]
  rfl

theorem loadEntries_only (data : List Byte) (d : Dev) : DevOnly [.nfc, .log] d (loadEntries data d) := by
  unfold loadEntries
  dsimp only
  split <;> simp [devOnly_iff]

/-- Entries that arrive stand behind those of the load; the load is whole where they are as many as it has (R377). -/
theorem loadEntries_nfc (data : List Byte) (d : Dev) : (loadEntries data d).nfc = { d.nfc with
    loadBytes := d.nfc.loadBytes ++ data
    loadSt := if 24 * d.nfc.loadCount ≤ (d.nfc.loadBytes ++ data).length then 2 else d.nfc.loadSt } := by
  unfold loadEntries
  dsimp only
  split <;> rfl

theorem openLoad_only (version count owner : Nat) (d : Dev) : DevOnly [.nfc] d (openLoad version count owner d) := by
  simp [devOnly_iff, openLoad]

theorem settleSwap_only (n : Nat) (d : Dev) : DevOnly [.nfc, .log] d (settleSwap n d) :=
  .ite (fun _ => swapBanks_only n d) fun _ => .refl _ d

/-- Where no swap waits, the active bank is the one there was. -/
theorem settleSwap_idle {d : Dev} (h : d.nfc.swapAt = none) (n : Nat) : settleSwap n d = d := by
  rw [settleSwap, swapDue, h]
  rfl

/-! Enrolment (R413). -/

theorem hEnrol_window {args : List Byte} {s : State} (hj : s.dev.keys.rootJob = none) (hc : s.dev.keys.checking = false)
    (hb : s.dev.acs.bulk = none) : hEnrol s .host args = .yes [] (openBulk .enrol s.dev.acs.slotNow 29984 [] false
      { s.dev with keys := { s.dev.keys with enrolSt := 1, enrolResult := 0, token := [] } }) := by
  unfold hEnrol
  dsimp only
  rw [if_neg (by simp [hj, hc, bulkTaken, hb]), if_neg (by simp)]
  rfl

theorem hEnrol_token {own : Owner} {args : List Byte} {s : State} (ho : own ≠ .host) (hj : s.dev.keys.rootJob = none)
    (hc : s.dev.keys.checking = false) (hr : jobRoom 0 s.dev = true) :
    hEnrol s own args = .yes [] (startTokenCheck args s.dev) := by
  unfold hEnrol
  dsimp only
  rw [if_neg (by simp [hj, hc, ho, hr]), if_pos ho]

/-- A job that finds room stands in the table, running. -/
theorem startJob_mem {kind : JobKind} {own arg : Nat} {d : Dev} (h : jobsFull d = false) :
    ∃ j ∈ (startJob kind own arg d).acs.jobs, j.id = d.acs.nextJob ∧ j.kind = kind ∧ j.st = 1 := by
  rw [startJob_room h]
  exact ⟨_, List.mem_append_right _ (List.mem_singleton_self _), rfl, rfl, rfl⟩

/-! TAMPER_ACK (R406). -/

/-- The latch of source k is cleared and the acknowledgement logged, with the identity of the login (R406). -/
def tamperAcked (k : Nat) (d : Dev) : Dev :=
  ({ d with keys := { d.keys with latched := d.keys.latched &&& ~~~ (1#8 <<< (k - 1)) } }).raise Src.host
    Event.TAMPER_ACKED (leBytes 1 k ++ (d.pow.login.map Login.identity).getD (List.replicate 16 0))

theorem hTamperAck_inactive {own : Owner} {args : List Byte} {s : State} (h1 : 1 ≤ fieldAt args 0 2)
    (h8 : fieldAt args 0 2 ≤ 8) (ha : s.dev.keys.active.getLsbD (fieldAt args 0 2 - 1) = false) :
    hTamperAck s own args = .yes [] (tamperAcked (fieldAt args 0 2) s.dev) := by
  unfold hTamperAck
  dsimp only
  rw [if_neg (by simp [ha]), if_neg (by omega)]
  rfl

/-! IMAGE_ACTIVATE (R427). -/

theorem endJobs_only (st result : Nat) (js : List Job) (d : Dev) :
    DevOnly [.acs, .log, .win] d (js.foldl (fun d j => endJob j.id st result d) d) :=
  DevOnly.foldl (fun e j => endJob_only j.id st result e) js d

/-- The activation a is under way, and logged (R427). -/
def activationNoted (a : Activation) (d : Dev) : Dev :=
  ({ d with upd := { d.upd with
    st := 5, activation := some a, restartDue := a.byRestart
    trialSet := if a.byRestart then some a.target else d.upd.trialSet } }).raise a.src
      Event.ACTIVATION_STARTED (leBytes 4 a.counter ++ leBytes 1 (if a.byRestart then 1 else 0))

/-- The lane that tries the new set is restarted, where the activation needs no restart of the whole (R428). -/
def trialRestarted (a : Activation) (d : Dev) : Dev :=
  if a.byRestart || decide ((d.lanes.get a.lane).st = LaneSt.failed) then d else restartLane a.lane d

theorem activationNoted_only (a : Activation) (d : Dev) : DevOnly [.log, .upd] d (activationNoted a d) := by
  simp [devOnly_iff, activationNoted]

theorem trialRestarted_only (a : Activation) (d : Dev) : DevOnly [.lanes] d (trialRestarted a d) :=
  .ite (fun _ => .refl _ d) fun _ => restartLane_only a.lane d

/-- The activation that IMAGE_ACTIVATE starts (R427, R431). -/
def activationOf (s : State) (src : Nat) (d : Dev) : Activation :=
  ⟨s.clk.frame, decide (manifestInterface (imageSet d (inactiveSet d)).bytes ≠ manifestInterface (activeSet d).bytes),
    manifestCounter (imageSet d (inactiveSet d)).bytes, inactiveSet d, laneOther (d.lanes.acting.getD .a), false, false, none, src⟩

theorem startActivation_eq (s : State) (src : Nat) (d : Dev) : startActivation s src d =
    trialRestarted (activationOf s src d) (activationNoted (activationOf s src d)
      ((d.acs.jobs.filter fun j => j.live && decide (j.kind = .scrub)).foldl (fun d j => endJob j.id 5 0 d) d)) := rfl

/-- What the start of an activation leaves (R427). -/
theorem startActivation_begun (s : State) (src : Nat) (d : Dev) :
    DevOnly [.lanes, .win, .acs, .log, .upd] d (startActivation s src d) ∧ (startActivation s src d).upd.st = 5 ∧
      (startActivation s src d).upd.activeSet = d.upd.activeSet ∧
      ∃ a, (startActivation s src d).upd.activation = some a ∧ a.since = s.clk.frame ∧ a.target = inactiveSet d ∧
        a.handed = false := by
  have hscrubs := endJobs_only 5 0 (d.acs.jobs.filter fun j => j.live && decide (j.kind = .scrub)) d
  have heq := startActivation_eq s src d
  generalize (d.acs.jobs.filter fun j => j.live && decide (j.kind = .scrub)).foldl (fun d j => endJob j.id 5 0 d) d = e
    at hscrubs heq
  have htrial := trialRestarted_only (activationOf s src d) (activationNoted (activationOf s src d) e)
  have hupd : (startActivation s src d).upd = (activationNoted (activationOf s src d) e).upd := by
    rw [heq, htrial .upd (by decide)]
  have honly := (activationNoted_only (activationOf s src d) e).then htrial (rs := [.lanes, .log, .upd])
  rw [← heq] at honly
  rw [hupd]
  have hsame : e.upd = d.upd := hscrubs .upd (by decide)
  exact ⟨hscrubs.then honly, rfl, by rw [← hsame]; rfl, _, rfl, rfl, rfl, rfl⟩

theorem hImageActivate_starts {own : Owner} {args : List Byte} {s : State} (h : activateFault s (fieldAt args 0 4) = none) :
    hImageActivate s own args = .yes [] (startActivation s (ownerSrc (ownerCode own)) s.dev) := by
  rw [hImageActivate, h]

end Sys2Proof.Machine

open Sys2Proof Sys2Proof.Machine

/-- Settles O32: the handler of each command accepts, and its effect stands beside the answer. -/
theorem keyAndListCommands : Obligations.KeyAndListCommands := by
  unfold Obligations.KeyAndListCommands
  intro own tag args s
  refine ⟨fun ho hv hn hl hb hpos hown => ?window, fun ho hv hn hl hb hown => ?empty, fun ho hv hn hl hown => ?entries,
    fun d ho hd => ?lookup, fun ho hown hj hc hb => ?enrol, fun ho hown hj hc hroom => ?token,
    fun k ho hk h1 h8 ha => ?ack, fun ho hf => ?activate⟩
  case window =>
    subst hown
    have hh := hAuthLoad_open (own := .host) hv hn hl fun _ => hb
    rw [if_neg (by simp), if_neg (by omega)] at hh
    refine .of_yes (ps := [.acs, .pow, .nfc]) rfl ho hh (by simp [devOnly_iff, openBulk, openLoad])
      fun t hans hsame hacs _ honly => ⟨hans, hsame .nfc (by decide), ?_, honly⟩
    rw [hacs]
    rfl
  case empty =>
    subst hown
    have hh := hAuthLoad_open (own := .host) hv (by omega) hl fun _ => hb
    rw [if_neg (by simp), if_pos hn] at hh
    have hload := loadEntries_nfc [] (openLoad (fieldAt args 0 4) (fieldAt args 4 2) (ownerCode .host) s.dev)
    have honly₀ := (openLoad_only (fieldAt args 0 4) (fieldAt args 4 2) (ownerCode .host) s.dev).then (rs := [.acs, .pow, .log, .nfc])
      (loadEntries_only [] _)
    refine .of_yes (ps := [.acs, .pow, .log, .nfc]) rfl ho hh honly₀ fun t hans hsame hacs _ honly => ?_
    have hnfc : t.dev.nfc = _ := (hsame .nfc (by decide)).trans hload
    rw [hnfc, hacs]
    exact ⟨hans, by simp [openLoad, hn], rfl, rfl, by rw [loadEntries_only _ _ .acs (by decide)]; rfl, honly⟩
  case entries =>
    have hh := hAuthLoad_open (own := own) hv hn hl fun h => absurd h hown
    rw [if_pos hown] at hh
    have hload := loadEntries_nfc (args.drop 6) (openLoad (fieldAt args 0 4) (fieldAt args 4 2) (ownerCode own) s.dev)
    have honly₀ := (openLoad_only (fieldAt args 0 4) (fieldAt args 4 2) (ownerCode own) s.dev).then (rs := [.acs, .pow, .log, .nfc])
      (loadEntries_only (args.drop 6) _)
    refine .of_yes (ps := [.acs, .pow, .log, .nfc]) rfl ho hh honly₀ fun t hans hsame hacs _ honly => ?_
    have hnfc : t.dev.nfc = _ := (hsame .nfc (by decide)).trans hload
    rw [hnfc]
    exact ⟨hans, rfl, rfl, rfl, honly⟩
  case lookup =>
    subst hd
    refine .of_yes (h := hAuthLookup) (ps := [.acs, .pow, .log, .nfc]) rfl ho rfl
      ((settleSwap_only s.clk.frame s.dev).mono (by decide)) fun t hans hsame _ _ honly => ?_
    have hnfc : t.dev.nfc = _ := hsame .nfc (by decide)
    exact ⟨hans, hnfc, fun hidle => by rw [hnfc, settleSwap_idle hidle], honly⟩
  case enrol =>
    subst hown
    refine .of_yes (ps := [.acs, .pow, .keys]) rfl ho (hEnrol_window hj hc hb) (by simp [devOnly_iff, openBulk])
      fun t hans hsame hacs _ honly => ⟨hans, hsame .keys (by decide), ?_, honly⟩
    rw [hacs]
    rfl
  case token =>
    have hjob := startJob_mem (kind := .derive) (own := 0) (arg := 1) (jobsFull_of_room (own := 0)
      (d := { s.dev with keys := { s.dev.keys with token := args, enrolSt := 2, checking := true } })
      ((jobRoom_keys ..).trans hroom))
    have honly₀ : DevOnly [.acs, .pow, .keys] s.dev (startTokenCheck args s.dev) := by
      simp [devOnly_iff, startTokenCheck, startJob]
    refine .of_yes rfl ho (hEnrol_token hown hj hc hroom) honly₀
      fun t hans hsame hacs _ honly => ⟨hans, hsame .keys (by decide), ?_, honly⟩
    rw [hacs]
    exact hjob
  case ack =>
    subst hk
    refine .of_yes (ps := [.acs, .pow, .log, .keys]) rfl ho (hTamperAck_inactive h1 h8 ha) (by simp [devOnly_iff, tamperAcked])
      fun t hans hsame hacs hpow honly => ⟨hans, ⟨hacs, hpow⟩, hsame .keys (by decide), hsame .log (by decide), honly⟩
  case activate =>
    obtain ⟨honly₀, hst, hset, a, ha⟩ := startActivation_begun s (ownerSrc (ownerCode own)) s.dev
    refine .of_yes rfl ho (hImageActivate_starts hf) (honly₀.mono (by decide)) (ps := [.lanes, .pow, .win, .acs, .log, .upd])
      fun t hans hsame _ _ honly => ?_
    have hupd : t.dev.upd = _ := hsame .upd (by decide)
    rw [hupd]
    exact ⟨hans, hst, hset, ⟨a, ha⟩, honly⟩

end

section
/-!
SUPPORT. A poll of the contactless reader (R368 to R371, R376): what a presented card may change, the cards present after it,
and the state in which the cards are taken.
-/

namespace Sys2Proof.Machine

/-! A presented card (R371, R376). -/

theorem cardResult_only (s : State) (ident : List Byte) (hit : Bool) (d : Dev) :
    DevOnly [.lanes, .pow, .ses, .led, .log, .acs, .keys, .dc, .veh, .saf] d (cardResult s ident hit d) := by
  have hraise (code : Nat) : DevOnly [.lanes, .pow, .ses, .led, .log, .acs, .keys, .dc, .veh, .saf] d (d.raise Src.card code []) :=
    (DevOnly.raise Src.card code [] d).mono (by decide)
  unfold cardResult
  refine .ite (fun _ => hraise _) fun _ => ?_
  split
  · exact .ite (fun _ => orderedStop_only s EndCause.card d) fun _ => hraise _
  · refine .ite (fun _ => .ite (fun _ => by simp [devOnly_iff]) fun _ => ?_) fun _ => .ite (fun _ => hraise _) fun _ => by
      simp [devOnly_iff]
    exact (takeAuth_taken Src.card 2 ident s.clk.frame d).only.mono (by decide)

/-- A lookup changes of the reader its two counts alone (R376). -/
theorem lookupCard_leaves (s : State) (kind : Nat) (ident : List Byte) (d : Dev) :
    DevOnly [.lanes, .pow, .acs, .log, .led, .veh, .ses, .dc, .saf, .nfc, .keys] d (lookupCard s kind ident d) ∧
      ∃ lookups hits, (lookupCard s kind ident d).nfc = { d.nfc with lookups := lookups, hits := hits } := by
  have hresult (lookups hits : Nat) (hit : Bool) :
      DevOnly [.lanes, .pow, .acs, .log, .led, .veh, .ses, .dc, .saf, .nfc, .keys] d
        (cardResult s ident hit { d with nfc := { d.nfc with lookups := lookups, hits := hits } }) ∧
      (cardResult s ident hit { d with nfc := { d.nfc with lookups := lookups, hits := hits } }).nfc =
        { d.nfc with lookups := lookups, hits := hits } :=
    have h := cardResult_only s ident hit { d with nfc := { d.nfc with lookups := lookups, hits := hits } }
    have hcounts : DevOnly [.nfc] d { d with nfc := { d.nfc with lookups := lookups, hits := hits } } := by simp [devOnly_iff]
    ⟨hcounts.then h, h .nfc (by decide)⟩
  unfold lookupCard
  dsimp only
  split
  · exact ⟨(hresult _ _ false).1, _, _, (hresult _ d.nfc.hits false).2⟩
  · split
    · exact ⟨by simp [devOnly_iff], _, _, rfl⟩
    · exact ⟨(hresult _ _ _).1, _, _, (hresult _ _ _).2⟩

/-- A card of kind and identifier x is present, last seen in frame n. -/
def SeenAt (n : Nat) (x : Nat × List Byte) (d : Dev) : Prop := ∃ y ∈ d.nfc.cards, (y.kind, y.ident) = x ∧ y.lastSeen = n

/-- A card of kind and identifier x is presented anew (R371): its lookup apart. -/
def cardAdded (n : Nat) (x : Nat × List Byte) (d : Dev) : Dev :=
  { d with nfc := { d.nfc with cards := d.nfc.cards ++ [({ kind := x.1, ident := x.2, lastSeen := n } : Card)] } }

/-- A card that has an identifier of its own is counted and logged (R371). -/
def cardPresented (n : Nat) (x : Nat × List Byte) (d : Dev) : Dev :=
  ({ cardAdded n x d with nfc := { (cardAdded n x d).nfc with
      presented := d.nfc.presented + 1, last := some (x.1, x.2, n) } }).raise Src.card Event.CARD_PRESENTED
    (leBytes 1 x.1 ++ identItem x.2)

/-- A card that is not yet present and has an identifier of its own is presented and looked up (R371). -/
theorem cardFound_new {d : Dev} {x : Nat × List Byte} (h : ∀ y ∈ d.nfc.cards, y.kind ≠ x.1 ∨ y.ident ≠ x.2)
    (hr : isRandom x = false) (s : State) :
    cardFound s d x = lookupCard s x.1 x.2 (cardPresented s.clk.frame x d) := by
  have hany : (d.nfc.cards.any fun c => decide (c.kind = x.1) && decide (c.ident = x.2)) = false := by
    simpa [Decidable.imp_iff_not_or] using h
  unfold cardFound
  dsimp only
  rw [hany, hr]
  rfl

/-- The cards present after a card is found, and what else of the reader stays (R371). -/
theorem cardFound_leaves (s : State) (d : Dev) (x : Nat × List Byte) :
    DevOnly [.lanes, .pow, .acs, .log, .led, .veh, .ses, .dc, .saf, .nfc, .keys] d (cardFound s d x) ∧
      (cardFound s d x).nfc.pollAt = d.nfc.pollAt ∧
      SeenAt s.clk.frame x (cardFound s d x) ∧
      ∀ x', SeenAt s.clk.frame x' d → SeenAt s.clk.frame x' (cardFound s d x) := by
  by_cases hany : (d.nfc.cards.any fun c => decide (c.kind = x.1) && decide (c.ident = x.2)) = true
  · have heq : cardFound s d x = { d with nfc := { d.nfc with cards := d.nfc.cards.map fun c =>
        if c.kind = x.1 ∧ c.ident = x.2 then { c with lastSeen := s.clk.frame } else c } } := if_pos hany
    rw [heq]
    refine ⟨by simp [devOnly_iff], rfl, ?_, ?_⟩
    · obtain ⟨c, hc, hx⟩ := List.any_eq_true.1 hany
      simp only [Bool.and_eq_true, decide_eq_true_eq] at hx
      exact ⟨_, List.mem_map_of_mem hc, by simp [hx], by simp [hx]⟩
    · rintro x' ⟨y, hy, rfl, hn⟩
      refine ⟨_, List.mem_map_of_mem hy, ?_⟩
      split <;> simp [hn]
  · have hadded (e : Dev) (he : e.nfc.cards = (cardAdded s.clk.frame x d).nfc.cards) :
        SeenAt s.clk.frame x e ∧ ∀ x', SeenAt s.clk.frame x' d → SeenAt s.clk.frame x' e := by
      unfold SeenAt
      rw [he]
      exact ⟨⟨_, List.mem_append_right _ (List.mem_singleton_self _), rfl, rfl⟩,
        fun x' ⟨y, hy, h⟩ => ⟨y, List.mem_append_left _ hy, h⟩⟩
    cases hr : isRandom x with
    | true =>
      have heq : cardFound s d x = (cardAdded s.clk.frame x d).raise Src.card Event.CARD_RANDOM_UID [] :=
        (if_neg hany).trans (if_pos hr)
      rw [heq]
      exact ⟨by simp [devOnly_iff, cardAdded], rfl, hadded _ rfl⟩
    | false =>
      have hnew : ∀ y ∈ d.nfc.cards, y.kind ≠ x.1 ∨ y.ident ≠ x.2 := by
        simpa [Decidable.imp_iff_not_or] using hany
      rw [cardFound_new hnew hr]
      obtain ⟨honly, lookups, hits, hnfc⟩ := lookupCard_leaves s x.1 x.2 (cardPresented s.clk.frame x d)
      have hpresented : DevOnly [.log, .nfc] d (cardPresented s.clk.frame x d) := by
        simp [devOnly_iff, cardPresented, cardAdded]
      exact ⟨hpresented.then honly, by rw [hnfc]; rfl, hadded _ (by rw [hnfc]; rfl)⟩

/-- Of the cards found in turn each is present, last seen in the frame (R371). -/
theorem cardsFound_leave (s : State) : ∀ (xs : List (Nat × List Byte)) (d : Dev),
    (xs.foldl (cardFound s) d).nfc.pollAt = d.nfc.pollAt ∧
      ∀ x, x ∈ xs ∨ SeenAt s.clk.frame x d → SeenAt s.clk.frame x (xs.foldl (cardFound s) d)
  | [], _ => ⟨rfl, fun x h => h.resolve_left (List.not_mem_nil (a := x))⟩
  | x :: xs, d => by
    obtain ⟨-, hpoll, hseen, hkept⟩ := cardFound_leaves s d x
    obtain ⟨hpoll', hseen'⟩ := cardsFound_leave s xs (cardFound s d x)
    refine ⟨hpoll'.trans hpoll, fun x' h => hseen' x' ?_⟩
    obtain h | h := h
    · obtain rfl | h := List.mem_cons.1 h
      · exact .inr hseen
      · exact .inl h
    · exact .inr (hkept x' h)

/-! A poll (R368 to R371). -/

theorem Dev.blk_congr {d e : Dev} (h : e.par = d.par) (id : Nat) : e.blk id = d.blk id := by rw [Dev.blk, h]; rfl

/-- A card's identifier depends on the parameters alone (R370). -/
theorem identify_congr {d e : Dev} (h : e.par = d.par) : identify e = identify d := by
  funext c
  unfold identify isoDepUsed
  rw [Dev.nat_congr h, Dev.blk_congr h]

/-- The cards of a poll depend on the parameters and the slot count alone (R371). -/
theorem pollCards_congr {d e : Dev} (h : e.par = d.par) (hs : e.nfc.slotN = d.nfc.slotN) (ans : PollAns) :
    pollCards e ans = pollCards d ans := by
  simp only [pollCards, Dev.nat_congr h, hs]

/-- A poll of which the cards are not yet taken: the swap that was due, and what the poll leaves of the reader itself. -/
def pollBegun (s : State) (ans : PollAns) (d : Dev) : Dev :=
  let d := settleSwap s.clk.frame d
  let x := pollCards d ans
  let d := { d with nfc := { d.nfc with
    slotN := x.2.1, wtxTotal := 0, pollAt := s.clk.frame, rate := (x.1.getLast?.map (rateUsed d)).getD d.nfc.rate } }
  if x.2.2 then d.raise Src.card Event.CARD_COLLISION [] else d

/-- What the beginning of a poll leaves as it was: with no swap due the active list too. -/
structure PollBegun (s : State) (d e : Dev) : Prop where
  only : DevOnly [.nfc, .log] d e
  pollAt : e.nfc.pollAt = s.clk.frame
  cards : e.nfc.cards = d.nfc.cards
  falseCount : e.nfc.falseCount = d.nfc.falseCount
  threshold : e.nfc.threshold = d.nfc.threshold
  idle : d.nfc.swapAt = none → e.nfc.list = d.nfc.list ∧ e.nfc.lookups = d.nfc.lookups ∧ e.nfc.hits = d.nfc.hits

theorem pollBegun_begun (s : State) (ans : PollAns) (d : Dev) : PollBegun s d (pollBegun s ans d) := by
  have hswap : PollBegun s d { settleSwap s.clk.frame d with nfc := { (settleSwap s.clk.frame d).nfc with pollAt := s.clk.frame } } := by
    refine ⟨(settleSwap_only s.clk.frame d).then (qs := [.nfc]) (by simp [devOnly_iff]), rfl, ?_, ?_, ?_, fun h => ?_⟩
    · exact (apply_ite (fun e : Dev => e.nfc.cards) _ _ _).trans (ite_self _)
    · exact (apply_ite (fun e : Dev => e.nfc.falseCount) _ _ _).trans (ite_self _)
    · exact (apply_ite (fun e : Dev => e.nfc.threshold) _ _ _).trans (ite_self _)
    · rw [settleSwap_idle h]
      exact ⟨rfl, rfl, rfl⟩
  obtain ⟨honly, hpoll, hcards, hfalse, hthr, hidle⟩ := hswap
  unfold pollBegun
  dsimp only
  split
  · exact ⟨honly.then (qs := [.nfc, .log]) (by simp [devOnly_iff]), hpoll, hcards, hfalse, hthr, hidle⟩
  · exact ⟨honly.then (qs := [.nfc, .log]) (by simp [devOnly_iff]), hpoll, hcards, hfalse, hthr, hidle⟩

/-- A poll takes the cards that it identifies, in turn. -/
theorem poll_eq (s : State) (ans : PollAns) (d : Dev) :
    poll s ans d = ((pollCards d ans).1.map (identify d)).foldl (cardFound s) (pollBegun s ans d) := by
  have hslot : (settleSwap s.clk.frame d).nfc.slotN = d.nfc.slotN :=
    (apply_ite (fun e : Dev => e.nfc.slotN) _ _ _).trans (ite_self _)
  rw [← pollCards_congr (settleSwap_only s.clk.frame d .par (by decide)) hslot,
    ← identify_congr ((pollBegun_begun s ans d).only .par (by decide))]
  rfl

theorem poll_only (s : State) (ans : PollAns) (d : Dev) :
    DevOnly [.lanes, .pow, .acs, .log, .led, .veh, .ses, .dc, .saf, .nfc, .keys] d (poll s ans d) := by
  rw [poll_eq]
  exact (pollBegun_begun s ans d).only.then (DevOnly.foldl (fun e x => (cardFound_leaves s e x).1) _ _)

/-- Every card that a poll identifies is present (R371). -/
theorem poll_sees (s : State) (ans : PollAns) (d : Dev) : (poll s ans d).nfc.pollAt = s.clk.frame ∧
    ∀ c ∈ (pollCards d ans).1, ∃ y ∈ (poll s ans d).nfc.cards, (y.kind, y.ident) = identify d c ∧ y.lastSeen = s.clk.frame := by
  rw [poll_eq]
  obtain ⟨hpoll, hseen⟩ := cardsFound_leave s ((pollCards d ans).1.map (identify d)) (pollBegun s ans d)
  exact ⟨hpoll.trans (pollBegun_begun s ans d).pollAt, fun c hc => hseen _ (.inl (List.mem_map_of_mem hc))⟩

end Sys2Proof.Machine

end

section
/-!
PROOF. The contactless reader (R367, R371 to R374, R376).
-/

namespace Sys2Proof.Machine

/-! A ping (R373, R374). -/

/-- A ping without a false alarm counts, or lowers the threshold towards PING_THR (R374). -/
theorem cleanPing_leaves (d : Dev) : ∃ clean threshold,
    cleanPing d = { d with nfc := { d.nfc with clean := clean, threshold := threshold } } ∧
      threshold ≤ max d.nfc.threshold (d.nat Param.PING_THR) := by
  unfold cleanPing
  split
  · exact ⟨_, _, rfl, by omega⟩
  · exact ⟨_, _, rfl, le_max_left _ _⟩

theorem pingEff_below {m : Int × Int} {d : Dev} (h : detuned d.nfc.baseline m d.nfc.threshold = false) (s : State)
    (ans : PollAns) : pingEff s m ans d =
      cleanPing { d with nfc := { d.nfc with pingAt := s.clk.frame, baseline := (m :: d.nfc.baseline).take 16 } } := by
  unfold pingEff
  dsimp only
  rw [h]
  rfl

/-- A ping has been made (R373). -/
def pinged (n : Nat) (d : Dev) : Dev := { d with nfc := { d.nfc with pingAt := n } }

theorem pollCards_pinged (n : Nat) (d : Dev) (ans : PollAns) : pollCards (pinged n d) ans = pollCards d ans :=
  pollCards_congr rfl rfl ans

/-- A ping above the threshold polls (R374). -/
theorem pingEff_above {m : Int × Int} {d : Dev} (h : detuned d.nfc.baseline m d.nfc.threshold = true) (s : State)
    (ans : PollAns) : pingEff s m ans d =
      if (pollCards d ans).1 = [] then falseAlarm m (poll s ans (pinged s.clk.frame d))
      else cleanPing (poll s ans (pinged s.clk.frame d)) := by
  unfold pingEff
  dsimp only
  rw [h, if_pos rfl]
  change (if (!(pollCards (pinged s.clk.frame d) ans).1.isEmpty) = true then cleanPing (poll s ans (pinged s.clk.frame d))
    else falseAlarm m (poll s ans (pinged s.clk.frame d))) = _
  rw [pollCards_pinged]
  cases (pollCards d ans).1 with
  | nil => exact (if_neg Bool.false_ne_true).trans (if_pos rfl).symm
  | cons c cs => exact (if_pos rfl).trans (if_neg (List.cons_ne_nil c cs)).symm

/-! A card with an identifier of its own that is presented alone (R371, R376). -/

theorem poll_single {s : State} {ans : PollAns} {d : Dev} {c : CardAns} {k : Nat} {x : List Byte} (hc : (pollCards d ans).1 = [c])
    (hx : identify d c = (k, x)) (hr : isRandom (k, x) = false) (hn : ∀ y ∈ d.nfc.cards, y.kind ≠ k ∨ y.ident ≠ x) :
    poll s ans d = lookupCard s k x (cardPresented s.clk.frame (k, x) (pollBegun s ans d)) := by
  rw [poll_eq, hc, List.map_singleton, hx, List.foldl_cons, List.foldl_nil]
  refine cardFound_new ?_ hr s
  rw [(pollBegun_begun s ans d).cards]
  exact hn

/-- A listed card's lookup is counted as a hit (R376). -/
def hitCounted (d : Dev) : Dev := { d with nfc := { d.nfc with lookups := d.nfc.lookups + 1, hits := d.nfc.hits + 1 } }

/-- A blocked card is only logged (R376). -/
theorem lookupCard_blocked {d : Dev} {k : Nat} {x e : List Byte} (he : findEntry d k x = some e)
    (hb : (fieldAt e 12 1).testBit 0 = true) (s : State) :
    lookupCard s k x d = (hitCounted d).raise Src.card Event.AUTH_BLOCKED (identItem x) := by
  have he' : findEntry { d with nfc := { d.nfc with lookups := d.nfc.lookups + 1 } } k x = some e := he
  unfold lookupCard
  dsimp only
  rw [he']
  dsimp only
  rw [hb]
  rfl

/-- A listed card without restrictions is allowed (R376). -/
theorem lookupCard_plain {d : Dev} {k : Nat} {x e : List Byte} (he : findEntry d k x = some e) (hb : fieldAt e 12 1 = 0)
    (s : State) : lookupCard s k x d = cardResult s x true (hitCounted d) := by
  have he' : findEntry { d with nfc := { d.nfc with lookups := d.nfc.lookups + 1 } } k x = some e := he
  unfold lookupCard
  dsimp only
  rw [he']
  dsimp only
  rw [hb]
  rfl

/-- An allowed card authorises where nothing else is authorised or waits (R252, R262). -/
theorem cardResult_authorises {s : State} {d : Dev} (ha : d.ses.auth = none) (hr : d.ses.request = none)
    (hh : d.ses.heldCard = none) (he : d.ses.endedAt ≠ some s.clk.frame) (hp : pilotMode s.clk.mode = true)
    (h1 : d.veh.contract ≠ 1) (h4 : d.veh.contract ≠ 4) (ident : List Byte) :
    cardResult s ident true d = takeAuth Src.card 2 ident s.clk.frame d := by
  unfold cardResult
  dsimp only
  rw [if_neg (by simp [hr, hh, he, hp]), ha]
  dsimp only
  rw [if_pos rfl, if_neg (by simp [h1, h4])]

theorem takeAuth_logs (src means : Nat) (id : List Byte) (n : Nat) (d : Dev) :
    Ev.of src Event.AUTHORISED (leBytes 1 means ++ identItem id) ∈ (takeAuth src means id n d).log.now := by
  unfold takeAuth
  dsimp only
  rw [recordAuth_only _ .log (by decide)]
  exact List.mem_append_right _ (List.mem_singleton_self _)

/-! The reader in fault (R367). -/

theorem readerRuns_fault {s : State} (h : s.dev.nfc.fault = true) : readerRuns s = false := by simp [readerRuns, h]

end Sys2Proof.Machine

open Sys2Proof Sys2Proof.Machine

/-- Settles O57: a poll takes the cards that it identifies in turn, and each stays present with the frame of the poll. -/
theorem readerRows : Obligations.ReaderRows := by
  unfold Obligations.ReaderRows
  refine ⟨fun re im ans s hdue => ?ping, fun ans s hrun hcards hpoll => ?poll, fun k x s => ?absent, fun w s hrun => ?waiting,
    fun amplitude stored s hrun hcards hbad => ?fault⟩
  case ping =>
    have hnone : s.dev.nfc.cards = [] := by
      simp only [pingDue, Bool.and_eq_true, List.isEmpty_iff] at hdue
      exact hdue.1.2
    have hping (hc : Committed s) {P : State → Prop} (k : P (s.onDev (pingEff s (re, im) ans))) :
        Completes (.gauzePing re im ans) s P := .of_protoWhen (b := fun _ => pingDue s) hc rfl hdue k
    refine ⟨fun hd hc => hping hc ?_, fun hd hn hc => hping hc ?_, fun hd hn hc => hping hc ?_⟩
    · obtain ⟨clean, threshold, heq, hthr⟩ := cleanPing_leaves
        { s.dev with nfc := { s.dev.nfc with pingAt := s.clk.frame, baseline := ((re, im) :: s.dev.nfc.baseline).take 16 } }
      rw [State.onDev, pingEff_below hd, heq]
      exact ⟨rfl, rfl, hnone, hthr, .dev (by simp [devOnly_iff])⟩
    · obtain ⟨honly, -, hcards, hfalse, hthr, -⟩ := pollBegun_begun s ans (pinged s.clk.frame s.dev)
      have hpar : (pollBegun s ans (pinged s.clk.frame s.dev)).par = s.dev.par := honly .par (by decide)
      rw [State.onDev, pingEff_above hd, if_pos hn, poll_eq, pollCards_pinged, hn]
      have hpinged : DevOnly [.nfc] s.dev (pinged s.clk.frame s.dev) := by simp [devOnly_iff, pinged]
      have halarm (d : Dev) : DevOnly [.nfc] d (falseAlarm (re, im) d) := by simp [devOnly_iff, falseAlarm]
      refine ⟨congrArg (· + 1) hfalse, rfl, hcards.trans hnone, ?_, .dev (hpinged.then (honly.then (halarm _) (rs := [.nfc, .log])))⟩
      exact congrArg₂ (fun p k => min (4 * p) (k * 125 / 100)) (Dev.nat_congr hpar Param.PING_THR) hthr
    · have honly := poll_only s ans (pinged s.clk.frame s.dev)
      obtain ⟨-, hseen⟩ := poll_sees s ans (pinged s.clk.frame s.dev)
      obtain ⟨clean, threshold, heq, -⟩ := cleanPing_leaves (poll s ans (pinged s.clk.frame s.dev))
      rw [pollCards_pinged] at hseen
      rw [State.onDev, pingEff_above hd, if_neg hn, heq]
      refine ⟨fun hnil => ?_, hseen, .dev ?_⟩
      · obtain ⟨c, hc⟩ := List.exists_mem_of_ne_nil _ hn
        obtain ⟨y, hy, -⟩ := hseen c hc
        have hnil' : (poll s ans (pinged s.clk.frame s.dev)).nfc.cards = [] := hnil
        rw [hnil'] at hy
        exact List.not_mem_nil hy
      · have hpinged : DevOnly [.nfc] s.dev (pinged s.clk.frame s.dev) := by simp [devOnly_iff, pinged]
        exact (hpinged.then honly (rs := [.lanes, .pow, .acs, .log, .led, .veh, .ses, .dc, .saf, .nfc, .keys])).then
          (qs := [.nfc]) (by simp [devOnly_iff])
  case poll =>
    have hexec (hc : Committed s) {P : State → Prop} (k : P (s.onDev (poll s ans))) :
        Completes (.pollWhilePresent ans) s P :=
      .of_protoWhen (b := fun _ => readerRuns s && !s.dev.nfc.cards.isEmpty && decide (s.dev.nfc.pollAt + ms 250 ≤ s.clk.frame))
        hc rfl (by simp [hrun, hcards, ms, hpoll]) k
    refine ⟨fun hc => hexec hc ⟨(poll_sees s ans s.dev).1, (poll_sees s ans s.dev).2, .dev (poll_only s ans s.dev)⟩,
      fun c k x hcard hx hr hn hswap => ?_⟩
    have hsingle := poll_single (s := s) hcard hx hr hn
    obtain ⟨honly, -, -, -, -, hidle⟩ := pollBegun_begun s ans s.dev
    obtain ⟨hlist, hlookups, hhits⟩ := hidle hswap
    have hpresented : DevOnly [.nfc, .log] s.dev (cardPresented s.clk.frame (k, x) (pollBegun s ans s.dev)) :=
      honly.then (qs := [.nfc, .log]) (by simp [devOnly_iff, cardPresented, cardAdded])
    have hentry : findEntry (cardPresented s.clk.frame (k, x) (pollBegun s ans s.dev)) k x = findEntry s.dev k x :=
      congrArg (List.find? _) hlist
    refine ⟨fun e he hb hc => hexec hc ?_, fun e he h0 ha hq hh hended hp h1 h4 hc => hexec hc ?_⟩
    · rw [State.onDev, hsingle, lookupCard_blocked (hentry.trans he) hb]
      exact ⟨hpresented .ses (by decide), List.mem_append_right _ (List.mem_singleton_self _), congrArg (· + 1) hlookups,
        congrArg (· + 1) hhits, .dev (hpresented.then (qs := [.nfc, .log]) (by simp [devOnly_iff, hitCounted]))⟩
    · have hses : (hitCounted (cardPresented s.clk.frame (k, x) (pollBegun s ans s.dev))).ses = s.dev.ses :=
        hpresented .ses (by decide)
      have hveh : (hitCounted (cardPresented s.clk.frame (k, x) (pollBegun s ans s.dev))).veh = s.dev.veh :=
        hpresented .veh (by decide)
      rw [State.onDev, hsingle, lookupCard_plain (hentry.trans he) h0, cardResult_authorises (by rwa [hses]) (by rwa [hses])
        (by rwa [hses]) (by rwa [hses]) hp (by rwa [hveh]) (by rwa [hveh])]
      exact ⟨by rw [takeAuth_auth]; rfl, takeAuth_logs ..⟩
  case absent =>
    refine .of_devStep rfl ⟨rfl, fun c hc => ?_, fun c hc => List.mem_of_mem_filter hc, .dev (by simp [devOnly_iff])⟩
    refine List.mem_filter.trans ((and_iff_right hc).trans ?_)
    simp only [Bool.not_eq_true', Bool.and_eq_false_iff, decide_eq_false_iff_not]
    tauto
  case waiting =>
    have hexec (hc : Committed s) {P : State → Prop} (k : P (s.onDev (wtxEff w))) : Completes (.sWtxRequest w) s P :=
      .of_protoWhen (b := fun _ => readerRuns s) hc rfl hrun k
    refine ⟨fun hw hc => hexec hc ?_, fun hw hc => hexec hc ?_, fun fwi us hf => ?_⟩
    · rw [State.onDev, wtxEff, if_pos hw]
      exact ⟨rfl, .dev (by simp [devOnly_iff])⟩
    · rw [State.onDev, wtxEff, if_neg (by omega)]
      exact ⟨rfl, rfl, .dev (by simp [devOnly_iff])⟩
    · exact .of_when (b := fun _ => readerRuns s && decide (fwtNs fwi ≤ 1000 * us)) rfl (by simp [hrun, hf])
        ⟨rfl, rfl, .dev (by simp [devOnly_iff])⟩
  case fault =>
    refine .of_when (b := fun _ => readerRuns s && s.dev.nfc.cards.isEmpty && fieldBad amplitude stored) rfl
      (by simp [hrun, hcards, fieldBad, hbad]) ?_
    have htest := selftest_only s.clk.frame 10 false amplitude s.dev
    refine ⟨?_, readerRuns_fault rfl, (selftest_summary s.clk.frame false amplitude s.dev (by decide)).trans (if_pos rfl),
      List.mem_append_right _ (List.mem_singleton_self _), .dev (htest.then (readerFail_only amplitude _))⟩
    exact congrArg (fun x : Nfc => { x with fault := true }) (htest .nfc (by decide))

end

section
/-!
SUPPORT. Erasure (R409): the records that can no longer be signed, the jobs that use the keys, and what an erasure leaves of
session, counters and mode.
-/

namespace Sys2Proof.Machine

/-! Records that can no longer be signed (R199). -/

theorem markUnsigned_only (r : Record) (d : Dev) : DevOnly [.led, .log] d (markUnsigned r d) := by
  simp [devOnly_iff, markUnsigned, onRecord]

/-- Each record named in turn becomes unsigned, and no other begins to wait for a signature. -/
theorem markUnsigned_all : ∀ (rs : List Record) (d : Dev),
    (∀ r ∈ d.led.records, r.signState = 1 → ∃ q ∈ rs, q.number = r.number) →
    ∀ r ∈ (rs.foldl (fun d r => markUnsigned r d) d).led.records, r.signState ≠ 1
  | [], _, h => fun r hr h1 => by simpa using h r hr h1
  | q :: rs, d, h => by
    refine markUnsigned_all rs (markUnsigned q d) fun r hr h1 => ?_
    obtain ⟨x, hx, rfl⟩ := List.mem_map.1 hr
    split at h1
    · exact absurd h1 (by simp)
    · next hne =>
      rw [if_neg hne]
      obtain ⟨p, hp, hnum⟩ := h x hx h1
      obtain rfl | hp := List.mem_cons.1 hp
      · exact absurd hnum.symm hne
      · exact ⟨p, hp, hnum⟩

/-- The records that wait for a signature become unsigned (R199, R409). -/
def recordsGivenUp (d : Dev) : Dev :=
  (d.led.records.filter fun r => decide (r.signState = 1)).foldl (fun d r => markUnsigned r d) d

theorem recordsGivenUp_only (d : Dev) : DevOnly [.led, .log] d (recordsGivenUp d) :=
  DevOnly.foldl (fun e r => markUnsigned_only r e) _ d

theorem recordsGivenUp_none (d : Dev) : ∀ r ∈ (recordsGivenUp d).led.records, r.signState ≠ 1 :=
  markUnsigned_all _ d fun r hr h1 => ⟨r, List.mem_filter.2 ⟨hr, by simp [h1]⟩, rfl⟩

/-! Jobs that use the keys (R409, R415). -/

/-- A job that signs or derives keys. -/
def Job.keyed (j : Job) : Prop := j.kind = .signing ∨ j.kind = .derive

/-- No job that waits uses the keys, and each that runs has its identifier among those named. -/
structure KeyJobsAmong (ids : List Nat) (d : Dev) : Prop where
  jobs : ∀ j ∈ d.acs.jobs, j.live = true → j.keyed → j.id ∈ ids
  wait : ∀ j ∈ d.acs.jobsWait, ¬j.keyed

theorem makeRoom_subset (js : List Job) : makeRoom js ⊆ js := by
  unfold makeRoom
  split
  · exact List.Subset.refl _
  · exact List.eraseP_subset

/-- A job that waited and takes a place does not use the keys. -/
theorem KeyJobsAmong.afterPlace {ids : List Nat} {d : Dev} (h : KeyJobsAmong ids d) : KeyJobsAmong ids (takePlace d) := by
  unfold takePlace
  split
  · next j rest hw =>
    refine (apply_ite (KeyJobsAmong ids) _ _ _).mpr ?_
    split
    · exact h
    · have hwait := h.wait
      rw [hw] at hwait
      refine ⟨fun k hk hlive hkey => ?_, fun k hk => hwait k (List.mem_cons_of_mem j hk)⟩
      obtain hk | hk := List.mem_append.1 hk
      · exact h.jobs k (makeRoom_subset _ hk) hlive hkey
      · rw [List.mem_singleton.1 hk] at hkey
        exact absurd hkey (hwait j List.mem_cons_self)
  · exact h

/-- A job that has failed no longer runs. -/
theorem KeyJobsAmong.afterEnd {i : Nat} {ids : List Nat} {d : Dev} (h : KeyJobsAmong (i :: ids) d) (result : Nat) :
    KeyJobsAmong ids (endJob i 4 result d) := by
  obtain ⟨hnone, heq⟩ | ⟨j, -, rfl, heq⟩ := endJob_cases i 4 result d
  · rw [heq]
    exact ⟨fun k hk hlive hkey => (List.mem_cons.1 (h.jobs k hk hlive hkey)).resolve_left (hnone k hk hlive), h.wait⟩
  · rw [heq]
    refine KeyJobsAmong.afterPlace ⟨fun k hk hlive hkey => ?_, h.wait⟩
    obtain ⟨x, hx, rfl⟩ := List.mem_map.1 hk
    split at hlive
    · exact absurd hlive (by simp [Job.live])
    · next hne =>
      rw [if_neg hne] at hkey ⊢
      exact (List.mem_cons.1 (h.jobs x hx hlive hkey)).resolve_left hne

theorem KeyJobsAmong.afterEnds (result : Nat) : ∀ (js : List Job) {d : Dev}, KeyJobsAmong (js.map Job.id) d →
    KeyJobsAmong [] (js.foldl (fun d j => endJob j.id 4 result d) d)
  | [], _, h => h
  | _ :: js, _, h => KeyJobsAmong.afterEnds result js (h.afterEnd result)

/-- The jobs that wait without those that use the keys. -/
def keyWaitsDropped (d : Dev) : Dev :=
  { d with acs := { d.acs with
    jobsWait := d.acs.jobsWait.filter fun (j : Job) => decide (j.kind ≠ .signing ∧ j.kind ≠ .derive) } }

/-- The running jobs that an erasure ends have ended. -/
def keyJobsEnded (host : Bool) (d : Dev) : Dev :=
  (d.acs.jobs.filter fun j => j.live && (decide (j.kind = .signing ∨ j.kind = .derive) ||
    (host && decide (j.kind = .verify)))).foldl (fun d j => endJob j.id 4 0x12 d) d

/-- The verification of a host object, where one ran, has failed (R433). -/
def hostCheckFailed (host : Bool) (d : Dev) : Dev := if host then { d with upd := { d.upd with st := 7, result := 0x12 } } else d

theorem endKeyJobs_eq (d : Dev) : endKeyJobs d = hostCheckFailed (decide (d.upd.st = 3) && decide (d.upd.source = 2))
    (keyJobsEnded (decide (d.upd.st = 3) && decide (d.upd.source = 2)) (keyWaitsDropped d)) := rfl

theorem hostCheckFailed_only (host : Bool) (d : Dev) : DevOnly [.upd] d (hostCheckFailed host d) :=
  .ite (fun _ => by simp [devOnly_iff]) fun _ => .refl _ d

theorem keyJobsEnded_among (host : Bool) (d : Dev) : KeyJobsAmong [] (keyJobsEnded host (keyWaitsDropped d)) := by
  refine KeyJobsAmong.afterEnds 0x12 _ ⟨fun j hj hlive hkey => ?_, fun j hj => ?_⟩
  · exact List.mem_map_of_mem (List.mem_filter.2 ⟨hj, by simp [hlive, show j.kind = .signing ∨ j.kind = .derive from hkey]⟩)
  · have hkind := (List.mem_filter.1 hj).2
    simp only [decide_eq_true_eq] at hkind
    exact fun hkey => hkey.elim hkind.1 hkind.2

/-- After an erasure no job runs or waits that uses the keys (R409, R415). -/
theorem endKeyJobs_leaves (d : Dev) : DevOnly [.acs, .log, .win, .upd] d (endKeyJobs d) ∧
    ∀ j ∈ (endKeyJobs d).acs.jobs ++ (endKeyJobs d).acs.jobsWait, j.live = true → j.kind ≠ .signing ∧ j.kind ≠ .derive := by
  rw [endKeyJobs_eq]
  generalize (decide (d.upd.st = 3) && decide (d.upd.source = 2)) = host
  have hdropped : DevOnly [.acs] d (keyWaitsDropped d) := by simp [devOnly_iff, keyWaitsDropped]
  have hends : DevOnly [.acs, .log, .win] d (keyJobsEnded host (keyWaitsDropped d)) :=
    hdropped.then (endJobs_only 4 0x12 _ (keyWaitsDropped d))
  have hhost := hostCheckFailed_only host (keyJobsEnded host (keyWaitsDropped d))
  refine ⟨hends.then hhost, fun j hj hlive => not_or.1 fun hkey => ?_⟩
  rw [hhost .acs (by decide)] at hj
  obtain ⟨hjobs, hwait⟩ := keyJobsEnded_among host d
  obtain hj | hj := List.mem_append.1 hj
  · exact List.not_mem_nil (hjobs j hj hlive hkey)
  · exact hwait j hj hkey

/-! What the end of a session leaves of the keys. -/

/-- The end of a session clears the network key, and nothing else of the keys (R244). -/
theorem endSession_keys (s : State) (cause : Nat) (d : Dev) :
    ∃ slots, (endSession s cause d).keys = { d.keys with slots := slots } := by
  unfold endSession
  split
  · obtain ⟨bal, h⟩ := closeSession_eq s cause (sessionEndedEv s cause) (requestOpen s.clk.frame d)
    have hkeys : (balanceLog (requestOpen s.clk.frame d).ses.number bal (sessionEndedEv s cause
        (closingRecord s cause (requestOpen s.clk.frame d)))).keys = d.keys :=
      (((balanceLog_only _ bal _ .keys (by decide)).trans (sessionEndedEv_only s cause _ .keys (by decide))).trans
        (closingRecord_only s cause _ .keys (by decide))).trans (requestOpen_only _ d .keys (by decide))
    rw [endMode_only _ _ .keys (by decide), h, ← hkeys]
    exact ⟨_, rfl⟩
  · exact ⟨_, rfl⟩

/-! The frame after an erasure (R409). -/

/-- What an erasure leaves of keys and mode: a new root is due, and the counters are stored (R409, R414). -/
def erasureSettled (d : Dev) : Dev := storeCounters { d with
  pow := { d.pow with reopened := true }
  keys := { d.keys with
    erasePending := none, rootPending := true, rootJob := none, checking := false
    enrolSt := if d.keys.checking then 4 else d.keys.enrolSt
    identity := if d.keys.cert.isSome then 2 else 0 } }

/-- An erasure that is settled is logged. -/
def erasureLogged (src : Nat) (d : Dev) : Dev :=
  d.raise Src.serge Event.KEYS_ERASED (leBytes 1 src ++ leBytes 4 d.keys.vault.eraseCount)

/-- An erasure asks for Quarantine outside Factory and Quarantine. -/
def quarantineAsked (m : Mode) (d : Dev) : Dev :=
  if m = .factory ∨ m = .quarantine then d else d.reqMode .quarantine .toQuarantine (causeEvent Event.KEYS_ERASED)

theorem quarantineAsked_only (m : Mode) (d : Dev) : DevOnly [.pow] d (quarantineAsked m d) :=
  .ite (fun _ => .refl _ d) fun _ => by simp [devOnly_iff, Dev.reqMode]

theorem quarantineAsked_reopened (m : Mode) (d : Dev) : (quarantineAsked m d).pow.reopened = d.pow.reopened :=
  (apply_ite (fun e : Dev => e.pow.reopened) _ _ _).trans (ite_self _)

/-- The session ended by an erasure, and the records that it leaves unsigned. -/
def erasureCut (s : State) (src : Nat) (d : Dev) : Dev :=
  recordsGivenUp (endSession s EndCause.erased (d.when (decide (src = 9)) countErasure))

theorem erasedEff_eq (s : State) (src : Nat) (d : Dev) : erasedEff s src d = quarantineAsked s.clk.mode
    (erasureLogged src (erasureSettled (endKeyJobs (requestOpen s.clk.frame (erasureCut s src d))))) := rfl

/-- What is left when the session has been ended by an erasure. -/
structure ErasureCut (src : Nat) (d e : Dev) : Prop where
  only : DevOnly [.lanes, .pow, .ses, .led, .log, .acs, .keys, .dc, .veh, .saf] d e
  closed : e.ses.isOpen = false
  records : ∀ r ∈ e.led.records, r.signState ≠ 1
  dispute : e.lanes.dispute = d.lanes.dispute
  cert : e.keys.cert = d.keys.cert
  count : e.keys.vault.eraseCount = d.keys.vault.eraseCount + (if src = 9 then 1 else 0)

theorem erasureCut_cut (s : State) (src : Nat) (d : Dev) : ErasureCut src d (erasureCut s src d) := by
  have hcounted : DevOnly [.keys] d (d.when (decide (src = 9)) countErasure) :=
    DevOnly.when fun _ => by simp [devOnly_iff, countErasure]
  have hkeys : (d.when (decide (src = 9)) countErasure).keys.cert = d.keys.cert ∧
      (d.when (decide (src = 9)) countErasure).keys.vault.eraseCount =
        d.keys.vault.eraseCount + (if src = 9 then 1 else 0) := by
    by_cases h : src = 9
    · rw [decide_eq_true h, if_pos h]
      exact ⟨rfl, rfl⟩
    · rw [decide_eq_false h, if_neg h]
      exact ⟨rfl, rfl⟩
  have honly := endSession_only s EndCause.erased (d.when (decide (src = 9)) countErasure)
  have hclosed := endSession_closed s EndCause.erased (d.when (decide (src = 9)) countErasure)
  obtain ⟨o, r, hlanes⟩ := endSession_lanes s EndCause.erased (d.when (decide (src = 9)) countErasure)
  obtain ⟨slots, hends⟩ := endSession_keys s EndCause.erased (d.when (decide (src = 9)) countErasure)
  have hrecords := recordsGivenUp_only (endSession s EndCause.erased (d.when (decide (src = 9)) countErasure))
  refine ⟨hcounted.then (honly.then hrecords (rs := [.lanes, .pow, .ses, .led, .log, .acs, .keys, .dc, .veh, .saf])),
    ?_, recordsGivenUp_none _, ?_, ?_, ?_⟩
  · rw [erasureCut, hrecords .ses (by decide)]
    exact hclosed
  · have hsame : (d.when (decide (src = 9)) countErasure).lanes = d.lanes := hcounted .lanes (by decide)
    rw [erasureCut, hrecords .lanes (by decide), hlanes, hsame]
  · rw [erasureCut, hrecords .keys (by decide), hends]
    exact hkeys.1
  · rw [erasureCut, hrecords .keys (by decide), hends]
    exact hkeys.2

end Sys2Proof.Machine

end

section
/-!
PROOF. The battery domain (R391 to R393, R404 to R409).
-/

namespace Sys2Proof.Machine

/-! Cells (R392). -/

theorem cell_onCell {c : Nat} (hc : c = 1 ∨ c = 2) (f : Cell → Cell) (d : Dev) :
    (onCell c f d).keys.cell c = f (d.keys.cell c) ∧ (onCell c f d).keys.cell (3 - c) = d.keys.cell (3 - c) := by
  obtain rfl | rfl := hc
  · exact ⟨rfl, rfl⟩
  · exact ⟨rfl, rfl⟩

theorem onCell_only (c : Nat) (f : Cell → Cell) (d : Dev) : DevOnly [.keys] d (onCell c f d) := by
  simp [devOnly_iff, onCell]

/-- Both cells are cell c and the other. -/
theorem cells_both {c : Nat} (hc : c = 1 ∨ c = 2) (x : Keys) (P : Cell → Prop) :
    P x.cell1 ∧ P x.cell2 ↔ P (x.cell c) ∧ P (x.cell (3 - c)) := by
  obtain rfl | rfl := hc
  · exact Iff.rfl
  · exact and_comm

/-- A cell as a measurement judges it (R392). -/
def judgedCell (thr mv : Nat) (load : Bool) (x : Cell) : Cell :=
  { x with
    mv := if load then x.mv else mv
    low := x.low || decide (mv < thr), failed := x.failed || decide (mv < 2000)
    aboveLow := if thr + 100 ≤ mv then x.aboveLow + (if load then 0 else 1) else 0
    aboveFail := if 2100 ≤ mv then x.aboveFail + (if load then 0 else 1) else 0 }

/-- A cell is judged, and its faults are logged: the loss of both cells apart (R392). -/
def cellMarked (c mv : Nat) (load : Bool) (d : Dev) : Dev :=
  let old := d.keys.cell c
  let thr := d.nat Param.VBAT_LOW_THR
  let d := onCell c (judgedCell thr mv load) d
  let d := if mv < thr ∧ ¬old.low then
      d.raise Src.serge Event.BACKUP_CELL_LOW (leBytes 1 c ++ leBytesInt 4 mv ++ leBytes 1 0) else d
  if mv < 2000 ∧ ¬old.failed then d.raise Src.serge Event.BACKUP_CELL_FAILED (leBytes 1 c) else d

/-- The loss of both cells is logged once (R392). -/
def cellsLost (d : Dev) : Dev :=
  if d.keys.cell1.failed ∧ d.keys.cell2.failed ∧ ¬d.keys.lost then
    ({ d with keys := { d.keys with lost := true } }).raise Src.serge Event.BACKUP_LOST []
  else d

theorem cellEff_eq (c mv : Nat) (load : Bool) (d : Dev) : cellEff c mv load d = cellsLost (cellMarked c mv load d) := rfl

theorem cellMarked_keys (c mv : Nat) (load : Bool) (d : Dev) :
    (cellMarked c mv load d).keys = (onCell c (judgedCell (d.nat Param.VBAT_LOW_THR) mv load) d).keys := by
  unfold cellMarked
  dsimp only
  split <;> split <;> rfl

theorem cellMarked_only (c mv : Nat) (load : Bool) (d : Dev) : DevOnly [.log, .keys] d (cellMarked c mv load d) := by
  have hcell := onCell_only c (judgedCell (d.nat Param.VBAT_LOW_THR) mv load) d
  unfold cellMarked
  dsimp only
  split <;> split <;> exact hcell.then (qs := [.log]) (by simp [devOnly_iff])

/-- The events of a judgement: low and failed where the cell was not (R392). -/
theorem cellMarked_log (c mv : Nat) (load : Bool) (d : Dev) : (cellMarked c mv load d).log = { d.log with now := d.log.now ++
    ((if mv < d.nat Param.VBAT_LOW_THR ∧ ¬(d.keys.cell c).low then
      [.of Src.serge Event.BACKUP_CELL_LOW (leBytes 1 c ++ leBytesInt 4 mv ++ leBytes 1 0)] else []) ++
    (if mv < 2000 ∧ ¬(d.keys.cell c).failed then [.of Src.serge Event.BACKUP_CELL_FAILED (leBytes 1 c)] else [])) } := by
  unfold cellMarked
  dsimp only
  split <;> split <;> simp [Dev.raise, onCell]

theorem cellsLost_cell (c : Nat) (d : Dev) : (cellsLost d).keys.cell c = d.keys.cell c :=
  (apply_ite (fun e : Dev => e.keys.cell c) _ _ _).trans (ite_self _)

theorem cellsLost_leaves (d : Dev) : DevOnly [.log, .keys] d (cellsLost d) ∧ Grows d (cellsLost d) := by
  unfold cellsLost
  split
  · exact ⟨by simp [devOnly_iff], .raise_of_eq _ _ _⟩
  · exact ⟨.refl _ d, .refl d⟩

/-- A cell is judged (R392). -/
theorem cellEff_judged {c : Nat} (hc : c = 1 ∨ c = 2) (mv : Nat) (load : Bool) (s : State) :
    CellJudged c mv load s (s.onDev (cellEff c mv load)) := by
  obtain ⟨hown, hother⟩ := cell_onCell hc (judgedCell (s.dev.nat Param.VBAT_LOW_THR) mv load) s.dev
  have hcell (k : Nat) : (cellEff c mv load s.dev).keys.cell k =
      (onCell c (judgedCell (s.dev.nat Param.VBAT_LOW_THR) mv load) s.dev).keys.cell k := by
    rw [cellEff_eq, cellsLost_cell, cellMarked_keys]
  have hmarked := cellMarked_only c mv load s.dev
  obtain ⟨hlostOnly, hgrows⟩ := cellsLost_leaves (cellMarked c mv load s.dev)
  have hlog := cellMarked_log c mv load s.dev
  have hlost : (cellMarked c mv load s.dev).keys.lost = s.dev.keys.lost := by
    rw [cellMarked_keys]
    obtain rfl | rfl := hc <;> rfl
  refine ⟨?_, ?_, ?_, (hcell _).trans hother, fun hlow h => ?_, fun hfail h => ⟨?_, fun hoth hl => ?_⟩, fun h1 h2 hb => ?_,
    .dev (hmarked.then hlostOnly)⟩
  · exact congrArg Cell.mv ((hcell c).trans hown)
  · exact congrArg Cell.low ((hcell c).trans hown)
  · exact congrArg Cell.failed ((hcell c).trans hown)
  · refine hgrows.now ?_
    rw [hlog, if_pos ⟨hlow, by simp [h]⟩]
    exact List.mem_append_right _ (List.mem_append_left _ (List.mem_singleton_self _))
  · refine hgrows.now ?_
    rw [hlog, if_pos (c := mv < 2000 ∧ _) ⟨hfail, by simp [h]⟩]
    exact List.mem_append_right _ (List.mem_append_right _ (List.mem_singleton_self _))
  · have hboth := (cells_both hc (cellMarked c mv load s.dev).keys fun x => x.failed = true).2 (by
      rw [cellMarked_keys, hown, hother]
      exact ⟨by simp [judgedCell, hfail], hoth⟩)
    rw [State.onDev, cellEff_eq, cellsLost, if_pos ⟨hboth.1, hboth.2, by simp [hlost, hl]⟩]
    exact List.mem_append_right _ (List.mem_singleton_self _)
  · have hquiet : (cellMarked c mv load s.dev).log = s.dev.log := by
      rw [hlog, if_neg (by omega), if_neg (by omega), List.append_nil, List.append_nil]
    have hnot : ¬((cellMarked c mv load s.dev).keys.cell1.failed = true ∧ (cellMarked c mv load s.dev).keys.cell2.failed = true ∧
        ¬(cellMarked c mv load s.dev).keys.lost = true) := by
      rintro ⟨hf1, hf2, hl⟩
      have hboth := (cells_both hc (cellMarked c mv load s.dev).keys fun x => x.failed = true).1 ⟨hf1, hf2⟩
      rw [cellMarked_keys, hown, hother] at hboth
      have hsame : (judgedCell (s.dev.nat Param.VBAT_LOW_THR) mv load (s.dev.keys.cell c)).failed = (s.dev.keys.cell c).failed := by
        simp [judgedCell, h2]
      rw [hsame] at hboth
      obtain ⟨hs1, hs2⟩ := (cells_both hc s.dev.keys fun x => x.failed = true).2 hboth
      simp [hs1, hs2, ← hlost, hl] at hb
    rw [State.onDev, cellEff_eq, cellsLost, if_neg hnot]
    exact hquiet

/-- A cell has recovered, of one fault or both (R392). -/
def cellRecovered (x : Cell) : Bool := (x.low && decide (60 ≤ x.aboveLow)) || (x.failed && decide (60 ≤ x.aboveFail))

/-- A cell without the faults that it has recovered from (R392). -/
def restoredCell (x : Cell) : Cell :=
  { x with low := x.low && decide (x.aboveLow < 60), failed := x.failed && decide (x.aboveFail < 60) }

/-- The restoration of cell c is logged, and the loss of both is over (R392). -/
def restoreLogged (c : Nat) (mv : Int) (d : Dev) : Dev :=
  ({ d with keys := { d.keys with lost := d.keys.cell1.failed && d.keys.cell2.failed } }).raise Src.serge Event.BACKUP_CELL_LOW
    (leBytes 1 c ++ leBytesInt 4 mv ++ leBytes 1 1)

theorem fault_stays (b : Bool) (n : Nat) : (b && !(b && decide (60 ≤ n))) = (b && decide (n < 60)) := by
  cases b
  · rfl
  · exact (decide_not (p := 60 ≤ n)).symm.trans (decide_eq_decide.2 Nat.not_le)

theorem restoreLogged_cell (c k : Nat) (mv : Int) (d : Dev) : (restoreLogged c mv d).keys.cell k = d.keys.cell k := rfl

theorem cellRestore_eq {c : Nat} (hc : c = 1 ∨ c = 2) (d : Dev) : cellRestore c d =
    if cellRecovered (d.keys.cell c) then restoreLogged c (d.keys.cell c).mv (onCell c restoredCell d) else d := by
  have hcell : onCell c (fun x => { x with
      low := x.low && !((d.keys.cell c).low && decide (60 ≤ (d.keys.cell c).aboveLow))
      failed := x.failed && !((d.keys.cell c).failed && decide (60 ≤ (d.keys.cell c).aboveFail)) }) d = onCell c restoredCell d := by
    obtain rfl | rfl := hc
    · simp only [onCell, Keys.cell, restoredCell, fault_stays, if_pos]
    · simp only [onCell, Keys.cell, restoredCell, fault_stays, if_neg (show ¬(2 = 1) by decide)]
  rw [← hcell]
  rfl

/-- A cell that has recovered of nothing keeps its faults. -/
theorem restoredCell_of_not {x : Cell} (h : cellRecovered x = false) : restoredCell x = x := by
  obtain ⟨hlow, hfail⟩ := Bool.or_eq_false_iff.1 h
  have hl := fault_stays x.low x.aboveLow
  have hf := fault_stays x.failed x.aboveFail
  rw [hlow, Bool.not_false, Bool.and_true] at hl
  rw [hfail, Bool.not_false, Bool.and_true] at hf
  rw [restoredCell, ← hl, ← hf]

/-- The cells after CELL_RESTORED (R392). -/
theorem cellRestore_cells {c : Nat} (hc : c = 1 ∨ c = 2) (d : Dev) : (cellRestore c d).keys.cell c = restoredCell (d.keys.cell c) ∧
    (cellRestore c d).keys.cell (3 - c) = d.keys.cell (3 - c) := by
  rw [cellRestore_eq hc]
  split
  · exact cell_onCell hc restoredCell d
  · next h => exact ⟨(restoredCell_of_not (by simpa using h)).symm, rfl⟩

/-- The restoration of a cell is logged once (R392). -/
theorem cellRestore_log {c : Nat} (hc : c = 1 ∨ c = 2) {d : Dev} (h : cellRecovered (d.keys.cell c) = true) :
    (cellRestore c d).log = { d.log with now := d.log.now ++
      [.of Src.serge Event.BACKUP_CELL_LOW (leBytes 1 c ++ leBytesInt 4 (d.keys.cell c).mv ++ [1])] } := by
  rw [cellRestore_eq hc, if_pos h]
  rfl

theorem cellRestore_only {c : Nat} (hc : c = 1 ∨ c = 2) (d : Dev) : DevOnly [.log, .keys] d (cellRestore c d) := by
  rw [cellRestore_eq hc]
  refine .ite (fun _ => (onCell_only c restoredCell d).then (qs := [.log, .keys]) ?_) fun _ => .refl _ d
  simp [devOnly_iff, restoreLogged]

/-! Supply of the battery domain (R393). -/

/-- The battery domain has found its vault empty, and its clock without a status (R393). -/
theorem batteryUp_logs (n : Nat) {d : Dev} (h : d.tar.status ≠ 2) : (batteryUp n d).log = { d.log with now := d.log.now ++
    [.of Src.metr Event.CLOCK_STATUS_CHANGED (leBytes 1 d.tar.status ++ leBytes 1 2 ++ leBytes 1 0)] } :=
  congrArg Dev.log (if_neg h)

theorem batteryUp_parts (n : Nat) (d : Dev) : DevOnly [.log, .tar, .keys] d (batteryUp n d) := by
  unfold batteryUp
  dsimp only
  split
  · simp [devOnly_iff, keyz]
  · simp [devOnly_iff, keyz]

theorem batteryUp_keys (n : Nat) (d : Dev) :
    (batteryUp n d).keys = (keyz n 9 { d with keys := { d.keys with supplied := true, vault := {} } }).keys :=
  (apply_ite (fun e : Dev => e.keys) _ _ _).trans (ite_self _)

/-! Tamper sources (R405 to R408). -/

/-- The bit of source k. -/
theorem sourceBit {k b : Nat} (h1 : 1 ≤ k) (hb : b < 8) : (1#8 <<< (k - 1)).getLsbD b = decide (b = k - 1) := by
  simp only [BitVec.getLsbD_shiftLeft, BitVec.getLsbD_one]
  grind

/-- The record of a detection in the ring (R407). -/
def tamperRecord (src cls : Nat) (d : Dev) : TamperRec := ⟨d.tar.rtc, d.tar.sub, src, cls, tamperPower d, decide (cls = 3)⟩

/-- A detection is counted, entered in the ring, and latched for class 2 and 3 (R406, R407). -/
def tamperEntered (src cls : Nat) (d : Dev) : Dev :=
  { d with keys := { d.keys with
      ring := lastN 16 (d.keys.ring ++ [tamperRecord src cls d]), undrained := min 16 (d.keys.undrained + 1)
      tamperCount := d.keys.tamperCount + 1
      latched := if 2 ≤ cls then d.keys.latched ||| (1#8 <<< (src - 1)) else d.keys.latched } }

theorem tamperDetect_eq (n src cls : Nat) (d : Dev) : tamperDetect n src cls d =
    if cls = 0 then d else if cls = 3 then countErasure (keyz n src (tamperEntered src cls d)) else tamperEntered src cls d := rfl

/-- The last of a ring of 16 is the one that came last. -/
theorem getLast?_ring {α : Type} (l : List α) (x : α) : (lastN 16 (l ++ [x])).getLast? = some x := by
  rw [lastN, List.getLast?_drop, if_neg (by simp), List.getLast?_concat]

/-- What a detection of class cls leaves (R406 to R408). -/
structure Detected (n src cls : Nat) (d e : Dev) : Prop where
  only : DevOnly [.keys] d e
  active : e.keys.active = d.keys.active
  latched : e.keys.latched = if 2 ≤ cls then d.keys.latched ||| (1#8 <<< (src - 1)) else d.keys.latched
  none : cls = 0 → e = d
  counted : 1 ≤ cls → e.keys.tamperCount = d.keys.tamperCount + 1 ∧ e.keys.ring.getLast? = some (tamperRecord src cls d)
  kept : cls < 3 → e.keys.slots = d.keys.slots ∧ e.keys.root = d.keys.root ∧ e.keys.erased = d.keys.erased ∧
    e.keys.vault = d.keys.vault
  cleared : cls = 3 → e.keys.slots = List.replicate 16 {} ∧ e.keys.root = Option.none ∧ e.keys.erased = true ∧
    e.keys.erasePending = some (src, n) ∧ e.keys.vault = { d.keys.vault with eraseCount := d.keys.vault.eraseCount + 1 }
  cert : e.keys.cert = d.keys.cert

theorem tamperDetect_detected (n src cls : Nat) (d : Dev) : Detected n src cls d (tamperDetect n src cls d) := by
  have hring := getLast?_ring d.keys.ring (tamperRecord src cls d)
  rw [tamperDetect_eq]
  split
  · next h0 =>
    exact ⟨.refl _ d, rfl, (if_neg (by omega)).symm, fun _ => rfl, fun h => by omega, fun _ => ⟨rfl, rfl, rfl, rfl⟩,
      fun h => by omega, rfl⟩
  · next h0 =>
    split
    · next h3 =>
      exact ⟨by simp [devOnly_iff, countErasure, keyz, tamperEntered], rfl, rfl, fun h => absurd h h0, fun _ => ⟨rfl, hring⟩,
        fun h => by omega, fun _ => ⟨rfl, rfl, rfl, rfl, rfl⟩, rfl⟩
    · next h3 =>
      exact ⟨by simp [devOnly_iff, tamperEntered], rfl, rfl, fun h => absurd h h0, fun _ => ⟨rfl, hring⟩,
        fun _ => ⟨rfl, rfl, rfl, rfl⟩, fun h => absurd h h3, rfl⟩

/-- Source k is active (R406). -/
def sourceActive (k : Nat) (d : Dev) : Dev := { d with keys := { d.keys with active := d.keys.active ||| (1#8 <<< (k - 1)) } }

theorem tamperActive_new {k : Nat} {d : Dev} (h1 : 1 ≤ k) (h8 : k ≤ 8) (hs : d.keys.supplied = true)
    (ha : d.keys.active.getLsbD (k - 1) = false) (n : Nat) :
    tamperActive n k d = tamperDetect n k (tamperClass d k) (sourceActive k d) := if_pos ⟨h1, h8, hs, by simp [ha]⟩

/-! A new root (R393, R409). -/

/-- A new root is drawn, and the modem leaves the PAN (R409). -/
def rootDrawn (d : Dev) : Dev :=
  (leavePan (storeCounters { d with keys := { d.keys with
    root := some (Config.trng d.keys.draws 32), draws := d.keys.draws + 1, rootPending := false, rootJob := some d.acs.nextJob
    request := [], vault := { d.keys.vault with rootGen := d.keys.vault.rootGen + 1 } } })).raise Src.serge
      Event.ROOT_GENERATED (leBytes 4 (d.keys.vault.rootGen + 1))

theorem rootEff_eq (d : Dev) : rootEff d = startJob .derive 0 0 (rootDrawn d) := rfl

theorem rootDrawn_only (d : Dev) : DevOnly [.log, .gplc, .keys] d (rootDrawn d) := by
  simp [devOnly_iff, rootDrawn, storeCounters, leavePan]

/-- A job that starts stands last in the table, or last of those that wait where the table is full (R89). -/
theorem startJob_last (kind : JobKind) (own arg : Nat) (d : Dev) :
    ((if jobsFull d then (startJob kind own arg d).acs.jobsWait else (startJob kind own arg d).acs.jobs).getLast?.map
      fun j => (j.id, j.kind, j.owner, j.st)) = some (d.acs.nextJob, kind, own, 1) := by
  unfold startJob
  dsimp only
  split <;> simp

end Sys2Proof.Machine

open Sys2Proof Sys2Proof.Machine

/-- Settles O59: a judgement, a detection and an erasure each in their parts, and of the jobs that use the keys none is left. -/
theorem batteryAndTamperRows : Obligations.BatteryAndTamperRows := by
  unfold Obligations.BatteryAndTamperRows
  refine ⟨fun c mv s hr hp hc => ?judged, fun c s hr hp hc => ?restored, fun s => ⟨fun hs => ?up, fun hr hs hp => ?lost⟩,
    fun k s h1 h8 hs ha => ?tamper, fun k s h1 h8 => ?inactive, fun src k s hr he hk => ?erased, fun s hr hp hm => ?root,
    fun s hr hn => ?nonce⟩
  case judged =>
    have hdue : cellDue s c = true := by simp [cellDue, hr, hp, hc]
    exact ⟨.of_when (b := fun _ => cellDue s c) rfl hdue (cellEff_judged hc mv false s),
      .of_when (b := fun _ => cellDue s c) rfl hdue (cellEff_judged hc mv true s)⟩
  case restored =>
    obtain ⟨hown, hother⟩ := cellRestore_cells hc s.dev
    refine .of_when (b := fun _ => cellDue s c) rfl (by simp [cellDue, hr, hp, hc]) ⟨congrArg Cell.low hown,
      congrArg Cell.failed hown, hother, fun h h60 => cellRestore_log hc ?_, fun _ h h60 => cellRestore_log hc ?_,
      .dev (cellRestore_only hc s.dev)⟩
    · simp [cellRecovered, h, h60]
    · simp [cellRecovered, h, h60]
  case up =>
    refine .of_when (b := fun _ => !s.dev.keys.supplied) rfl (by simp [hs]) ?_
    have hkeys := batteryUp_keys s.clk.frame s.dev
    rw [State.onDev, hkeys]
    exact ⟨rfl, rfl, rfl, rfl, rfl, rfl, rfl, rfl, batteryUp_logs s.clk.frame, .dev (batteryUp_parts s.clk.frame s.dev)⟩
  case lost =>
    exact .of_when (b := fun _ => supplyLostDue s) rfl (by simp [supplyLostDue, hr, hs, hp])
      ⟨rfl, rfl, rfl, rfl, rfl, rfl, rfl, .dev (by simp [devOnly_iff])⟩
  case tamper =>
    have hcls : tamperClass s.dev k < 4 := Nat.mod_lt _ (by decide)
    obtain ⟨honly, hactive, hlatched, hnone, hcounted, hkept, hcleared, hcert⟩ :=
      tamperDetect_detected s.clk.frame k (tamperClass s.dev k) (sourceActive k s.dev)
    have hsource : DevOnly [.keys] s.dev (sourceActive k s.dev) := by simp [devOnly_iff, sourceActive]
    refine .of_devStep rfl ?_
    rw [State.onDev, tamperActive_new h1 h8 hs ha]
    refine ⟨fun b hb => ?_, fun b hb => ?_, fun h => ?_, fun h => ⟨(hcounted h).1, ?_⟩, hkept, hcleared, hcert,
      .dev (hsource.trans honly)⟩
    · rw [hactive, sourceActive, BitVec.getLsbD_or, sourceBit h1 hb]
    · rw [hlatched]
      split
      · next h2 => simp [sourceActive, sourceBit h1 hb, h2]
      · next h2 => simp [sourceActive, h2]
    · rw [hnone h]
      rfl
    · rw [(hcounted h).2]
      rfl
  case inactive =>
    refine .of_when (b := fun _ => decide (1 ≤ k ∧ k ≤ 8)) rfl (by simp [h1, h8])
      ⟨fun b hb => ?_, rfl, .dev (by simp [devOnly_iff])⟩
    exact (BitVec.getLsbD_and ..).trans (by rw [BitVec.getLsbD_not, sourceBit h1 hb]; simp [hb])
  case erased =>
    have hdue : erasedDue s = some src := by rw [erasedDue, he]; simp [hr, hk]
    obtain ⟨hcutOnly, hclosed, hrecords, hdispute, hcert, hcount⟩ := erasureCut_cut s src s.dev
    obtain ⟨hjobsOnly, hjobs⟩ := endKeyJobs_leaves (requestOpen s.clk.frame (erasureCut s src s.dev))
    have hopen := requestOpen_only s.clk.frame (erasureCut s src s.dev)
    have hled := hopen.then hjobsOnly (rs := [.lanes, .saf, .veh, .acs, .log, .win, .upd])
    refine .of_devStep (f := erasedEff s src) ?_ ?_
    · show execKeysErased s = _
      rw [execKeysErased, hdue]
    rw [State.onDev, erasedEff_eq]
    have hlanes : outletShut (requestOpen s.clk.frame (erasureCut s src s.dev)) = outletShut
        (endKeyJobs (requestOpen s.clk.frame (erasureCut s src s.dev))) := by
      unfold outletShut quadsOn enablesOn
      rw [hjobsOnly .lanes (by decide)]
    generalize endKeyJobs (requestOpen s.clk.frame (erasureCut s src s.dev)) = e at hjobsOnly hjobs hled hlanes
    have hses : e.ses = (erasureCut s src s.dev).ses := hled .ses (by decide)
    have hrec : e.led = (erasureCut s src s.dev).led := hled .led (by decide)
    have hkeys : e.keys = (erasureCut s src s.dev).keys := hled .keys (by decide)
    have hsettled : DevOnly [.log, .pow, .keys] e (erasureLogged src (erasureSettled e)) := by
      simp [devOnly_iff, erasureLogged, erasureSettled, storeCounters]
    have hask := quarantineAsked_only s.clk.mode (erasureLogged src (erasureSettled e))
    have hend := hsettled.then hask (rs := [.log, .pow, .keys])
    have hkeys' : (quarantineAsked s.clk.mode (erasureLogged src (erasureSettled e))).keys = (erasureSettled e).keys :=
      hask .keys (by decide)
    have hlog : (quarantineAsked s.clk.mode (erasureLogged src (erasureSettled e))).log = (erasureLogged src (erasureSettled e)).log :=
      hask .log (by decide)
    have hall := hcutOnly.then (hled.then hend (rs := [.lanes, .pow, .win, .acs, .log, .veh, .saf, .keys, .upd]))
      (rs := [.lanes, .pow, .win, .acs, .log, .led, .veh, .ses, .dc, .saf, .keys, .upd])
    refine ⟨?_, ?_, quarantineAsked_reopened _ _, ?_, ?_, ?_, ?_, ?_, ?_, fun hf hq => ?_, ?_, fun hd => ?_, ?_, .dev hall⟩
    · rw [hend .ses (by decide), hses]
      exact hclosed
    · rw [hend .led (by decide), hrec]
      exact hrecords
    · rw [hend .acs (by decide)]
      exact hjobs
    · rw [hkeys']
      rfl
    · rw [hkeys']
      rfl
    · rw [hkeys', ← hcount, ← hkeys]
      rfl
    · rw [hkeys']
      rfl
    · rw [hkeys']
      rfl
    · rw [quarantineAsked, if_neg (by simp [hf, hq])]
      exact List.mem_append_right _ (List.mem_singleton_self _)
    · rw [hkeys', ← hcert, ← hkeys]
      rfl
    · have hshut := hlanes.symm.trans (outletShut_requestOpen (hdispute.trans hd) s.clk.frame)
      show (quarantineAsked s.clk.mode (erasureLogged src (erasureSettled e))).lanes.outputs.getLsbD 0 = false ∧
        (quarantineAsked s.clk.mode (erasureLogged src (erasureSettled e))).lanes.outputs.getLsbD 1 = false
      rw [hend .lanes (by decide)]
      exact Bool.or_eq_false_iff.1 hshut
    · rw [Logged, hlog, hkeys']
      exact List.mem_append_right _ (List.mem_singleton_self _)
  case root =>
    have hdue : rootDue s = true := by
      obtain hm | ⟨hm, hcert⟩ := hm
      · simp [rootDue, hr, hp, hm]
      · simp [rootDue, unenrolled, hr, hp, hm, hcert]
    have hlast := startJob_last .derive 0 0 (rootDrawn s.dev)
    have hfull : jobsFull (rootDrawn s.dev) = jobsFull s.dev := rfl
    rw [hfull] at hlast
    exact .of_when (b := fun _ => rootDue s) rfl hdue ⟨rfl, rfl, rfl, rfl, rfl, hlast,
      List.mem_append_right _ (List.mem_singleton_self _), .dev ((rootDrawn_only s.dev).then (startJob_only .derive 0 0 _))⟩
  case nonce =>
    exact .of_when (b := fun _ => s.clk.running && decide (s.dev.keys.nonceFrame + secs 600 ≤ s.clk.frame)) rfl
      (by simp [hr, secs, hn]) ⟨rfl, .dev (by simp [devOnly_iff, drawNonce])⟩

end

section
/-!
SUPPORT. The queues of the grid link and its transmissions (R341, R342, R344, R349, R352 to R355): what each operation does to a
queue, to the counters, to a neighbour and to a route.
-/

namespace Sys2Proof.Machine

/-! Queues and counters (R352, R354). -/

theorem setQueue_queue (g : Gplc) {q : Nat} (hq : q < g.queues.length) (l : List Packet) (k : Nat) :
    (g.setQueue q l).queue k = if k = q then l else g.queue k := by
  split
  · next h =>
    rw [h]
    exact nth_set_same [] hq l
  · next h => exact nth_set_other [] g.queues h l

/-- A queue that is emptied is empty, whether it stands in the table or not. -/
theorem dropQueue_queue (cause q : Nat) (g : Gplc) (k : Nat) : (dropQueue cause q g).queue k = if k = q then [] else g.queue k := by
  split
  · next h =>
    rw [h]
    show nth [] (g.queues.set q []) q = []
    by_cases hq : q < g.queues.length
    · exact nth_set_same [] hq []
    · rw [nth, List.getElem?_eq_none (by simpa using hq)]
      rfl
  · next h => exact nth_set_other [] g.queues h []

/-- No packet is left (R351, R355). -/
theorem dropAll_queue (cause : Nat) (g : Gplc) {q : Nat} (hq : q < 3) : (dropAll cause g).queue q = [] := by
  simp only [dropAll, dropQueue_queue]
  split_ifs with h2 h1 h0
  · rfl
  · rfl
  · rfl
  · omega

theorem dropQueue_eq (cause q : Nat) (g : Gplc) :
    ∃ queues counters, dropQueue cause q g = { g with queues := queues, counters := counters } := ⟨_, _, rfl⟩

/-- Beside queues and counters nothing of the grid link changes where its packets are dropped. -/
theorem dropAll_eq (cause : Nat) (g : Gplc) :
    ∃ queues counters, dropAll cause g = { g with queues := queues, counters := counters } := by
  obtain ⟨q0, c0, h0⟩ := dropQueue_eq cause 0 g
  obtain ⟨q1, c1, h1⟩ := dropQueue_eq cause 1 { g with queues := q0, counters := c0 }
  obtain ⟨q2, c2, h2⟩ := dropQueue_eq cause 2 { g with queues := q1, counters := c1 }
  exact ⟨q2, c2, by rw [dropAll, h0, h1, h2]⟩

theorem nth_modify_same {l : List Nat} {k : Nat} (h : k < l.length) (f : Nat → Nat) : nth 0 (l.modify k f) k = f (nth 0 l k) := by
  simp [nth, h]

theorem nth_modify_other (l : List Nat) {j k : Nat} (h : j ≠ k) (f : Nat → Nat) : nth 0 (l.modify k f) j = nth 0 l j := by
  simp [nth, Ne.symm h]

/-! A packet that meets its queue (R352). -/

theorem enqueue_other {q k : Nat} (h : k ≠ q) (p : Packet) (g : Gplc) : (enqueue q p g).queue k = g.queue k := by
  unfold enqueue
  split
  · exact nth_set_other [] g.queues h _
  · rfl

/-- A packet is counted as accepted or as rejected (R354). -/
theorem enqueue_count {q k : Nat} (h : k ≠ 8 * q) (h7 : k ≠ 8 * q + 7) (p : Packet) (g : Gplc) :
    nth 0 (enqueue q p g).counters k = nth 0 g.counters k := by
  unfold enqueue
  split
  · exact nth_modify_other g.counters h _
  · exact nth_modify_other g.counters h7 _

theorem enqueue_kept (q : Nat) (p : Packet) (g : Gplc) :
    (enqueue q p g).discovery = g.discovery ∧ (enqueue q p g).routes = g.routes := by
  unfold enqueue
  split
  · exact ⟨rfl, rfl⟩
  · exact ⟨rfl, rfl⟩

/-! A discovery (R344). -/

/-- A discovery has begun: its request is not yet queued. -/
def discoveryBegun (dest : Nat) (g : Gplc) : Gplc :=
  { g with
    discovery := g.discovery ++ [dest]
    routes := g.routes.map fun r => if r.dest = dest then { r with fresh := false } else r }

theorem discover_running {dest : Nat} {g : Gplc} (h : dest ∈ g.discovery) (n : Nat) : discover n dest g = g :=
  if_pos (by simpa using h)

theorem discover_new {dest : Nat} {g : Gplc} (h : dest ∉ g.discovery) (n : Nat) :
    discover n dest g = enqueue 1 ⟨.own, none, n, some 0⟩ (discoveryBegun dest g) := if_neg (by simpa using h)

/-- What a discovery leaves of queues, counters and routes. -/
structure Discovered (dest : Nat) (g h : Gplc) : Prop where
  others : ∀ k, k ≠ 1 → h.queue k = g.queue k
  count : ∀ k, k ≠ 8 → k ≠ 15 → nth 0 h.counters k = nth 0 g.counters k
  runs : dest ∈ h.discovery
  failed : (∀ r ∈ g.routes, r.dest = dest → r.failed = true) → ∀ r ∈ h.routes, r.dest = dest → r.failed = true

theorem discover_discovered (n dest : Nat) (g : Gplc) : Discovered dest g (discover n dest g) := by
  by_cases hd : dest ∈ g.discovery
  · rw [discover_running hd]
    exact ⟨fun _ _ => rfl, fun _ _ _ => rfl, hd, id⟩
  · obtain ⟨hdisc, hroutes⟩ := enqueue_kept 1 ⟨.own, none, n, some 0⟩ (discoveryBegun dest g)
    rw [discover_new hd]
    refine ⟨fun k hk => enqueue_other hk _ _, fun k h8 h15 => enqueue_count h8 h15 _ _, ?_, fun hall r hr hr' => ?_⟩
    · rw [hdisc]
      exact List.mem_append_right _ (List.mem_singleton_self _)
    · rw [hroutes] at hr
      obtain ⟨x, hx, rfl⟩ := List.mem_map.1 hr
      have hsame : x.dest = dest := by split at hr' <;> exact hr'
      split <;> exact hall x hx hsame

/-- The route to a destination has failed where every route to it has. -/
theorem route_failed {a : Nat} {g : Gplc} (h : ∀ r ∈ g.routes, r.dest = a → r.failed = true) :
    (g.route a).all Route.failed = true := by
  cases hr : g.route a with
  | none => rfl
  | some r => exact h r (List.mem_of_find?_eq_some hr) (by simpa using List.find?_some hr)

/-! Neighbours (R342). -/

theorem neighbour_onNeighbour {f : Neighbour → Neighbour} (hf : ∀ y, (f y).addr = y.addr) (a b : Nat) (g : Gplc) :
    (onNeighbour a f g).neighbour b = (g.neighbour b).map fun y => if y.addr = a then f y else y := by
  have hp : ((fun y : Neighbour => decide (y.addr = b)) ∘ fun y => if y.addr = a then f y else y) = fun y => decide (y.addr = b) := by
    funext y
    dsimp only [Function.comp]
    split
    · rw [hf]
    · rfl
  show List.find? _ (g.neighbours.map _) = _
  rw [List.find?_map, hp]
  rfl

/-- A neighbour's entry that is changed. -/
theorem neighbour_changed {f : Neighbour → Neighbour} (hf : ∀ y, (f y).addr = y.addr) {a : Nat} {g : Gplc} {y : Neighbour}
    (h : g.neighbour a = some y) : (onNeighbour a f g).neighbour a = some (f y) := by
  have ha : y.addr = a := by simpa using List.find?_some h
  rw [neighbour_onNeighbour hf, h, Option.map_some, if_pos ha]

/-! Transmissions (R340, R341, R346, R348, R349). -/

/-- The grid link without its neighbours and its latest transmission. -/
def Gplc.unsent (g : Gplc) : Gplc :=
  { g with neighbours := [], txLevel := 0, txFrames := 0, txMicros := 0, txMod := 0, txPhase := 0, txAsk := false }

/-- Transmissions change the neighbours, the latest transmission, and the log. -/
structure Transmits (d e : Dev) : Prop where
  only : DevOnly [.gplc, .log] d e
  unsent : e.gplc.unsent = d.gplc.unsent

theorem Transmits.refl (d : Dev) : Transmits d d := ⟨.refl _ d, rfl⟩

theorem Transmits.trans {d e f : Dev} (h : Transmits d e) (k : Transmits e f) : Transmits d f :=
  ⟨h.only.trans k.only, k.unsent.trans h.unsent⟩

/-- Extended interleaving starts or stops for a neighbour: of the grid link nothing else changes (R348). -/
theorem extStep_leaves (a : Nat) (d : Dev) : DevOnly [.gplc, .log] d (extStep a d) ∧
    ∃ f : Neighbour → Neighbour, (∀ y, (f y).addr = y.addr ∧ (f y).tx = y.tx ∧ (f y).asked = y.asked) ∧
      (extStep a d).gplc = onNeighbour a f d.gplc := by
  have hsame : d.gplc = onNeighbour a id d.gplc := by simp [onNeighbour]
  unfold extStep
  split
  · split
    · exact ⟨.refl _ d, id, fun _ => ⟨rfl, rfl, rfl⟩, hsame⟩
    · next x _ _ =>
      exact ⟨by simp [devOnly_iff], fun y => { y with extInUse := extWanted d y, txMode := 0 }, fun _ => ⟨rfl, rfl, rfl⟩, rfl⟩
  · exact ⟨.refl _ d, id, fun _ => ⟨rfl, rfl, rfl⟩, hsame⟩

/-- The latest transmission, to a neighbour or by broadcast (R341, R346, R349). -/
def frameSent (n : Nat) (peer : Option Neighbour) (x : Sent) (d : Dev) : Dev :=
  { d with gplc := { d.gplc with
    txLevel := transmitLevel d, txFrames := if peer.any Neighbour.extInUse then x.phy else 1
    txMicros := sentMicros d (peer.any Neighbour.extInUse) x, txMod := modulationTo peer
    txPhase := phaseCounter n x.preUs d, txAsk := peer.any Neighbour.asked } }

/-- A neighbour's entry learns how a transmission ended (R342). -/
def sentTo (ok : Bool) (y : Neighbour) : Neighbour := { transmitted ok y with asked := false }

theorem sendDone_to (n a : Nat) (d : Dev) (x : Sent) : sendDone n (some a) d x =
    extStep a { frameSent n (d.gplc.neighbour a) x d with
      gplc := onNeighbour a (sentTo x.acked) (frameSent n (d.gplc.neighbour a) x d).gplc } := rfl

theorem sendDone_transmits (n : Nat) (hop : Option Nat) (d : Dev) (x : Sent) : Transmits d (sendDone n hop d x) := by
  cases hop with
  | none => exact ⟨by simp [devOnly_iff, sendDone], rfl⟩
  | some a =>
    rw [sendDone_to]
    obtain ⟨honly, f, -, hgplc⟩ := extStep_leaves a { frameSent n (d.gplc.neighbour a) x d with
      gplc := onNeighbour a (sentTo x.acked) (frameSent n (d.gplc.neighbour a) x d).gplc }
    refine ⟨DevOnly.then (ps := [.gplc]) (by simp [devOnly_iff, frameSent]) honly, ?_⟩
    rw [hgplc]
    rfl

/-- A transmission to a neighbour goes at the transmit level, in the neighbour's modulation, as a train padded to a mains period
where extended interleaving is in use, and is entered with the neighbour (R341, R342, R349). -/
theorem sendDone_neighbour {a : Nat} {d : Dev} {y : Neighbour} (h : d.gplc.neighbour a = some y) (n : Nat) (x : Sent) :
    (sendDone n (some a) d x).gplc.txLevel = transmitLevel d ∧
      (sendDone n (some a) d x).gplc.txMod = modulationTo (some y) ∧
      (sendDone n (some a) d x).gplc.txFrames = (if y.extInUse then x.phy else 1) ∧
      (sendDone n (some a) d x).gplc.txMicros = (if y.extInUse then max x.us (mainsPeriod d) else x.us) ∧
      ((sendDone n (some a) d x).gplc.neighbour a).map (fun z => (z.tx, z.asked)) =
        some ((x.acked :: y.tx).take 32, false) := by
  have hsent : (onNeighbour a (sentTo x.acked) (frameSent n (some y) x d).gplc).neighbour a = some (sentTo x.acked y) :=
    neighbour_changed (f := sentTo x.acked) (fun _ => rfl) h
  rw [sendDone_to, h]
  obtain ⟨-, f, hf, hgplc⟩ := extStep_leaves a { frameSent n (some y) x d with
    gplc := onNeighbour a (sentTo x.acked) (frameSent n (some y) x d).gplc }
  rw [hgplc]
  refine ⟨rfl, rfl, rfl, rfl, ?_⟩
  rw [neighbour_changed (fun z => (hf z).1) hsent, Option.map_some, (hf _).2.1, (hf _).2.2]
  rfl

theorem hopDone_transmits (n : Nat) (sends : List Sent) (p : Packet) (d : Dev) : Transmits d (hopDone n sends p d) := by
  have hfold : ∀ (xs : List Sent) (e : Dev), Transmits e (xs.foldl (sendDone n (packetHop d.gplc p)) e) := by
    intro xs
    induction xs with
    | nil => exact Transmits.refl
    | cons x xs ih => exact fun e => (sendDone_transmits n _ e x).trans (ih _)
  unfold hopDone
  split
  · exact .refl d
  · exact hfold sends d

/-- A packet of one transmission to a next hop (R353). -/
theorem hopDone_single {p : Packet} {d : Dev} {a : Nat} (h : packetHop d.gplc p = some a) (n : Nat) (x : Sent) :
    hopDone n [x] p d = sendDone n (some a) d x := by
  rw [hopDone, if_neg (by simp [h]), h]
  rfl

end Sys2Proof.Machine

end

section
/-!
PROOF. The modem, its queues and the last gasp (R341, R342, R344, R349, R351 to R355).
-/

namespace Sys2Proof.Machine

/-! The last gasp (R355). -/

/-- An abandoned last gasp: of the grid link its state alone. -/
theorem abandonGasp_gplc (n : Nat) (d : Dev) :
    (abandonGasp n d).gplc = { d.gplc with gasp := if d.gplc.gasp = 1 then 3 else d.gplc.gasp } := by
  unfold abandonGasp
  split
  · rfl
  · rfl

/-- The abandoned last gasp is logged and handed to the host. -/
theorem abandonGasp_queued {d : Dev} (h : d.gplc.gasp = 1) (n : Nat) :
    Ev.of Src.grid Event.LAST_GASP_ABANDONED [] ∈ (abandonGasp n d).log.now ∧
      Ev.of Src.own Event.LAST_GASP (leBytes 8 n ++ leBytes 4 d.tar.rtc) ∈ (abandonGasp n d).log.now ∧
      (abandonGasp n d).win.shadow.irqSet.getLsbD 7 = true := by
  rw [abandonGasp, if_pos h]
  refine ⟨by simp [hostGasp], by simp [hostGasp], ?_⟩
  exact (BitVec.getLsbD_or ..).trans (Bool.or_true _)

/-- The last gasp leaves its queue, which holds no other. -/
theorem takeGasp_queue (j : Nat) {g : Gplc} (h : g.queues.length = 3) : ∀ p ∈ (takeGasp j g).queue 0, p.kind ≠ .gasp := by
  unfold takeGasp
  split
  · intro p hp
    have hq : (g.setQueue 0 ((g.queue 0).filter fun p => !isGasp p)).queue 0 = (g.queue 0).filter fun p => !isGasp p :=
      (setQueue_queue g (by omega) _ 0).trans (if_pos rfl)
    have hp' : p ∈ (g.queue 0).filter fun p => !isGasp p := hq ▸ hp
    simpa [isGasp] using (List.mem_filter.1 hp').2
  · next hnone =>
    intro p hp hk
    exact hnone (List.any_eq_true.2 ⟨p, hp, by simp [isGasp, hk]⟩)

theorem takeGasp_gasp (j : Nat) (g : Gplc) : (takeGasp j g).gasp = g.gasp := by
  unfold takeGasp
  split
  · rfl
  · rfl

theorem gaspTimeout_only (n : Nat) (d : Dev) : DevOnly [.gplc, .log, .win] d (gaspTimeout n d) :=
  DevOnly.then (ps := [.gplc]) (by simp [devOnly_iff]) (abandonGasp_only n { d with gplc := takeGasp 4 d.gplc })

/-- The modem is shed, and the packets that wait are dropped for HOLD (R355). -/
def shedModem (d : Dev) : Dev := { d with gplc := dropAll 5 d.gplc, pow := { d.pow with modemShed := true } }

theorem modemShedEff_eq (n : Nat) (d : Dev) :
    modemShedEff n d = shedModem (if d.gplc.gasp = 1 then gaspTimeout n d else d) := rfl

theorem dropAll_gasp (cause : Nat) (g : Gplc) : (dropAll cause g).gasp = g.gasp := by
  obtain ⟨queues, counters, h⟩ := dropAll_eq cause g
  rw [h]

/-! The modem (R351). -/

/-- A reset empties the queues, and abandons a last gasp that waits. -/
theorem modemDropped_gplc (n : Nat) (d : Dev) : (∀ q < 3, (modemDropped n d).gplc.queue q = []) ∧
    ∃ queues counters, (modemDropped n d).gplc =
      { d.gplc with queues := queues, counters := counters, gasp := if d.gplc.gasp = 1 then 3 else d.gplc.gasp } := by
  obtain ⟨qs, cs, h⟩ := dropAll_eq 6 d.gplc
  have hqueue (q : Nat) (hq : q < 3) := dropAll_queue 6 d.gplc hq
  rw [h] at hqueue
  rw [modemDropped, abandonGasp_gplc, h]
  exact ⟨hqueue, qs, cs, rfl⟩

/-- The resets of the hour before frame n. -/
def resetsKept (n : Nat) (g : Gplc) : List Nat := g.resets.filter fun f => decide (n < f + secs 3600)

theorem resetsKept_hour (n : Nat) (g : Gplc) : (g.resets.filter fun f => n < f + 28800000) = resetsKept n g := by
  refine List.filter_congr fun f _ => decide_eq_decide.2 ?_
  unfold secs
  omega

theorem resetCounted_fault {n : Nat} {d : Dev} (h : 3 ≤ (resetsKept n d.gplc).length) : resetCounted n d =
    ({ d with gplc := { d.gplc with resets := n :: resetsKept n d.gplc, st := 3, faultSince := n } }).raise Src.grid
      Event.GPLC_MODEM_FAULT [] := if_pos (Nat.lt_succ_of_le h)

theorem resetCounted_up {n : Nat} {d : Dev} (h : (resetsKept n d.gplc).length < 3) : resetCounted n d =
    { d with gplc := { d.gplc with resets := n :: resetsKept n d.gplc } } := if_neg (Nat.not_lt.2 h)

/-! A packet that is delivered (R353). -/

/-- The head of queue q has left it, counted at place j. -/
def headTaken (q j : Nat) (rest : List Packet) (d : Dev) : Dev := { d with gplc := countQ q j 1 (d.gplc.setQueue q rest) }

/-- What is left when the head of queue q has left it and its transmissions have ended. -/
structure HeadSent (q j : Nat) (rest : List Packet) (d e : Dev) : Prop where
  only : DevOnly [.gplc, .log] d e
  queue : ∀ k, e.gplc.queue k = if k = q then rest else d.gplc.queue k
  length : e.gplc.queues.length = d.gplc.queues.length
  counters : e.gplc.counters = d.gplc.counters.modify (8 * q + j) (· + 1)
  routes : e.gplc.routes = d.gplc.routes
  discovery : e.gplc.discovery = d.gplc.discovery

theorem headTaken_sent {q : Nat} {d e : Dev} {j : Nat} {rest : List Packet} (hq : q < d.gplc.queues.length)
    (h : Transmits (headTaken q j rest d) e) : HeadSent q j rest d e := by
  obtain ⟨honly, hunsent⟩ := h
  have htaken : DevOnly [.gplc] d (headTaken q j rest d) := by simp [devOnly_iff, headTaken]
  exact ⟨htaken.then honly, fun k => (congrArg (fun g => g.queue k) hunsent).trans (setQueue_queue d.gplc hq rest k),
    (congrArg (fun g => g.queues.length) hunsent).trans List.length_set, congrArg Gplc.counters hunsent,
    congrArg (fun g => g.routes) hunsent, congrArg (fun g => g.discovery) hunsent⟩

/-- A delivered packet refreshes its route, and the coordinator's presence where it went there (R344, R350). -/
def routeServed (n : Nat) (p : Packet) (d : Dev) : Dev :=
  let g := if toCoordinator d.gplc p then coordHeard n d else d.gplc
  { d with gplc := { g with
      routes := d.gplc.routes.map fun r => if some r.dest = p.dest then { r with lastUse := n, fresh := false } else r } }

theorem deliverEff_eq {q : Nat} {p : Packet} {rest : List Packet} {d : Dev} (hq : d.gplc.queue q = p :: rest)
    (hp : p.kind ≠ .gasp) (n : Nat) (sends : List Sent) :
    deliverEff n q sends d = routeServed n p (hopDone n sends p (headTaken q 1 rest d)) := by
  unfold deliverEff
  rw [hq]
  exact if_neg (by simp [isGasp, hp])

/-- Beside routes and the coordinator's latest frame nothing of the grid link changes. -/
theorem routeServed_gplc (n : Nat) (p : Packet) (d : Dev) : ∃ lastCoord lastCoordRtc routes,
    (routeServed n p d).gplc = { d.gplc with lastCoord := lastCoord, lastCoordRtc := lastCoordRtc, routes := routes } ∧
      (p.dest ≠ none → (coordRoute d.gplc).map Route.dest = p.dest → lastCoord = n) := by
  unfold routeServed
  dsimp only
  split
  · exact ⟨_, _, _, rfl, fun _ _ => rfl⟩
  · next h => exact ⟨_, _, _, rfl, fun hd hc => absurd (by simp [toCoordinator, Option.isSome_iff_ne_none.2 hd, hc]) h⟩

theorem routeServed_only (n : Nat) (p : Packet) (d : Dev) : DevOnly [.gplc] d (routeServed n p d) := by
  simp [devOnly_iff, routeServed]

/-! A packet that is dropped (R344, R353). -/

/-- A last gasp that is dropped is abandoned. -/
def gaspGiven (n : Nat) (p : Packet) (d : Dev) : Dev := if isGasp p then abandonGasp n d else d

theorem gaspGiven_leaves (n : Nat) (p : Packet) (d : Dev) : DevOnly [.gplc, .log, .win] d (gaspGiven n p d) ∧
    ∃ k, (gaspGiven n p d).gplc = { d.gplc with gasp := k } := by
  unfold gaspGiven
  split
  · exact ⟨abandonGasp_only n d, _, abandonGasp_gplc n d⟩
  · exact ⟨.refl _ d, _, rfl⟩

/-- The discovery of a destination has failed (R344). -/
def discoveryFailed (a : Nat) (d : Dev) : Dev := { d with gplc := { d.gplc with discovery := d.gplc.discovery.filter (· ≠ a) } }

/-- Every route to a destination fails. -/
def failRoutes (a : Nat) (g : Gplc) : Gplc :=
  { g with routes := g.routes.map fun r => if r.dest = a then { r with failed := true } else r }

/-- The route to a destination has failed and is sought again (R344). -/
def routeSought (n a : Nat) (d : Dev) : Dev := { d with gplc := discover n a (failRoutes a d.gplc) }

theorem failRoutes_failed (a : Nat) (g : Gplc) : ∀ r ∈ (failRoutes a g).routes, r.dest = a → r.failed = true := by
  intro r hr ha
  obtain ⟨x, -, rfl⟩ := List.mem_map.1 hr
  split at ha
  · next h => rw [if_pos h]
  · next h => exact absurd ha h

theorem dropEff_noRoute {q : Nat} {p : Packet} {rest : List Packet} {d : Dev} (hq : d.gplc.queue q = p :: rest) (n : Nat)
    (sends : List Sent) : dropEff n q true sends d = gaspGiven n p
      (p.dest.elim (headTaken q 3 rest d) fun a => discoveryFailed a (headTaken q 3 rest d)) := by
  unfold dropEff
  rw [hq]
  dsimp only
  cases p.dest <;> rfl

theorem dropEff_retries {q : Nat} {p : Packet} {rest : List Packet} {d : Dev} (hq : d.gplc.queue q = p :: rest) (n : Nat)
    (sends : List Sent) : dropEff n q false sends d = gaspGiven n p
      (p.dest.elim (hopDone n sends p (headTaken q 2 rest d)) fun a =>
        routeSought n a (hopDone n sends p (headTaken q 2 rest d))) := by
  unfold dropEff
  rw [hq]
  dsimp only
  cases p.dest <;> rfl

/-- A packet dropped for want of a route leaves its queue, and its destination's discovery is over (R344). -/
theorem noRoute_leaves {q : Nat} {rest : List Packet} {d : Dev} (hq : q < d.gplc.queues.length) (p : Packet) :
    ∃ e disc, HeadSent q 3 rest d e ∧
      p.dest.elim (headTaken q 3 rest d) (fun a => discoveryFailed a (headTaken q 3 rest d)) =
        { e with gplc := { e.gplc with discovery := disc } } ∧ ∀ a, p.dest = some a → a ∉ disc := by
  refine ⟨headTaken q 3 rest d, p.dest.elim d.gplc.discovery fun a => d.gplc.discovery.filter (· ≠ a),
    headTaken_sent hq (.refl _), ?_, fun a ha => ?_⟩
  · cases p.dest <;> rfl
  · rw [ha]
    simp

/-- What the failed retries of a packet to a destination leave: its route has failed and is sought (R344). -/
structure RouteSought (n a : Nat) (d e : Dev) : Prop where
  only : DevOnly [.gplc] d e
  others : ∀ k, k ≠ 1 → e.gplc.queue k = d.gplc.queue k
  count : ∀ k, k ≠ 8 → k ≠ 15 → nth 0 e.gplc.counters k = nth 0 d.gplc.counters k
  runs : a ∈ e.gplc.discovery
  failed : (e.gplc.route a).all Route.failed = true
  asked : a ∉ d.gplc.discovery → 1 < d.gplc.queues.length → (d.gplc.queue 1).length < 32 →
    e.gplc.queue 1 = d.gplc.queue 1 ++ [⟨.own, none, n, some 0⟩]

theorem routeSought_sought (n a : Nat) (d : Dev) : RouteSought n a d (routeSought n a d) := by
  obtain ⟨hothers, hcount, hruns, hfailed⟩ := discover_discovered n a (failRoutes a d.gplc)
  refine ⟨by simp [devOnly_iff, routeSought], hothers, hcount, hruns, route_failed (hfailed (failRoutes_failed a d.gplc)),
    fun ha hlen hroom => ?_⟩
  have hnew : a ∉ (failRoutes a d.gplc).discovery := ha
  rw [routeSought, discover_new hnew]
  exact enqueue_queue (g := discoveryBegun a (failRoutes a d.gplc)) hlen hroom _

end Sys2Proof.Machine

open Sys2Proof Sys2Proof.Machine

/-- Settles O55: each row by the operations that it makes on queue, counters, neighbour and route in turn. -/
theorem gplcQueueRows : Obligations.GplcQueueRows := by
  unfold Obligations.GplcQueueRows
  refine ⟨fun frames s hr hm h80 => ?miss, fun s hst hday => ?retry, fun q p rest sends s hr hm hserved hq h3 h27 => ?packet,
    fun q p s hq h3 hfind => ?timeout, fun s hr hdue => ?sent, fun airUs s hr hg hlate => ?abandoned,
    fun s hr hdue => ?shed⟩
  case miss =>
    refine .of_when (b := fun _ => s.clk.running && modemUp s.dev && decide (80 ≤ frames)) rfl (by simp [hr, hm, h80]) ?_
    obtain ⟨hqueues, queues, counters, hgplc⟩ := modemDropped_gplc s.clk.frame s.dev
    have honly := modemReset_only s.clk.frame s.dev
    rw [resetsKept_hour, State.onDev, modemReset_eq]
    rw [modemReset_eq] at honly
    have hkept : resetsKept s.clk.frame (modemDropped s.clk.frame s.dev).gplc = resetsKept s.clk.frame s.dev.gplc := by
      rw [hgplc]
      rfl
    have hgasp : s.dev.gplc.gasp = 1 → (modemDropped s.clk.frame s.dev).gplc.gasp = 3 := fun h => by
      rw [hgplc]
      exact if_pos h
    have hst : (modemDropped s.clk.frame s.dev).gplc.st = s.dev.gplc.st := by rw [hgplc]
    obtain hfew | hmany := Nat.lt_or_ge (resetsKept s.clk.frame s.dev.gplc).length 3
    · rw [resetCounted_up (by rwa [hkept])] at honly ⊢
      exact ⟨hqueues, List.mem_cons_self, fun h => absurd hfew (Nat.not_lt.2 h), fun _ => hst, hgasp, .dev honly⟩
    · rw [resetCounted_fault (by rwa [hkept])] at honly ⊢
      exact ⟨hqueues, List.mem_cons_self, fun _ => ⟨rfl, rfl, List.mem_append_right _ (List.mem_singleton_self _)⟩,
        fun h => absurd h (Nat.not_lt.2 hmany), hgasp, .dev honly⟩
  case retry =>
    refine .of_when (b := fun _ => decide (s.dev.gplc.faultSince + dayFrames ≤ s.clk.frame)) rfl (by simp [hday]) ?_
    rw [State.onDev, modemRetry, if_pos hst]
    exact ⟨rfl, .dev (by simp [devOnly_iff])⟩
  case packet =>
    have hq3 : q < 3 := by
      simp only [queueServed, Bool.and_eq_true, decide_eq_true_eq] at hserved
      exact hserved.1.1.1
    have hlen : q < s.dev.gplc.queues.length := by omega
    refine ⟨fun hk hroute hc => ?delivered, fun hc => ?noRoute, fun hroute hc => ?retries⟩
    case delivered =>
      refine .of_protoWhen (b := fun _ => s.clk.running && modemUp s.dev && queueServed s.clk.frame q s.dev && routeUsable q s.dev)
        hc rfl (by simp [hr, hm, hserved, hroute]) ?_
      have hsends := hopDone_transmits s.clk.frame sends p (headTaken q 1 rest s.dev)
      obtain ⟨honly, hqueue, -, hcounters, hroutes, -⟩ := headTaken_sent hlen hsends
      obtain ⟨lastCoord, lastCoordRtc, routes, hgplc, hcoord⟩ :=
        routeServed_gplc s.clk.frame p (hopDone s.clk.frame sends p (headTaken q 1 rest s.dev))
      have hserve := routeServed_only s.clk.frame p (hopDone s.clk.frame sends p (headTaken q 1 rest s.dev))
      rw [State.onDev, deliverEff_eq hq hk, hgplc]
      refine ⟨(hqueue q).trans (if_pos rfl), fun k _ hkq => (hqueue k).trans (if_neg hkq), hcounters, fun hd hcr => hcoord hd ?_,
        fun a ha y hy x _ hx => ?_, .dev (honly.then hserve)⟩
      · rw [coordRoute, hroutes]
        exact hcr
      · subst hx
        have hpeer : (headTaken q 1 rest s.dev).gplc.neighbour a = some y := hy
        have hhop : packetHop (headTaken q 1 rest s.dev).gplc p = some a := ha
        rw [hopDone_single hhop]
        exact sendDone_neighbour hpeer s.clk.frame x
    case noRoute =>
      refine .of_protoWhen (b := fun _ => s.clk.running && modemUp s.dev && queueServed s.clk.frame q s.dev &&
        (true || routeUsable q s.dev)) hc rfl (by simp [hr, hm, hserved]) ?_
      obtain ⟨e, disc, ⟨honly, hqueue, -, hcounters, -, -⟩, heq, hdisc⟩ := noRoute_leaves (rest := rest) hlen p
      obtain ⟨hgasp, k, hgplc⟩ := gaspGiven_leaves s.clk.frame p { e with gplc := { e.gplc with discovery := disc } }
      rw [State.onDev, dropEff_noRoute hq, heq, hgplc]
      have hdropped : DevOnly [.gplc, .log] s.dev { e with gplc := { e.gplc with discovery := disc } } :=
        honly.then (qs := [.gplc]) (by simp [devOnly_iff])
      exact ⟨(hqueue q).trans (if_pos rfl), fun j _ hjq => (hqueue j).trans (if_neg hjq), hcounters, hdisc,
        .dev (hdropped.then hgasp)⟩
    case retries =>
      refine .of_protoWhen (b := fun _ => s.clk.running && modemUp s.dev && queueServed s.clk.frame q s.dev &&
        (false || routeUsable q s.dev)) hc rfl (by simp [hr, hm, hserved, hroute]) ?_
      have hsends := hopDone_transmits s.clk.frame sends p (headTaken q 2 rest s.dev)
      obtain ⟨honly, hqueue, hlength, hcounters, -, hdisc⟩ := headTaken_sent hlen hsends
      have hcounted : nth 0 (hopDone s.clk.frame sends p (headTaken q 2 rest s.dev)).gplc.counters (8 * q + 2) =
          nth 0 s.dev.gplc.counters (8 * q + 2) + 1 := by
        rw [hcounters, nth_modify_same (by omega)]
      rw [State.onDev, dropEff_retries hq]
      generalize hopDone s.clk.frame sends p (headTaken q 2 rest s.dev) = e at honly hqueue hlength hdisc hcounted
      cases hdest : p.dest with
      | none =>
        obtain ⟨hgasp, k, hgplc⟩ := gaspGiven_leaves s.clk.frame p e
        rw [Option.elim_none, hgplc]
        refine ⟨fun j _ _ => hqueue j, hcounted, fun _ => ⟨(hqueue 1).trans ?_, hdisc⟩,
          fun a ha => absurd ha (Option.some_ne_none a).symm, .dev (honly.then hgasp)⟩
        exact if_congr eq_comm rfl rfl
      | some a =>
        obtain ⟨hsoughtOnly, hothers, hcount, hruns, hfailed, hasked⟩ := routeSought_sought s.clk.frame a e
        obtain ⟨hgasp, k, hgplc⟩ := gaspGiven_leaves s.clk.frame p (routeSought s.clk.frame a e)
        rw [Option.elim_some, hgplc]
        refine ⟨fun j _ hj1 => (hothers j hj1).trans (hqueue j), (hcount _ (by omega) (by omega)).trans hcounted,
          fun h => absurd h (Option.some_ne_none a), fun b hb => ?_, .dev ((honly.then hsoughtOnly (rs := [.gplc, .log])).then hgasp)⟩
        obtain rfl := Option.some.inj hb
        refine ⟨hruns, hfailed, fun hnew hroom => ?_⟩
        have hqueue1 : e.gplc.queue 1 = if q = 1 then rest else s.dev.gplc.queue 1 :=
          (hqueue 1).trans (if_congr eq_comm rfl rfl)
        rw [← hqueue1]
        refine hasked (by rwa [hdisc]) (by omega) ?_
        rw [hqueue1]
        split
        · next h1 =>
          rw [h1] at hq
          rw [hq] at hroom
          exact Nat.lt_of_succ_lt hroom
        · exact hroom
  case timeout =>
    refine .of_when (b := fun _ => decide (q < 3)) rfl (by simp [hq]) ?_
    have hfind' : (s.dev.gplc.queue q).find? (fun p => !isGasp p && decide (p.at_ + queueLimit q ≤ s.clk.frame)) = some p := by
      simpa [isGasp] using hfind
    rw [State.onDev, timeoutEff, hfind']
    exact ⟨(setQueue_queue s.dev.gplc (by omega) _ q).trans (if_pos rfl), rfl, .dev (by simp [devOnly_iff])⟩
  case sent =>
    refine .of_when (b := fun _ => s.clk.running && gaspSentDue s.clk.frame s.dev) rfl (by simp [hr, hdue])
      ⟨rfl, rfl, fun h3 => takeGasp_queue 1 ?_, .dev (by simp [devOnly_iff, gaspSent])⟩
    cases gaspHop s.dev with
    | none => exact h3
    | some a => exact h3
  case abandoned =>
    have hgasp : (takeGasp 4 s.dev.gplc).gasp = 1 := (takeGasp_gasp 4 s.dev.gplc).trans hg
    obtain ⟨hlog, hhost, hirq⟩ := abandonGasp_queued (d := { s.dev with gplc := takeGasp 4 s.dev.gplc }) hgasp s.clk.frame
    have hgplc := abandonGasp_gplc s.clk.frame { s.dev with gplc := takeGasp 4 s.dev.gplc }
    refine .of_when (b := fun _ => s.clk.running && gaspLate s.clk.frame airUs s.dev) rfl (by simp [hr, gaspLate, hg, hlate])
      ⟨?_, hlog, hhost, hirq, fun h3 => ?_, .dev (gaspTimeout_only s.clk.frame s.dev)⟩
    · rw [State.onDev, gaspTimeout, hgplc]
      exact if_pos hgasp
    · rw [State.onDev, gaspTimeout, hgplc]
      exact takeGasp_queue 4 h3
  case shed =>
    refine .of_when (b := fun _ => s.clk.running && modemShedDue s.clk.frame s.dev) rfl (by simp [hr, hdue]) ?_
    have hshed (d : Dev) : DevOnly [.gplc, .pow] d (shedModem d) := by simp [devOnly_iff, shedModem]
    rw [State.onDev, modemShedEff_eq]
    by_cases hg : s.dev.gplc.gasp = 1
    · have hgasp : (takeGasp 4 s.dev.gplc).gasp = 1 := (takeGasp_gasp 4 s.dev.gplc).trans hg
      obtain ⟨hlog, -, -⟩ := abandonGasp_queued (d := { s.dev with gplc := takeGasp 4 s.dev.gplc }) hgasp s.clk.frame
      have honly := gaspTimeout_only s.clk.frame s.dev
      have hthree : (gaspTimeout s.clk.frame s.dev).gplc.gasp = 3 := by
        rw [gaspTimeout, abandonGasp_gplc]
        exact if_pos hgasp
      rw [if_pos hg]
      refine ⟨?_, fun q hq => dropAll_queue 5 _ hq, fun _ => ⟨(dropAll_gasp 5 _).trans hthree, hlog⟩, fun h => absurd hg h,
        .dev (honly.then (hshed _))⟩
      exact congrArg (fun x : Power => { x with modemShed := true }) (honly .pow (by decide))
    · rw [if_neg hg]
      exact ⟨rfl, fun q hq => dropAll_queue 5 _ hq, fun h => absurd h hg, fun _ => ⟨dropAll_gasp 5 _, rfl⟩,
        .dev ((hshed s.dev).mono (by decide))⟩

end
